-- ==== Sys2Proof/Word.lean ====
section
/-! DEFINITION. Word.lean: the words of the model: the widths the spec gives registers, positions, lines and times
(spec/02 R33 to R38, R42, R61). -/

namespace Sys2Proof

/-- A 32-bit register or table word (R42). -/
abbrev Word := BitVec 32

/-- A 64-bit record word (R61). -/
abbrev DWord := BitVec 64

/-- One byte. -/
abbrev Byte := BitVec 8

/-- A line number, 40 bits, wrapping (R13, R35). -/
abbrev LineNo := BitVec 40

/-- A web position in micrometres, 40 bits, wrapping (R34). -/
abbrev YPos := BitVec 40

/-- A tick time in units of 2^-16 ns, 64 bits, wrapping (R37). -/
abbrev Tick := BitVec 64

/-- A roller phase in units of 1/65,536 revolution (R36). -/
abbrev Phase := BitVec 16

/-- A fabric address of 12 bits; 0 means none (R455). -/
abbrev FabAddr := BitVec 12

/-- An object identifier of 40 bits (R234). -/
abbrev Oid := BitVec 40

end Sys2Proof
end

