-- ==== Sys2Proof/Syntax.lean ====
section
/-! DEFINITION. Syntax.lean: the commands and events the block takes from outside, one constructor of Instr for each row
of spec/opcode_table.json, and the data they carry. -/

namespace Sys2Proof

/-- The latency classes of R61. -/
inductive LClass where
  | cue | routine | bulk
  deriving DecidableEq, Repr

/-- The requesters that hold a pair snapshot and a pair stage of their own (R49). -/
inductive Requester where
  | housekeeping | management | dmaMirror
  deriving DecidableEq, Repr

/-- How a DRAM read returns through ECC (R373). -/
inductive ReadOutcome where
  | clean | corrected | uncorrectable
  deriving DecidableEq, Repr

/-- The stages that cross a strip boundary for a head (R22, R23). -/
inductive Stage where
  | cor | awf | seg | arc | sti
  deriving DecidableEq, Repr

/-- The wake sources of R508. -/
inductive WakeSource where
  | task | lane | pin
  deriving DecidableEq, Repr

/-- A fabric packet (R447, R448): destination, virtual channel, packet type and data words. -/
structure Packet where
  dst : FabAddr
  vc : Nat
  ptype : Nat
  words : List DWord
  deriving DecidableEq, Repr

/-- One entry of an image's section table (R489): the fields, whether its reserved bytes are all 0, the section's data
as it stands in the flash, and the SHA-512 that the hash engine forms over the data in pass 1. -/
structure Section where
  target : Word
  kind : Nat
  offset : Nat
  len : Nat
  reservedZero : Bool
  digest : BitVec 512
  data : List Byte
  hash : BitVec 512
  deriving DecidableEq, Repr

/-- What pass 1 reads of a slot (R488 to R492): the playbill words, the public key, the section table, and what the hash
and signature engines find: KEYHASH, the hash of the signed bytes, and whether the signature verifies. -/
structure ImageRead where
  playbill : List DWord
  modulus : List Byte
  exponent : Nat
  headZero : Bool
  sections : List Section
  keyHash : BitVec 512
  signedHash : BitVec 512
  sigOk : Bool
  deriving DecidableEq, Repr

/-- A PTP message as the MAC hands it on (R437 to R439): source port identity, sequence, the message's own timestamp in
ticks, correctionField in ticks, the two-step flag, whether it is a peer-delay message or a Follow_Up of one, and the
tick time at which the MAC stamped it. -/
structure PtpMsg where
  clock : DWord
  port : BitVec 16
  domain : Byte
  seqId : BitVec 16
  stamp : Tick
  corr : Int
  twoStep : Bool
  peer : Bool
  followUp : Bool
  rx : Tick
  deriving DecidableEq, Repr


/-- The commands and events of spec/opcode_table.json, one constructor for each row, in the table's order. -/
inductive Instr where
  /-- RESET_N_ASSERT (R485): RESET_N is accepted low and resets every part of the device except the keep domain. -/
  | resetNAssert (samples : BitVec 4)
  /-- RESET_N_RELEASE (R485): RESET_N is accepted high and the LOAD sequence starts: fuses are read, PLLs lock, and the slot 0 playbill and key are read. -/
  | resetNRelease (samples : BitVec 4)
  /-- KEEP_DOMAIN_POWER_LOSS (R485): VKEEP falls below the supervisor threshold and the whole volatile part of the keep domain resets together. -/
  | keepDomainPowerLoss
  /-- KEEP_DOMAIN_POWER_ON (R530): VKEEP rises after an absence; the keep domain powers on with MVALID, LOFS and the callboard cleared. -/
  | keepDomainPowerOn
  /-- IMAGE_PASS1_DONE (R492): Pass 1 of a slot has been read; the format, key, digest, signature and rollback checks pass, or the slot fails with the first reason that holds. -/
  | imagePass1Done (img : ImageRead)
  /-- FLASH_NO_ANSWER (R494): The flash gives no answer within 1 ms of a command, so the slot is treated as blank. -/
  | flashNoAnswer
  /-- IMAGE_PASS2_SECTION (R492): In pass 2 a section is hashed again and applied when its digest matches; a mismatch sends the device to DARK with reason CHANGED. -/
  | imagePass2Section (hash : BitVec 512)
  /-- IDENTITY_KEY_READY (R499): Background generation of the RSA identity key completes; the key is sealed and ID_READY is set. -/
  | identityKeyReady
  /-- TRAINING_STEP_FAIL (R495): A DRAM training step fails; the set point is retrained up to 3 times, after which LOAD stalls. -/
  | trainingStepFail (fsp : Fin 2) (rank : Fin 17) (step : Fin 16)
  /-- LOAD_STALL_RETRY (R495): While LOAD is stalled, DRAM training is retried once every second. -/
  | loadStallRetry (dt : Nat)
  /-- ROLLBACK_FUSE_BLOWN (R498): A rollback fuse bit has been blown at step 8 of LOAD and is counted. -/
  | rollbackFuseBlown
  /-- LOAD_END (R502): LOAD ends into REHEARSE or HOLD, depending on the speed, and every archive index entry is cleared. -/
  | loadEnd
  /-- HOLD_REQUEST (R503): A HOLD request by GLB_CTRL.HOLD starts the drain toward HOLD, or is refused. -/
  | holdRequest
  /-- RESUME_REQUEST (R503): A resume request leaves HOLD for REHEARSE or PERFORM, or is refused. -/
  | resumeRequest
  /-- STANDBY_REQUEST (R503): A STANDBY request from HOLD starts STANDBY entry, or is refused. -/
  | standbyRequest
  /-- RELOAD_REQUEST (R503): GLB_CTRL.RELOAD freezes the mirror and enters LOAD. -/
  | reloadRequest
  /-- REHEARSAL_OWED_REQUEST (R503): GLB_CTRL.REH sets REH_OWED for the next resume. -/
  | rehearsalOwedRequest
  /-- HOLD_DRAIN_DONE (R504): The last cued lines have completed or timed out and every stage has passed them, so GLB_MODE becomes HOLD and MEM may change set point. -/
  | holdDrainDone
  /-- AUTO_RESUME (R503): In HOLD the speed reaches VMIN with VALID, AUTO_RESUME set and HELD_BY_REQ clear, so the device resumes. -/
  | autoResume
  /-- STANDBY_AFTER_EXPIRY (R503): HOLD has lasted STBY_AFTER seconds, so the device enters STANDBY. -/
  | standbyAfterExpiry (dt : Nat)
  /-- STANDBY_WAKE (R508): An enabled wake source acts: FAB_WAKE is driven, WAKE blocks are sent, power returns, POS is restored and lanes, cameras and fabric ports come up. -/
  | standbyWake (src : WakeSource)
  /-- WAKE_HOLD_ENTRY (R508): Bring-up after a wake completes and the device enters HOLD with VERIFY set. -/
  | wakeHoldEntry
  /-- REHEARSAL_END (R506): At a strip boundary with every head and seam accepted after MIN_STRIPS strips, REHEARSE ends into PERFORM. -/
  | rehearsalEnd
  /-- REHEARSAL_TIMEOUT (R506): MAX_STRIPS strips pass; the rehearsal ends and ports not accepted enter PERFORM stale. -/
  | rehearsalTimeout
  /-- VERIFY_END (R509): Every enabled return check has passed or failed at a strip boundary, so VERIFY clears. -/
  | verifyEnd
  /-- VERIFY_TIMEOUT (R509): TMO strips pass; open checks fail, and an open POS check opens a POS_UNCERTAIN GAP. -/
  | verifyTimeout
  /-- THERMAL_DARK_EXIT (R525): In thermal DARK, every sensor has read below SHUTDOWN − 20 °C for 4 samples with no slot write running, so the device enters LOAD. -/
  | thermalDarkExit
  /-- SUPPLY_RESTORED (R534): PFAIL_N, VKEEP and PG0–PG3 have been good for RESTORE_MS, so the device leaves DARK for LOAD. -/
  | supplyRestored (mv held : Nat)
  /-- THM_FAST_ROUND (R515): Every 10 µs the sensors of the fast set are sampled and their flags, states and fast-set membership are updated. -/
  | thmFastRound (dt : Nat) (codes : List (BitVec 16))
  /-- THM_SLOW_ROUND (R515): Every 2 ms the other sensors, the rails, MEM_BAND and the board sensors are sampled, and LOFS is learned. -/
  | thmSlowRound (dt : Nat) (codes : List (BitVec 16)) (rails : List Nat)
    (boards : List (Option (BitVec 16)))
  /-- SENSOR_RECOVERED (R518): A broken sensor becomes valid again after 1,024 clean samples. -/
  | sensorRecovered (i : Fin 24)
  /-- I2C_TIMEOUT (R517): A board-sensor transaction has not completed within 1 ms, so the sample is invalid and is counted. -/
  | i2cTimeout (b : Fin 8)
  /-- THROTTLE_LEVEL_STEP (R521): Every STEP_MS ms the throttle level rises or falls by 1, and the steps shed are updated. -/
  | throttleLevelStep (dt : Nat)
  /-- PROMPT_BOOK_GROUP_APPLY (R529): A group of mirror updates has its close item usable in ACLK and is applied whole in one cycle. -/
  | promptBookGroupApply
  /-- CHECKPOINT_TIMER (R532): Every CKPT × 100 ms in REHEARSE, PERFORM or HOLD a CHECKPOINT slot write starts. -/
  | checkpointTimer (dt : Nat)
  /-- SLOT_WRITE_DONE (R531): A slot write ends with its CRC; SAVE_DONE is raised and a curtain then enters DARK SUPPLY. -/
  | slotWriteDone (micros : Nat)
  /-- PFAIL_N_FALL (R533): PFAIL_N is accepted low and the curtain starts: the mirror freezes, MRK outputs and lanes go off, and a slot write starts. -/
  | pfailNFall (samples : BitVec 4)
  /-- VKEEP_BELOW_TRIP (R533): With VIN_EN set, VKEEP has been below TRIP for 4 ACLK cycles, which starts the curtain. -/
  | vkeepBelowTrip (mv held : Nat)
  /-- POWER_GOOD_LOSS (R533): With PG_CURTAIN set, a PG input has been low for 4 ACLK cycles, which starts the curtain. -/
  | powerGoodLoss (g : Fin 4) (held : Nat)
  /-- HEALTH_PERIOD (R540): Every HEALTH seconds in REHEARSE, PERFORM or HOLD a periodic HEALTH record is formed. -/
  | healthPeriod (dt : Nat)
  /-- ENC0_COUNT (R270): A filtered ENC0 quadrature edge updates C, P and H, the speed and the emulated outputs. -/
  | enc0Count (dt : Nat) (sa sb : BitVec 4)
  /-- ENCODER_FAULT_END (R273): 65,536 clean samples, and a re-reference where required, end the encoder fault and emit POS_UNCERTAIN GAPs. -/
  | encoderFaultEnd (dt : Nat)
  /-- ENC0_Z_EDGE (R274): An accepted ENC0 Z edge latches C, sets ZREF0 or checks slip, and may re-reference the count. -/
  | enc0ZEdge (sz : BitVec 4)
  /-- WIRE_FAULT (R268): The two legs of a pair have shown the same level for more than 8 samples, so a wire fault begins. -/
  | wireFault (c : Fin 8) (pair : Fin 3)
  /-- WIRE_FAULT_END (R268): The legs have disagreed for 1,024 consecutive samples, so the wire fault ends. -/
  | wireFaultEnd (c : Fin 8) (pair : Fin 3)
  /-- ROLLER_COUNT (R281): A roller quadrature count updates its count modulo CPR and its phase. -/
  | rollerCount (dt : Nat) (c : Fin 7) (sa sb : BitVec 4)
  /-- ROLLER_Z_EDGE (R281): An accepted roller Z edge sets the count to 0, or counts an index slip. -/
  | rollerZEdge (dt : Nat) (c : Fin 7) (sz : BitVec 4)
  /-- INDEX_EDGE (R282): An index-mode edge is either rejected as bounce or accepted, updating t_z and T. -/
  | indexEdge (dt : Nat) (c : Fin 7) (sz : BitVec 4)
  /-- ROLLER_INDEX_TIMEOUT (R283): More than min(2T, PMAX) has passed since t_z, so the roller fault flag is set. -/
  | rollerIndexTimeout (dt : Nat) (c : Fin 7)
  /-- ROLLER_FLAG_CLEAN (R283): With Z_EN clear, 65,536 clean samples clear the roller fault flag. -/
  | rollerFlagClean (dt : Nat) (c : Fin 7)
  /-- SPEED_STOP (R286): No count arrives for STOP_TMO: the speed reads STOPPED, STOP is raised, open GAPs close, and AUTO_HOLD may start HOLD. -/
  | speedStop (dt : Nat)
  /-- QOUT_STEP (R289): An emulated output with owed counts takes one quadrature step once 40 ns have passed since its last step. -/
  | qoutStep (dt : Nat) (k : Fin 2)
  /-- CAM_PORT_ENABLE (R101): CAM_CTRL.EN takes effect, or STANDBY exits, and the port goes from OFF to ALIGN with the reference output on. -/
  | camPortEnable (p : Fin 16)
  /-- CAM_RESTART (R101): CAM_CTRL.RESTART written 1 takes the port from FAULT to ALIGN. -/
  | camRestart (p : Fin 16)
  /-- CAM_AUTO_RETRY (R101): With AUTO_RETRY set, 10 ms after FAULT entry the port returns to ALIGN. -/
  | camAutoRetry (p : Fin 16)
  /-- ALIGN_SEARCH_FAIL (R73): A lane finds no block lock within 1 ms, so the port enters FAULT with class LINK. -/
  | alignSearchFail (l : Fin 64)
  /-- CAM_ALIGN_TIMEOUT (R101): A lane has not reached UP within 2 ms of ALIGN entry, so the port enters FAULT. -/
  | camAlignTimeout (p : Fin 16)
  /-- CAM_DESKEWED (R101): All 4 lanes are locked and deskewed; the port enters DESC and sends DREQ. -/
  | camDeskewed (p : Fin 16)
  /-- ALIGN_BLOCK (R74): An ALIGN marker block arrives on a lane and is used for deskew. -/
  | alignBlock (l : Fin 104) (seq pos : Nat)
  /-- INVALID_BLOCK (R76): An invalid block arrives on a lane and is counted toward lane loss. -/
  | invalidBlock (l : Fin 104) (since : Nat) (hdr : BitVec 2)
  /-- DESC_BLOCK (R91): A DESC block arrives and is collected into the answer or taken as a temperature report. -/
  | descBlock (p : Fin 16) (idx payload : Nat)
  /-- DESCRIPTOR_TIMEOUT (R91): No complete answer arrives within 1 ms of DREQ; the attempt fails and DREQ is repeated, with fault after 3 attempts. -/
  | descriptorTimeout (p : Fin 16)
  /-- TEMPERATURE_STALE (R93): No index-5 block has been accepted for 50 ms, so CAM_TEMP.VALID clears. -/
  | temperatureStale (p : Fin 16)
  /-- CUE_LAUNCH (R82): A cue becomes usable in LCLK and is launched as a CUE block at the next slot; READY enters RUN at a strip multiple. -/
  | cueLaunch (dt : Nat) (p : Fin 16)
  /-- LINE_FRAME (R95): A line frame completes with its EOL; it is checked and accepted, replaced, padded, discarded or queued into the FIFO. -/
  | lineFrame (p : Fin 16) (j : Fin 2) (mrow sid : Nat) (line : LineNo) (hdr : DWord) (data : List DWord) (bits : Nat) (crc : Word)
  /-- EOL_TIMEOUT (R95): A new SOL or 4,096 blocks arrive before EOL, so the open frame is dropped. -/
  | eolTimeout (p : Fin 16)
  /-- LINE_TIMEOUT (R99): LINE_TMO passes since a cue launch without a head's line, so the line is replaced as missing. -/
  | lineTimeout (dt : Nat) (p : Fin 16) (j : Fin 2)
  /-- CAMERA_ERR_BLOCK (R94): An ERR block is counted and logged and its action taken: a fault, a warning or a missing line. -/
  | cameraErrBlock (p : Fin 16) (code j : Nat) (line : LineNo)
  /-- PREH_START (R106): In PERFORM, a port that is READY or RUN with a stale camera starts a per-camera rehearsal. -/
  | prehStart (p : Fin 16)
  /-- PREH_FAIL (R108): A per-camera rehearsal ends without acceptance; a new attempt starts at the next boundary. -/
  | prehFail (p : Fin 16)
  /-- LINE_DELIVERY (R18): A line leaves its FIFO to the lane quad and is corrected, filtered, segmented, archived and passed to stitching. -/
  | lineDelivery (p : Fin 16) (faults : List (Nat × Bool))
  /-- RUN_LABEL (R216): The labelling engine takes a run from the FIFO and connects it, starts an object or merges objects. -/
  | runLabel
  /-- EOL_MARKER_APPLY (R240): OBJ applies a line's end-of-line marker: entries retire, idle lines are noted, objects are evaluated for opening and the frontier advances. -/
  | eolMarkerApply
  /-- CLOSING_EVALUATION (R243): A queued closing is classified, and the object is registered for repeats, made seam-pending, dropped or emitted as CLOSE with snippet and mark requests. -/
  | closingEvaluation
  /-- COMPONENT_RELEASE (R188): Every member has closed and the frontiers have passed the contacts, so the component is merged, classified and emitted. -/
  | componentRelease
  /-- STRIP_BOUNDARY (R22): The first word of a boundary line enters a stage, which latches staged values and acts on the boundary. -/
  | stripBoundary (stage : Stage) (h : Fin 32) (line : LineNo)
  /-- EXPOSURE_LOOP_RUN (R132): Both heads of a port close a strip and the exposure controller may commit a new exposure. -/
  | exposureLoopRun (p : Fin 16)
  /-- FF_RUN_COMPLETE (R137): The second window of a run ends, and the run is accepted, failed or abandoned. -/
  | ffRunComplete (h : Fin 32)
  /-- FF_TABLE_WRITE_DONE (R139): The REHEARSE write of accepted offsets or gains into the tables completes. -/
  | ffTableWriteDone (h : Fin 32)
  /-- FF_RETRY_EXPIRY (R138): RETRY strips pass after a failed temperature run, so a new run may start. -/
  | ffRetryExpiry (h : Fin 32)
  /-- SEAM_ESTIMATE_DONE (R180): A seam's estimate and agreement test complete after its window closes, leading to acceptance, disagreement or an unusable strip. -/
  | seamEstimateDone (k : Fin 32)
  /-- XDEV_STREAM_TIMEOUT (R196): No frontier arrives from the left neighbour for XDEV_TMO, so seam 31 enters HELD NO_DATA. -/
  | xdevStreamTimeout (dt : Nat)
  /-- MARK_REQUEST (R298): MRK takes a mark request and schedules a mark per qualifying port, or refuses it. -/
  | markRequest
  /-- MARK_COMPARE (R300): P + v × ADV reaches a mark's target; a burst starts or the mark joins one, or a position-mode line starts. -/
  | markCompare (m : Fin 4) (dt : Nat)
  /-- BURST_LINE_START (R301): A burst's line starts: LATCH rises, the band is latched and the next line shifts; the burst may end or split. -/
  | burstLineStart (m : Fin 4) (dt : Nat)
  /-- LATCH_FALL (R305): LATCH_W expires, LATCH falls, and the strobe follows 20 ns later. -/
  | latchFall (m : Fin 4) (dt : Nat)
  /-- STROBE_FALL (R307): The strobe width W expires and STROBE falls. -/
  | strobeFall (m : Fin 4) (dt : Nat)
  /-- STROBE_WATCHDOG (R309): A strobe high too long is forced low and the port enters FAULT WATCHDOG. -/
  | strobeWatchdog (m : Fin 4) (dt : Nat)
  /-- STAT_MEASUREMENT (R297): A rising STAT edge yields a temperature, accepted or rejected, that may set or clear HOT. -/
  | statMeasurement (m : Fin 4) (dt p h : Nat)
  /-- STAT_TIMEOUT (R297): No measurement has been accepted for 1 ms, so the port enters FAULT with reason STAT. -/
  | statTimeout (m : Fin 4) (dt : Nat)
  /-- STAT_RECOVERY (R310): Measurements are accepted for 10 ms without a gap, so a STAT fault returns to READY. -/
  | statRecovery (m : Fin 4) (dt : Nat)
  /-- MARK_RESTART (R310): MRK_PCTL.RESTART written in a WATCHDOG fault returns the port to READY. -/
  | markRestart (m : Fin 4)
  /-- ARCHIVE_ROW_COMPLETE (R317): The last block write response of a row returns and the index entry is written with V = 1. -/
  | archiveRowComplete (h : Fin 32)
  /-- BLOCK_WRITE_ERROR (R331): A block write ends in error; it is rewritten, or its row is marked BADROW. -/
  | blockWriteError
  /-- HOST_JOB_REQUEST (R337): ARC_HREQ_GO queues a host snippet or strip-image request, or answers REFUSED. -/
  | hostJobRequest
  /-- JOB_START (R339): Every tile's front reaches the last needed line, so the sequencer starts a job. -/
  | jobStart
  /-- JOB_WAIT_TIMEOUT (R339): WAIT ms pass first, so the job starts PARTIAL. -/
  | jobWaitTimeout
  /-- JOB_DONE (R341): A job's decode ends and its last record with the trailer is handed on. -/
  | jobDone
  /-- DMA_ARM (R345): DMA_SCTRL.ARMED is written 1 and the shadow set waits for hand-over. -/
  | dmaArm (c : Fin 16)
  /-- DMA_GRANT (R349): With no channel running, the loaded channel of highest priority is granted. -/
  | dmaGrant
  /-- DMA_ENTRY_COMPLETE (R350): A destination entry's write responses have all returned, which may raise DESC. -/
  | dmaEntryComplete
  /-- DMA_BEAT_ERROR (R351): A beat ends in error, so its entries are made bad, logged and counted. -/
  | dmaBeatError
  /-- DMA_TIMEOUT (R353): A transaction has no response after TMO µs and ends with TIMEOUT. -/
  | dmaTimeout
  /-- DMA_LIST_FETCH_FAIL (R354): A list entry fetch fails, so the transfer drains and ends LISTERR. -/
  | dmaListFetchFail
  /-- DMA_TRANSFER_COMPLETE (R350): Both lists have ended and all responses have returned, so DONE is raised. -/
  | dmaTransferComplete
  /-- DMA_ERRLOG_POP (R351): A write to DMA_ERRPOP removes the oldest error log entry. -/
  | dmaErrlogPop
  /-- MEM_BAND_POLL (R368): Mode register 4 of each rank is polled and the temperature bands, derates and tREFI are updated. -/
  | memBandPoll (bands : List (Fin 4))
  /-- REFRESH_TICK (R370): A tREFI tick raises the debt and may force a refresh. -/
  | refreshTick (rank : Fin 16)
  /-- MEM_READ_COMPLETE (R373): Read data returns through ECC as clean, corrected or uncorrectable. -/
  | memReadComplete (sc : Fin 8) (dt : Nat) (out : ReadOutcome)
  /-- WRITE_CRC_ALERT (R375): A component signals a write CRC error on ALERT_N and the write is replayed. -/
  | writeCrcAlert (sc : Fin 8)
  /-- PATROL_SCRUB (R374): The patrol scrub reads a line and writes it back if corrected. -/
  | patrolScrub (rank : Fin 16) (line : Nat) (out : ReadOutcome)
  /-- MIGRATION_PAGE_COPY (R378): A 4 KiB page copy to the understudy completes and K advances, with poisoning on UE. -/
  | migrationPageCopy (ue : List (Fin 64))
  /-- MIGRATION_FLOOR (R367): A migration page has waited FLOOR µs and is issued at urgency 3. -/
  | migrationFloor
  /-- FSP_REQUEST (R384): MEM_FSP_CTRL.REQ requests a set-point change, which is refused outside HOLD. -/
  | fspRequest (target : Fin 2)
  /-- FSP_CHANGE_DONE (R385): A set-point change with retraining completes and granting resumes. -/
  | fspChangeDone
  /-- TRAINING_PERIOD (R383): Every PERIOD ms the read DQ of one rank is re-centred in background slices. -/
  | trainingPeriod
  /-- TRAINING_SLICE_FORCE (R383): A training slice has waited 1 ms and is forced. -/
  | trainingSliceForce (last : Bool)
  /-- LANE_ACQ_DONE (R392): A lane's PLL, CDR and first adaptation complete, so it enters UP or LOW. -/
  | laneAcqDone (l : Fin 104) (ctle : Fin 16) (gain : Fin 64) (dfe : List Byte)
  /-- LANE_LOCK_LOSS (R393): A lane in UP loses CDR lock or signal for 1 µs and retrains in ACQ. -/
  | laneLockLoss (l : Fin 104) (signal : Bool)
  /-- REFCLK_WINDOW (R391): A 10 µs reference measurement window ends; two bad windows drop the lanes to ACQ. -/
  | refclkWindow (host : Bool) (count : Nat)
  /-- LANE_RETRAIN (R395): LNE_CTL.RETRAIN written 1 sends a lane from UP to ACQ. -/
  | laneRetrain (l : Fin 104)
  /-- LANE_SLIP (R400): LNE_CTL.SLIP moves the block boundary one bit and resets HDR_RUN. -/
  | laneSlip (l : Fin 104)
  /-- LANE_DEEP (R392): LNE_CTL.DEEP set or cleared moves a lane into or out of DEEP. -/
  | laneDeep (l : Fin 104) (deep : Bool)
  /-- LANE_TEST_REQUEST (R404): LNE_TEST.EN takes a released lane to TEST, or is refused. -/
  | laneTestRequest (l : Fin 104) (value : Word)
  /-- BER_CFG_WRITE (R406): A write to LNE_BER_CFG abandons every running window. -/
  | berCfgWrite (value : Word)
  /-- PRBS_CHECKER_LOCK (R405): The checker locks after 128 matching bits. -/
  | prbsCheckerLock (l : Fin 104)
  /-- PRBS_CHECKER_LOSS (R405): More than 1,024 mismatches within 2^16 bits unlock the checker. -/
  | prbsCheckerLoss (l : Fin 104) (mismatches : Nat)
  /-- BER_WINDOW_END (R406): A bit-error window completes and its result is written. -/
  | berWindowEnd (l : Fin 104) (mismatches : Nat)
  /-- ADAPTATION_STEP (R398): Background adaptation moves one equaliser setting, at most once per 40 µs. -/
  | adaptationStep (dt : Nat) (l : Fin 104) (setting : Fin 12) (up : Bool)
  /-- KEEP_BLOCK_SEND (R401): A low-rate lane sends KEEP after every 1,023 other blocks. -/
  | keepBlockSend (l : Fin 104)
  /-- KEEP_BLOCK_RX (R401): A valid KEEP block arrives and sets KA. -/
  | keepBlockRx (l : Fin 104) (addr : FabAddr) (mode : Fin 16)
  /-- KEEPALIVE_LOST (R401): No KEEP arrives for 100 µs, so KA clears and KA_LOST is raised. -/
  | keepaliveLost (l : Fin 104)
  /-- WAKE_BLOCK_RX (R401): A valid WAKE block arrives on a low-rate lane and may wake the device. -/
  | wakeBlockRx (l : Fin 104)
  /-- FAB_WAKE_PIN (R446): FAB_WAKE is accepted high, raising WAKE_PIN and possibly waking the device. -/
  | fabWakePin (samples : BitVec 4)
  /-- FAB_LINK_ALIGNED (R453): All 4 lanes of a fabric port are up, locked and deskewed, so the port enters HELLO. -/
  | fabLinkAligned (f : Fin 6)
  /-- FAB_LSTATE_RX (R453): Two LSTATE blocks from the partner take the port to UP. -/
  | fabLstateRx (f : Fin 6) (addr : FabAddr) (port : Fin 8)
  /-- FAB_PACKET_RX (R450): A packet arrives and is CRC- and sequence-checked, then routed, consumed or discarded. -/
  | fabPacketRx (f : Fin 6) (pkt : Packet) (lseq : BitVec 13) (crc : Word)
  /-- FAB_ACK_RX (R450): An ACK frees replay entries, or a NAK triggers a replay. -/
  | fabAckRx (f : Fin 6) (lseq : BitVec 13) (nak : Bool)
  /-- FAB_CREDIT_RX (R450): A CREDIT block returns credits of one VC. -/
  | fabCreditRx (f : Fin 6) (vc : Fin 5) (n : BitVec 13)
  /-- FAB_ACK_TIMER (R450): 0.25 µs with unacknowledged packets forces an ACK to be sent. -/
  | fabAckTimer (f : Fin 6)
  /-- FAB_REPLAY_TIMEOUT (R450): 1 µs without an ACK replays every unacknowledged packet; the replay limit takes the port down. -/
  | fabReplayTimeout (dt : Nat) (f : Fin 6)
  /-- FAB_RECORD_PACKET (R464): A RECORD packet is relayed toward the sink or enters the host queues. -/
  | fabRecordPacket (f : Fin 6)
  /-- FAB_WING_PACKET (R451): A WING packet delivers wing samples for seam 31. -/
  | fabWingPacket (f : Fin 6)
  /-- FAB_FRONTIER_PACKET (R194): A FRONTIER packet advances the neighbour frontier of seam 31. -/
  | fabFrontierPacket (f : Fin 6)
  /-- FAB_COMPONENT_PACKET (R195): A component member arrives, is moved into the local X frame and joins the merge, and a CACK is sent. -/
  | fabComponentPacket (f : Fin 6)
  /-- FAB_JOB_PACKET (R448): A JOB packet carries a relayed job-stream record. -/
  | fabJobPacket (f : Fin 6)
  /-- FAB_CACK_PACKET (R452): A CACK releases the context of a component that was sent. -/
  | fabCackPacket (f : Fin 6)
  /-- CACK_TIMEOUT (R452): No CACK arrives after XDEV_TMO, so the left device emits the CLOSE with SEAM_UNMERGED. -/
  | cackTimeout (dt : Nat) (oid : Oid)
  /-- DISC_HELLO_TIMER (R455): Every 10 µs a HELLO is sent on each port in UP. -/
  | discHelloTimer
  /-- DISC_HELLO (R455): A HELLO updates the best root, HOPS and parent port. -/
  | discHello (f : Fin 6)
  /-- DISC_SETTLED (R455): The best root and HOPS have not changed for 200 µs, so a REPORT is sent on the parent port. -/
  | discSettled (dt : Nat)
  /-- DISC_REPORT (R455): A REPORT is relayed up, or at the root completes addressing when all are held. -/
  | discReport (f : Fin 6)
  /-- DISC_ASSIGN (R455): An ASSIGN is flooded and gives the named device its address. -/
  | discAssign (f : Fin 6)
  /-- DISC_MAP (R457): MAP packets are flooded; with the whole map a device computes routes and tree and raises DISC_DONE. -/
  | discMap (f : Fin 6)
  /-- DISC_LINKEV (R459): A link event updates the map, routes and tree, and may force time re-acquisition. -/
  | discLinkev (f : Fin 6)
  /-- DISCOVERY_TIMEOUT (R456): DISC_TMO expires; the device is its own root, or has no address and DISC_FAIL is raised. -/
  | discoveryTimeout
  /-- FAB_SYNC_TIMER (R463): Every INT µs a TIME SYNC is sent to each tree child. -/
  | fabSyncTimer
  /-- TIME_SYNC_RX (R463): A SYNC arrives from the tree parent and is answered with DREQ. -/
  | timeSyncRx (f : Fin 6) (seq : BitVec 6) (t : BitVec 48)
  /-- TIME_DREQ_RX (R463): A DREQ from a child is answered with DRESP. -/
  | timeDreqRx (f : Fin 6) (seq : BitVec 6) (t : BitVec 48)
  /-- TIME_DRESP_RX (R463): A DRESP completes a delay sample and an offset for the servo. -/
  | timeDrespRx (f : Fin 6) (seq : BitVec 6) (t : BitVec 48)
  /-- HOST_IF_UP (R409): An interface's lanes, PCS, FEC and fault state are good, so it comes up, with gratuitous ARP. -/
  | hostIfUp (j : Fin 16)
  /-- HOST_IF_DOWN (R409): An interface goes down and records may wait for a path. -/
  | hostIfDown (j : Fin 16) (remoteFault : Bool)
  /-- FAILOVER (R418): The active interface has been down for LINKDN_TMO, so the queues move to the alternate interface. -/
  | failover (dt : Nat)
  /-- HOST_FRAME_START (R416): At a frame boundary the interface starts the next frame from the highest-ranked ready source. -/
  | hostFrameStart (j : Fin 16)
  /-- FRAME_FLUSH (R417): FLUSH µs after its first record, a ROUTINE or BULK frame becomes ready. -/
  | frameFlush (cls : LClass)
  /-- HOST_FRAME_RX (R414): A received frame is checked and dropped or passed to ARP, ICMP, management or PTP. -/
  | hostFrameRx (j : Fin 16) (bytes : List Byte) (corrected bad : Nat)
  /-- ARP_REQUEST (R421): An ARP request for the interface's IP is answered. -/
  | arpRequest (j : Fin 16)
  /-- ICMP_ECHO_REQUEST (R421): An ICMP echo request is answered within the rate limit. -/
  | icmpEchoRequest (j : Fin 16)
  /-- MGMT_READ (R423): A READ request returns register values, or DENIED for an RC read without a session. -/
  | mgmtRead
  /-- MGMT_WRITE (R427): A WRITE in a session is checked against the permission map and applied in order, or DENIED. -/
  | mgmtWrite
  /-- MGMT_CHALLENGE (R424): A CHALLENGE is answered with a fresh nonce bound to the source. -/
  | mgmtChallenge
  /-- MGMT_OPEN (R424): An OPEN carries a signed token that is queued for verification. -/
  | mgmtOpen
  /-- MGMT_OPEN_VERIFIED (R424): Token verification completes and opens a session or answers BAD_TOKEN. -/
  | mgmtOpenVerified (sigOk : Bool)
  /-- MGMT_CLOSE (R425): A CLOSE ends the session. -/
  | mgmtClose
  /-- MGMT_MALFORMED (R422): A request with a bad MVER, OP or N is answered MALFORMED. -/
  | mgmtMalformed
  /-- SESSION_EXPIRY (R425): A session reaches its LIFE or IDLE time and ends. -/
  | sessionExpiry (dt : Nat) (k : Fin 4)
  /-- NONCE_EXPIRY (R424): A nonce reaches 10 s and is no longer valid. -/
  | nonceExpiry (dt : Nat) (ip : Word) (port : BitVec 16)
  /-- PTP_SYNC (R439): A Sync from the chosen master is timestamped and, with its times complete, yields an offset. -/
  | ptpSync (m : PtpMsg)
  /-- PTP_FOLLOW_UP (R439): A Follow_Up completes the Sync's times. -/
  | ptpFollowUp (m : PtpMsg)
  /-- PTP_DELAY_RESP (R439): A Delay_Resp or Pdelay_Resp yields a path delay sample filtered into MPD. -/
  | ptpDelayResp (m : PtpMsg)
  /-- PTP_PDELAY_REQ (R437): A received Pdelay_Req is answered one-step or two-step. -/
  | ptpPdelayReq (m : PtpMsg)
  /-- SERVO_OFFSET (R433): An offset becomes usable and drives the servo, or steps or is rejected. -/
  | servoOffset
  /-- HOLDOVER_ENTRY (R435): No offset has been accepted for HOLD_TMO, so TIM enters holdover. -/
  | holdoverEntry (dt : Nat)
  /-- SECOND_ROLLOVER (R431): The nanoseconds carry into the seconds and SECOND is raised. -/
  | secondRollover
  /-- TIME_SET (R432): TIM_SET_GO.SET loads the staged time base and sets TVALID. -/
  | timeSet
  /-- TIME_NOW_READ (R432): A read of TIM_NOW0 latches the whole time base. -/
  | timeNowRead (q : Requester)
  /-- CQ_PUSH (R440): HST_CQ_PUSH adds a timed-launch entry, or is refused. -/
  | cqPush (k : Fin 4) (value : Word)
  /-- CQ_ENTRY_DUE (R441): The head entry reaches its time and launches, late or discarded as applicable. -/
  | cqEntryDue (k : Fin 4)
  /-- EVT_PIN_EDGE (R476): An accepted input level edge fires the pin's producer per EDGE. -/
  | evtPinEdge (i : Fin 16) (level : Bool) (held : Nat)
  /-- PIN_STUCK (R476): An input stays at its active level beyond STUCK ms. -/
  | pinStuck (dt : Nat) (i : Fin 16)
  /-- PIN_PULSE_END (R476): An output pulse width expires and the pin returns to inactive. -/
  | pinPulseEnd (dt : Nat) (i : Fin 16)
  /-- EVT_CHANNEL_DELIVERY (R470): A channel delivers a producer's pulse to its task input, under the loop guard. -/
  | evtChannelDelivery (c : Fin 64)
  /-- LOOP_REENABLE (R480): Writing 1 to an EVT_LOOPED bit re-enables a latched channel. -/
  | loopReenable (c : Fin 64)
  /-- SOFTWARE_FIRE (R470): EVT_SWFIRE fires a task input as one pulse. -/
  | softwareFire (task : BitVec 7)
  /-- PMC_WINDOW_END (R483): A window's last cycle copies and clears the counters and starts the next window. -/
  | pmcWindowEnd
  /-- PMC_COUNTER_WRAP (R481): A programmable counter wraps, setting OVF and firing producer 0xBE. -/
  | pmcCounterWrap (i : Fin 8)
  /-- REPEAT_CLEAR (R254): OBJ_REP_CTRL.CLEAR clears every repeat histogram. -/
  | repeatClear
  /-- ATTEST_REQUEST (R500): SEC_ATT_CTRL.REQ requests an attestation, held or refused as busy. -/
  | attestRequest
  /-- ATTEST_DONE (R501): Signing completes and three ATTEST records are emitted. -/
  | attestDone
  /-- PAIR_LOW_READ (R47): A read of a 40-bit pair's low register latches the upper bits for that requester. -/
  | pairLowRead (q : Requester) (addr : Word)
  /-- PAIR_HIGH_WRITE (R48): A write of a pair's high register stages the upper bits. -/
  | pairHighWrite (q : Requester) (addr : Word) (value : Word)
  /-- PAIR_LOW_WRITE (R48): A write of a pair's low register commits all 40 bits in one cycle. -/
  | pairLowWrite (q : Requester) (addr : Word) (value : Word)
  /-- RC_READ (R43): A read of an RC field returns its value and clears it. -/
  | rcRead (q : Requester) (addr : Word)
  /-- REGISTER_WRITE (R565): A write to any other register or table window is applied field by field, or ignored and counted. -/
  | registerWrite (q : Requester) (addr : Word) (value : Word)
  /-- BLOCK_LOCK (R400): A lane's count of consecutive valid sync headers reaches 64, so HDR_OK sets; a low-rate lane takes hardware block lock in the same way. -/
  | blockLock (l : Fin 104)
  /-- ALIGN_MISSING (R76): An ALIGN block expected after 4,095 other blocks fails to arrive on a lane, and a second absence in a row loses the lane. -/
  | alignMissing (l : Fin 104)
  /-- FAB_PACKET_START (R449): At a packet boundary, a fabric output port starts the next packet by strict VC priority, provided it holds a credit and replay room. -/
  | fabPacketStart (f : Fin 6)
  /-- DRAM_COMMAND_ISSUE (R366): In a DRAM command slot, the subchannel scheduler issues the first eligible command by PANIC, urgency, row hit, class and age, and drains write batches and background work. -/
  | dramCommandIssue (sc : Fin 8) (dt : Nat) (last : Bool)
  /-- MEM_WRITE_COMPLETE (R330): A DRAM write response returns; it frees encoder-buffer or wing-queue room and advances ARC_FRONT and the PANIC levels. -/
  | memWriteComplete (sc : Fin 8) (dt : Nat)
  /-- DRAM_TRAINING_DONE (R382): The training of the set points in LOAD completes and the understudy pattern test sets SPARE_OK. -/
  | dramTrainingDone (spareOk : Bool)
  /-- PTP_DELAY_REQ_SEND (R439): At the interval the master announces, the housekeeping firmware sends a Delay_Req or Pdelay_Req, and the departure is timestamped. -/
  | ptpDelayReqSend (seqId : BitVec 16)
  /-- CELL_FILTER_PASS (R478): A logic cell's new value has held for FILT ECLK cycles, so the filter passes it and the cell may fire. -/
  | cellFilterPass (dt : Nat) (k : Fin 16)
  deriving DecidableEq, Repr

end Sys2Proof
end

