-- ==== Sys2Proof/Machine/Operands.lean ====
section
/-! DEFINITION. Machine/Operands.lean: the arithmetic that the spec's operands use in every block: bit fields, signed
values of a width, comparison by signed difference (spec/02 R34), rounding, clamping, little-endian octets (R54), the CRC
of spec/03 R80, and small list operations. -/

namespace Sys2Proof.Machine

/-- Bits `[lo + w - 1 : lo]` of a number. -/
def bitsOf (n lo w : Nat) : Nat := (n / 2 ^ lo) % 2 ^ w

/-- One bit of a number. -/
def bitAt (n i : Nat) : Bool := (n / 2 ^ i) % 2 == 1

/-- A Bool as a bit. -/
def b2n (b : Bool) : Nat := if b then 1 else 0

/-- The low `w` bits of `n`, read as a signed number in two's complement. -/
def signedOf (w n : Nat) : Int :=
  let m := n % 2 ^ w
  if m < 2 ^ (w - 1) then Int.ofNat m else Int.ofNat m - Int.ofNat (2 ^ w)

/-- An integer held in `w` bits in two's complement. -/
def wrapTo (w : Nat) (i : Int) : Nat := (i % Int.ofNat (2 ^ w)).toNat

/-- Limit an integer to an interval. -/
def clampI (lo hi i : Int) : Int := if i < lo then lo else if hi < i then hi else i

/-- Arithmetic shift right: division by a power of two, rounded toward minus infinity. -/
def asr (i : Int) (k : Nat) : Int := Int.fdiv i (Int.ofNat (2 ^ k))

/-- The absolute value as a natural number. -/
def absN (i : Int) : Nat := i.natAbs

/-- R34: the signed difference of two wrapping quantities. -/
def sdiff {w : Nat} (a b : BitVec w) : Int := (a - b).toInt

/-- R34: `a` lies after (downstream of) `b`. -/
def after {w : Nat} (a b : BitVec w) : Bool := 0 < sdiff a b

/-- R34: `a` lies at or after `b`. -/
def atOrAfter {w : Nat} (a b : BitVec w) : Bool := 0 ≤ sdiff a b

/-- R34: the earlier of two. -/
def earlier {w : Nat} (a b : BitVec w) : BitVec w := if after a b then b else a

/-- R34: the later of two. -/
def later {w : Nat} (a b : BitVec w) : BitVec w := if after a b then a else b

/-- R38: a 40-bit signed quantity in a 64-bit record word. -/
def sext64 (x : BitVec 40) : DWord := x.signExtend 64

/-- R38: a 40-bit unsigned quantity in a 64-bit record word. -/
def zext64 {w : Nat} (x : BitVec w) : DWord := x.setWidth 64

/-- A record word put together from fields, each given as its low bit and its value. -/
def packWord (fs : List (Nat × Nat)) : DWord :=
  BitVec.ofNat 64 (fs.foldl (fun a f => a + f.2 * 2 ^ f.1) 0)

/-- Quotient rounded up. -/
def ceilDiv (a b : Nat) : Nat := if b == 0 then 0 else (a + b - 1) / b

/-- A field in which 0 is treated as 1, as many field tables state. -/
def atLeast1 (n : Nat) : Nat := if n == 0 then 1 else n

/-- The octets of a number, least significant first (R54). -/
def leBytes (count n : Nat) : List Byte :=
  match count with
  | 0 => []
  | k + 1 => BitVec.ofNat 8 n :: leBytes k (n / 256)

/-- The number that octets spell, least significant first (R54). -/
def ofLeBytes (bs : List Byte) : Nat :=
  match bs with
  | [] => 0
  | b :: r => b.toNat + 256 * ofLeBytes r

/-- The octets of a number, most significant first (R413's wire order). -/
def beBytes (count n : Nat) : List Byte := (leBytes count n).reverse

/-- The number that octets spell, most significant first. -/
def ofBeBytes (bs : List Byte) : Nat := bs.foldl (fun a b => a * 256 + b.toNat) 0

/-- One bit step of the reflected CRC-32 of R80. -/
def crcBit (c : Nat) : Nat := if c % 2 == 1 then (c / 2) ^^^ 0xEDB88320 else c / 2

/-- Eight bit steps. -/
def crcStep8 (c : Nat) : Nat := crcBit (crcBit (crcBit (crcBit (crcBit (crcBit (crcBit (crcBit c)))))))

/-- The running CRC over octets. -/
def crcRun (c : Nat) (bs : List Byte) : Nat := bs.foldl (fun a b => crcStep8 (a ^^^ b.toNat)) c

/-- The CRC-32 of R80: initial value all ones, reflected, final complement. -/
def crc32 (bs : List Byte) : Nat := crcRun 0xFFFFFFFF bs ^^^ 0xFFFFFFFF

/-- The last `n` elements of a list. -/
def lastN {α : Type} (n : Nat) (l : List α) : List α := l.drop (l.length - n)

/-- The sum of a list of numbers. -/
def sumN (l : List Nat) : Nat := l.foldl (· + ·) 0

/-- How many of the numbers `0 .. n-1` satisfy a test. -/
def countBelow (n : Nat) (p : Nat → Bool) : Nat :=
  match n with
  | 0 => 0
  | k + 1 => countBelow k p + b2n (p k)

/-- A mask with bit `i` set for each `i` below `n` that satisfies a test. -/
def maskBelow (n : Nat) (p : Nat → Bool) : Nat :=
  match n with
  | 0 => 0
  | k + 1 => maskBelow k p + (if p k then 2 ^ k else 0)

/-- The integer square root, rounded down, by bits from the top (`k` bits of result). -/
def isqrtAux (n : Nat) (k r : Nat) : Nat :=
  match k with
  | 0 => r
  | j + 1 => if (r + 2 ^ j) * (r + 2 ^ j) ≤ n then isqrtAux n j (r + 2 ^ j) else isqrtAux n j r

/-- The median position of a sorted insertion: a list sorted by a key. -/
def insertBy {α : Type} (lt : α → α → Bool) (x : α) (l : List α) : List α :=
  match l with
  | [] => [x]
  | y :: r => if lt x y then x :: y :: r else y :: insertBy lt x r

/-- Insertion sort by a strict order; equal elements keep their order. -/
def sortBy {α : Type} (lt : α → α → Bool) (l : List α) : List α :=
  l.foldl (fun acc x => insertBy lt x acc) []

end Sys2Proof.Machine
end

