-- ==== Sys2Proof/Machine/RegName.lean ====
section
/-! DEFINITION. Machine/RegName.lean: the registers of spec/02 R50 and of the chapters' register maps, by the names
the spec gives them. A register that the spec numbers (CAM_CTRLp, SEG_THRh,i) is one name with an index. -/

namespace Sys2Proof.Machine

/-- Every register row of the spec's register maps (chapters 03 to 18). A 40-bit pair of R46 is two rows, `_L` and `_H`. -/
inductive Reg where
  -- GLB, spec/17_startup_trust.md R503,R511
  | GLB_ID | GLB_MODE | GLB_CTRL | GLB_STATUS | GLB_EVENT | GLB_EVENT_EN
  | GLB_RUN_CFG | GLB_REH_CFG | GLB_VERIFY_CFG | GLB_WAKE_CFG | GLB_LOAD_STATUS | GLB_LOAD_TIME
  | GLB_IMG_VER | GLB_ACC_ERR_CNT | GLB_REFUSE_CNT | GLB_HOLD_CNT | GLB_STBY_CNT
  -- CAM, spec/03_camera_links.md R109,R110
  | CAM_CTRL | CAM_GEOM | CAM_PIXELS | CAM_TIMING | CAM_STATUS | CAM_EVENT
  | CAM_EVENT_EN | CAM_DESC_ID | CAM_SERIAL_LO | CAM_SERIAL_HI | CAM_DESC_GEOM | CAM_DESC_PIXELS
  | CAM_DESC_TIMING | CAM_TEMP | CAM_CAL_SERIAL_LO | CAM_CAL_SERIAL_HI | CAM_CAL_REPAIR | CAM_SID
  | CAM_LAST_ERR | CAM_LAST_LINE0_L | CAM_LAST_LINE0_H | CAM_LAST_LINE1_L | CAM_LAST_LINE1_H | CAM_SHORT_CNT
  | CAM_LONG_CNT | CAM_CRC_CNT | CAM_MISSING_CNT | CAM_ORDER_CNT | CAM_EOL_TMO_CNT | CAM_FIFO_OVF_CNT
  | CAM_SET_TMO_CNT | CAM_SID_UNK_CNT | CAM_CAMERR_CNT | CAM_DESC_ERR_CNT | CAM_RETRY_CNT | CAM_MALF_RUN
  | CAM_PREH_FAIL_CNT
  -- COR, spec/04_correction_colour.md R145,R146
  | COR_CTRL | COR_FF_CFG | COR_FF_TOL | COR_DARK_CFG | COR_EVENT | COR_EVENT_EN
  | COR_FF_LAST | COR_FF_STATE | COR_STALE | COR_OFS_OLD | COR_BANK | COR_HEAD_CFG
  | COR_BAL_RG | COR_BAL_B | COR_EXP_CFG | COR_EXP_LIM | COR_EXP_STEP | COR_EXP_STATE
  | COR_REPLACED_CNT | COR_CLIP_CNT | COR_FF_ACCEPT_CNT | COR_FF_FAIL_CNT | COR_FF_REJ_CNT | COR_EXP_CHANGE_CNT
  | COR_EXP_LIMIT_CNT
  -- AWF, spec/05_along_web_filter.md R160,R165
  | AWF_EVENT | AWF_EVENT_EN | AWF_REJ | AWF_HEAD_CFG | AWF_HEAD_STATE | AWF_CLIP_CNT
  | AWF_INV_OUT_CNT | AWF_CHANGE_CNT | AWF_REJ_CNT
  -- STI, spec/06_stitching.md R171,R199
  | STI_CTRL | STI_SEARCH | STI_MERGE | STI_EVENT | STI_EVENT_EN | STI_PITCH
  | STI_X0_L | STI_X0_H | STI_WBUF_BASE_L | STI_WBUF_BASE_H | STI_ORDER | STI_STATE0
  | STI_STATE1 | STI_XR_CFG | STI_PEND | STI_MOUNT | SEAM_CFG | SEAM_OFS
  | SEAM_SCALE | SEAM_YOFS | SEAM_STATUS | SEAM_EST | SEAM_EST2 | SEAM_DELAY
  | STI_ACC_CNT | STI_UNUSABLE_CNT | STI_DISAGREE_CNT | STI_MERGE_CNT | STI_UNMERGED_CNT | STI_MLIMIT_CNT
  | STI_WBUF_INV_CNT
  -- SEG, spec/07_segmentation.md R211,R232
  | SEG_OVF_CFG | SEG_EVENT | SEG_EVENT_EN | SEG_FIFO_STATUS | SEG_LBL_STATUS | SEG_LBL_PEAK
  | SEG_OVF_STATE | SEG_WARM_STATE | SEG_LAST_OVF | SEG_HEAD_CFG | SEG_BG_CFG | SEG_BG_LIM
  | SEG_RUN_CNT_L | SEG_RUN_CNT_H | SEG_OVF_ENTER_CNT | SEG_OVF_FIFO_CNT | SEG_OVF_LBL_CNT | SEG_OVF_CTX_CNT
  | SEG_OVF_LINE_CNT | SEG_CLUSTER_CNT | SEG_MERGE_CNT | SEG_FREEZE_REL_CNT | SEG_WARM_CNT | SEG_BACKSTOP_CNT
  | SEG_THR
  -- OBJ, spec/08_defect_records.md R249,R265
  | OBJ_CTRL | OBJ_BUDGET | OBJ_GEOM | OBJ_SNIP | OBJ_REP_CFG | OBJ_EVENT
  | OBJ_EVENT_EN | OBJ_CTX_STATUS | OBJ_JOIN_STATUS | OBJ_REP_CTRL | OBJ_LAST_REP | OBJ_OID_L
  | OBJ_OID_H | OBJ_REV | OBJ_HEAD_CFG | OBJ_CLASS_CFG | OBJ_OPEN_CNT | OBJ_CLOSE_CNT
  | OBJ_UPDATE_CNT | OBJ_SMALL_CNT | OBJ_BUDGET_OVF_CNT | OBJ_LATE_CNT | OBJ_REPEAT_CNT | OBJ_SNIP_DROP_CNT
  | OBJ_MARK_DROP_CNT | OBJ_SPILL_CNT | OBJ_ACC_OVF_CNT | OBJ_TRUNC_CNT | OBJ_CLASS_CNT
  -- POS, spec/09_web_position.md R276,R293
  | POS_CTRL | POS_PITCH | POS_CUE_MIN | POS_BACKLASH | POS_SPD_CFG | POS_SPD_XOVER
  | POS_ZCFG | POS_SCALE_L | POS_SCALE_H | POS_Y0_L | POS_Y0_H | POS_LINE0_L
  | POS_LINE0_H | POS_STATUS | POS_EVENT | POS_EVENT_EN | POS_SPEED | POS_COUNT_L
  | POS_COUNT_H | POS_Y_L | POS_Y_H | POS_HWM_L | POS_HWM_H | POS_LINE_L
  | POS_LINE_H | POS_NEXT_L | POS_NEXT_H | POS_ZLATCH_L | POS_ZLATCH_H | POS_ZERR
  | POS_CHCFG | POS_CPR | POS_IDX | POS_ROLL | POS_EMU_CFG | POS_EMU_CTL
  | POS_EMU_STAT | POS_QERR_CNT | POS_WIRE_CNT | POS_ENCFLT_CNT | POS_SKIP_CNT | POS_REV_CNT
  | POS_ZSLIP_CNT | POS_IDX_REJ_CNT | POS_EMU_OVF_CNT | POS_CUE_CNT_L | POS_CUE_CNT_H
  -- MRK, spec/10_marking.md R310,R313
  | MRK_CTRL | MRK_LPITCH | MRK_MARGIN | MRK_LEAD | MRK_BURST | MRK_CUE_LEN
  | MRK_ADV | MRK_EVENT | MRK_EVENT_EN | MRK_SCHED | MRK_PCTL | MRK_DIST
  | MRK_X0_L | MRK_X0_H | MRK_XPITCH | MRK_STRW01 | MRK_STRW23 | MRK_BAND
  | MRK_TLIM | MRK_LATCH | MRK_PSTAT | MRK_REQ_CNT | MRK_PLACED_CNT | MRK_NOTPL_CNT
  | MRK_SUPP_LINE_CNT | MRK_WD_CNT | MRK_STRETCH_CNT | MRK_SPLIT_CNT | MRK_STAT_ERR_CNT
  -- ARC, spec/11_archive_dma.md R314,R355
  | ARC_CTRL | ARC_SNIP_CFG | ARC_STRIP_CFG | ARC_EVENT | ARC_EVENT_EN | ARC_JOBQ
  | ARC_CTXSAVE_L | ARC_CTXSAVE_H | ARC_HREQ_JOB | ARC_HREQ_CTRL | ARC_HREQ_XLO_L | ARC_HREQ_XLO_H
  | ARC_HREQ_XHI_L | ARC_HREQ_XHI_H | ARC_HREQ_YLO_L | ARC_HREQ_YLO_H | ARC_HREQ_YHI_L | ARC_HREQ_YHI_H
  | ARC_HREQ_GO | ARC_HEAD_CFG | ARC_RING_BASE_L | ARC_RING_BASE_H | ARC_RING_ROWS | ARC_IDX_BASE_L
  | ARC_IDX_BASE_H | ARC_FRONT_L | ARC_FRONT_H | ARC_BLK_CNT_L | ARC_BLK_CNT_H | ARC_OVER_CNT
  | ARC_RETRY_CNT | ARC_CODEC_FAULT_CNT | ARC_WERR_CNT | ARC_BADROW_CNT | ARC_JOB_CNT | ARC_LIMIT_CNT
  | ARC_PARTIAL_CNT | ARC_SHED_CNT | ARC_REFUSE_CNT
  -- DMA, spec/11_archive_dma.md R344,R356
  | DMA_CTRL | DMA_STATUS | DMA_EVENT | DMA_EVENT_EN | DMA_ERRLOG | DMA_ERRPOP
  | DMA_SCTRL | DMA_SSRC_L | DMA_SSRC_H | DMA_SDST_L | DMA_SDST_H | DMA_ACTRL
  | DMA_ASRC_L | DMA_ASRC_H | DMA_ADST_L | DMA_ADST_H | DMA_AREM | DMA_AIDX
  | DMA_ARES | DMA_XFER_CNT | DMA_BADDESC_CNT | DMA_TMO_CNT | DMA_ERRLOG_OVF_CNT
  -- MEM, spec/12_memory.md R357,R387
  | MEM_CFG | MEM_STATUS | MEM_EVENT | MEM_EVENT_EN | MEM_HASH0 | MEM_HASH1
  | MEM_HASH2 | MEM_HASH3 | MEM_REF_CFG | MEM_DERATE | MEM_BAND | MEM_DEBT0
  | MEM_DEBT1 | MEM_FSP_CFG | MEM_FSP_CTRL | MEM_TRN_CFG | MEM_TRN_STATUS | MEM_MIG_CFG
  | MEM_MIG_PTR_L | MEM_MIG_PTR_H | MEM_RMAP | MEM_UE_ADDR_L | MEM_UE_ADDR_H | MEM_UE_INFO
  | MEM_QOS | MEM_PSTAT | MEM_CE_CNT | MEM_UE_CNT | MEM_CRC_RETRY_CNT | MEM_POISON_CNT
  | MEM_POISON_RD_CNT | MEM_PULLIN_CNT | MEM_MIGR_RD_CNT | MEM_FSP_CNT | MEM_FSP_REFUSE_CNT | MEM_SCRUB_FIX_CNT
  | MEM_LATE_CNT | MEM_PANIC_CNT
  -- LNE, spec/13_serial_lanes.md R392,R407
  | LNE_CTRL | LNE_STATUS | LNE_EVENT | LNE_EVENT_EN | LNE_BER_CFG | LNE_LAST
  | LNE_CFG | LNE_TXEQ | LNE_CTL | LNE_STATE | LNE_TEST | LNE_TSTAT
  | LNE_RXEQ | LNE_BER_RES | LNE_PRBS_ERR | LNE_RETRAIN_CNT | LNE_LOCKLOSS_CNT | LNE_HDR_ERR_CNT
  -- HST, spec/14_host_time.md R408,R443
  | HST_CTRL | HST_TX_CFG | HST_CLASS_CFG | HST_MGMT_CFG | HST_EVENT | HST_EVENT_EN
  | HST_STATUS | HST_LAST_DENY | HST_QSTAT0 | HST_QSTAT1 | HST_PCFG | HST_CQ_TLO
  | HST_CQ_THI | HST_CQ_PUSH | HST_CQ_STAT | HST_CQ_TS_LO | HST_CQ_TS_HI | HST_CQ_GUARD
  | HST_DROP_CUE_CNT | HST_DROP_ROUTINE_CNT | HST_DROP_BULK_CNT | HST_MGMT_REQ_CNT | HST_MGMT_DENY_CNT | HST_MGMT_OVF_CNT
  | HST_TOKEN_FAIL_CNT | HST_FAILOVER_CNT | HST_STALE_CNT | HST_CQ_LATE_CNT | HST_CQ_REFUSE_CNT | HST_CQ_DROP_CNT
  | HST_IF_CFG | HST_IF_MAC_LO | HST_IF_MAC_HI | HST_IF_IP | HST_IF_DIP | HST_IF_DMAC_LO
  | HST_IF_DMAC_HI | HST_IF_UDP | HST_IF_STATUS | HST_TX_FRAME_CNT | HST_RX_FRAME_CNT | HST_RX_DROP_CNT
  | HST_FEC_CORR_CNT | HST_FEC_UNCORR_CNT | HST_ARP_CNT | HST_ICMP_CNT
  -- TIM, spec/14_host_time.md R431,R444
  | TIM_CTRL | TIM_SERVO_KP | TIM_SERVO_KI | TIM_STEP_THR | TIM_LOCK_CFG | TIM_PTP_CFG
  | TIM_TSADJ | TIM_STATUS | TIM_EVENT | TIM_EVENT_EN | TIM_NOW0 | TIM_NOW1
  | TIM_NOW2 | TIM_NOW3 | TIM_SET0 | TIM_SET1 | TIM_SET2 | TIM_SET3
  | TIM_SET_GO | TIM_ADJ_L | TIM_ADJ_H | TIM_INTEG_L | TIM_INTEG_H | TIM_OFS_LO
  | TIM_OFS_HI | TIM_MPD | TIM_MASTER_LO | TIM_MASTER_HI | TIM_MASTER_PORT | TIM_OFS_CNT
  | TIM_STEP_CNT | TIM_REJ_CNT | TIM_HOLD_CNT
  -- FAB, spec/15_fabric.md R453,R467
  | FAB_CTRL | FAB_CFG | FAB_PORT_EN | FAB_TOPO | FAB_EVENT | FAB_EVENT_EN
  | FAB_STATUS | FAB_ROOT_LO | FAB_ROOT_HI | FAB_NBR | FAB_TIME_CFG | FAB_PSTAT
  | FAB_POUT | FAB_NSER_LO | FAB_NSER_HI | FAB_CRC_CNT | FAB_REPLAY_CNT | FAB_DOWN_CNT
  | FAB_RELAY_CNT | FAB_NOROUTE_CNT | FAB_BADPKT_CNT | FAB_REDISC_CNT | FAB_READDR_CNT | FAB_CUE_LATE_CNT
  | FAB_DISC_CNT
  -- EVT, spec/16_events_counters.md R476,R484
  | EVT_CTRL | EVT_EVENT | EVT_EVENT_EN | EVT_LOOPED | EVT_SWFIRE | EVT_PINSTAT
  | EVT_TCAP0_LO | EVT_TCAP0_HI | EVT_TCAP1_LO | EVT_TCAP1_HI | EVT_YCAP_L | EVT_YCAP_H
  | EVT_PIN | EVT_CH | EVT_CELL | EVT_CELL_IN | EVT_OVR | EVT_LOOP_CNT
  | EVT_DROP_CNT
  -- PMC, spec/16_events_counters.md R481,R483
  | PMC_CTRL | PMC_WIN | PMC_EVENT | PMC_EVENT_EN | PMC_CYC_LO | PMC_CYC_HI
  | PMC_SEL | PMC_CNT_LO | PMC_CNT_HI | PMC_RES_LO | PMC_RES_HI
  -- THM, spec/18_thermal_power_faults.md R514,R541
  | THM_LIMITS | THM_THR_CFG | THM_SHED_HEADS | THM_EVENT | THM_EVENT_EN | THM_STATUS
  | THM_BROKEN | THM_FAST | THM_TS | THM_BRD | THM_BRDT | THM_WARN_CNT
  | THM_THR_CNT | THM_BROKEN_CNT | THM_I2C_ERR_CNT | THM_SHUT_CNT
  -- PWR, spec/18_thermal_power_faults.md R526,R542
  | PWR_CFG | PWR_VIN_CFG | PWR_EVENT | PWR_EVENT_EN | PWR_STATUS | PWR_LAST_SAVE
  | PWR_CB_STATUS | PWR_SAVE_LO | PWR_SAVE_HI | PWR_RAIL | PWR_CURTAIN_CNT | PWR_CKPT_CNT
  | PWR_RAIL_CNT | PWR_SLOT_BAD_CNT
  -- SEC, spec/17_startup_trust.md R497,R512
  | SEC_STATUS | SEC_EVENT | SEC_EVENT_EN | SEC_ROLLBACK | SEC_SERIAL_LO | SEC_SERIAL_HI
  | SEC_DARK | SEC_ATT_NONCE_LO | SEC_ATT_NONCE_HI | SEC_ATT_ID | SEC_ATT_CTRL | SEC_SIGFAIL_CNT
  | SEC_ATT_CNT | SEC_ATT_BUSY_CNT
  deriving DecidableEq

/-- The access types of R43. `RWA` is an RW field that its chapter lets software write in every mode although the rest of
its register is written only in LOAD (R565; STI_CTRL.REPORT_N and REPORT_EN, spec/06 R199). -/
inductive FTy where
  | RO | RW | RWS | W1C | W1S | WO | RC | RWA
  deriving DecidableEq, Repr

/-- One field of a register: where it lies, its access type and its reset value. -/
structure FieldSpec where
  lo : Nat
  width : Nat
  ty : FTy
  reset : Nat
  deriving DecidableEq, Repr

/-- How a register takes part in a pair of R46 to R48. -/
inductive PairRole where
  | none
  | low (hi : Reg)
  | high (lo : Reg)
  deriving DecidableEq

/-- One row of a register map: address of instance 0, the two strides of an indexed register, whether its RW and RWS
fields are written only in LOAD (R565), whether it lies in the keep domain (R485), and its fields. -/
structure RegInfo where
  base : Nat
  n1 : Nat
  s1 : Nat
  n2 : Nat
  s2 : Nat
  loadOnly : Bool
  keep : Bool
  fields : List FieldSpec
  deriving DecidableEq, Repr

/-- A named field of a register. -/
structure Fld where
  reg : Reg
  lo : Nat
  width : Nat
  deriving DecidableEq

end Sys2Proof.Machine
end

