-- ==== Sys2Proof/Machine/RegMap.lean ====
section
/-! DEFINITION. Machine/RegMap.lean: the register maps of the spec as data: address, strides, mode rule and fields of
every register (spec/02 R42 to R50 and the register-map tables of chapters 03 to 18), and a name for every field. -/

namespace Sys2Proof.Machine

/-- The registers of GLB, in the order of its map (spec/17_startup_trust.md, R503,R511). -/
def regsGLB : List Reg :=
  [.GLB_ID, .GLB_MODE, .GLB_CTRL, .GLB_STATUS, .GLB_EVENT, .GLB_EVENT_EN, .GLB_RUN_CFG, .GLB_REH_CFG, .GLB_VERIFY_CFG, .GLB_WAKE_CFG, .GLB_LOAD_STATUS, .GLB_LOAD_TIME, .GLB_IMG_VER, .GLB_ACC_ERR_CNT, .GLB_REFUSE_CNT, .GLB_HOLD_CNT, .GLB_STBY_CNT]

/-- The registers of CAM, in the order of its map (spec/03_camera_links.md, R109,R110). -/
def regsCAM : List Reg :=
  [.CAM_CTRL, .CAM_GEOM, .CAM_PIXELS, .CAM_TIMING, .CAM_STATUS, .CAM_EVENT, .CAM_EVENT_EN, .CAM_DESC_ID, .CAM_SERIAL_LO, .CAM_SERIAL_HI, .CAM_DESC_GEOM, .CAM_DESC_PIXELS, .CAM_DESC_TIMING, .CAM_TEMP, .CAM_CAL_SERIAL_LO, .CAM_CAL_SERIAL_HI, .CAM_CAL_REPAIR, .CAM_SID, .CAM_LAST_ERR, .CAM_LAST_LINE0_L, .CAM_LAST_LINE0_H, .CAM_LAST_LINE1_L, .CAM_LAST_LINE1_H, .CAM_SHORT_CNT, .CAM_LONG_CNT, .CAM_CRC_CNT, .CAM_MISSING_CNT, .CAM_ORDER_CNT, .CAM_EOL_TMO_CNT, .CAM_FIFO_OVF_CNT] ++
  [.CAM_SET_TMO_CNT, .CAM_SID_UNK_CNT, .CAM_CAMERR_CNT, .CAM_DESC_ERR_CNT, .CAM_RETRY_CNT, .CAM_MALF_RUN, .CAM_PREH_FAIL_CNT]

/-- The registers of COR, in the order of its map (spec/04_correction_colour.md, R145,R146). -/
def regsCOR : List Reg :=
  [.COR_CTRL, .COR_FF_CFG, .COR_FF_TOL, .COR_DARK_CFG, .COR_EVENT, .COR_EVENT_EN, .COR_FF_LAST, .COR_FF_STATE, .COR_STALE, .COR_OFS_OLD, .COR_BANK, .COR_HEAD_CFG, .COR_BAL_RG, .COR_BAL_B, .COR_EXP_CFG, .COR_EXP_LIM, .COR_EXP_STEP, .COR_EXP_STATE, .COR_REPLACED_CNT, .COR_CLIP_CNT, .COR_FF_ACCEPT_CNT, .COR_FF_FAIL_CNT, .COR_FF_REJ_CNT, .COR_EXP_CHANGE_CNT, .COR_EXP_LIMIT_CNT]

/-- The registers of AWF, in the order of its map (spec/05_along_web_filter.md, R160,R165). -/
def regsAWF : List Reg :=
  [.AWF_EVENT, .AWF_EVENT_EN, .AWF_REJ, .AWF_HEAD_CFG, .AWF_HEAD_STATE, .AWF_CLIP_CNT, .AWF_INV_OUT_CNT, .AWF_CHANGE_CNT, .AWF_REJ_CNT]

/-- The registers of STI, in the order of its map (spec/06_stitching.md, R171,R199). -/
def regsSTI : List Reg :=
  [.STI_CTRL, .STI_SEARCH, .STI_MERGE, .STI_EVENT, .STI_EVENT_EN, .STI_PITCH, .STI_X0_L, .STI_X0_H, .STI_WBUF_BASE_L, .STI_WBUF_BASE_H, .STI_ORDER, .STI_STATE0, .STI_STATE1, .STI_XR_CFG, .STI_PEND, .STI_MOUNT, .SEAM_CFG, .SEAM_OFS, .SEAM_SCALE, .SEAM_YOFS, .SEAM_STATUS, .SEAM_EST, .SEAM_EST2, .SEAM_DELAY, .STI_ACC_CNT, .STI_UNUSABLE_CNT, .STI_DISAGREE_CNT, .STI_MERGE_CNT, .STI_UNMERGED_CNT, .STI_MLIMIT_CNT] ++
  [.STI_WBUF_INV_CNT]

/-- The registers of SEG, in the order of its map (spec/07_segmentation.md, R211,R232). -/
def regsSEG : List Reg :=
  [.SEG_OVF_CFG, .SEG_EVENT, .SEG_EVENT_EN, .SEG_FIFO_STATUS, .SEG_LBL_STATUS, .SEG_LBL_PEAK, .SEG_OVF_STATE, .SEG_WARM_STATE, .SEG_LAST_OVF, .SEG_HEAD_CFG, .SEG_BG_CFG, .SEG_BG_LIM, .SEG_RUN_CNT_L, .SEG_RUN_CNT_H, .SEG_OVF_ENTER_CNT, .SEG_OVF_FIFO_CNT, .SEG_OVF_LBL_CNT, .SEG_OVF_CTX_CNT, .SEG_OVF_LINE_CNT, .SEG_CLUSTER_CNT, .SEG_MERGE_CNT, .SEG_FREEZE_REL_CNT, .SEG_WARM_CNT, .SEG_BACKSTOP_CNT, .SEG_THR]

/-- The registers of OBJ, in the order of its map (spec/08_defect_records.md, R249,R265). -/
def regsOBJ : List Reg :=
  [.OBJ_CTRL, .OBJ_BUDGET, .OBJ_GEOM, .OBJ_SNIP, .OBJ_REP_CFG, .OBJ_EVENT, .OBJ_EVENT_EN, .OBJ_CTX_STATUS, .OBJ_JOIN_STATUS, .OBJ_REP_CTRL, .OBJ_LAST_REP, .OBJ_OID_L, .OBJ_OID_H, .OBJ_REV, .OBJ_HEAD_CFG, .OBJ_CLASS_CFG, .OBJ_OPEN_CNT, .OBJ_CLOSE_CNT, .OBJ_UPDATE_CNT, .OBJ_SMALL_CNT, .OBJ_BUDGET_OVF_CNT, .OBJ_LATE_CNT, .OBJ_REPEAT_CNT, .OBJ_SNIP_DROP_CNT, .OBJ_MARK_DROP_CNT, .OBJ_SPILL_CNT, .OBJ_ACC_OVF_CNT, .OBJ_TRUNC_CNT, .OBJ_CLASS_CNT]

/-- The registers of POS, in the order of its map (spec/09_web_position.md, R276,R293). -/
def regsPOS : List Reg :=
  [.POS_CTRL, .POS_PITCH, .POS_CUE_MIN, .POS_BACKLASH, .POS_SPD_CFG, .POS_SPD_XOVER, .POS_ZCFG, .POS_SCALE_L, .POS_SCALE_H, .POS_Y0_L, .POS_Y0_H, .POS_LINE0_L, .POS_LINE0_H, .POS_STATUS, .POS_EVENT, .POS_EVENT_EN, .POS_SPEED, .POS_COUNT_L, .POS_COUNT_H, .POS_Y_L, .POS_Y_H, .POS_HWM_L, .POS_HWM_H, .POS_LINE_L, .POS_LINE_H, .POS_NEXT_L, .POS_NEXT_H, .POS_ZLATCH_L, .POS_ZLATCH_H, .POS_ZERR] ++
  [.POS_CHCFG, .POS_CPR, .POS_IDX, .POS_ROLL, .POS_EMU_CFG, .POS_EMU_CTL, .POS_EMU_STAT, .POS_QERR_CNT, .POS_WIRE_CNT, .POS_ENCFLT_CNT, .POS_SKIP_CNT, .POS_REV_CNT, .POS_ZSLIP_CNT, .POS_IDX_REJ_CNT, .POS_EMU_OVF_CNT, .POS_CUE_CNT_L, .POS_CUE_CNT_H]

/-- The registers of MRK, in the order of its map (spec/10_marking.md, R310,R313). -/
def regsMRK : List Reg :=
  [.MRK_CTRL, .MRK_LPITCH, .MRK_MARGIN, .MRK_LEAD, .MRK_BURST, .MRK_CUE_LEN, .MRK_ADV, .MRK_EVENT, .MRK_EVENT_EN, .MRK_SCHED, .MRK_PCTL, .MRK_DIST, .MRK_X0_L, .MRK_X0_H, .MRK_XPITCH, .MRK_STRW01, .MRK_STRW23, .MRK_BAND, .MRK_TLIM, .MRK_LATCH, .MRK_PSTAT, .MRK_REQ_CNT, .MRK_PLACED_CNT, .MRK_NOTPL_CNT, .MRK_SUPP_LINE_CNT, .MRK_WD_CNT, .MRK_STRETCH_CNT, .MRK_SPLIT_CNT, .MRK_STAT_ERR_CNT]

/-- The registers of ARC, in the order of its map (spec/11_archive_dma.md, R314,R355). -/
def regsARC : List Reg :=
  [.ARC_CTRL, .ARC_SNIP_CFG, .ARC_STRIP_CFG, .ARC_EVENT, .ARC_EVENT_EN, .ARC_JOBQ, .ARC_CTXSAVE_L, .ARC_CTXSAVE_H, .ARC_HREQ_JOB, .ARC_HREQ_CTRL, .ARC_HREQ_XLO_L, .ARC_HREQ_XLO_H, .ARC_HREQ_XHI_L, .ARC_HREQ_XHI_H, .ARC_HREQ_YLO_L, .ARC_HREQ_YLO_H, .ARC_HREQ_YHI_L, .ARC_HREQ_YHI_H, .ARC_HREQ_GO, .ARC_HEAD_CFG, .ARC_RING_BASE_L, .ARC_RING_BASE_H, .ARC_RING_ROWS, .ARC_IDX_BASE_L, .ARC_IDX_BASE_H, .ARC_FRONT_L, .ARC_FRONT_H, .ARC_BLK_CNT_L, .ARC_BLK_CNT_H, .ARC_OVER_CNT] ++
  [.ARC_RETRY_CNT, .ARC_CODEC_FAULT_CNT, .ARC_WERR_CNT, .ARC_BADROW_CNT, .ARC_JOB_CNT, .ARC_LIMIT_CNT, .ARC_PARTIAL_CNT, .ARC_SHED_CNT, .ARC_REFUSE_CNT]

/-- The registers of DMA, in the order of its map (spec/11_archive_dma.md, R344,R356). -/
def regsDMA : List Reg :=
  [.DMA_CTRL, .DMA_STATUS, .DMA_EVENT, .DMA_EVENT_EN, .DMA_ERRLOG, .DMA_ERRPOP, .DMA_SCTRL, .DMA_SSRC_L, .DMA_SSRC_H, .DMA_SDST_L, .DMA_SDST_H, .DMA_ACTRL, .DMA_ASRC_L, .DMA_ASRC_H, .DMA_ADST_L, .DMA_ADST_H, .DMA_AREM, .DMA_AIDX, .DMA_ARES, .DMA_XFER_CNT, .DMA_BADDESC_CNT, .DMA_TMO_CNT, .DMA_ERRLOG_OVF_CNT]

/-- The registers of MEM, in the order of its map (spec/12_memory.md, R357,R387). -/
def regsMEM : List Reg :=
  [.MEM_CFG, .MEM_STATUS, .MEM_EVENT, .MEM_EVENT_EN, .MEM_HASH0, .MEM_HASH1, .MEM_HASH2, .MEM_HASH3, .MEM_REF_CFG, .MEM_DERATE, .MEM_BAND, .MEM_DEBT0, .MEM_DEBT1, .MEM_FSP_CFG, .MEM_FSP_CTRL, .MEM_TRN_CFG, .MEM_TRN_STATUS, .MEM_MIG_CFG, .MEM_MIG_PTR_L, .MEM_MIG_PTR_H, .MEM_RMAP, .MEM_UE_ADDR_L, .MEM_UE_ADDR_H, .MEM_UE_INFO, .MEM_QOS, .MEM_PSTAT, .MEM_CE_CNT, .MEM_UE_CNT, .MEM_CRC_RETRY_CNT, .MEM_POISON_CNT] ++
  [.MEM_POISON_RD_CNT, .MEM_PULLIN_CNT, .MEM_MIGR_RD_CNT, .MEM_FSP_CNT, .MEM_FSP_REFUSE_CNT, .MEM_SCRUB_FIX_CNT, .MEM_LATE_CNT, .MEM_PANIC_CNT]

/-- The registers of LNE, in the order of its map (spec/13_serial_lanes.md, R392,R407). -/
def regsLNE : List Reg :=
  [.LNE_CTRL, .LNE_STATUS, .LNE_EVENT, .LNE_EVENT_EN, .LNE_BER_CFG, .LNE_LAST, .LNE_CFG, .LNE_TXEQ, .LNE_CTL, .LNE_STATE, .LNE_TEST, .LNE_TSTAT, .LNE_RXEQ, .LNE_BER_RES, .LNE_PRBS_ERR, .LNE_RETRAIN_CNT, .LNE_LOCKLOSS_CNT, .LNE_HDR_ERR_CNT]

/-- The registers of HST, in the order of its map (spec/14_host_time.md, R408,R443). -/
def regsHST : List Reg :=
  [.HST_CTRL, .HST_TX_CFG, .HST_CLASS_CFG, .HST_MGMT_CFG, .HST_EVENT, .HST_EVENT_EN, .HST_STATUS, .HST_LAST_DENY, .HST_QSTAT0, .HST_QSTAT1, .HST_PCFG, .HST_CQ_TLO, .HST_CQ_THI, .HST_CQ_PUSH, .HST_CQ_STAT, .HST_CQ_TS_LO, .HST_CQ_TS_HI, .HST_CQ_GUARD, .HST_DROP_CUE_CNT, .HST_DROP_ROUTINE_CNT, .HST_DROP_BULK_CNT, .HST_MGMT_REQ_CNT, .HST_MGMT_DENY_CNT, .HST_MGMT_OVF_CNT, .HST_TOKEN_FAIL_CNT, .HST_FAILOVER_CNT, .HST_STALE_CNT, .HST_CQ_LATE_CNT, .HST_CQ_REFUSE_CNT, .HST_CQ_DROP_CNT] ++
  [.HST_IF_CFG, .HST_IF_MAC_LO, .HST_IF_MAC_HI, .HST_IF_IP, .HST_IF_DIP, .HST_IF_DMAC_LO, .HST_IF_DMAC_HI, .HST_IF_UDP, .HST_IF_STATUS, .HST_TX_FRAME_CNT, .HST_RX_FRAME_CNT, .HST_RX_DROP_CNT, .HST_FEC_CORR_CNT, .HST_FEC_UNCORR_CNT, .HST_ARP_CNT, .HST_ICMP_CNT]

/-- The registers of TIM, in the order of its map (spec/14_host_time.md, R431,R444). -/
def regsTIM : List Reg :=
  [.TIM_CTRL, .TIM_SERVO_KP, .TIM_SERVO_KI, .TIM_STEP_THR, .TIM_LOCK_CFG, .TIM_PTP_CFG, .TIM_TSADJ, .TIM_STATUS, .TIM_EVENT, .TIM_EVENT_EN, .TIM_NOW0, .TIM_NOW1, .TIM_NOW2, .TIM_NOW3, .TIM_SET0, .TIM_SET1, .TIM_SET2, .TIM_SET3, .TIM_SET_GO, .TIM_ADJ_L, .TIM_ADJ_H, .TIM_INTEG_L, .TIM_INTEG_H, .TIM_OFS_LO, .TIM_OFS_HI, .TIM_MPD, .TIM_MASTER_LO, .TIM_MASTER_HI, .TIM_MASTER_PORT, .TIM_OFS_CNT] ++
  [.TIM_STEP_CNT, .TIM_REJ_CNT, .TIM_HOLD_CNT]

/-- The registers of FAB, in the order of its map (spec/15_fabric.md, R453,R467). -/
def regsFAB : List Reg :=
  [.FAB_CTRL, .FAB_CFG, .FAB_PORT_EN, .FAB_TOPO, .FAB_EVENT, .FAB_EVENT_EN, .FAB_STATUS, .FAB_ROOT_LO, .FAB_ROOT_HI, .FAB_NBR, .FAB_TIME_CFG, .FAB_PSTAT, .FAB_POUT, .FAB_NSER_LO, .FAB_NSER_HI, .FAB_CRC_CNT, .FAB_REPLAY_CNT, .FAB_DOWN_CNT, .FAB_RELAY_CNT, .FAB_NOROUTE_CNT, .FAB_BADPKT_CNT, .FAB_REDISC_CNT, .FAB_READDR_CNT, .FAB_CUE_LATE_CNT, .FAB_DISC_CNT]

/-- The registers of EVT, in the order of its map (spec/16_events_counters.md, R476,R484). -/
def regsEVT : List Reg :=
  [.EVT_CTRL, .EVT_EVENT, .EVT_EVENT_EN, .EVT_LOOPED, .EVT_SWFIRE, .EVT_PINSTAT, .EVT_TCAP0_LO, .EVT_TCAP0_HI, .EVT_TCAP1_LO, .EVT_TCAP1_HI, .EVT_YCAP_L, .EVT_YCAP_H, .EVT_PIN, .EVT_CH, .EVT_CELL, .EVT_CELL_IN, .EVT_OVR, .EVT_LOOP_CNT, .EVT_DROP_CNT]

/-- The registers of PMC, in the order of its map (spec/16_events_counters.md, R481,R483). -/
def regsPMC : List Reg :=
  [.PMC_CTRL, .PMC_WIN, .PMC_EVENT, .PMC_EVENT_EN, .PMC_CYC_LO, .PMC_CYC_HI, .PMC_SEL, .PMC_CNT_LO, .PMC_CNT_HI, .PMC_RES_LO, .PMC_RES_HI]

/-- The registers of THM, in the order of its map (spec/18_thermal_power_faults.md, R514,R541). -/
def regsTHM : List Reg :=
  [.THM_LIMITS, .THM_THR_CFG, .THM_SHED_HEADS, .THM_EVENT, .THM_EVENT_EN, .THM_STATUS, .THM_BROKEN, .THM_FAST, .THM_TS, .THM_BRD, .THM_BRDT, .THM_WARN_CNT, .THM_THR_CNT, .THM_BROKEN_CNT, .THM_I2C_ERR_CNT, .THM_SHUT_CNT]

/-- The registers of PWR, in the order of its map (spec/18_thermal_power_faults.md, R526,R542). -/
def regsPWR : List Reg :=
  [.PWR_CFG, .PWR_VIN_CFG, .PWR_EVENT, .PWR_EVENT_EN, .PWR_STATUS, .PWR_LAST_SAVE, .PWR_CB_STATUS, .PWR_SAVE_LO, .PWR_SAVE_HI, .PWR_RAIL, .PWR_CURTAIN_CNT, .PWR_CKPT_CNT, .PWR_RAIL_CNT, .PWR_SLOT_BAD_CNT]

/-- The registers of SEC, in the order of its map (spec/17_startup_trust.md, R497,R512). -/
def regsSEC : List Reg :=
  [.SEC_STATUS, .SEC_EVENT, .SEC_EVENT_EN, .SEC_ROLLBACK, .SEC_SERIAL_LO, .SEC_SERIAL_HI, .SEC_DARK, .SEC_ATT_NONCE_LO, .SEC_ATT_NONCE_HI, .SEC_ATT_ID, .SEC_ATT_CTRL, .SEC_SIGFAIL_CNT, .SEC_ATT_CNT, .SEC_ATT_BUSY_CNT]

/-- The row of a register in its map. -/
def Reg.info (r : Reg) : RegInfo :=
  match r with
  | .GLB_ID => ⟨0x00000000, 1, 0x0, 1, 0, false, false, [⟨16, 16, .RO, 0x8016⟩, ⟨8, 8, .RO, 0x10⟩]⟩
  | .GLB_MODE => ⟨0x00000004, 1, 0x0, 1, 0, false, false, [⟨0, 3, .RO, 0⟩]⟩
  | .GLB_CTRL => ⟨0x00000008, 1, 0x0, 1, 0, false, false, [⟨4, 1, .W1S, 0⟩, ⟨3, 1, .W1S, 0⟩, ⟨2, 1, .W1S, 0⟩, ⟨1, 1, .W1S, 0⟩, ⟨0, 1, .W1S, 0⟩]⟩
  | .GLB_STATUS => ⟨0x0000000c, 1, 0x0, 1, 0, false, false, [⟨28, 4, .RO, 0⟩, ⟨8, 1, .RO, 0⟩, ⟨7, 1, .RO, 0⟩, ⟨6, 1, .RO, 0⟩, ⟨5, 1, .RO, 0⟩, ⟨4, 1, .RO, 0⟩, ⟨3, 1, .RO, 0⟩, ⟨2, 1, .RO, 0⟩, ⟨1, 1, .RO, 0⟩, ⟨0, 1, .RO, 0⟩]⟩
  | .GLB_EVENT => ⟨0x00000010, 1, 0x0, 1, 0, false, false, [⟨5, 1, .W1C, 0⟩, ⟨4, 1, .W1C, 0⟩, ⟨3, 1, .W1C, 0⟩, ⟨2, 1, .W1C, 0⟩, ⟨1, 1, .W1C, 0⟩, ⟨0, 1, .W1C, 0⟩]⟩
  | .GLB_EVENT_EN => ⟨0x00000014, 1, 0x0, 1, 0, true, false, [⟨0, 6, .RW, 0⟩]⟩
  | .GLB_RUN_CFG => ⟨0x00000018, 1, 0x0, 1, 0, true, false, [⟨31, 1, .RW, 1⟩, ⟨30, 1, .RW, 1⟩, ⟨0, 26, .RW, 0x186a0⟩]⟩
  | .GLB_REH_CFG => ⟨0x0000001c, 1, 0x0, 1, 0, true, false, [⟨16, 16, .RW, 0x100⟩, ⟨0, 8, .RW, 0x10⟩]⟩
  | .GLB_VERIFY_CFG => ⟨0x00000020, 1, 0x0, 1, 0, true, false, [⟨16, 16, .RW, 0x40⟩, ⟨2, 1, .RW, 1⟩, ⟨1, 1, .RW, 1⟩, ⟨0, 1, .RW, 1⟩]⟩
  | .GLB_WAKE_CFG => ⟨0x00000024, 1, 0x0, 1, 0, true, false, [⟨16, 16, .RW, 0⟩, ⟨2, 1, .RW, 1⟩, ⟨1, 1, .RW, 1⟩, ⟨0, 1, .RW, 1⟩]⟩
  | .GLB_LOAD_STATUS => ⟨0x00000028, 1, 0x0, 1, 0, false, false, [⟨28, 4, .RO, 0⟩, ⟨24, 1, .RO, 0⟩, ⟨23, 1, .RO, 0⟩, ⟨22, 1, .RO, 0⟩, ⟨16, 4, .RO, 0⟩, ⟨0, 8, .RO, 0⟩]⟩
  | .GLB_LOAD_TIME => ⟨0x0000002c, 1, 0x0, 1, 0, false, false, [⟨0, 32, .RO, 0⟩]⟩
  | .GLB_IMG_VER => ⟨0x00000030, 1, 0x0, 1, 0, false, false, [⟨0, 32, .RO, 0⟩]⟩
  | .GLB_ACC_ERR_CNT => ⟨0x00000040, 1, 0x0, 1, 0, false, false, [⟨0, 32, .RC, 0⟩]⟩
  | .GLB_REFUSE_CNT => ⟨0x00000044, 1, 0x0, 1, 0, false, false, [⟨0, 32, .RC, 0⟩]⟩
  | .GLB_HOLD_CNT => ⟨0x00000048, 1, 0x0, 1, 0, false, false, [⟨0, 32, .RC, 0⟩]⟩
  | .GLB_STBY_CNT => ⟨0x0000004c, 1, 0x0, 1, 0, false, false, [⟨0, 32, .RC, 0⟩]⟩
  | .CAM_CTRL => ⟨0x00100000, 16, 0x10000, 1, 0, false, false, [⟨8, 1, .W1S, 0⟩, ⟨2, 1, .RW, 1⟩, ⟨1, 1, .RW, 1⟩, ⟨0, 1, .RW, 0⟩]⟩
  | .CAM_GEOM => ⟨0x00100004, 16, 0x10000, 1, 0, true, false, [⟨13, 1, .RW, 0⟩, ⟨12, 1, .RW, 0⟩, ⟨8, 4, .RW, 0⟩, ⟨4, 4, .RW, 0⟩, ⟨0, 2, .RW, 0⟩]⟩
  | .CAM_PIXELS => ⟨0x00100008, 16, 0x10000, 1, 0, true, false, [⟨16, 16, .RW, 0⟩, ⟨0, 16, .RW, 0⟩]⟩
  | .CAM_TIMING => ⟨0x0010000c, 16, 0x10000, 1, 0, true, false, [⟨16, 12, .RW, 0⟩, ⟨0, 16, .RW, 0x1f4⟩]⟩
  | .CAM_STATUS => ⟨0x00100010, 16, 0x10000, 1, 0, false, false, [⟨8, 8, .RO, 0⟩, ⟨7, 1, .RO, 0⟩, ⟨6, 1, .RO, 0⟩, ⟨5, 1, .RO, 0⟩, ⟨4, 1, .RO, 0⟩, ⟨0, 3, .RO, 0⟩]⟩
  | .CAM_EVENT => ⟨0x00100014, 16, 0x10000, 1, 0, false, false, [⟨10, 1, .W1C, 0⟩, ⟨9, 1, .W1C, 0⟩, ⟨8, 1, .W1C, 0⟩, ⟨7, 1, .W1C, 0⟩, ⟨6, 1, .W1C, 0⟩, ⟨5, 1, .W1C, 0⟩, ⟨4, 1, .W1C, 0⟩, ⟨3, 1, .W1C, 0⟩, ⟨2, 1, .W1C, 0⟩, ⟨1, 1, .W1C, 0⟩, ⟨0, 1, .W1C, 0⟩]⟩
  | .CAM_EVENT_EN => ⟨0x00100018, 16, 0x10000, 1, 0, false, false, [⟨0, 11, .RW, 0⟩]⟩
  | .CAM_DESC_ID => ⟨0x00100020, 16, 0x10000, 1, 0, false, false, [⟨16, 16, .RO, 0⟩, ⟨0, 16, .RO, 0⟩]⟩
  | .CAM_SERIAL_LO => ⟨0x00100024, 16, 0x10000, 1, 0, false, false, [⟨0, 32, .RO, 0⟩]⟩
  | .CAM_SERIAL_HI => ⟨0x00100028, 16, 0x10000, 1, 0, false, false, [⟨0, 32, .RO, 0⟩]⟩
  | .CAM_DESC_GEOM => ⟨0x0010002c, 16, 0x10000, 1, 0, false, false, [⟨30, 2, .RO, 0⟩, ⟨26, 4, .RO, 0⟩, ⟨22, 4, .RO, 0⟩, ⟨21, 1, .RO, 0⟩, ⟨20, 1, .RO, 0⟩, ⟨0, 16, .RO, 0⟩]⟩
  | .CAM_DESC_PIXELS => ⟨0x00100030, 16, 0x10000, 1, 0, false, false, [⟨16, 16, .RO, 0⟩, ⟨0, 16, .RO, 0⟩]⟩
  | .CAM_DESC_TIMING => ⟨0x00100034, 16, 0x10000, 1, 0, false, false, [⟨24, 8, .RO, 0⟩, ⟨0, 20, .RO, 0⟩]⟩
  | .CAM_TEMP => ⟨0x00100038, 16, 0x10000, 1, 0, false, false, [⟨31, 1, .RO, 0⟩, ⟨16, 12, .RO, 0⟩, ⟨15, 1, .RO, 0⟩, ⟨0, 12, .RO, 0⟩]⟩
  | .CAM_CAL_SERIAL_LO => ⟨0x00100040, 16, 0x10000, 1, 0, false, false, [⟨0, 32, .RO, 0⟩]⟩
  | .CAM_CAL_SERIAL_HI => ⟨0x00100044, 16, 0x10000, 1, 0, false, false, [⟨0, 32, .RO, 0⟩]⟩
  | .CAM_CAL_REPAIR => ⟨0x00100048, 16, 0x10000, 1, 0, false, false, [⟨0, 16, .RO, 0⟩]⟩
  | .CAM_SID => ⟨0x00100050, 16, 0x10000, 1, 0, false, false, [⟨24, 8, .RO, 0⟩, ⟨16, 8, .RO, 0⟩, ⟨8, 8, .RO, 0⟩]⟩
  | .CAM_LAST_ERR => ⟨0x00100054, 16, 0x10000, 1, 0, false, false, [⟨24, 8, .RO, 0⟩, ⟨23, 1, .RO, 0⟩, ⟨0, 23, .RO, 0⟩]⟩
  | .CAM_LAST_LINE0_L => ⟨0x00100058, 16, 0x10000, 1, 0, false, false, [⟨0, 32, .RO, 0⟩]⟩
  | .CAM_LAST_LINE0_H => ⟨0x0010005c, 16, 0x10000, 1, 0, false, false, [⟨0, 8, .RO, 0⟩]⟩
  | .CAM_LAST_LINE1_L => ⟨0x00100060, 16, 0x10000, 1, 0, false, false, [⟨0, 32, .RO, 0⟩]⟩
  | .CAM_LAST_LINE1_H => ⟨0x00100064, 16, 0x10000, 1, 0, false, false, [⟨0, 8, .RO, 0⟩]⟩
  | .CAM_SHORT_CNT => ⟨0x00100100, 16, 0x10000, 1, 0, false, false, [⟨0, 32, .RC, 0⟩]⟩
  | .CAM_LONG_CNT => ⟨0x00100104, 16, 0x10000, 1, 0, false, false, [⟨0, 32, .RC, 0⟩]⟩
  | .CAM_CRC_CNT => ⟨0x00100108, 16, 0x10000, 1, 0, false, false, [⟨0, 32, .RC, 0⟩]⟩
  | .CAM_MISSING_CNT => ⟨0x0010010c, 16, 0x10000, 1, 0, false, false, [⟨0, 32, .RC, 0⟩]⟩
  | .CAM_ORDER_CNT => ⟨0x00100110, 16, 0x10000, 1, 0, false, false, [⟨0, 32, .RC, 0⟩]⟩
  | .CAM_EOL_TMO_CNT => ⟨0x00100114, 16, 0x10000, 1, 0, false, false, [⟨0, 32, .RC, 0⟩]⟩
  | .CAM_FIFO_OVF_CNT => ⟨0x00100118, 16, 0x10000, 1, 0, false, false, [⟨0, 32, .RC, 0⟩]⟩
  | .CAM_SET_TMO_CNT => ⟨0x0010011c, 16, 0x10000, 1, 0, false, false, [⟨0, 32, .RC, 0⟩]⟩
  | .CAM_SID_UNK_CNT => ⟨0x00100120, 16, 0x10000, 1, 0, false, false, [⟨0, 32, .RC, 0⟩]⟩
  | .CAM_CAMERR_CNT => ⟨0x00100124, 16, 0x10000, 1, 0, false, false, [⟨0, 32, .RC, 0⟩]⟩
  | .CAM_DESC_ERR_CNT => ⟨0x00100128, 16, 0x10000, 1, 0, false, false, [⟨0, 32, .RC, 0⟩]⟩
  | .CAM_RETRY_CNT => ⟨0x0010012c, 16, 0x10000, 1, 0, false, false, [⟨0, 32, .RC, 0⟩]⟩
  | .CAM_MALF_RUN => ⟨0x00100130, 16, 0x10000, 1, 0, false, false, [⟨0, 5, .RO, 0⟩]⟩
  | .CAM_PREH_FAIL_CNT => ⟨0x00100134, 16, 0x10000, 1, 0, false, false, [⟨0, 32, .RC, 0⟩]⟩
  | .COR_CTRL => ⟨0x00200000, 1, 0x0, 1, 0, false, false, [⟨2, 1, .RW, 1⟩, ⟨1, 1, .RW, 1⟩, ⟨0, 1, .RW, 1⟩]⟩
  | .COR_FF_CFG => ⟨0x00200004, 1, 0x0, 1, 0, false, false, [⟨16, 8, .RW, 0x40⟩, ⟨8, 5, .RW, 8⟩, ⟨0, 4, .RW, 4⟩]⟩
  | .COR_FF_TOL => ⟨0x00200008, 1, 0x0, 1, 0, false, false, [⟨24, 8, .RW, 0xa⟩, ⟨16, 8, .RW, 0xa⟩, ⟨8, 8, .RW, 2⟩, ⟨0, 8, .RW, 5⟩]⟩
  | .COR_DARK_CFG => ⟨0x0020000c, 1, 0x0, 1, 0, false, false, [⟨0, 13, .RW, 0x40⟩]⟩
  | .COR_EVENT => ⟨0x00200010, 1, 0x0, 1, 0, false, false, [⟨4, 1, .W1C, 0⟩, ⟨3, 1, .W1C, 0⟩, ⟨2, 1, .W1C, 0⟩, ⟨1, 1, .W1C, 0⟩, ⟨0, 1, .W1C, 0⟩]⟩
  | .COR_EVENT_EN => ⟨0x00200014, 1, 0x0, 1, 0, false, false, [⟨0, 5, .RW, 0⟩]⟩
  | .COR_FF_LAST => ⟨0x00200018, 1, 0x0, 1, 0, false, false, [⟨27, 5, .RO, 0⟩, ⟨24, 3, .RO, 0⟩, ⟨0, 15, .RO, 0⟩]⟩
  | .COR_FF_STATE => ⟨0x00200020, 2, 0x4, 1, 0, false, false, [⟨0, 32, .RO, 0⟩]⟩
  | .COR_STALE => ⟨0x00200028, 1, 0x0, 1, 0, false, false, [⟨0, 32, .RO, 0⟩]⟩
  | .COR_OFS_OLD => ⟨0x0020002c, 1, 0x0, 1, 0, false, false, [⟨0, 32, .RO, 0⟩]⟩
  | .COR_BANK => ⟨0x00200030, 1, 0x0, 1, 0, false, false, [⟨0, 32, .RO, 0⟩]⟩
  | .COR_HEAD_CFG => ⟨0x00200100, 32, 0x4, 1, 0, false, false, [⟨3, 1, .RWS, 1⟩, ⟨2, 1, .RWS, 1⟩, ⟨1, 1, .RWS, 1⟩, ⟨0, 1, .RWS, 1⟩]⟩
  | .COR_BAL_RG => ⟨0x00200180, 32, 0x8, 1, 0, false, false, [⟨16, 16, .RWS, 0x4000⟩, ⟨0, 16, .RWS, 0x4000⟩]⟩
  | .COR_BAL_B => ⟨0x00200184, 32, 0x8, 1, 0, false, false, [⟨0, 16, .RWS, 0x4000⟩]⟩
  | .COR_EXP_CFG => ⟨0x00200300, 16, 0x10, 1, 0, false, false, [⟨16, 16, .RW, 0xb000⟩, ⟨8, 8, .RW, 0x62⟩, ⟨0, 1, .RW, 0⟩]⟩
  | .COR_EXP_LIM => ⟨0x00200304, 16, 0x10, 1, 0, false, false, [⟨16, 16, .RW, 0x140⟩, ⟨0, 16, .RW, 0x32⟩]⟩
  | .COR_EXP_STEP => ⟨0x00200308, 16, 0x10, 1, 0, false, false, [⟨16, 16, .RW, 0x40⟩, ⟨8, 8, .RW, 0x80⟩, ⟨4, 4, .RW, 4⟩, ⟨0, 4, .RW, 2⟩]⟩
  | .COR_EXP_STATE => ⟨0x0020030c, 16, 0x10, 1, 0, false, false, [⟨16, 16, .RO, 0⟩, ⟨8, 8, .RO, 0⟩, ⟨7, 1, .RO, 0⟩, ⟨6, 1, .RO, 0⟩]⟩
  | .COR_REPLACED_CNT => ⟨0x00200400, 1, 0x0, 1, 0, false, false, [⟨0, 32, .RC, 0⟩]⟩
  | .COR_CLIP_CNT => ⟨0x00200404, 1, 0x0, 1, 0, false, false, [⟨0, 32, .RC, 0⟩]⟩
  | .COR_FF_ACCEPT_CNT => ⟨0x00200408, 1, 0x0, 1, 0, false, false, [⟨0, 32, .RC, 0⟩]⟩
  | .COR_FF_FAIL_CNT => ⟨0x0020040c, 1, 0x0, 1, 0, false, false, [⟨0, 32, .RC, 0⟩]⟩
  | .COR_FF_REJ_CNT => ⟨0x00200410, 1, 0x0, 1, 0, false, false, [⟨0, 32, .RC, 0⟩]⟩
  | .COR_EXP_CHANGE_CNT => ⟨0x00200414, 1, 0x0, 1, 0, false, false, [⟨0, 32, .RC, 0⟩]⟩
  | .COR_EXP_LIMIT_CNT => ⟨0x00200418, 1, 0x0, 1, 0, false, false, [⟨0, 32, .RC, 0⟩]⟩
  | .AWF_EVENT => ⟨0x00300000, 1, 0x0, 1, 0, false, false, [⟨3, 1, .W1C, 0⟩, ⟨2, 1, .W1C, 0⟩, ⟨1, 1, .W1C, 0⟩, ⟨0, 1, .W1C, 0⟩]⟩
  | .AWF_EVENT_EN => ⟨0x00300004, 1, 0x0, 1, 0, false, false, [⟨0, 4, .RW, 0⟩]⟩
  | .AWF_REJ => ⟨0x00300008, 1, 0x0, 1, 0, false, false, [⟨27, 5, .RO, 0⟩, ⟨16, 5, .RO, 0⟩, ⟨8, 3, .RO, 0⟩]⟩
  | .AWF_HEAD_CFG => ⟨0x00300100, 32, 0x4, 1, 0, false, false, [⟨8, 3, .RWS, 0⟩, ⟨0, 5, .RWS, 0⟩]⟩
  | .AWF_HEAD_STATE => ⟨0x00300200, 32, 0x4, 1, 0, false, false, [⟨16, 11, .RO, 0⟩, ⟨8, 3, .RO, 0⟩, ⟨0, 5, .RO, 0⟩]⟩
  | .AWF_CLIP_CNT => ⟨0x00300400, 1, 0x0, 1, 0, false, false, [⟨0, 32, .RC, 0⟩]⟩
  | .AWF_INV_OUT_CNT => ⟨0x00300404, 1, 0x0, 1, 0, false, false, [⟨0, 32, .RC, 0⟩]⟩
  | .AWF_CHANGE_CNT => ⟨0x00300408, 1, 0x0, 1, 0, false, false, [⟨0, 32, .RC, 0⟩]⟩
  | .AWF_REJ_CNT => ⟨0x0030040c, 1, 0x0, 1, 0, false, false, [⟨0, 32, .RC, 0⟩]⟩
  | .STI_CTRL => ⟨0x00400000, 1, 0x0, 1, 0, true, false, [⟨16, 4, .RW, 4⟩, ⟨8, 8, .RWA, 0⟩, ⟨2, 1, .RW, 0⟩, ⟨1, 1, .RWA, 1⟩, ⟨0, 1, .RW, 1⟩]⟩
  | .STI_SEARCH => ⟨0x00400004, 1, 0x0, 1, 0, true, false, [⟨24, 8, .RW, 0x32⟩, ⟨16, 8, .RW, 0x9a⟩, ⟨8, 3, .RW, 2⟩, ⟨0, 4, .RW, 4⟩]⟩
  | .STI_MERGE => ⟨0x00400008, 1, 0x0, 1, 0, true, false, [⟨16, 16, .RW, 0x3e8⟩, ⟨4, 3, .RW, 1⟩, ⟨0, 3, .RW, 0⟩]⟩
  | .STI_EVENT => ⟨0x0040000c, 1, 0x0, 1, 0, false, false, [⟨6, 1, .W1C, 0⟩, ⟨5, 1, .W1C, 0⟩, ⟨4, 1, .W1C, 0⟩, ⟨3, 1, .W1C, 0⟩, ⟨2, 1, .W1C, 0⟩, ⟨1, 1, .W1C, 0⟩, ⟨0, 1, .W1C, 0⟩]⟩
  | .STI_EVENT_EN => ⟨0x00400010, 1, 0x0, 1, 0, true, false, [⟨0, 7, .RW, 0⟩]⟩
  | .STI_PITCH => ⟨0x00400014, 1, 0x0, 1, 0, true, false, [⟨0, 32, .RW, 0⟩]⟩
  | .STI_X0_L => ⟨0x00400018, 1, 0x0, 1, 0, true, false, [⟨0, 32, .RW, 0⟩]⟩
  | .STI_X0_H => ⟨0x0040001c, 1, 0x0, 1, 0, true, false, [⟨0, 8, .RW, 0⟩]⟩
  | .STI_WBUF_BASE_L => ⟨0x00400020, 1, 0x0, 1, 0, true, false, [⟨31, 1, .RW, 0⟩]⟩
  | .STI_WBUF_BASE_H => ⟨0x00400024, 1, 0x0, 1, 0, true, false, [⟨0, 8, .RW, 0⟩]⟩
  | .STI_ORDER => ⟨0x00400028, 8, 0x4, 1, 0, true, false, [⟨31, 1, .RW, 0⟩, ⟨24, 5, .RW, 0⟩, ⟨23, 1, .RW, 0⟩, ⟨16, 5, .RW, 0⟩, ⟨15, 1, .RW, 0⟩, ⟨8, 5, .RW, 0⟩, ⟨7, 1, .RW, 0⟩, ⟨0, 5, .RW, 0⟩]⟩
  | .STI_STATE0 => ⟨0x00400048, 1, 0x0, 1, 0, false, false, [⟨0, 32, .RO, 0⟩]⟩
  | .STI_STATE1 => ⟨0x0040004c, 1, 0x0, 1, 0, false, false, [⟨0, 32, .RO, 0⟩]⟩
  | .STI_XR_CFG => ⟨0x00400050, 1, 0x0, 1, 0, true, false, [⟨16, 11, .RW, 0⟩, ⟨0, 16, .RW, 0⟩]⟩
  | .STI_PEND => ⟨0x00400054, 1, 0x0, 1, 0, false, false, [⟨0, 16, .RO, 0⟩]⟩
  | .STI_MOUNT => ⟨0x00400100, 32, 0x4, 1, 0, true, false, [⟨0, 32, .RW, 0⟩]⟩
  | .SEAM_CFG => ⟨0x00400400, 32, 0x20, 1, 0, true, false, [⟨31, 1, .RW, 1⟩, ⟨30, 1, .RW, 0⟩, ⟨16, 11, .RW, 0⟩, ⟨0, 16, .RW, 0⟩]⟩
  | .SEAM_OFS => ⟨0x00400404, 32, 0x20, 1, 0, false, false, [⟨0, 24, .RWS, 0⟩]⟩
  | .SEAM_SCALE => ⟨0x00400408, 32, 0x20, 1, 0, false, false, [⟨0, 24, .RWS, 0⟩]⟩
  | .SEAM_YOFS => ⟨0x0040040c, 32, 0x20, 1, 0, false, false, [⟨0, 16, .RWS, 0⟩]⟩
  | .SEAM_STATUS => ⟨0x00400410, 32, 0x20, 1, 0, false, false, [⟨30, 2, .RO, 0⟩, ⟨26, 4, .RO, 0⟩, ⟨16, 8, .RO, 0⟩, ⟨0, 16, .RO, 0⟩]⟩
  | .SEAM_EST => ⟨0x00400414, 32, 0x20, 1, 0, false, false, [⟨16, 16, .RO, 0⟩, ⟨0, 16, .RO, 0⟩]⟩
  | .SEAM_EST2 => ⟨0x00400418, 32, 0x20, 1, 0, false, false, [⟨16, 16, .RO, 0⟩, ⟨8, 8, .RO, 0⟩, ⟨0, 8, .RO, 0⟩]⟩
  | .SEAM_DELAY => ⟨0x0040041c, 32, 0x20, 1, 0, false, false, [⟨15, 1, .RO, 0⟩, ⟨0, 15, .RO, 0⟩]⟩
  | .STI_ACC_CNT => ⟨0x00400800, 1, 0x0, 1, 0, false, false, [⟨0, 32, .RC, 0⟩]⟩
  | .STI_UNUSABLE_CNT => ⟨0x00400804, 1, 0x0, 1, 0, false, false, [⟨0, 32, .RC, 0⟩]⟩
  | .STI_DISAGREE_CNT => ⟨0x00400808, 1, 0x0, 1, 0, false, false, [⟨0, 32, .RC, 0⟩]⟩
  | .STI_MERGE_CNT => ⟨0x0040080c, 1, 0x0, 1, 0, false, false, [⟨0, 32, .RC, 0⟩]⟩
  | .STI_UNMERGED_CNT => ⟨0x00400810, 1, 0x0, 1, 0, false, false, [⟨0, 32, .RC, 0⟩]⟩
  | .STI_MLIMIT_CNT => ⟨0x00400814, 1, 0x0, 1, 0, false, false, [⟨0, 32, .RC, 0⟩]⟩
  | .STI_WBUF_INV_CNT => ⟨0x00400818, 1, 0x0, 1, 0, false, false, [⟨0, 32, .RC, 0⟩]⟩
  | .SEG_OVF_CFG => ⟨0x00500000, 1, 0x0, 1, 0, true, false, [⟨24, 8, .RW, 0x4b⟩, ⟨16, 8, .RW, 0x55⟩, ⟨0, 14, .RW, 0x1000⟩]⟩
  | .SEG_EVENT => ⟨0x00500004, 1, 0x0, 1, 0, false, false, [⟨4, 1, .W1C, 0⟩, ⟨3, 1, .W1C, 0⟩, ⟨2, 1, .W1C, 0⟩, ⟨1, 1, .W1C, 0⟩, ⟨0, 1, .W1C, 0⟩]⟩
  | .SEG_EVENT_EN => ⟨0x00500008, 1, 0x0, 1, 0, true, false, [⟨0, 5, .RW, 0⟩]⟩
  | .SEG_FIFO_STATUS => ⟨0x0050000c, 1, 0x0, 1, 0, false, false, [⟨16, 14, .RC, 0⟩, ⟨0, 14, .RO, 0⟩]⟩
  | .SEG_LBL_STATUS => ⟨0x00500010, 1, 0x0, 1, 0, false, false, [⟨0, 20, .RO, 0⟩]⟩
  | .SEG_LBL_PEAK => ⟨0x00500014, 1, 0x0, 1, 0, false, false, [⟨0, 20, .RC, 0⟩]⟩
  | .SEG_OVF_STATE => ⟨0x00500018, 1, 0x0, 1, 0, false, false, [⟨0, 32, .RO, 0⟩]⟩
  | .SEG_WARM_STATE => ⟨0x0050001c, 1, 0x0, 1, 0, false, false, [⟨0, 32, .RO, 0⟩]⟩
  | .SEG_LAST_OVF => ⟨0x00500020, 1, 0x0, 1, 0, false, false, [⟨27, 5, .RO, 0⟩, ⟨24, 3, .RO, 0⟩, ⟨0, 24, .RO, 0⟩]⟩
  | .SEG_HEAD_CFG => ⟨0x00500100, 32, 0x4, 1, 0, false, false, [⟨16, 4, .RWS, 0⟩, ⟨12, 2, .RWS, 0⟩]⟩
  | .SEG_BG_CFG => ⟨0x00500180, 32, 0x4, 1, 0, false, false, [⟨16, 16, .RWS, 0x1000⟩, ⟨15, 1, .RWS, 1⟩, ⟨8, 4, .RWS, 2⟩, ⟨4, 4, .RWS, 8⟩, ⟨0, 4, .RWS, 6⟩]⟩
  | .SEG_BG_LIM => ⟨0x00500200, 32, 0x4, 1, 0, false, false, [⟨16, 16, .RWS, 0x100⟩, ⟨0, 16, .RWS, 0x10⟩]⟩
  | .SEG_RUN_CNT_L => ⟨0x00500800, 1, 0x0, 1, 0, false, false, [⟨0, 32, .RC, 0⟩]⟩
  | .SEG_RUN_CNT_H => ⟨0x00500804, 1, 0x0, 1, 0, false, false, [⟨0, 8, .RC, 0⟩]⟩
  | .SEG_OVF_ENTER_CNT => ⟨0x00500808, 1, 0x0, 1, 0, false, false, [⟨0, 32, .RC, 0⟩]⟩
  | .SEG_OVF_FIFO_CNT => ⟨0x0050080c, 1, 0x0, 1, 0, false, false, [⟨0, 32, .RC, 0⟩]⟩
  | .SEG_OVF_LBL_CNT => ⟨0x00500810, 1, 0x0, 1, 0, false, false, [⟨0, 32, .RC, 0⟩]⟩
  | .SEG_OVF_CTX_CNT => ⟨0x00500814, 1, 0x0, 1, 0, false, false, [⟨0, 32, .RC, 0⟩]⟩
  | .SEG_OVF_LINE_CNT => ⟨0x00500818, 1, 0x0, 1, 0, false, false, [⟨0, 32, .RC, 0⟩]⟩
  | .SEG_CLUSTER_CNT => ⟨0x0050081c, 1, 0x0, 1, 0, false, false, [⟨0, 32, .RC, 0⟩]⟩
  | .SEG_MERGE_CNT => ⟨0x00500820, 1, 0x0, 1, 0, false, false, [⟨0, 32, .RC, 0⟩]⟩
  | .SEG_FREEZE_REL_CNT => ⟨0x00500824, 1, 0x0, 1, 0, false, false, [⟨0, 32, .RC, 0⟩]⟩
  | .SEG_WARM_CNT => ⟨0x00500828, 1, 0x0, 1, 0, false, false, [⟨0, 32, .RC, 0⟩]⟩
  | .SEG_BACKSTOP_CNT => ⟨0x0050082c, 1, 0x0, 1, 0, false, false, [⟨0, 32, .RC, 0⟩]⟩
  | .SEG_THR => ⟨0x00501000, 32, 0x80, 18, 4, false, false, [⟨31, 1, .RWS, 0⟩, ⟨24, 7, .RWS, 0x40⟩, ⟨0, 16, .RWS, 0x400⟩]⟩
  | .OBJ_CTRL => ⟨0x00600000, 1, 0x0, 1, 0, true, false, [⟨0, 1, .RW, 1⟩]⟩
  | .OBJ_BUDGET => ⟨0x00600004, 1, 0x0, 1, 0, true, false, [⟨0, 7, .RW, 8⟩]⟩
  | .OBJ_GEOM => ⟨0x00600008, 1, 0x0, 1, 0, true, false, [⟨8, 5, .RW, 4⟩, ⟨0, 5, .RW, 0xe⟩]⟩
  | .OBJ_SNIP => ⟨0x0060000c, 1, 0x0, 1, 0, true, false, [⟨16, 16, .RW, 0x1f4⟩, ⟨0, 16, .RW, 0x1f4⟩]⟩
  | .OBJ_REP_CFG => ⟨0x00600010, 1, 0x0, 1, 0, true, false, [⟨16, 16, .RW, 8⟩, ⟨8, 4, .RW, 3⟩, ⟨0, 7, .RW, 0x7f⟩]⟩
  | .OBJ_EVENT => ⟨0x00600014, 1, 0x0, 1, 0, false, false, [⟨6, 1, .W1C, 0⟩, ⟨5, 1, .W1C, 0⟩, ⟨4, 1, .W1C, 0⟩, ⟨3, 1, .W1C, 0⟩, ⟨2, 1, .W1C, 0⟩, ⟨1, 1, .W1C, 0⟩, ⟨0, 1, .W1C, 0⟩]⟩
  | .OBJ_EVENT_EN => ⟨0x00600018, 1, 0x0, 1, 0, true, false, [⟨0, 7, .RW, 0⟩]⟩
  | .OBJ_CTX_STATUS => ⟨0x0060001c, 1, 0x0, 1, 0, false, false, [⟨16, 15, .RC, 0x4000⟩, ⟨0, 15, .RO, 0x4000⟩]⟩
  | .OBJ_JOIN_STATUS => ⟨0x00600020, 1, 0x0, 1, 0, false, false, [⟨16, 15, .RC, 0⟩, ⟨0, 15, .RO, 0⟩]⟩
  | .OBJ_REP_CTRL => ⟨0x00600024, 1, 0x0, 1, 0, false, false, [⟨0, 1, .W1S, 0⟩]⟩
  | .OBJ_LAST_REP => ⟨0x00600028, 1, 0x0, 1, 0, false, false, [⟨29, 3, .RO, 0⟩, ⟨25, 4, .RO, 0⟩, ⟨17, 8, .RO, 0⟩, ⟨13, 4, .RO, 0⟩]⟩
  | .OBJ_OID_L => ⟨0x00600030, 1, 0x0, 1, 0, false, false, [⟨0, 32, .RO, 0⟩]⟩
  | .OBJ_OID_H => ⟨0x00600034, 1, 0x0, 1, 0, false, false, [⟨0, 8, .RO, 0⟩]⟩
  | .OBJ_REV => ⟨0x00600040, 7, 0x4, 1, 0, false, false, [⟨0, 16, .RO, 0⟩]⟩
  | .OBJ_HEAD_CFG => ⟨0x00600100, 32, 0x4, 1, 0, false, false, [⟨0, 4, .RWS, 2⟩]⟩
  | .OBJ_CLASS_CFG => ⟨0x00600180, 16, 0x4, 1, 0, true, false, [⟨30, 2, .RW, 1⟩, ⟨29, 1, .RW, 1⟩, ⟨28, 1, .RW, 0⟩, ⟨27, 1, .RW, 0⟩, ⟨26, 1, .RW, 1⟩, ⟨16, 5, .RW, 3⟩, ⟨0, 16, .RW, 4⟩]⟩
  | .OBJ_OPEN_CNT => ⟨0x00600400, 1, 0x0, 1, 0, false, false, [⟨0, 32, .RC, 0⟩]⟩
  | .OBJ_CLOSE_CNT => ⟨0x00600404, 1, 0x0, 1, 0, false, false, [⟨0, 32, .RC, 0⟩]⟩
  | .OBJ_UPDATE_CNT => ⟨0x00600408, 1, 0x0, 1, 0, false, false, [⟨0, 32, .RC, 0⟩]⟩
  | .OBJ_SMALL_CNT => ⟨0x0060040c, 1, 0x0, 1, 0, false, false, [⟨0, 32, .RC, 0⟩]⟩
  | .OBJ_BUDGET_OVF_CNT => ⟨0x00600410, 1, 0x0, 1, 0, false, false, [⟨0, 32, .RC, 0⟩]⟩
  | .OBJ_LATE_CNT => ⟨0x00600414, 1, 0x0, 1, 0, false, false, [⟨0, 32, .RC, 0⟩]⟩
  | .OBJ_REPEAT_CNT => ⟨0x00600418, 1, 0x0, 1, 0, false, false, [⟨0, 32, .RC, 0⟩]⟩
  | .OBJ_SNIP_DROP_CNT => ⟨0x0060041c, 1, 0x0, 1, 0, false, false, [⟨0, 32, .RC, 0⟩]⟩
  | .OBJ_MARK_DROP_CNT => ⟨0x00600420, 1, 0x0, 1, 0, false, false, [⟨0, 32, .RC, 0⟩]⟩
  | .OBJ_SPILL_CNT => ⟨0x00600424, 1, 0x0, 1, 0, false, false, [⟨0, 32, .RC, 0⟩]⟩
  | .OBJ_ACC_OVF_CNT => ⟨0x00600428, 1, 0x0, 1, 0, false, false, [⟨0, 32, .RC, 0⟩]⟩
  | .OBJ_TRUNC_CNT => ⟨0x0060042c, 1, 0x0, 1, 0, false, false, [⟨0, 32, .RC, 0⟩]⟩
  | .OBJ_CLASS_CNT => ⟨0x00600440, 16, 0x4, 1, 0, false, false, [⟨0, 32, .RC, 0⟩]⟩
  | .POS_CTRL => ⟨0x00700000, 1, 0x0, 1, 0, true, false, [⟨1, 1, .RW, 0⟩, ⟨0, 1, .RW, 0⟩]⟩
  | .POS_PITCH => ⟨0x00700004, 1, 0x0, 1, 0, true, false, [⟨0, 32, .RW, 0x140000⟩]⟩
  | .POS_CUE_MIN => ⟨0x00700008, 1, 0x0, 1, 0, true, false, [⟨0, 20, .RW, 0x683⟩]⟩
  | .POS_BACKLASH => ⟨0x0070000c, 1, 0x0, 1, 0, true, false, [⟨0, 16, .RW, 4⟩]⟩
  | .POS_SPD_CFG => ⟨0x00700010, 1, 0x0, 1, 0, true, false, [⟨16, 16, .RW, 0x2710⟩, ⟨8, 8, .RW, 0x64⟩]⟩
  | .POS_SPD_XOVER => ⟨0x00700014, 1, 0x0, 1, 0, true, false, [⟨0, 26, .RW, 0xf4240⟩]⟩
  | .POS_ZCFG => ⟨0x00700018, 1, 0x0, 1, 0, true, false, [⟨24, 8, .RW, 2⟩, ⟨0, 24, .RW, 0⟩]⟩
  | .POS_SCALE_L => ⟨0x00700020, 1, 0x0, 1, 0, true, false, [⟨0, 32, .RW, 0⟩]⟩
  | .POS_SCALE_H => ⟨0x00700024, 1, 0x0, 1, 0, true, false, [⟨0, 8, .RW, 1⟩]⟩
  | .POS_Y0_L => ⟨0x00700028, 1, 0x0, 1, 0, true, false, [⟨0, 32, .RW, 0⟩]⟩
  | .POS_Y0_H => ⟨0x0070002c, 1, 0x0, 1, 0, true, false, [⟨0, 8, .RW, 0⟩]⟩
  | .POS_LINE0_L => ⟨0x00700030, 1, 0x0, 1, 0, true, false, [⟨0, 32, .RW, 0⟩]⟩
  | .POS_LINE0_H => ⟨0x00700034, 1, 0x0, 1, 0, true, false, [⟨0, 8, .RW, 0⟩]⟩
  | .POS_STATUS => ⟨0x00700040, 1, 0x0, 1, 0, false, false, [⟨17, 7, .RO, 0⟩, ⟨8, 8, .RO, 0⟩, ⟨3, 1, .RO, 0⟩, ⟨2, 1, .RO, 0⟩, ⟨1, 1, .RO, 0⟩, ⟨0, 1, .RO, 0⟩]⟩
  | .POS_EVENT => ⟨0x00700044, 1, 0x0, 1, 0, false, false, [⟨9, 1, .W1C, 0⟩, ⟨8, 1, .W1C, 0⟩, ⟨7, 1, .W1C, 0⟩, ⟨6, 1, .W1C, 0⟩, ⟨5, 1, .W1C, 0⟩, ⟨4, 1, .W1C, 0⟩, ⟨3, 1, .W1C, 0⟩, ⟨2, 1, .W1C, 0⟩, ⟨1, 1, .W1C, 0⟩, ⟨0, 1, .W1C, 0⟩]⟩
  | .POS_EVENT_EN => ⟨0x00700048, 1, 0x0, 1, 0, true, false, [⟨0, 10, .RW, 0⟩]⟩
  | .POS_SPEED => ⟨0x0070004c, 1, 0x0, 1, 0, false, false, [⟨31, 1, .RO, 0⟩, ⟨30, 1, .RO, 1⟩, ⟨29, 1, .RO, 0⟩, ⟨28, 1, .RO, 0⟩, ⟨0, 26, .RO, 0⟩]⟩
  | .POS_COUNT_L => ⟨0x00700050, 1, 0x0, 1, 0, false, false, [⟨0, 32, .RO, 0⟩]⟩
  | .POS_COUNT_H => ⟨0x00700054, 1, 0x0, 1, 0, false, false, [⟨0, 8, .RO, 0⟩]⟩
  | .POS_Y_L => ⟨0x00700058, 1, 0x0, 1, 0, false, false, [⟨0, 32, .RO, 0⟩]⟩
  | .POS_Y_H => ⟨0x0070005c, 1, 0x0, 1, 0, false, false, [⟨0, 8, .RO, 0⟩]⟩
  | .POS_HWM_L => ⟨0x00700060, 1, 0x0, 1, 0, false, false, [⟨0, 32, .RO, 0⟩]⟩
  | .POS_HWM_H => ⟨0x00700064, 1, 0x0, 1, 0, false, false, [⟨0, 8, .RO, 0⟩]⟩
  | .POS_LINE_L => ⟨0x00700068, 1, 0x0, 1, 0, false, false, [⟨0, 32, .RO, 0⟩]⟩
  | .POS_LINE_H => ⟨0x0070006c, 1, 0x0, 1, 0, false, false, [⟨0, 8, .RO, 0⟩]⟩
  | .POS_NEXT_L => ⟨0x00700070, 1, 0x0, 1, 0, false, false, [⟨0, 32, .RO, 0⟩]⟩
  | .POS_NEXT_H => ⟨0x00700074, 1, 0x0, 1, 0, false, false, [⟨0, 8, .RO, 0⟩]⟩
  | .POS_ZLATCH_L => ⟨0x00700078, 1, 0x0, 1, 0, false, false, [⟨0, 32, .RO, 0⟩]⟩
  | .POS_ZLATCH_H => ⟨0x0070007c, 1, 0x0, 1, 0, false, false, [⟨0, 8, .RO, 0⟩]⟩
  | .POS_ZERR => ⟨0x00700080, 1, 0x0, 1, 0, false, false, [⟨0, 24, .RO, 0⟩]⟩
  | .POS_CHCFG => ⟨0x00700100, 8, 0x4, 1, 0, true, false, [⟨4, 1, .RW, 1⟩, ⟨3, 1, .RW, 0⟩, ⟨2, 1, .RW, 0⟩, ⟨0, 2, .RW, 0⟩]⟩
  | .POS_CPR => ⟨0x00700144, 7, 0x4, 1, 0, true, false, [⟨0, 24, .RW, 0x10000⟩]⟩
  | .POS_IDX => ⟨0x00700184, 7, 0x4, 1, 0, true, false, [⟨16, 16, .RW, 0x2710⟩, ⟨0, 16, .RW, 0xa⟩]⟩
  | .POS_ROLL => ⟨0x007001c4, 7, 0x4, 1, 0, false, false, [⟨31, 1, .RO, 0⟩, ⟨30, 1, .RO, 0⟩, ⟨0, 16, .RO, 0⟩]⟩
  | .POS_EMU_CFG => ⟨0x00700200, 2, 0x10, 1, 0, true, false, [⟨16, 16, .RW, 1⟩, ⟨0, 16, .RW, 1⟩]⟩
  | .POS_EMU_CTL => ⟨0x00700204, 2, 0x10, 1, 0, false, false, [⟨16, 16, .RW, 0⟩, ⟨1, 1, .RW, 0⟩, ⟨0, 1, .RW, 0⟩]⟩
  | .POS_EMU_STAT => ⟨0x00700208, 2, 0x10, 1, 0, false, false, [⟨0, 11, .RO, 0⟩]⟩
  | .POS_QERR_CNT => ⟨0x00700400, 8, 0x4, 1, 0, false, false, [⟨0, 32, .RC, 0⟩]⟩
  | .POS_WIRE_CNT => ⟨0x00700420, 1, 0x0, 1, 0, false, false, [⟨0, 32, .RC, 0⟩]⟩
  | .POS_ENCFLT_CNT => ⟨0x00700424, 1, 0x0, 1, 0, false, false, [⟨0, 32, .RC, 0⟩]⟩
  | .POS_SKIP_CNT => ⟨0x00700428, 1, 0x0, 1, 0, false, false, [⟨0, 32, .RC, 0⟩]⟩
  | .POS_REV_CNT => ⟨0x0070042c, 1, 0x0, 1, 0, false, false, [⟨0, 32, .RC, 0⟩]⟩
  | .POS_ZSLIP_CNT => ⟨0x00700430, 1, 0x0, 1, 0, false, false, [⟨0, 32, .RC, 0⟩]⟩
  | .POS_IDX_REJ_CNT => ⟨0x00700434, 1, 0x0, 1, 0, false, false, [⟨0, 32, .RC, 0⟩]⟩
  | .POS_EMU_OVF_CNT => ⟨0x00700438, 1, 0x0, 1, 0, false, false, [⟨0, 32, .RC, 0⟩]⟩
  | .POS_CUE_CNT_L => ⟨0x00700440, 1, 0x0, 1, 0, false, false, [⟨0, 32, .RC, 0⟩]⟩
  | .POS_CUE_CNT_H => ⟨0x00700444, 1, 0x0, 1, 0, false, false, [⟨0, 8, .RC, 0⟩]⟩
  | .MRK_CTRL => ⟨0x00780000, 1, 0x0, 1, 0, true, false, [⟨0, 1, .RW, 0⟩]⟩
  | .MRK_LPITCH => ⟨0x00780004, 1, 0x0, 1, 0, true, false, [⟨0, 20, .RW, 0xc8⟩]⟩
  | .MRK_MARGIN => ⟨0x00780008, 1, 0x0, 1, 0, true, false, [⟨16, 16, .RW, 0x1f4⟩, ⟨0, 16, .RW, 0x1f4⟩]⟩
  | .MRK_LEAD => ⟨0x0078000c, 1, 0x0, 1, 0, true, false, [⟨0, 24, .RW, 0x3e8⟩]⟩
  | .MRK_BURST => ⟨0x00780010, 1, 0x0, 1, 0, true, false, [⟨16, 16, .RW, 0x3e8⟩, ⟨0, 16, .RW, 0x40⟩]⟩
  | .MRK_CUE_LEN => ⟨0x00780014, 1, 0x0, 1, 0, true, false, [⟨0, 20, .RW, 0x7d0⟩]⟩
  | .MRK_ADV => ⟨0x00780018, 1, 0x0, 1, 0, true, false, [⟨0, 20, .RW, 0⟩]⟩
  | .MRK_EVENT => ⟨0x00780020, 1, 0x0, 1, 0, false, false, [⟨6, 1, .W1C, 0⟩, ⟨5, 1, .W1C, 0⟩, ⟨4, 1, .W1C, 0⟩, ⟨3, 1, .W1C, 0⟩, ⟨2, 1, .W1C, 0⟩, ⟨1, 1, .W1C, 0⟩, ⟨0, 1, .W1C, 0⟩]⟩
  | .MRK_EVENT_EN => ⟨0x00780024, 1, 0x0, 1, 0, true, false, [⟨0, 7, .RW, 0⟩]⟩
  | .MRK_SCHED => ⟨0x00780028, 1, 0x0, 1, 0, false, false, [⟨16, 11, .RC, 0⟩, ⟨0, 11, .RO, 0⟩]⟩
  | .MRK_PCTL => ⟨0x00780100, 4, 0x40, 1, 0, true, false, [⟨31, 1, .RW, 0⟩, ⟨24, 1, .W1S, 0⟩, ⟨16, 8, .RW, 0x14⟩, ⟨0, 11, .RW, 0x500⟩]⟩
  | .MRK_DIST => ⟨0x00780104, 4, 0x40, 1, 0, true, false, [⟨0, 25, .RW, 0⟩]⟩
  | .MRK_X0_L => ⟨0x00780108, 4, 0x40, 1, 0, true, false, [⟨0, 32, .RW, 0⟩]⟩
  | .MRK_X0_H => ⟨0x0078010c, 4, 0x40, 1, 0, true, false, [⟨0, 8, .RW, 0⟩]⟩
  | .MRK_XPITCH => ⟨0x00780110, 4, 0x40, 1, 0, true, false, [⟨0, 32, .RW, 0⟩]⟩
  | .MRK_STRW01 => ⟨0x00780114, 4, 0x40, 1, 0, true, false, [⟨16, 16, .RW, 0x12c⟩, ⟨0, 16, .RW, 0x12c⟩]⟩
  | .MRK_STRW23 => ⟨0x00780118, 4, 0x40, 1, 0, true, false, [⟨16, 16, .RW, 0x12c⟩, ⟨0, 16, .RW, 0x12c⟩]⟩
  | .MRK_BAND => ⟨0x0078011c, 4, 0x40, 1, 0, true, false, [⟨16, 8, .RW, 0x3c⟩, ⟨8, 8, .RW, 0x2d⟩, ⟨0, 8, .RW, 0x1e⟩]⟩
  | .MRK_TLIM => ⟨0x00780120, 4, 0x40, 1, 0, true, false, [⟨16, 9, .RW, 0x1f2⟩, ⟨8, 8, .RW, 0x4b⟩, ⟨0, 8, .RW, 5⟩]⟩
  | .MRK_LATCH => ⟨0x00780124, 4, 0x40, 1, 0, true, false, [⟨0, 8, .RW, 0x28⟩]⟩
  | .MRK_PSTAT => ⟨0x00780128, 4, 0x40, 1, 0, false, false, [⟨30, 2, .RO, 0⟩, ⟨29, 1, .RO, 0⟩, ⟨28, 1, .RO, 0⟩, ⟨26, 2, .RO, 0⟩, ⟨24, 2, .RO, 0⟩, ⟨16, 5, .RO, 0⟩, ⟨0, 12, .RO, 0⟩]⟩
  | .MRK_REQ_CNT => ⟨0x00780400, 1, 0x0, 1, 0, false, false, [⟨0, 32, .RC, 0⟩]⟩
  | .MRK_PLACED_CNT => ⟨0x00780404, 1, 0x0, 1, 0, false, false, [⟨0, 32, .RC, 0⟩]⟩
  | .MRK_NOTPL_CNT => ⟨0x00780408, 1, 0x0, 1, 0, false, false, [⟨0, 32, .RC, 0⟩]⟩
  | .MRK_SUPP_LINE_CNT => ⟨0x0078040c, 1, 0x0, 1, 0, false, false, [⟨0, 32, .RC, 0⟩]⟩
  | .MRK_WD_CNT => ⟨0x00780410, 1, 0x0, 1, 0, false, false, [⟨0, 32, .RC, 0⟩]⟩
  | .MRK_STRETCH_CNT => ⟨0x00780414, 1, 0x0, 1, 0, false, false, [⟨0, 32, .RC, 0⟩]⟩
  | .MRK_SPLIT_CNT => ⟨0x00780418, 1, 0x0, 1, 0, false, false, [⟨0, 32, .RC, 0⟩]⟩
  | .MRK_STAT_ERR_CNT => ⟨0x0078041c, 1, 0x0, 1, 0, false, false, [⟨0, 32, .RC, 0⟩]⟩
  | .ARC_CTRL => ⟨0x00800000, 1, 0x0, 1, 0, true, false, [⟨24, 2, .RW, 0⟩, ⟨20, 1, .RW, 0⟩, ⟨16, 2, .RW, 0⟩, ⟨2, 1, .RW, 0⟩, ⟨1, 1, .RW, 1⟩, ⟨0, 1, .RW, 0⟩]⟩
  | .ARC_SNIP_CFG => ⟨0x00800004, 1, 0x0, 1, 0, true, false, [⟨16, 16, .RW, 0x40⟩, ⟨8, 8, .RW, 0x14⟩]⟩
  | .ARC_STRIP_CFG => ⟨0x00800008, 1, 0x0, 1, 0, true, false, [⟨16, 16, .RW, 0⟩, ⟨0, 4, .RW, 8⟩]⟩
  | .ARC_EVENT => ⟨0x0080000c, 1, 0x0, 1, 0, false, false, [⟨5, 1, .W1C, 0⟩, ⟨4, 1, .W1C, 0⟩, ⟨3, 1, .W1C, 0⟩, ⟨2, 1, .W1C, 0⟩, ⟨1, 1, .W1C, 0⟩, ⟨0, 1, .W1C, 0⟩]⟩
  | .ARC_EVENT_EN => ⟨0x00800010, 1, 0x0, 1, 0, true, false, [⟨0, 6, .RW, 0⟩]⟩
  | .ARC_JOBQ => ⟨0x00800014, 1, 0x0, 1, 0, false, false, [⟨16, 9, .RO, 0⟩, ⟨0, 5, .RO, 0⟩]⟩
  | .ARC_CTXSAVE_L => ⟨0x00800018, 1, 0x0, 1, 0, true, false, [⟨0, 32, .RW, 0⟩]⟩
  | .ARC_CTXSAVE_H => ⟨0x0080001c, 1, 0x0, 1, 0, true, false, [⟨0, 8, .RW, 0⟩]⟩
  | .ARC_HREQ_JOB => ⟨0x00800020, 1, 0x0, 1, 0, false, false, [⟨0, 32, .RW, 0⟩]⟩
  | .ARC_HREQ_CTRL => ⟨0x00800024, 1, 0x0, 1, 0, false, false, [⟨31, 1, .RW, 0⟩]⟩
  | .ARC_HREQ_XLO_L => ⟨0x00800028, 1, 0x0, 1, 0, false, false, [⟨0, 32, .RW, 0⟩]⟩
  | .ARC_HREQ_XLO_H => ⟨0x0080002c, 1, 0x0, 1, 0, false, false, [⟨0, 8, .RW, 0⟩]⟩
  | .ARC_HREQ_XHI_L => ⟨0x00800030, 1, 0x0, 1, 0, false, false, [⟨0, 32, .RW, 0⟩]⟩
  | .ARC_HREQ_XHI_H => ⟨0x00800034, 1, 0x0, 1, 0, false, false, [⟨0, 8, .RW, 0⟩]⟩
  | .ARC_HREQ_YLO_L => ⟨0x00800038, 1, 0x0, 1, 0, false, false, [⟨0, 32, .RW, 0⟩]⟩
  | .ARC_HREQ_YLO_H => ⟨0x0080003c, 1, 0x0, 1, 0, false, false, [⟨0, 8, .RW, 0⟩]⟩
  | .ARC_HREQ_YHI_L => ⟨0x00800040, 1, 0x0, 1, 0, false, false, [⟨0, 32, .RW, 0⟩]⟩
  | .ARC_HREQ_YHI_H => ⟨0x00800044, 1, 0x0, 1, 0, false, false, [⟨0, 8, .RW, 0⟩]⟩
  | .ARC_HREQ_GO => ⟨0x00800048, 1, 0x0, 1, 0, false, false, [⟨0, 1, .WO, 0⟩]⟩
  | .ARC_HEAD_CFG => ⟨0x00800100, 32, 0x20, 1, 0, true, false, [⟨4, 4, .RW, 4⟩, ⟨1, 2, .RW, 2⟩, ⟨0, 1, .RW, 0⟩]⟩
  | .ARC_RING_BASE_L => ⟨0x00800104, 32, 0x20, 1, 0, true, false, [⟨0, 32, .RW, 0⟩]⟩
  | .ARC_RING_BASE_H => ⟨0x00800108, 32, 0x20, 1, 0, true, false, [⟨0, 8, .RW, 0⟩]⟩
  | .ARC_RING_ROWS => ⟨0x0080010c, 32, 0x20, 1, 0, true, false, [⟨0, 24, .RW, 0⟩]⟩
  | .ARC_IDX_BASE_L => ⟨0x00800110, 32, 0x20, 1, 0, true, false, [⟨0, 32, .RW, 0⟩]⟩
  | .ARC_IDX_BASE_H => ⟨0x00800114, 32, 0x20, 1, 0, true, false, [⟨0, 8, .RW, 0⟩]⟩
  | .ARC_FRONT_L => ⟨0x00800118, 32, 0x20, 1, 0, false, false, [⟨0, 32, .RO, 0⟩]⟩
  | .ARC_FRONT_H => ⟨0x0080011c, 32, 0x20, 1, 0, false, false, [⟨0, 8, .RO, 0⟩]⟩
  | .ARC_BLK_CNT_L => ⟨0x00800800, 1, 0x0, 1, 0, false, false, [⟨0, 32, .RC, 0⟩]⟩
  | .ARC_BLK_CNT_H => ⟨0x00800804, 1, 0x0, 1, 0, false, false, [⟨0, 8, .RC, 0⟩]⟩
  | .ARC_OVER_CNT => ⟨0x00800808, 1, 0x0, 1, 0, false, false, [⟨0, 32, .RC, 0⟩]⟩
  | .ARC_RETRY_CNT => ⟨0x0080080c, 1, 0x0, 1, 0, false, false, [⟨0, 32, .RC, 0⟩]⟩
  | .ARC_CODEC_FAULT_CNT => ⟨0x00800810, 1, 0x0, 1, 0, false, false, [⟨0, 32, .RC, 0⟩]⟩
  | .ARC_WERR_CNT => ⟨0x00800814, 1, 0x0, 1, 0, false, false, [⟨0, 32, .RC, 0⟩]⟩
  | .ARC_BADROW_CNT => ⟨0x00800818, 1, 0x0, 1, 0, false, false, [⟨0, 32, .RC, 0⟩]⟩
  | .ARC_JOB_CNT => ⟨0x0080081c, 1, 0x0, 1, 0, false, false, [⟨0, 32, .RC, 0⟩]⟩
  | .ARC_LIMIT_CNT => ⟨0x00800820, 1, 0x0, 1, 0, false, false, [⟨0, 32, .RC, 0⟩]⟩
  | .ARC_PARTIAL_CNT => ⟨0x00800824, 1, 0x0, 1, 0, false, false, [⟨0, 32, .RC, 0⟩]⟩
  | .ARC_SHED_CNT => ⟨0x00800828, 1, 0x0, 1, 0, false, false, [⟨0, 32, .RC, 0⟩]⟩
  | .ARC_REFUSE_CNT => ⟨0x0080082c, 1, 0x0, 1, 0, false, false, [⟨0, 32, .RC, 0⟩]⟩
  | .DMA_CTRL => ⟨0x00880000, 1, 0x0, 1, 0, true, false, [⟨16, 16, .RW, 0x64⟩, ⟨0, 1, .RW, 1⟩]⟩
  | .DMA_STATUS => ⟨0x00880004, 1, 0x0, 1, 0, false, false, [⟨31, 1, .RO, 0⟩, ⟨16, 4, .RO, 0⟩, ⟨0, 16, .RO, 0⟩]⟩
  | .DMA_EVENT => ⟨0x00880008, 1, 0x0, 1, 0, false, false, [⟨16, 16, .W1C, 0⟩, ⟨0, 16, .W1C, 0⟩]⟩
  | .DMA_EVENT_EN => ⟨0x0088000c, 1, 0x0, 1, 0, true, false, [⟨16, 16, .RW, 0⟩, ⟨0, 16, .RW, 0⟩]⟩
  | .DMA_ERRLOG => ⟨0x00880010, 1, 0x0, 1, 0, false, false, [⟨31, 1, .RO, 0⟩, ⟨27, 4, .RO, 0⟩, ⟨26, 1, .RO, 0⟩, ⟨23, 3, .RO, 0⟩, ⟨0, 16, .RO, 0⟩]⟩
  | .DMA_ERRPOP => ⟨0x00880014, 1, 0x0, 1, 0, false, false, [⟨0, 1, .WO, 0⟩]⟩
  | .DMA_SCTRL => ⟨0x00880100, 16, 0x40, 1, 0, false, false, [⟨31, 1, .W1S, 0⟩, ⟨28, 1, .RW, 0⟩, ⟨24, 2, .RW, 0⟩, ⟨20, 3, .RW, 3⟩, ⟨16, 3, .RW, 3⟩, ⟨12, 1, .RW, 0⟩]⟩
  | .DMA_SSRC_L => ⟨0x00880108, 16, 0x40, 1, 0, false, false, [⟨0, 32, .RW, 0⟩]⟩
  | .DMA_SSRC_H => ⟨0x0088010c, 16, 0x40, 1, 0, false, false, [⟨0, 8, .RW, 0⟩]⟩
  | .DMA_SDST_L => ⟨0x00880110, 16, 0x40, 1, 0, false, false, [⟨0, 32, .RW, 0⟩]⟩
  | .DMA_SDST_H => ⟨0x00880114, 16, 0x40, 1, 0, false, false, [⟨0, 8, .RW, 0⟩]⟩
  | .DMA_ACTRL => ⟨0x00880118, 16, 0x40, 1, 0, false, false, [⟨28, 2, .RO, 0⟩, ⟨24, 2, .RO, 0⟩, ⟨20, 3, .RO, 0⟩, ⟨16, 3, .RO, 0⟩, ⟨12, 1, .RO, 0⟩]⟩
  | .DMA_ASRC_L => ⟨0x00880120, 16, 0x40, 1, 0, false, false, [⟨0, 32, .RO, 0⟩]⟩
  | .DMA_ASRC_H => ⟨0x00880124, 16, 0x40, 1, 0, false, false, [⟨0, 8, .RO, 0⟩]⟩
  | .DMA_ADST_L => ⟨0x00880128, 16, 0x40, 1, 0, false, false, [⟨0, 32, .RO, 0⟩]⟩
  | .DMA_ADST_H => ⟨0x0088012c, 16, 0x40, 1, 0, false, false, [⟨0, 8, .RO, 0⟩]⟩
  | .DMA_AREM => ⟨0x00880130, 16, 0x40, 1, 0, false, false, [⟨0, 24, .RO, 0⟩]⟩
  | .DMA_AIDX => ⟨0x00880134, 16, 0x40, 1, 0, false, false, [⟨16, 16, .RO, 0⟩, ⟨0, 16, .RO, 0⟩]⟩
  | .DMA_ARES => ⟨0x00880138, 16, 0x40, 1, 0, false, false, [⟨28, 4, .RO, 0⟩, ⟨0, 16, .RO, 0⟩]⟩
  | .DMA_XFER_CNT => ⟨0x00880800, 1, 0x0, 1, 0, false, false, [⟨0, 32, .RC, 0⟩]⟩
  | .DMA_BADDESC_CNT => ⟨0x00880804, 1, 0x0, 1, 0, false, false, [⟨0, 32, .RC, 0⟩]⟩
  | .DMA_TMO_CNT => ⟨0x00880808, 1, 0x0, 1, 0, false, false, [⟨0, 32, .RC, 0⟩]⟩
  | .DMA_ERRLOG_OVF_CNT => ⟨0x0088080c, 1, 0x0, 1, 0, false, false, [⟨0, 32, .RC, 0⟩]⟩
  | .MEM_CFG => ⟨0x00900000, 1, 0x0, 1, 0, true, false, [⟨16, 16, .RW, 0x3e8⟩, ⟨11, 1, .RW, 1⟩, ⟨10, 1, .RW, 0⟩, ⟨5, 3, .RW, 7⟩, ⟨4, 1, .RW, 1⟩, ⟨0, 2, .RW, 2⟩]⟩
  | .MEM_STATUS => ⟨0x00900004, 1, 0x0, 1, 0, false, false, [⟨31, 1, .RO, 0⟩, ⟨30, 1, .RO, 0⟩, ⟨29, 1, .RO, 0⟩, ⟨28, 1, .RO, 0⟩, ⟨26, 2, .RO, 0⟩, ⟨25, 1, .RO, 0⟩, ⟨24, 1, .RO, 0⟩, ⟨20, 4, .RO, 0⟩, ⟨0, 16, .RO, 0⟩]⟩
  | .MEM_EVENT => ⟨0x00900008, 1, 0x0, 1, 0, false, false, [⟨12, 1, .W1C, 0⟩, ⟨11, 1, .W1C, 0⟩, ⟨10, 1, .W1C, 0⟩, ⟨9, 1, .W1C, 0⟩, ⟨8, 1, .W1C, 0⟩, ⟨7, 1, .W1C, 0⟩, ⟨6, 1, .W1C, 0⟩, ⟨5, 1, .W1C, 0⟩, ⟨4, 1, .W1C, 0⟩, ⟨3, 1, .W1C, 0⟩, ⟨2, 1, .W1C, 0⟩, ⟨1, 1, .W1C, 0⟩, ⟨0, 1, .W1C, 0⟩]⟩
  | .MEM_EVENT_EN => ⟨0x0090000c, 1, 0x0, 1, 0, true, false, [⟨0, 13, .RW, 0⟩]⟩
  | .MEM_HASH0 => ⟨0x00900010, 1, 0x0, 1, 0, true, false, [⟨16, 16, .RW, 0x842⟩, ⟨0, 16, .RW, 0x421⟩]⟩
  | .MEM_HASH1 => ⟨0x00900014, 1, 0x0, 1, 0, true, false, [⟨16, 16, .RW, 0x2108⟩, ⟨0, 16, .RW, 0x1084⟩]⟩
  | .MEM_HASH2 => ⟨0x00900018, 1, 0x0, 1, 0, true, false, [⟨16, 16, .RW, 0x8421⟩, ⟨0, 16, .RW, 0x4210⟩]⟩
  | .MEM_HASH3 => ⟨0x0090001c, 1, 0x0, 1, 0, true, false, [⟨16, 16, .RW, 0x30c0⟩, ⟨0, 16, .RW, 0xc30⟩]⟩
  | .MEM_REF_CFG => ⟨0x00900020, 1, 0x0, 1, 0, true, false, [⟨16, 16, .RW, 0xfa⟩, ⟨0, 1, .RW, 1⟩]⟩
  | .MEM_DERATE => ⟨0x00900024, 1, 0x0, 1, 0, true, false, [⟨0, 8, .RW, 2⟩]⟩
  | .MEM_BAND => ⟨0x00900028, 1, 0x0, 1, 0, false, false, [⟨0, 32, .RO, 0⟩]⟩
  | .MEM_DEBT0 => ⟨0x0090002c, 1, 0x0, 1, 0, false, false, [⟨0, 32, .RO, 0⟩]⟩
  | .MEM_DEBT1 => ⟨0x00900030, 1, 0x0, 1, 0, false, false, [⟨0, 32, .RO, 0⟩]⟩
  | .MEM_FSP_CFG => ⟨0x00900034, 1, 0x0, 1, 0, true, false, [⟨8, 1, .RW, 0⟩, ⟨0, 1, .RW, 0⟩]⟩
  | .MEM_FSP_CTRL => ⟨0x00900038, 1, 0x0, 1, 0, false, false, [⟨1, 1, .RW, 0⟩, ⟨0, 1, .W1S, 0⟩]⟩
  | .MEM_TRN_CFG => ⟨0x0090003c, 1, 0x0, 1, 0, true, false, [⟨16, 16, .RW, 0x64⟩]⟩
  | .MEM_TRN_STATUS => ⟨0x00900040, 1, 0x0, 1, 0, false, false, [⟨28, 4, .RO, 0⟩, ⟨27, 1, .RO, 0⟩, ⟨25, 2, .RO, 0⟩, ⟨24, 1, .RO, 0⟩, ⟨20, 4, .RO, 0⟩, ⟨16, 4, .RO, 0⟩]⟩
  | .MEM_MIG_CFG => ⟨0x00900044, 1, 0x0, 1, 0, true, false, [⟨0, 16, .RW, 4⟩]⟩
  | .MEM_MIG_PTR_L => ⟨0x00900048, 1, 0x0, 1, 0, false, false, [⟨0, 32, .RO, 0⟩]⟩
  | .MEM_MIG_PTR_H => ⟨0x0090004c, 1, 0x0, 1, 0, false, false, [⟨0, 8, .RO, 0⟩]⟩
  | .MEM_RMAP => ⟨0x00900050, 1, 0x0, 1, 0, false, false, [⟨31, 1, .RO, 0⟩, ⟨30, 1, .RO, 0⟩, ⟨20, 4, .RO, 0⟩, ⟨16, 4, .RO, 0⟩]⟩
  | .MEM_UE_ADDR_L => ⟨0x00900058, 1, 0x0, 1, 0, false, false, [⟨0, 32, .RO, 0⟩]⟩
  | .MEM_UE_ADDR_H => ⟨0x0090005c, 1, 0x0, 1, 0, false, false, [⟨0, 8, .RO, 0⟩]⟩
  | .MEM_UE_INFO => ⟨0x00900060, 1, 0x0, 1, 0, false, false, [⟨28, 4, .RO, 0⟩, ⟨24, 4, .RO, 0⟩, ⟨21, 3, .RO, 0⟩]⟩
  | .MEM_QOS => ⟨0x00900100, 6, 0x8, 1, 0, true, false, [⟨24, 8, .RW, 0x4b⟩, ⟨16, 8, .RW, 0x32⟩, ⟨0, 16, .RW, 0x7d0⟩]⟩
  | .MEM_PSTAT => ⟨0x00900104, 6, 0x8, 1, 0, false, false, [⟨31, 1, .RO, 0⟩, ⟨28, 2, .RO, 0⟩, ⟨0, 16, .RC, 0⟩]⟩
  | .MEM_CE_CNT => ⟨0x00900800, 1, 0x0, 1, 0, false, false, [⟨0, 32, .RC, 0⟩]⟩
  | .MEM_UE_CNT => ⟨0x00900804, 1, 0x0, 1, 0, false, false, [⟨0, 32, .RC, 0⟩]⟩
  | .MEM_CRC_RETRY_CNT => ⟨0x00900808, 1, 0x0, 1, 0, false, false, [⟨0, 32, .RC, 0⟩]⟩
  | .MEM_POISON_CNT => ⟨0x0090080c, 1, 0x0, 1, 0, false, false, [⟨0, 32, .RC, 0⟩]⟩
  | .MEM_POISON_RD_CNT => ⟨0x00900810, 1, 0x0, 1, 0, false, false, [⟨0, 32, .RC, 0⟩]⟩
  | .MEM_PULLIN_CNT => ⟨0x00900814, 1, 0x0, 1, 0, false, false, [⟨0, 32, .RC, 0⟩]⟩
  | .MEM_MIGR_RD_CNT => ⟨0x00900818, 1, 0x0, 1, 0, false, false, [⟨0, 32, .RC, 0⟩]⟩
  | .MEM_FSP_CNT => ⟨0x0090081c, 1, 0x0, 1, 0, false, false, [⟨0, 32, .RC, 0⟩]⟩
  | .MEM_FSP_REFUSE_CNT => ⟨0x00900820, 1, 0x0, 1, 0, false, false, [⟨0, 32, .RC, 0⟩]⟩
  | .MEM_SCRUB_FIX_CNT => ⟨0x00900824, 1, 0x0, 1, 0, false, false, [⟨0, 32, .RC, 0⟩]⟩
  | .MEM_LATE_CNT => ⟨0x00900840, 6, 0x4, 1, 0, false, false, [⟨0, 32, .RC, 0⟩]⟩
  | .MEM_PANIC_CNT => ⟨0x00900860, 6, 0x4, 1, 0, false, false, [⟨0, 32, .RC, 0⟩]⟩
  | .LNE_CTRL => ⟨0x00a00000, 1, 0x0, 1, 0, true, false, [⟨0, 1, .RW, 0⟩]⟩
  | .LNE_STATUS => ⟨0x00a00004, 1, 0x0, 1, 0, false, false, [⟨1, 1, .RO, 0⟩, ⟨0, 1, .RO, 0⟩]⟩
  | .LNE_EVENT => ⟨0x00a00008, 1, 0x0, 1, 0, false, false, [⟨7, 1, .W1C, 0⟩, ⟨6, 1, .W1C, 0⟩, ⟨5, 1, .W1C, 0⟩, ⟨4, 1, .W1C, 0⟩, ⟨3, 1, .W1C, 0⟩, ⟨2, 1, .W1C, 0⟩, ⟨1, 1, .W1C, 0⟩, ⟨0, 1, .W1C, 0⟩]⟩
  | .LNE_EVENT_EN => ⟨0x00a0000c, 1, 0x0, 1, 0, true, false, [⟨0, 8, .RW, 0⟩]⟩
  | .LNE_BER_CFG => ⟨0x00a00010, 1, 0x0, 1, 0, false, false, [⟨0, 5, .RW, 8⟩]⟩
  | .LNE_LAST => ⟨0x00a00014, 1, 0x0, 1, 0, false, false, [⟨24, 8, .RO, 0⟩, ⟨20, 4, .RO, 0⟩]⟩
  | .LNE_CFG => ⟨0x00a01000, 104, 0x100, 1, 0, true, false, [⟨3, 1, .RW, 1⟩, ⟨2, 1, .RW, 0⟩, ⟨1, 1, .RW, 0⟩, ⟨0, 1, .RW, 0⟩]⟩
  | .LNE_TXEQ => ⟨0x00a01004, 104, 0x100, 1, 0, true, false, [⟨16, 5, .RW, 8⟩, ⟨8, 6, .RW, 0x34⟩, ⟨0, 4, .RW, 4⟩]⟩
  | .LNE_CTL => ⟨0x00a01008, 104, 0x100, 1, 0, false, false, [⟨2, 1, .RW, 0⟩, ⟨1, 1, .W1S, 0⟩, ⟨0, 1, .W1S, 0⟩]⟩
  | .LNE_STATE => ⟨0x00a0100c, 104, 0x100, 1, 0, false, false, [⟨29, 3, .RO, 0⟩, ⟨28, 1, .RO, 0⟩, ⟨27, 1, .RO, 0⟩, ⟨26, 1, .RO, 0⟩, ⟨25, 1, .RO, 0⟩, ⟨24, 1, .RO, 0⟩, ⟨23, 1, .RO, 0⟩, ⟨22, 1, .RO, 0⟩, ⟨8, 7, .RO, 0⟩, ⟨0, 7, .RO, 0⟩]⟩
  | .LNE_TEST => ⟨0x00a01010, 104, 0x100, 1, 0, false, false, [⟨6, 1, .RW, 0⟩, ⟨5, 1, .RW, 0⟩, ⟨4, 1, .RW, 0⟩, ⟨3, 1, .RW, 0⟩, ⟨1, 2, .RW, 0⟩, ⟨0, 1, .RW, 0⟩]⟩
  | .LNE_TSTAT => ⟨0x00a01014, 104, 0x100, 1, 0, false, false, [⟨30, 2, .RO, 0⟩, ⟨29, 1, .RO, 0⟩, ⟨28, 1, .RO, 0⟩, ⟨8, 8, .RO, 0⟩, ⟨0, 8, .RO, 0⟩]⟩
  | .LNE_RXEQ => ⟨0x00a01018, 104, 0x100, 1, 0, false, false, [⟨28, 4, .RO, 0⟩, ⟨22, 6, .RO, 0⟩, ⟨8, 8, .RO, 0⟩, ⟨0, 8, .RO, 0⟩]⟩
  | .LNE_BER_RES => ⟨0x00a0101c, 104, 0x100, 1, 0, false, false, [⟨0, 32, .RO, 0⟩]⟩
  | .LNE_PRBS_ERR => ⟨0x00a01020, 104, 0x100, 1, 0, false, false, [⟨0, 32, .RC, 0⟩]⟩
  | .LNE_RETRAIN_CNT => ⟨0x00a01024, 104, 0x100, 1, 0, false, false, [⟨0, 32, .RC, 0⟩]⟩
  | .LNE_LOCKLOSS_CNT => ⟨0x00a01028, 104, 0x100, 1, 0, false, false, [⟨0, 32, .RC, 0⟩]⟩
  | .LNE_HDR_ERR_CNT => ⟨0x00a0102c, 104, 0x100, 1, 0, false, false, [⟨0, 32, .RC, 0⟩]⟩
  | .HST_CTRL => ⟨0x00b00000, 1, 0x0, 1, 0, true, false, [⟨3, 1, .RW, 0⟩, ⟨2, 1, .RW, 1⟩, ⟨1, 1, .RW, 1⟩, ⟨0, 1, .RW, 1⟩]⟩
  | .HST_TX_CFG => ⟨0x00b00004, 1, 0x0, 1, 0, true, false, [⟨31, 1, .RW, 0⟩, ⟨24, 4, .RW, 0⟩, ⟨16, 4, .RW, 0⟩, ⟨0, 16, .RW, 0x64⟩]⟩
  | .HST_CLASS_CFG => ⟨0x00b00008, 1, 0x0, 1, 0, true, false, [⟨24, 3, .RW, 5⟩, ⟨20, 3, .RW, 3⟩, ⟨16, 3, .RW, 1⟩, ⟨8, 8, .RW, 0x40⟩, ⟨0, 8, .RW, 0x14⟩]⟩
  | .HST_MGMT_CFG => ⟨0x00b0000c, 1, 0x0, 1, 0, true, false, [⟨16, 16, .RW, 0xb798⟩, ⟨8, 8, .RW, 0x3c⟩]⟩
  | .HST_EVENT => ⟨0x00b00010, 1, 0x0, 1, 0, false, false, [⟨7, 1, .W1C, 0⟩, ⟨6, 1, .W1C, 0⟩, ⟨5, 1, .W1C, 0⟩, ⟨4, 1, .W1C, 0⟩, ⟨3, 1, .W1C, 0⟩, ⟨2, 1, .W1C, 0⟩, ⟨1, 1, .W1C, 0⟩, ⟨0, 1, .W1C, 0⟩]⟩
  | .HST_EVENT_EN => ⟨0x00b00014, 1, 0x0, 1, 0, true, false, [⟨0, 8, .RW, 0⟩]⟩
  | .HST_STATUS => ⟨0x00b00018, 1, 0x0, 1, 0, false, false, [⟨16, 16, .RO, 0⟩, ⟨12, 4, .RO, 0⟩, ⟨11, 1, .RO, 1⟩, ⟨8, 3, .RO, 0⟩]⟩
  | .HST_LAST_DENY => ⟨0x00b0001c, 1, 0x0, 1, 0, false, false, [⟨0, 32, .RO, 0⟩]⟩
  | .HST_QSTAT0 => ⟨0x00b00020, 1, 0x0, 1, 0, false, false, [⟨16, 11, .RO, 0⟩, ⟨0, 14, .RO, 0⟩]⟩
  | .HST_QSTAT1 => ⟨0x00b00024, 1, 0x0, 1, 0, false, false, [⟨16, 14, .RO, 0⟩, ⟨0, 14, .RO, 0⟩]⟩
  | .HST_PCFG => ⟨0x00b00100, 4, 0x4, 1, 0, true, false, [⟨31, 1, .RW, 0⟩, ⟨30, 1, .RW, 1⟩, ⟨28, 2, .RW, 0⟩, ⟨26, 2, .RW, 0⟩, ⟨0, 14, .RW, 0x5dc⟩]⟩
  | .HST_CQ_TLO => ⟨0x00b00200, 4, 0x20, 1, 0, false, false, [⟨0, 32, .RW, 0⟩]⟩
  | .HST_CQ_THI => ⟨0x00b00204, 4, 0x20, 1, 0, false, false, [⟨0, 32, .RW, 0⟩]⟩
  | .HST_CQ_PUSH => ⟨0x00b00208, 4, 0x20, 1, 0, false, false, [⟨31, 1, .WO, 0⟩, ⟨28, 2, .WO, 0⟩, ⟨16, 11, .WO, 0⟩, ⟨0, 13, .WO, 0⟩]⟩
  | .HST_CQ_STAT => ⟨0x00b0020c, 4, 0x20, 1, 0, false, false, [⟨16, 7, .RO, 0⟩, ⟨0, 1, .RO, 0⟩]⟩
  | .HST_CQ_TS_LO => ⟨0x00b00210, 4, 0x20, 1, 0, false, false, [⟨0, 32, .RO, 0⟩]⟩
  | .HST_CQ_TS_HI => ⟨0x00b00214, 4, 0x20, 1, 0, false, false, [⟨0, 32, .RO, 0⟩]⟩
  | .HST_CQ_GUARD => ⟨0x00b00218, 4, 0x20, 1, 0, true, false, [⟨0, 16, .RW, 0xbb8⟩]⟩
  | .HST_DROP_CUE_CNT => ⟨0x00b00800, 1, 0x0, 1, 0, false, false, [⟨0, 32, .RC, 0⟩]⟩
  | .HST_DROP_ROUTINE_CNT => ⟨0x00b00804, 1, 0x0, 1, 0, false, false, [⟨0, 32, .RC, 0⟩]⟩
  | .HST_DROP_BULK_CNT => ⟨0x00b00808, 1, 0x0, 1, 0, false, false, [⟨0, 32, .RC, 0⟩]⟩
  | .HST_MGMT_REQ_CNT => ⟨0x00b0080c, 1, 0x0, 1, 0, false, false, [⟨0, 32, .RC, 0⟩]⟩
  | .HST_MGMT_DENY_CNT => ⟨0x00b00810, 1, 0x0, 1, 0, false, false, [⟨0, 32, .RC, 0⟩]⟩
  | .HST_MGMT_OVF_CNT => ⟨0x00b00814, 1, 0x0, 1, 0, false, false, [⟨0, 32, .RC, 0⟩]⟩
  | .HST_TOKEN_FAIL_CNT => ⟨0x00b00818, 1, 0x0, 1, 0, false, false, [⟨0, 32, .RC, 0⟩]⟩
  | .HST_FAILOVER_CNT => ⟨0x00b0081c, 1, 0x0, 1, 0, false, false, [⟨0, 32, .RC, 0⟩]⟩
  | .HST_STALE_CNT => ⟨0x00b00820, 1, 0x0, 1, 0, false, false, [⟨0, 32, .RC, 0⟩]⟩
  | .HST_CQ_LATE_CNT => ⟨0x00b00840, 4, 0x10, 1, 0, false, false, [⟨0, 32, .RC, 0⟩]⟩
  | .HST_CQ_REFUSE_CNT => ⟨0x00b00844, 4, 0x10, 1, 0, false, false, [⟨0, 32, .RC, 0⟩]⟩
  | .HST_CQ_DROP_CNT => ⟨0x00b00848, 4, 0x10, 1, 0, false, false, [⟨0, 32, .RC, 0⟩]⟩
  | .HST_IF_CFG => ⟨0x00b01000, 16, 0x80, 1, 0, true, false, [⟨31, 1, .RW, 0⟩, ⟨30, 1, .RW, 0⟩, ⟨29, 1, .RW, 0⟩, ⟨0, 12, .RW, 0⟩]⟩
  | .HST_IF_MAC_LO => ⟨0x00b01004, 16, 0x80, 1, 0, true, false, [⟨0, 32, .RW, 0⟩]⟩
  | .HST_IF_MAC_HI => ⟨0x00b01008, 16, 0x80, 1, 0, true, false, [⟨0, 16, .RW, 0⟩]⟩
  | .HST_IF_IP => ⟨0x00b0100c, 16, 0x80, 1, 0, true, false, [⟨0, 32, .RW, 0⟩]⟩
  | .HST_IF_DIP => ⟨0x00b01010, 16, 0x80, 1, 0, true, false, [⟨0, 32, .RW, 0⟩]⟩
  | .HST_IF_DMAC_LO => ⟨0x00b01014, 16, 0x80, 1, 0, true, false, [⟨0, 32, .RW, 0⟩]⟩
  | .HST_IF_DMAC_HI => ⟨0x00b01018, 16, 0x80, 1, 0, true, false, [⟨0, 16, .RW, 0⟩]⟩
  | .HST_IF_UDP => ⟨0x00b0101c, 16, 0x80, 1, 0, true, false, [⟨16, 16, .RW, 0xb799⟩, ⟨0, 16, .RW, 0xb79a⟩]⟩
  | .HST_IF_STATUS => ⟨0x00b01020, 16, 0x80, 1, 0, false, false, [⟨5, 1, .RO, 0⟩, ⟨4, 1, .RO, 0⟩, ⟨3, 1, .RO, 0⟩, ⟨2, 1, .RO, 0⟩, ⟨1, 1, .RO, 0⟩, ⟨0, 1, .RO, 0⟩]⟩
  | .HST_TX_FRAME_CNT => ⟨0x00b01040, 16, 0x80, 1, 0, false, false, [⟨0, 32, .RC, 0⟩]⟩
  | .HST_RX_FRAME_CNT => ⟨0x00b01044, 16, 0x80, 1, 0, false, false, [⟨0, 32, .RC, 0⟩]⟩
  | .HST_RX_DROP_CNT => ⟨0x00b01048, 16, 0x80, 1, 0, false, false, [⟨0, 32, .RC, 0⟩]⟩
  | .HST_FEC_CORR_CNT => ⟨0x00b0104c, 16, 0x80, 1, 0, false, false, [⟨0, 32, .RC, 0⟩]⟩
  | .HST_FEC_UNCORR_CNT => ⟨0x00b01050, 16, 0x80, 1, 0, false, false, [⟨0, 32, .RC, 0⟩]⟩
  | .HST_ARP_CNT => ⟨0x00b01054, 16, 0x80, 1, 0, false, false, [⟨0, 32, .RC, 0⟩]⟩
  | .HST_ICMP_CNT => ⟨0x00b01058, 16, 0x80, 1, 0, false, false, [⟨0, 32, .RC, 0⟩]⟩
  | .TIM_CTRL => ⟨0x00b80000, 1, 0x0, 1, 0, true, false, [⟨24, 8, .RW, 0⟩, ⟨20, 4, .RW, 0⟩, ⟨4, 1, .RW, 0⟩, ⟨3, 1, .RW, 0⟩, ⟨2, 1, .RW, 0⟩, ⟨0, 2, .RW, 0⟩]⟩
  | .TIM_SERVO_KP => ⟨0x00b80004, 1, 0x0, 1, 0, true, false, [⟨0, 32, .RW, 0x44b83⟩]⟩
  | .TIM_SERVO_KI => ⟨0x00b80008, 1, 0x0, 1, 0, true, false, [⟨0, 32, .RW, 0x44b8⟩]⟩
  | .TIM_STEP_THR => ⟨0x00b8000c, 1, 0x0, 1, 0, true, false, [⟨0, 32, .RW, 0x186a0⟩]⟩
  | .TIM_LOCK_CFG => ⟨0x00b80010, 1, 0x0, 1, 0, true, false, [⟨16, 16, .RW, 0xbb8⟩, ⟨0, 16, .RW, 0x64⟩]⟩
  | .TIM_PTP_CFG => ⟨0x00b80014, 1, 0x0, 1, 0, true, false, [⟨16, 16, .RW, 0xffff⟩, ⟨0, 4, .RW, 4⟩]⟩
  | .TIM_TSADJ => ⟨0x00b80018, 1, 0x0, 1, 0, true, false, [⟨16, 16, .RW, 0⟩, ⟨0, 16, .RW, 0⟩]⟩
  | .TIM_STATUS => ⟨0x00b80020, 1, 0x0, 1, 0, false, false, [⟨4, 1, .RO, 0⟩, ⟨3, 1, .RO, 0⟩, ⟨2, 1, .RO, 0⟩, ⟨1, 1, .RO, 0⟩, ⟨0, 1, .RO, 0⟩]⟩
  | .TIM_EVENT => ⟨0x00b80024, 1, 0x0, 1, 0, false, false, [⟨5, 1, .W1C, 0⟩, ⟨4, 1, .W1C, 0⟩, ⟨3, 1, .W1C, 0⟩, ⟨2, 1, .W1C, 0⟩, ⟨1, 1, .W1C, 0⟩, ⟨0, 1, .W1C, 0⟩]⟩
  | .TIM_EVENT_EN => ⟨0x00b80028, 1, 0x0, 1, 0, true, false, [⟨0, 6, .RW, 0⟩]⟩
  | .TIM_NOW0 => ⟨0x00b80030, 1, 0x0, 1, 0, false, false, [⟨0, 16, .RO, 0⟩]⟩
  | .TIM_NOW1 => ⟨0x00b80034, 1, 0x0, 1, 0, false, false, [⟨0, 32, .RO, 0⟩]⟩
  | .TIM_NOW2 => ⟨0x00b80038, 1, 0x0, 1, 0, false, false, [⟨0, 32, .RO, 0⟩]⟩
  | .TIM_NOW3 => ⟨0x00b8003c, 1, 0x0, 1, 0, false, false, [⟨0, 16, .RO, 0⟩]⟩
  | .TIM_SET0 => ⟨0x00b80040, 1, 0x0, 1, 0, false, false, [⟨0, 16, .RW, 0⟩]⟩
  | .TIM_SET1 => ⟨0x00b80044, 1, 0x0, 1, 0, false, false, [⟨0, 32, .RW, 0⟩]⟩
  | .TIM_SET2 => ⟨0x00b80048, 1, 0x0, 1, 0, false, false, [⟨0, 32, .RW, 0⟩]⟩
  | .TIM_SET3 => ⟨0x00b8004c, 1, 0x0, 1, 0, false, false, [⟨0, 16, .RW, 0⟩]⟩
  | .TIM_SET_GO => ⟨0x00b80050, 1, 0x0, 1, 0, false, false, [⟨0, 1, .WO, 0⟩]⟩
  | .TIM_ADJ_L => ⟨0x00b80058, 1, 0x0, 1, 0, false, false, [⟨0, 32, .RW, 0⟩]⟩
  | .TIM_ADJ_H => ⟨0x00b8005c, 1, 0x0, 1, 0, false, false, [⟨0, 8, .RW, 0⟩]⟩
  | .TIM_INTEG_L => ⟨0x00b80060, 1, 0x0, 1, 0, false, false, [⟨0, 32, .RO, 0⟩]⟩
  | .TIM_INTEG_H => ⟨0x00b80064, 1, 0x0, 1, 0, false, false, [⟨0, 8, .RO, 0⟩]⟩
  | .TIM_OFS_LO => ⟨0x00b80068, 1, 0x0, 1, 0, false, false, [⟨0, 32, .RO, 0⟩]⟩
  | .TIM_OFS_HI => ⟨0x00b8006c, 1, 0x0, 1, 0, false, false, [⟨0, 32, .RO, 0⟩]⟩
  | .TIM_MPD => ⟨0x00b80070, 1, 0x0, 1, 0, false, false, [⟨0, 32, .RO, 0⟩]⟩
  | .TIM_MASTER_LO => ⟨0x00b80078, 1, 0x0, 1, 0, false, false, [⟨0, 32, .RW, 0⟩]⟩
  | .TIM_MASTER_HI => ⟨0x00b8007c, 1, 0x0, 1, 0, false, false, [⟨0, 32, .RW, 0⟩]⟩
  | .TIM_MASTER_PORT => ⟨0x00b80080, 1, 0x0, 1, 0, false, false, [⟨31, 1, .RW, 0⟩, ⟨0, 16, .RW, 0⟩]⟩
  | .TIM_OFS_CNT => ⟨0x00b80800, 1, 0x0, 1, 0, false, false, [⟨0, 32, .RC, 0⟩]⟩
  | .TIM_STEP_CNT => ⟨0x00b80804, 1, 0x0, 1, 0, false, false, [⟨0, 32, .RC, 0⟩]⟩
  | .TIM_REJ_CNT => ⟨0x00b80808, 1, 0x0, 1, 0, false, false, [⟨0, 32, .RC, 0⟩]⟩
  | .TIM_HOLD_CNT => ⟨0x00b8080c, 1, 0x0, 1, 0, false, false, [⟨0, 32, .RC, 0⟩]⟩
  | .FAB_CTRL => ⟨0x00c00000, 1, 0x0, 1, 0, true, false, [⟨2, 1, .RW, 0⟩, ⟨1, 1, .RW, 0⟩, ⟨0, 1, .RW, 0⟩]⟩
  | .FAB_CFG => ⟨0x00c00004, 1, 0x0, 1, 0, true, false, [⟨0, 16, .RW, 0x32⟩]⟩
  | .FAB_PORT_EN => ⟨0x00c00008, 1, 0x0, 1, 0, true, false, [⟨0, 6, .RW, 0⟩]⟩
  | .FAB_TOPO => ⟨0x00c0000c, 1, 0x0, 1, 0, true, false, [⟨0, 32, .RW, 0⟩]⟩
  | .FAB_EVENT => ⟨0x00c00010, 1, 0x0, 1, 0, false, false, [⟨10, 1, .W1C, 0⟩, ⟨9, 1, .W1C, 0⟩, ⟨8, 1, .W1C, 0⟩, ⟨7, 1, .W1C, 0⟩, ⟨6, 1, .W1C, 0⟩, ⟨5, 1, .W1C, 0⟩, ⟨4, 1, .W1C, 0⟩, ⟨3, 1, .W1C, 0⟩, ⟨2, 1, .W1C, 0⟩, ⟨1, 1, .W1C, 0⟩, ⟨0, 1, .W1C, 0⟩]⟩
  | .FAB_EVENT_EN => ⟨0x00c00014, 1, 0x0, 1, 0, true, false, [⟨0, 11, .RW, 0⟩]⟩
  | .FAB_STATUS => ⟨0x00c00018, 1, 0x0, 1, 0, false, false, [⟨20, 12, .RO, 0⟩, ⟨8, 12, .RO, 0⟩, ⟨4, 4, .RO, 0⟩, ⟨3, 1, .RO, 0⟩, ⟨2, 1, .RO, 0⟩, ⟨1, 1, .RO, 0⟩, ⟨0, 1, .RO, 0⟩]⟩
  | .FAB_ROOT_LO => ⟨0x00c00020, 1, 0x0, 1, 0, false, false, [⟨0, 32, .RO, 0⟩]⟩
  | .FAB_ROOT_HI => ⟨0x00c00024, 1, 0x0, 1, 0, false, false, [⟨0, 32, .RO, 0⟩]⟩
  | .FAB_NBR => ⟨0x00c00028, 1, 0x0, 1, 0, false, false, [⟨31, 1, .RO, 0⟩, ⟨16, 12, .RO, 0⟩, ⟨15, 1, .RO, 0⟩, ⟨0, 12, .RO, 0⟩]⟩
  | .FAB_TIME_CFG => ⟨0x00c0002c, 1, 0x0, 1, 0, true, false, [⟨16, 16, .RW, 0x7d⟩]⟩
  | .FAB_PSTAT => ⟨0x00c00100, 6, 0x20, 1, 0, false, false, [⟨29, 3, .RO, 0⟩, ⟨28, 1, .RO, 0⟩, ⟨27, 1, .RO, 0⟩, ⟨24, 3, .RO, 0⟩, ⟨12, 12, .RO, 0⟩]⟩
  | .FAB_POUT => ⟨0x00c00104, 6, 0x20, 1, 0, false, false, [⟨16, 13, .RC, 0⟩, ⟨0, 13, .RO, 0⟩]⟩
  | .FAB_NSER_LO => ⟨0x00c00108, 6, 0x20, 1, 0, false, false, [⟨0, 32, .RO, 0⟩]⟩
  | .FAB_NSER_HI => ⟨0x00c0010c, 6, 0x20, 1, 0, false, false, [⟨0, 32, .RO, 0⟩]⟩
  | .FAB_CRC_CNT => ⟨0x00c00110, 6, 0x20, 1, 0, false, false, [⟨0, 32, .RC, 0⟩]⟩
  | .FAB_REPLAY_CNT => ⟨0x00c00114, 6, 0x20, 1, 0, false, false, [⟨0, 32, .RC, 0⟩]⟩
  | .FAB_DOWN_CNT => ⟨0x00c00118, 6, 0x20, 1, 0, false, false, [⟨0, 32, .RC, 0⟩]⟩
  | .FAB_RELAY_CNT => ⟨0x00c00800, 1, 0x0, 1, 0, false, false, [⟨0, 32, .RC, 0⟩]⟩
  | .FAB_NOROUTE_CNT => ⟨0x00c00804, 1, 0x0, 1, 0, false, false, [⟨0, 32, .RC, 0⟩]⟩
  | .FAB_BADPKT_CNT => ⟨0x00c00808, 1, 0x0, 1, 0, false, false, [⟨0, 32, .RC, 0⟩]⟩
  | .FAB_REDISC_CNT => ⟨0x00c0080c, 1, 0x0, 1, 0, false, false, [⟨0, 32, .RC, 0⟩]⟩
  | .FAB_READDR_CNT => ⟨0x00c00810, 1, 0x0, 1, 0, false, false, [⟨0, 32, .RC, 0⟩]⟩
  | .FAB_CUE_LATE_CNT => ⟨0x00c00814, 1, 0x0, 1, 0, false, false, [⟨0, 32, .RC, 0⟩]⟩
  | .FAB_DISC_CNT => ⟨0x00c00818, 1, 0x0, 1, 0, false, false, [⟨0, 32, .RC, 0⟩]⟩
  | .EVT_CTRL => ⟨0x00d00000, 1, 0x0, 1, 0, true, false, [⟨16, 16, .RW, 0x3e8⟩, ⟨8, 5, .RW, 0x10⟩, ⟨0, 1, .RW, 0⟩]⟩
  | .EVT_EVENT => ⟨0x00d00004, 1, 0x0, 1, 0, false, false, [⟨3, 1, .W1C, 0⟩, ⟨2, 1, .W1C, 0⟩, ⟨1, 1, .W1C, 0⟩, ⟨0, 1, .W1C, 0⟩]⟩
  | .EVT_EVENT_EN => ⟨0x00d00008, 1, 0x0, 1, 0, true, false, [⟨0, 4, .RW, 0⟩]⟩
  | .EVT_LOOPED => ⟨0x00d0000c, 2, 0x4, 1, 0, false, false, [⟨0, 32, .W1C, 0⟩]⟩
  | .EVT_SWFIRE => ⟨0x00d00014, 1, 0x0, 1, 0, false, false, [⟨0, 7, .WO, 0⟩]⟩
  | .EVT_PINSTAT => ⟨0x00d00018, 1, 0x0, 1, 0, false, false, [⟨16, 16, .RO, 0⟩, ⟨0, 16, .RO, 0⟩]⟩
  | .EVT_TCAP0_LO => ⟨0x00d00020, 1, 0x0, 1, 0, false, false, [⟨0, 32, .RO, 0⟩]⟩
  | .EVT_TCAP0_HI => ⟨0x00d00024, 1, 0x0, 1, 0, false, false, [⟨0, 32, .RO, 0⟩]⟩
  | .EVT_TCAP1_LO => ⟨0x00d00028, 1, 0x0, 1, 0, false, false, [⟨0, 32, .RO, 0⟩]⟩
  | .EVT_TCAP1_HI => ⟨0x00d0002c, 1, 0x0, 1, 0, false, false, [⟨0, 32, .RO, 0⟩]⟩
  | .EVT_YCAP_L => ⟨0x00d00030, 1, 0x0, 1, 0, false, false, [⟨0, 32, .RO, 0⟩]⟩
  | .EVT_YCAP_H => ⟨0x00d00034, 1, 0x0, 1, 0, false, false, [⟨0, 8, .RO, 0⟩]⟩
  | .EVT_PIN => ⟨0x00d00100, 16, 0x4, 1, 0, true, false, [⟨16, 16, .RW, 0x19⟩, ⟨9, 1, .RW, 0⟩, ⟨8, 1, .RW, 0⟩, ⟨4, 3, .RW, 2⟩, ⟨2, 2, .RW, 1⟩, ⟨0, 1, .RW, 0⟩]⟩
  | .EVT_CH => ⟨0x00d00200, 64, 0x4, 1, 0, true, false, [⟨31, 1, .RW, 0⟩, ⟨8, 7, .RW, 0⟩, ⟨0, 8, .RW, 0⟩]⟩
  | .EVT_CELL => ⟨0x00d00400, 16, 0x10, 1, 0, true, false, [⟨21, 3, .RW, 0⟩, ⟨20, 1, .RW, 0⟩, ⟨18, 2, .RW, 1⟩, ⟨0, 16, .RW, 0⟩]⟩
  | .EVT_CELL_IN => ⟨0x00d00404, 16, 0x10, 1, 0, true, false, [⟨22, 2, .RW, 0⟩, ⟨18, 4, .RW, 0⟩, ⟨16, 2, .RW, 0⟩, ⟨12, 4, .RW, 0⟩, ⟨10, 2, .RW, 0⟩, ⟨6, 4, .RW, 0⟩, ⟨4, 2, .RW, 0⟩, ⟨0, 4, .RW, 0⟩]⟩
  | .EVT_OVR => ⟨0x00d00800, 24, 0x4, 1, 0, false, false, [⟨24, 8, .RC, 0⟩, ⟨16, 8, .RC, 0⟩, ⟨8, 8, .RC, 0⟩, ⟨0, 8, .RC, 0⟩]⟩
  | .EVT_LOOP_CNT => ⟨0x00d00880, 1, 0x0, 1, 0, false, false, [⟨0, 32, .RC, 0⟩]⟩
  | .EVT_DROP_CNT => ⟨0x00d00884, 1, 0x0, 1, 0, false, false, [⟨0, 32, .RC, 0⟩]⟩
  | .PMC_CTRL => ⟨0x00d80000, 1, 0x0, 1, 0, false, false, [⟨12, 1, .RW, 0⟩, ⟨8, 4, .RW, 0⟩, ⟨4, 2, .RW, 0⟩, ⟨0, 1, .RW, 0⟩]⟩
  | .PMC_WIN => ⟨0x00d80004, 1, 0x0, 1, 0, false, false, [⟨0, 32, .RW, 0x13d620⟩]⟩
  | .PMC_EVENT => ⟨0x00d80008, 1, 0x0, 1, 0, false, false, [⟨8, 1, .W1C, 0⟩, ⟨0, 8, .W1C, 0⟩]⟩
  | .PMC_EVENT_EN => ⟨0x00d8000c, 1, 0x0, 1, 0, false, false, [⟨0, 9, .RW, 0⟩]⟩
  | .PMC_CYC_LO => ⟨0x00d80010, 1, 0x0, 1, 0, false, false, [⟨0, 32, .RO, 0⟩]⟩
  | .PMC_CYC_HI => ⟨0x00d80014, 1, 0x0, 1, 0, false, false, [⟨0, 32, .RO, 0⟩]⟩
  | .PMC_SEL => ⟨0x00d80100, 8, 0x4, 1, 0, false, false, [⟨0, 9, .RW, 0x1ff⟩]⟩
  | .PMC_CNT_LO => ⟨0x00d80200, 8, 0x8, 1, 0, false, false, [⟨0, 32, .RW, 0⟩]⟩
  | .PMC_CNT_HI => ⟨0x00d80204, 8, 0x8, 1, 0, false, false, [⟨0, 16, .RW, 0⟩]⟩
  | .PMC_RES_LO => ⟨0x00d80300, 8, 0x8, 1, 0, false, false, [⟨0, 32, .RO, 0⟩]⟩
  | .PMC_RES_HI => ⟨0x00d80304, 8, 0x8, 1, 0, false, false, [⟨0, 16, .RO, 0⟩]⟩
  | .THM_LIMITS => ⟨0x00e00000, 1, 0x0, 1, 0, true, false, [⟨24, 8, .RW, 0x78⟩, ⟨16, 8, .RW, 0x69⟩, ⟨8, 8, .RW, 0x5f⟩, ⟨0, 4, .RW, 5⟩]⟩
  | .THM_THR_CFG => ⟨0x00e00004, 1, 0x0, 1, 0, true, false, [⟨16, 3, .RW, 5⟩, ⟨0, 16, .RW, 0xa⟩]⟩
  | .THM_SHED_HEADS => ⟨0x00e00008, 1, 0x0, 1, 0, true, false, [⟨0, 32, .RW, 0⟩]⟩
  | .THM_EVENT => ⟨0x00e0000c, 1, 0x0, 1, 0, false, false, [⟨3, 1, .W1C, 0⟩, ⟨2, 1, .W1C, 0⟩, ⟨1, 1, .W1C, 0⟩, ⟨0, 1, .W1C, 0⟩]⟩
  | .THM_EVENT_EN => ⟨0x00e00010, 1, 0x0, 1, 0, true, false, [⟨0, 4, .RW, 0⟩]⟩
  | .THM_STATUS => ⟨0x00e00014, 1, 0x0, 1, 0, false, false, [⟨29, 3, .RO, 0⟩, ⟨28, 1, .RO, 0⟩, ⟨27, 1, .RO, 0⟩, ⟨26, 1, .RO, 0⟩, ⟨21, 5, .RO, 0⟩, ⟨0, 16, .RO, 0⟩]⟩
  | .THM_BROKEN => ⟨0x00e00018, 1, 0x0, 1, 0, false, false, [⟨0, 24, .RO, 0⟩]⟩
  | .THM_FAST => ⟨0x00e0001c, 1, 0x0, 1, 0, false, false, [⟨0, 24, .RO, 0⟩]⟩
  | .THM_TS => ⟨0x00e00100, 24, 0x4, 1, 0, false, false, [⟨31, 1, .RO, 0⟩, ⟨30, 1, .RO, 0⟩, ⟨26, 4, .RO, 0⟩, ⟨16, 10, .RO, 0⟩, ⟨0, 16, .RO, 0⟩]⟩
  | .THM_BRD => ⟨0x00e00180, 8, 0x8, 1, 0, true, false, [⟨31, 1, .RW, 0⟩, ⟨24, 7, .RW, 0⟩, ⟨16, 8, .RW, 0⟩, ⟨8, 8, .RW, 0x55⟩]⟩
  | .THM_BRDT => ⟨0x00e00184, 8, 0x8, 1, 0, false, false, [⟨31, 1, .RO, 0⟩, ⟨0, 16, .RO, 0⟩]⟩
  | .THM_WARN_CNT => ⟨0x00e00800, 1, 0x0, 1, 0, false, false, [⟨0, 32, .RC, 0⟩]⟩
  | .THM_THR_CNT => ⟨0x00e00804, 1, 0x0, 1, 0, false, false, [⟨0, 32, .RC, 0⟩]⟩
  | .THM_BROKEN_CNT => ⟨0x00e00808, 1, 0x0, 1, 0, false, false, [⟨0, 32, .RC, 0⟩]⟩
  | .THM_I2C_ERR_CNT => ⟨0x00e0080c, 1, 0x0, 1, 0, false, false, [⟨0, 32, .RC, 0⟩]⟩
  | .THM_SHUT_CNT => ⟨0x00e00810, 1, 0x0, 1, 0, false, true, [⟨0, 32, .RC, 0⟩]⟩
  | .PWR_CFG => ⟨0x00e80000, 1, 0x0, 1, 0, true, false, [⟨16, 16, .RW, 0xa⟩, ⟨15, 1, .RW, 1⟩, ⟨14, 1, .RW, 1⟩, ⟨8, 6, .RW, 0xa⟩, ⟨0, 8, .RW, 0xa⟩]⟩
  | .PWR_VIN_CFG => ⟨0x00e80004, 1, 0x0, 1, 0, true, false, [⟨16, 16, .RW, 0x2a30⟩, ⟨0, 16, .RW, 0x2c88⟩]⟩
  | .PWR_EVENT => ⟨0x00e80008, 1, 0x0, 1, 0, false, false, [⟨3, 1, .W1C, 0⟩, ⟨2, 1, .W1C, 0⟩, ⟨1, 1, .W1C, 0⟩, ⟨0, 1, .W1C, 0⟩]⟩
  | .PWR_EVENT_EN => ⟨0x00e8000c, 1, 0x0, 1, 0, true, false, [⟨0, 4, .RW, 0⟩]⟩
  | .PWR_STATUS => ⟨0x00e80010, 1, 0x0, 1, 0, false, false, [⟨31, 1, .RO, 0⟩, ⟨30, 1, .RO, 0⟩, ⟨27, 3, .RO, 0⟩, ⟨26, 1, .RO, 0⟩, ⟨25, 1, .RO, 0⟩, ⟨21, 4, .RO, 0⟩, ⟨20, 1, .RO, 0⟩, ⟨0, 16, .RO, 0⟩]⟩
  | .PWR_LAST_SAVE => ⟨0x00e80014, 1, 0x0, 1, 0, false, false, [⟨30, 2, .RO, 0⟩, ⟨27, 3, .RO, 0⟩, ⟨26, 1, .RO, 0⟩, ⟨0, 16, .RO, 0⟩]⟩
  | .PWR_CB_STATUS => ⟨0x00e80018, 1, 0x0, 1, 0, false, true, [⟨0, 32, .RO, 0⟩]⟩
  | .PWR_SAVE_LO => ⟨0x00e80020, 1, 0x0, 1, 0, false, false, [⟨0, 32, .RO, 0⟩]⟩
  | .PWR_SAVE_HI => ⟨0x00e80024, 1, 0x0, 1, 0, false, false, [⟨0, 32, .RO, 0⟩]⟩
  | .PWR_RAIL => ⟨0x00e80100, 9, 0x4, 1, 0, false, false, [⟨31, 1, .RO, 0⟩, ⟨0, 16, .RO, 0⟩]⟩
  | .PWR_CURTAIN_CNT => ⟨0x00e80800, 1, 0x0, 1, 0, false, true, [⟨0, 32, .RC, 0⟩]⟩
  | .PWR_CKPT_CNT => ⟨0x00e80804, 1, 0x0, 1, 0, false, false, [⟨0, 32, .RC, 0⟩]⟩
  | .PWR_RAIL_CNT => ⟨0x00e80808, 1, 0x0, 1, 0, false, false, [⟨0, 32, .RC, 0⟩]⟩
  | .PWR_SLOT_BAD_CNT => ⟨0x00e8080c, 1, 0x0, 1, 0, false, false, [⟨0, 32, .RC, 0⟩]⟩
  | .SEC_STATUS => ⟨0x00f00000, 1, 0x0, 1, 0, false, false, [⟨31, 1, .RO, 0⟩, ⟨30, 1, .RO, 0⟩, ⟨29, 1, .RO, 0⟩, ⟨28, 1, .RO, 0⟩, ⟨27, 1, .RO, 0⟩, ⟨26, 1, .RO, 0⟩, ⟨25, 1, .RO, 0⟩]⟩
  | .SEC_EVENT => ⟨0x00f00004, 1, 0x0, 1, 0, false, false, [⟨3, 1, .W1C, 0⟩, ⟨2, 1, .W1C, 0⟩, ⟨1, 1, .W1C, 0⟩, ⟨0, 1, .W1C, 0⟩]⟩
  | .SEC_EVENT_EN => ⟨0x00f00008, 1, 0x0, 1, 0, false, false, [⟨0, 4, .RW, 0⟩]⟩
  | .SEC_ROLLBACK => ⟨0x00f0000c, 1, 0x0, 1, 0, false, false, [⟨8, 8, .RO, 0⟩, ⟨0, 7, .RO, 0⟩]⟩
  | .SEC_SERIAL_LO => ⟨0x00f00010, 1, 0x0, 1, 0, false, false, [⟨0, 32, .RO, 0⟩]⟩
  | .SEC_SERIAL_HI => ⟨0x00f00014, 1, 0x0, 1, 0, false, false, [⟨0, 32, .RO, 0⟩]⟩
  | .SEC_DARK => ⟨0x00f00018, 1, 0x0, 1, 0, false, true, [⟨0, 4, .RO, 0⟩]⟩
  | .SEC_ATT_NONCE_LO => ⟨0x00f00020, 1, 0x0, 1, 0, false, false, [⟨0, 32, .RW, 0⟩]⟩
  | .SEC_ATT_NONCE_HI => ⟨0x00f00024, 1, 0x0, 1, 0, false, false, [⟨0, 32, .RW, 0⟩]⟩
  | .SEC_ATT_ID => ⟨0x00f00028, 1, 0x0, 1, 0, false, false, [⟨0, 32, .RW, 0⟩]⟩
  | .SEC_ATT_CTRL => ⟨0x00f0002c, 1, 0x0, 1, 0, false, false, [⟨0, 1, .W1S, 0⟩]⟩
  | .SEC_SIGFAIL_CNT => ⟨0x00f00800, 1, 0x0, 1, 0, false, false, [⟨0, 32, .RC, 0⟩]⟩
  | .SEC_ATT_CNT => ⟨0x00f00804, 1, 0x0, 1, 0, false, false, [⟨0, 32, .RC, 0⟩]⟩
  | .SEC_ATT_BUSY_CNT => ⟨0x00f00808, 1, 0x0, 1, 0, false, false, [⟨0, 32, .RC, 0⟩]⟩

/-- R46 to R48: the other half of a pair. The counters and results of PMC and the 64-bit read-only pairs follow the same
rule (R432, R469, R481, R483). -/
def Reg.pairRole (r : Reg) : PairRole :=
  match r with
  | .CAM_LAST_LINE0_L => .low .CAM_LAST_LINE0_H
  | .CAM_LAST_LINE0_H => .high .CAM_LAST_LINE0_L
  | .CAM_LAST_LINE1_L => .low .CAM_LAST_LINE1_H
  | .CAM_LAST_LINE1_H => .high .CAM_LAST_LINE1_L
  | .STI_X0_L => .low .STI_X0_H
  | .STI_X0_H => .high .STI_X0_L
  | .STI_WBUF_BASE_L => .low .STI_WBUF_BASE_H
  | .STI_WBUF_BASE_H => .high .STI_WBUF_BASE_L
  | .SEG_RUN_CNT_L => .low .SEG_RUN_CNT_H
  | .SEG_RUN_CNT_H => .high .SEG_RUN_CNT_L
  | .OBJ_OID_L => .low .OBJ_OID_H
  | .OBJ_OID_H => .high .OBJ_OID_L
  | .POS_SCALE_L => .low .POS_SCALE_H
  | .POS_SCALE_H => .high .POS_SCALE_L
  | .POS_Y0_L => .low .POS_Y0_H
  | .POS_Y0_H => .high .POS_Y0_L
  | .POS_LINE0_L => .low .POS_LINE0_H
  | .POS_LINE0_H => .high .POS_LINE0_L
  | .POS_COUNT_L => .low .POS_COUNT_H
  | .POS_COUNT_H => .high .POS_COUNT_L
  | .POS_Y_L => .low .POS_Y_H
  | .POS_Y_H => .high .POS_Y_L
  | .POS_HWM_L => .low .POS_HWM_H
  | .POS_HWM_H => .high .POS_HWM_L
  | .POS_LINE_L => .low .POS_LINE_H
  | .POS_LINE_H => .high .POS_LINE_L
  | .POS_NEXT_L => .low .POS_NEXT_H
  | .POS_NEXT_H => .high .POS_NEXT_L
  | .POS_ZLATCH_L => .low .POS_ZLATCH_H
  | .POS_ZLATCH_H => .high .POS_ZLATCH_L
  | .POS_CUE_CNT_L => .low .POS_CUE_CNT_H
  | .POS_CUE_CNT_H => .high .POS_CUE_CNT_L
  | .MRK_X0_L => .low .MRK_X0_H
  | .MRK_X0_H => .high .MRK_X0_L
  | .ARC_CTXSAVE_L => .low .ARC_CTXSAVE_H
  | .ARC_CTXSAVE_H => .high .ARC_CTXSAVE_L
  | .ARC_HREQ_XLO_L => .low .ARC_HREQ_XLO_H
  | .ARC_HREQ_XLO_H => .high .ARC_HREQ_XLO_L
  | .ARC_HREQ_XHI_L => .low .ARC_HREQ_XHI_H
  | .ARC_HREQ_XHI_H => .high .ARC_HREQ_XHI_L
  | .ARC_HREQ_YLO_L => .low .ARC_HREQ_YLO_H
  | .ARC_HREQ_YLO_H => .high .ARC_HREQ_YLO_L
  | .ARC_HREQ_YHI_L => .low .ARC_HREQ_YHI_H
  | .ARC_HREQ_YHI_H => .high .ARC_HREQ_YHI_L
  | .ARC_RING_BASE_L => .low .ARC_RING_BASE_H
  | .ARC_RING_BASE_H => .high .ARC_RING_BASE_L
  | .ARC_IDX_BASE_L => .low .ARC_IDX_BASE_H
  | .ARC_IDX_BASE_H => .high .ARC_IDX_BASE_L
  | .ARC_FRONT_L => .low .ARC_FRONT_H
  | .ARC_FRONT_H => .high .ARC_FRONT_L
  | .ARC_BLK_CNT_L => .low .ARC_BLK_CNT_H
  | .ARC_BLK_CNT_H => .high .ARC_BLK_CNT_L
  | .DMA_SSRC_L => .low .DMA_SSRC_H
  | .DMA_SSRC_H => .high .DMA_SSRC_L
  | .DMA_SDST_L => .low .DMA_SDST_H
  | .DMA_SDST_H => .high .DMA_SDST_L
  | .DMA_ASRC_L => .low .DMA_ASRC_H
  | .DMA_ASRC_H => .high .DMA_ASRC_L
  | .DMA_ADST_L => .low .DMA_ADST_H
  | .DMA_ADST_H => .high .DMA_ADST_L
  | .MEM_MIG_PTR_L => .low .MEM_MIG_PTR_H
  | .MEM_MIG_PTR_H => .high .MEM_MIG_PTR_L
  | .MEM_UE_ADDR_L => .low .MEM_UE_ADDR_H
  | .MEM_UE_ADDR_H => .high .MEM_UE_ADDR_L
  | .HST_CQ_TS_LO => .low .HST_CQ_TS_HI
  | .HST_CQ_TS_HI => .high .HST_CQ_TS_LO
  | .TIM_ADJ_L => .low .TIM_ADJ_H
  | .TIM_ADJ_H => .high .TIM_ADJ_L
  | .TIM_INTEG_L => .low .TIM_INTEG_H
  | .TIM_INTEG_H => .high .TIM_INTEG_L
  | .TIM_OFS_LO => .low .TIM_OFS_HI
  | .TIM_OFS_HI => .high .TIM_OFS_LO
  | .EVT_TCAP0_LO => .low .EVT_TCAP0_HI
  | .EVT_TCAP0_HI => .high .EVT_TCAP0_LO
  | .EVT_TCAP1_LO => .low .EVT_TCAP1_HI
  | .EVT_TCAP1_HI => .high .EVT_TCAP1_LO
  | .EVT_YCAP_L => .low .EVT_YCAP_H
  | .EVT_YCAP_H => .high .EVT_YCAP_L
  | .PMC_CYC_LO => .low .PMC_CYC_HI
  | .PMC_CYC_HI => .high .PMC_CYC_LO
  | .PMC_CNT_LO => .low .PMC_CNT_HI
  | .PMC_CNT_HI => .high .PMC_CNT_LO
  | .PMC_RES_LO => .low .PMC_RES_HI
  | .PMC_RES_HI => .high .PMC_RES_LO
  | .PWR_SAVE_LO => .low .PWR_SAVE_HI
  | .PWR_SAVE_HI => .high .PWR_SAVE_LO
  | _ => .none

end Sys2Proof.Machine


namespace Sys2Proof.Machine.F

/-- GLB_ID.PART -/ def GLB_ID_PART : Fld := ⟨.GLB_ID, 16, 16⟩
/-- GLB_ID.STEP -/ def GLB_ID_STEP : Fld := ⟨.GLB_ID, 8, 8⟩
/-- GLB_MODE.MODE -/ def GLB_MODE_MODE : Fld := ⟨.GLB_MODE, 0, 3⟩
/-- GLB_CTRL.RELOAD -/ def GLB_CTRL_RELOAD : Fld := ⟨.GLB_CTRL, 4, 1⟩
/-- GLB_CTRL.REH -/ def GLB_CTRL_REH : Fld := ⟨.GLB_CTRL, 3, 1⟩
/-- GLB_CTRL.STANDBY -/ def GLB_CTRL_STANDBY : Fld := ⟨.GLB_CTRL, 2, 1⟩
/-- GLB_CTRL.RESUME -/ def GLB_CTRL_RESUME : Fld := ⟨.GLB_CTRL, 1, 1⟩
/-- GLB_CTRL.HOLD -/ def GLB_CTRL_HOLD : Fld := ⟨.GLB_CTRL, 0, 1⟩
/-- GLB_STATUS.STS -/ def GLB_STATUS_STS : Fld := ⟨.GLB_STATUS, 28, 4⟩
/-- GLB_STATUS.VFAIL_TIME -/ def GLB_STATUS_VFAIL_TIME : Fld := ⟨.GLB_STATUS, 8, 1⟩
/-- GLB_STATUS.VFAIL_POS -/ def GLB_STATUS_VFAIL_POS : Fld := ⟨.GLB_STATUS, 7, 1⟩
/-- GLB_STATUS.VFAIL_REG -/ def GLB_STATUS_VFAIL_REG : Fld := ⟨.GLB_STATUS, 6, 1⟩
/-- GLB_STATUS.VERIFY -/ def GLB_STATUS_VERIFY : Fld := ⟨.GLB_STATUS, 5, 1⟩
/-- GLB_STATUS.REH_OWED -/ def GLB_STATUS_REH_OWED : Fld := ⟨.GLB_STATUS, 4, 1⟩
/-- GLB_STATUS.HELD_BY_REQ -/ def GLB_STATUS_HELD_BY_REQ : Fld := ⟨.GLB_STATUS, 3, 1⟩
/-- GLB_STATUS.LOAD_STALL -/ def GLB_STATUS_LOAD_STALL : Fld := ⟨.GLB_STATUS, 2, 1⟩
/-- GLB_STATUS.PENDING -/ def GLB_STATUS_PENDING : Fld := ⟨.GLB_STATUS, 1, 1⟩
/-- GLB_STATUS.TRANSITION -/ def GLB_STATUS_TRANSITION : Fld := ⟨.GLB_STATUS, 0, 1⟩
/-- GLB_EVENT.VERIFY_DONE -/ def GLB_EVENT_VERIFY_DONE : Fld := ⟨.GLB_EVENT, 5, 1⟩
/-- GLB_EVENT.REH_DONE -/ def GLB_EVENT_REH_DONE : Fld := ⟨.GLB_EVENT, 4, 1⟩
/-- GLB_EVENT.REH_TIMEOUT -/ def GLB_EVENT_REH_TIMEOUT : Fld := ⟨.GLB_EVENT, 3, 1⟩
/-- GLB_EVENT.REFUSED -/ def GLB_EVENT_REFUSED : Fld := ⟨.GLB_EVENT, 2, 1⟩
/-- GLB_EVENT.LOAD_DONE -/ def GLB_EVENT_LOAD_DONE : Fld := ⟨.GLB_EVENT, 1, 1⟩
/-- GLB_EVENT.MODE_CHANGE -/ def GLB_EVENT_MODE_CHANGE : Fld := ⟨.GLB_EVENT, 0, 1⟩
/-- GLB_EVENT_EN.EN -/ def GLB_EVENT_EN_EN : Fld := ⟨.GLB_EVENT_EN, 0, 6⟩
/-- GLB_RUN_CFG.AUTO_HOLD -/ def GLB_RUN_CFG_AUTO_HOLD : Fld := ⟨.GLB_RUN_CFG, 31, 1⟩
/-- GLB_RUN_CFG.AUTO_RESUME -/ def GLB_RUN_CFG_AUTO_RESUME : Fld := ⟨.GLB_RUN_CFG, 30, 1⟩
/-- GLB_RUN_CFG.VMIN -/ def GLB_RUN_CFG_VMIN : Fld := ⟨.GLB_RUN_CFG, 0, 26⟩
/-- GLB_REH_CFG.MAX_STRIPS -/ def GLB_REH_CFG_MAX_STRIPS : Fld := ⟨.GLB_REH_CFG, 16, 16⟩
/-- GLB_REH_CFG.MIN_STRIPS -/ def GLB_REH_CFG_MIN_STRIPS : Fld := ⟨.GLB_REH_CFG, 0, 8⟩
/-- GLB_VERIFY_CFG.TMO -/ def GLB_VERIFY_CFG_TMO : Fld := ⟨.GLB_VERIFY_CFG, 16, 16⟩
/-- GLB_VERIFY_CFG.TIME -/ def GLB_VERIFY_CFG_TIME : Fld := ⟨.GLB_VERIFY_CFG, 2, 1⟩
/-- GLB_VERIFY_CFG.POS -/ def GLB_VERIFY_CFG_POS : Fld := ⟨.GLB_VERIFY_CFG, 1, 1⟩
/-- GLB_VERIFY_CFG.REG -/ def GLB_VERIFY_CFG_REG : Fld := ⟨.GLB_VERIFY_CFG, 0, 1⟩
/-- GLB_WAKE_CFG.STBY_AFTER -/ def GLB_WAKE_CFG_STBY_AFTER : Fld := ⟨.GLB_WAKE_CFG, 16, 16⟩
/-- GLB_WAKE_CFG.PIN -/ def GLB_WAKE_CFG_PIN : Fld := ⟨.GLB_WAKE_CFG, 2, 1⟩
/-- GLB_WAKE_CFG.LANE -/ def GLB_WAKE_CFG_LANE : Fld := ⟨.GLB_WAKE_CFG, 1, 1⟩
/-- GLB_WAKE_CFG.TASK -/ def GLB_WAKE_CFG_TASK : Fld := ⟨.GLB_WAKE_CFG, 0, 1⟩
/-- GLB_LOAD_STATUS.STEP -/ def GLB_LOAD_STATUS_STEP : Fld := ⟨.GLB_LOAD_STATUS, 28, 4⟩
/-- GLB_LOAD_STATUS.SLOT -/ def GLB_LOAD_STATUS_SLOT : Fld := ⟨.GLB_LOAD_STATUS, 24, 1⟩
/-- GLB_LOAD_STATUS.SLOT1_BAD -/ def GLB_LOAD_STATUS_SLOT1_BAD : Fld := ⟨.GLB_LOAD_STATUS, 23, 1⟩
/-- GLB_LOAD_STATUS.SLOT0_BAD -/ def GLB_LOAD_STATUS_SLOT0_BAD : Fld := ⟨.GLB_LOAD_STATUS, 22, 1⟩
/-- GLB_LOAD_STATUS.FAIL0 -/ def GLB_LOAD_STATUS_FAIL0 : Fld := ⟨.GLB_LOAD_STATUS, 16, 4⟩
/-- GLB_LOAD_STATUS.TRIES -/ def GLB_LOAD_STATUS_TRIES : Fld := ⟨.GLB_LOAD_STATUS, 0, 8⟩
/-- GLB_LOAD_TIME.TIME -/ def GLB_LOAD_TIME_TIME : Fld := ⟨.GLB_LOAD_TIME, 0, 32⟩
/-- GLB_IMG_VER.VER -/ def GLB_IMG_VER_VER : Fld := ⟨.GLB_IMG_VER, 0, 32⟩
/-- GLB_ACC_ERR_CNT.CNT -/ def GLB_ACC_ERR_CNT_CNT : Fld := ⟨.GLB_ACC_ERR_CNT, 0, 32⟩
/-- GLB_REFUSE_CNT.CNT -/ def GLB_REFUSE_CNT_CNT : Fld := ⟨.GLB_REFUSE_CNT, 0, 32⟩
/-- GLB_HOLD_CNT.CNT -/ def GLB_HOLD_CNT_CNT : Fld := ⟨.GLB_HOLD_CNT, 0, 32⟩
/-- GLB_STBY_CNT.CNT -/ def GLB_STBY_CNT_CNT : Fld := ⟨.GLB_STBY_CNT, 0, 32⟩
/-- CAM_CTRL.RESTART -/ def CAM_CTRL_RESTART : Fld := ⟨.CAM_CTRL, 8, 1⟩
/-- CAM_CTRL.AUTO_RETRY -/ def CAM_CTRL_AUTO_RETRY : Fld := ⟨.CAM_CTRL, 2, 1⟩
/-- CAM_CTRL.REFOUT_EN -/ def CAM_CTRL_REFOUT_EN : Fld := ⟨.CAM_CTRL, 1, 1⟩
/-- CAM_CTRL.EN -/ def CAM_CTRL_EN : Fld := ⟨.CAM_CTRL, 0, 1⟩
/-- CAM_GEOM.MOSAIC1 -/ def CAM_GEOM_MOSAIC1 : Fld := ⟨.CAM_GEOM, 13, 1⟩
/-- CAM_GEOM.MOSAIC0 -/ def CAM_GEOM_MOSAIC0 : Fld := ⟨.CAM_GEOM, 12, 1⟩
/-- CAM_GEOM.DEPTH1 -/ def CAM_GEOM_DEPTH1 : Fld := ⟨.CAM_GEOM, 8, 4⟩
/-- CAM_GEOM.DEPTH0 -/ def CAM_GEOM_DEPTH0 : Fld := ⟨.CAM_GEOM, 4, 4⟩
/-- CAM_GEOM.NHEADS -/ def CAM_GEOM_NHEADS : Fld := ⟨.CAM_GEOM, 0, 2⟩
/-- CAM_PIXELS.PIX1 -/ def CAM_PIXELS_PIX1 : Fld := ⟨.CAM_PIXELS, 16, 16⟩
/-- CAM_PIXELS.PIX0 -/ def CAM_PIXELS_PIX0 : Fld := ⟨.CAM_PIXELS, 0, 16⟩
/-- CAM_TIMING.CABLE_DELAY -/ def CAM_TIMING_CABLE_DELAY : Fld := ⟨.CAM_TIMING, 16, 12⟩
/-- CAM_TIMING.LINE_TMO -/ def CAM_TIMING_LINE_TMO : Fld := ⟨.CAM_TIMING, 0, 16⟩
/-- CAM_STATUS.FCLASS -/ def CAM_STATUS_FCLASS : Fld := ⟨.CAM_STATUS, 8, 8⟩
/-- CAM_STATUS.PREH -/ def CAM_STATUS_PREH : Fld := ⟨.CAM_STATUS, 7, 1⟩
/-- CAM_STATUS.MISMATCH -/ def CAM_STATUS_MISMATCH : Fld := ⟨.CAM_STATUS, 6, 1⟩
/-- CAM_STATUS.STALE -/ def CAM_STATUS_STALE : Fld := ⟨.CAM_STATUS, 5, 1⟩
/-- CAM_STATUS.DESC_VALID -/ def CAM_STATUS_DESC_VALID : Fld := ⟨.CAM_STATUS, 4, 1⟩
/-- CAM_STATUS.STATE -/ def CAM_STATUS_STATE : Fld := ⟨.CAM_STATUS, 0, 3⟩
/-- CAM_EVENT.PREH_FAIL -/ def CAM_EVENT_PREH_FAIL : Fld := ⟨.CAM_EVENT, 10, 1⟩
/-- CAM_EVENT.PREH_DONE -/ def CAM_EVENT_PREH_DONE : Fld := ⟨.CAM_EVENT, 9, 1⟩
/-- CAM_EVENT.RUN_ENTER -/ def CAM_EVENT_RUN_ENTER : Fld := ⟨.CAM_EVENT, 8, 1⟩
/-- CAM_EVENT.CAM_WARN -/ def CAM_EVENT_CAM_WARN : Fld := ⟨.CAM_EVENT, 7, 1⟩
/-- CAM_EVENT.SET_TMO -/ def CAM_EVENT_SET_TMO : Fld := ⟨.CAM_EVENT, 6, 1⟩
/-- CAM_EVENT.STALE_SET -/ def CAM_EVENT_STALE_SET : Fld := ⟨.CAM_EVENT, 5, 1⟩
/-- CAM_EVENT.MISMATCH -/ def CAM_EVENT_MISMATCH : Fld := ⟨.CAM_EVENT, 4, 1⟩
/-- CAM_EVENT.DESC_ERR -/ def CAM_EVENT_DESC_ERR : Fld := ⟨.CAM_EVENT, 3, 1⟩
/-- CAM_EVENT.MALF_FAULT -/ def CAM_EVENT_MALF_FAULT : Fld := ⟨.CAM_EVENT, 2, 1⟩
/-- CAM_EVENT.LOCK_LOST -/ def CAM_EVENT_LOCK_LOST : Fld := ⟨.CAM_EVENT, 1, 1⟩
/-- CAM_EVENT.FAULT -/ def CAM_EVENT_FAULT : Fld := ⟨.CAM_EVENT, 0, 1⟩
/-- CAM_EVENT_EN.EN -/ def CAM_EVENT_EN_EN : Fld := ⟨.CAM_EVENT_EN, 0, 11⟩
/-- CAM_DESC_ID.VENDOR -/ def CAM_DESC_ID_VENDOR : Fld := ⟨.CAM_DESC_ID, 16, 16⟩
/-- CAM_DESC_ID.MODEL -/ def CAM_DESC_ID_MODEL : Fld := ⟨.CAM_DESC_ID, 0, 16⟩
/-- CAM_SERIAL_LO.V -/ def CAM_SERIAL_LO_V : Fld := ⟨.CAM_SERIAL_LO, 0, 32⟩
/-- CAM_SERIAL_HI.V -/ def CAM_SERIAL_HI_V : Fld := ⟨.CAM_SERIAL_HI, 0, 32⟩
/-- CAM_DESC_GEOM.NHEADS -/ def CAM_DESC_GEOM_NHEADS : Fld := ⟨.CAM_DESC_GEOM, 30, 2⟩
/-- CAM_DESC_GEOM.DEPTH1 -/ def CAM_DESC_GEOM_DEPTH1 : Fld := ⟨.CAM_DESC_GEOM, 26, 4⟩
/-- CAM_DESC_GEOM.DEPTH0 -/ def CAM_DESC_GEOM_DEPTH0 : Fld := ⟨.CAM_DESC_GEOM, 22, 4⟩
/-- CAM_DESC_GEOM.MOSAIC1 -/ def CAM_DESC_GEOM_MOSAIC1 : Fld := ⟨.CAM_DESC_GEOM, 21, 1⟩
/-- CAM_DESC_GEOM.MOSAIC0 -/ def CAM_DESC_GEOM_MOSAIC0 : Fld := ⟨.CAM_DESC_GEOM, 20, 1⟩
/-- CAM_DESC_GEOM.REPAIR -/ def CAM_DESC_GEOM_REPAIR : Fld := ⟨.CAM_DESC_GEOM, 0, 16⟩
/-- CAM_DESC_PIXELS.PIX1 -/ def CAM_DESC_PIXELS_PIX1 : Fld := ⟨.CAM_DESC_PIXELS, 16, 16⟩
/-- CAM_DESC_PIXELS.PIX0 -/ def CAM_DESC_PIXELS_PIX0 : Fld := ⟨.CAM_DESC_PIXELS, 0, 16⟩
/-- CAM_DESC_TIMING.SDELAY -/ def CAM_DESC_TIMING_SDELAY : Fld := ⟨.CAM_DESC_TIMING, 24, 8⟩
/-- CAM_DESC_TIMING.MAXRATE -/ def CAM_DESC_TIMING_MAXRATE : Fld := ⟨.CAM_DESC_TIMING, 0, 20⟩
/-- CAM_TEMP.VALID1 -/ def CAM_TEMP_VALID1 : Fld := ⟨.CAM_TEMP, 31, 1⟩
/-- CAM_TEMP.TEMP1 -/ def CAM_TEMP_TEMP1 : Fld := ⟨.CAM_TEMP, 16, 12⟩
/-- CAM_TEMP.VALID0 -/ def CAM_TEMP_VALID0 : Fld := ⟨.CAM_TEMP, 15, 1⟩
/-- CAM_TEMP.TEMP0 -/ def CAM_TEMP_TEMP0 : Fld := ⟨.CAM_TEMP, 0, 12⟩
/-- CAM_CAL_SERIAL_LO.V -/ def CAM_CAL_SERIAL_LO_V : Fld := ⟨.CAM_CAL_SERIAL_LO, 0, 32⟩
/-- CAM_CAL_SERIAL_HI.V -/ def CAM_CAL_SERIAL_HI_V : Fld := ⟨.CAM_CAL_SERIAL_HI, 0, 32⟩
/-- CAM_CAL_REPAIR.REPAIR -/ def CAM_CAL_REPAIR_REPAIR : Fld := ⟨.CAM_CAL_REPAIR, 0, 16⟩
/-- CAM_SID.ISSUED -/ def CAM_SID_ISSUED : Fld := ⟨.CAM_SID, 24, 8⟩
/-- CAM_SID.ECHO0 -/ def CAM_SID_ECHO0 : Fld := ⟨.CAM_SID, 16, 8⟩
/-- CAM_SID.ECHO1 -/ def CAM_SID_ECHO1 : Fld := ⟨.CAM_SID, 8, 8⟩
/-- CAM_LAST_ERR.CODE -/ def CAM_LAST_ERR_CODE : Fld := ⟨.CAM_LAST_ERR, 24, 8⟩
/-- CAM_LAST_ERR.HEAD -/ def CAM_LAST_ERR_HEAD : Fld := ⟨.CAM_LAST_ERR, 23, 1⟩
/-- CAM_LAST_ERR.LINE -/ def CAM_LAST_ERR_LINE : Fld := ⟨.CAM_LAST_ERR, 0, 23⟩
/-- CAM_SHORT_CNT.CNT -/ def CAM_SHORT_CNT_CNT : Fld := ⟨.CAM_SHORT_CNT, 0, 32⟩
/-- CAM_LONG_CNT.CNT -/ def CAM_LONG_CNT_CNT : Fld := ⟨.CAM_LONG_CNT, 0, 32⟩
/-- CAM_CRC_CNT.CNT -/ def CAM_CRC_CNT_CNT : Fld := ⟨.CAM_CRC_CNT, 0, 32⟩
/-- CAM_MISSING_CNT.CNT -/ def CAM_MISSING_CNT_CNT : Fld := ⟨.CAM_MISSING_CNT, 0, 32⟩
/-- CAM_ORDER_CNT.CNT -/ def CAM_ORDER_CNT_CNT : Fld := ⟨.CAM_ORDER_CNT, 0, 32⟩
/-- CAM_EOL_TMO_CNT.CNT -/ def CAM_EOL_TMO_CNT_CNT : Fld := ⟨.CAM_EOL_TMO_CNT, 0, 32⟩
/-- CAM_FIFO_OVF_CNT.CNT -/ def CAM_FIFO_OVF_CNT_CNT : Fld := ⟨.CAM_FIFO_OVF_CNT, 0, 32⟩
/-- CAM_SET_TMO_CNT.CNT -/ def CAM_SET_TMO_CNT_CNT : Fld := ⟨.CAM_SET_TMO_CNT, 0, 32⟩
/-- CAM_SID_UNK_CNT.CNT -/ def CAM_SID_UNK_CNT_CNT : Fld := ⟨.CAM_SID_UNK_CNT, 0, 32⟩
/-- CAM_CAMERR_CNT.CNT -/ def CAM_CAMERR_CNT_CNT : Fld := ⟨.CAM_CAMERR_CNT, 0, 32⟩
/-- CAM_DESC_ERR_CNT.CNT -/ def CAM_DESC_ERR_CNT_CNT : Fld := ⟨.CAM_DESC_ERR_CNT, 0, 32⟩
/-- CAM_RETRY_CNT.CNT -/ def CAM_RETRY_CNT_CNT : Fld := ⟨.CAM_RETRY_CNT, 0, 32⟩
/-- CAM_MALF_RUN.RUN -/ def CAM_MALF_RUN_RUN : Fld := ⟨.CAM_MALF_RUN, 0, 5⟩
/-- CAM_PREH_FAIL_CNT.CNT -/ def CAM_PREH_FAIL_CNT_CNT : Fld := ⟨.CAM_PREH_FAIL_CNT, 0, 32⟩
/-- COR_CTRL.STATS_EN -/ def COR_CTRL_STATS_EN : Fld := ⟨.COR_CTRL, 2, 1⟩
/-- COR_CTRL.FF_TEMP_EN -/ def COR_CTRL_FF_TEMP_EN : Fld := ⟨.COR_CTRL, 1, 1⟩
/-- COR_CTRL.FF_EN -/ def COR_CTRL_FF_EN : Fld := ⟨.COR_CTRL, 0, 1⟩
/-- COR_FF_CFG.RETRY -/ def COR_FF_CFG_RETRY : Fld := ⟨.COR_FF_CFG, 16, 8⟩
/-- COR_FF_CFG.DTEMP -/ def COR_FF_CFG_DTEMP : Fld := ⟨.COR_FF_CFG, 8, 5⟩
/-- COR_FF_CFG.WIN -/ def COR_FF_CFG_WIN : Fld := ⟨.COR_FF_CFG, 0, 4⟩
/-- COR_FF_TOL.REJ_MAX -/ def COR_FF_TOL_REJ_MAX : Fld := ⟨.COR_FF_TOL, 24, 8⟩
/-- COR_FF_TOL.OUTLIER -/ def COR_FF_TOL_OUTLIER : Fld := ⟨.COR_FF_TOL, 16, 8⟩
/-- COR_FF_TOL.OFS_TOL -/ def COR_FF_TOL_OFS_TOL : Fld := ⟨.COR_FF_TOL, 8, 8⟩
/-- COR_FF_TOL.GAIN_TOL -/ def COR_FF_TOL_GAIN_TOL : Fld := ⟨.COR_FF_TOL, 0, 8⟩
/-- COR_DARK_CFG.LINES -/ def COR_DARK_CFG_LINES : Fld := ⟨.COR_DARK_CFG, 0, 13⟩
/-- COR_EVENT.EXP_LIMIT -/ def COR_EVENT_EXP_LIMIT : Fld := ⟨.COR_EVENT, 4, 1⟩
/-- COR_EVENT.FF_ABANDON -/ def COR_EVENT_FF_ABANDON : Fld := ⟨.COR_EVENT, 3, 1⟩
/-- COR_EVENT.FF_FAIL -/ def COR_EVENT_FF_FAIL : Fld := ⟨.COR_EVENT, 2, 1⟩
/-- COR_EVENT.FF_ACCEPT -/ def COR_EVENT_FF_ACCEPT : Fld := ⟨.COR_EVENT, 1, 1⟩
/-- COR_EVENT.FF_START -/ def COR_EVENT_FF_START : Fld := ⟨.COR_EVENT, 0, 1⟩
/-- COR_EVENT_EN.EN -/ def COR_EVENT_EN_EN : Fld := ⟨.COR_EVENT_EN, 0, 5⟩
/-- COR_FF_LAST.HEAD -/ def COR_FF_LAST_HEAD : Fld := ⟨.COR_FF_LAST, 27, 5⟩
/-- COR_FF_LAST.RESULT -/ def COR_FF_LAST_RESULT : Fld := ⟨.COR_FF_LAST, 24, 3⟩
/-- COR_FF_LAST.COLS -/ def COR_FF_LAST_COLS : Fld := ⟨.COR_FF_LAST, 0, 15⟩
/-- COR_FF_STATE.V -/ def COR_FF_STATE_V : Fld := ⟨.COR_FF_STATE, 0, 32⟩
/-- COR_STALE.V -/ def COR_STALE_V : Fld := ⟨.COR_STALE, 0, 32⟩
/-- COR_OFS_OLD.V -/ def COR_OFS_OLD_V : Fld := ⟨.COR_OFS_OLD, 0, 32⟩
/-- COR_BANK.V -/ def COR_BANK_V : Fld := ⟨.COR_BANK, 0, 32⟩
/-- COR_HEAD_CFG.BAL_EN -/ def COR_HEAD_CFG_BAL_EN : Fld := ⟨.COR_HEAD_CFG, 3, 1⟩
/-- COR_HEAD_CFG.SHADE_EN -/ def COR_HEAD_CFG_SHADE_EN : Fld := ⟨.COR_HEAD_CFG, 2, 1⟩
/-- COR_HEAD_CFG.DEFECT_EN -/ def COR_HEAD_CFG_DEFECT_EN : Fld := ⟨.COR_HEAD_CFG, 1, 1⟩
/-- COR_HEAD_CFG.PIX_EN -/ def COR_HEAD_CFG_PIX_EN : Fld := ⟨.COR_HEAD_CFG, 0, 1⟩
/-- COR_BAL_RG.R -/ def COR_BAL_RG_R : Fld := ⟨.COR_BAL_RG, 16, 16⟩
/-- COR_BAL_RG.G -/ def COR_BAL_RG_G : Fld := ⟨.COR_BAL_RG, 0, 16⟩
/-- COR_BAL_B.B -/ def COR_BAL_B_B : Fld := ⟨.COR_BAL_B, 0, 16⟩
/-- COR_EXP_CFG.TARGET -/ def COR_EXP_CFG_TARGET : Fld := ⟨.COR_EXP_CFG, 16, 16⟩
/-- COR_EXP_CFG.PCT -/ def COR_EXP_CFG_PCT : Fld := ⟨.COR_EXP_CFG, 8, 8⟩
/-- COR_EXP_CFG.EN -/ def COR_EXP_CFG_EN : Fld := ⟨.COR_EXP_CFG, 0, 1⟩
/-- COR_EXP_LIM.EXP_MAX -/ def COR_EXP_LIM_EXP_MAX : Fld := ⟨.COR_EXP_LIM, 16, 16⟩
/-- COR_EXP_LIM.EXP_MIN -/ def COR_EXP_LIM_EXP_MIN : Fld := ⟨.COR_EXP_LIM, 0, 16⟩
/-- COR_EXP_STEP.MIN_LINES -/ def COR_EXP_STEP_MIN_LINES : Fld := ⟨.COR_EXP_STEP, 16, 16⟩
/-- COR_EXP_STEP.K -/ def COR_EXP_STEP_K : Fld := ⟨.COR_EXP_STEP, 8, 8⟩
/-- COR_EXP_STEP.STEP_MAX -/ def COR_EXP_STEP_STEP_MAX : Fld := ⟨.COR_EXP_STEP, 4, 4⟩
/-- COR_EXP_STEP.DEADBAND -/ def COR_EXP_STEP_DEADBAND : Fld := ⟨.COR_EXP_STEP, 0, 4⟩
/-- COR_EXP_STATE.EXPOSURE -/ def COR_EXP_STATE_EXPOSURE : Fld := ⟨.COR_EXP_STATE, 16, 16⟩
/-- COR_EXP_STATE.SID -/ def COR_EXP_STATE_SID : Fld := ⟨.COR_EXP_STATE, 8, 8⟩
/-- COR_EXP_STATE.LIMIT -/ def COR_EXP_STATE_LIMIT : Fld := ⟨.COR_EXP_STATE, 7, 1⟩
/-- COR_EXP_STATE.WAIT -/ def COR_EXP_STATE_WAIT : Fld := ⟨.COR_EXP_STATE, 6, 1⟩
/-- COR_REPLACED_CNT.CNT -/ def COR_REPLACED_CNT_CNT : Fld := ⟨.COR_REPLACED_CNT, 0, 32⟩
/-- COR_CLIP_CNT.CNT -/ def COR_CLIP_CNT_CNT : Fld := ⟨.COR_CLIP_CNT, 0, 32⟩
/-- COR_FF_ACCEPT_CNT.CNT -/ def COR_FF_ACCEPT_CNT_CNT : Fld := ⟨.COR_FF_ACCEPT_CNT, 0, 32⟩
/-- COR_FF_FAIL_CNT.CNT -/ def COR_FF_FAIL_CNT_CNT : Fld := ⟨.COR_FF_FAIL_CNT, 0, 32⟩
/-- COR_FF_REJ_CNT.CNT -/ def COR_FF_REJ_CNT_CNT : Fld := ⟨.COR_FF_REJ_CNT, 0, 32⟩
/-- COR_EXP_CHANGE_CNT.CNT -/ def COR_EXP_CHANGE_CNT_CNT : Fld := ⟨.COR_EXP_CHANGE_CNT, 0, 32⟩
/-- COR_EXP_LIMIT_CNT.CNT -/ def COR_EXP_LIMIT_CNT_CNT : Fld := ⟨.COR_EXP_LIMIT_CNT, 0, 32⟩
/-- AWF_EVENT.DISCARD -/ def AWF_EVENT_DISCARD : Fld := ⟨.AWF_EVENT, 3, 1⟩
/-- AWF_EVENT.RESTART -/ def AWF_EVENT_RESTART : Fld := ⟨.AWF_EVENT, 2, 1⟩
/-- AWF_EVENT.CHANGE -/ def AWF_EVENT_CHANGE : Fld := ⟨.AWF_EVENT, 1, 1⟩
/-- AWF_EVENT.CFG_REJ -/ def AWF_EVENT_CFG_REJ : Fld := ⟨.AWF_EVENT, 0, 1⟩
/-- AWF_EVENT_EN.EN -/ def AWF_EVENT_EN_EN : Fld := ⟨.AWF_EVENT_EN, 0, 4⟩
/-- AWF_REJ.HEAD -/ def AWF_REJ_HEAD : Fld := ⟨.AWF_REJ, 27, 5⟩
/-- AWF_REJ.RESP -/ def AWF_REJ_RESP : Fld := ⟨.AWF_REJ, 16, 5⟩
/-- AWF_REJ.DCODE -/ def AWF_REJ_DCODE : Fld := ⟨.AWF_REJ, 8, 3⟩
/-- AWF_HEAD_CFG.DCODE -/ def AWF_HEAD_CFG_DCODE : Fld := ⟨.AWF_HEAD_CFG, 8, 3⟩
/-- AWF_HEAD_CFG.RESP -/ def AWF_HEAD_CFG_RESP : Fld := ⟨.AWF_HEAD_CFG, 0, 5⟩
/-- AWF_HEAD_STATE.GD -/ def AWF_HEAD_STATE_GD : Fld := ⟨.AWF_HEAD_STATE, 16, 11⟩
/-- AWF_HEAD_STATE.DCODE -/ def AWF_HEAD_STATE_DCODE : Fld := ⟨.AWF_HEAD_STATE, 8, 3⟩
/-- AWF_HEAD_STATE.RESP -/ def AWF_HEAD_STATE_RESP : Fld := ⟨.AWF_HEAD_STATE, 0, 5⟩
/-- AWF_CLIP_CNT.CNT -/ def AWF_CLIP_CNT_CNT : Fld := ⟨.AWF_CLIP_CNT, 0, 32⟩
/-- AWF_INV_OUT_CNT.CNT -/ def AWF_INV_OUT_CNT_CNT : Fld := ⟨.AWF_INV_OUT_CNT, 0, 32⟩
/-- AWF_CHANGE_CNT.CNT -/ def AWF_CHANGE_CNT_CNT : Fld := ⟨.AWF_CHANGE_CNT, 0, 32⟩
/-- AWF_REJ_CNT.CNT -/ def AWF_REJ_CNT_CNT : Fld := ⟨.AWF_REJ_CNT, 0, 32⟩
/-- STI_CTRL.HOLD_N -/ def STI_CTRL_HOLD_N : Fld := ⟨.STI_CTRL, 16, 4⟩
/-- STI_CTRL.REPORT_N -/ def STI_CTRL_REPORT_N : Fld := ⟨.STI_CTRL, 8, 8⟩
/-- STI_CTRL.XR -/ def STI_CTRL_XR : Fld := ⟨.STI_CTRL, 2, 1⟩
/-- STI_CTRL.REPORT_EN -/ def STI_CTRL_REPORT_EN : Fld := ⟨.STI_CTRL, 1, 1⟩
/-- STI_CTRL.MERGE_EN -/ def STI_CTRL_MERGE_EN : Fld := ⟨.STI_CTRL, 0, 1⟩
/-- STI_SEARCH.MIN_VALID -/ def STI_SEARCH_MIN_VALID : Fld := ⟨.STI_SEARCH, 24, 8⟩
/-- STI_SEARCH.CONF -/ def STI_SEARCH_CONF : Fld := ⟨.STI_SEARCH, 16, 8⟩
/-- STI_SEARCH.DY -/ def STI_SEARCH_DY : Fld := ⟨.STI_SEARCH, 8, 3⟩
/-- STI_SEARCH.DX -/ def STI_SEARCH_DX : Fld := ⟨.STI_SEARCH, 0, 4⟩
/-- STI_MERGE.XDEV_TMO -/ def STI_MERGE_XDEV_TMO : Fld := ⟨.STI_MERGE, 16, 16⟩
/-- STI_MERGE.TOL -/ def STI_MERGE_TOL : Fld := ⟨.STI_MERGE, 4, 3⟩
/-- STI_MERGE.BAND -/ def STI_MERGE_BAND : Fld := ⟨.STI_MERGE, 0, 3⟩
/-- STI_EVENT.WBUF_ERR -/ def STI_EVENT_WBUF_ERR : Fld := ⟨.STI_EVENT, 6, 1⟩
/-- STI_EVENT.LIMIT -/ def STI_EVENT_LIMIT : Fld := ⟨.STI_EVENT, 5, 1⟩
/-- STI_EVENT.MERGE_LIMIT -/ def STI_EVENT_MERGE_LIMIT : Fld := ⟨.STI_EVENT, 4, 1⟩
/-- STI_EVENT.UNMERGED -/ def STI_EVENT_UNMERGED : Fld := ⟨.STI_EVENT, 3, 1⟩
/-- STI_EVENT.TRACK -/ def STI_EVENT_TRACK : Fld := ⟨.STI_EVENT, 2, 1⟩
/-- STI_EVENT.HELD -/ def STI_EVENT_HELD : Fld := ⟨.STI_EVENT, 1, 1⟩
/-- STI_EVENT.ACCEPT -/ def STI_EVENT_ACCEPT : Fld := ⟨.STI_EVENT, 0, 1⟩
/-- STI_EVENT_EN.EN -/ def STI_EVENT_EN_EN : Fld := ⟨.STI_EVENT_EN, 0, 7⟩
/-- STI_PITCH.PITCH -/ def STI_PITCH_PITCH : Fld := ⟨.STI_PITCH, 0, 32⟩
/-- STI_ORDER.V3 -/ def STI_ORDER_V3 : Fld := ⟨.STI_ORDER, 31, 1⟩
/-- STI_ORDER.HEAD3 -/ def STI_ORDER_HEAD3 : Fld := ⟨.STI_ORDER, 24, 5⟩
/-- STI_ORDER.V2 -/ def STI_ORDER_V2 : Fld := ⟨.STI_ORDER, 23, 1⟩
/-- STI_ORDER.HEAD2 -/ def STI_ORDER_HEAD2 : Fld := ⟨.STI_ORDER, 16, 5⟩
/-- STI_ORDER.V1 -/ def STI_ORDER_V1 : Fld := ⟨.STI_ORDER, 15, 1⟩
/-- STI_ORDER.HEAD1 -/ def STI_ORDER_HEAD1 : Fld := ⟨.STI_ORDER, 8, 5⟩
/-- STI_ORDER.V0 -/ def STI_ORDER_V0 : Fld := ⟨.STI_ORDER, 7, 1⟩
/-- STI_ORDER.HEAD0 -/ def STI_ORDER_HEAD0 : Fld := ⟨.STI_ORDER, 0, 5⟩
/-- STI_STATE0.V -/ def STI_STATE0_V : Fld := ⟨.STI_STATE0, 0, 32⟩
/-- STI_STATE1.V -/ def STI_STATE1_V : Fld := ⟨.STI_STATE1, 0, 32⟩
/-- STI_XR_CFG.WING -/ def STI_XR_CFG_WING : Fld := ⟨.STI_XR_CFG, 16, 11⟩
/-- STI_XR_CFG.SEAMCOL -/ def STI_XR_CFG_SEAMCOL : Fld := ⟨.STI_XR_CFG, 0, 16⟩
/-- STI_PEND.N -/ def STI_PEND_N : Fld := ⟨.STI_PEND, 0, 16⟩
/-- STI_MOUNT.D -/ def STI_MOUNT_D : Fld := ⟨.STI_MOUNT, 0, 32⟩
/-- SEAM_CFG.SR_EN -/ def SEAM_CFG_SR_EN : Fld := ⟨.SEAM_CFG, 31, 1⟩
/-- SEAM_CFG.XDEV -/ def SEAM_CFG_XDEV : Fld := ⟨.SEAM_CFG, 30, 1⟩
/-- SEAM_CFG.WING -/ def SEAM_CFG_WING : Fld := ⟨.SEAM_CFG, 16, 11⟩
/-- SEAM_CFG.SEAMCOL -/ def SEAM_CFG_SEAMCOL : Fld := ⟨.SEAM_CFG, 0, 16⟩
/-- SEAM_OFS.OFS -/ def SEAM_OFS_OFS : Fld := ⟨.SEAM_OFS, 0, 24⟩
/-- SEAM_SCALE.SDEV -/ def SEAM_SCALE_SDEV : Fld := ⟨.SEAM_SCALE, 0, 24⟩
/-- SEAM_YOFS.YOFS -/ def SEAM_YOFS_YOFS : Fld := ⟨.SEAM_YOFS, 0, 16⟩
/-- SEAM_STATUS.STATE -/ def SEAM_STATUS_STATE : Fld := ⟨.SEAM_STATUS, 30, 2⟩
/-- SEAM_STATUS.REASON -/ def SEAM_STATUS_REASON : Fld := ⟨.SEAM_STATUS, 26, 4⟩
/-- SEAM_STATUS.CONF -/ def SEAM_STATUS_CONF : Fld := ⟨.SEAM_STATUS, 16, 8⟩
/-- SEAM_STATUS.HELD_STRIPS -/ def SEAM_STATUS_HELD_STRIPS : Fld := ⟨.SEAM_STATUS, 0, 16⟩
/-- SEAM_EST.RL -/ def SEAM_EST_RL : Fld := ⟨.SEAM_EST, 16, 16⟩
/-- SEAM_EST.RR -/ def SEAM_EST_RR : Fld := ⟨.SEAM_EST, 0, 16⟩
/-- SEAM_EST2.RY -/ def SEAM_EST2_RY : Fld := ⟨.SEAM_EST2, 16, 16⟩
/-- SEAM_EST2.CONF_L -/ def SEAM_EST2_CONF_L : Fld := ⟨.SEAM_EST2, 8, 8⟩
/-- SEAM_EST2.CONF_R -/ def SEAM_EST2_CONF_R : Fld := ⟨.SEAM_EST2, 0, 8⟩
/-- SEAM_DELAY.LEADR -/ def SEAM_DELAY_LEADR : Fld := ⟨.SEAM_DELAY, 15, 1⟩
/-- SEAM_DELAY.DELTA -/ def SEAM_DELAY_DELTA : Fld := ⟨.SEAM_DELAY, 0, 15⟩
/-- STI_ACC_CNT.CNT -/ def STI_ACC_CNT_CNT : Fld := ⟨.STI_ACC_CNT, 0, 32⟩
/-- STI_UNUSABLE_CNT.CNT -/ def STI_UNUSABLE_CNT_CNT : Fld := ⟨.STI_UNUSABLE_CNT, 0, 32⟩
/-- STI_DISAGREE_CNT.CNT -/ def STI_DISAGREE_CNT_CNT : Fld := ⟨.STI_DISAGREE_CNT, 0, 32⟩
/-- STI_MERGE_CNT.CNT -/ def STI_MERGE_CNT_CNT : Fld := ⟨.STI_MERGE_CNT, 0, 32⟩
/-- STI_UNMERGED_CNT.CNT -/ def STI_UNMERGED_CNT_CNT : Fld := ⟨.STI_UNMERGED_CNT, 0, 32⟩
/-- STI_MLIMIT_CNT.CNT -/ def STI_MLIMIT_CNT_CNT : Fld := ⟨.STI_MLIMIT_CNT, 0, 32⟩
/-- STI_WBUF_INV_CNT.CNT -/ def STI_WBUF_INV_CNT_CNT : Fld := ⟨.STI_WBUF_INV_CNT, 0, 32⟩
/-- SEG_OVF_CFG.REL_FIFO -/ def SEG_OVF_CFG_REL_FIFO : Fld := ⟨.SEG_OVF_CFG, 24, 8⟩
/-- SEG_OVF_CFG.REL_LBL -/ def SEG_OVF_CFG_REL_LBL : Fld := ⟨.SEG_OVF_CFG, 16, 8⟩
/-- SEG_OVF_CFG.REL_CTX -/ def SEG_OVF_CFG_REL_CTX : Fld := ⟨.SEG_OVF_CFG, 0, 14⟩
/-- SEG_EVENT.WARM_DONE -/ def SEG_EVENT_WARM_DONE : Fld := ⟨.SEG_EVENT, 4, 1⟩
/-- SEG_EVENT.FREEZE_REL -/ def SEG_EVENT_FREEZE_REL : Fld := ⟨.SEG_EVENT, 3, 1⟩
/-- SEG_EVENT.BACKSTOP -/ def SEG_EVENT_BACKSTOP : Fld := ⟨.SEG_EVENT, 2, 1⟩
/-- SEG_EVENT.OVF_EXIT -/ def SEG_EVENT_OVF_EXIT : Fld := ⟨.SEG_EVENT, 1, 1⟩
/-- SEG_EVENT.OVF_ENTER -/ def SEG_EVENT_OVF_ENTER : Fld := ⟨.SEG_EVENT, 0, 1⟩
/-- SEG_EVENT_EN.EN -/ def SEG_EVENT_EN_EN : Fld := ⟨.SEG_EVENT_EN, 0, 5⟩
/-- SEG_FIFO_STATUS.PEAK -/ def SEG_FIFO_STATUS_PEAK : Fld := ⟨.SEG_FIFO_STATUS, 16, 14⟩
/-- SEG_FIFO_STATUS.LEVEL -/ def SEG_FIFO_STATUS_LEVEL : Fld := ⟨.SEG_FIFO_STATUS, 0, 14⟩
/-- SEG_LBL_STATUS.LEVEL -/ def SEG_LBL_STATUS_LEVEL : Fld := ⟨.SEG_LBL_STATUS, 0, 20⟩
/-- SEG_LBL_PEAK.PEAK -/ def SEG_LBL_PEAK_PEAK : Fld := ⟨.SEG_LBL_PEAK, 0, 20⟩
/-- SEG_OVF_STATE.V -/ def SEG_OVF_STATE_V : Fld := ⟨.SEG_OVF_STATE, 0, 32⟩
/-- SEG_WARM_STATE.V -/ def SEG_WARM_STATE_V : Fld := ⟨.SEG_WARM_STATE, 0, 32⟩
/-- SEG_LAST_OVF.HEAD -/ def SEG_LAST_OVF_HEAD : Fld := ⟨.SEG_LAST_OVF, 27, 5⟩
/-- SEG_LAST_OVF.CAUSE -/ def SEG_LAST_OVF_CAUSE : Fld := ⟨.SEG_LAST_OVF, 24, 3⟩
/-- SEG_LAST_OVF.LINE -/ def SEG_LAST_OVF_LINE : Fld := ⟨.SEG_LAST_OVF, 0, 24⟩
/-- SEG_HEAD_CFG.BRIDGE_X -/ def SEG_HEAD_CFG_BRIDGE_X : Fld := ⟨.SEG_HEAD_CFG, 16, 4⟩
/-- SEG_HEAD_CFG.BRIDGE_Y -/ def SEG_HEAD_CFG_BRIDGE_Y : Fld := ⟨.SEG_HEAD_CFG, 12, 2⟩
/-- SEG_BG_CFG.FREEZE_MAX -/ def SEG_BG_CFG_FREEZE_MAX : Fld := ⟨.SEG_BG_CFG, 16, 16⟩
/-- SEG_BG_CFG.FREEZE -/ def SEG_BG_CFG_FREEZE : Fld := ⟨.SEG_BG_CFG, 15, 1⟩
/-- SEG_BG_CFG.WARM_SHIFT -/ def SEG_BG_CFG_WARM_SHIFT : Fld := ⟨.SEG_BG_CFG, 8, 4⟩
/-- SEG_BG_CFG.MAD_SHIFT -/ def SEG_BG_CFG_MAD_SHIFT : Fld := ⟨.SEG_BG_CFG, 4, 4⟩
/-- SEG_BG_CFG.BG_SHIFT -/ def SEG_BG_CFG_BG_SHIFT : Fld := ⟨.SEG_BG_CFG, 0, 4⟩
/-- SEG_BG_LIM.A_INIT -/ def SEG_BG_LIM_A_INIT : Fld := ⟨.SEG_BG_LIM, 16, 16⟩
/-- SEG_BG_LIM.A_MIN -/ def SEG_BG_LIM_A_MIN : Fld := ⟨.SEG_BG_LIM, 0, 16⟩
/-- SEG_OVF_ENTER_CNT.CNT -/ def SEG_OVF_ENTER_CNT_CNT : Fld := ⟨.SEG_OVF_ENTER_CNT, 0, 32⟩
/-- SEG_OVF_FIFO_CNT.CNT -/ def SEG_OVF_FIFO_CNT_CNT : Fld := ⟨.SEG_OVF_FIFO_CNT, 0, 32⟩
/-- SEG_OVF_LBL_CNT.CNT -/ def SEG_OVF_LBL_CNT_CNT : Fld := ⟨.SEG_OVF_LBL_CNT, 0, 32⟩
/-- SEG_OVF_CTX_CNT.CNT -/ def SEG_OVF_CTX_CNT_CNT : Fld := ⟨.SEG_OVF_CTX_CNT, 0, 32⟩
/-- SEG_OVF_LINE_CNT.CNT -/ def SEG_OVF_LINE_CNT_CNT : Fld := ⟨.SEG_OVF_LINE_CNT, 0, 32⟩
/-- SEG_CLUSTER_CNT.CNT -/ def SEG_CLUSTER_CNT_CNT : Fld := ⟨.SEG_CLUSTER_CNT, 0, 32⟩
/-- SEG_MERGE_CNT.CNT -/ def SEG_MERGE_CNT_CNT : Fld := ⟨.SEG_MERGE_CNT, 0, 32⟩
/-- SEG_FREEZE_REL_CNT.CNT -/ def SEG_FREEZE_REL_CNT_CNT : Fld := ⟨.SEG_FREEZE_REL_CNT, 0, 32⟩
/-- SEG_WARM_CNT.CNT -/ def SEG_WARM_CNT_CNT : Fld := ⟨.SEG_WARM_CNT, 0, 32⟩
/-- SEG_BACKSTOP_CNT.CNT -/ def SEG_BACKSTOP_CNT_CNT : Fld := ⟨.SEG_BACKSTOP_CNT, 0, 32⟩
/-- SEG_THR.EN -/ def SEG_THR_EN : Fld := ⟨.SEG_THR, 31, 1⟩
/-- SEG_THR.K -/ def SEG_THR_K : Fld := ⟨.SEG_THR, 24, 7⟩
/-- SEG_THR.ABS -/ def SEG_THR_ABS : Fld := ⟨.SEG_THR, 0, 16⟩
/-- OBJ_CTRL.REP_EN -/ def OBJ_CTRL_REP_EN : Fld := ⟨.OBJ_CTRL, 0, 1⟩
/-- OBJ_BUDGET.BUDGET -/ def OBJ_BUDGET_BUDGET : Fld := ⟨.OBJ_BUDGET, 0, 7⟩
/-- OBJ_GEOM.YSH -/ def OBJ_GEOM_YSH : Fld := ⟨.OBJ_GEOM, 8, 5⟩
/-- OBJ_GEOM.XSH -/ def OBJ_GEOM_XSH : Fld := ⟨.OBJ_GEOM, 0, 5⟩
/-- OBJ_SNIP.MARGIN_Y -/ def OBJ_SNIP_MARGIN_Y : Fld := ⟨.OBJ_SNIP, 16, 16⟩
/-- OBJ_SNIP.MARGIN_X -/ def OBJ_SNIP_MARGIN_X : Fld := ⟨.OBJ_SNIP, 0, 16⟩
/-- OBJ_REP_CFG.W -/ def OBJ_REP_CFG_W : Fld := ⟨.OBJ_REP_CFG, 16, 16⟩
/-- OBJ_REP_CFG.K -/ def OBJ_REP_CFG_K : Fld := ⟨.OBJ_REP_CFG, 8, 4⟩
/-- OBJ_REP_CFG.REN -/ def OBJ_REP_CFG_REN : Fld := ⟨.OBJ_REP_CFG, 0, 7⟩
/-- OBJ_EVENT.ACC_OVF -/ def OBJ_EVENT_ACC_OVF : Fld := ⟨.OBJ_EVENT, 6, 1⟩
/-- OBJ_EVENT.SPILL -/ def OBJ_EVENT_SPILL : Fld := ⟨.OBJ_EVENT, 5, 1⟩
/-- OBJ_EVENT.MARK_DROP -/ def OBJ_EVENT_MARK_DROP : Fld := ⟨.OBJ_EVENT, 4, 1⟩
/-- OBJ_EVENT.SNIP_DROP -/ def OBJ_EVENT_SNIP_DROP : Fld := ⟨.OBJ_EVENT, 3, 1⟩
/-- OBJ_EVENT.REPEAT -/ def OBJ_EVENT_REPEAT : Fld := ⟨.OBJ_EVENT, 2, 1⟩
/-- OBJ_EVENT.LATE -/ def OBJ_EVENT_LATE : Fld := ⟨.OBJ_EVENT, 1, 1⟩
/-- OBJ_EVENT.BUDGET_OVF -/ def OBJ_EVENT_BUDGET_OVF : Fld := ⟨.OBJ_EVENT, 0, 1⟩
/-- OBJ_EVENT_EN.EN -/ def OBJ_EVENT_EN_EN : Fld := ⟨.OBJ_EVENT_EN, 0, 7⟩
/-- OBJ_CTX_STATUS.MINFREE -/ def OBJ_CTX_STATUS_MINFREE : Fld := ⟨.OBJ_CTX_STATUS, 16, 15⟩
/-- OBJ_CTX_STATUS.FREE -/ def OBJ_CTX_STATUS_FREE : Fld := ⟨.OBJ_CTX_STATUS, 0, 15⟩
/-- OBJ_JOIN_STATUS.MAXUSED -/ def OBJ_JOIN_STATUS_MAXUSED : Fld := ⟨.OBJ_JOIN_STATUS, 16, 15⟩
/-- OBJ_JOIN_STATUS.USED -/ def OBJ_JOIN_STATUS_USED : Fld := ⟨.OBJ_JOIN_STATUS, 0, 15⟩
/-- OBJ_REP_CTRL.CLEAR -/ def OBJ_REP_CTRL_CLEAR : Fld := ⟨.OBJ_REP_CTRL, 0, 1⟩
/-- OBJ_LAST_REP.ROLLER -/ def OBJ_LAST_REP_ROLLER : Fld := ⟨.OBJ_LAST_REP, 29, 3⟩
/-- OBJ_LAST_REP.CLASS -/ def OBJ_LAST_REP_CLASS : Fld := ⟨.OBJ_LAST_REP, 25, 4⟩
/-- OBJ_LAST_REP.BIN -/ def OBJ_LAST_REP_BIN : Fld := ⟨.OBJ_LAST_REP, 17, 8⟩
/-- OBJ_LAST_REP.HITS -/ def OBJ_LAST_REP_HITS : Fld := ⟨.OBJ_LAST_REP, 13, 4⟩
/-- OBJ_REV.REV -/ def OBJ_REV_REV : Fld := ⟨.OBJ_REV, 0, 16⟩
/-- OBJ_HEAD_CFG.CLOSE_N -/ def OBJ_HEAD_CFG_CLOSE_N : Fld := ⟨.OBJ_HEAD_CFG, 0, 4⟩
/-- OBJ_CLASS_CFG.LCLASS -/ def OBJ_CLASS_CFG_LCLASS : Fld := ⟨.OBJ_CLASS_CFG, 30, 2⟩
/-- OBJ_CLASS_CFG.EMIT -/ def OBJ_CLASS_CFG_EMIT : Fld := ⟨.OBJ_CLASS_CFG, 29, 1⟩
/-- OBJ_CLASS_CFG.SNIP_EN -/ def OBJ_CLASS_CFG_SNIP_EN : Fld := ⟨.OBJ_CLASS_CFG, 28, 1⟩
/-- OBJ_CLASS_CFG.MARK_EN -/ def OBJ_CLASS_CFG_MARK_EN : Fld := ⟨.OBJ_CLASS_CFG, 27, 1⟩
/-- OBJ_CLASS_CFG.REP_EN -/ def OBJ_CLASS_CFG_REP_EN : Fld := ⟨.OBJ_CLASS_CFG, 26, 1⟩
/-- OBJ_CLASS_CFG.OPEN_LINES -/ def OBJ_CLASS_CFG_OPEN_LINES : Fld := ⟨.OBJ_CLASS_CFG, 16, 5⟩
/-- OBJ_CLASS_CFG.MIN_AREA -/ def OBJ_CLASS_CFG_MIN_AREA : Fld := ⟨.OBJ_CLASS_CFG, 0, 16⟩
/-- OBJ_OPEN_CNT.CNT -/ def OBJ_OPEN_CNT_CNT : Fld := ⟨.OBJ_OPEN_CNT, 0, 32⟩
/-- OBJ_CLOSE_CNT.CNT -/ def OBJ_CLOSE_CNT_CNT : Fld := ⟨.OBJ_CLOSE_CNT, 0, 32⟩
/-- OBJ_UPDATE_CNT.CNT -/ def OBJ_UPDATE_CNT_CNT : Fld := ⟨.OBJ_UPDATE_CNT, 0, 32⟩
/-- OBJ_SMALL_CNT.CNT -/ def OBJ_SMALL_CNT_CNT : Fld := ⟨.OBJ_SMALL_CNT, 0, 32⟩
/-- OBJ_BUDGET_OVF_CNT.CNT -/ def OBJ_BUDGET_OVF_CNT_CNT : Fld := ⟨.OBJ_BUDGET_OVF_CNT, 0, 32⟩
/-- OBJ_LATE_CNT.CNT -/ def OBJ_LATE_CNT_CNT : Fld := ⟨.OBJ_LATE_CNT, 0, 32⟩
/-- OBJ_REPEAT_CNT.CNT -/ def OBJ_REPEAT_CNT_CNT : Fld := ⟨.OBJ_REPEAT_CNT, 0, 32⟩
/-- OBJ_SNIP_DROP_CNT.CNT -/ def OBJ_SNIP_DROP_CNT_CNT : Fld := ⟨.OBJ_SNIP_DROP_CNT, 0, 32⟩
/-- OBJ_MARK_DROP_CNT.CNT -/ def OBJ_MARK_DROP_CNT_CNT : Fld := ⟨.OBJ_MARK_DROP_CNT, 0, 32⟩
/-- OBJ_SPILL_CNT.CNT -/ def OBJ_SPILL_CNT_CNT : Fld := ⟨.OBJ_SPILL_CNT, 0, 32⟩
/-- OBJ_ACC_OVF_CNT.CNT -/ def OBJ_ACC_OVF_CNT_CNT : Fld := ⟨.OBJ_ACC_OVF_CNT, 0, 32⟩
/-- OBJ_TRUNC_CNT.CNT -/ def OBJ_TRUNC_CNT_CNT : Fld := ⟨.OBJ_TRUNC_CNT, 0, 32⟩
/-- OBJ_CLASS_CNT.CNT -/ def OBJ_CLASS_CNT_CNT : Fld := ⟨.OBJ_CLASS_CNT, 0, 32⟩
/-- POS_CTRL.ZREF -/ def POS_CTRL_ZREF : Fld := ⟨.POS_CTRL, 1, 1⟩
/-- POS_CTRL.EN -/ def POS_CTRL_EN : Fld := ⟨.POS_CTRL, 0, 1⟩
/-- POS_PITCH.PITCH -/ def POS_PITCH_PITCH : Fld := ⟨.POS_PITCH, 0, 32⟩
/-- POS_CUE_MIN.CUE_MIN -/ def POS_CUE_MIN_CUE_MIN : Fld := ⟨.POS_CUE_MIN, 0, 20⟩
/-- POS_BACKLASH.BACKLASH -/ def POS_BACKLASH_BACKLASH : Fld := ⟨.POS_BACKLASH, 0, 16⟩
/-- POS_SPD_CFG.STOP_TMO -/ def POS_SPD_CFG_STOP_TMO : Fld := ⟨.POS_SPD_CFG, 16, 16⟩
/-- POS_SPD_CFG.WIN -/ def POS_SPD_CFG_WIN : Fld := ⟨.POS_SPD_CFG, 8, 8⟩
/-- POS_SPD_XOVER.V_X -/ def POS_SPD_XOVER_V_X : Fld := ⟨.POS_SPD_XOVER, 0, 26⟩
/-- POS_ZCFG.ZTOL -/ def POS_ZCFG_ZTOL : Fld := ⟨.POS_ZCFG, 24, 8⟩
/-- POS_ZCFG.ZPERIOD -/ def POS_ZCFG_ZPERIOD : Fld := ⟨.POS_ZCFG, 0, 24⟩
/-- POS_STATUS.RFLT -/ def POS_STATUS_RFLT : Fld := ⟨.POS_STATUS, 17, 7⟩
/-- POS_STATUS.WIRE -/ def POS_STATUS_WIRE : Fld := ⟨.POS_STATUS, 8, 8⟩
/-- POS_STATUS.ZREFD -/ def POS_STATUS_ZREFD : Fld := ⟨.POS_STATUS, 3, 1⟩
/-- POS_STATUS.UNCERTAIN -/ def POS_STATUS_UNCERTAIN : Fld := ⟨.POS_STATUS, 2, 1⟩
/-- POS_STATUS.ENC_FAULT -/ def POS_STATUS_ENC_FAULT : Fld := ⟨.POS_STATUS, 1, 1⟩
/-- POS_STATUS.COUNTING -/ def POS_STATUS_COUNTING : Fld := ⟨.POS_STATUS, 0, 1⟩
/-- POS_EVENT.WIRE -/ def POS_EVENT_WIRE : Fld := ⟨.POS_EVENT, 9, 1⟩
/-- POS_EVENT.EMU_OVF -/ def POS_EVENT_EMU_OVF : Fld := ⟨.POS_EVENT, 8, 1⟩
/-- POS_EVENT.RFLT -/ def POS_EVENT_RFLT : Fld := ⟨.POS_EVENT, 7, 1⟩
/-- POS_EVENT.ZSLIP -/ def POS_EVENT_ZSLIP : Fld := ⟨.POS_EVENT, 6, 1⟩
/-- POS_EVENT.START -/ def POS_EVENT_START : Fld := ⟨.POS_EVENT, 5, 1⟩
/-- POS_EVENT.STOP -/ def POS_EVENT_STOP : Fld := ⟨.POS_EVENT, 4, 1⟩
/-- POS_EVENT.REVERSE -/ def POS_EVENT_REVERSE : Fld := ⟨.POS_EVENT, 3, 1⟩
/-- POS_EVENT.OVERSPEED -/ def POS_EVENT_OVERSPEED : Fld := ⟨.POS_EVENT, 2, 1⟩
/-- POS_EVENT.ENC_CLEAR -/ def POS_EVENT_ENC_CLEAR : Fld := ⟨.POS_EVENT, 1, 1⟩
/-- POS_EVENT.ENC_FAULT -/ def POS_EVENT_ENC_FAULT : Fld := ⟨.POS_EVENT, 0, 1⟩
/-- POS_EVENT_EN.EN -/ def POS_EVENT_EN_EN : Fld := ⟨.POS_EVENT_EN, 0, 10⟩
/-- POS_SPEED.DIR -/ def POS_SPEED_DIR : Fld := ⟨.POS_SPEED, 31, 1⟩
/-- POS_SPEED.STOPPED -/ def POS_SPEED_STOPPED : Fld := ⟨.POS_SPEED, 30, 1⟩
/-- POS_SPEED.STARTING -/ def POS_SPEED_STARTING : Fld := ⟨.POS_SPEED, 29, 1⟩
/-- POS_SPEED.VALID -/ def POS_SPEED_VALID : Fld := ⟨.POS_SPEED, 28, 1⟩
/-- POS_SPEED.SPEED -/ def POS_SPEED_SPEED : Fld := ⟨.POS_SPEED, 0, 26⟩
/-- POS_ZERR.E -/ def POS_ZERR_E : Fld := ⟨.POS_ZERR, 0, 24⟩
/-- POS_CHCFG.WIRE_EN -/ def POS_CHCFG_WIRE_EN : Fld := ⟨.POS_CHCFG, 4, 1⟩
/-- POS_CHCFG.Z_EN -/ def POS_CHCFG_Z_EN : Fld := ⟨.POS_CHCFG, 3, 1⟩
/-- POS_CHCFG.DIR -/ def POS_CHCFG_DIR : Fld := ⟨.POS_CHCFG, 2, 1⟩
/-- POS_CHCFG.MODE -/ def POS_CHCFG_MODE : Fld := ⟨.POS_CHCFG, 0, 2⟩
/-- POS_CPR.CPR -/ def POS_CPR_CPR : Fld := ⟨.POS_CPR, 0, 24⟩
/-- POS_IDX.PMAX -/ def POS_IDX_PMAX : Fld := ⟨.POS_IDX, 16, 16⟩
/-- POS_IDX.PMIN -/ def POS_IDX_PMIN : Fld := ⟨.POS_IDX, 0, 16⟩
/-- POS_ROLL.FLT -/ def POS_ROLL_FLT : Fld := ⟨.POS_ROLL, 31, 1⟩
/-- POS_ROLL.REF -/ def POS_ROLL_REF : Fld := ⟨.POS_ROLL, 30, 1⟩
/-- POS_ROLL.PHASE -/ def POS_ROLL_PHASE : Fld := ⟨.POS_ROLL, 0, 16⟩
/-- POS_EMU_CFG.N -/ def POS_EMU_CFG_N : Fld := ⟨.POS_EMU_CFG, 16, 16⟩
/-- POS_EMU_CFG.M -/ def POS_EMU_CFG_M : Fld := ⟨.POS_EMU_CFG, 0, 16⟩
/-- POS_EMU_CTL.ZDIV -/ def POS_EMU_CTL_ZDIV : Fld := ⟨.POS_EMU_CTL, 16, 16⟩
/-- POS_EMU_CTL.MONO -/ def POS_EMU_CTL_MONO : Fld := ⟨.POS_EMU_CTL, 1, 1⟩
/-- POS_EMU_CTL.EN -/ def POS_EMU_CTL_EN : Fld := ⟨.POS_EMU_CTL, 0, 1⟩
/-- POS_EMU_STAT.OWED -/ def POS_EMU_STAT_OWED : Fld := ⟨.POS_EMU_STAT, 0, 11⟩
/-- POS_QERR_CNT.CNT -/ def POS_QERR_CNT_CNT : Fld := ⟨.POS_QERR_CNT, 0, 32⟩
/-- POS_WIRE_CNT.CNT -/ def POS_WIRE_CNT_CNT : Fld := ⟨.POS_WIRE_CNT, 0, 32⟩
/-- POS_ENCFLT_CNT.CNT -/ def POS_ENCFLT_CNT_CNT : Fld := ⟨.POS_ENCFLT_CNT, 0, 32⟩
/-- POS_SKIP_CNT.CNT -/ def POS_SKIP_CNT_CNT : Fld := ⟨.POS_SKIP_CNT, 0, 32⟩
/-- POS_REV_CNT.CNT -/ def POS_REV_CNT_CNT : Fld := ⟨.POS_REV_CNT, 0, 32⟩
/-- POS_ZSLIP_CNT.CNT -/ def POS_ZSLIP_CNT_CNT : Fld := ⟨.POS_ZSLIP_CNT, 0, 32⟩
/-- POS_IDX_REJ_CNT.CNT -/ def POS_IDX_REJ_CNT_CNT : Fld := ⟨.POS_IDX_REJ_CNT, 0, 32⟩
/-- POS_EMU_OVF_CNT.CNT -/ def POS_EMU_OVF_CNT_CNT : Fld := ⟨.POS_EMU_OVF_CNT, 0, 32⟩
/-- MRK_CTRL.EN -/ def MRK_CTRL_EN : Fld := ⟨.MRK_CTRL, 0, 1⟩
/-- MRK_LPITCH.LPITCH -/ def MRK_LPITCH_LPITCH : Fld := ⟨.MRK_LPITCH, 0, 20⟩
/-- MRK_MARGIN.MARGIN_Y -/ def MRK_MARGIN_MARGIN_Y : Fld := ⟨.MRK_MARGIN, 16, 16⟩
/-- MRK_MARGIN.MARGIN_X -/ def MRK_MARGIN_MARGIN_X : Fld := ⟨.MRK_MARGIN, 0, 16⟩
/-- MRK_LEAD.LEAD -/ def MRK_LEAD_LEAD : Fld := ⟨.MRK_LEAD, 0, 24⟩
/-- MRK_BURST.TMAX -/ def MRK_BURST_TMAX : Fld := ⟨.MRK_BURST, 16, 16⟩
/-- MRK_BURST.BURST_MAX -/ def MRK_BURST_BURST_MAX : Fld := ⟨.MRK_BURST, 0, 16⟩
/-- MRK_CUE_LEN.CUE_LEN -/ def MRK_CUE_LEN_CUE_LEN : Fld := ⟨.MRK_CUE_LEN, 0, 20⟩
/-- MRK_ADV.ADV -/ def MRK_ADV_ADV : Fld := ⟨.MRK_ADV, 0, 20⟩
/-- MRK_EVENT.SCHED_FULL -/ def MRK_EVENT_SCHED_FULL : Fld := ⟨.MRK_EVENT, 6, 1⟩
/-- MRK_EVENT.STRETCH -/ def MRK_EVENT_STRETCH : Fld := ⟨.MRK_EVENT, 5, 1⟩
/-- MRK_EVENT.STAT_FAULT -/ def MRK_EVENT_STAT_FAULT : Fld := ⟨.MRK_EVENT, 4, 1⟩
/-- MRK_EVENT.WATCHDOG -/ def MRK_EVENT_WATCHDOG : Fld := ⟨.MRK_EVENT, 3, 1⟩
/-- MRK_EVENT.COOL -/ def MRK_EVENT_COOL : Fld := ⟨.MRK_EVENT, 2, 1⟩
/-- MRK_EVENT.HOT -/ def MRK_EVENT_HOT : Fld := ⟨.MRK_EVENT, 1, 1⟩
/-- MRK_EVENT.NOT_PLACED -/ def MRK_EVENT_NOT_PLACED : Fld := ⟨.MRK_EVENT, 0, 1⟩
/-- MRK_EVENT_EN.EN -/ def MRK_EVENT_EN_EN : Fld := ⟨.MRK_EVENT_EN, 0, 7⟩
/-- MRK_SCHED.PEAK -/ def MRK_SCHED_PEAK : Fld := ⟨.MRK_SCHED, 16, 11⟩
/-- MRK_SCHED.USED -/ def MRK_SCHED_USED : Fld := ⟨.MRK_SCHED, 0, 11⟩
/-- MRK_PCTL.EN -/ def MRK_PCTL_EN : Fld := ⟨.MRK_PCTL, 31, 1⟩
/-- MRK_PCTL.RESTART -/ def MRK_PCTL_RESTART : Fld := ⟨.MRK_PCTL, 24, 1⟩
/-- MRK_PCTL.SCLK_DIV -/ def MRK_PCTL_SCLK_DIV : Fld := ⟨.MRK_PCTL, 16, 8⟩
/-- MRK_PCTL.NOZ -/ def MRK_PCTL_NOZ : Fld := ⟨.MRK_PCTL, 0, 11⟩
/-- MRK_DIST.DIST -/ def MRK_DIST_DIST : Fld := ⟨.MRK_DIST, 0, 25⟩
/-- MRK_XPITCH.XPITCH -/ def MRK_XPITCH_XPITCH : Fld := ⟨.MRK_XPITCH, 0, 32⟩
/-- MRK_STRW01.W1 -/ def MRK_STRW01_W1 : Fld := ⟨.MRK_STRW01, 16, 16⟩
/-- MRK_STRW01.W0 -/ def MRK_STRW01_W0 : Fld := ⟨.MRK_STRW01, 0, 16⟩
/-- MRK_STRW23.W3 -/ def MRK_STRW23_W3 : Fld := ⟨.MRK_STRW23, 16, 16⟩
/-- MRK_STRW23.W2 -/ def MRK_STRW23_W2 : Fld := ⟨.MRK_STRW23, 0, 16⟩
/-- MRK_BAND.T3 -/ def MRK_BAND_T3 : Fld := ⟨.MRK_BAND, 16, 8⟩
/-- MRK_BAND.T2 -/ def MRK_BAND_T2 : Fld := ⟨.MRK_BAND, 8, 8⟩
/-- MRK_BAND.T1 -/ def MRK_BAND_T1 : Fld := ⟨.MRK_BAND, 0, 8⟩
/-- MRK_TLIM.WD -/ def MRK_TLIM_WD : Fld := ⟨.MRK_TLIM, 16, 9⟩
/-- MRK_TLIM.TLIM -/ def MRK_TLIM_TLIM : Fld := ⟨.MRK_TLIM, 8, 8⟩
/-- MRK_TLIM.THYST -/ def MRK_TLIM_THYST : Fld := ⟨.MRK_TLIM, 0, 8⟩
/-- MRK_LATCH.LATCH_W -/ def MRK_LATCH_LATCH_W : Fld := ⟨.MRK_LATCH, 0, 8⟩
/-- MRK_PSTAT.STATE -/ def MRK_PSTAT_STATE : Fld := ⟨.MRK_PSTAT, 30, 2⟩
/-- MRK_PSTAT.HOT -/ def MRK_PSTAT_HOT : Fld := ⟨.MRK_PSTAT, 29, 1⟩
/-- MRK_PSTAT.TVALID -/ def MRK_PSTAT_TVALID : Fld := ⟨.MRK_PSTAT, 28, 1⟩
/-- MRK_PSTAT.BAND -/ def MRK_PSTAT_BAND : Fld := ⟨.MRK_PSTAT, 26, 2⟩
/-- MRK_PSTAT.FREASON -/ def MRK_PSTAT_FREASON : Fld := ⟨.MRK_PSTAT, 24, 2⟩
/-- MRK_PSTAT.ACTIVE -/ def MRK_PSTAT_ACTIVE : Fld := ⟨.MRK_PSTAT, 16, 5⟩
/-- MRK_PSTAT.TEMP -/ def MRK_PSTAT_TEMP : Fld := ⟨.MRK_PSTAT, 0, 12⟩
/-- MRK_REQ_CNT.CNT -/ def MRK_REQ_CNT_CNT : Fld := ⟨.MRK_REQ_CNT, 0, 32⟩
/-- MRK_PLACED_CNT.CNT -/ def MRK_PLACED_CNT_CNT : Fld := ⟨.MRK_PLACED_CNT, 0, 32⟩
/-- MRK_NOTPL_CNT.CNT -/ def MRK_NOTPL_CNT_CNT : Fld := ⟨.MRK_NOTPL_CNT, 0, 32⟩
/-- MRK_SUPP_LINE_CNT.CNT -/ def MRK_SUPP_LINE_CNT_CNT : Fld := ⟨.MRK_SUPP_LINE_CNT, 0, 32⟩
/-- MRK_WD_CNT.CNT -/ def MRK_WD_CNT_CNT : Fld := ⟨.MRK_WD_CNT, 0, 32⟩
/-- MRK_STRETCH_CNT.CNT -/ def MRK_STRETCH_CNT_CNT : Fld := ⟨.MRK_STRETCH_CNT, 0, 32⟩
/-- MRK_SPLIT_CNT.CNT -/ def MRK_SPLIT_CNT_CNT : Fld := ⟨.MRK_SPLIT_CNT, 0, 32⟩
/-- MRK_STAT_ERR_CNT.CNT -/ def MRK_STAT_ERR_CNT_CNT : Fld := ⟨.MRK_STAT_ERR_CNT, 0, 32⟩
/-- ARC_CTRL.PORT -/ def ARC_CTRL_PORT : Fld := ⟨.ARC_CTRL, 24, 2⟩
/-- ARC_CTRL.RELAY -/ def ARC_CTRL_RELAY : Fld := ⟨.ARC_CTRL, 20, 1⟩
/-- ARC_CTRL.CH -/ def ARC_CTRL_CH : Fld := ⟨.ARC_CTRL, 16, 2⟩
/-- ARC_CTRL.STRIP_EN -/ def ARC_CTRL_STRIP_EN : Fld := ⟨.ARC_CTRL, 2, 1⟩
/-- ARC_CTRL.SNIP_EN -/ def ARC_CTRL_SNIP_EN : Fld := ⟨.ARC_CTRL, 1, 1⟩
/-- ARC_CTRL.EN -/ def ARC_CTRL_EN : Fld := ⟨.ARC_CTRL, 0, 1⟩
/-- ARC_SNIP_CFG.MAXPIX -/ def ARC_SNIP_CFG_MAXPIX : Fld := ⟨.ARC_SNIP_CFG, 16, 16⟩
/-- ARC_SNIP_CFG.WAIT -/ def ARC_SNIP_CFG_WAIT : Fld := ⟨.ARC_SNIP_CFG, 8, 8⟩
/-- ARC_STRIP_CFG.EVERY -/ def ARC_STRIP_CFG_EVERY : Fld := ⟨.ARC_STRIP_CFG, 16, 16⟩
/-- ARC_STRIP_CFG.STEP -/ def ARC_STRIP_CFG_STEP : Fld := ⟨.ARC_STRIP_CFG, 0, 4⟩
/-- ARC_EVENT.SHED -/ def ARC_EVENT_SHED : Fld := ⟨.ARC_EVENT, 5, 1⟩
/-- ARC_EVENT.JOB_FAIL -/ def ARC_EVENT_JOB_FAIL : Fld := ⟨.ARC_EVENT, 4, 1⟩
/-- ARC_EVENT.BAD_ROW -/ def ARC_EVENT_BAD_ROW : Fld := ⟨.ARC_EVENT, 3, 1⟩
/-- ARC_EVENT.CODEC_FAULT -/ def ARC_EVENT_CODEC_FAULT : Fld := ⟨.ARC_EVENT, 2, 1⟩
/-- ARC_EVENT.RETRY -/ def ARC_EVENT_RETRY : Fld := ⟨.ARC_EVENT, 1, 1⟩
/-- ARC_EVENT.JOB_DONE -/ def ARC_EVENT_JOB_DONE : Fld := ⟨.ARC_EVENT, 0, 1⟩
/-- ARC_EVENT_EN.EN -/ def ARC_EVENT_EN_EN : Fld := ⟨.ARC_EVENT_EN, 0, 6⟩
/-- ARC_JOBQ.OQ -/ def ARC_JOBQ_OQ : Fld := ⟨.ARC_JOBQ, 16, 9⟩
/-- ARC_JOBQ.HQ -/ def ARC_JOBQ_HQ : Fld := ⟨.ARC_JOBQ, 0, 5⟩
/-- ARC_HREQ_JOB.JOB -/ def ARC_HREQ_JOB_JOB : Fld := ⟨.ARC_HREQ_JOB, 0, 32⟩
/-- ARC_HREQ_CTRL.KIND -/ def ARC_HREQ_CTRL_KIND : Fld := ⟨.ARC_HREQ_CTRL, 31, 1⟩
/-- ARC_HREQ_GO.GO -/ def ARC_HREQ_GO_GO : Fld := ⟨.ARC_HREQ_GO, 0, 1⟩
/-- ARC_HEAD_CFG.REFRESH -/ def ARC_HEAD_CFG_REFRESH : Fld := ⟨.ARC_HEAD_CFG, 4, 4⟩
/-- ARC_HEAD_CFG.RCODE -/ def ARC_HEAD_CFG_RCODE : Fld := ⟨.ARC_HEAD_CFG, 1, 2⟩
/-- ARC_HEAD_CFG.EN -/ def ARC_HEAD_CFG_EN : Fld := ⟨.ARC_HEAD_CFG, 0, 1⟩
/-- ARC_RING_ROWS.ROWS -/ def ARC_RING_ROWS_ROWS : Fld := ⟨.ARC_RING_ROWS, 0, 24⟩
/-- ARC_OVER_CNT.CNT -/ def ARC_OVER_CNT_CNT : Fld := ⟨.ARC_OVER_CNT, 0, 32⟩
/-- ARC_RETRY_CNT.CNT -/ def ARC_RETRY_CNT_CNT : Fld := ⟨.ARC_RETRY_CNT, 0, 32⟩
/-- ARC_CODEC_FAULT_CNT.CNT -/ def ARC_CODEC_FAULT_CNT_CNT : Fld := ⟨.ARC_CODEC_FAULT_CNT, 0, 32⟩
/-- ARC_WERR_CNT.CNT -/ def ARC_WERR_CNT_CNT : Fld := ⟨.ARC_WERR_CNT, 0, 32⟩
/-- ARC_BADROW_CNT.CNT -/ def ARC_BADROW_CNT_CNT : Fld := ⟨.ARC_BADROW_CNT, 0, 32⟩
/-- ARC_JOB_CNT.CNT -/ def ARC_JOB_CNT_CNT : Fld := ⟨.ARC_JOB_CNT, 0, 32⟩
/-- ARC_LIMIT_CNT.CNT -/ def ARC_LIMIT_CNT_CNT : Fld := ⟨.ARC_LIMIT_CNT, 0, 32⟩
/-- ARC_PARTIAL_CNT.CNT -/ def ARC_PARTIAL_CNT_CNT : Fld := ⟨.ARC_PARTIAL_CNT, 0, 32⟩
/-- ARC_SHED_CNT.CNT -/ def ARC_SHED_CNT_CNT : Fld := ⟨.ARC_SHED_CNT, 0, 32⟩
/-- ARC_REFUSE_CNT.CNT -/ def ARC_REFUSE_CNT_CNT : Fld := ⟨.ARC_REFUSE_CNT, 0, 32⟩
/-- DMA_CTRL.TMO -/ def DMA_CTRL_TMO : Fld := ⟨.DMA_CTRL, 16, 16⟩
/-- DMA_CTRL.EN -/ def DMA_CTRL_EN : Fld := ⟨.DMA_CTRL, 0, 1⟩
/-- DMA_STATUS.BUSY -/ def DMA_STATUS_BUSY : Fld := ⟨.DMA_STATUS, 31, 1⟩
/-- DMA_STATUS.CUR -/ def DMA_STATUS_CUR : Fld := ⟨.DMA_STATUS, 16, 4⟩
/-- DMA_STATUS.LOADED -/ def DMA_STATUS_LOADED : Fld := ⟨.DMA_STATUS, 0, 16⟩
/-- DMA_EVENT.ERR -/ def DMA_EVENT_ERR : Fld := ⟨.DMA_EVENT, 16, 16⟩
/-- DMA_EVENT.DONE -/ def DMA_EVENT_DONE : Fld := ⟨.DMA_EVENT, 0, 16⟩
/-- DMA_EVENT_EN.ERR -/ def DMA_EVENT_EN_ERR : Fld := ⟨.DMA_EVENT_EN, 16, 16⟩
/-- DMA_EVENT_EN.DONE -/ def DMA_EVENT_EN_DONE : Fld := ⟨.DMA_EVENT_EN, 0, 16⟩
/-- DMA_ERRLOG.V -/ def DMA_ERRLOG_V : Fld := ⟨.DMA_ERRLOG, 31, 1⟩
/-- DMA_ERRLOG.CH -/ def DMA_ERRLOG_CH : Fld := ⟨.DMA_ERRLOG, 27, 4⟩
/-- DMA_ERRLOG.LIST -/ def DMA_ERRLOG_LIST : Fld := ⟨.DMA_ERRLOG, 26, 1⟩
/-- DMA_ERRLOG.KIND -/ def DMA_ERRLOG_KIND : Fld := ⟨.DMA_ERRLOG, 23, 3⟩
/-- DMA_ERRLOG.INDEX -/ def DMA_ERRLOG_INDEX : Fld := ⟨.DMA_ERRLOG, 0, 16⟩
/-- DMA_ERRPOP.POP -/ def DMA_ERRPOP_POP : Fld := ⟨.DMA_ERRPOP, 0, 1⟩
/-- DMA_SCTRL.ARMED -/ def DMA_SCTRL_ARMED : Fld := ⟨.DMA_SCTRL, 31, 1⟩
/-- DMA_SCTRL.DESC_EVT -/ def DMA_SCTRL_DESC_EVT : Fld := ⟨.DMA_SCTRL, 28, 1⟩
/-- DMA_SCTRL.PRIO -/ def DMA_SCTRL_PRIO : Fld := ⟨.DMA_SCTRL, 24, 2⟩
/-- DMA_SCTRL.SRC_W -/ def DMA_SCTRL_SRC_W : Fld := ⟨.DMA_SCTRL, 20, 3⟩
/-- DMA_SCTRL.DST_W -/ def DMA_SCTRL_DST_W : Fld := ⟨.DMA_SCTRL, 16, 3⟩
/-- DMA_SCTRL.DST_KIND -/ def DMA_SCTRL_DST_KIND : Fld := ⟨.DMA_SCTRL, 12, 1⟩
/-- DMA_ACTRL.STATE -/ def DMA_ACTRL_STATE : Fld := ⟨.DMA_ACTRL, 28, 2⟩
/-- DMA_ACTRL.PRIO -/ def DMA_ACTRL_PRIO : Fld := ⟨.DMA_ACTRL, 24, 2⟩
/-- DMA_ACTRL.SRC_W -/ def DMA_ACTRL_SRC_W : Fld := ⟨.DMA_ACTRL, 20, 3⟩
/-- DMA_ACTRL.DST_W -/ def DMA_ACTRL_DST_W : Fld := ⟨.DMA_ACTRL, 16, 3⟩
/-- DMA_ACTRL.DST_KIND -/ def DMA_ACTRL_DST_KIND : Fld := ⟨.DMA_ACTRL, 12, 1⟩
/-- DMA_AREM.REM -/ def DMA_AREM_REM : Fld := ⟨.DMA_AREM, 0, 24⟩
/-- DMA_AIDX.SRC -/ def DMA_AIDX_SRC : Fld := ⟨.DMA_AIDX, 16, 16⟩
/-- DMA_AIDX.DST -/ def DMA_AIDX_DST : Fld := ⟨.DMA_AIDX, 0, 16⟩
/-- DMA_ARES.RESULT -/ def DMA_ARES_RESULT : Fld := ⟨.DMA_ARES, 28, 4⟩
/-- DMA_ARES.BAD -/ def DMA_ARES_BAD : Fld := ⟨.DMA_ARES, 0, 16⟩
/-- DMA_XFER_CNT.CNT -/ def DMA_XFER_CNT_CNT : Fld := ⟨.DMA_XFER_CNT, 0, 32⟩
/-- DMA_BADDESC_CNT.CNT -/ def DMA_BADDESC_CNT_CNT : Fld := ⟨.DMA_BADDESC_CNT, 0, 32⟩
/-- DMA_TMO_CNT.CNT -/ def DMA_TMO_CNT_CNT : Fld := ⟨.DMA_TMO_CNT, 0, 32⟩
/-- DMA_ERRLOG_OVF_CNT.CNT -/ def DMA_ERRLOG_OVF_CNT_CNT : Fld := ⟨.DMA_ERRLOG_OVF_CNT, 0, 32⟩
/-- MEM_CFG.CE_LIM -/ def MEM_CFG_CE_LIM : Fld := ⟨.MEM_CFG, 16, 16⟩
/-- MEM_CFG.SCRUB_EN -/ def MEM_CFG_SCRUB_EN : Fld := ⟨.MEM_CFG, 11, 1⟩
/-- MEM_CFG.CE_SPARE -/ def MEM_CFG_CE_SPARE : Fld := ⟨.MEM_CFG, 10, 1⟩
/-- MEM_CFG.SPARE_SC -/ def MEM_CFG_SPARE_SC : Fld := ⟨.MEM_CFG, 5, 3⟩
/-- MEM_CFG.SPARE_EN -/ def MEM_CFG_SPARE_EN : Fld := ⟨.MEM_CFG, 4, 1⟩
/-- MEM_CFG.RANKS -/ def MEM_CFG_RANKS : Fld := ⟨.MEM_CFG, 0, 2⟩
/-- MEM_STATUS.READY -/ def MEM_STATUS_READY : Fld := ⟨.MEM_STATUS, 31, 1⟩
/-- MEM_STATUS.SPARE_OK -/ def MEM_STATUS_SPARE_OK : Fld := ⟨.MEM_STATUS, 30, 1⟩
/-- MEM_STATUS.CHANGING -/ def MEM_STATUS_CHANGING : Fld := ⟨.MEM_STATUS, 29, 1⟩
/-- MEM_STATUS.FSP -/ def MEM_STATUS_FSP : Fld := ⟨.MEM_STATUS, 28, 1⟩
/-- MEM_STATUS.MIG -/ def MEM_STATUS_MIG : Fld := ⟨.MEM_STATUS, 26, 2⟩
/-- MEM_STATUS.TRAINING -/ def MEM_STATUS_TRAINING : Fld := ⟨.MEM_STATUS, 25, 1⟩
/-- MEM_STATUS.NOSPARE_UE -/ def MEM_STATUS_NOSPARE_UE : Fld := ⟨.MEM_STATUS, 24, 1⟩
/-- MEM_STATUS.MIG_RANK -/ def MEM_STATUS_MIG_RANK : Fld := ⟨.MEM_STATUS, 20, 4⟩
/-- MEM_STATUS.INSERV -/ def MEM_STATUS_INSERV : Fld := ⟨.MEM_STATUS, 0, 16⟩
/-- MEM_EVENT.FSP_REFUSED -/ def MEM_EVENT_FSP_REFUSED : Fld := ⟨.MEM_EVENT, 12, 1⟩
/-- MEM_EVENT.FSP_DONE -/ def MEM_EVENT_FSP_DONE : Fld := ⟨.MEM_EVENT, 11, 1⟩
/-- MEM_EVENT.TRN_FAIL -/ def MEM_EVENT_TRN_FAIL : Fld := ⟨.MEM_EVENT, 10, 1⟩
/-- MEM_EVENT.PULLIN -/ def MEM_EVENT_PULLIN : Fld := ⟨.MEM_EVENT, 9, 1⟩
/-- MEM_EVENT.DRAM_CRIT -/ def MEM_EVENT_DRAM_CRIT : Fld := ⟨.MEM_EVENT, 8, 1⟩
/-- MEM_EVENT.BAND -/ def MEM_EVENT_BAND : Fld := ⟨.MEM_EVENT, 7, 1⟩
/-- MEM_EVENT.NO_SPARE -/ def MEM_EVENT_NO_SPARE : Fld := ⟨.MEM_EVENT, 6, 1⟩
/-- MEM_EVENT.MIG_FROZEN -/ def MEM_EVENT_MIG_FROZEN : Fld := ⟨.MEM_EVENT, 5, 1⟩
/-- MEM_EVENT.MIG_DONE -/ def MEM_EVENT_MIG_DONE : Fld := ⟨.MEM_EVENT, 4, 1⟩
/-- MEM_EVENT.MIG_START -/ def MEM_EVENT_MIG_START : Fld := ⟨.MEM_EVENT, 3, 1⟩
/-- MEM_EVENT.POISON -/ def MEM_EVENT_POISON : Fld := ⟨.MEM_EVENT, 2, 1⟩
/-- MEM_EVENT.CE_LIM -/ def MEM_EVENT_CE_LIM : Fld := ⟨.MEM_EVENT, 1, 1⟩
/-- MEM_EVENT.UE -/ def MEM_EVENT_UE : Fld := ⟨.MEM_EVENT, 0, 1⟩
/-- MEM_EVENT_EN.EN -/ def MEM_EVENT_EN_EN : Fld := ⟨.MEM_EVENT_EN, 0, 13⟩
/-- MEM_HASH0.SCMASK1 -/ def MEM_HASH0_SCMASK1 : Fld := ⟨.MEM_HASH0, 16, 16⟩
/-- MEM_HASH0.SCMASK0 -/ def MEM_HASH0_SCMASK0 : Fld := ⟨.MEM_HASH0, 0, 16⟩
/-- MEM_HASH1.BGMASK0 -/ def MEM_HASH1_BGMASK0 : Fld := ⟨.MEM_HASH1, 16, 16⟩
/-- MEM_HASH1.SCMASK2 -/ def MEM_HASH1_SCMASK2 : Fld := ⟨.MEM_HASH1, 0, 16⟩
/-- MEM_HASH2.BGMASK2 -/ def MEM_HASH2_BGMASK2 : Fld := ⟨.MEM_HASH2, 16, 16⟩
/-- MEM_HASH2.BGMASK1 -/ def MEM_HASH2_BGMASK1 : Fld := ⟨.MEM_HASH2, 0, 16⟩
/-- MEM_HASH3.BAMASK1 -/ def MEM_HASH3_BAMASK1 : Fld := ⟨.MEM_HASH3, 16, 16⟩
/-- MEM_HASH3.BAMASK0 -/ def MEM_HASH3_BAMASK0 : Fld := ⟨.MEM_HASH3, 0, 16⟩
/-- MEM_REF_CFG.POLL -/ def MEM_REF_CFG_POLL : Fld := ⟨.MEM_REF_CFG, 16, 16⟩
/-- MEM_REF_CFG.PULLIN_EN -/ def MEM_REF_CFG_PULLIN_EN : Fld := ⟨.MEM_REF_CFG, 0, 1⟩
/-- MEM_DERATE.ADD -/ def MEM_DERATE_ADD : Fld := ⟨.MEM_DERATE, 0, 8⟩
/-- MEM_BAND.V -/ def MEM_BAND_V : Fld := ⟨.MEM_BAND, 0, 32⟩
/-- MEM_DEBT0.V -/ def MEM_DEBT0_V : Fld := ⟨.MEM_DEBT0, 0, 32⟩
/-- MEM_DEBT1.V -/ def MEM_DEBT1_V : Fld := ⟨.MEM_DEBT1, 0, 32⟩
/-- MEM_FSP_CFG.HOLD_FSP -/ def MEM_FSP_CFG_HOLD_FSP : Fld := ⟨.MEM_FSP_CFG, 8, 1⟩
/-- MEM_FSP_CFG.FSP1_EN -/ def MEM_FSP_CFG_FSP1_EN : Fld := ⟨.MEM_FSP_CFG, 0, 1⟩
/-- MEM_FSP_CTRL.TARGET -/ def MEM_FSP_CTRL_TARGET : Fld := ⟨.MEM_FSP_CTRL, 1, 1⟩
/-- MEM_FSP_CTRL.REQ -/ def MEM_FSP_CTRL_REQ : Fld := ⟨.MEM_FSP_CTRL, 0, 1⟩
/-- MEM_TRN_CFG.PERIOD -/ def MEM_TRN_CFG_PERIOD : Fld := ⟨.MEM_TRN_CFG, 16, 16⟩
/-- MEM_TRN_STATUS.STEP -/ def MEM_TRN_STATUS_STEP : Fld := ⟨.MEM_TRN_STATUS, 28, 4⟩
/-- MEM_TRN_STATUS.TFSP -/ def MEM_TRN_STATUS_TFSP : Fld := ⟨.MEM_TRN_STATUS, 27, 1⟩
/-- MEM_TRN_STATUS.TRAINED -/ def MEM_TRN_STATUS_TRAINED : Fld := ⟨.MEM_TRN_STATUS, 25, 2⟩
/-- MEM_TRN_STATUS.FAIL -/ def MEM_TRN_STATUS_FAIL : Fld := ⟨.MEM_TRN_STATUS, 24, 1⟩
/-- MEM_TRN_STATUS.FAIL_RANK -/ def MEM_TRN_STATUS_FAIL_RANK : Fld := ⟨.MEM_TRN_STATUS, 20, 4⟩
/-- MEM_TRN_STATUS.FAIL_STEP -/ def MEM_TRN_STATUS_FAIL_STEP : Fld := ⟨.MEM_TRN_STATUS, 16, 4⟩
/-- MEM_MIG_CFG.FLOOR -/ def MEM_MIG_CFG_FLOOR : Fld := ⟨.MEM_MIG_CFG, 0, 16⟩
/-- MEM_RMAP.V -/ def MEM_RMAP_V : Fld := ⟨.MEM_RMAP, 31, 1⟩
/-- MEM_RMAP.SPLIT -/ def MEM_RMAP_SPLIT : Fld := ⟨.MEM_RMAP, 30, 1⟩
/-- MEM_RMAP.FROM -/ def MEM_RMAP_FROM : Fld := ⟨.MEM_RMAP, 20, 4⟩
/-- MEM_RMAP.TO -/ def MEM_RMAP_TO : Fld := ⟨.MEM_RMAP, 16, 4⟩
/-- MEM_UE_INFO.KIND -/ def MEM_UE_INFO_KIND : Fld := ⟨.MEM_UE_INFO, 28, 4⟩
/-- MEM_UE_INFO.RANK -/ def MEM_UE_INFO_RANK : Fld := ⟨.MEM_UE_INFO, 24, 4⟩
/-- MEM_UE_INFO.PORT -/ def MEM_UE_INFO_PORT : Fld := ⟨.MEM_UE_INFO, 21, 3⟩
/-- MEM_QOS.PANIC_ON -/ def MEM_QOS_PANIC_ON : Fld := ⟨.MEM_QOS, 24, 8⟩
/-- MEM_QOS.PANIC_OFF -/ def MEM_QOS_PANIC_OFF : Fld := ⟨.MEM_QOS, 16, 8⟩
/-- MEM_QOS.LAT -/ def MEM_QOS_LAT : Fld := ⟨.MEM_QOS, 0, 16⟩
/-- MEM_PSTAT.PANIC -/ def MEM_PSTAT_PANIC : Fld := ⟨.MEM_PSTAT, 31, 1⟩
/-- MEM_PSTAT.URG -/ def MEM_PSTAT_URG : Fld := ⟨.MEM_PSTAT, 28, 2⟩
/-- MEM_PSTAT.MAXLAT -/ def MEM_PSTAT_MAXLAT : Fld := ⟨.MEM_PSTAT, 0, 16⟩
/-- MEM_CE_CNT.CNT -/ def MEM_CE_CNT_CNT : Fld := ⟨.MEM_CE_CNT, 0, 32⟩
/-- MEM_UE_CNT.CNT -/ def MEM_UE_CNT_CNT : Fld := ⟨.MEM_UE_CNT, 0, 32⟩
/-- MEM_CRC_RETRY_CNT.CNT -/ def MEM_CRC_RETRY_CNT_CNT : Fld := ⟨.MEM_CRC_RETRY_CNT, 0, 32⟩
/-- MEM_POISON_CNT.CNT -/ def MEM_POISON_CNT_CNT : Fld := ⟨.MEM_POISON_CNT, 0, 32⟩
/-- MEM_POISON_RD_CNT.CNT -/ def MEM_POISON_RD_CNT_CNT : Fld := ⟨.MEM_POISON_RD_CNT, 0, 32⟩
/-- MEM_PULLIN_CNT.CNT -/ def MEM_PULLIN_CNT_CNT : Fld := ⟨.MEM_PULLIN_CNT, 0, 32⟩
/-- MEM_MIGR_RD_CNT.CNT -/ def MEM_MIGR_RD_CNT_CNT : Fld := ⟨.MEM_MIGR_RD_CNT, 0, 32⟩
/-- MEM_FSP_CNT.CNT -/ def MEM_FSP_CNT_CNT : Fld := ⟨.MEM_FSP_CNT, 0, 32⟩
/-- MEM_FSP_REFUSE_CNT.CNT -/ def MEM_FSP_REFUSE_CNT_CNT : Fld := ⟨.MEM_FSP_REFUSE_CNT, 0, 32⟩
/-- MEM_SCRUB_FIX_CNT.CNT -/ def MEM_SCRUB_FIX_CNT_CNT : Fld := ⟨.MEM_SCRUB_FIX_CNT, 0, 32⟩
/-- MEM_LATE_CNT.CNT -/ def MEM_LATE_CNT_CNT : Fld := ⟨.MEM_LATE_CNT, 0, 32⟩
/-- MEM_PANIC_CNT.CNT -/ def MEM_PANIC_CNT_CNT : Fld := ⟨.MEM_PANIC_CNT, 0, 32⟩
/-- LNE_CTRL.SSC_CAM -/ def LNE_CTRL_SSC_CAM : Fld := ⟨.LNE_CTRL, 0, 1⟩
/-- LNE_STATUS.REF_HOST_OK -/ def LNE_STATUS_REF_HOST_OK : Fld := ⟨.LNE_STATUS, 1, 1⟩
/-- LNE_STATUS.REF_CAM_OK -/ def LNE_STATUS_REF_CAM_OK : Fld := ⟨.LNE_STATUS, 0, 1⟩
/-- LNE_EVENT.TEST_REFUSED -/ def LNE_EVENT_TEST_REFUSED : Fld := ⟨.LNE_EVENT, 7, 1⟩
/-- LNE_EVENT.BER_DONE -/ def LNE_EVENT_BER_DONE : Fld := ⟨.LNE_EVENT, 6, 1⟩
/-- LNE_EVENT.WAKE -/ def LNE_EVENT_WAKE : Fld := ⟨.LNE_EVENT, 5, 1⟩
/-- LNE_EVENT.KA_LOST -/ def LNE_EVENT_KA_LOST : Fld := ⟨.LNE_EVENT, 4, 1⟩
/-- LNE_EVENT.LOCK_LOSS -/ def LNE_EVENT_LOCK_LOSS : Fld := ⟨.LNE_EVENT, 3, 1⟩
/-- LNE_EVENT.RETRAIN -/ def LNE_EVENT_RETRAIN : Fld := ⟨.LNE_EVENT, 2, 1⟩
/-- LNE_EVENT.REF_HOST_LOSS -/ def LNE_EVENT_REF_HOST_LOSS : Fld := ⟨.LNE_EVENT, 1, 1⟩
/-- LNE_EVENT.REF_CAM_LOSS -/ def LNE_EVENT_REF_CAM_LOSS : Fld := ⟨.LNE_EVENT, 0, 1⟩
/-- LNE_EVENT_EN.EN -/ def LNE_EVENT_EN_EN : Fld := ⟨.LNE_EVENT_EN, 0, 8⟩
/-- LNE_BER_CFG.WIN -/ def LNE_BER_CFG_WIN : Fld := ⟨.LNE_BER_CFG, 0, 5⟩
/-- LNE_LAST.LANE -/ def LNE_LAST_LANE : Fld := ⟨.LNE_LAST, 24, 8⟩
/-- LNE_LAST.CAUSE -/ def LNE_LAST_CAUSE : Fld := ⟨.LNE_LAST, 20, 4⟩
/-- LNE_CFG.ADAPT -/ def LNE_CFG_ADAPT : Fld := ⟨.LNE_CFG, 3, 1⟩
/-- LNE_CFG.TXINV -/ def LNE_CFG_TXINV : Fld := ⟨.LNE_CFG, 2, 1⟩
/-- LNE_CFG.RXINV -/ def LNE_CFG_RXINV : Fld := ⟨.LNE_CFG, 1, 1⟩
/-- LNE_CFG.EN -/ def LNE_CFG_EN : Fld := ⟨.LNE_CFG, 0, 1⟩
/-- LNE_TXEQ.POST -/ def LNE_TXEQ_POST : Fld := ⟨.LNE_TXEQ, 16, 5⟩
/-- LNE_TXEQ.MAIN -/ def LNE_TXEQ_MAIN : Fld := ⟨.LNE_TXEQ, 8, 6⟩
/-- LNE_TXEQ.PRE -/ def LNE_TXEQ_PRE : Fld := ⟨.LNE_TXEQ, 0, 4⟩
/-- LNE_CTL.DEEP -/ def LNE_CTL_DEEP : Fld := ⟨.LNE_CTL, 2, 1⟩
/-- LNE_CTL.RETRAIN -/ def LNE_CTL_RETRAIN : Fld := ⟨.LNE_CTL, 1, 1⟩
/-- LNE_CTL.SLIP -/ def LNE_CTL_SLIP : Fld := ⟨.LNE_CTL, 0, 1⟩
/-- LNE_STATE.STATE -/ def LNE_STATE_STATE : Fld := ⟨.LNE_STATE, 29, 3⟩
/-- LNE_STATE.RETRAINING -/ def LNE_STATE_RETRAINING : Fld := ⟨.LNE_STATE, 28, 1⟩
/-- LNE_STATE.PLL_LOCK -/ def LNE_STATE_PLL_LOCK : Fld := ⟨.LNE_STATE, 27, 1⟩
/-- LNE_STATE.CDR_LOCK -/ def LNE_STATE_CDR_LOCK : Fld := ⟨.LNE_STATE, 26, 1⟩
/-- LNE_STATE.SIGDET -/ def LNE_STATE_SIGDET : Fld := ⟨.LNE_STATE, 25, 1⟩
/-- LNE_STATE.EQ_CLAMP -/ def LNE_STATE_EQ_CLAMP : Fld := ⟨.LNE_STATE, 24, 1⟩
/-- LNE_STATE.KA -/ def LNE_STATE_KA : Fld := ⟨.LNE_STATE, 23, 1⟩
/-- LNE_STATE.HDR_OK -/ def LNE_STATE_HDR_OK : Fld := ⟨.LNE_STATE, 22, 1⟩
/-- LNE_STATE.HDR_RUN -/ def LNE_STATE_HDR_RUN : Fld := ⟨.LNE_STATE, 8, 7⟩
/-- LNE_STATE.SLIP_POS -/ def LNE_STATE_SLIP_POS : Fld := ⟨.LNE_STATE, 0, 7⟩
/-- LNE_TEST.LOOP -/ def LNE_TEST_LOOP : Fld := ⟨.LNE_TEST, 6, 1⟩
/-- LNE_TEST.INV -/ def LNE_TEST_INV : Fld := ⟨.LNE_TEST, 5, 1⟩
/-- LNE_TEST.CHK -/ def LNE_TEST_CHK : Fld := ⟨.LNE_TEST, 4, 1⟩
/-- LNE_TEST.GEN -/ def LNE_TEST_GEN : Fld := ⟨.LNE_TEST, 3, 1⟩
/-- LNE_TEST.PATTERN -/ def LNE_TEST_PATTERN : Fld := ⟨.LNE_TEST, 1, 2⟩
/-- LNE_TEST.EN -/ def LNE_TEST_EN : Fld := ⟨.LNE_TEST, 0, 1⟩
/-- LNE_TSTAT.TSTATE -/ def LNE_TSTAT_TSTATE : Fld := ⟨.LNE_TSTAT, 30, 2⟩
/-- LNE_TSTAT.LOCKED -/ def LNE_TSTAT_LOCKED : Fld := ⟨.LNE_TSTAT, 29, 1⟩
/-- LNE_TSTAT.ABANDON -/ def LNE_TSTAT_ABANDON : Fld := ⟨.LNE_TSTAT, 28, 1⟩
/-- LNE_TSTAT.LOSS_CNT -/ def LNE_TSTAT_LOSS_CNT : Fld := ⟨.LNE_TSTAT, 8, 8⟩
/-- LNE_TSTAT.WSEQ -/ def LNE_TSTAT_WSEQ : Fld := ⟨.LNE_TSTAT, 0, 8⟩
/-- LNE_RXEQ.CTLE -/ def LNE_RXEQ_CTLE : Fld := ⟨.LNE_RXEQ, 28, 4⟩
/-- LNE_RXEQ.GAIN -/ def LNE_RXEQ_GAIN : Fld := ⟨.LNE_RXEQ, 22, 6⟩
/-- LNE_RXEQ.DFE1 -/ def LNE_RXEQ_DFE1 : Fld := ⟨.LNE_RXEQ, 8, 8⟩
/-- LNE_RXEQ.DFEMAX -/ def LNE_RXEQ_DFEMAX : Fld := ⟨.LNE_RXEQ, 0, 8⟩
/-- LNE_BER_RES.V -/ def LNE_BER_RES_V : Fld := ⟨.LNE_BER_RES, 0, 32⟩
/-- LNE_PRBS_ERR.CNT -/ def LNE_PRBS_ERR_CNT : Fld := ⟨.LNE_PRBS_ERR, 0, 32⟩
/-- LNE_RETRAIN_CNT.CNT -/ def LNE_RETRAIN_CNT_CNT : Fld := ⟨.LNE_RETRAIN_CNT, 0, 32⟩
/-- LNE_LOCKLOSS_CNT.CNT -/ def LNE_LOCKLOSS_CNT_CNT : Fld := ⟨.LNE_LOCKLOSS_CNT, 0, 32⟩
/-- LNE_HDR_ERR_CNT.CNT -/ def LNE_HDR_ERR_CNT_CNT : Fld := ⟨.LNE_HDR_ERR_CNT, 0, 32⟩
/-- HST_CTRL.READ_AUTH -/ def HST_CTRL_READ_AUTH : Fld := ⟨.HST_CTRL, 3, 1⟩
/-- HST_CTRL.GARP_EN -/ def HST_CTRL_GARP_EN : Fld := ⟨.HST_CTRL, 2, 1⟩
/-- HST_CTRL.ICMP_EN -/ def HST_CTRL_ICMP_EN : Fld := ⟨.HST_CTRL, 1, 1⟩
/-- HST_CTRL.ARP_EN -/ def HST_CTRL_ARP_EN : Fld := ⟨.HST_CTRL, 0, 1⟩
/-- HST_TX_CFG.ALT_EN -/ def HST_TX_CFG_ALT_EN : Fld := ⟨.HST_TX_CFG, 31, 1⟩
/-- HST_TX_CFG.ALT -/ def HST_TX_CFG_ALT : Fld := ⟨.HST_TX_CFG, 24, 4⟩
/-- HST_TX_CFG.PRI -/ def HST_TX_CFG_PRI : Fld := ⟨.HST_TX_CFG, 16, 4⟩
/-- HST_TX_CFG.LINKDN_TMO -/ def HST_TX_CFG_LINKDN_TMO : Fld := ⟨.HST_TX_CFG, 0, 16⟩
/-- HST_CLASS_CFG.PCP_CUE -/ def HST_CLASS_CFG_PCP_CUE : Fld := ⟨.HST_CLASS_CFG, 24, 3⟩
/-- HST_CLASS_CFG.PCP_ROUTINE -/ def HST_CLASS_CFG_PCP_ROUTINE : Fld := ⟨.HST_CLASS_CFG, 20, 3⟩
/-- HST_CLASS_CFG.PCP_BULK -/ def HST_CLASS_CFG_PCP_BULK : Fld := ⟨.HST_CLASS_CFG, 16, 3⟩
/-- HST_CLASS_CFG.TTL -/ def HST_CLASS_CFG_TTL : Fld := ⟨.HST_CLASS_CFG, 8, 8⟩
/-- HST_CLASS_CFG.FLUSH -/ def HST_CLASS_CFG_FLUSH : Fld := ⟨.HST_CLASS_CFG, 0, 8⟩
/-- HST_MGMT_CFG.UDP -/ def HST_MGMT_CFG_UDP : Fld := ⟨.HST_MGMT_CFG, 16, 16⟩
/-- HST_MGMT_CFG.IDLE -/ def HST_MGMT_CFG_IDLE : Fld := ⟨.HST_MGMT_CFG, 8, 8⟩
/-- HST_EVENT.CQ_LATE -/ def HST_EVENT_CQ_LATE : Fld := ⟨.HST_EVENT, 7, 1⟩
/-- HST_EVENT.CQ_REFUSED -/ def HST_EVENT_CQ_REFUSED : Fld := ⟨.HST_EVENT, 6, 1⟩
/-- HST_EVENT.FAILOVER -/ def HST_EVENT_FAILOVER : Fld := ⟨.HST_EVENT, 5, 1⟩
/-- HST_EVENT.LINK_DOWN -/ def HST_EVENT_LINK_DOWN : Fld := ⟨.HST_EVENT, 4, 1⟩
/-- HST_EVENT.LINK_UP -/ def HST_EVENT_LINK_UP : Fld := ⟨.HST_EVENT, 3, 1⟩
/-- HST_EVENT.TOKEN_FAIL -/ def HST_EVENT_TOKEN_FAIL : Fld := ⟨.HST_EVENT, 2, 1⟩
/-- HST_EVENT.DENY -/ def HST_EVENT_DENY : Fld := ⟨.HST_EVENT, 1, 1⟩
/-- HST_EVENT.REC_DROP -/ def HST_EVENT_REC_DROP : Fld := ⟨.HST_EVENT, 0, 1⟩
/-- HST_EVENT_EN.EN -/ def HST_EVENT_EN_EN : Fld := ⟨.HST_EVENT_EN, 0, 8⟩
/-- HST_STATUS.LINK -/ def HST_STATUS_LINK : Fld := ⟨.HST_STATUS, 16, 16⟩
/-- HST_STATUS.ACTIVE -/ def HST_STATUS_ACTIVE : Fld := ⟨.HST_STATUS, 12, 4⟩
/-- HST_STATUS.NOPATH -/ def HST_STATUS_NOPATH : Fld := ⟨.HST_STATUS, 11, 1⟩
/-- HST_STATUS.SESS -/ def HST_STATUS_SESS : Fld := ⟨.HST_STATUS, 8, 3⟩
/-- HST_LAST_DENY.ADDR -/ def HST_LAST_DENY_ADDR : Fld := ⟨.HST_LAST_DENY, 0, 32⟩
/-- HST_QSTAT0.CUE -/ def HST_QSTAT0_CUE : Fld := ⟨.HST_QSTAT0, 16, 11⟩
/-- HST_QSTAT0.ROUTINE -/ def HST_QSTAT0_ROUTINE : Fld := ⟨.HST_QSTAT0, 0, 14⟩
/-- HST_QSTAT1.JOB -/ def HST_QSTAT1_JOB : Fld := ⟨.HST_QSTAT1, 16, 14⟩
/-- HST_QSTAT1.BULK -/ def HST_QSTAT1_BULK : Fld := ⟨.HST_QSTAT1, 0, 14⟩
/-- HST_PCFG.EN -/ def HST_PCFG_EN : Fld := ⟨.HST_PCFG, 31, 1⟩
/-- HST_PCFG.AN_EN -/ def HST_PCFG_AN_EN : Fld := ⟨.HST_PCFG, 30, 1⟩
/-- HST_PCFG.MODE -/ def HST_PCFG_MODE : Fld := ⟨.HST_PCFG, 28, 2⟩
/-- HST_PCFG.FEC25 -/ def HST_PCFG_FEC25 : Fld := ⟨.HST_PCFG, 26, 2⟩
/-- HST_PCFG.MTU -/ def HST_PCFG_MTU : Fld := ⟨.HST_PCFG, 0, 14⟩
/-- HST_CQ_TLO.V -/ def HST_CQ_TLO_V : Fld := ⟨.HST_CQ_TLO, 0, 32⟩
/-- HST_CQ_THI.V -/ def HST_CQ_THI_V : Fld := ⟨.HST_CQ_THI, 0, 32⟩
/-- HST_CQ_PUSH.TSCAP -/ def HST_CQ_PUSH_TSCAP : Fld := ⟨.HST_CQ_PUSH, 31, 1⟩
/-- HST_CQ_PUSH.SUB -/ def HST_CQ_PUSH_SUB : Fld := ⟨.HST_CQ_PUSH, 28, 2⟩
/-- HST_CQ_PUSH.LEN -/ def HST_CQ_PUSH_LEN : Fld := ⟨.HST_CQ_PUSH, 16, 11⟩
/-- HST_CQ_PUSH.OFS -/ def HST_CQ_PUSH_OFS : Fld := ⟨.HST_CQ_PUSH, 0, 13⟩
/-- HST_CQ_STAT.QUEUED -/ def HST_CQ_STAT_QUEUED : Fld := ⟨.HST_CQ_STAT, 16, 7⟩
/-- HST_CQ_STAT.DUE -/ def HST_CQ_STAT_DUE : Fld := ⟨.HST_CQ_STAT, 0, 1⟩
/-- HST_CQ_GUARD.GUARD -/ def HST_CQ_GUARD_GUARD : Fld := ⟨.HST_CQ_GUARD, 0, 16⟩
/-- HST_DROP_CUE_CNT.CNT -/ def HST_DROP_CUE_CNT_CNT : Fld := ⟨.HST_DROP_CUE_CNT, 0, 32⟩
/-- HST_DROP_ROUTINE_CNT.CNT -/ def HST_DROP_ROUTINE_CNT_CNT : Fld := ⟨.HST_DROP_ROUTINE_CNT, 0, 32⟩
/-- HST_DROP_BULK_CNT.CNT -/ def HST_DROP_BULK_CNT_CNT : Fld := ⟨.HST_DROP_BULK_CNT, 0, 32⟩
/-- HST_MGMT_REQ_CNT.CNT -/ def HST_MGMT_REQ_CNT_CNT : Fld := ⟨.HST_MGMT_REQ_CNT, 0, 32⟩
/-- HST_MGMT_DENY_CNT.CNT -/ def HST_MGMT_DENY_CNT_CNT : Fld := ⟨.HST_MGMT_DENY_CNT, 0, 32⟩
/-- HST_MGMT_OVF_CNT.CNT -/ def HST_MGMT_OVF_CNT_CNT : Fld := ⟨.HST_MGMT_OVF_CNT, 0, 32⟩
/-- HST_TOKEN_FAIL_CNT.CNT -/ def HST_TOKEN_FAIL_CNT_CNT : Fld := ⟨.HST_TOKEN_FAIL_CNT, 0, 32⟩
/-- HST_FAILOVER_CNT.CNT -/ def HST_FAILOVER_CNT_CNT : Fld := ⟨.HST_FAILOVER_CNT, 0, 32⟩
/-- HST_STALE_CNT.CNT -/ def HST_STALE_CNT_CNT : Fld := ⟨.HST_STALE_CNT, 0, 32⟩
/-- HST_CQ_LATE_CNT.CNT -/ def HST_CQ_LATE_CNT_CNT : Fld := ⟨.HST_CQ_LATE_CNT, 0, 32⟩
/-- HST_CQ_REFUSE_CNT.CNT -/ def HST_CQ_REFUSE_CNT_CNT : Fld := ⟨.HST_CQ_REFUSE_CNT, 0, 32⟩
/-- HST_CQ_DROP_CNT.CNT -/ def HST_CQ_DROP_CNT_CNT : Fld := ⟨.HST_CQ_DROP_CNT, 0, 32⟩
/-- HST_IF_CFG.EN -/ def HST_IF_CFG_EN : Fld := ⟨.HST_IF_CFG, 31, 1⟩
/-- HST_IF_CFG.RAW -/ def HST_IF_CFG_RAW : Fld := ⟨.HST_IF_CFG, 30, 1⟩
/-- HST_IF_CFG.VLAN_EN -/ def HST_IF_CFG_VLAN_EN : Fld := ⟨.HST_IF_CFG, 29, 1⟩
/-- HST_IF_CFG.VID -/ def HST_IF_CFG_VID : Fld := ⟨.HST_IF_CFG, 0, 12⟩
/-- HST_IF_MAC_LO.V -/ def HST_IF_MAC_LO_V : Fld := ⟨.HST_IF_MAC_LO, 0, 32⟩
/-- HST_IF_MAC_HI.V -/ def HST_IF_MAC_HI_V : Fld := ⟨.HST_IF_MAC_HI, 0, 16⟩
/-- HST_IF_IP.V -/ def HST_IF_IP_V : Fld := ⟨.HST_IF_IP, 0, 32⟩
/-- HST_IF_DIP.V -/ def HST_IF_DIP_V : Fld := ⟨.HST_IF_DIP, 0, 32⟩
/-- HST_IF_DMAC_LO.V -/ def HST_IF_DMAC_LO_V : Fld := ⟨.HST_IF_DMAC_LO, 0, 32⟩
/-- HST_IF_DMAC_HI.V -/ def HST_IF_DMAC_HI_V : Fld := ⟨.HST_IF_DMAC_HI, 0, 16⟩
/-- HST_IF_UDP.SRC -/ def HST_IF_UDP_SRC : Fld := ⟨.HST_IF_UDP, 16, 16⟩
/-- HST_IF_UDP.DST -/ def HST_IF_UDP_DST : Fld := ⟨.HST_IF_UDP, 0, 16⟩
/-- HST_IF_STATUS.UP -/ def HST_IF_STATUS_UP : Fld := ⟨.HST_IF_STATUS, 5, 1⟩
/-- HST_IF_STATUS.RFAULT -/ def HST_IF_STATUS_RFAULT : Fld := ⟨.HST_IF_STATUS, 4, 1⟩
/-- HST_IF_STATUS.FEC_LOCK -/ def HST_IF_STATUS_FEC_LOCK : Fld := ⟨.HST_IF_STATUS, 3, 1⟩
/-- HST_IF_STATUS.ALIGNED -/ def HST_IF_STATUS_ALIGNED : Fld := ⟨.HST_IF_STATUS, 2, 1⟩
/-- HST_IF_STATUS.BLOCK_LOCK -/ def HST_IF_STATUS_BLOCK_LOCK : Fld := ⟨.HST_IF_STATUS, 1, 1⟩
/-- HST_IF_STATUS.AN_DONE -/ def HST_IF_STATUS_AN_DONE : Fld := ⟨.HST_IF_STATUS, 0, 1⟩
/-- HST_TX_FRAME_CNT.CNT -/ def HST_TX_FRAME_CNT_CNT : Fld := ⟨.HST_TX_FRAME_CNT, 0, 32⟩
/-- HST_RX_FRAME_CNT.CNT -/ def HST_RX_FRAME_CNT_CNT : Fld := ⟨.HST_RX_FRAME_CNT, 0, 32⟩
/-- HST_RX_DROP_CNT.CNT -/ def HST_RX_DROP_CNT_CNT : Fld := ⟨.HST_RX_DROP_CNT, 0, 32⟩
/-- HST_FEC_CORR_CNT.CNT -/ def HST_FEC_CORR_CNT_CNT : Fld := ⟨.HST_FEC_CORR_CNT, 0, 32⟩
/-- HST_FEC_UNCORR_CNT.CNT -/ def HST_FEC_UNCORR_CNT_CNT : Fld := ⟨.HST_FEC_UNCORR_CNT, 0, 32⟩
/-- HST_ARP_CNT.CNT -/ def HST_ARP_CNT_CNT : Fld := ⟨.HST_ARP_CNT, 0, 32⟩
/-- HST_ICMP_CNT.CNT -/ def HST_ICMP_CNT_CNT : Fld := ⟨.HST_ICMP_CNT, 0, 32⟩
/-- TIM_CTRL.DOMAIN -/ def TIM_CTRL_DOMAIN : Fld := ⟨.TIM_CTRL, 24, 8⟩
/-- TIM_CTRL.PTP_IF -/ def TIM_CTRL_PTP_IF : Fld := ⟨.TIM_CTRL, 20, 4⟩
/-- TIM_CTRL.P2P -/ def TIM_CTRL_P2P : Fld := ⟨.TIM_CTRL, 4, 1⟩
/-- TIM_CTRL.TWO_STEP -/ def TIM_CTRL_TWO_STEP : Fld := ⟨.TIM_CTRL, 3, 1⟩
/-- TIM_CTRL.ETH -/ def TIM_CTRL_ETH : Fld := ⟨.TIM_CTRL, 2, 1⟩
/-- TIM_CTRL.SRC -/ def TIM_CTRL_SRC : Fld := ⟨.TIM_CTRL, 0, 2⟩
/-- TIM_SERVO_KP.KP -/ def TIM_SERVO_KP_KP : Fld := ⟨.TIM_SERVO_KP, 0, 32⟩
/-- TIM_SERVO_KI.KI -/ def TIM_SERVO_KI_KI : Fld := ⟨.TIM_SERVO_KI, 0, 32⟩
/-- TIM_STEP_THR.THR -/ def TIM_STEP_THR_THR : Fld := ⟨.TIM_STEP_THR, 0, 32⟩
/-- TIM_LOCK_CFG.HOLD_TMO -/ def TIM_LOCK_CFG_HOLD_TMO : Fld := ⟨.TIM_LOCK_CFG, 16, 16⟩
/-- TIM_LOCK_CFG.LOCK_THR -/ def TIM_LOCK_CFG_LOCK_THR : Fld := ⟨.TIM_LOCK_CFG, 0, 16⟩
/-- TIM_PTP_CFG.MPD_MAX -/ def TIM_PTP_CFG_MPD_MAX : Fld := ⟨.TIM_PTP_CFG, 16, 16⟩
/-- TIM_PTP_CFG.MPD_SHIFT -/ def TIM_PTP_CFG_MPD_SHIFT : Fld := ⟨.TIM_PTP_CFG, 0, 4⟩
/-- TIM_TSADJ.RX -/ def TIM_TSADJ_RX : Fld := ⟨.TIM_TSADJ, 16, 16⟩
/-- TIM_TSADJ.TX -/ def TIM_TSADJ_TX : Fld := ⟨.TIM_TSADJ, 0, 16⟩
/-- TIM_STATUS.SRC_OK -/ def TIM_STATUS_SRC_OK : Fld := ⟨.TIM_STATUS, 4, 1⟩
/-- TIM_STATUS.TVALID -/ def TIM_STATUS_TVALID : Fld := ⟨.TIM_STATUS, 3, 1⟩
/-- TIM_STATUS.STEPPED -/ def TIM_STATUS_STEPPED : Fld := ⟨.TIM_STATUS, 2, 1⟩
/-- TIM_STATUS.HOLDOVER -/ def TIM_STATUS_HOLDOVER : Fld := ⟨.TIM_STATUS, 1, 1⟩
/-- TIM_STATUS.LOCKED -/ def TIM_STATUS_LOCKED : Fld := ⟨.TIM_STATUS, 0, 1⟩
/-- TIM_EVENT.SECOND -/ def TIM_EVENT_SECOND : Fld := ⟨.TIM_EVENT, 5, 1⟩
/-- TIM_EVENT.HOLDOVER -/ def TIM_EVENT_HOLDOVER : Fld := ⟨.TIM_EVENT, 4, 1⟩
/-- TIM_EVENT.UNLOCK -/ def TIM_EVENT_UNLOCK : Fld := ⟨.TIM_EVENT, 3, 1⟩
/-- TIM_EVENT.LOCK -/ def TIM_EVENT_LOCK : Fld := ⟨.TIM_EVENT, 2, 1⟩
/-- TIM_EVENT.STEP -/ def TIM_EVENT_STEP : Fld := ⟨.TIM_EVENT, 1, 1⟩
/-- TIM_EVENT.OFS_REJ -/ def TIM_EVENT_OFS_REJ : Fld := ⟨.TIM_EVENT, 0, 1⟩
/-- TIM_EVENT_EN.EN -/ def TIM_EVENT_EN_EN : Fld := ⟨.TIM_EVENT_EN, 0, 6⟩
/-- TIM_NOW0.FRAC -/ def TIM_NOW0_FRAC : Fld := ⟨.TIM_NOW0, 0, 16⟩
/-- TIM_NOW1.NS -/ def TIM_NOW1_NS : Fld := ⟨.TIM_NOW1, 0, 32⟩
/-- TIM_NOW2.SLO -/ def TIM_NOW2_SLO : Fld := ⟨.TIM_NOW2, 0, 32⟩
/-- TIM_NOW3.SHI -/ def TIM_NOW3_SHI : Fld := ⟨.TIM_NOW3, 0, 16⟩
/-- TIM_SET0.FRAC -/ def TIM_SET0_FRAC : Fld := ⟨.TIM_SET0, 0, 16⟩
/-- TIM_SET1.NS -/ def TIM_SET1_NS : Fld := ⟨.TIM_SET1, 0, 32⟩
/-- TIM_SET2.SLO -/ def TIM_SET2_SLO : Fld := ⟨.TIM_SET2, 0, 32⟩
/-- TIM_SET3.SHI -/ def TIM_SET3_SHI : Fld := ⟨.TIM_SET3, 0, 16⟩
/-- TIM_SET_GO.SET -/ def TIM_SET_GO_SET : Fld := ⟨.TIM_SET_GO, 0, 1⟩
/-- TIM_MPD.MPD -/ def TIM_MPD_MPD : Fld := ⟨.TIM_MPD, 0, 32⟩
/-- TIM_MASTER_LO.V -/ def TIM_MASTER_LO_V : Fld := ⟨.TIM_MASTER_LO, 0, 32⟩
/-- TIM_MASTER_HI.V -/ def TIM_MASTER_HI_V : Fld := ⟨.TIM_MASTER_HI, 0, 32⟩
/-- TIM_MASTER_PORT.V -/ def TIM_MASTER_PORT_V : Fld := ⟨.TIM_MASTER_PORT, 31, 1⟩
/-- TIM_MASTER_PORT.PORT -/ def TIM_MASTER_PORT_PORT : Fld := ⟨.TIM_MASTER_PORT, 0, 16⟩
/-- TIM_OFS_CNT.CNT -/ def TIM_OFS_CNT_CNT : Fld := ⟨.TIM_OFS_CNT, 0, 32⟩
/-- TIM_STEP_CNT.CNT -/ def TIM_STEP_CNT_CNT : Fld := ⟨.TIM_STEP_CNT, 0, 32⟩
/-- TIM_REJ_CNT.CNT -/ def TIM_REJ_CNT_CNT : Fld := ⟨.TIM_REJ_CNT, 0, 32⟩
/-- TIM_HOLD_CNT.CNT -/ def TIM_HOLD_CNT_CNT : Fld := ⟨.TIM_HOLD_CNT, 0, 32⟩
/-- FAB_CTRL.SINK_EL -/ def FAB_CTRL_SINK_EL : Fld := ⟨.FAB_CTRL, 2, 1⟩
/-- FAB_CTRL.ROOT_EL -/ def FAB_CTRL_ROOT_EL : Fld := ⟨.FAB_CTRL, 1, 1⟩
/-- FAB_CTRL.EN -/ def FAB_CTRL_EN : Fld := ⟨.FAB_CTRL, 0, 1⟩
/-- FAB_CFG.DISC_TMO -/ def FAB_CFG_DISC_TMO : Fld := ⟨.FAB_CFG, 0, 16⟩
/-- FAB_PORT_EN.EN -/ def FAB_PORT_EN_EN : Fld := ⟨.FAB_PORT_EN, 0, 6⟩
/-- FAB_TOPO.HASH -/ def FAB_TOPO_HASH : Fld := ⟨.FAB_TOPO, 0, 32⟩
/-- FAB_EVENT.WAKE_PIN -/ def FAB_EVENT_WAKE_PIN : Fld := ⟨.FAB_EVENT, 10, 1⟩
/-- FAB_EVENT.HOPS_OVER -/ def FAB_EVENT_HOPS_OVER : Fld := ⟨.FAB_EVENT, 9, 1⟩
/-- FAB_EVENT.TOPO -/ def FAB_EVENT_TOPO : Fld := ⟨.FAB_EVENT, 8, 1⟩
/-- FAB_EVENT.READDR -/ def FAB_EVENT_READDR : Fld := ⟨.FAB_EVENT, 7, 1⟩
/-- FAB_EVENT.NOROUTE -/ def FAB_EVENT_NOROUTE : Fld := ⟨.FAB_EVENT, 6, 1⟩
/-- FAB_EVENT.REDISC -/ def FAB_EVENT_REDISC : Fld := ⟨.FAB_EVENT, 5, 1⟩
/-- FAB_EVENT.LINK_DOWN -/ def FAB_EVENT_LINK_DOWN : Fld := ⟨.FAB_EVENT, 4, 1⟩
/-- FAB_EVENT.LINK_UP -/ def FAB_EVENT_LINK_UP : Fld := ⟨.FAB_EVENT, 3, 1⟩
/-- FAB_EVENT.DISC_FAIL -/ def FAB_EVENT_DISC_FAIL : Fld := ⟨.FAB_EVENT, 2, 1⟩
/-- FAB_EVENT.DISC_DONE -/ def FAB_EVENT_DISC_DONE : Fld := ⟨.FAB_EVENT, 1, 1⟩
/-- FAB_EVENT.SINK_CHANGE -/ def FAB_EVENT_SINK_CHANGE : Fld := ⟨.FAB_EVENT, 0, 1⟩
/-- FAB_EVENT_EN.EN -/ def FAB_EVENT_EN_EN : Fld := ⟨.FAB_EVENT_EN, 0, 11⟩
/-- FAB_STATUS.ADDR -/ def FAB_STATUS_ADDR : Fld := ⟨.FAB_STATUS, 20, 12⟩
/-- FAB_STATUS.SINK -/ def FAB_STATUS_SINK : Fld := ⟨.FAB_STATUS, 8, 12⟩
/-- FAB_STATUS.SINK_HOPS -/ def FAB_STATUS_SINK_HOPS : Fld := ⟨.FAB_STATUS, 4, 4⟩
/-- FAB_STATUS.TOPO_MISMATCH -/ def FAB_STATUS_TOPO_MISMATCH : Fld := ⟨.FAB_STATUS, 3, 1⟩
/-- FAB_STATUS.PARTITION -/ def FAB_STATUS_PARTITION : Fld := ⟨.FAB_STATUS, 2, 1⟩
/-- FAB_STATUS.ROOT -/ def FAB_STATUS_ROOT : Fld := ⟨.FAB_STATUS, 1, 1⟩
/-- FAB_STATUS.DONE -/ def FAB_STATUS_DONE : Fld := ⟨.FAB_STATUS, 0, 1⟩
/-- FAB_ROOT_LO.V -/ def FAB_ROOT_LO_V : Fld := ⟨.FAB_ROOT_LO, 0, 32⟩
/-- FAB_ROOT_HI.V -/ def FAB_ROOT_HI_V : Fld := ⟨.FAB_ROOT_HI, 0, 32⟩
/-- FAB_NBR.LV -/ def FAB_NBR_LV : Fld := ⟨.FAB_NBR, 31, 1⟩
/-- FAB_NBR.LEFT -/ def FAB_NBR_LEFT : Fld := ⟨.FAB_NBR, 16, 12⟩
/-- FAB_NBR.RV -/ def FAB_NBR_RV : Fld := ⟨.FAB_NBR, 15, 1⟩
/-- FAB_NBR.RIGHT -/ def FAB_NBR_RIGHT : Fld := ⟨.FAB_NBR, 0, 12⟩
/-- FAB_TIME_CFG.INT -/ def FAB_TIME_CFG_INT : Fld := ⟨.FAB_TIME_CFG, 16, 16⟩
/-- FAB_PSTAT.STATE -/ def FAB_PSTAT_STATE : Fld := ⟨.FAB_PSTAT, 29, 3⟩
/-- FAB_PSTAT.PARENT -/ def FAB_PSTAT_PARENT : Fld := ⟨.FAB_PSTAT, 28, 1⟩
/-- FAB_PSTAT.CHILD -/ def FAB_PSTAT_CHILD : Fld := ⟨.FAB_PSTAT, 27, 1⟩
/-- FAB_PSTAT.NPORT -/ def FAB_PSTAT_NPORT : Fld := ⟨.FAB_PSTAT, 24, 3⟩
/-- FAB_PSTAT.NADDR -/ def FAB_PSTAT_NADDR : Fld := ⟨.FAB_PSTAT, 12, 12⟩
/-- FAB_POUT.PEAK -/ def FAB_POUT_PEAK : Fld := ⟨.FAB_POUT, 16, 13⟩
/-- FAB_POUT.USED -/ def FAB_POUT_USED : Fld := ⟨.FAB_POUT, 0, 13⟩
/-- FAB_NSER_LO.V -/ def FAB_NSER_LO_V : Fld := ⟨.FAB_NSER_LO, 0, 32⟩
/-- FAB_NSER_HI.V -/ def FAB_NSER_HI_V : Fld := ⟨.FAB_NSER_HI, 0, 32⟩
/-- FAB_CRC_CNT.CNT -/ def FAB_CRC_CNT_CNT : Fld := ⟨.FAB_CRC_CNT, 0, 32⟩
/-- FAB_REPLAY_CNT.CNT -/ def FAB_REPLAY_CNT_CNT : Fld := ⟨.FAB_REPLAY_CNT, 0, 32⟩
/-- FAB_DOWN_CNT.CNT -/ def FAB_DOWN_CNT_CNT : Fld := ⟨.FAB_DOWN_CNT, 0, 32⟩
/-- FAB_RELAY_CNT.CNT -/ def FAB_RELAY_CNT_CNT : Fld := ⟨.FAB_RELAY_CNT, 0, 32⟩
/-- FAB_NOROUTE_CNT.CNT -/ def FAB_NOROUTE_CNT_CNT : Fld := ⟨.FAB_NOROUTE_CNT, 0, 32⟩
/-- FAB_BADPKT_CNT.CNT -/ def FAB_BADPKT_CNT_CNT : Fld := ⟨.FAB_BADPKT_CNT, 0, 32⟩
/-- FAB_REDISC_CNT.CNT -/ def FAB_REDISC_CNT_CNT : Fld := ⟨.FAB_REDISC_CNT, 0, 32⟩
/-- FAB_READDR_CNT.CNT -/ def FAB_READDR_CNT_CNT : Fld := ⟨.FAB_READDR_CNT, 0, 32⟩
/-- FAB_CUE_LATE_CNT.CNT -/ def FAB_CUE_LATE_CNT_CNT : Fld := ⟨.FAB_CUE_LATE_CNT, 0, 32⟩
/-- FAB_DISC_CNT.CNT -/ def FAB_DISC_CNT_CNT : Fld := ⟨.FAB_DISC_CNT, 0, 32⟩
/-- EVT_CTRL.STUCK -/ def EVT_CTRL_STUCK : Fld := ⟨.EVT_CTRL, 16, 16⟩
/-- EVT_CTRL.LOOP_LIMIT -/ def EVT_CTRL_LOOP_LIMIT : Fld := ⟨.EVT_CTRL, 8, 5⟩
/-- EVT_CTRL.EN -/ def EVT_CTRL_EN : Fld := ⟨.EVT_CTRL, 0, 1⟩
/-- EVT_EVENT.DROP -/ def EVT_EVENT_DROP : Fld := ⟨.EVT_EVENT, 3, 1⟩
/-- EVT_EVENT.PIN_STUCK -/ def EVT_EVENT_PIN_STUCK : Fld := ⟨.EVT_EVENT, 2, 1⟩
/-- EVT_EVENT.OVERRUN -/ def EVT_EVENT_OVERRUN : Fld := ⟨.EVT_EVENT, 1, 1⟩
/-- EVT_EVENT.LOOP -/ def EVT_EVENT_LOOP : Fld := ⟨.EVT_EVENT, 0, 1⟩
/-- EVT_EVENT_EN.EN -/ def EVT_EVENT_EN_EN : Fld := ⟨.EVT_EVENT_EN, 0, 4⟩
/-- EVT_LOOPED.V -/ def EVT_LOOPED_V : Fld := ⟨.EVT_LOOPED, 0, 32⟩
/-- EVT_SWFIRE.TASK -/ def EVT_SWFIRE_TASK : Fld := ⟨.EVT_SWFIRE, 0, 7⟩
/-- EVT_PINSTAT.STUCK -/ def EVT_PINSTAT_STUCK : Fld := ⟨.EVT_PINSTAT, 16, 16⟩
/-- EVT_PINSTAT.LEVEL -/ def EVT_PINSTAT_LEVEL : Fld := ⟨.EVT_PINSTAT, 0, 16⟩
/-- EVT_PIN.PW -/ def EVT_PIN_PW : Fld := ⟨.EVT_PIN, 16, 16⟩
/-- EVT_PIN.OMODE -/ def EVT_PIN_OMODE : Fld := ⟨.EVT_PIN, 9, 1⟩
/-- EVT_PIN.POL -/ def EVT_PIN_POL : Fld := ⟨.EVT_PIN, 8, 1⟩
/-- EVT_PIN.FILT -/ def EVT_PIN_FILT : Fld := ⟨.EVT_PIN, 4, 3⟩
/-- EVT_PIN.EDGE -/ def EVT_PIN_EDGE : Fld := ⟨.EVT_PIN, 2, 2⟩
/-- EVT_PIN.DIR -/ def EVT_PIN_DIR : Fld := ⟨.EVT_PIN, 0, 1⟩
/-- EVT_CH.EN -/ def EVT_CH_EN : Fld := ⟨.EVT_CH, 31, 1⟩
/-- EVT_CH.TSEL -/ def EVT_CH_TSEL : Fld := ⟨.EVT_CH, 8, 7⟩
/-- EVT_CH.PSEL -/ def EVT_CH_PSEL : Fld := ⟨.EVT_CH, 0, 8⟩
/-- EVT_CELL.FILT -/ def EVT_CELL_FILT : Fld := ⟨.EVT_CELL, 21, 3⟩
/-- EVT_CELL.FF -/ def EVT_CELL_FF : Fld := ⟨.EVT_CELL, 20, 1⟩
/-- EVT_CELL.EDGE -/ def EVT_CELL_EDGE : Fld := ⟨.EVT_CELL, 18, 2⟩
/-- EVT_CELL.LUT -/ def EVT_CELL_LUT : Fld := ⟨.EVT_CELL, 0, 16⟩
/-- EVT_CELL_IN.MODE3 -/ def EVT_CELL_IN_MODE3 : Fld := ⟨.EVT_CELL_IN, 22, 2⟩
/-- EVT_CELL_IN.PIN3 -/ def EVT_CELL_IN_PIN3 : Fld := ⟨.EVT_CELL_IN, 18, 4⟩
/-- EVT_CELL_IN.MODE2 -/ def EVT_CELL_IN_MODE2 : Fld := ⟨.EVT_CELL_IN, 16, 2⟩
/-- EVT_CELL_IN.PIN2 -/ def EVT_CELL_IN_PIN2 : Fld := ⟨.EVT_CELL_IN, 12, 4⟩
/-- EVT_CELL_IN.MODE1 -/ def EVT_CELL_IN_MODE1 : Fld := ⟨.EVT_CELL_IN, 10, 2⟩
/-- EVT_CELL_IN.PIN1 -/ def EVT_CELL_IN_PIN1 : Fld := ⟨.EVT_CELL_IN, 6, 4⟩
/-- EVT_CELL_IN.MODE0 -/ def EVT_CELL_IN_MODE0 : Fld := ⟨.EVT_CELL_IN, 4, 2⟩
/-- EVT_CELL_IN.PIN0 -/ def EVT_CELL_IN_PIN0 : Fld := ⟨.EVT_CELL_IN, 0, 4⟩
/-- EVT_OVR.V3 -/ def EVT_OVR_V3 : Fld := ⟨.EVT_OVR, 24, 8⟩
/-- EVT_OVR.V2 -/ def EVT_OVR_V2 : Fld := ⟨.EVT_OVR, 16, 8⟩
/-- EVT_OVR.V1 -/ def EVT_OVR_V1 : Fld := ⟨.EVT_OVR, 8, 8⟩
/-- EVT_OVR.V0 -/ def EVT_OVR_V0 : Fld := ⟨.EVT_OVR, 0, 8⟩
/-- EVT_LOOP_CNT.CNT -/ def EVT_LOOP_CNT_CNT : Fld := ⟨.EVT_LOOP_CNT, 0, 32⟩
/-- EVT_DROP_CNT.CNT -/ def EVT_DROP_CNT_CNT : Fld := ⟨.EVT_DROP_CNT, 0, 32⟩
/-- PMC_CTRL.ALL -/ def PMC_CTRL_ALL : Fld := ⟨.PMC_CTRL, 12, 1⟩
/-- PMC_CTRL.QUAD -/ def PMC_CTRL_QUAD : Fld := ⟨.PMC_CTRL, 8, 4⟩
/-- PMC_CTRL.MODE -/ def PMC_CTRL_MODE : Fld := ⟨.PMC_CTRL, 4, 2⟩
/-- PMC_CTRL.RUN -/ def PMC_CTRL_RUN : Fld := ⟨.PMC_CTRL, 0, 1⟩
/-- PMC_WIN.WIN -/ def PMC_WIN_WIN : Fld := ⟨.PMC_WIN, 0, 32⟩
/-- PMC_EVENT.WIN_DONE -/ def PMC_EVENT_WIN_DONE : Fld := ⟨.PMC_EVENT, 8, 1⟩
/-- PMC_EVENT.OVF -/ def PMC_EVENT_OVF : Fld := ⟨.PMC_EVENT, 0, 8⟩
/-- PMC_EVENT_EN.EN -/ def PMC_EVENT_EN_EN : Fld := ⟨.PMC_EVENT_EN, 0, 9⟩
/-- PMC_CYC_LO.V -/ def PMC_CYC_LO_V : Fld := ⟨.PMC_CYC_LO, 0, 32⟩
/-- PMC_CYC_HI.V -/ def PMC_CYC_HI_V : Fld := ⟨.PMC_CYC_HI, 0, 32⟩
/-- PMC_SEL.SEL -/ def PMC_SEL_SEL : Fld := ⟨.PMC_SEL, 0, 9⟩
/-- PMC_CNT_LO.V -/ def PMC_CNT_LO_V : Fld := ⟨.PMC_CNT_LO, 0, 32⟩
/-- PMC_CNT_HI.V -/ def PMC_CNT_HI_V : Fld := ⟨.PMC_CNT_HI, 0, 16⟩
/-- PMC_RES_LO.V -/ def PMC_RES_LO_V : Fld := ⟨.PMC_RES_LO, 0, 32⟩
/-- PMC_RES_HI.V -/ def PMC_RES_HI_V : Fld := ⟨.PMC_RES_HI, 0, 16⟩
/-- THM_LIMITS.SHUTDOWN -/ def THM_LIMITS_SHUTDOWN : Fld := ⟨.THM_LIMITS, 24, 8⟩
/-- THM_LIMITS.THROTTLE -/ def THM_LIMITS_THROTTLE : Fld := ⟨.THM_LIMITS, 16, 8⟩
/-- THM_LIMITS.WARN -/ def THM_LIMITS_WARN : Fld := ⟨.THM_LIMITS, 8, 8⟩
/-- THM_LIMITS.HYST -/ def THM_LIMITS_HYST : Fld := ⟨.THM_LIMITS, 0, 4⟩
/-- THM_THR_CFG.MAX -/ def THM_THR_CFG_MAX : Fld := ⟨.THM_THR_CFG, 16, 3⟩
/-- THM_THR_CFG.STEP_MS -/ def THM_THR_CFG_STEP_MS : Fld := ⟨.THM_THR_CFG, 0, 16⟩
/-- THM_SHED_HEADS.V -/ def THM_SHED_HEADS_V : Fld := ⟨.THM_SHED_HEADS, 0, 32⟩
/-- THM_EVENT.SENSOR -/ def THM_EVENT_SENSOR : Fld := ⟨.THM_EVENT, 3, 1⟩
/-- THM_EVENT.RELEASE -/ def THM_EVENT_RELEASE : Fld := ⟨.THM_EVENT, 2, 1⟩
/-- THM_EVENT.THROTTLE -/ def THM_EVENT_THROTTLE : Fld := ⟨.THM_EVENT, 1, 1⟩
/-- THM_EVENT.WARN -/ def THM_EVENT_WARN : Fld := ⟨.THM_EVENT, 0, 1⟩
/-- THM_EVENT_EN.EN -/ def THM_EVENT_EN_EN : Fld := ⟨.THM_EVENT_EN, 0, 4⟩
/-- THM_STATUS.LEVEL -/ def THM_STATUS_LEVEL : Fld := ⟨.THM_STATUS, 29, 3⟩
/-- THM_STATUS.WARN -/ def THM_STATUS_WARN : Fld := ⟨.THM_STATUS, 28, 1⟩
/-- THM_STATUS.THROTTLE -/ def THM_STATUS_THROTTLE : Fld := ⟨.THM_STATUS, 27, 1⟩
/-- THM_STATUS.DRAM_CRIT -/ def THM_STATUS_DRAM_CRIT : Fld := ⟨.THM_STATUS, 26, 1⟩
/-- THM_STATUS.HOT_SRC -/ def THM_STATUS_HOT_SRC : Fld := ⟨.THM_STATUS, 21, 5⟩
/-- THM_STATUS.HOT_T -/ def THM_STATUS_HOT_T : Fld := ⟨.THM_STATUS, 0, 16⟩
/-- THM_BROKEN.V -/ def THM_BROKEN_V : Fld := ⟨.THM_BROKEN, 0, 24⟩
/-- THM_FAST.V -/ def THM_FAST_V : Fld := ⟨.THM_FAST, 0, 24⟩
/-- THM_TS.BROKEN -/ def THM_TS_BROKEN : Fld := ⟨.THM_TS, 31, 1⟩
/-- THM_TS.FAST -/ def THM_TS_FAST : Fld := ⟨.THM_TS, 30, 1⟩
/-- THM_TS.CAUSE -/ def THM_TS_CAUSE : Fld := ⟨.THM_TS, 26, 4⟩
/-- THM_TS.LOFS -/ def THM_TS_LOFS : Fld := ⟨.THM_TS, 16, 10⟩
/-- THM_TS.T -/ def THM_TS_T : Fld := ⟨.THM_TS, 0, 16⟩
/-- THM_BRD.EN -/ def THM_BRD_EN : Fld := ⟨.THM_BRD, 31, 1⟩
/-- THM_BRD.ADDR -/ def THM_BRD_ADDR : Fld := ⟨.THM_BRD, 24, 7⟩
/-- THM_BRD.REG -/ def THM_BRD_REG : Fld := ⟨.THM_BRD, 16, 8⟩
/-- THM_BRD.WARN -/ def THM_BRD_WARN : Fld := ⟨.THM_BRD, 8, 8⟩
/-- THM_BRDT.VALID -/ def THM_BRDT_VALID : Fld := ⟨.THM_BRDT, 31, 1⟩
/-- THM_BRDT.T -/ def THM_BRDT_T : Fld := ⟨.THM_BRDT, 0, 16⟩
/-- THM_WARN_CNT.CNT -/ def THM_WARN_CNT_CNT : Fld := ⟨.THM_WARN_CNT, 0, 32⟩
/-- THM_THR_CNT.CNT -/ def THM_THR_CNT_CNT : Fld := ⟨.THM_THR_CNT, 0, 32⟩
/-- THM_BROKEN_CNT.CNT -/ def THM_BROKEN_CNT_CNT : Fld := ⟨.THM_BROKEN_CNT, 0, 32⟩
/-- THM_I2C_ERR_CNT.CNT -/ def THM_I2C_ERR_CNT_CNT : Fld := ⟨.THM_I2C_ERR_CNT, 0, 32⟩
/-- THM_SHUT_CNT.CNT -/ def THM_SHUT_CNT_CNT : Fld := ⟨.THM_SHUT_CNT, 0, 32⟩
/-- PWR_CFG.CKPT -/ def PWR_CFG_CKPT : Fld := ⟨.PWR_CFG, 16, 16⟩
/-- PWR_CFG.PG_CURTAIN -/ def PWR_CFG_PG_CURTAIN : Fld := ⟨.PWR_CFG, 15, 1⟩
/-- PWR_CFG.VIN_EN -/ def PWR_CFG_VIN_EN : Fld := ⟨.PWR_CFG, 14, 1⟩
/-- PWR_CFG.HEALTH -/ def PWR_CFG_HEALTH : Fld := ⟨.PWR_CFG, 8, 6⟩
/-- PWR_CFG.RESTORE_MS -/ def PWR_CFG_RESTORE_MS : Fld := ⟨.PWR_CFG, 0, 8⟩
/-- PWR_VIN_CFG.TRIP -/ def PWR_VIN_CFG_TRIP : Fld := ⟨.PWR_VIN_CFG, 16, 16⟩
/-- PWR_VIN_CFG.RESTORE -/ def PWR_VIN_CFG_RESTORE : Fld := ⟨.PWR_VIN_CFG, 0, 16⟩
/-- PWR_EVENT.WEAR -/ def PWR_EVENT_WEAR : Fld := ⟨.PWR_EVENT, 3, 1⟩
/-- PWR_EVENT.RAIL -/ def PWR_EVENT_RAIL : Fld := ⟨.PWR_EVENT, 2, 1⟩
/-- PWR_EVENT.SAVE_DONE -/ def PWR_EVENT_SAVE_DONE : Fld := ⟨.PWR_EVENT, 1, 1⟩
/-- PWR_EVENT.CURTAIN -/ def PWR_EVENT_CURTAIN : Fld := ⟨.PWR_EVENT, 0, 1⟩
/-- PWR_EVENT_EN.EN -/ def PWR_EVENT_EN_EN : Fld := ⟨.PWR_EVENT_EN, 0, 4⟩
/-- PWR_STATUS.CURTAIN -/ def PWR_STATUS_CURTAIN : Fld := ⟨.PWR_STATUS, 31, 1⟩
/-- PWR_STATUS.WRITING -/ def PWR_STATUS_WRITING : Fld := ⟨.PWR_STATUS, 30, 1⟩
/-- PWR_STATUS.NEWEST -/ def PWR_STATUS_NEWEST : Fld := ⟨.PWR_STATUS, 27, 3⟩
/-- PWR_STATUS.NEWEST_V -/ def PWR_STATUS_NEWEST_V : Fld := ⟨.PWR_STATUS, 26, 1⟩
/-- PWR_STATUS.MVALID -/ def PWR_STATUS_MVALID : Fld := ⟨.PWR_STATUS, 25, 1⟩
/-- PWR_STATUS.PG -/ def PWR_STATUS_PG : Fld := ⟨.PWR_STATUS, 21, 4⟩
/-- PWR_STATUS.PFAIL -/ def PWR_STATUS_PFAIL : Fld := ⟨.PWR_STATUS, 20, 1⟩
/-- PWR_STATUS.VKEEP -/ def PWR_STATUS_VKEEP : Fld := ⟨.PWR_STATUS, 0, 16⟩
/-- PWR_LAST_SAVE.KIND -/ def PWR_LAST_SAVE_KIND : Fld := ⟨.PWR_LAST_SAVE, 30, 2⟩
/-- PWR_LAST_SAVE.SLOT -/ def PWR_LAST_SAVE_SLOT : Fld := ⟨.PWR_LAST_SAVE, 27, 3⟩
/-- PWR_LAST_SAVE.OK -/ def PWR_LAST_SAVE_OK : Fld := ⟨.PWR_LAST_SAVE, 26, 1⟩
/-- PWR_LAST_SAVE.TIME -/ def PWR_LAST_SAVE_TIME : Fld := ⟨.PWR_LAST_SAVE, 0, 16⟩
/-- PWR_CB_STATUS.TOTAL -/ def PWR_CB_STATUS_TOTAL : Fld := ⟨.PWR_CB_STATUS, 0, 32⟩
/-- PWR_RAIL.OUT -/ def PWR_RAIL_OUT : Fld := ⟨.PWR_RAIL, 31, 1⟩
/-- PWR_RAIL.MV -/ def PWR_RAIL_MV : Fld := ⟨.PWR_RAIL, 0, 16⟩
/-- PWR_CURTAIN_CNT.CNT -/ def PWR_CURTAIN_CNT_CNT : Fld := ⟨.PWR_CURTAIN_CNT, 0, 32⟩
/-- PWR_CKPT_CNT.CNT -/ def PWR_CKPT_CNT_CNT : Fld := ⟨.PWR_CKPT_CNT, 0, 32⟩
/-- PWR_RAIL_CNT.CNT -/ def PWR_RAIL_CNT_CNT : Fld := ⟨.PWR_RAIL_CNT, 0, 32⟩
/-- PWR_SLOT_BAD_CNT.CNT -/ def PWR_SLOT_BAD_CNT_CNT : Fld := ⟨.PWR_SLOT_BAD_CNT, 0, 32⟩
/-- SEC_STATUS.KEY_OK -/ def SEC_STATUS_KEY_OK : Fld := ⟨.SEC_STATUS, 31, 1⟩
/-- SEC_STATUS.ID_READY -/ def SEC_STATUS_ID_READY : Fld := ⟨.SEC_STATUS, 30, 1⟩
/-- SEC_STATUS.ID_NEW -/ def SEC_STATUS_ID_NEW : Fld := ⟨.SEC_STATUS, 29, 1⟩
/-- SEC_STATUS.ATT_BUSY -/ def SEC_STATUS_ATT_BUSY : Fld := ⟨.SEC_STATUS, 28, 1⟩
/-- SEC_STATUS.DBG_LOCK -/ def SEC_STATUS_DBG_LOCK : Fld := ⟨.SEC_STATUS, 27, 1⟩
/-- SEC_STATUS.OPKEY -/ def SEC_STATUS_OPKEY : Fld := ⟨.SEC_STATUS, 26, 1⟩
/-- SEC_STATUS.CUE_OK -/ def SEC_STATUS_CUE_OK : Fld := ⟨.SEC_STATUS, 25, 1⟩
/-- SEC_EVENT.ATT_BUSY -/ def SEC_EVENT_ATT_BUSY : Fld := ⟨.SEC_EVENT, 3, 1⟩
/-- SEC_EVENT.ATT_DONE -/ def SEC_EVENT_ATT_DONE : Fld := ⟨.SEC_EVENT, 2, 1⟩
/-- SEC_EVENT.ID_DONE -/ def SEC_EVENT_ID_DONE : Fld := ⟨.SEC_EVENT, 1, 1⟩
/-- SEC_EVENT.SLOT_FAIL -/ def SEC_EVENT_SLOT_FAIL : Fld := ⟨.SEC_EVENT, 0, 1⟩
/-- SEC_EVENT_EN.EN -/ def SEC_EVENT_EN_EN : Fld := ⟨.SEC_EVENT_EN, 0, 4⟩
/-- SEC_ROLLBACK.IMG -/ def SEC_ROLLBACK_IMG : Fld := ⟨.SEC_ROLLBACK, 8, 8⟩
/-- SEC_ROLLBACK.FUSE -/ def SEC_ROLLBACK_FUSE : Fld := ⟨.SEC_ROLLBACK, 0, 7⟩
/-- SEC_SERIAL_LO.V -/ def SEC_SERIAL_LO_V : Fld := ⟨.SEC_SERIAL_LO, 0, 32⟩
/-- SEC_SERIAL_HI.V -/ def SEC_SERIAL_HI_V : Fld := ⟨.SEC_SERIAL_HI, 0, 32⟩
/-- SEC_DARK.REASON -/ def SEC_DARK_REASON : Fld := ⟨.SEC_DARK, 0, 4⟩
/-- SEC_ATT_NONCE_LO.V -/ def SEC_ATT_NONCE_LO_V : Fld := ⟨.SEC_ATT_NONCE_LO, 0, 32⟩
/-- SEC_ATT_NONCE_HI.V -/ def SEC_ATT_NONCE_HI_V : Fld := ⟨.SEC_ATT_NONCE_HI, 0, 32⟩
/-- SEC_ATT_ID.AID -/ def SEC_ATT_ID_AID : Fld := ⟨.SEC_ATT_ID, 0, 32⟩
/-- SEC_ATT_CTRL.REQ -/ def SEC_ATT_CTRL_REQ : Fld := ⟨.SEC_ATT_CTRL, 0, 1⟩
/-- SEC_SIGFAIL_CNT.CNT -/ def SEC_SIGFAIL_CNT_CNT : Fld := ⟨.SEC_SIGFAIL_CNT, 0, 32⟩
/-- SEC_ATT_CNT.CNT -/ def SEC_ATT_CNT_CNT : Fld := ⟨.SEC_ATT_CNT, 0, 32⟩
/-- SEC_ATT_BUSY_CNT.CNT -/ def SEC_ATT_BUSY_CNT_CNT : Fld := ⟨.SEC_ATT_BUSY_CNT, 0, 32⟩

end Sys2Proof.Machine.F
end

