-- ==== Sys2Proof/Machine/Sparse.lean ====
section
/-! DEFINITION. Machine/Sparse.lean: storage by number (registers, table words, DRAM bytes) as a list of pairs in one
canonical form: keys strictly rising, and no entry equal to what an unlisted key reads as. -/

namespace Sys2Proof.Machine

/-- The value stored under a key; `d` is what an unlisted key reads as. -/
def spGet {α : Type} (d : α) (m : List (Nat × α)) (a : Nat) : α :=
  match m with
  | [] => d
  | (k, v) :: r => if a = k then v else if a < k then d else spGet d r a

/-- Remove a key. -/
def spErase {α : Type} (m : List (Nat × α)) (a : Nat) : List (Nat × α) :=
  match m with
  | [] => []
  | (k, v) :: r => if a = k then r else if a < k then (k, v) :: r else (k, v) :: spErase r a

/-- Put a value under a key, in order. -/
def spInsert {α : Type} (m : List (Nat × α)) (a : Nat) (x : α) : List (Nat × α) :=
  match m with
  | [] => [(a, x)]
  | (k, v) :: r => if a = k then (a, x) :: r else if a < k then (a, x) :: (k, v) :: r else (k, v) :: spInsert r a x

/-- Store a value: writing what an unlisted key reads as removes the entry, so equal contents are equal lists. -/
def spSet {α : Type} [DecidableEq α] (d : α) (m : List (Nat × α)) (a : Nat) (x : α) : List (Nat × α) :=
  if x = d then spErase m a else spInsert m a x

/-- Every key of the list lies above a bound, and the keys rise strictly. -/
def spAbove {α : Type} (b : Option Nat) (m : List (Nat × α)) : Bool :=
  match m with
  | [] => true
  | (k, _) :: r => (match b with | none => true | some x => decide (x < k)) && spAbove (some k) r

/-- The canonical form: keys strictly rising, no entry equal to the default of its key. -/
def spWf {α : Type} [DecidableEq α] (dflt : Nat → α) (m : List (Nat × α)) : Bool :=
  spAbove none m && m.all (fun e => decide (e.2 ≠ dflt e.1))

end Sys2Proof.Machine
end

