-- ==== Sys2Proof/Config.lean ====
section
/-! DEFINITION. Config.lean: what an implementation fixes, and the free values: what the spec leaves open, as constants
without a body, so that nothing can evaluate them (notes/assumptions/2 and 3). -/

namespace Sys2Proof.Config

/-- Free 64-bit values, one for each reading of the model's counter `State.free`: the values the spec leaves open or
draws from a random generator (R424, R499, and the values named in notes/assumptions/3). -/
opaque freeValue : Nat → BitVec 64

/-- How far ANISO of a device lies from its exact value for the given moments: any of −1, 0, 1 in its last unit (R246);
the reading is taken modulo 3. -/
opaque anisoDev : Int → Int → Int → Nat

/-- The same for ANGLE (R246). -/
opaque angleDev : Int → Int → Int → Nat

/-- A feature of R246 whose divisor is 0, because a streak's segment was emitted and no run has come since (R244), by its
FSEL number. -/
opaque emptyFeature : Nat → Int

/-- The code lengths that ARC forms for its dynamic table from the counts of the 17 classes (R325): any lengths that meet
R323. Lengths that do not are not used (notes/assumptions/28). -/
opaque dynLengths : List Nat → List Nat

/-- The latency class, 0 CUE to 2 BULK, in which the OPEN of a member of a COMPONENT packet left (R258): R451 gives the packet
no field for it. -/
opaque memberClass : List (BitVec 64) → Nat

/-- How far the device's correlation coefficient of sample pairs lies from the exact one, rounded down to 2^-24: any of −1, 0,
1 in that unit; the reading is taken modulo 3 (R178 gives no precision, notes/assumptions/30). -/
opaque nccDev : List (Int × Int) → Nat

/-- The coefficient of sample pairs of which one side does not vary (R178), in units of 2^-24. -/
opaque nccFlat : List (Int × Int) → Int

/-- Which of `n` equal peaks R178 takes. -/
opaque peakTie : Nat → Nat

/-- The refinement of a peak whose parabola is flat (R178), in 1/64. -/
opaque flatPeak : Int → Int

/-- P of the left neighbour's last head, in whose columns the wing of seam 31 is counted (R194 names no register for it). -/
opaque nbrPixels : Nat

/-- The mounting distance of the left neighbour's last head in µm, which σ of seam 31 takes (R174; no register of this device
holds it). -/
opaque nbrMount : Nat

/-- STI_PITCH of the left neighbour, in which R195 moves its components (no register of this device holds it). -/
opaque nbrPitch : Nat

/-- The reading in 1/16 °C of a thermal sensor for a raw code when its two trims are equal, so that R514 divides by 0. -/
opaque flatTrim : Nat → Int

/-- The line rate in Hz that the image declares for a port (R92); no register of the spec holds it. -/
opaque declaredRate : Nat → Nat

/-- The blown fuse words of the device, by word number (R497). The spec leaves them to manufacture. DESIGN CHOICE
(notes/assumptions/4): a device as it leaves its maker, with a key hash, a serial number, sensor trims of 1,024 at 30 °C
and 2,304 at 110 °C, and the CRC word that R497 asks for over them. -/
def fusesAtReset : List (Nat × BitVec 32) :=
  [(0, 0x00000001), (18, 0x00000001)] ++ (List.range 24).map (fun i => (32 + i, 0x09000400)) ++ [(127, 0x4E07094D)]

/-- The stepping that GLB_ID reads (R2). -/
def stepping : Nat := 0x10

/-- Number of camera ports (spec/00, headline figures). -/
def nPorts : Nat := 16

/-- Number of heads, two for each port. -/
def nHeads : Nat := 32

/-- Number of serial lanes: 64 camera, 24 fabric, 16 host. -/
def nLanes : Nat := 104

end Sys2Proof.Config
end

