-- ==== Sys2Proof/Machine/PartsSys.lean ====
section
/-! DEFINITION. Machine/PartsSys.lean: the state of mode control, trust, events, counters, heat and the keep domain
(spec/16, spec/17, spec/18), and records (spec/02 R61 to R66). -/

namespace Sys2Proof.Machine

/-- The operating modes, with the codes of GLB_MODE (spec/00, R503). -/
inductive Mode where
  | load | rehearse | perform | hold | standby | dark
  deriving DecidableEq, Repr

/-- A record (R61). `src` is absent while the record has not left the device that formed it (R63); `words` holds word 1
and on; `self` lists the words (by their number in the record) and low bits of further 12-bit address fields that name the
device itself and are written at the same moment. -/
structure Record where
  src : Option FabAddr
  seq : Word
  cls : LClass
  typ : Nat
  words : List DWord
  self : List (Nat × Nat)
  deriving DecidableEq, Repr

/-- The gap reasons of R67. -/
inductive GapReason where
  | linkLoss | lineMalformed | densityOverflow | thermalShed | posUncertain | faultDiscard | supplyLoss | staleCal
  deriving DecidableEq, Repr

/-- A request to mode control (R503, R505). -/
inductive ModeReq where
  | hold | resume | standby | wake
  deriving DecidableEq, Repr

/-- A transition in progress (R504, R508): into HOLD, out of HOLD while a set-point change runs, out of STANDBY. -/
inductive Transition where
  | toHold (byRequest : Bool)
  | leaveHold (toStandby : Bool)
  | wakeUp
  deriving DecidableEq, Repr

/-- Mode control (R486, R502 to R510). The codes that GLB registers show have their home in the registers. -/
structure Glb where
  trans : Option Transition      -- a transition in progress (R504, R508)
  pend : Option ModeReq          -- the one request held pending (R505)
  powered : Bool                 -- false while RESET_N is held low (R485)
  rehFrom : Nat                  -- the rehearsal count with which REHEARSE began (R184)
  rehStrips : Nat                -- strips passed since REHEARSE began (R506)
  headDark : Nat                 -- heads that accepted a dark run in this rehearsal, bit h
  headGain : Nat                 -- heads that accepted a gain run in this rehearsal, bit h
  seamMet : Nat                  -- seams that have met the rehearsal (R184), bit s
  regDone : Nat                  -- seams that reached an acceptance under the return checks (R509), bit s
  posDone : Bool                 -- the POS return check is over (R509)
  posGapOpen : Nat               -- heads whose POS_UNCERTAIN GAP of R509 is open, bit h
  posGapLine : LineNo            -- the first line of those GAPs
  posGapY : YPos                 -- and its web position
  performFrom : LineNo           -- the first line cued in the running PERFORM (R506, R510)
  gapOwed : Nat                  -- heads that owe the GAP of R510, bit h
  gapFrom : List (LineNo × YPos × GapReason) -- per head, the first line and web position not inspected, and why (R510, R527)
  trainTries : Nat               -- failures of the current training set point (R495)
  discTries : Nat                -- discoveries of this LOAD that failed (R496)
  loadFrom : Nat                 -- model clock at which the running LOAD began (GLB_LOAD_TIME)
  modeAt : Nat                   -- model clock at which the present mode began (STBY_AFTER, R503)
  stallAt : Nat                  -- model clock at which LOAD stalled, or last tried the training again (R495)
  deriving DecidableEq, Repr

/-- The calibration summary (R528). -/
structure Calib where
  gen : Word
  stale : Word
  ofsOld : Word
  ports : List (DWord × BitVec 16 × Bool)                 -- serial, repair count, V
  temps : List (BitVec 16 × Bool)                          -- T_last of each head, V
  seams : List (BitVec 24 × BitVec 24 × BitVec 16 × BitVec 16 × BitVec 11 × BitVec 2) -- OFS SDEV YOFS SEAMCOL W STATE
  ranks : List Byte
  deriving DecidableEq, Repr

/-- The trust block (R488 to R501). -/
structure Sec where
  fuses : List (Nat × Word)      -- blown fuse words, canonical over 0 (R497)
  img : Option ImageRead         -- the image that passed pass 1
  nextSec : Nat                  -- next section of pass 2
  slot : Nat                     -- slot being tried
  slot0Blank : Bool
  fail0 : Nat                    -- reason of slot 0's failure, code of R486, 0 for none
  opkey : Option (List Byte)     -- operator public key, modulus and exponent (R490)
  calinit : Option Calib         -- the image's CALINIT, the last one that was applied (R490)
  imgDigest : BitVec 512         -- SHA-512 of the signed bytes (R501)
  attHeld : Bool                 -- a request waits for ID_READY (R500)
  attNonce : DWord               -- NONCE and AID of the running request
  attAid : Word
  deriving DecidableEq, Repr

/-- A clock-domain independent latch for one event channel (R470 to R474, R480). -/
structure Chan where
  seen : Nat                     -- firings of its producer already delivered or dropped (R471)
  recent : List Nat              -- delivery instants inside the guard's window (R480)
  deriving DecidableEq, Repr

/-- One event pin (R476, R477). -/
structure Pin where
  level : Bool                   -- accepted level
  out : Bool                     -- level driven as an output
  pulse : Bool                   -- a pulse is running
  since : Nat                    -- clock at which the accepted level became what it is (STUCK, R476)
  pulseAt : Nat                  -- clock at which the running pulse's width started (PW, R476)
  deriving DecidableEq, Repr

/-- One logic cell (R478). -/
structure Cell where
  toggle : Nat                   -- TOGGLE levels of the four inputs
  raw : Bool                     -- value of the table after the last evaluation
  filt : Bool                    -- filtered value
  ff : Bool                      -- flip-flop
  last : Bool                    -- value the edge detector saw in the cycle before
  pulses : Nat                   -- inputs whose task has fired in the running ECLK cycle
  cycle : Nat                    -- that ECLK cycle
  fired : Bool                   -- the producer has fired in it
  ins : Nat                      -- the four input values seen last, bit i for input i
  since : Nat                    -- the ECLK cycle in which they became so: the filter's span runs from it (R479)
  deriving DecidableEq, Repr

/-- Event routing (spec/16). -/
structure Evt where
  fired : List (Nat × Nat)       -- firings of each producer since reset, canonical over 0 (R468)
  chans : List Chan              -- 64 channels
  pins : List Pin                -- 16 pins
  cells : List Cell              -- 16 cells
  deriving DecidableEq, Repr

/-- The counters' window (R481, R483). -/
structure Pmc where
  cyc : Nat                      -- PIX cycles since reset, modulo 2^64
  cycFrac : Nat                  -- tenths of a PIX cycle carried by the model's clock (1.3 cycles for each TCLK cycle)
  ctrl : Word                    -- the setting in force, RUN with it (R483)
  win : Word                     -- the window length in force
  left : Nat                     -- PIX cycles left in the running window
  stopAt : Option Nat            -- the PIX cycle in which PMC_STOP fired last (R475)
  endAt : Option Nat             -- the PIX cycle in which a window ended last (R475)
  quads : List (Nat × Nat)       -- per quad (R19): lane-cycles of delivered lines still to pass, and those the front line has had
  deriving DecidableEq, Repr

/-- One die sensor (R515, R516, R518, R519). -/
structure Sensor where
  raw : Nat                      -- last raw code
  same : Nat                     -- samples for which the raw code has not changed
  nbrAtFirst : Option Int        -- sum and count folded to the neighbours' mean, 1/16 °C, at the first of them
  apart : Nat                    -- consecutive samples that disagree with the neighbours
  clean : Nat                    -- consecutive clean samples while broken
  cool : Nat                     -- consecutive samples below WARN - 15 °C
  above : List Nat               -- samples at or above, for WARN, THROTTLE, SHUTDOWN
  below : List Nat               -- samples below threshold - HYST, for WARN, THROTTLE, SHUTDOWN
  flags : List Bool              -- the three flags of R516
  cold : Nat                     -- consecutive samples below SHUTDOWN - 20 °C (R525)
  deriving DecidableEq, Repr

/-- One board sensor (R517). -/
structure Board where
  bad : Nat                      -- consecutive invalid samples
  above : Nat
  below : Nat
  warn : Bool
  deriving DecidableEq, Repr

/-- One rail (R536, PWR_RAILr). -/
structure Rail where
  outRun : Nat
  inRun : Nat
  deriving DecidableEq, Repr

/-- Heat (spec/18). -/
structure Thm where
  sensors : List Sensor          -- 24
  boards : List Board            -- 8
  rails : List Rail              -- 9
  fastAt : Nat                   -- model clock of the last fast round (R515)
  slowAt : Nat                   -- model clock of the last slow round (R515)
  stepAt : Nat                   -- model clock at which the throttle level changed, or its sources began or ceased to hold (R521)
  source : Bool                  -- a source held when it was last looked at (R521)
  deriving DecidableEq, Repr

/-- One callboard entry (R539). -/
structure CbEntry where
  word0 : DWord
  word1 : DWord
  deriving DecidableEq, Repr

/-- The position snapshot of the prompt book, words 0x0040 to 0x00A7 (R526). -/
structure PosSnap where
  c : BitVec 40
  p : BitVec 72
  h : BitVec 72
  q : BitVec 72
  line : LineNo
  zref : BitVec 40
  zv : Bool
  encs : List Nat
  deriving DecidableEq, Repr

/-- The prompt book (R526), held as what its words mean; `Book.word` in Machine/KeepOps.lean spells the words. -/
structure Book where
  written : Bool                 -- MAGIC and FMT are in place: the mirror has been set up at step 6 of a LOAD
  counter : Nat
  kind : Nat
  frozen : Bool
  tick : Tick
  pos : PosSnap
  seqs : List Word               -- CUE, ROUTINE, BULK
  oid : Oid
  settle : List (LineNo × YPos)
  rmap : Word
  mig : Nat
  migK : BitVec 40
  calib : Calib
  board : List CbEntry           -- the ring, at most 512 entries, index n modulo 512
  crc : Word                     -- CRC word of the last slot write
  deriving DecidableEq, Repr

/-- A save slot (R531): never written (all ones), written whole, or cut short. -/
inductive Slot where
  | erased
  | torn
  | whole (b : Book)
  deriving DecidableEq, Repr

/-- A group of mirror updates that waits for its close item (R529). -/
structure BookGroup where
  calib : Option Calib
  settle : Option (List (LineNo × YPos))
  closed : Bool
  deriving DecidableEq, Repr

/-- A slot write in progress (R531, R532). -/
structure SlotWrite where
  slot : Nat
  kind : Nat
  book : Book
  deriving DecidableEq, Repr

/-- The keep domain's typed part and PWR (spec/18). The keep-domain counters and SEC_DARK have their home in the
registers. -/
structure Pwr where
  mirror : Book
  mvalid : Bool
  slots : List Slot              -- 8
  idKey : Option (List Word)     -- sealed identity key: the public modulus words
  groups : List BookGroup        -- groups on their way into the mirror
  write : Option SlotWrite
  curtain : Bool                 -- the curtain is running (R533)
  curtainTrig : Nat              -- its trigger, UNIT of R539
  bothCauses : Bool              -- SHUTDOWN and a curtain trigger fell together (R534)
  step6 : Bool                   -- step 6 of LOAD has been reached since the last reset (R533)
  savedMirror : Bool             -- the newest slot already holds the frozen mirror (R533)
  restored : Option PosSnap      -- the position of the save that step 6 of this LOAD restored, taken at its end (R271)
  pfail : Bool                   -- PFAIL_N accepted low
  pg : Nat                       -- levels of PG3 to PG0
  vkeep : Nat                    -- mV
  ckptAt : Nat                   -- in REHEARSE, PERFORM and HOLD the model clock at which the running checkpoint period began (R532),
                                 -- in the other modes how much of it has passed
  healthAt : Nat                 -- the same of the HEALTH period (R540)
  deriving DecidableEq, Repr

end Sys2Proof.Machine
end

