-- ==== Sys2Proof/Machine/PartsIo.lean ====
section
/-! DEFINITION. Machine/PartsIo.lean: the state of host ports, management, network time and the fabric (spec/14,
spec/15), and what has left the device. -/

namespace Sys2Proof.Machine

/-- The time base (R431): seconds, nanoseconds, and 48 bits below (the 16-bit fraction and 32 hidden bits). -/
structure TimeBase where
  sec : BitVec 48
  ns : Nat
  sub : BitVec 48
  deriving DecidableEq, Repr

/-- TIM (spec/14 R431 to R439). -/
structure Tim where
  base : TimeBase
  latched : TimeBase             -- what TIM_NOW1 to TIM_NOW3 return (R432)
  lockRun : Nat                  -- consecutive offsets below LOCK_THR (R435)
  mpdValid : Bool                -- MPD holds a filtered sample
  lastOfs : Nat                  -- the model's clock when an offset was last accepted (R435)
  offsets : List Int             -- offsets on their way to the servo (R433)
  sync : Option PtpMsg           -- a two-step Sync that waits for its Follow_Up
  lastSync : Option (Tick × Tick) -- t1 (corrected) and t2 of the last complete Sync, for the delay sample
  delaySent : Option (BitVec 16 × Tick) -- sequence and departure of the outstanding delay request
  pdelayResp : Option PtpMsg     -- a two-step Pdelay_Resp that waits for its follow-up
  deriving DecidableEq, Repr

/-- A management request in the queue of 16 (R422, R429): where it came from and its words; `badLen` when the datagram
length does not match N. -/
structure MgmtReq where
  iface : Nat
  mac : BitVec 48
  ip : Word
  port : BitVec 16
  words : List DWord
  badLen : Bool
  deriving DecidableEq, Repr

/-- An open session (R424 to R426). -/
structure Session where
  id : BitVec 16
  ip : Word
  port : BitVec 16
  perm : DWord
  life : Nat
  lastRid : Option Word
  reply : List DWord
  openedAt : Nat                 -- the model's clock at its OPEN (R425)
  usedAt : Nat                   -- and at its last request
  deriving DecidableEq, Repr

/-- A nonce (R424). -/
structure Nonce where
  ip : Word
  port : BitVec 16
  value : DWord
  since : Nat                    -- the model's clock at its CHALLENGE
  deriving DecidableEq, Repr

/-- A received message that has passed the checks of R414 and waits to be answered. -/
inductive RxMsg where
  | arp (sha : BitVec 48) (spa : Word)
  | icmp (mac : BitVec 48) (ip : Word) (body : List Byte)
  deriving DecidableEq, Repr

/-- A timed-launch entry (R440): TIME, offset in the frame memory in bytes, length, sub-link and TSCAP. -/
structure CqEntry where
  time : Tick
  ofs : Nat
  len : Nat
  sub : Nat
  tscap : Bool
  deriving DecidableEq, Repr

/-- One interface (R408 to R421). -/
structure HostIf where
  ipId : BitVec 16               -- IPv4 identification (R412)
  icmpCount : Nat                -- echo requests answered in the current second (R421)
  icmpSince : Nat                -- start of that second, model clock
  lastCq : Bool                  -- the last frame came from a cue queue (R416)
  lastJob : Bool                 -- the last BULK frame came from the job-stream queue (R416)
  rx : List RxMsg
  tx : List (List Byte)          -- ARP, ICMP, management and PTP frames ready to leave (rank 3)
  downAt : Nat                   -- the model's clock when it last went down (R418)
  deriving DecidableEq, Repr

/-- HST (spec/14). -/
structure Hst where
  ifs : List HostIf              -- 16
  cueQ : List Record
  routineQ : List Record
  bulkQ : List Record
  jobQ : List Record
  jobWait : List Record          -- job-stream records that wait for room in the queue of 256 (R420)
  flushRoutine : Bool            -- FLUSH has run out for the ROUTINE frame (R417)
  flushBulk : Bool
  flushJob : Bool
  dseq : List Word               -- per class (R413)
  mq : List MgmtReq              -- the queue of 16 (R429)
  sessions : List (Option Session) -- 4
  sessCount : BitVec 16          -- the counter of R424
  nonces : List Nonce
  opens : List MgmtReq           -- OPENs under verification (R424)
  cq : List (List CqEntry)       -- 4 cue queues of 64 (R440)
  cqDue : List Bool              -- the head of queue k has reached its time and waits to leave (R441)
  cqLate : List Bool             -- the head was past its time when it reached the head (R442)
  deriving DecidableEq, Repr

/-- Fabric port states (R453), with the codes of FAB_PSTATf.STATE. -/
inductive FabSt where
  | off | link | hello | up | low
  deriving DecidableEq, Repr

/-- What a packet carries while it waits to leave: words, or a record whose SRC is written at departure (R63). -/
inductive Body where
  | words (ws : List DWord)
  | record (r : Record)
  deriving DecidableEq, Repr

/-- A packet in an output queue. -/
structure OutPkt where
  dst : FabAddr
  vc : Nat
  ptype : Nat
  body : Body
  deriving DecidableEq, Repr

/-- A packet in the replay buffer (R450). -/
structure Sent where
  lseq : BitVec 13
  pkt : Packet
  resent : Nat
  deriving DecidableEq, Repr

/-- What a neighbour's last HELLO said (R454, R455). -/
structure Hello where
  hops : Nat
  root : DWord
  serial : DWord
  addr : FabAddr
  port : Nat
  parent : Bool
  deriving DecidableEq, Repr

/-- A REPORT as a device holds it (R454, R455). -/
structure Report where
  serial : DWord
  addr : FabAddr                 -- the sender's address, 0 when it has none
  sinkEl : Bool
  x0 : BitVec 40
  nbrs : List DWord
  deriving DecidableEq, Repr

/-- A device entry of the map (R454); the serial is known from the ASSIGN that gave the address. -/
structure MapDev where
  addr : FabAddr
  sinkEl : Bool
  x0 : BitVec 40
  deriving DecidableEq, Repr

/-- A link entry of the map (R454). -/
structure MapLink where
  a : FabAddr
  pa : Nat
  b : FabAddr
  pb : Nat
  deriving DecidableEq, Repr

/-- One fabric port (R450, R453). -/
structure FabPort where
  outq : List (List OutPkt)      -- one queue for each VC
  lastJob : Bool                 -- the previous packet of VC 4 was a JOB packet (R449)
  credits : List Nat             -- credits held, per VC
  replay : List Sent             -- unacknowledged packets, oldest first
  lseq : BitVec 13               -- LSEQ of the next packet
  expect : BitVec 13             -- next LSEQ expected
  naked : Bool                   -- a NAK is out and the expected packet has not come
  unacked : Nat                  -- packets received in order since the last ACK sent
  replays : Nat                  -- replays since a new packet was acknowledged
  rx : List Packet               -- received packets for this device, oldest first
  lstates : Nat                  -- LSTATE blocks received in HELLO
  hello : Option Hello
  t1 : Tick                      -- times of the exchange with the tree parent (R463)
  t2 : Tick
  t3 : Tick
  tseq : BitVec 6
  ackAt : Nat                    -- the model's clock from which 1 µs without an ACK counts (R450)
  deriving DecidableEq, Repr

/-- FAB (spec/15). -/
structure Fab where
  ports : List FabPort           -- 6
  bestRoot : DWord
  hops : Nat
  parent : Option Nat            -- parent port of the election
  settled : Bool
  reports : List Report          -- reports held by the root, or relayed
  serials : List (DWord × FabAddr) -- addresses by serial, from the ASSIGNs
  devs : List MapDev
  links : List MapLink
  rootAddr : FabAddr
  seen : List (FabAddr × Nat)    -- flood keys already forwarded (R455)
  floodSeq : BitVec 16           -- this device's next flood sequence
  treePort : Option Nat          -- port to the tree parent (R457)
  treePath : List FabAddr        -- tree path to the root, to tell whether it changed (R459)
  syncSeq : BitVec 6
  electAt : Nat                  -- the model's clock when the best root or HOPS last changed (R455)
  wake : Bool                    -- the accepted level of FAB_WAKE (R446)
  deriving DecidableEq, Repr

/-- The PTP messages that the device sends (R437). -/
inductive PtpKind where
  | delayReq | pdelayReq | pdelayResp | pdelayRespFollowUp
  deriving DecidableEq, Repr

/-- What leaves the device, in order. The list of State.wire only grows: it is the model's record of the outputs the
spec describes, and no input of any meaning (notes/assumptions/5). -/
inductive Emission where
  | camBlock (port : Nat) (typ : Nat) (payload : Nat)        -- a back-channel block (R82 to R85, R91)
  | fabPacket (port : Nat) (lseq : BitVec 13) (p : Packet)   -- SOP, data and EOP (R447)
  | fabAck (port : Nat) (lseq : BitVec 13) (nak : Bool)
  | fabCredit (port : Nat) (vc : Nat) (n : Nat)
  | fabLstate (port : Nat) (addr : FabAddr)
  | fabTime (port : Nat) (kind : Nat) (seq : BitVec 6) (t : BitVec 48)
  | laneBlock (lane : Nat) (typ : Nat) (payload : Nat)       -- KEEP and WAKE (R401)
  | fabWake                                                  -- FAB_WAKE driven for 10 µs (R446)
  | hostFrame (iface : Nat) (bytes : List Byte)              -- the frame before its FCS
  | ptpMessage (iface : Nat) (kind : PtpKind) (seq : BitVec 16) (stamp : Tick) (corr : Int)
  | eventPin (pin : Nat) (level : Bool)
  | qout (k : Nat) (pos : Nat) (z : Bool)                    -- a step of an emulated output (R289)
  | markLine (port : Nat) (sd : List (List Bool))            -- a line's dot data: SD0 to SD7, bits in the order shifted (R294)
  | markPin (port : Nat) (latch strobe : Bool)
  | dramCommand (sc : Nat) (what : Nat) (addr : Nat)         -- a command of a DRAM slot (R366)
  deriving DecidableEq, Repr

/-- What a lane holds beside its registers (spec/13): the rate it runs at, its equaliser settings, the validity of the
last blocks (R76, R401), and the running bit-error window. -/
structure Lane where
  eighth : Bool
  ctle : Nat
  gain : Nat
  dfe : List Byte                -- taps 1 to 10
  blocks : List Bool             -- validity of the last 64 blocks, oldest first
  window : Bool                  -- a bit-error window runs (R406)
  marker : Option (Nat × Nat)    -- sequence and block position of the last ALIGN (R74)
  missed : Nat                   -- ALIGN blocks missed in a row (R76)
  lostAt : Nat                   -- clock, plus 1, of the last entry into retraining (R395)
  stepAt : Nat                   -- clock, plus 1, of the last step of background adaptation (R398)
  deriving DecidableEq, Repr

/-- LNE (spec/13). -/
structure Lne where
  lanes : List Lane              -- 104
  refBad : List Nat              -- consecutive bad windows of REFCLK_CAM and REFCLK_HOST (R391)
  refGood : List Nat             -- consecutive good windows
  deriving DecidableEq, Repr

/-- A line tag (R14), with the revolution counters that OBJ keeps beside it (R252). -/
structure Tag where
  line : LineNo
  y : YPos
  yNext : YPos                   -- the cue point that follows it on the grid, rounded (R100)
  phases : List Phase            -- ENC1 to ENC7
  rflt : Nat                     -- roller fault flags, bit r-1
  revs : List (BitVec 16)        -- revolution counters of ENC1 to ENC7
  deriving DecidableEq, Repr

/-- One encoder channel (R266 to R269, R281 to R283). -/
structure EncCh where
  a : Bool                       -- filtered levels (R266)
  b : Bool
  z : Bool
  illegal : List Nat             -- sample times of the latest illegal transitions, newest first
  wires : Nat                    -- pairs in wire fault: bit 0 A, 1 B, 2 Z
  count : Nat                    -- roller count modulo CPR
  tz : Option Nat                -- time of the last accepted index, model clock
  period : Option Nat            -- the last valid period T
  good : Nat                     -- consecutive accepted indexes with a valid interval
  late : Bool                    -- R283: the index is overdue
  dirty : Nat                    -- sample time of the last illegal transition or end of a wire fault (R273, R283)
  deriving DecidableEq, Repr

/-- One emulated output (R289 to R292). -/
structure Emu where
  acc : Int
  owed : Int
  pos : Int                      -- output position
  lastStep : Option Nat          -- model clock of the last step
  mono : Bool                    -- POS_EMU_CTLk.MONO and ZDIV as the last input count took them
  zdiv : Nat
  deriving DecidableEq, Repr

/-- A POS_UNCERTAIN span after skipped cue points (R278). -/
structure SkipSpan where
  l0 : LineNo
  y0 : YPos
  l1 : LineNo
  y1 : YPos
  deriving DecidableEq, Repr

/-- POS (spec/09). -/
structure Pos where
  c : BitVec 40
  p : BitVec 72
  h : BitVec 72
  q : BitVec 72
  nextLine : LineNo
  zref : BitVec 40
  zv : Bool                      -- a Z has set ZREF0 since LOAD (R274)
  chans : List EncCh             -- ENC0 to ENC7
  emus : List Emu                -- 2
  lastCue : Option Nat           -- model clock of the last cue (R277)
  lastCueY : YPos                -- Ycue of the last cue
  skipped : Bool                 -- a cue point was skipped since the last cue
  skip : Option SkipSpan         -- the open span of R278
  unc : Option (LineNo × YPos)   -- first line cued since the entry of the fault, once there is one (R273)
  uncEnding : Bool               -- the fault has ended; the span closes before the next strip boundary
  faultLine : Bool               -- an encoder fault has begun and no line has been cued since
  clean : Bool                   -- 65,536 clean samples have passed since the fault (R273)
  revRaised : Bool               -- REVERSE has been raised for this reversal (R279)
  lastCount : Option Nat         -- sample time of the last count
  lastDir : Bool                 -- its direction, true for backward
  tp : Option Nat                -- T_p of R285, samples
  recent : List (Nat × Bool)     -- counts of the window of v_w: sample time and direction
  tags : List Tag                -- the newest 1,024 tags, newest first
  firstTag : Option Tag          -- tag of the first cue after LOAD (R156)
  zAfterWake : Bool              -- an ENC0 Z has come since the wake (R509)
  deriving DecidableEq, Repr

end Sys2Proof.Machine
end

