-- ==== Sys2Proof/Machine/PartsLine.lean ====
section
/-! DEFINITION. Machine/PartsLine.lean: the state of the camera ports, of correction and of the along-web filter
(spec/03, spec/04, spec/05), and GAP records that are open (R100). -/

namespace Sys2Proof.Machine

/-- A GAP record that is open: consecutive lines of one head with one reason (R100). `src` tells the block whose record it
is: 0 the camera port, 1 AWF (R164), 2 SEG (R206, R228). -/
structure OpenGap where
  head : Nat
  reason : GapReason
  src : Nat
  l0 : LineNo
  y0 : YPos
  l1 : LineNo
  y1 : YPos
  deriving DecidableEq, Repr

/-- A line as the port hands it on (R95 to R99): `pixels` holds PIXh raw values; columns at or beyond `valid` are INVALID
(padded), and a replaced line is INVALID throughout. -/
structure RawLine where
  line : LineNo
  start : Tick
  sid : Nat
  known : Bool
  mrow : Nat
  pixels : List Nat
  valid : Nat
  replaced : Bool
  deriving DecidableEq, Repr

/-- What a port keeps of one of its heads. CAM_LAST_LINE is in the registers. -/
structure CamHead where
  prev : Option (List Nat)       -- the previous line's pixels; none after LOAD and after a fault (R97)
  eoeOfs : Nat                   -- EOE_OFS of the last well-formed line since RUN, 0 for none (R81)
  first : LineNo                 -- the first line not delivered to the pixel engine (R102)
  linkLoss : Option (LineNo × YPos) -- where the LINK_LOSS GAP of R102 starts, until the port enters RUN again
  lossBefore : Option (LineNo × LineNo) -- first line of the last LINK_LOSS GAP, and the line at which it ended (R510)
  echoed : Bool                  -- the head has echoed the newest SID in time (R88)
  missing : List LineNo          -- lines that an ERR block has named and whose turn has not come (R94)
  deriving DecidableEq, Repr

/-- A CUE block that has been launched (R81, R88). -/
structure Launch where
  line : LineNo
  time : Tick
  sid : Nat
  at_ : Nat                      -- the model's clock at the launch (R99)
  deriving DecidableEq, Repr

/-- A block that waits for a slot of the back-channel (R82, R83): a SET block or a DREQ, and the SID that it commits
(R85). -/
structure BackBlock where
  typ : Nat
  payload : Nat
  commit : Option Nat
  deriving DecidableEq, Repr

/-- One camera port (spec/03). Registers hold its state code, SID, counters and descriptor. -/
structure CamPort where
  heads : List CamHead           -- 2
  fifo : List (Nat × RawLine)    -- the 8-line FIFO: head index and line, oldest first (R18, R20)
  cueQ : List LineNo             -- cue words that have not been launched
  launches : List Launch         -- newest first
  sids : List Nat                -- the last 4 SIDs committed, newest first (R89)
  setCue : Option LineNo         -- the first cue that carried the newest SID (R88)
  setTmo : Bool                  -- the settings timeout has been raised for it
  descNext : Nat                 -- next descriptor index, 0 before an answer (R91)
  desc : List Nat                -- payloads of the answer so far
  attempts : Nat                 -- attempts that have failed
  prehStrips : Nat               -- boundaries of head 0 at COR since the per-camera rehearsal began (R106)
  prehFrom : Nat                 -- the rehearsal count with which it began (R184)
  prehFf : Nat                   -- heads whose gain run it has accepted, bit j
  prehSeams : Nat                -- seams that have met it (R184), bit k
  swap : Nat                     -- heads that wait for the boundary of R107, bit j
  runAt : LineNo                 -- the line at which the port entered RUN (R98)
  resend : Bool                  -- the committed set is to be sent again at READY (R508)
  backQ : List BackBlock         -- blocks that wait for a slot, SET before DREQ (R83)
  slotAt : Nat                   -- the clock up to which the back-channel's slots have been used
  deriving DecidableEq, Repr

/-- A pixel after step 8 (R39, R40): intensity in `v0` for a mono head, or R, G and B; `dev` is the deviation that SEG
writes into a mono pixel (R207). -/
structure Pix where
  v0 : Nat
  v1 : Nat
  v2 : Nat
  inv : Bool
  repl : Bool
  clip : Bool
  stale : Bool
  dev : Int
  deriving DecidableEq, Repr

/-- A line inside COR, after step 5 (R111). -/
structure CorLine where
  raw : RawLine
  inv : List Bool
  repl : List Bool
  full : List Bool               -- the raw value was at full scale (R119)
  r16 : List Int                 -- step 1, as an integer (dark acquisitions, R134)
  v4 : List Int                  -- step 4, Q22.18
  v5 : List Int                  -- step 5, Q22.18
  stale : Bool
  blank : Bool                   -- packed with all pixels INVALID (R139)
  bal : List Nat                 -- the balances of step 7 that were working when it entered, R, G, B; empty with BAL_EN = 0
  deriving DecidableEq, Repr

/-- A statistics span (R129). -/
structure Span where
  sid : Nat
  first : LineNo
  last : LineNo
  lines : Nat
  start : Tick
  pixels : Nat
  bins : List Nat                -- 256
  sums : List Nat                -- intensity, or R, G and B
  deriving DecidableEq, Repr

/-- What triggered a flat-field run (R106, R142, R506). -/
inductive FfTrigger where
  | rehearsal | temperature | camera
  deriving DecidableEq, Repr

/-- A flat-field or dark run of one head (R134 to R143). The state code is in COR_FF_STATE; `done` marks a second window
that has ended and is not yet judged. -/
structure FfRun where
  dark : Bool
  tol : Word                     -- COR_FF_TOL as the run started (R145)
  pause : Nat                    -- COR_FF_CFG.RETRY as the run started (R145)
  trigger : FfTrigger
  win : Nat                      -- the window's length: strips, or lines of a dark window (R145)
  left : Nat                     -- what is left of the running window
  lines : Nat                    -- lines of the running window
  sums : List Int                -- per column
  cnts : List Nat
  one : List (Option Int)        -- first acquisition: o or s per column, none for a column that takes no part
  done : Bool
  res : List (Option Int)        -- second acquisition, then the accepted values
  deriving DecidableEq, Repr

/-- COR for one head. -/
structure CorHead where
  last : List CorLine            -- the lines that entered last, newest first, at most 3
  held : Bool                    -- the newest of them waits for its look-ahead (R123)
  span : Option Span             -- the open span
  cur : List Span                -- spans of the running strip that have closed
  strip : List Span              -- spans of the strip closed last, for the exposure loop (R132)
  closed : Nat                   -- strips closed (R132)
  run : Option FfRun
  armed : Option FfTrigger       -- a trigger that waits for the boundary
  retry : Option Nat             -- R138: strips still to pass before the next run
  tLast : Option Int             -- T_last (R142)
  writing : Bool                 -- the table write of R139 is running
  turn : Bool                    -- the head has entered a strip whose predecessor still holds a line (R22, R123)
  deriving DecidableEq, Repr

/-- The exposure controller of one port (R132, R133). The committed SID and its exposure are in COR_EXP_STATE. -/
structure CorPort where
  exps : List (Nat × Nat)        -- exposure of the SIDs committed last, newest first
  echoed : List (List Nat)       -- per head, the SIDs it has echoed, newest first
  ran : Nat                      -- strips closed when the controller last ran
  darkSid : Option Nat           -- the SID under which dark lines are taken (R134)
  started : Bool                 -- the initial set has been sent since LOAD
  deriving DecidableEq, Repr

/-- COR (spec/04). -/
structure Cor where
  heads : List CorHead           -- 32
  ports : List CorPort           -- 16
  deriving DecidableEq, Repr

/-- A line that has entered AWF, with what R164 and R149 need of it. -/
structure AwfLine where
  line : LineNo
  start : Tick
  px : List Pix
  malf : Bool                    -- named by a LINE_MALFORMED GAP (R100)
  stale : Bool                   -- named by a STALE_CAL GAP (R105)
  deriving DecidableEq, Repr

/-- AWF for one head; the working pair is in AWF_HEAD_STATE. -/
structure AwfHead where
  hist : List AwfLine            -- newest first, at most 34 lines (R151)
  restart : Option LineNo        -- R161: the line of the last restart
  fresh : Bool                   -- the next line is the first after LOAD or after RUN entry (R161)
  shed : Bool                    -- the ratio is doubled by throttle step 5 (R522)
  deriving DecidableEq, Repr

/-- An output line of AWF (R147 to R157). -/
structure OutLine where
  line : LineNo
  last : LineNo                  -- the newest input line of its block
  start : Tick
  y : YPos                       -- Y_tag, before the mounting distance (R155)
  phases : List Phase
  rflt : Nat
  revs : List (BitVec 16)
  colour : Bool
  px : List Pix
  deriving DecidableEq, Repr

end Sys2Proof.Machine
end

