-- ==== Sys2Proof/Machine/PartsObj.lean ====
section
/-! DEFINITION. Machine/PartsObj.lean: the state of segmentation and of defect objects (spec/07, spec/08, and the
components of spec/06). -/

namespace Sys2Proof.Machine

/-- What an output line brings to its runs: its number, the newest input line of its block, web position, start instant,
phases, fault flags and revolutions (R155, R252). -/
structure LineInfo where
  head : Nat
  line : LineNo
  last : LineNo
  y : YPos
  start : Tick
  phases : List Phase
  rflt : Nat
  revs : List (BitVec 16)
  ord : Nat                      -- its place in the count of the head's output lines (R215, R236)
  deriving DecidableEq, Repr

/-- A run (R213), with its mapped ends (R168), the seams whose contact band it touches (R185) and the sums of R236. -/
structure Run where
  info : LineInfo
  a : Nat
  b : Nat
  mask : Nat
  clip : Bool
  stale : Bool
  x1 : BitVec 40
  x2 : BitVec 40
  touch : List (Nat × Bool)      -- seam and side (true for the left member); seam 32 is the right neighbour's
  isum : Nat
  imin : Nat
  imax : Nat
  rsum : Nat
  gsum : Nat
  bsum : Nat
  deriving DecidableEq, Repr

/-- An entry of the run FIFO (R213, R214, R224). -/
inductive FifoEntry where
  | run (r : Run)
  | marker (i : LineInfo)
  | ovf (i : LineInfo) (cause : Nat) -- an overflow marker, with the causes that held (R222, R228)
  deriving DecidableEq, Repr

/-- A label table entry (R216). -/
structure Label where
  head : Nat
  line : LineNo
  ord : Nat
  a : Nat
  b : Nat
  oid : Oid
  home : Oid                     -- the object whose context it was made under (R218)
  deriving DecidableEq, Repr

/-- A cluster aggregate of one strip (R225). `direct` marks runs that came under R223. -/
structure Agg where
  strip : LineNo
  pixels : Nat
  runs : Nat
  xmin : BitVec 40
  xmax : BitVec 40
  first : LineInfo
  last : LineInfo
  mask : Nat
  direct : Bool
  deriving DecidableEq, Repr

/-- SEG for one head. The overflow and warm-up bits are in SEG_OVF_STATE and SEG_WARM_STATE. -/
structure SegHead where
  fresh : Bool                   -- the next output line is an initialising line (R205)
  q : Option LineNo              -- initialising line of the warm-up span that runs (R206)
  edge : Option (LineNo × Nat)   -- the newest input line of the newest output line, and that output line's place
  fifoArm : Bool                 -- the next run extracted is an overflow point (R224)
  fifoCause : Nat                -- the causes that held with it (R228)
  lblArm : Bool                  -- the next run that the engine takes is one
  lblCause : Nat
  lblLine : Option LineNo        -- the boundary line that the engine has crossed last
  aggs : List Agg
  lastInfo : Option LineInfo     -- the last output line that OBJ has applied (R220)
  deriving DecidableEq, Repr

/-- The accumulators of R236 with the anchor of R235. -/
structure Acc where
  ancX : BitVec 40
  ancY : YPos
  anchored : Bool
  area : Nat
  sx : Int
  sy : Int
  sxx : Nat
  syy : Nat
  sxy : Int
  isum : Nat
  imin : Nat
  imax : Nat
  rsum : Nat
  gsum : Nat
  bsum : Nat
  brun : Nat
  xmin : BitVec 40
  xmax : BitVec 40
  ymin : YPos
  ymax : YPos
  mask : Nat
  sat : Nat                      -- sums that have saturated (R238), a bit each, in the order of `Acc.limit`
  deriving DecidableEq, Repr

/-- A contact interval of an object at a seam (R185). -/
structure Contact where
  seam : Nat
  left : Bool
  y1 : YPos
  y2 : YPos
  deriving DecidableEq, Repr

/-- An entry of the member list of a CLOSE (R256); `src` is absent for this device. -/
structure Join where
  src : Option FabAddr
  head : Nat
  opened : Bool
  oid : Oid
  deriving DecidableEq, Repr

/-- Where an object is in its life: open, queued for closing, or seam-pending (R188). -/
inductive ObjSt where
  | live | queued | pending
  deriving DecidableEq, Repr

/-- An object (R233 to R244), or a component received from the left neighbour (R194). -/
structure Obj where
  src : Option FabAddr
  oid : Oid
  st : ObjSt
  info : LineInfo                -- of its first output line
  last : LineNo
  lastOrd : Nat                  -- the place of LAST in the count of the head's output lines
  segStart : Option Tick         -- start instant of the running segment's first line
  acc : Acc
  flags : Nat                    -- bits of R259 that the object carries
  opened : Bool                  -- it, or an object joined into it, was opened (R239)
  sent : Bool                    -- an OPEN was sent for its own OID (NOOPEN, R259)
  low : Option LClass            -- the lowest class among the OPENs of the objects in it (R258)
  marked : Bool                  -- a mark request has been sent (R251)
  segs : Nat                     -- segments emitted
  cuts : Nat                     -- segments ended (R244)
  idle : Nat
  cur : List (Nat × Nat)         -- runs of the line being applied
  prev : List (Nat × Nat)        -- runs of the line before, while they wait for the third term of R237
  joins : List Join
  njoin : Nat
  contacts : List Contact
  deriving DecidableEq, Repr

/-- An absorbed context that waits for its last entry to retire (R218). -/
structure Absorbed where
  head : Nat
  oid : Oid
  deriving DecidableEq, Repr

/-- A component of seam-pending objects (R187). -/
structure Comp where
  members : List Obj
  limit : Bool
  deriving DecidableEq, Repr

/-- A mark request (R251). -/
structure MarkReq where
  src : Option FabAddr
  oid : Oid
  cls : Nat
  cue : Bool
  xmin : BitVec 40
  xmax : BitVec 40
  ymin : YPos
  ymax : YPos
  deriving DecidableEq, Repr

/-- A snippet request (R250) or another rectangle of the archive. -/
structure SnipReq where
  src : Option FabAddr
  oid : Oid
  cls : Nat
  xlo : BitVec 40
  xhi : BitVec 40
  ylo : YPos
  yhi : YPos
  deriving DecidableEq, Repr

/-- SEG and OBJ (spec/07, spec/08). The background model and the histograms have their home in the table windows. -/
structure Seg where
  heads : List SegHead           -- 32
  fifo : List FifoEntry
  labels : List Label
  objs : List Obj                -- allocated contexts, in order of allocation
  absorbed : List Absorbed
  comps : List Comp
  minFresh : Bool                -- OBJ_CTX_STATUS.MINFREE has been cleared by a read (R43)
  closeQ : List Oid              -- closings queued (R248)
  budget : List (Nat × Nat)      -- CUE openings of the newest windows (R241)
  markQ : List MarkReq
  snipQ : List SnipReq
  deriving DecidableEq, Repr

end Sys2Proof.Machine
end

