-- ==== Sys2Proof/Machine/PartsMem.lean ====
section
/-! DEFINITION. Machine/PartsMem.lean: the state of the archive, of the DMA engine and of the memory controller
(spec/11, spec/12). -/

namespace Sys2Proof.Machine

/-- How an access to memory ends when it does not end well (R53, R376, R378, R379, R353). -/
inductive MemErr where
  | decode | ue | poison | migr | timeout | align
  deriving DecidableEq, Repr

/-- Whose access to DRAM it is (R363). -/
inductive TxOwner where
  | arcBlock (head : Nat) (row : LineNo) (line : LineNo) (again : Bool) -- a block of a row, and whether it is its second write (R331)
  | arcIndex (head : Nat)                                  -- a strip index entry (R317)
  | arcContext (n : Nat)                                   -- a context saved or restored (R336)
  | wingWrite (seam line : Nat)                            -- a line of a delay ring (R175)
  | wingRead (seam line : Nat)
  | jobRead (block : Nat)                                  -- a block that the running job decodes (R334)
  | dmaRead (chan beat : Nat)                              -- a source beat (R348)
  | dmaWrite (chan beat entry : Nat)                       -- a destination beat
  | dmaList (chan : Nat) (source : Bool)                   -- a list entry fetch (R347)
  | dropped                                                -- its response is discarded when it comes (R353)
  deriving DecidableEq, Repr

/-- One access as its requester made it; it is served in pieces of one 64-byte line each. -/
structure MemOp where
  id : Nat
  owner : TxOwner
  port : Nat
  write : Bool
  addr : Nat
  data : List Byte               -- what is written, or what has been read
  left : Nat                     -- pieces that have not ended
  err : Option MemErr            -- the first error
  bad : List (Nat × Nat × MemErr) -- pieces in error: offset, length, error
  birth : Nat                    -- model clock of the request
  deriving DecidableEq, Repr

/-- One piece of an access, within one 64-byte line. -/
structure MemTx where
  op : Nat
  port : Nat
  write : Bool
  addr : Nat
  len : Nat
  birth : Nat
  crc : Nat                      -- write CRC failures so far (R375)
  deriving DecidableEq, Repr

/-- What the controller keeps of one rank. Its band, its debt and its in-service bit are in the registers. -/
structure MemRank where
  ce : Nat                       -- corrected errors in the running second (R374)
  ceSince : Nat                  -- model clock at which that second began
  limited : Bool                 -- CE_LIM has been raised in it
  selfRef : Bool                 -- in self-refresh (R372)
  failed : Bool                  -- it has failed (R376); a later uncorrectable read of it ends alone (R377, R381)
  deriving DecidableEq, Repr

/-- MEM (spec/12). -/
structure Mem where
  waiting : List MemTx           -- pieces that have not been issued, oldest first
  issued : List MemTx            -- pieces whose column command has been issued, oldest first
  ops : List MemOp               -- accesses that have not ended
  done : List MemOp              -- accesses that have ended and are not yet answered to their requester
  nextOp : Nat
  rows : List (Nat × Nat)        -- open row of each bank: 32 × rank + bank
  ranks : List MemRank           -- 16
  poison : List Nat              -- poisoned lines, physical address divided by 64 (R379)
  migForce : Bool                -- the page has waited FLOOR (R367)
  migPaused : Bool               -- STANDBY has paused the copy (R381)
  spareUsed : Bool               -- the understudy has failed or has been used (R377)
  change : Option (Nat × Nat)    -- a set-point change in progress: target, and the first access it does not grant
  held : Option Nat              -- the request held during it (R384)
  trainRank : Nat                -- the rank whose turn is next (R383)
  slice : Option (Nat × Bool)    -- a training step in progress: rank, and whether its slice is forced
  resetN : Bool                  -- the DDRc_RESET_N pins, low until step 7 of LOAD (R558)
  stamps : List (Nat × Nat)      -- clock, plus 1, of the last command at 8 × (32 × rank + bank) + kind, canonical over 0
  acts : List (Nat × Nat)        -- rank and stamp of the last activates, newest first, four of each rank
  deriving DecidableEq, Repr

/-- A row of the archive (R314 to R317). -/
structure ArcRow where
  strip : LineNo                 -- STRIP_LINE
  refresh : Bool
  badRow : Bool
  dyn : Option (List Nat)        -- the dynamic table's 17 code lengths (R325)
  rcode : Nat
  dcode : Nat
  lines : Nat
  y0 : YPos
  t0 : Tick
  ownLo : Nat
  ownHi : Nat
  xlo : BitVec 40
  xhi : BitVec 40
  bad : Nat
  overs : Nat
  badLine : Nat
  badBlk : Nat
  ended : Bool                   -- no more lines; the entry is written with V = 1 when its blocks have returned
  deriving DecidableEq, Repr

/-- A line in a head's encoder: its blocks from `next` on have not been coded (R330). -/
structure ArcPend where
  strip : LineNo                 -- its row
  out : OutLine
  next : Nat
  intra : Bool
  faults : List (Nat × Bool)     -- what the verifier finds, by block (R329)
  deriving DecidableEq, Repr

/-- The archive of one head. The stream context is in the table window (R336). -/
structure ArcHead where
  rows : List ArcRow             -- rows that are open, oldest first; the last one may still take lines
  counts : Option (List Nat)     -- classes counted in the running row (R325); none before a row
  intra : Bool                   -- the next line's blocks are INTRA (R328)
  sameRun : Bool                 -- the last row was written in the same run of the port (R325)
  lastBad : Bool                 -- and it is BADROW
  starts : List (LineNo × Nat × LineNo × Tick) -- archived lines: STRIP_LINE, line of the row, output line, start instant
  front : List (LineNo × Nat)    -- lines handed to MEM: output line and blocks that have not returned, oldest first
  pend : List ArcPend            -- lines of which the encoder has not coded every block, oldest first (R330)
  done : LineNo                  -- the newest row that is complete (R340)
  doneAny : Bool
  deriving DecidableEq, Repr

/-- A job (R337 to R340). -/
structure ArcJob where
  strip : Bool                   -- a strip image
  job : Word
  cls : Nat
  src : Option FabAddr
  oid : Oid
  xlo : BitVec 40
  xhi : BitVec 40
  ylo : YPos                     -- STRIP_LINE for a strip image
  yhi : YPos
  deriving DecidableEq, Repr

/-- One tile of a job: head, selected columns, and for each row of the job the line it takes (R338, R340). -/
structure Tile where
  head : Nat
  cols : List Nat
  xs : List (BitVec 40)          -- X of the first and of the last selected column
  lines : List (Option (LineNo × Nat)) -- STRIP_LINE and line of the row
  deriving DecidableEq, Repr

/-- One block that a job needs: tile, row and line of the row, block column, the row's ratio and table, and its bytes once
they have been read. -/
structure JobBlock where
  tile : Nat
  strip : LineNo
  line : Nat
  col : Nat
  rcode : Nat
  dyn : Option (List Nat)
  data : Option (List Byte)
  err : Bool
  deriving DecidableEq, Repr

/-- The running job (R339, R341). -/
structure ArcRun where
  job : ArcJob
  partialJob : Bool
  tiles : List Tile
  y0 : YPos
  yend : YPos                    -- the last row's Y
  rows : Nat
  pitch : Nat                    -- ROWPITCH
  t0 : Tick
  step : Nat
  badRows : Bool                 -- BADROW rows met
  blocks : List JobBlock
  resumed : List Nat             -- tiles that go on from the line in their decoder context (R336)
  deriving DecidableEq, Repr

/-- What a decoder context holds of a strip-image stream (R336): the tile's head, the line last decoded, and its block
columns. -/
structure StreamCtx where
  head : Nat
  strip : LineNo
  line : Nat
  cols : List Nat
  deriving DecidableEq, Repr

/-- ARC (spec/11). -/
structure Arc where
  heads : List ArcHead           -- 32
  hostQ : List ArcJob            -- at most 16
  stripQ : List ArcJob           -- periodic strip images that wait
  lastHost : Bool                -- the last job came from the host queue (R337)
  run : Option ArcRun
  werr : List MemOp              -- block writes that have ended in error (R331)
  stripDone : List LineNo        -- strips already queued by R340
  stream : List StreamCtx        -- the strip-image stream, by tile; its contexts are in the window or saved
  saved : List Nat               -- its tiles of which the context is saved in DRAM (R336)
  deriving DecidableEq, Repr

/-- A list entry of a transfer (R347). -/
structure DmaEntry where
  idx : Nat
  addr : Nat
  len : Nat
  left : Nat                     -- bytes not yet issued
  out : Nat                      -- beats whose response has not returned
  bad : Option Nat               -- the kind of the error that made it bad, logged and counted (R351)
  stop : Bool                    -- nothing more of it is issued: a source supplies zeros, a destination consumes
  deriving DecidableEq, Repr

/-- A byte in the holding register: its value and, when its source entry is bad, the kind of the error (R351). -/
structure HeldByte where
  value : Byte
  bad : Option Nat
  deriving DecidableEq, Repr

/-- One side of a running transfer. -/
structure DmaSide where
  next : Nat                     -- address of the next list entry to fetch
  fetching : Bool
  ended : Bool                   -- the list's end has been fetched
  count : Nat                    -- entries fetched
  entries : List DmaEntry        -- entries fetched and not retired, oldest first
  deriving DecidableEq, Repr

/-- A source beat that has not been answered, or waits for its turn. -/
structure DmaBeat where
  id : Nat
  entry : Nat
  len : Nat
  data : Option (List HeldByte)
  deriving DecidableEq, Repr

/-- The running transfer (R347 to R354). -/
structure DmaRun where
  chan : Nat
  src : DmaSide
  dst : DmaSide
  beats : List DmaBeat           -- source beats in address order
  hold : List HeldByte           -- the holding register
  nextBeat : Nat
  badEntries : Nat
  result : Nat                   -- RESULT so far
  stop : Bool                    -- nothing more is issued
  deriving DecidableEq, Repr

/-- A beat that has ended in error and is not yet dealt with (R351). -/
structure DmaErr where
  source : Bool
  which : Nat                    -- the source beat, or the destination entry
  kind : Nat                     -- KIND of DMA_ERRLOG
  deriving DecidableEq, Repr

/-- DMA (spec/11). The shadow and active sets are in the registers. -/
structure Dma where
  run : Option DmaRun
  last : Nat                     -- the channel granted last (R349)
  log : List Word                -- DMA_ERRLOG, oldest first, at most 8
  errs : List DmaErr
  listFail : Option Bool         -- the fetch of a source (true) or destination list entry has failed (R354)
  complete : List (Nat × Bool)   -- destination entries that have completed and are not yet reported, and whether bad
  descEvt : List Bool            -- per channel, DESC_EVT of the active set (R350)
  desc : List Nat                -- per channel, DESC events raised; no register of the spec shows them (R350)
  deriving DecidableEq, Repr

end Sys2Proof.Machine
end

