-- ==== Sys2Proof/Machine/PartsMrk.lean ====
section
/-! DEFINITION. Machine/PartsMrk.lean: the state of the marking heads (spec/10). -/

namespace Sys2Proof.Machine

/-- A scheduled mark (R298 to R304), on one port. -/
structure Mark where
  port : Nat
  src : Option FabAddr
  oid : Oid
  cls : Nat
  cue : Bool
  rows : Nat                     -- N
  ystart : YPos
  yend : YPos
  target : YPos                  -- compare target: G, or the next line of a split burst (R304)
  sel : List Nat                 -- its nozzles
  flags : Nat                    -- FLAGS of R312, bit 0 is CUE
  join : Option Int              -- the line of the running burst at which its row 0 lies; none while it waits
  offset : Int                   -- where its row 0 lies from the line at which it joins next: 0, or behind it after a split
  spoiled : List Nat             -- rows of which a line was suppressed (R308)
  bursts : Nat
  first : Option (Tick × YPos)   -- tick time and Y at its first LATCH rise
  tau : Nat
  w : Nat
  band : Nat
  temp : Nat
  deriving DecidableEq, Repr

/-- A running burst (R301, R302). -/
structure Burst where
  g : YPos                       -- G_b
  tau : Nat                      -- ns
  posMode : Bool
  stretched : Bool
  next : Nat                     -- the next line to start
  start : Nat                    -- model clock at which line 0 starts
  lastStart : Nat                -- model clock of the last line's start
  turns : Nat                    -- firings of POS's REVERSE and STOP when line 0 started (R304)
  deriving DecidableEq, Repr

/-- One head port. Its state, HOT, band and temperature are in MRK_PSTAT. -/
structure MrkPort where
  burst : Option Burst
  loaded : Option (List Nat)     -- the nozzles of the data shifted for the next line, once its shift has begun (R303, R306)
  latchHigh : Bool
  latchAt : Nat                  -- model clock of LATCH's rise
  strobeHigh : Bool
  strobeAt : Nat                 -- model clock of STROBE's rise
  width : Nat                    -- W of the line, ns
  lastAccept : Option Nat        -- model clock of the last accepted measurement (R297)
  runSince : Nat                 -- model clock of the first measurement of the run without a 1 ms gap (R310)
  tripAt : Option Nat            -- model clock of the last watchdog trip (R310)
  deriving DecidableEq, Repr

/-- MRK (spec/10). -/
structure Mrk where
  marks : List Mark              -- the schedule, oldest first
  ports : List MrkPort           -- 4
  deriving DecidableEq, Repr

end Sys2Proof.Machine
end

