-- ==== Sys2Proof/Machine/PartsPix.lean ====
section
/-! DEFINITION. Machine/PartsPix.lean: the state of stitching (spec/06). -/

namespace Sys2Proof.Machine

/-- One seam's registration as a head applies it (R171, R172). -/
structure SeamReg where
  ofs : Int
  sdev : Int
  yofs : Int
  deriving DecidableEq, Repr

/-- A line of wing samples (R175): output line number, web position, samples with the INVALID flag in bit 0. `ring` is Δ as
the line entered (R174, R177); for a line of seam 31 that the ring holds, its index there. -/
structure WingLine where
  line : LineNo
  y : YPos
  samples : List Nat
  asked : Bool                   -- its pair has been asked for
  left : Bool                    -- it is of the seam's left head
  ring : Nat
  deriving DecidableEq, Repr

/-- A pair of wing lines of one window: the left and the right side's samples (R174, R178). -/
structure WingPair where
  left : List Nat
  right : List Nat
  deriving DecidableEq, Repr

/-- An estimate of R179: e_L and e_R in units of 2^-20 × 1/64 pixel, which hold them exactly, and e_Y in 1/64 input
line. -/
structure Estimate where
  el : Int
  er : Int
  ey : Int
  deriving DecidableEq, Repr

/-- A window of a seam that has closed and is being estimated (R178, R181). -/
structure Window where
  pairs : List WingPair
  reg : SeamReg                  -- the working registration that held for it
  line : LineNo                  -- the boundary that closed it
  started : Nat                  -- the rehearsal count in which it began, for R184
  deriving DecidableEq, Repr

/-- STI for one seam (R174 to R184). State, reason, HELD_STRIPS and the latest estimate are in the registers. -/
structure SeamSt where
  written : List (Nat × Nat)     -- ring lines written: place in the ring, index of the line (R175, R176)
  newest : Option Nat            -- the newest index written
  ratio : Nat                    -- D of the lines in the ring
  lead : List WingLine           -- lines of the leading side of seam 31, newest first, their samples in the ring (R194)
  trail : List WingLine          -- lines of the trailing side that wait for their pair, oldest first
  pairs : List WingPair          -- the running window
  running : Bool                 -- a window runs (R183)
  startedAt : Nat                -- the rehearsal count in which it began
  closed : Option Window         -- the window that is being estimated
  last : Option (Estimate × Nat) -- the usable estimate of the strip before, and its rehearsal count
  acc : Nat                      -- acceptances since LOAD, stopping at 2^20 − 1
  strips : Nat                   -- strips of the trailing head since the last periodic report
  byWrite : Bool                 -- a register write has staged a value since the last latch (R171)
  selfAt : Option Nat            -- model clock of the last acceptance (R172)
  deriving DecidableEq, Repr

/-- A component of the left neighbour that is arriving, member by member (R451). -/
structure Arriving where
  src : FabAddr
  oid : Oid
  nmem : Nat
  members : List (Nat × Obj)
  deriving DecidableEq, Repr

/-- A component sent to the right neighbour, until its CACK (R452). -/
structure SentComp where
  oid : Oid
  comp : Comp
  sentAt : Nat                   -- the model's clock when it was sent (R452)
  deriving DecidableEq, Repr

/-- Registrations that a boundary has latched, until the last head of the device has crossed it at OBJ (R22): those accepted
and those written (R171, R181). -/
structure BookDue where
  line : LineNo
  accepted : List (Nat × SeamReg)
  written : List (Nat × SeamReg)
  deriving DecidableEq, Repr

/-- STI (spec/06). -/
structure Sti where
  headReg : List (List SeamReg)  -- per head, the set latched for its last boundary (R172)
  latched : List SeamReg         -- the set latched for the newest boundary
  regHist : List (List (LineNo × BitVec 40 × BitVec 40)) -- per head, X of its first and last owned columns: from which line, newest first (R261)
  latchLine : Option LineNo      -- that boundary
  latchY : YPos                  -- Ycue of that boundary's line
  bookDue : List BookDue         -- oldest first
  selfWrite : Nat                -- seams whose staged values came from self-registration, bit s
  seams : List SeamSt            -- 32
  rehearsal : Nat                -- rehearsals begun, whole or per-camera (R184)
  nbrHead : Nat                  -- head index of the left neighbour's stream
  nbrY : Option YPos             -- its frontier (R194), once one has come
  nbrLine : Option LineNo        -- the last of its wing lines
  nbrRatio : Nat                 -- its working ratio: the step of its wing lines (notes/assumptions/135)
  wing31 : List (Nat × WingLine) -- parts of the left neighbour's wing line that have come, by PART
  arriving : List Arriving
  sent : List SentComp
  nbrAt : Nat                    -- the model's clock at the neighbour's last frontier (R196)
  deriving DecidableEq, Repr

end Sys2Proof.Machine
end

