-- ==== Sys2Proof/Machine/State.lean ====
section
/-! DEFINITION. Machine/State.lean: everything the spec gives the block, as plain data, and the state after reset. -/

namespace Sys2Proof.Machine

/-- Why the machine would stop with a fault. -/
inductive Fault where
  /-- Not raised by any meaning: every command of the table has an effect the spec gives (NOTES.md, Stops). Safe. -/
  | none
  deriving DecidableEq, Repr

/-- Why a command has no meaning. -/
inductive Refusal where
  /-- Raised by an arm of exec whose command has no meaning in the model. Safe: the model stops where the device goes on. -/
  | notModelled (mnemonic : String)
  deriving DecidableEq, Repr

/-- The state of the block. -/
structure State where
  clk : Nat                        -- TCLK cycles since the start, the model's clock (notes/assumptions/6)
  free : Nat                       -- readings of Config.freeValue so far, the model's own (notes/assumptions/3)
  pending : List Instr             -- commands that wait, first in, first out
  wire : List Emission             -- what has left the device
  busData : Word                   -- data of the last register bus read (R42, R43)
  regs : List (Nat × Word)         -- registers, canonical over their reset values
  work : List (Nat × Word)         -- working values of the RWS registers (R23), canonical over the same
  snaps : List (Nat × Word)        -- pair snapshots by requester and pair (R47, R49), canonical over 0
  stages : List (Nat × Word)       -- pair stages, marked written by requester and pair (R48, R49), canonical over 0
  tables : List (Nat × Word)       -- table windows by word address (R51), canonical over tabDefault (notes/assumptions/7)
  dram : List Host.Cell            -- DRAM bytes by address (R52, R357), canonical over 0
  seqs : List Word                 -- SEQ of CUE, ROUTINE and BULK (R62)
  stripLen : Nat                   -- the strip length S of the image (R21); no register of the spec names it
  crossed : List (Option LineNo)   -- per stage and head, the boundary line that entered it last (R22)
  glb : Glb
  sec : Sec
  evt : Evt
  pmc : Pmc
  thm : Thm
  pwr : Pwr
  tim : Tim
  hst : Hst
  fab : Fab
  gaps : List OpenGap            -- GAP records that are open (R100)
  cam : List CamPort             -- 16
  cor : Cor
  awf : List AwfHead             -- 32
  seg : Seg
  sti : Sti
  lne : Lne
  pos : Pos
  mem : Mem
  arc : Arc
  dma : Dma
  mrk : Mrk
  deriving DecidableEq, Repr

/-- The state right after power-on, RESET_N held low: every register and every working value at its reset value (the
canonical lists hold what differs from it), nothing queued, nothing in flight, a keep domain that has just powered on
and save slots that have never been written. What the spec gives no value for is named in notes/assumptions/8. -/
def State.reset : State where
  clk := 0
  free := 0
  pending := []
  wire := []
  busData := 0
  regs := []
  work := []
  snaps := []
  stages := []
  tables := []
  dram := []
  seqs := [0, 0, 0]
  stripLen := 256
  crossed := List.replicate 160 none
  glb :=
    { trans := none, pend := none, powered := false, rehFrom := 0, rehStrips := 0, headDark := 0, headGain := 0, seamMet := 0, regDone := 0, posDone := false, posGapOpen := 0, posGapLine := 0, posGapY := 0, performFrom := 0,
      gapOwed := 0, gapFrom := List.replicate 32 (0, 0, .linkLoss), trainTries := 0, discTries := 0,
      loadFrom := 0, modeAt := 0, stallAt := 0 }
  sec :=
    { fuses := Config.fusesAtReset, img := none, nextSec := 0, slot := 0, slot0Blank := false, fail0 := 0,
      opkey := none, calinit := none, imgDigest := 0, attHeld := false, attNonce := 0, attAid := 0 }
  evt :=
    { fired := [], chans := List.replicate 64 ⟨0, []⟩, pins := List.replicate 16 ⟨false, false, false, 0, 0⟩,
      cells := List.replicate 16 ⟨0, false, false, false, false, 0, 0, false, 0, 0⟩ }
  pmc := ⟨0, 0, 0, 0, 0, none, none, List.replicate 16 (0, 0)⟩
  thm :=
    { sensors := List.replicate 24 ⟨0, 0, none, 0, 0, 0, [0, 0, 0], [0, 0, 0], [false, false, false], 0⟩
      boards := List.replicate 8 ⟨0, 0, 0, false⟩
      rails := List.replicate 9 ⟨0, 0⟩, fastAt := 0, slowAt := 0, stepAt := 0, source := false }
  pwr :=
    { mirror :=
        ⟨false, 0, 0, false, 0, ⟨0, 0, 0, 0, 0, 0, false, List.replicate 7 0⟩, [0, 0, 0], 0,
          List.replicate 32 (0, 0), 0, 0, 0,
          ⟨0, 0, 0, List.replicate 16 (0, 0, false), List.replicate 32 (0, false),
            List.replicate 32 (0, 0, 0, 0, 0, 0), List.replicate 32 0⟩, [], 0⟩
      mvalid := false, slots := List.replicate 8 .erased, idKey := none, groups := [], write := none,
      curtain := false, curtainTrig := 0, bothCauses := false, step6 := false, savedMirror := false,
      restored := none, pfail := false, pg := 0, vkeep := 0, ckptAt := 0, healthAt := 0 }
  tim :=
    { base := ⟨0, 0, 0⟩, latched := ⟨0, 0, 0⟩, lockRun := 0, mpdValid := true, lastOfs := 0, offsets := [], sync := none,
      lastSync := none, delaySent := none, pdelayResp := none }
  hst :=
    { ifs := List.replicate 16 ⟨0, 0, 0, false, false, [], [], 0⟩, cueQ := [], routineQ := [], bulkQ := [], jobQ := [],
      jobWait := [],
      flushRoutine := false, flushBulk := false, flushJob := false, dseq := [0, 0, 0], mq := [],
      sessions := List.replicate 4 none, sessCount := 0, nonces := [], opens := [], cq := List.replicate 4 [],
      cqDue := List.replicate 4 false, cqLate := List.replicate 4 false }
  fab :=
    { ports := List.replicate 6
        ⟨[[], [], [], [], []], false, [64, 256, 1024, 1536, 1216], [], 0, 0, false, 0, 0, [], 0, none, 0, 0, 0, 0, 0⟩
      bestRoot := 0, hops := 0, parent := none, settled := false, reports := [], serials := [], devs := [],
      links := [], rootAddr := 0, seen := [], floodSeq := 0, treePort := none, treePath := [], syncSeq := 0, electAt := 0, wake := false }
  gaps := []
  cam := List.replicate 16
    ⟨[⟨none, 0, 0, none, none, false, []⟩, ⟨none, 0, 0, none, none, false, []⟩], [], [], [], [], none, false,
      0, [], 0, 0, 0, 0, 0, 0, 0, false, [], 0⟩
  cor :=
    { heads := List.replicate 32 ⟨[], false, none, [], [], 0, none, none, none, none, false, false⟩
      ports := List.replicate 16 ⟨[], [[], []], 0, none, false⟩ }
  awf := List.replicate 32 ⟨[], none, true, false⟩
  seg :=
    { heads := List.replicate 32 ⟨true, none, none, false, 0, false, 0, none, [], none⟩, fifo := [], labels := [],
      objs := [], absorbed := [], comps := [], minFresh := false, closeQ := [], budget := [], markQ := [], snipQ := [] }
  sti :=
    { headReg := List.replicate 32 (List.replicate 32 ⟨0, 0, 0⟩), latched := List.replicate 32 ⟨0, 0, 0⟩,
      regHist := List.replicate 32 [], latchLine := none, latchY := 0, bookDue := [], selfWrite := 0,
      seams := List.replicate 32 ⟨[], none, 0, [], [], [], false, 0, none, none, 0, 0, false, none⟩,
      rehearsal := 0, nbrHead := 0, nbrY := none, nbrLine := none, nbrRatio := 1, wing31 := [], arriving := [], sent := [],
      nbrAt := 0 }
  lne :=
    { lanes := List.replicate 104 ⟨false, 8, 32, List.replicate 10 0, [], false, none, 0, 0, 0⟩, refBad := [0, 0],
      refGood := [0, 0] }
  pos :=
    { c := 0, p := 0, h := 0, q := 0, nextLine := 0, zref := 0, zv := false,
      chans := List.replicate 8 ⟨false, false, false, [], 0, 0, none, none, 0, false, 0⟩,
      emus := List.replicate 2 ⟨0, 0, 0, none, false, 0⟩, lastCue := none, lastCueY := 0, skipped := false, skip := none,
      unc := none, uncEnding := false, faultLine := false, clean := false, revRaised := false, lastCount := none,
      lastDir := false, tp := none, recent := [], tags := [], firstTag := none, zAfterWake := false }
  mem :=
    { waiting := [], issued := [], ops := [], done := [], nextOp := 0, rows := [],
      ranks := List.replicate 16 ⟨0, 0, false, false, false⟩, poison := [], migForce := false, migPaused := false,
      spareUsed := false, change := none, held := none, trainRank := 0, slice := none, resetN := false, stamps := [], acts := [] }
  arc :=
    { heads := List.replicate 32 ⟨[], none, true, false, false, [], [], [], 0, false⟩, hostQ := [], stripQ := [],
      lastHost := false, run := none, werr := [], stripDone := [], stream := [], saved := [] }
  dma :=
    { run := none, last := 15, log := [], errs := [], listFail := none, complete := [],
      descEvt := List.replicate 16 false, desc := List.replicate 16 0 }
  mrk := { marks := [], ports := List.replicate 4 ⟨none, none, false, 0, false, 0, 0, none, 0, none⟩ }

end Sys2Proof.Machine
end

