-- ==== Sys2Proof/Machine/Ops.lean ====
section
/-! DEFINITION. Machine/Ops.lean: the named operations over the registers, the table windows, the DRAM and the counters
that every meaning uses. -/

namespace Sys2Proof.Machine

/-- The key under which instance `i` of a register is stored. -/
def Reg.key (r : Reg) (i : Nat) : Nat := i * 1024 + r.ctorIdx

/-- The word that a list of fields takes at reset. -/
def fieldsReset (fs : List FieldSpec) : Nat :=
  match fs with
  | [] => 0
  | f :: r => f.reset * 2 ^ f.lo + fieldsReset r

/-- The reset value of a register's instance: the fields' reset values of its table; SEG_THRh,i enables masks 0 and 3
only (spec/07), MEM_QOSp takes its LAT by port (spec/12). -/
def Reg.resetWord (r : Reg) (i : Nat) : Word :=
  let w := BitVec.ofNat 32 (fieldsReset r.info.fields)
  match r with
  | .SEG_THR => if i % 18 == 0 || i % 18 == 3 then w ||| 0x80000000 else w
  | .MEM_QOS => (w &&& 0xFFFF0000) ||| BitVec.ofNat 32 ([2000, 2000, 1000, 1000, 10000, 5000].getD i 2000)
  | _ => w

/-- Read a field of a word. -/
def Fld.get (f : Fld) (w : Word) : Nat := bitsOf w.toNat f.lo f.width

/-- The mask of a field. -/
def Fld.mask (f : Fld) : Word := BitVec.ofNat 32 ((2 ^ f.width - 1) * 2 ^ f.lo)

/-- Replace a field of a word. -/
def Fld.put (f : Fld) (w : Word) (v : Nat) : Word :=
  (w &&& ~~~f.mask) ||| (BitVec.ofNat 32 (v * 2 ^ f.lo) &&& f.mask)

/-- The stored word of a register. -/
def State.rd (s : State) (r : Reg) (i : Nat := 0) : Word := spGet (r.resetWord i) s.regs (r.key i)

/-- Store a register's word, as hardware does. -/
def State.wr (s : State) (r : Reg) (i : Nat) (w : Word) : State :=
  { s with regs := spSet (r.resetWord i) s.regs (r.key i) w }

/-- A field of a register, as a number. -/
def State.fld (s : State) (f : Fld) (i : Nat := 0) : Nat := f.get (s.rd f.reg i)

/-- A one-bit field of a register. -/
def State.bit (s : State) (f : Fld) (i : Nat := 0) : Bool := s.fld f i != 0

/-- Store a field of a register. -/
def State.put (s : State) (f : Fld) (i : Nat) (v : Nat) : State := s.wr f.reg i (f.put (s.rd f.reg i) v)

/-- Store a one-bit field of a register. -/
def State.putB (s : State) (f : Fld) (i : Nat) (b : Bool) : State := s.put f i (b2n b)

/-- The working value of an RWS register (R23). -/
def State.rdWork (s : State) (r : Reg) (i : Nat := 0) : Word := spGet (r.resetWord i) s.work (r.key i)

/-- A field of a working value. -/
def State.fldWork (s : State) (f : Fld) (i : Nat := 0) : Nat := f.get (s.rdWork f.reg i)

/-- R23: the staged value of a register becomes its working value. -/
def State.latch (s : State) (r : Reg) (i : Nat) : State :=
  { s with work := spSet (r.resetWord i) s.work (r.key i) (s.rd r i) }

/-- Set both values of an RWS register (R490). -/
def State.wrBoth (s : State) (r : Reg) (i : Nat) (w : Word) : State := (s.wr r i w).latch r i

/-- R45: a counter that fills its register stops at its maximum. -/
def State.count (s : State) (r : Reg) (i : Nat := 0) (n : Nat := 1) : State :=
  s.wr r i (BitVec.ofNat 32 (min ((s.rd r i).toNat + n) 0xFFFFFFFF))

/-- R45 for a field that is part of a register. -/
def State.countFld (s : State) (f : Fld) (i : Nat) (n : Nat) : State :=
  s.put f i (min (s.fld f i + n) (2 ^ f.width - 1))

/-- The value of a pair (R46). -/
def State.getPair (s : State) (lo hi : Reg) (i : Nat := 0) : Nat :=
  (s.rd lo i).toNat + 2 ^ 32 * (s.rd hi i).toNat

/-- Store a pair as hardware does. `w` is the width of its upper register's field. -/
def State.setPair (s : State) (lo hi : Reg) (i : Nat) (w v : Nat) : State :=
  (s.wr lo i (BitVec.ofNat 32 v)).wr hi i (BitVec.ofNat 32 ((v / 2 ^ 32) % 2 ^ w))

/-- R45 for a 40-bit counter pair. -/
def State.countPair (s : State) (lo hi : Reg) (i : Nat) (n : Nat) : State :=
  s.setPair lo hi i 8 (min (s.getPair lo hi i + n) (2 ^ 40 - 1))

/-- R42: an access that is ignored or returns 0 is counted in GLB. -/
def State.accessError (s : State) : State := s.count .GLB_ACC_ERR_CNT

/-- What an unlisted word of a table window reads as: 15, no route, in the route table (R457), empty slots in the repeat
histograms (R254), and 0 elsewhere (notes/assumptions/7). -/
def tabDefault (addr : Nat) : Word :=
  if 0x12400000 ≤ addr && addr < 0x12404000 then 15
  else if 0x11000000 ≤ addr && addr < 0x110E0000 && 4 ≤ addr % 32 && addr % 32 < 20 then 0xFFFFFFFF
  else 0

/-- A word of a table window. -/
def State.tab (s : State) (addr : Nat) : Word := spGet (tabDefault addr) s.tables addr

/-- Store a word of a table window, as the block that owns it does. -/
def State.setTab (s : State) (addr : Nat) (w : Word) : State :=
  { s with tables := spSet (tabDefault addr) s.tables addr w }

/-- Store words upward from an address of a table window. -/
def State.setTabs (s : State) (addr : Nat) (ws : List Word) : State :=
  match ws with
  | [] => s
  | w :: r => (s.setTab addr w).setTabs (addr + 4) r

/-- Take the words of table windows back to what an unlisted word reads as, by address. -/
def State.clearTabs (s : State) (p : Nat → Bool) : State := { s with tables := s.tables.filter (fun e => !p e.1) }

/-- Keep a snapshot of a pair's upper register (R47). -/
def State.setSnap (s : State) (k : Nat) (w : Word) : State := { s with snaps := spSet 0 s.snaps k w }

/-- Stage the upper bits of a pair (R48). -/
def State.setStage (s : State) (k : Nat) (w : Word) : State := { s with stages := spSet 0 s.stages k w }

/-- One byte of DRAM. -/
def State.dramByte (s : State) (addr : Nat) : Byte := spGet 0 s.dram addr

/-- Bytes of DRAM. -/
def State.dramRead (s : State) (addr n : Nat) : List Byte :=
  (List.range n).map (fun k => s.dramByte (addr + k))

/-- Store bytes of DRAM upward from an address. -/
def dramPut (m : List Host.Cell) (addr : Nat) (bs : List Byte) : List Host.Cell :=
  match bs with
  | [] => m
  | b :: r => dramPut (spSet 0 m addr b) (addr + 1) r

/-- Store bytes of DRAM upward from an address. -/
def State.dramWrite (s : State) (addr : Nat) (bs : List Byte) : State := { s with dram := dramPut s.dram addr bs }

/-- Take bytes of DRAM back to 0, by address. -/
def State.clearDram (s : State) (p : Nat → Bool) : State := { s with dram := s.dram.filter (fun e => !p e.1) }

/-- Blow bits of a fuse word (R497): a blown bit stays blown. -/
def State.blowBits (s : State) (k : Nat) (w : Word) : State :=
  { s with sec := { s.sec with fuses := spSet 0 s.sec.fuses k (spGet 0 s.sec.fuses k ||| w) } }

/-- Something leaves the device. -/
def State.emit (s : State) (e : Emission) : State := { s with wire := s.wire ++ [e] }

/-- A fresh free value of 64 bits (notes/assumptions/3). -/
def State.drawFree (s : State) : DWord × State := (Config.freeValue s.free, { s with free := s.free + 1 })

/-- Do something for every number below `n`, from 0 up. -/
def forBelow (n : Nat) (f : Nat → State → State) (s : State) : State :=
  (List.range n).foldl (fun t i => f i t) s

/-- Do something when a condition holds. -/
def when (c : Bool) (f : State → State) (s : State) : State := if c then f s else s

/-- The mode that a code of GLB_MODE names (R503). -/
def Mode.ofCode (n : Nat) : Mode :=
  match n with
  | 0 => .load
  | 1 => .rehearse
  | 2 => .perform
  | 3 => .hold
  | 4 => .standby
  | _ => .dark

/-- The code of a mode in GLB_MODE. -/
def Mode.code (m : Mode) : Nat :=
  match m with
  | .load => 0
  | .rehearse => 1
  | .perform => 2
  | .hold => 3
  | .standby => 4
  | .dark => 5

/-- The mode the device is in. -/
def State.mode (s : State) : Mode := Mode.ofCode (s.fld F.GLB_MODE_MODE)

/-- The mode is one of those that inspect (REHEARSE and PERFORM). -/
def State.inspecting (s : State) : Bool := s.mode == .rehearse || s.mode == .perform

/-- R521: throttle step `n` is active. -/
def State.throttled (s : State) (n : Nat) : Bool := decide (n ≤ s.fld F.THM_STATUS_LEVEL)

/-- R37: the time base as tick time. -/
def TimeBase.tick (t : TimeBase) : Tick :=
  BitVec.ofNat 64 ((t.sec.toNat * 1000000000 + t.ns) * 65536 + t.sub.toNat / 2 ^ 32)

/-- Tick time now. -/
def State.tick (s : State) : Tick := s.tim.base.tick

end Sys2Proof.Machine
end

