-- ==== Sys2Proof/Machine/Flags.lean ====
section
/-! DEFINITION. Machine/Flags.lean: the flags of the block's EVENT registers, the producers they fire (spec/16 R468) and
the performance counters that count firings (R481 to R483). -/

namespace Sys2Proof.Machine

/-- R468: the producer that a bit of an EVENT register fires, if any. DMA_EVENT and PMC_EVENT fire by group. -/
def producerOf (f : Fld) : Option Nat :=
  match f.reg with
  | .POS_EVENT => some (0x22 + f.lo)
  | .CAM_EVENT => some (0x30 + f.lo)
  | .COR_EVENT => some (0x40 + f.lo)
  | .AWF_EVENT => some (0x48 + f.lo)
  | .STI_EVENT => some (0x50 + f.lo)
  | .SEG_EVENT => some (0x58 + f.lo)
  | .OBJ_EVENT => some (0x60 + f.lo)
  | .MRK_EVENT => some (0x68 + f.lo)
  | .ARC_EVENT => some (0x70 + f.lo)
  | .DMA_EVENT => some (if f.lo < 16 then 0x78 else 0x79)
  | .MEM_EVENT => some (0x80 + f.lo)
  | .LNE_EVENT => some (0x90 + f.lo)
  | .HST_EVENT => some (0x98 + f.lo)
  | .TIM_EVENT => some (0xA0 + f.lo)
  | .FAB_EVENT => some (0xA8 + f.lo)
  | .THM_EVENT => some (0xB4 + f.lo)
  | .PWR_EVENT => some (0xB8 + f.lo)
  | .GLB_EVENT => if f.lo == 0 then some 0xBC else none
  | .EVT_EVENT => if f.lo == 0 then some 0xBD else none
  | .PMC_EVENT => some (if f.lo < 8 then 0xBE else 0xBF)
  | _ => none

/-- R483: the event number that counter `i` counts under the setting in force. -/
def State.pmcEvent (s : State) (i : Nat) : Nat :=
  let mode := F.PMC_CTRL_MODE.get s.pmc.ctrl
  if mode == 1 && i < 6 then 0x150 + i
  else if mode == 2 && i < 4 then
    (if F.PMC_CTRL_ALL.get s.pmc.ctrl == 1 then 0x140 + i else 0x100 + 4 * F.PMC_CTRL_QUAD.get s.pmc.ctrl + i)
  else s.fld F.PMC_SEL_SEL i

/-- The value of a 48-bit counter. -/
def State.pmcValue (s : State) (i : Nat) : Nat := s.getPair .PMC_CNT_LO .PMC_CNT_HI i

/-- R481: counter `i` counts `n`; it wraps at 2^48 and then sets its OVF bit. Answers whether it wrapped. -/
def State.pmcBump (s : State) (i n : Nat) : State × Bool :=
  let v := s.pmcValue i + n
  let t := s.setPair .PMC_CNT_LO .PMC_CNT_HI i 16 (v % 2 ^ 48)
  if v < 2 ^ 48 then (t, false) else (t.put ⟨.PMC_EVENT, i, 1⟩ 0 1, true)

/-- Every counter that counts event `ev` counts `n`; answers how many wrapped. -/
def State.pmcPass (s : State) (ev n : Nat) : State × Nat :=
  (List.range 8).foldl (fun (a : State × Nat) i =>
    if a.1.pmcEvent i == ev then
      let r := a.1.pmcBump i n
      (r.1, a.2 + b2n r.2)
    else a) (s, 0)

/-- Note one firing of a producer (R468). -/
def State.noteFiring (s : State) (p : Nat) : State :=
  { s with evt := { s.evt with fired := spSet 0 s.evt.fired p (spGet 0 s.evt.fired p + 1) } }

/-- R481, R482: event `ev` counts `n` in every counter that is set to it, while RUN is 1. A wrap fires producer 0xBE once,
and that firing is itself counted. -/
def State.pmcCount (s : State) (ev n : Nat) : State :=
  if F.PMC_CTRL_RUN.get s.pmc.ctrl == 1 && n != 0 then
    let a := s.pmcPass ev n
    if a.2 == 0 then a.1 else ((a.1.noteFiring 0xBE).pmcPass 0xBE 1).1
  else s

/-- R468: a producer fires once. -/
def State.fire (s : State) (p : Nat) : State := (s.noteFiring p).pmcCount p 1

/-- Set a bit of an EVENT register. R468: the producer fires whether or not the bit was already set. -/
def State.raise (s : State) (f : Fld) (i : Nat := 0) : State :=
  let t := s.put f i 1
  match producerOf f with
  | none => t
  | some p => t.fire p

/-- R45, R474: `n` firings beyond one of a task are added to its overrun counter, and OVERRUN is raised. -/
def State.overrun (s : State) (task n : Nat) : State :=
  if n == 0 then s
  else (s.countFld ⟨.EVT_OVR, 8 * (task % 4), 8⟩ (task / 4) n).raise F.EVT_EVENT_OVERRUN

/-- R266: the 3-of-4 filter: the level changes to L only when at least 3 of the last 4 samples show L. The samples are those
that have left the 2-stage synchroniser (notes/assumptions/129). -/
def filter3of4 (held : Bool) (samples : BitVec 4) : Bool :=
  let ones := b2n samples[0] + b2n samples[1] + b2n samples[2] + b2n samples[3]
  if 3 ≤ ones then true else if ones ≤ 1 then false else held

end Sys2Proof.Machine
end

