-- ==== Sys2Proof/Machine/Cells.lean ====
section
/-! DEFINITION. Machine/Cells.lean: the logic cells of event routing (spec/16 R478), one evaluation for each ECLK cycle. -/

namespace Sys2Proof.Machine

/-- A cell as it stands after reset and at the end of LOAD. -/
def Cell.fresh : Cell := ⟨0, false, false, false, false, 0, 0, false, 0, 0⟩

/-- An event pin as it stands after reset. -/
def Pin.fresh : Pin := ⟨false, false, false, 0, 0⟩

/-- One cell. -/
def State.cell (s : State) (k : Nat) : Cell := s.evt.cells.getD k Cell.fresh

/-- Change one cell. -/
def State.setCell (s : State) (k : Nat) (c : Cell) : State :=
  { s with evt := { s.evt with cells := s.evt.cells.set k c } }

/-- One pin. -/
def State.pin (s : State) (i : Nat) : Pin := s.evt.pins.getD i Pin.fresh

/-- The ECLK cycle that runs: 4 TCLK cycles make one. -/
def State.eclk (s : State) : Nat := s.clk / 4

/-- R478: the mode of input `i` of cell `k`. -/
def State.cellMode (s : State) (k i : Nat) : Nat := bitsOf (s.rd .EVT_CELL_IN k).toNat (6 * i + 4) 2

/-- R478: the value of input `i` of cell `k` in the running cycle. -/
def State.cellInput (s : State) (k : Nat) (c : Cell) (i : Nat) : Bool :=
  match s.cellMode k i with
  | 0 => bitAt c.pulses i
  | 1 => bitAt c.toggle i
  | 2 => (s.pin (bitsOf (s.rd .EVT_CELL_IN k).toNat (6 * i) 4)).level
  | _ => false

/-- R478 step 1: the value of the table. -/
def State.cellTable (s : State) (k : Nat) (c : Cell) : Bool :=
  bitAt (s.fld F.EVT_CELL_LUT k) (maskBelow 4 (s.cellInput k c))

/-- R478 step 2: the filtered value. A pulse lasts one cycle, so that FILT of 0 and 1 let it pass. -/
def State.cellFilt (s : State) (k : Nat) (c : Cell) : Bool :=
  let filt := s.fld F.EVT_CELL_FILT k
  if filt == 0 || (filt == 1 && c.pulses != 0) then s.cellTable k c else c.filt

/-- R478 step 3: the value that the edge detector sees. -/
def State.cellValue (s : State) (k : Nat) (c : Cell) : Bool :=
  if s.bit F.EVT_CELL_FF k then c.ff else s.cellFilt k c

/-- R478 step 4: the producer fires. -/
def cellFires (edge : Nat) (last v : Bool) : Bool :=
  match edge with
  | 0 => v
  | 1 => v && !last
  | 2 => !v && last
  | _ => v != last

/-- R479: a change of the inputs begins the filter's span anew. -/
def Cell.noted (c : Cell) (ins : Nat) : Cell := if ins == c.ins then c else { c with ins := ins, since := c.cycle }

/-- R478: the producer of cell `k` fires when the running cycle's value calls for it, once in the cycle. -/
def State.cellCheck (s : State) (k : Nat) : State :=
  let c := (s.cell k).noted (maskBelow 4 (s.cellInput k (s.cell k)))
  if !c.fired && cellFires (s.fld F.EVT_CELL_EDGE k) c.last (s.cellValue k c) then
    (s.setCell k { c with fired := true, raw := s.cellTable k c }).fire (0x10 + k)
  else s.setCell k { c with raw := s.cellTable k c }

/-- R478: the running cycle of cell `k` ends, and the next one begins. -/
def State.cellNext (s : State) (k : Nat) : State :=
  let c := s.cell k
  let f := s.cellFilt k c
  let inv := maskBelow 4 (fun (i : Nat) => s.cellMode k i == 1 && bitAt c.pulses i)
  (s.setCell k { c with
    toggle := c.toggle ^^^ inv
    filt := f
    ff := f
    last := s.cellValue k c
    pulses := 0
    cycle := c.cycle + 1
    fired := false }).cellCheck k

/-- R478: cell `k` runs up to the present ECLK cycle. After three cycles nothing changes any more, and a value of 1 fires in
every further cycle when EDGE is 0. -/
def State.cellRun (s : State) (k : Nat) : State :=
  let n := s.eclk - (s.cell k).cycle
  let s := forBelow (min n 3) (fun _ t => t.cellNext k) s
  let more := n - 3
  let s := s.setCell k { s.cell k with cycle := s.eclk }
  if more != 0 && s.fld F.EVT_CELL_EDGE k == 0 && s.cellValue k (s.cell k) then
    { s with evt := { s.evt with fired := spSet 0 s.evt.fired (0x10 + k) (spGet 0 s.evt.fired (0x10 + k) + more) } }.pmcCount
      (0x10 + k) more
  else s

/-- Every cell runs up to the present ECLK cycle. -/
def State.cellCycles (s : State) : State := forBelow 16 (fun k t => if (t.cell k).cycle == t.eclk then t else t.cellRun k) s

/-- The levels of pins have changed: every cell is looked at again in the running cycle. -/
def State.cellsNow (s : State) : State := forBelow 16 (fun k t => t.cellCheck k) s

/-- R478: task input `i` of cell `k` fires. -/
def State.cellTask (s : State) (k i : Nat) : State :=
  let c := s.cell k
  (s.setCell k { c with pulses := c.pulses ||| 2 ^ i }).cellCheck k

/-- R478, R479: the inputs of a cell have stood unchanged for FILT cycles, the running one with them. -/
def State.cellHeld (s : State) (k : Nat) : Bool := s.fld F.EVT_CELL_FILT k + (s.cell k).since ≤ (s.cell k).cycle + 1

/-- R478, R479: the filter passes a new value once it has held for FILT cycles, and not before. -/
def State.cellPass (s : State) (k : Nat) : State :=
  let c := s.cell k
  let v := s.cellTable k { c with pulses := 0 }
  if v != c.filt && s.cellHeld k then (s.setCell k { c with filt := v }).cellCheck k else s

/-- R473: the cells resume after STANDBY. -/
def State.cellsResume (s : State) : State :=
  { s with evt := { s.evt with cells := s.evt.cells.map (fun c => { c with cycle := s.eclk, pulses := 0, since := s.eclk }) } }

/-- R478: the cells at the end of LOAD. -/
def State.cellsInit (s : State) : State :=
  { s with evt := { s.evt with cells := (List.range 16).map (fun _ => { Cell.fresh with cycle := s.eclk, since := s.eclk }) } }

end Sys2Proof.Machine
end

