-- ==== Sys2Proof/Machine/Geometry.lean ====
section
/-! DEFINITION. Machine/Geometry.lean: where a head's columns and lines lie on the web (spec/01 R15, spec/06 R167 to
R170): the order of the heads, the exact map from a column to X, and the columns a head owns. -/

namespace Sys2Proof.Machine

/-- An exact fraction: numerator and positive denominator. R168 evaluates X exactly and rounds once. -/
structure Frac where
  num : Int
  den : Nat
  deriving DecidableEq, Repr

/-- A whole number as a fraction. -/
def Frac.ofInt (i : Int) : Frac := ⟨i, 1⟩

/-- The sum of two fractions. -/
def Frac.add (a b : Frac) : Frac := ⟨a.num * b.den + b.num * a.den, a.den * b.den⟩

/-- The product of two fractions. -/
def Frac.mul (a b : Frac) : Frac := ⟨a.num * b.num, a.den * b.den⟩

/-- Rounding half up to a whole number. -/
def Frac.roundHalfUp (a : Frac) : Int := Int.fdiv (2 * a.num + a.den) (2 * a.den)

/-- The whole part and the rest of a fraction, the rest in units of its denominator. -/
def Frac.parts (a : Frac) : Int × Nat := (Int.fdiv a.num a.den, (Int.fmod a.num a.den).toNat)

/-- Whether a fraction is at least a whole number. -/
def Frac.geInt (a : Frac) (i : Int) : Bool := decide (i * a.den ≤ a.num)

/-- round_half_up of a quotient of integers, the divisor positive. -/
def roundHalfUpDiv (n : Int) (d : Nat) : Int := Int.fdiv (2 * n + d) (2 * d)

/-- The port of a head and its place on it. -/
def portOf (h : Nat) : Nat := h / 2

/-- The head `i` of port `p`. -/
def headOf (p i : Nat) : Nat := 2 * p + i

/-- The number of heads a port declares (CAM_GEOM.NHEADS); the reserved code 3 stands for 2 (notes/assumptions/115). -/
def State.portHeads (s : State) (p : Nat) : Nat := min (s.fld F.CAM_GEOM_NHEADS p) 2

/-- A head of a camera port as it stands after reset: no line. -/
def CamHead.fresh : CamHead := ⟨none, 0, 0, none, none, false, []⟩

/-- A camera port as it stands after reset: no cue, no camera. -/
def CamPort.fresh : CamPort :=
  ⟨[CamHead.fresh, CamHead.fresh], [], [], [], [], none, false, 0, [], 0, 0, 0, 0, 0, 0, 0, false, [], 0⟩

/-- One camera port. -/
def State.camPort (s : State) (p : Nat) : CamPort := s.cam.getD p CamPort.fresh

/-- Change one camera port. -/
def State.setCamPort (s : State) (p : Nat) (x : CamPort) : State := { s with cam := s.cam.set p x }

/-- A head that CAM_GEOM declares. -/
def State.headUsed (s : State) (h : Nat) : Bool := h % 2 < s.portHeads (portOf h)

/-- The pixels of a head's line (CAM_PIXELS). -/
def State.headPixels (s : State) (h : Nat) : Nat :=
  if h % 2 == 0 then s.fld F.CAM_PIXELS_PIX0 (portOf h) else s.fld F.CAM_PIXELS_PIX1 (portOf h)

/-- A two-row colour head (CAM_GEOM.MOSAIC). -/
def State.headColour (s : State) (h : Nat) : Bool :=
  if h % 2 == 0 then s.bit F.CAM_GEOM_MOSAIC0 (portOf h) else s.bit F.CAM_GEOM_MOSAIC1 (portOf h)

/-- The depth code of a head. -/
def State.headDepth (s : State) (h : Nat) : Nat :=
  if h % 2 == 0 then s.fld F.CAM_GEOM_DEPTH0 (portOf h) else s.fld F.CAM_GEOM_DEPTH1 (portOf h)

/-- R167: the entry of rank `k` in STI_ORDER, head and valid bit. -/
def State.rankByte (s : State) (k : Nat) : Nat := bitsOf (s.rd .STI_ORDER (k / 4)).toNat (8 * (k % 4)) 8

/-- R167: the head at rank `k`, if the rank is in use. -/
def State.headAt (s : State) (k : Nat) : Option Nat :=
  if k < 32 && s.rankByte k ≥ 128 then some (s.rankByte k % 32) else none

/-- The rank of a head, if it is listed. -/
def State.rankOf (s : State) (h : Nat) : Option Nat :=
  (List.range 32).find? (fun k => s.headAt k == some h)

/-- The seam on the left of a head: its rank less 1, or seam 31 at rank 0. -/
def State.leftSeam (s : State) (h : Nat) : Option Nat :=
  match s.rankOf h with
  | none => none
  | some 0 => some 31
  | some (k + 1) => some k

/-- The seam on the right of a head inside the device. -/
def State.rightSeam (s : State) (h : Nat) : Option Nat :=
  match s.rankOf h with
  | none => none
  | some k => if (s.headAt (k + 1)).isSome then some k else none

/-- The lens knot `i` of head `h` (R171). -/
def State.knot (s : State) (h i : Nat) : Int := signedOf 16 (s.tab (0x10400000 + 0x200 * h + 4 * i)).toNat

/-- R168: the lens-corrected column of column `c`, exactly. -/
def State.lensColumn (s : State) (h c : Nat) : Frac :=
  let p := s.headPixels h
  if p == 0 then Frac.ofInt c
  else
    let i := min (c * 64 / p) 63
    let k0 := s.knot h i
    let k1 := s.knot h (i + 1)
    -- lambda = k0 + (k1 - k0) * (64 c - i p) / p, in 1/64 column
    ⟨64 * p * (c : Int) + k0 * p + (k1 - k0) * (64 * (c : Int) - i * p), 64 * p⟩

/-- The registration of seam `k` that head `h` applies (R172). -/
def State.seamReg (s : State) (h k : Nat) : SeamReg := (s.sti.headReg.getD h []).getD k ⟨0, 0, 0⟩

/-- R168: m_k maps a corrected column of the right head into the corrected columns of the left head. -/
def seamMap (r : SeamReg) (c : Frac) : Frac :=
  (Frac.mk r.ofs 64).add ((Frac.mk (2 ^ 24 + r.sdev) (2 ^ 24)).mul c)

/-- R168: a corrected column of the head at rank `k`, carried to the columns of the head at rank 0. -/
def State.toRank0 (s : State) (h : Nat) (k : Nat) (c : Frac) : Frac :=
  match k with
  | 0 => c
  | j + 1 => s.toRank0 h j (seamMap (s.seamReg h j) c)

/-- X of a corrected column of the rank-0 head, as a fraction of 1/1024 µm. -/
def State.xOfRank0 (s : State) (c : Frac) : Frac :=
  (Frac.ofInt (signedOf 40 (s.getPair .STI_X0_L .STI_X0_H))).add
    ((Frac.ofInt (s.fld F.STI_PITCH_PITCH)).mul c)

/-- R168: X of column `c` of head `h` under the registration the head applies, rounded half up. -/
def State.xOf (s : State) (h c : Nat) : BitVec 40 :=
  BitVec.ofInt 40 ((s.xOfRank0 (s.toRank0 h ((s.rankOf h).getD 0) (s.lensColumn h c))).roundHalfUp)

/-- SEAMCOL and W of a seam (R171). -/
def State.seamCol (s : State) (k : Nat) : Nat := s.fld F.SEAM_CFG_SEAMCOL k

/-- W of a seam. -/
def State.seamWing (s : State) (k : Nat) : Nat := s.fld F.SEAM_CFG_WING k

/-- A seam that has heads on both sides (R167); seam 31 is one when the device has a left neighbour and the image
declares it cross-device (SEAM_CFG.XDEV). -/
def State.seamInUse (s : State) (k : Nat) : Bool :=
  if k == 31 then s.bit F.SEAM_CFG_XDEV 31 && (s.headAt 0).isSome
  else (s.headAt k).isSome && (s.headAt (k + 1)).isSome

/-- The least column of `n` or fewer, from `c` up, that satisfies a test. -/
def firstColumn (p : Nat → Bool) (c : Nat) (n : Nat) : Nat :=
  match n with
  | 0 => c
  | k + 1 => if p c then c else firstColumn p (c + 1) k

/-- R169: the first column that head `h` owns. -/
def State.ownedLo (s : State) (h : Nat) : Nat :=
  match s.leftSeam h with
  | none => 0
  | some k =>
    if s.seamInUse k then
      firstColumn (fun c => (seamMap (s.seamReg h k) (s.lensColumn h c)).geInt (s.seamCol k)) 0 (s.headPixels h)
    else 0

/-- R169: one past the last column that head `h` owns. The right edge device-wide hands its wing to the neighbour
(STI_XR_CFG, R194). -/
def State.ownedHi (s : State) (h : Nat) : Nat :=
  match s.rankOf h with
  | none => s.headPixels h
  | some k =>
    if (s.headAt (k + 1)).isSome then min (s.seamCol k) (s.headPixels h)
    else if s.bit F.STI_CTRL_XR then min (s.fld F.STI_XR_CFG_SEAMCOL) (s.headPixels h)
    else s.headPixels h

/-- R169: head `h` owns column `c`. -/
def State.owns (s : State) (h c : Nat) : Bool := s.ownedLo h ≤ c && c < s.ownedHi h

/-- PITCH_Y in units of 2^-16 µm; 0 is treated as 1 (POS_PITCH). -/
def State.pitchY (s : State) : Nat := atLeast1 (s.fld F.POS_PITCH_PITCH)

/-- R170: what is taken off the web position of a head at rank `k`: the sum of YOFS of the seams to its left. -/
def State.yofsSum (s : State) (h k : Nat) : Int :=
  match k with
  | 0 => 0
  | j + 1 => s.yofsSum h j + (s.seamReg h j).yofs

/-- R15, R170: the web position of a line whose tag position is `ytag`. -/
def State.webY (s : State) (h : Nat) (ytag : YPos) : YPos :=
  let d : YPos := BitVec.ofNat 40 (s.fld F.STI_MOUNT_D h)
  match s.rankOf h with
  | none => ytag - d
  | some 0 => ytag - d
  | some k => ytag - d - BitVec.ofInt 40 (roundHalfUpDiv (s.yofsSum h k * (s.pitchY : Int)) (64 * 65536))

end Sys2Proof.Machine
end

