-- ==== Sys2Proof/Machine/Quad.lean ====
section
/-! DEFINITION. Machine/Quad.lean: the lane quads of the pixel engine (spec/01 R17 to R20) and what refuses their words: the
encoder of an archived head (spec/11 R330). -/

namespace Sys2Proof.Machine

/-- Block size in bytes of a ratio code. -/
def blockBytes (rcode : Nat) : Nat := [120, 80, 60, 40].getD rcode 40

/-- The archive of a head as it starts. -/
def ArcHead.fresh : ArcHead := ⟨[], none, true, false, false, [], [], [], 0, false⟩

/-- The archive of a head. -/
def State.arcHead (s : State) (h : Nat) : ArcHead := s.arc.heads.getD h ArcHead.fresh

/-- R314: the head is archived. -/
def State.arcOn (s : State) (h : Nat) : Bool :=
  s.bit F.ARC_CTRL_EN && s.bit F.ARC_HEAD_CFG_EN h && s.fld F.ARC_RING_ROWS_ROWS h != 0

/-- R332: the ratio code of a new row. -/
def State.rowRcode (s : State) (h : Nat) : Nat :=
  if s.throttled 3 then 3 else s.fld F.ARC_HEAD_CFG_RCODE h

/-- The row that takes the head's lines now. -/
def State.openRow_ (s : State) (h : Nat) : Option ArcRow := (s.arcHead h).rows.find? (fun r => !r.ended)

/-- R330, R331: bytes in the output buffer of a head's encoder: blocks whose write has not returned, or is to be repeated. -/
def State.encoderBytes (s : State) (h : Nat) : Nat :=
  sumN (((s.mem.ops ++ s.arc.werr).filter (fun o => match o.owner with
    | .arcBlock g _ _ _ => g == h
    | _ => false)).map (fun o => o.data.length))

/-- R330: the output buffer has room for a block of a ratio. -/
def State.blockRoom (s : State) (h rcode : Nat) : Bool := decide (s.encoderBytes h + blockBytes rcode ≤ 4096)

/-- R200, R330: the encoder of a head takes words: every block of the lines before has been coded, and there is room for the
next one. -/
def State.arcRoom (s : State) (h : Nat) : Bool :=
  !s.arcOn h || ((s.arcHead h).pend.isEmpty && s.blockRoom h (match s.openRow_ h with
    | some r => r.rcode
    | none => s.rowRcode h))

/-- The line at the front of a port's FIFO may leave it: the encoder takes words of its head (R20, R330). -/
def State.canDeliver (s : State) (p : Nat) : Bool :=
  match (s.camPort p).fifo with
  | [] => false
  | (j, _) :: _ => s.arcRoom (headOf p j)

/-- R18: the lane-cycles that a line of head `h` occupies its quad for. -/
def State.lineCycles (s : State) (h : Nat) : Nat := 4 * ((s.headPixels h + 3) / 4 + 8)

/-- R18, R19: `n` PIX cycles of quad `q`: its account, and the lane-cycles in which it was starved and in which it was stalled.
A delivered line is worked off first; then the line at the front takes its lane-cycles, unless it is refused. -/
def State.quadTake (s : State) (q n : Nat) : (Nat × Nat) × Nat × Nat :=
  let a := s.pmc.quads.getD q (0, 0)
  let rest := 4 * n - a.1
  let left := a.1 - 4 * n
  match (s.camPort q).fifo with
  | [] =>
    if (List.range 2).any (fun j => !(s.arcHead (headOf q j)).pend.isEmpty) then ((left, 0), 0, rest)
    else ((left, 0), rest, 0)
  | (j, _) :: _ =>
    if s.canDeliver q then
      let used := min (s.lineCycles (headOf q j)) (a.2 + rest)
      ((left, used), 0, a.2 + rest - used)
    else ((left, a.2), 0, rest)

/-- R19: `n` PIX cycles of every quad; the starved and stalled lane-cycles count (R482). -/
def State.quadCycles (s : State) (n : Nat) : State :=
  let takes := (List.range 16).map (fun q => s.quadTake q n)
  let s := { s with pmc := { s.pmc with quads := takes.map (·.1) } }
  let s := forBelow 16 (fun q t =>
    let x := takes.getD q ((0, 0), 0, 0)
    (t.pmcCount (0x102 + 4 * q) x.2.1).pmcCount (0x103 + 4 * q) x.2.2) s
  (s.pmcCount 0x142 (sumN (takes.map (·.2.1)))).pmcCount 0x143 (sumN (takes.map (·.2.2)))

/-- R18: a line of head `h` leaves the FIFO of its quad: what it has not had of its lane-cycles is still to pass. -/
def State.quadLine (s : State) (h : Nat) : State :=
  let q := portOf h
  let a := s.pmc.quads.getD q (0, 0)
  { s with pmc := { s.pmc with quads := s.pmc.quads.set q (a.1 + s.lineCycles h - a.2, 0) } }

end Sys2Proof.Machine
end

