-- ==== Sys2Proof/Machine/Records.lean ====
section
/-! DEFINITION. Machine/Records.lean: forming records and putting them on their way (spec/02 R61 to R68, spec/14 R415 and
R419, spec/15 R464 and R465), GAP records, the callboard and HEALTH records (spec/18 R536 to R540). -/

namespace Sys2Proof.Machine

/-- The number of a latency class in LCLASS (R61). -/
def classCode (c : LClass) : Nat :=
  match c with
  | .cue => 0
  | .routine => 1
  | .bulk => 2

/-- The virtual channel of a RECORD packet (R448). -/
def classVc (c : LClass) : Nat :=
  match c with
  | .cue => 1
  | .routine => 3
  | .bulk => 4

/-- The device's own fabric address; 0 when it has none. -/
def State.fabAddr (s : State) : FabAddr := BitVec.ofNat 12 (s.fld F.FAB_STATUS_ADDR)

/-- The address of the device's sink; 0 when it has none (R464). -/
def State.sink (s : State) : FabAddr := BitVec.ofNat 12 (s.fld F.FAB_STATUS_SINK)

/-- R457: the route table's entry for an address: 0 to 5 a port, 6 the device itself, 15 none. -/
def State.route (s : State) (a : FabAddr) : Nat := (s.tab (0x12400000 + 4 * a.toNat)).toNat % 16

/-- R63: write the device's address into the fields that name it, as the record leaves. -/
def fillSelf (addr : FabAddr) (places : List (Nat × Nat)) (ws : List DWord) : List DWord :=
  match places with
  | [] => ws
  | (w, lo) :: r =>
    fillSelf addr r (ws.set (w - 1)
      ((ws.getD (w - 1) 0 &&& ~~~(BitVec.ofNat 64 (0xFFF * 2 ^ lo))) ||| BitVec.ofNat 64 (addr.toNat * 2 ^ lo)))

/-- R61, R63: the words of a record as it leaves a device of address `addr`. -/
def Record.wire (r : Record) (addr : FabAddr) : List DWord :=
  let src := (r.src.getD addr).toNat
  packWord [(32, r.seq.toNat), (20, src), (18, classCode r.cls), (12, r.words.length), (8, 1), (0, r.typ)]
    :: fillSelf addr r.self r.words

/-- R61: a record read back from its words (a relayed record keeps SEQ and SRC, R62). -/
def recordOfWords (ws : List DWord) : Option Record :=
  match ws with
  | [] => none
  | w :: r =>
    let n := w.toNat
    let cls := match bitsOf n 18 2 with
      | 0 => some LClass.cue
      | 1 => some LClass.routine
      | 2 => some LClass.bulk
      | _ => none
    match cls with
    | none => none
    | some c => some ⟨some (BitVec.ofNat 12 (bitsOf n 20 12)), BitVec.ofNat 32 (bitsOf n 32 32), c, bitsOf n 0 8, r, []⟩

/-- The GAP record type of R66. -/
def tyGap : Nat := 0x10

/-- R415, R419: a record enters the device's own host queue of its class, or is dropped and counted. The last 512 entries
of the ROUTINE queue take GAP records only. -/
def State.hostEnqueue (s : State) (r : Record) : State :=
  match r.cls with
  | .cue =>
    if s.hst.cueQ.length < 1024 then { s with hst := { s.hst with cueQ := s.hst.cueQ ++ [r] } }
    else (s.count .HST_DROP_CUE_CNT).raise F.HST_EVENT_REC_DROP
  | .routine =>
    if s.hst.routineQ.length < (if r.typ == tyGap then 8192 else 7680) then
      { s with hst := { s.hst with routineQ := s.hst.routineQ ++ [r] } }
    else (s.count .HST_DROP_ROUTINE_CNT).raise F.HST_EVENT_REC_DROP
  | .bulk =>
    if s.hst.bulkQ.length < 8192 then { s with hst := { s.hst with bulkQ := s.hst.bulkQ ++ [r] } }
    else (s.count .HST_DROP_BULK_CNT).raise F.HST_EVENT_REC_DROP

/-- R415, R420: a record joins the job-stream queue of 256, or waits for room there: a job stream is never dropped. -/
def State.jobEnqueue (s : State) (r : Record) : State :=
  if s.hst.jobQ.length < 256 && s.hst.jobWait.isEmpty then
    { s with hst := { s.hst with jobQ := s.hst.jobQ ++ [r] } }
  else { s with hst := { s.hst with jobWait := s.hst.jobWait ++ [r] } }

/-- Change one fabric port. -/
def State.setFabPort (s : State) (f : Nat) (p : FabPort) : State :=
  { s with fab := { s.fab with ports := s.fab.ports.set f p } }

/-- A fabric port as it starts: nothing queued, no credits used. -/
def FabPort.fresh : FabPort :=
  ⟨[[], [], [], [], []], false, [64, 256, 1024, 1536, 1216], [], 0, 0, false, 0, 0, [], 0, none, 0, 0, 0, 0, 0⟩

/-- One fabric port. -/
def State.fabPort (s : State) (f : Nat) : FabPort := s.fab.ports.getD f FabPort.fresh

/-- The state of a fabric port, with the codes of FAB_PSTATf.STATE (R453). -/
def FabSt.ofCode (n : Nat) : FabSt :=
  match n with
  | 1 => .link
  | 2 => .hello
  | 3 => .up
  | 4 => .low
  | _ => .off

/-- The code of a fabric port state. -/
def FabSt.code (t : FabSt) : Nat :=
  match t with
  | .off => 0
  | .link => 1
  | .hello => 2
  | .up => 3
  | .low => 4

/-- The state a fabric port is in. -/
def State.fabSt (s : State) (f : Nat) : FabSt := FabSt.ofCode (s.fld F.FAB_PSTAT_STATE f)

/-- A packet joins the output queue of its VC at port `f`. -/
def State.fabQueue (s : State) (f : Nat) (o : OutPkt) : State :=
  let p := s.fabPort f
  s.setFabPort f { p with outq := p.outq.set o.vc (p.outq.getD o.vc [] ++ [o]) }

/-- R458: a packet without a route, or whose route names a port that is not in UP, is discarded and counted. -/
def State.fabSend (s : State) (o : OutPkt) : State :=
  let f := s.route o.dst
  if f < 6 && s.fabSt f == .up then s.fabQueue f o
  else (s.count .FAB_NOROUTE_CNT).raise F.FAB_EVENT_NOROUTE

/-- R415, R448, R465: the job stream of this device leaves for the fabric: RELAY is 1, and another device is the sink. -/
def State.relaysJobs (s : State) : Bool := s.bit F.ARC_CTRL_RELAY && s.sink != 0 && s.sink != s.fabAddr

/-- R420, R465: a job-stream record leaves as a JOB packet, or joins the queue of its own. -/
def State.jobSend (s : State) (r : Record) : State :=
  if s.relaysJobs then s.fabSend ⟨s.sink, 4, 5, .record r⟩ else s.jobEnqueue r

/-- R464, R465: a record leaves for the device's sink, or enters the device's own host queues. -/
def State.enqueue (s : State) (r : Record) : State :=
  if s.sink != 0 && s.sink != s.fabAddr then
    s.fabSend ⟨s.sink, classVc r.cls, 0, .record r⟩
  else s.hostEnqueue r

/-- R62: a record is formed: it takes the next SEQ of its class. -/
def State.formRecord (s : State) (cls : LClass) (typ : Nat) (words : List DWord) (self : List (Nat × Nat)) : State :=
  let k := classCode cls
  let seq := s.seqs.getD k 0
  let t := { s with seqs := s.seqs.set k (seq + 1) }
  (t.pmcCount (0x162 + k) 1).enqueue ⟨none, seq, cls, typ, words, self⟩

/-- R67: the code of a reason. -/
def GapReason.code (g : GapReason) : Nat :=
  match g with
  | .linkLoss => 1
  | .lineMalformed => 2
  | .densityOverflow => 3
  | .thermalShed => 4
  | .posUncertain => 5
  | .faultDiscard => 6
  | .supplyLoss => 7
  | .staleCal => 8

/-- R67: the fixed grade of a reason: 0 NOT_INSPECTED, 1 DEGRADED. -/
def GapReason.grade (g : GapReason) : Nat :=
  match g with
  | .linkLoss => 0
  | .lineMalformed => 0
  | .densityOverflow => 1
  | .thermalShed => 1
  | .posUncertain => 1
  | .faultDiscard => 0
  | .supplyLoss => 0
  | .staleCal => 1

/-- R261: the words of a GAP record from word 1 on. -/
def gapWords (now : Tick) (h : Nat) (g : GapReason) (l0 l1 : LineNo) (y0 y1 : YPos) (xlo xhi : BitVec 40) : List DWord :=
  [now, packWord [(59, h), (58, g.grade), (40, g.code), (0, l0.toNat)], zext64 l1, zext64 y0, zext64 y1,
   sext64 xlo, sext64 xhi]

/-- X of a head's first and last owned columns under the registration that it applies. -/
def State.edgesNow (s : State) (h : Nat) : BitVec 40 × BitVec 40 := (s.xOf h (s.ownedLo h), s.xOf h (s.ownedHi h - 1))

/-- R261: X of a head's first and last owned columns under the registration in effect at line `n`. -/
def State.gapEdges (s : State) (h : Nat) (n : LineNo) : BitVec 40 × BitVec 40 :=
  let now := s.edgesNow h
  let hist := s.sti.regHist.getD h []
  match hist.find? (fun e => atOrAfter n e.1) with
  | some e => e.2
  | none => (hist.getLast?.map (·.2)).getD now

/-- R8, R261: one GAP record for a head's span. -/
def State.formGap (s : State) (h : Nat) (g : GapReason) (l0 l1 : LineNo) (y0 y1 : YPos) : State :=
  s.formRecord .routine tyGap
    (gapWords s.tick h g l0 l1 y0 y1 (s.gapEdges h l0).1 (s.gapEdges h l0).2) []

/-- R530: a save slot that is valid: written whole, with its MAGIC in place. -/
def Slot.book (x : Slot) : Option Book :=
  match x with
  | .whole b => if b.written then some b else none
  | _ => none

/-- R530: the valid slot with the highest COUNTER. -/
def newestSlot (slots : List Slot) : Option (Nat × Book) :=
  (List.range slots.length).foldl (fun best i =>
    match (slots.getD i .erased).book, best with
    | none, _ => best
    | some b, none => some (i, b)
    | some b, some (j, c) => if c.counter < b.counter then some (i, b) else some (j, c)) none

/-- COUNTER of the newest valid slot, 0 when there is none. -/
def State.newestCounter (s : State) : Nat :=
  match newestSlot s.pwr.slots with
  | none => 0
  | some x => x.2.counter

/-- R540: the words of a HEALTH record from word 1 on. -/
def State.healthWords (s : State) (kind cls unit detail arg : Nat) : List DWord :=
  [s.tick,
   packWord [(56, kind), (48, cls), (40, unit), (32, detail), (0, (s.rd .PWR_CB_STATUS).toNat)],
   packWord [(0, (s.rd .SEC_SERIAL_LO).toNat), (32, (s.rd .SEC_SERIAL_HI).toNat)],
   packWord [(61, s.mode.code), (58, s.fld F.THM_STATUS_LEVEL), (57, s.fld F.THM_STATUS_WARN),
     (56, s.fld F.THM_STATUS_THROTTLE), (55, s.fld F.THM_STATUS_DRAM_CRIT), (32, s.fld F.THM_STATUS_HOT_T),
     (16, s.pwr.vkeep)],
   packWord [(0, arg % 2 ^ 40)],
   packWord [(32, s.pwr.mirror.calib.gen.toNat), (0, s.fld F.THM_BROKEN_V)],
   BitVec.ofNat 64 s.newestCounter]

/-- A HEALTH record (R540). -/
def State.health (s : State) (kind cls unit detail arg : Nat) : State :=
  s.formRecord .routine 0x50 (s.healthWords kind cls unit detail arg) []

/-- R539: an entry joins the callboard: entry n sits at index n modulo 512, and TOTAL counts it. -/
def State.callboard (s : State) (cls unit detail arg : Nat) : State :=
  let n := (s.rd .PWR_CB_STATUS).toNat
  let e : CbEntry := ⟨packWord [(56, cls), (48, unit), (40, detail), (0, arg % 2 ^ 40)], s.tick⟩
  let b := s.pwr.mirror.board
  let b' := if b.length < 512 && n % 512 == b.length then b ++ [e] else b.set (n % 512) e
  let t := { s with pwr := { s.pwr with mirror := { s.pwr.mirror with board := b' } } }
  t.count .PWR_CB_STATUS

/-- The fault classes of R68. -/
inductive FaultClass where
  | link | data | memUe | thermal | supply | config | encoder | camera | mark | evtLoop
  deriving DecidableEq, Repr

/-- R68: the code of a fault class. -/
def FaultClass.code (c : FaultClass) : Nat :=
  match c with
  | .link => 1
  | .data => 2
  | .memUe => 3
  | .thermal => 4
  | .supply => 5
  | .config => 6
  | .encoder => 7
  | .camera => 8
  | .mark => 9
  | .evtLoop => 10

/-- R536: a fault writes one callboard entry and, outside DARK and LOAD, emits one HEALTH record of KIND 1. -/
def State.fault (s : State) (c : FaultClass) (unit detail arg : Nat) : State :=
  let t := s.callboard c.code unit detail arg
  if s.mode == .dark || s.mode == .load then t else t.health 1 c.code unit detail arg

end Sys2Proof.Machine
end

