-- ==== Sys2Proof/Machine/Clock.lean ====
section
/-! DEFINITION. Machine/Clock.lean: the passing of time: TCLK cycles, the time base (spec/14 R431, R436), and the PIX
cycles that PMC counts (spec/16 R481, R483). -/

namespace Sys2Proof.Machine

/-- R434: a time base from its count of 2^-48 ns. -/
def TimeBase.ofCount (n : Nat) : TimeBase :=
  let ns := n / 2 ^ 48
  ⟨BitVec.ofNat 48 (ns / 1000000000), ns % 1000000000, BitVec.ofNat 48 n⟩

/-- A time base as a count of 2^-48 ns. -/
def TimeBase.toCount (t : TimeBase) : Nat := (t.sec.toNat * 1000000000 + t.ns) * 2 ^ 48 + t.sub.toNat

/-- The length of the whole time base: 2^48 seconds in units of 2^-48 ns. -/
def timeModulus : Nat := 2 ^ 48 * 1000000000 * 2 ^ 48

/-- The rate correction ADJ, signed (R431). -/
def State.adj (s : State) : Int := signedOf 40 (s.getPair .TIM_ADJ_L .TIM_ADJ_H)

/-- R431: what the time base adds in one TCLK cycle, in units of 2^-48 ns; ADJ is limited to 1,000 ppm. -/
def State.rate (s : State) : Int := 2 ^ 48 + clampI (-281474976711) 281474976711 s.adj

/-- R434: an amount in units of 2^-48 ns is added to the time base. -/
def State.addTime (s : State) (d : Int) : State :=
  let n := ((s.tim.base.toCount : Int) + d) % (timeModulus : Int)
  { s with tim := { s.tim with base := TimeBase.ofCount n.toNat } }

/-- R483: the window's last cycle: every counter is copied to its result, the counters clear, WIN_DONE is raised, and the
next window starts under the settings as they now stand. -/
def State.pmcWindowEnd (s : State) : State :=
  let s := forBelow 8 (fun i t =>
    let v := t.pmcValue i
    (t.setPair .PMC_RES_LO .PMC_RES_HI i 16 v).setPair .PMC_CNT_LO .PMC_CNT_HI i 16 0) s
  let s := s.raise F.PMC_EVENT_WIN_DONE
  let win := s.rd .PMC_WIN
  { s with pmc := { s.pmc with
    ctrl := s.rd .PMC_CTRL
    win := win
    left := atLeast1 win.toNat
    endAt := some s.pmc.cyc } }

/-- R483: windows run in MODE 1 and 2 while RUN is 1. -/
def State.pmcWindows (s : State) : Bool :=
  F.PMC_CTRL_RUN.get s.pmc.ctrl == 1 && (F.PMC_CTRL_MODE.get s.pmc.ctrl == 1 || F.PMC_CTRL_MODE.get s.pmc.ctrl == 2)

/-- R19, R481: `n` PIX cycles pass. A window that would end among them stays at its last cycle until PMC_WINDOW_END. -/
def State.pixCycles (s : State) (n : Nat) : State :=
  let s := (s.quadCycles n).pmcCount 0x1FF n
  let left := if s.pmcWindows then s.pmc.left - n else s.pmc.left
  { s with pmc := { s.pmc with cyc := (s.pmc.cyc + n) % 2 ^ 64, left := left } }

/-- The model's clock, and the part of a PIX cycle that is left over. -/
def State.passClock (s : State) (n frac : Nat) : State :=
  { s with clk := s.clk + n, pmc := { s.pmc with cycFrac := frac } }

/-- `n` TCLK cycles pass (notes/assumptions/6): the model's clock, the time base in every mode except DARK (R436), 13 PIX
cycles for every 10 TCLK cycles (none in STANDBY, in which PIX is off, R473, R507), and one ECLK cycle for every 4 (spec/01,
clock domains). A carry out of the nanoseconds raises SECOND (R431). -/
def State.advance (s : State) (n : Nat) : State :=
  if n == 0 then s
  else
    let pix := (s.pmc.cycFrac + 13 * n) / 10
    let frac := (s.pmc.cycFrac + 13 * n) % 10
    let s := s.passClock n frac
    if s.mode == .dark then s
    else
      let before := s.tim.base.sec
      let s := (if s.mode == .standby then s else s.pixCycles pix).addTime (s.rate * n)
      let s := if s.tim.base.sec != before then s.raise F.TIM_EVENT_SECOND else s
      if s.mode == .standby then s else s.cellCycles

end Sys2Proof.Machine
end

