-- ==== Sys2Proof/Machine/PosOps.lean ====
section
/-! DEFINITION. Machine/PosOps.lean: web position, cues, rollers, speed and the emulated outputs (spec/09). -/

namespace Sys2Proof.Machine

/-- The model's clock in samples of 5 ns (spec/09). -/
def State.sample (s : State) : Nat := s.clk / 5

/-- A channel as it stands after reset. -/
def EncCh.fresh : EncCh := ⟨false, false, false, [], 0, 0, none, none, 0, false, 0⟩

/-- An output as it stands after reset. -/
def Emu.fresh : Emu := ⟨0, 0, 0, none, false, 0⟩

/-- Encoder channel `c`. -/
def State.ench (s : State) (c : Nat) : EncCh := s.pos.chans.getD c EncCh.fresh

/-- Change encoder channel `c`. -/
def State.setEnch (s : State) (c : Nat) (x : EncCh) : State :=
  { s with pos := { s.pos with chans := s.pos.chans.set c x } }

/-- Emulated output `k`. -/
def State.emu (s : State) (k : Nat) : Emu := s.pos.emus.getD k Emu.fresh

/-- Change emulated output `k`. -/
def State.setEmu (s : State) (k : Nat) (x : Emu) : State :=
  { s with pos := { s.pos with emus := s.pos.emus.set k x } }

/-- The mode of a channel: 0 off, 1 quadrature, 2 index; 3 is 0, and 2 is 1 for ENC0 (POS_CHCFGc). -/
def State.chMode (s : State) (c : Nat) : Nat :=
  let m := s.fld F.POS_CHCFG_MODE c
  if m == 3 then 0 else if c == 0 && m == 2 then 1 else m

/-- R507: POS is powered: the device is neither in reset nor in DARK, nor in STANDBY before its exit begins (R508). -/
def State.posOn (s : State) : Bool :=
  s.glb.powered && s.mode != .dark && (s.mode != .standby || s.glb.trans == some .wakeUp)

/-- POS_SCALE; 0 is treated as 1 (R270). -/
def State.posScale (s : State) : Nat := atLeast1 (s.getPair .POS_SCALE_L .POS_SCALE_H)

/-- R266, R274: the filtered Z of channel `c` takes a new level. -/
def State.takeZ (s : State) (c : Nat) (z : BitVec 4) : State :=
  s.setEnch c { s.ench c with z := filter3of4 (s.ench c).z z }

/-- R274: an accepted Z edge: the filtered Z of channel `c` rises. -/
def State.zRises (s : State) (c : Nat) (z : BitVec 4) : Bool := !(s.ench c).z && filter3of4 (s.ench c).z z

/-- R267: what new filtered levels mean: no change, a count with its direction (true for backward), or an illegal
transition (R269). -/
inductive Quad where
  | same
  | count (back : Bool)
  | illegal
  deriving DecidableEq, Repr

/-- R267, R269: decode new levels of A and B against those the channel holds. -/
def quadDecode (dir : Bool) (a b a' b' : Bool) : Quad :=
  if a != a' && b != b' then .illegal
  else if a != a' then .count (xor (a' == b) dir)
  else if b != b' then .count (xor (b' != a) dir)
  else .same

/-- R272, R283: three illegal transitions lie within 1,024 consecutive samples. -/
def threeIllegal (xs : List Nat) : Bool :=
  match xs with
  | x :: _ :: z :: _ => decide (x - z < 1024)
  | _ => false

/-- R269: an illegal transition of channel `c` is counted and the count does not change. -/
def State.noteIllegal (s : State) (c : Nat) (a b : Bool) : State :=
  let ch := s.ench c
  (s.setEnch c { ch with a := a, b := b, illegal := (s.sample :: ch.illegal).take 3, dirty := s.sample }).count .POS_QERR_CNT c

/-- R281, R282: the phase of roller `c` (1 to 7) now. -/
def State.rollerPhase (s : State) (c : Nat) : Phase :=
  let ch := s.ench c
  if s.chMode c == 1 then
    BitVec.ofNat 16 (ch.count * 65536 / atLeast1 (s.fld F.POS_CPR_CPR (c - 1)))
  else if s.chMode c == 2 then
    match ch.tz, ch.period with
    | some t, some p => BitVec.ofNat 16 (min ((s.clk - t) * 65536 / atLeast1 p) 65535)
    | _, _ => 0
  else 0

/-- R273, R283: 65,536 consecutive samples of channel `c` have passed with no illegal transition and no wire fault. -/
def State.cleanRun (s : State) (c : Nat) : Bool :=
  (s.ench c).wires == 0 && decide ((s.ench c).dirty + 65536 ≤ s.sample)

/-- R286: no count has arrived for STOP_TMO; 0 is treated as 1. -/
def State.standstill (s : State) : Bool :=
  decide (s.pos.lastCount.getD 0 + 200 * atLeast1 (s.fld F.POS_SPD_CFG_STOP_TMO) ≤ s.sample)

/-- R283: more than min(2 × T, PMAX) has passed since t_z of channel `c`; without a valid period, more than PMAX. -/
def State.indexOverdue (s : State) (c : Nat) : Bool :=
  let ch := s.ench c
  let pmax := atLeast1 (s.fld F.POS_IDX_PMAX (c - 1)) * 100000
  match ch.tz with
  | none => false
  | some t => decide ((match ch.period with | some p => min (2 * p) pmax | none => pmax) < s.clk - t)

/-- R285: the period estimate v_p in µm/s. -/
def State.speedPeriod (s : State) : Nat :=
  match s.pos.tp, s.pos.lastCount with
  | some tp, some t => s.posScale * 200000000 / (atLeast1 (max tp (s.sample - t)) * 2 ^ 32)
  | _, _ => 0

/-- The window WIN in µs; 0 is treated as 1. -/
def State.speedWin (s : State) : Nat := atLeast1 (s.fld F.POS_SPD_CFG_WIN)

/-- R285: the counts of the last WIN µs. -/
def State.windowCounts (s : State) : List (Nat × Bool) :=
  s.pos.recent.filter (fun e => s.sample < e.1 + 200 * s.speedWin)

/-- R285: the net count of the window. -/
def State.windowNet (s : State) : Int :=
  s.windowCounts.foldl (fun a e => if e.2 then a - 1 else a + 1) 0

/-- R285: the window estimate v_w in µm/s, its sign taken off: the net count in the direction of travel. -/
def State.speedWindow (s : State) : Int :=
  let n := if s.pos.lastDir then - s.windowNet else s.windowNet
  Int.fdiv (n * s.posScale * 1000000) ((s.speedWin * 2 ^ 32 : Nat) : Int)

/-- R288: the blended speed: v_p + w (v_w - v_p), w = clamp((v_p - V_X) / V_X, 0, 1), rounded toward minus infinity and
limited to the field. -/
def State.speedBlend (s : State) : Nat :=
  let vp : Int := s.speedPeriod
  let vx : Int := atLeast1 (s.fld F.POS_SPD_XOVER_V_X)
  let num := clampI 0 vx (vp - vx)
  (clampI 0 0x3FFFFFF (vp + Int.fdiv (num * (s.speedWindow - vp)) vx)).toNat

/-- R286, R287: VALID: two counts in one direction have come. -/
def State.speedValid (s : State) : Bool := s.bit F.POS_SPEED_VALID

/-- The speed that POS_SPEED and the marking heads take (R288). -/
def State.speed (s : State) : Nat := if s.speedValid then s.speedBlend else 0

/-- The web moves fast enough to inspect (R502, R503): VALID and SPEED at or above VMIN. -/
def State.runSpeed (s : State) : Bool :=
  s.speedValid && decide (atLeast1 (s.fld F.GLB_RUN_CFG_VMIN) ≤ s.speed)

/-- R286, R287: the speed flags after a count in a direction. -/
def State.speedCount (s : State) (back : Bool) : State :=
  let now := s.sample
  let p := s.pos
  let stopped := s.bit F.POS_SPEED_STOPPED
  let first := stopped || p.lastCount.isNone
  let reversal := !first && p.lastDir != back
  let tp := if first || reversal then none else p.lastCount.map (fun t => now - t)
  let s := { s with pos := { p with
    lastCount := some now, lastDir := back, tp := tp, recent := (now, back) :: s.windowCounts } }
  let s := s.putB F.POS_SPEED_DIR 0 back
  let s := s.put F.POS_SPEED_STOPPED 0 0
  let s := s.putB F.POS_SPEED_STARTING 0 first
  let s := s.putB F.POS_SPEED_VALID 0 tp.isSome
  if first then s.raise F.POS_EVENT_START else s

/-- R289: carry an accumulator into the owed count; `n` bounds the carries. -/
def emuCarry (m : Int) (n : Nat) (a o : Int) : Int × Int :=
  match n with
  | 0 => (a, o)
  | k + 1 => if m ≤ a then emuCarry m k (a - m) (o + 1) else if a < 0 then emuCarry m k (a + m) (o - 1) else (a, o)

/-- R289, R290: an ENC0 count reaches output `k`, unless it would take the owed count beyond 1,023. MONO and ZDIV act from
it on (POS_EMU_CTLk). -/
def State.emuCount (s : State) (k : Nat) (back : Bool) : State :=
  let s := s.setEmu k { s.emu k with mono := s.bit F.POS_EMU_CTL_MONO k, zdiv := s.fld F.POS_EMU_CTL_ZDIV k }
  let e := s.emu k
  let n : Int := s.fld F.POS_EMU_CFG_N k
  let m : Int := atLeast1 (s.fld F.POS_EMU_CFG_M k)
  let r := emuCarry m 65537 (if back then e.acc - n else e.acc + n) e.owed
  if r.2.natAbs > 1023 then (s.count .POS_EMU_OVF_CNT).raise F.POS_EVENT_EMU_OVF
  else s.setEmu k { e with acc := r.1, owed := r.2 }

/-- R292: output `k` is driven: EN is 1, and the device is in none of STANDBY and DARK. Elsewhere it is at high impedance. -/
def State.emuDriven (s : State) (k : Nat) : Bool :=
  s.glb.powered && s.bit F.POS_EMU_CTL_EN k && s.mode != .standby && s.mode != .dark

/-- R289, R291: output `k` takes one step toward its owed count, if it owes one and its 40 ns have passed. With MONO a
negative count is held as a debt. Z is high at positions that are multiples of ZDIV. The step shows where the output is
driven (R292). -/
def State.emuStep (s : State) (k : Nat) : State :=
  let e := s.emu k
  let ready := match e.lastStep with
    | none => true
    | some t => decide (t + 40 ≤ s.clk)
  if ready && (decide (0 < e.owed) || (decide (e.owed < 0) && !e.mono)) then
    let up := decide (0 < e.owed)
    let pos := if up then e.pos + 1 else e.pos - 1
    let t := s.setEmu k
      { e with owed := (if up then e.owed - 1 else e.owed + 1), pos := pos, lastStep := some s.clk }
    if s.emuDriven k then t.emit (.qout k (pos % 4).toNat (e.zdiv != 0 && pos % e.zdiv == 0)) else t
  else s

/-- The heads whose port is in RUN (CAM_STATUS.STATE 4). -/
def State.runHead (s : State) (h : Nat) : Bool :=
  s.headUsed h && s.fld F.CAM_STATUS_STATE (portOf h) == 4

/-- One GAP for every head in RUN, from positions of the master before the heads' mounting distances (R15, R273, R278). -/
def State.gapAllRun (s : State) (g : GapReason) (l0 l1 : LineNo) (y0 y1 : YPos) : State :=
  forBelow 32 (fun h t => if t.runHead h then t.formGap h g l0 l1 (t.webY h y0) (t.webY h y1) else t) s

/-- R278: the open span of skipped cue points closes and is sent. -/
def State.closeSkip (s : State) : State :=
  match s.pos.skip with
  | none => s
  | some k =>
    let s := s.gapAllRun .posUncertain k.l0 k.l1 k.y0 k.y1
    { s with pos := { s.pos with skip := none } }

/-- R273: the span of an encoder fault is over. -/
def State.uncertainOver (s : State) : State :=
  ({ s with pos := { s.pos with unc := none, uncEnding := false, faultLine := false } } : State).put
    F.POS_STATUS_UNCERTAIN 0 0

/-- R273: the span of an encoder fault is sent up to a boundary line, and goes on behind it or ends there. -/
def State.closeUncertain (s : State) (bound : LineNo) (y : YPos) : State :=
  match s.pos.unc with
  | none => s
  | some u =>
    let s := s.gapAllRun .posUncertain u.1 (bound - 1) u.2 (y - 1)
    if s.pos.uncEnding then s.uncertainOver
    else { s with pos := { s.pos with unc := some (bound, y) } }

/-- R293: POS_CUE_CNT counts cues and wraps. -/
def State.countCue (s : State) : State :=
  s.setPair .POS_CUE_CNT_L .POS_CUE_CNT_H 0 8 ((s.getPair .POS_CUE_CNT_L .POS_CUE_CNT_H + 1) % 2 ^ 40)

/-- R13, R14, R275: a cue is issued: its line number, its tag, and the spans of R273 and R278 that it bounds. -/
def State.issueCue (s : State) : State :=
  let p := s.pos
  let n := p.nextLine
  let y : YPos := BitVec.ofNat 40 ((p.q.toNat + 2 ^ 31) / 2 ^ 32)
  let prevRevs := match p.tags with
    | [] => List.replicate 7 0
    | t :: _ => t.revs
  let phases := (List.range 7).map (fun c => s.rollerPhase (c + 1))
  let prevPh := match p.tags with
    | [] => phases
    | t :: _ => t.phases
  let revs := (List.range 7).map (fun c =>
    let d := sdiff (phases.getD c 0) (prevPh.getD c 0)
    let wrapUp := decide (0 < d) && decide ((phases.getD c 0).toNat < (prevPh.getD c 0).toNat)
    prevRevs.getD c 0 + (if wrapUp then 1 else 0))
  let yNext : YPos := BitVec.ofNat 40 ((p.q.toNat + s.pitchY * 65536 + 2 ^ 31) / 2 ^ 32)
  let tag : Tag := ⟨n, y, yNext, phases, s.fld F.POS_STATUS_RFLT, revs⟩
  let boundary := n.toNat % s.stripLen == 0
  -- R278: extend, open or close the span of skips
  let s := match p.skip, p.skipped with
    | some k, true => { s with pos := { p with skip := some { k with l1 := n - 1, y1 := y - 1 } } }
    | none, true => { s with pos := { p with skip := some ⟨n - 1, p.lastCueY, n - 1, y - 1⟩ } }
    | some _, false => s.closeSkip
    | none, false => s
  let s := if boundary then s.closeSkip else s
  -- R273: the first line cued since the fault, and the boundary
  let s := if s.pos.faultLine then
      if boundary && s.pos.uncEnding then s.uncertainOver
      else { s with pos := { s.pos with unc := some (n, y), faultLine := false } }
    else s
  let s := if boundary && s.pos.unc != some (n, y) then s.closeUncertain n y else s
  let s := { s with pos := { s.pos with
    nextLine := n + 1, lastCue := some s.clk, lastCueY := y, skipped := false,
    tags := (tag :: s.pos.tags).take 1024,
    firstTag := (match s.pos.firstTag with | none => some tag | some t => some t) } }
  let s := s.setPair .POS_LINE_L .POS_LINE_H 0 8 n.toNat
  let s := s.countCue
  let s := s.fire 0x20
  if boundary then s.fire 0x21 else s
/-- R276: cues are issued in REHEARSE and PERFORM with EN = 1, and not once HOLD entry has begun (R504). -/
def State.cuesOn (s : State) : Bool :=
  s.inspecting && s.bit F.POS_CTRL_EN && s.glb.trans.isNone

/-- R275 to R277: P has reached the next cue point: a cue, a skip, or neither; Q advances in every case. Answers whether a
cue was issued. -/
def State.cuePoint (s : State) : State × Bool :=
  let soon := match s.pos.lastCue with
    | none => false
    | some t => decide (s.clk < t + s.fld F.POS_CUE_MIN_CUE_MIN)
  let next := s.pos.q + BitVec.ofNat 72 (s.pitchY * 65536)
  let r := if s.cuesOn then
      if soon then
        (({ s with pos := { s.pos with skipped := true } } : State).count .POS_SKIP_CNT |>.raise F.POS_EVENT_OVERSPEED, false)
      else (s.issueCue, true)
    else (s, false)
  ({ r.1 with pos := { r.1.pos with q := next } }, r.2)

/-- R270, R279: C, P and H after a count. -/
def State.moveCount (s : State) (back : Bool) : State :=
  let p := s.pos
  let sc : BitVec 72 := BitVec.ofNat 72 s.posScale
  let c := if back then p.c - 1 else p.c + 1
  let pp := if back then p.p - sc else p.p + sc
  let h := later pp p.h
  let far := decide (((s.fld F.POS_BACKLASH_BACKLASH * s.posScale : Nat) : Int) < sdiff h pp)
  let raised := if pp == h then false else p.revRaised
  let s := { s with pos := { p with
    c := c, p := pp, h := h, revRaised := raised || far } }
  if far && !raised then (s.count .POS_REV_CNT).raise F.POS_EVENT_REVERSE else s

/-- R270: a count of ENC0: position, cue, speed and the emulated outputs. Answers whether a cue was issued. -/
def State.masterCount (s : State) (back : Bool) : State × Bool :=
  let s := s.moveCount back
  let r := if decide (0 ≤ sdiff s.pos.p s.pos.q) then s.cuePoint else (s, false)
  let s := r.1.speedCount back
  ((s.emuCount 0 back).emuCount 1 back, r.2)

/-- R272: ENC0 enters encoder fault. `detail` is 1 for illegal transitions, 2 for a wire fault. -/
def State.encFaultEntry (s : State) (detail : Nat) : State :=
  if s.bit F.POS_STATUS_ENC_FAULT then { s with pos := { s.pos with clean := false } }
  else
    let s := (s.put F.POS_STATUS_ENC_FAULT 0 1).put F.POS_STATUS_ZREFD 0 0
    let s := (s.raise F.POS_EVENT_ENC_FAULT).count .POS_ENCFLT_CNT
    let s := s.put F.POS_STATUS_UNCERTAIN 0 1
    let s := { s with pos := { s.pos with
      clean := false, uncEnding := false, faultLine := s.pos.unc.isNone } }
    s.fault .encoder 0 detail s.pos.nextLine.toNat

/-- R273: the encoder fault ends; its span closes before the next strip boundary that is cued, and still starts with the
first line cued since the fault's entry where none has been. -/
def State.encFaultEnd (s : State) : State :=
  let s := (s.put F.POS_STATUS_ENC_FAULT 0 0).raise F.POS_EVENT_ENC_CLEAR
  { s with pos := { s.pos with uncEnding := true, clean := false } }

/-- R273: a Z re-reference is required before the fault can end. -/
def State.zrefNeeded (s : State) : Bool := s.bit F.POS_CTRL_ZREF && s.fld F.POS_ZCFG_ZPERIOD != 0

/-- R274: e, the distance from ZREF0 folded around the index period. -/
def State.zError (s : State) : Int :=
  let per : Int := s.fld F.POS_ZCFG_ZPERIOD
  let m := (sdiff s.pos.c s.pos.zref) % per
  if per ≤ 2 * m then m - per else m

/-- R275: Q lies above P: it passes, without a cue, every cue point that P has reached (notes/assumptions/130). -/
def State.qAbove (s : State) (p : BitVec 72) : BitVec 72 :=
  let d := sdiff p s.pos.q
  let g := s.pitchY * 65536
  if d < 0 then s.pos.q else s.pos.q + BitVec.ofNat 72 ((d.toNat / g + 1) * g)

/-- R274, R509: take e off the count and off the position. H stays the largest P reached and Q above it (R275). -/
def State.zSubtract (s : State) (e : Int) : State :=
  let p := s.pos.p - BitVec.ofInt 72 (e * s.posScale)
  { s with pos := { s.pos with
    c := s.pos.c - BitVec.ofInt 40 e, p := p, h := later p s.pos.h, q := s.qAbove p } }

/-- R274: with a fault open and ZREF = 1, a Z re-references the count; after 65,536 clean samples the fault ends (R273). -/
def State.zReference (s : State) (e : Int) : State :=
  let t := (s.zSubtract e).put F.POS_STATUS_ZREFD 0 1
  if t.pos.clean then t.encFaultEnd else t

/-- R283: a cause of roller `c`'s fault flag holds. -/
def State.rollerCause (s : State) (c : Nat) : Bool :=
  let ch := s.ench c
  ch.wires != 0
    || (threeIllegal ch.illegal && decide (s.sample < ch.illegal.headD 0 + 1024))
    || ch.late
    || ((s.chMode c == 2 || s.bit F.POS_CHCFG_Z_EN c) && !(s.bit F.POS_ROLL_REF (c - 1)))

/-- R283: the flag of roller `c` sets when a cause holds; each setting raises RFLT. -/
def State.rollerCheck (s : State) (c : Nat) : State :=
  if s.chMode c != 0 && s.rollerCause c && !(s.bit F.POS_ROLL_FLT (c - 1)) then
    ((s.put F.POS_ROLL_FLT (c - 1) 1).put ⟨.POS_STATUS, 16 + c, 1⟩ 0 1).raise F.POS_EVENT_RFLT
  else s

/-- R283: the flag of roller `c` clears when every cause has ended. -/
def State.rollerClear (s : State) (c : Nat) : State :=
  if s.rollerCause c then s
  else (s.put F.POS_ROLL_FLT (c - 1) 0).put ⟨.POS_STATUS, 16 + c, 1⟩ 0 0

/-- R268: pair `pair` (0 A, 1 B, 2 Z) of channel `c` is used and checked. -/
def State.wireChecked (s : State) (c pair : Nat) : Bool :=
  s.bit F.POS_CHCFG_WIRE_EN c &&
    (if s.chMode c == 1 then pair < 2 || s.bit F.POS_CHCFG_Z_EN c
     else s.chMode c == 2 && pair == 2)

/-- R526: the position snapshot that the prompt book holds. -/
def State.posSnap (s : State) : PosSnap :=
  ⟨s.pos.c, s.pos.p, s.pos.h, s.pos.q, s.pos.nextLine, s.pos.zref, s.pos.zv,
   (List.range 7).map (fun c => (s.ench (c + 1)).count)⟩

end Sys2Proof.Machine
end

