-- ==== Sys2Proof/Machine/GapOps.lean ====
section
/-! DEFINITION. Machine/GapOps.lean: line tags by number, and GAP records that join consecutive lines (spec/03 R100). -/

namespace Sys2Proof.Machine

/-- A tag for a line of which no tag is held: nothing has been cued. -/
def Tag.none : Tag := ⟨0, 0, 0, [], 0, []⟩

/-- R275: the cue point `k` pitches after the next one, rounded half up to µm. -/
def State.gridY (s : State) (k : Int) : YPos :=
  BitVec.ofNat 40 (((s.pos.q + BitVec.ofInt 72 (k * (s.pitchY * 65536 : Nat))).toNat + 2 ^ 31) / 2 ^ 32)

/-- The tag of line `n`; a line cued before the first cue after LOAD takes that cue's tag (R156), and a line that has not
been cued stands where the grid will cue it. -/
def State.tagOf (s : State) (n : LineNo) : Tag :=
  match s.pos.tags.find? (fun t => t.line == n) with
  | some t => t
  | none =>
    let k := sdiff n s.pos.nextLine
    if -1 ≤ k then ⟨n, s.gridY k, s.gridY (k + 1), [], 0, []⟩ else s.pos.firstTag.getD Tag.none

/-- Y of line `n` of head `h` (R15). -/
def State.lineY (s : State) (h : Nat) (n : LineNo) : YPos := s.webY h (s.tagOf n).y

/-- Y(n + 1) of R100: the grid's cue point after line `n`, under head `h`. -/
def State.lineYNext (s : State) (h : Nat) (n : LineNo) : YPos := s.webY h (s.tagOf n).yNext

/-- Line `n` is a strip boundary (R21). -/
def State.boundaryLine (s : State) (n : LineNo) : Bool := n.toNat % s.stripLen == 0

/-- The open GAP record of a head, reason and block. -/
def State.openGap (s : State) (h : Nat) (g : GapReason) (src : Nat) : Option OpenGap :=
  s.gaps.find? (fun o => o.head == h && o.reason == g && o.src == src)

/-- R100: an open record closes and is formed at once. -/
def State.closeGap (s : State) (o : OpenGap) : State :=
  ({ s with gaps := s.gaps.filter (fun x => !(x == o)) } : State).formGap o.head o.reason o.l0 o.l1 o.y0 o.y1

/-- Close every open record that satisfies a test. -/
def State.closeGaps (s : State) (p : OpenGap → Bool) : State :=
  (s.gaps.filter p).foldl (fun t o => t.closeGap o) s

/-- R100: a line that needs no GAP of this kind closes the record. -/
def State.gapClean (s : State) (h : Nat) (g : GapReason) (src : Nat) : State :=
  s.closeGaps (fun o => o.head == h && o.reason == g && o.src == src)

/-- R100: lines `n` to `m` of head `h` join the open record, or close it and open another. A strip boundary closes a
record. -/
def State.gapSpan (s : State) (h : Nat) (g : GapReason) (src : Nat) (n m : LineNo) (y0 y1 : YPos) : State :=
  match s.openGap h g src with
  | some o =>
    if o.l1 + 1 == n && !(s.boundaryLine n) then
      { s with gaps := s.gaps.map (fun x => if x == o then { o with l1 := m, y1 := y1 } else x) }
    else
      let t := s.closeGap o
      { t with gaps := t.gaps ++ [⟨h, g, src, n, y0, m, y1⟩] }
  | none => { s with gaps := s.gaps ++ [⟨h, g, src, n, y0, m, y1⟩] }

/-- R100: line `n` of head `h` takes a GAP. -/
def State.gapLine (s : State) (h : Nat) (g : GapReason) (src : Nat) (n : LineNo) : State :=
  s.gapSpan h g src n n (s.lineY h n) (s.lineYNext h n - 1)

/-- R100: the records of a head that a strip boundary closes. -/
def State.gapBoundary (s : State) (h : Nat) (src : Nat) : State :=
  s.closeGaps (fun o => o.head == h && o.src == src)

/-- R273, R100: the open span of an encoder fault is sent up to the last line cued; it goes on with the next one. -/
def State.cutUncertain (s : State) : State :=
  match s.pos.unc with
  | none => s
  | some u =>
    let n := s.pos.nextLine - 1
    let t := s.gapAllRun .posUncertain u.1 n u.2 ((s.tagOf n).yNext - 1)
    { t with pos := { t.pos with unc := none, faultLine := true } }

/-- R100: a head that leaves RUN takes the open records of R273 and R278 up to here. -/
def State.uncertainHead (s : State) (h : Nat) : State :=
  let t := match s.pos.skip with
    | none => s
    | some k => s.formGap h .posUncertain k.l0 k.l1 (s.webY h k.y0) (s.webY h k.y1)
  match t.pos.unc with
  | none => t
  | some u =>
    let n := t.pos.nextLine - 1
    t.formGap h .posUncertain u.1 n (t.webY h u.2) (t.lineYNext h n - 1)

/-- R100, R273, R278: standstill, HOLD and STANDBY entry close every open record. -/
def State.closeLineGaps (s : State) : State := s.closeSkip.cutUncertain.closeGaps (fun _ => true)

/-- R8: a line accepted or not, its GAP is open or closed. -/
def State.gapIf (s : State) (c : Bool) (h : Nat) (g : GapReason) (src : Nat) (n : LineNo) : State :=
  if c then s.gapLine h g src n else s.gapClean h g src

end Sys2Proof.Machine
end

