-- ==== Sys2Proof/Machine/CorPix.lean ====
section
/-! DEFINITION. Machine/CorPix.lean: pixel correction and colour (spec/04 R111 to R128). -/

namespace Sys2Proof.Machine

/-- R118: saturation to Q22.18. -/
def sat40 (x : Int) : Int := clampI (-549755813888) 549755813887 x

/-- R118: a multiplication by a Q2.14 factor, rounded half up. -/
def mulQ (x : Int) (g : Nat) : Int := sat40 (asr (x * g + 8192) 14)

/-- R118: the mean of `n` values from their sum. -/
def meanOf (sum : Int) (n : Nat) : Int := sat40 (Int.fdiv (sum + (n / 2 : Nat)) n)

/-- R113: the device column of column `c` of head `h`. -/
def State.devCol (s : State) (h c : Nat) : Nat :=
  portOf h * 16384 + (if h % 2 == 0 then c else s.fld F.CAM_PIXELS_PIX0 (portOf h) + c)

/-- R114: OFFSET of a device column. -/
def State.pixOffset (s : State) (h c : Nat) : Int :=
  signedOf 16 (bitsOf (s.tab (0x10000000 + 4 * s.devCol h c)).toNat 16 16)

/-- R114: GAIN of a device column. -/
def State.pixGain (s : State) (h c : Nat) : Nat := bitsOf (s.tab (0x10000000 + 4 * s.devCol h c)).toNat 0 16

/-- COR_BANK: the working shading bank of a head. -/
def State.shadeBank (s : State) (h : Nat) : Nat := b2n (bitAt (s.rd .COR_BANK).toNat h)

/-- R115: the shading entry of a column in a bank. -/
def State.shade (s : State) (bank h c : Nat) : Nat :=
  bitsOf (s.tab (0x10100000 + 4 * s.devCol h c)).toNat (16 * bank) 16

/-- The bit depth of a code: 8, 10, 12, 14 or 16 bits (R90). -/
def depthBits (code : Nat) : Nat := 8 + 2 * code

/-- R121: the columns of a line at which a neighbour may stand: defective or INVALID ones do not. -/
def nbrValue (v : List Int) (bad : List Bool) (c : Int) : Option Int :=
  if c < 0 || bad.getD c.toNat true then none else some (v.getD c.toNat 0)

/-- R121: cases 1 and 2 at one distance. -/
def nbrMean (v : List Int) (bad : List Bool) (c d : Nat) : Option Int :=
  match nbrValue v bad ((c : Int) - d), nbrValue v bad ((c : Int) + d) with
  | some a, some b => some (meanOf (a + b) 2)
  | some a, none => some a
  | none, some b => some b
  | none, none => none

/-- R121: the replacement of a defective column; `old` is the same column in the previous line of the row. Answers the
value and whether the pixel becomes INVALID. -/
def replaceColumn (v : List Int) (bad : List Bool) (near far c : Nat) (old : Option Int) : Int × Bool :=
  match nbrMean v bad c near with
  | some x => (x, false)
  | none =>
    match nbrMean v bad c far with
    | some x => (x, false)
    | none =>
      match old with
      | some x => (x, false)
      | none => (0, true)

/-- R121: the corrected value of a column of an earlier line, if the line exists and holds it. -/
def oldValue (prev : Option CorLine) (c : Nat) : Option Int :=
  match prev with
  | none => none
  | some p => if p.inv.getD c true then none else some (p.v4.getD c 0)

/-- R121: the previous line of the same mosaic row among the lines that entered last. -/
def rowBefore (colour : Bool) (n : LineNo) (last : List CorLine) : Option CorLine :=
  last.find? (fun l => l.raw.line == (if colour then n - 2 else n - 1))

/-- Steps 1 to 5 of R111 for a line of head `h`; `blank` is R139's. -/
def State.correct (s : State) (h : Nat) (raw : RawLine) (last : List CorLine) (blank : Bool) : CorLine :=
  let p := s.headPixels h
  let cols := List.range p
  let d := depthBits (s.headDepth h)
  let colour := s.headColour h
  let pixEn := s.fldWork F.COR_HEAD_CFG_PIX_EN h != 0
  let defEn := s.fldWork F.COR_HEAD_CFG_DEFECT_EN h != 0
  let shadeEn := s.fldWork F.COR_HEAD_CFG_SHADE_EN h != 0
  let bank := s.shadeBank h
  let inv0 := cols.map (fun c => raw.replaced || decide (raw.valid ≤ c))
  let r16 : List Int := cols.map (fun c => ((raw.pixels.getD c 0 * 2 ^ (16 - d) : Nat) : Int))
  let v3 := cols.map (fun c =>
    if pixEn then mulQ ((r16.getD c 0 - s.pixOffset h c) * 262144) (s.pixGain h c)
    else r16.getD c 0 * 262144)
  let defect := cols.map (fun c => s.pixGain h c == 0)
  let bad := cols.map (fun c => defect.getD c false || inv0.getD c true)
  let before := rowBefore colour raw.line last
  let step4 := cols.map (fun c =>
    if defEn && defect.getD c false then
      replaceColumn v3 bad (if colour then 2 else 1) (if colour then 4 else 2) c (oldValue before c)
    else (v3.getD c 0, false))
  let v4 := step4.map (·.1)
  let inv := cols.map (fun c => inv0.getD c true || (step4.getD c (0, false)).2)
  let v5 := cols.map (fun c => if shadeEn then mulQ (v4.getD c 0) (s.shade bank h c) else v4.getD c 0)
  ⟨raw, inv, cols.map (fun c => defEn && defect.getD c false),
   cols.map (fun c => raw.pixels.getD c 0 == 2 ^ d - 1), r16, v4, v5,
   bitAt (s.rd .COR_STALE).toNat h, blank,
   if s.fldWork F.COR_HEAD_CFG_BAL_EN h != 0 then
     [s.fldWork F.COR_BAL_RG_R h, s.fldWork F.COR_BAL_RG_G h, s.fldWork F.COR_BAL_B_B h] else []⟩

/-- R125: the valid columns next to `c` in one direction, at most `j`, before an INVALID column or the head's edge. -/
def validRun (inv : List Bool) (c : Int) (dir : Int) (j : Nat) : Nat :=
  match j with
  | 0 => 0
  | k + 1 =>
    let t := c + dir
    if t < 0 || inv.getD t.toNat true then 0 else 1 + validRun inv t dir k

/-- R125: a column beyond an edge of a head of `p` columns, reflected about the edge column. -/
def edgeColumn (p : Nat) (t : Int) : Int := if t < 0 then -t else if (p : Int) ≤ t then 2 * ((p : Int) - 1) - t else t

/-- R125: the column that stands for column `c + dir × j`, by reflection about the last valid column; a reflection that
lands beyond the head's other edge is reflected there. -/
def reflected (inv : List Bool) (c : Nat) (dir : Int) (j : Nat) : Option Nat :=
  let m := validRun inv c dir j
  let t : Int := (c : Int) + dir * (2 * (m : Int) - j)
  let t := edgeColumn inv.length (if m == j then (c : Int) + dir * j else t)
  if t < 0 || inv.getD t.toNat true then none else some t.toNat

/-- The step-5 value that stands for a column of a line (R125). -/
def CorLine.at (l : CorLine) (c : Nat) (dir : Int) (j : Nat) : Option Int :=
  (reflected l.inv c dir j).map (fun t => l.v5.getD t 0)

/-- R126: a vertical neighbour that qualifies at column `c`: its values at c − 1, c and c + 1. -/
def vertical (n : CorLine) (l : Option CorLine) (c : Nat) : Option (Int × Int × Int) :=
  match l with
  | none => none
  | some l =>
    if l.raw.mrow == n.raw.mrow || l.inv.getD c true then none
    else
      match l.at c (-1) 1, l.at c 1 1 with
      | some a, some b => some (a, l.v5.getD c 0, b)
      | _, _ => none

/-- R124: the green value of an R or B site. -/
def greenAt (x xl xr a b : Int) (up dn : Option Int) : Int :=
  let curv := 2 * x - xl - xr
  let gh := sat40 (meanOf (a + b) 2 + meanOf curv 4)
  match up, dn with
  | some u, some d =>
    let dh := absN (a - b) + absN curv
    let dv := absN (u - d)
    let gv := meanOf (u + d) 2
    if dh < dv then gh else if dv < dh then gv else meanOf (gh + gv) 2
  | _, _ => gh

/-- R123 to R126: R, G and B of a colour pixel before the balance, or none when the pixel is INVALID. -/
def demosaicPixel (n : CorLine) (up dn : Option CorLine) (c : Nat) : Option (Int × Int × Int) :=
  if n.inv.getD c true then none
  else
    let u := vertical n up c
    let d := vertical n dn c
    match n.at c (-1) 1, n.at c 1 1 with
    | some a, some b =>
      let x := n.v5.getD c 0
      if u.isNone && d.isNone then none
      else if (n.raw.mrow + c) % 2 == 1 then
        -- a green site
        let hz := meanOf (a + b) 2
        let vt := match u, d with
          | some p, some q => meanOf (p.2.1 + q.2.1) 2
          | some p, none => p.2.1
          | none, some q => q.2.1
          | none, none => 0
        if n.raw.mrow == 0 then some (hz, x, vt) else some (vt, x, hz)
      else
        match n.at c (-1) 2, n.at c 1 2 with
        | some xl, some xr =>
          let g := greenAt x xl xr a b (u.map (fun p => p.2.1)) (d.map (fun p => p.2.1))
          let o := match u, d with
            | some p, some q => meanOf (p.1 + p.2.2 + q.1 + q.2.2) 4
            | some p, none => meanOf (p.1 + p.2.2) 2
            | none, some q => meanOf (q.1 + q.2.2) 2
            | none, none => 0
          if n.raw.mrow == 0 then some (x, g, o) else some (o, g, x)
        | _, _ => none
    | _, _ => none

/-- R119: the packed 16-bit value of a Q22.18 value, and whether a limit acted. -/
def pack16 (v : Int) : Nat × Bool :=
  let i := asr (v + 131072) 18
  ((clampI 0 65535 i).toNat, decide (i < 0) || decide (65535 < i))

/-- R119: the packed 12-bit value of a colour channel. -/
def pack12 (v : Int) : Nat × Bool :=
  let a := pack16 v
  let w := (a.1 + 8) / 16
  (min w 4095, a.2 || decide (4095 < w))

/-- Steps 6 to 8 of R111: a line packed into pixels, with its neighbour lines for a colour head. -/
def State.packLine (s : State) (h : Nat) (n : CorLine) (up dn : Option CorLine) : List Pix :=
  let bal (v : Int) (i : Nat) : Int := match n.bal[i]? with
    | some g => mulQ v g
    | none => v
  let flags (c : Nat) (inv clip : Bool) (a b d : Nat) : Pix :=
    ⟨a, b, d, inv || n.blank, n.repl.getD c false, clip || n.full.getD c false, n.stale, 0⟩
  (List.range n.v5.length).map (fun c =>
    if s.headColour h then
      match demosaicPixel n up dn c with
      | none => flags c true false 0 0 0
      | some (r, g, b) =>
        let pr := pack12 (bal r 0)
        let pg := pack12 (bal g 1)
        let pb := pack12 (bal b 2)
        flags c false (pr.2 || pg.2 || pb.2) pr.1 pg.1 pb.1
    else
      let p := pack16 (n.v5.getD c 0)
      flags c (n.inv.getD c true) p.2 p.1 0 0)

/-- R39: the 40-bit pixel word of a pixel. -/
def Pix.word (x : Pix) (colour : Bool) : Nat :=
  let fl := b2n x.inv + 2 * b2n x.repl + 4 * b2n x.clip + 8 * b2n x.stale
  if colour then x.v0 * 2 ^ 28 + x.v1 * 2 ^ 16 + x.v2 * 2 ^ 4 + fl
  else x.v0 * 2 ^ 24 + wrapTo 16 x.dev * 2 ^ 8 + fl

end Sys2Proof.Machine
end

