-- ==== Sys2Proof/Machine/ArcCodec.lean ====
section
/-! DEFINITION. Machine/ArcCodec.lean: the block codec (spec/11 R318 to R328): tables, coding, and decoding. -/

namespace Sys2Proof.Machine

/-- R318: bits of a channel value: 12 for a colour head, 16 for a mono head. -/
def chanBits (colour : Bool) : Nat := if colour then 12 else 16

/-- R318: the channels of a pixel. -/
def Pix.chans (x : Pix) (colour : Bool) : List Nat := if colour then [x.v0, x.v1, x.v2] else [x.v0]

/-- A pixel put together from its channels. -/
def pixOf (cs : List Nat) (inv repl clip stale : Bool) : Pix := ⟨cs.getD 0 0, cs.getD 1 0, cs.getD 2 0, inv, repl, clip, stale, 0⟩

/-- E_r of a ratio, in the head's own units. -/
def errBound (colour : Bool) (rcode : Nat) : Nat := [1, 2, 4, 16].getD rcode 16 * (if colour then 1 else 16)

/-- R322: the error limit of a level. -/
def levelErr (colour : Bool) (rcode level : Nat) : Nat :=
  if level == 0 then 0 else errBound colour rcode * 2 ^ (level - 1)

/-- R322: q and the reconstruction of a value under a prediction. -/
def quantise (n e x p : Nat) : Int × Nat :=
  let d : Int := (x : Int) - p
  let m : Nat := (d.natAbs + e) / (2 * e + 1)
  let q : Int := if d < 0 then -(m : Int) else m
  (q, (clampI 0 (2 ^ n - 1) ((p : Int) + q * (2 * e + 1 : Nat))).toNat)

/-- Bit length of a number of at most 17 bits. -/
def bitLen (n : Nat) : Nat := ((List.range 17).find? (fun k => decide (n < 2 ^ k))).getD 17

/-- R323: the class of q. -/
def classOf (q : Int) : Nat := bitLen q.natAbs

/-- R324: the classes in the order of static table `t`. -/
def staticOrder (t : Nat) : List Nat :=
  sortBy (fun a b =>
    let da := ((a : Int) - t).natAbs
    let db := ((b : Int) - t).natAbs
    decide (da < db) || (da == db && decide (a < b))) (List.range 17)

/-- R324: the code lengths of static table `t`. -/
def staticLens (t : Nat) : List Nat :=
  (List.range 17).map (fun k => match (staticOrder t).findIdx? (fun x => x == k) with
    | none => 15
    | some j => if j ≤ 12 then j + 1 else 15)

/-- R323: lengths from 1 to 15 whose sum of 2^-length does not exceed 1. -/
def lensOk (ls : List Nat) : Bool :=
  ls.length == 17 && ls.all (fun l => decide (1 ≤ l) && decide (l ≤ 15)) && decide (sumN (ls.map (fun l => 2 ^ (15 - l))) ≤ 2 ^ 15)

/-- R325: the dynamic table for the counts of a row. -/
def dynTable (counts : List Nat) : List Nat :=
  let ls := Config.dynLengths (counts.map (· + 1))
  if lensOk ls then ls else staticLens 0

/-- R323: the canonical codewords: length and code of each class. -/
def canonical (ls : List Nat) : List (Nat × Nat × Nat) :=
  let order := sortBy (fun (a b : Nat × Nat) => decide (a.1 < b.1) || (a.1 == b.1 && decide (a.2 < b.2)))
    ((List.range 17).map (fun k => (ls.getD k 15, k)))
  (order.foldl (fun (acc : Nat × Nat × List (Nat × Nat × Nat)) (e : Nat × Nat) =>
    let code := acc.1 * 2 ^ (e.1 - acc.2.1)
    (code + 1, e.1, acc.2.2 ++ [(e.2, e.1, code)])) (0, 0, [])).2.2

/-- A number as bits, least significant first. -/
def bitsLsb (n v : Nat) : List Bool := (List.range n).map (bitAt v)

/-- A number as bits, most significant first. -/
def bitsMsb (n v : Nat) : List Bool := (bitsLsb n v).reverse

/-- The number that bits spell, least significant first. -/
def ofBits (bs : List Bool) : Nat :=
  match bs with
  | [] => 0
  | b :: r => b2n b + 2 * ofBits r

/-- R323: the bits of one value. -/
def codeValue (codes : List (Nat × Nat × Nat)) (q : Int) : List Bool :=
  let k := classOf q
  match codes.find? (fun e => e.1 == k) with
  | none => []
  | some (_, l, c) =>
    bitsMsb l c ++ (if k == 0 then [] else decide (q < 0) :: bitsLsb (k - 1) (q.natAbs - 2 ^ (k - 1)))

/-- R323: how many bits values take under a table. -/
def codeCost (ls : List Nat) (qs : List Int) : Nat :=
  sumN (qs.map (fun q => let k := classOf q; ls.getD k 15 + k))

/-- A block before coding: its pixels, the predictions' source, and whether it is INTRA. -/
structure BlockIn where
  colour : Bool
  rcode : Nat
  intra : Bool
  px : List Pix                  -- 64
  prev : List (List Nat)         -- the reconstruction of the columns in the previous archived line
  dyn : Option (List Nat)
  deriving DecidableEq, Repr

/-- What coding a block gives: its bytes, the reconstruction of its pixels, its level, and the classes that were coded. -/
structure BlockOut where
  bytes : List Byte
  recon : List (List Nat)
  level : Nat
  qs : List Int
  deriving DecidableEq, Repr

/-- The prediction of pixel `i`: `last` is the reconstruction of the block's previous pixel (R321). -/
def BlockIn.pred (b : BlockIn) (i : Nat) (last : Option (List Nat)) : List Nat :=
  let m := if b.colour then 3 else 1
  if b.intra then last.getD (List.replicate m (2 ^ (chanBits b.colour - 1)))
  else b.prev.getD i (List.replicate m 0)

/-- R321, R322: residuals and reconstruction of the pixels from `i` on, at error limit `e`. -/
def BlockIn.residuals (b : BlockIn) (e i : Nat) (last : Option (List Nat)) (px : List Pix) : List Int × List (List Nat) :=
  match px with
  | [] => ([], [])
  | x :: r =>
    let p := b.pred i last
    if x.inv then
      let t := b.residuals e (i + 1) (some p) r
      (t.1, p :: t.2)
    else
      let qr := (x.chans b.colour).zipWith (fun v q => quantise (chanBits b.colour) e v q) p
      let rec_ := qr.map (·.2)
      let t := b.residuals e (i + 1) (some rec_) r
      (qr.map (·.1) ++ t.1, rec_ :: t.2)

/-- R326: b of a level-7 block with `a` payload bits, `v` valid pixels. -/
def levelBits (colour : Bool) (a v : Nat) : Nat :=
  min (chanBits colour) (a / atLeast1 (v * (if colour then 3 else 1)))

/-- R326: the reconstruction of a value of which the top `k` of `n` bits are kept. -/
def topRecon (n k x : Nat) : Nat := if k == n then x else x / 2 ^ (n - k) * 2 ^ (n - k) + 2 ^ (n - k - 1)

/-- R326: level 7: bits and reconstruction. Invalid pixels take their prediction (R321). -/
def BlockIn.level7 (b : BlockIn) (k i : Nat) (last : Option (List Nat)) (px : List Pix) : List Bool × List (List Nat) :=
  match px with
  | [] => ([], [])
  | x :: r =>
    let n := chanBits b.colour
    if x.inv then
      let p := b.pred i last
      let t := b.level7 k (i + 1) (some p) r
      (t.1, p :: t.2)
    else
      let cs := x.chans b.colour
      let rec_ := cs.map (topRecon n k)
      let t := b.level7 k (i + 1) (some rec_) r
      (cs.flatMap (fun v => bitsLsb k (v / 2 ^ (n - k))) ++ t.1, rec_ :: t.2)

/-- R319: the 16 header bits. -/
def headerBits (level table : Nat) (allInv pmask intra : Bool) (px : List Pix) : List Bool :=
  bitsLsb 16 (level * 2 ^ 13 + table * 2 ^ 9 + b2n allInv * 256 + b2n pmask * 128 + b2n intra * 64
    + b2n (px.any (·.stale)) * 32 + b2n (px.any (·.clip)) * 16 + b2n (px.any (·.repl)) * 8)

/-- Pack bits into the bytes of a block, zeros up to its size (R319). -/
def packBits (n : Nat) (bs : List Bool) : List Byte :=
  (List.range n).map (fun i => BitVec.ofNat 8 (ofBits ((bs.drop (8 * i)).take 8)))

/-- The usable tables of a block: code, lengths. `retry` leaves table 0 only (R329). -/
def BlockIn.tables (b : BlockIn) (retry : Bool) : List (Nat × List Nat) :=
  if retry then [(0, staticLens 0)]
  else (List.range 8).map (fun t => (t, staticLens t)) ++ (match b.dyn with
    | none => []
    | some ls => [(8, ls)])

/-- R327: the cheapest table for values, the lower code on a tie. -/
def cheapest (ts : List (Nat × List Nat)) (qs : List Int) : Option (Nat × List Nat × Nat) :=
  ts.foldl (fun best t =>
    let c := codeCost t.2 qs
    match best with
    | none => some (t.1, t.2, c)
    | some b => if c < b.2.2 then some (t.1, t.2, c) else some b) none

/-- R319, R327: the block at the lowest level from `level` up that fits; level 7 always does. -/
def BlockIn.codeFrom (b : BlockIn) (retry : Bool) (level fuel : Nat) : BlockOut :=
  let inv := b.px.map (·.inv)
  let all := inv.all id
  let mask := !all && inv.any id
  let size := blockBytes b.rcode
  let room := 8 * size - 16 - (if mask then 64 else 0)
  let maskBits := if mask then inv else []
  let seven :=
    let k := levelBits b.colour room ((inv.filter (fun x => !x)).length)
    let t := b.level7 k 0 none b.px
    (⟨packBits size (headerBits 7 0 all mask b.intra b.px ++ maskBits ++ t.1), t.2, 7, []⟩ : BlockOut)
  match fuel with
  | 0 => seven
  | f + 1 =>
    let t := b.residuals (levelErr b.colour b.rcode level) 0 none b.px
    match cheapest (b.tables retry) t.1 with
    | none => seven
    | some (code, ls, cost) =>
      if cost ≤ room then
        let codes := canonical ls
        ⟨packBits size (headerBits level code all mask b.intra b.px ++ maskBits ++ t.1.flatMap (codeValue codes)),
          t.2, level, t.1⟩
      else b.codeFrom retry (level + 1) f

/-- R327: code a block. -/
def BlockIn.code (b : BlockIn) (retry : Bool) : BlockOut := b.codeFrom retry 0 7

/-- R329 step 2: a block written BAD. The encoder takes the reconstruction of R321. -/
def BlockIn.codeBad (b : BlockIn) : BlockOut :=
  let blank := b.px.map (fun x => { x with inv := true })
  let t := b.residuals 0 0 none blank
  ⟨packBits (blockBytes b.rcode) (headerBits 0 15 true false b.intra b.px), t.2, 0, []⟩

/-! ### Decoding -/

/-- What decoding a block gives: its pixels, whether it is BAD, and whether it is independent (R328). -/
structure BlockDec where
  px : List Pix
  recon : List (List Nat)
  bad : Bool
  alone : Bool
  deriving DecidableEq, Repr

/-- Read a codeword from the front of bits: its class and the rest. -/
def readClass (codes : List (Nat × Nat × Nat)) (bs : List Bool) : Nat × List Bool :=
  match codes.find? (fun e => bs.take e.2.1 == bitsMsb e.2.1 e.2.2) with
  | none => (0, [])
  | some (k, l, _) => (k, bs.drop l)

/-- Read one value (R323). -/
def readValue (codes : List (Nat × Nat × Nat)) (bs : List Bool) : Int × List Bool :=
  let c := readClass codes bs
  if c.1 == 0 then (0, c.2)
  else
    let neg := c.2.headD false
    let m := ofBits ((c.2.drop 1).take (c.1 - 1)) + 2 ^ (c.1 - 1)
    (if neg then -(m : Int) else m, c.2.drop c.1)

/-- Read the channels of one pixel at error limit `e` (R322). -/
def readChans (codes : List (Nat × Nat × Nat)) (n e : Nat) (ps : List Nat) (bs : List Bool) : List Nat × List Bool :=
  match ps with
  | [] => ([], bs)
  | p :: r =>
    let v := readValue codes bs
    let x := (clampI 0 (2 ^ n - 1) ((p : Int) + v.1 * (2 * e + 1 : Nat))).toNat
    let t := readChans codes n e r v.2
    (x :: t.1, t.2)

/-- Decode pixels from `i` on. `k` is some number of bits at level 7. -/
def BlockIn.decodePixels (b : BlockIn) (codes : List (Nat × Nat × Nat)) (e : Nat) (k : Option Nat) (i : Nat)
    (last : Option (List Nat)) (inv : List Bool) (bs : List Bool) : List (List Nat) :=
  match inv with
  | [] => []
  | v :: r =>
    let p := b.pred i last
    if v then p :: b.decodePixels codes e k (i + 1) (some p) r bs
    else
      let n := chanBits b.colour
      match k with
      | none =>
        let t := readChans codes n e p bs
        t.1 :: b.decodePixels codes e k (i + 1) (some t.1) r t.2
      | some w =>
        let cs := (List.range (if b.colour then 3 else 1)).map (fun j =>
          topRecon n w (ofBits ((bs.drop (w * j)).take w) * 2 ^ (n - w)))
        cs :: b.decodePixels codes e k (i + 1) (some cs) r (bs.drop (w * (if b.colour then 3 else 1)))

/-- R319 to R326: decode a block's bytes. `b` gives the ratio, the previous line and the dynamic table. A reserved TABLE
code is read as BAD (notes/assumptions/29). -/
def BlockIn.decode (b : BlockIn) (bytes : List Byte) : BlockDec :=
  let bits := bytes.flatMap (fun x => bitsLsb 8 x.toNat)
  let h := ofBits (bits.take 16)
  let level := bitsOf h 13 3
  let table := bitsOf h 9 4
  let all := bitAt h 8
  let mask := bitAt h 7
  let b := { b with intra := bitAt h 6 }
  let bad := table == 15 || (9 ≤ table && table ≤ 14) || (table == 8 && b.dyn.isNone)
  let inv := if all || bad then List.replicate 64 true
    else if mask then (bits.drop 16).take 64 else List.replicate 64 false
  let body := bits.drop (16 + (if mask && !all then 64 else 0))
  let room := 8 * blockBytes b.rcode - 16 - (if mask && !all then 64 else 0)
  let ls := if table == 8 then b.dyn.getD (staticLens 0) else staticLens table
  let k := if level == 7 then some (levelBits b.colour room ((inv.filter (fun x => !x)).length)) else none
  let recon := b.decodePixels (canonical ls) (levelErr b.colour b.rcode level) k 0 none inv body
  let px := recon.zipWith (fun cs v => pixOf cs v (bitAt h 3) (bitAt h 4) (bitAt h 5)) inv
  ⟨px, recon, bad, b.intra || (level == 7 && !all && !mask)⟩

end Sys2Proof.Machine
end

