-- ==== Sys2Proof/Machine/MemOps.lean ====
section
/-! DEFINITION. Machine/MemOps.lean: the memory controller (spec/12): address mapping, accesses and their pieces, the
command slots of a subchannel, refresh, ECC outcomes, rank failure, migration and set points. -/

namespace Sys2Proof.Machine

/-! ### Address mapping -/

/-- Ranks per subchannel: 0 and 3 are treated as 2 (MEM_CFG.RANKS). -/
def State.memRanks (s : State) : Nat := if s.fld F.MEM_CFG_RANKS == 1 then 1 else 2

/-- An understudy is held (R358): SPARE_EN = 1 with one rank is treated as 0. -/
def State.memSpare (s : State) : Bool := s.bit F.MEM_CFG_SPARE_EN && s.memRanks == 2

/-- ρ of the understudy (R358). -/
def State.understudy (s : State) : Nat := 2 * s.fld F.MEM_CFG_SPARE_SC + 1

/-- R358: the fitted capacity in bytes. -/
def State.memCapacity (s : State) : Nat :=
  if s.memRanks == 1 then 2 ^ 36 else if s.memSpare then 15 * 2 ^ 33 else 2 ^ 37

/-- Parity of a number of at most 32 bits. -/
def parity (n : Nat) : Nat := countBelow 32 (bitAt n) % 2

/-- The mask of subchannel bit `j` (MEM_HASH0, MEM_HASH1). -/
def State.scMask (s : State) (j : Nat) : Nat :=
  match j with
  | 0 => s.fld F.MEM_HASH0_SCMASK0
  | 1 => s.fld F.MEM_HASH0_SCMASK1
  | _ => s.fld F.MEM_HASH1_SCMASK2

/-- The mask of bank-group bit `j`. -/
def State.bgMask (s : State) (j : Nat) : Nat :=
  match j with
  | 0 => s.fld F.MEM_HASH1_BGMASK0
  | 1 => s.fld F.MEM_HASH2_BGMASK1
  | _ => s.fld F.MEM_HASH2_BGMASK2

/-- The mask of bank bit `j`. -/
def State.baMask (s : State) (j : Nat) : Nat :=
  if j == 0 then s.fld F.MEM_HASH3_BAMASK0 else s.fld F.MEM_HASH3_BAMASK1

/-- R359: the subchannel of an address outside the range of R360. -/
def State.scOf (s : State) (a : Nat) : Nat :=
  sumN ((List.range 3).map (fun j => ((bitsOf a (6 + j) 1 + parity (bitsOf a 20 16 &&& s.scMask j)) % 2) * 2 ^ j))

/-- R359, R360: the rank ρ and the rank offset of an address. -/
def State.memMap (s : State) (a : Nat) : Nat × Nat :=
  if s.memSpare && 2 ^ 36 ≤ a then
    let n := (a - 2 ^ 36) / 64
    let k := n % 7
    let sc := if k < s.fld F.MEM_CFG_SPARE_SC then k else k + 1
    (2 * sc + 1, n / 7 * 64 + a % 64)
  else (2 * s.scOf a + bitsOf a 36 1, bitsOf a 9 27 * 64 + a % 64)

/-- The address of a rank's offset: the inverse of R359 and R360; none for the understudy. -/
def State.memUnmap (s : State) (rank o : Nat) : Option Nat :=
  let sc := rank / 2
  if s.memSpare && rank % 2 == 1 then
    if sc == s.fld F.MEM_CFG_SPARE_SC then none
    else
      let k := if sc < s.fld F.MEM_CFG_SPARE_SC then sc else sc - 1
      some (2 ^ 36 + (o / 64 * 7 + k) * 64 + o % 64)
  else
    let up := (rank % 2) * 2 ^ 36 + o / 64 * 512
    let low := sumN ((List.range 3).map (fun j =>
      (b2n (bitAt sc j) + parity (bitsOf up 20 16 &&& s.scMask j)) % 2 * 2 ^ (6 + j)))
    some (up + low + o % 64)

/-- R361: the bank (bank group and bank) of a rank offset, 0 to 31. -/
def State.bankOf (s : State) (o : Nat) : Nat :=
  let row := bitsOf o 17 16
  let bg := sumN ((List.range 3).map (fun j => (bitsOf o (8 + j) 1 + parity (row &&& s.bgMask j)) % 2 * 2 ^ j))
  let ba := sumN ((List.range 2).map (fun j => (bitsOf o (11 + j) 1 + parity (row &&& s.baMask j)) % 2 * 2 ^ j))
  4 * bg + ba

/-- R361: the row of a rank offset. -/
def rowOf (o : Nat) : Nat := bitsOf o 17 16

/-- The migration's progress K in bytes (R378). -/
def State.migK (s : State) : Nat := s.getPair .MEM_MIG_PTR_L .MEM_MIG_PTR_H

/-- R362, R378, R381: the rank that serves an offset of a rank. -/
def State.servedBy (s : State) (rank o : Nat) : Nat :=
  if s.bit F.MEM_RMAP_V && s.fld F.MEM_RMAP_FROM == rank then
    if s.fld F.MEM_STATUS_MIG == 2 || o < s.migK then s.fld F.MEM_RMAP_TO else rank
  else rank

/-! ### Accesses -/

/-- A rank as it starts. -/
def MemRank.fresh : MemRank := ⟨0, 0, false, false, false⟩

/-- What is kept of a rank. -/
def State.memRank (s : State) (r : Nat) : MemRank := s.mem.ranks.getD r MemRank.fresh

/-- Change what is kept of a rank. -/
def State.setMemRank (s : State) (r : Nat) (x : MemRank) : State :=
  { s with mem := { s.mem with ranks := s.mem.ranks.set r x } }

/-- The pieces of an access, one for each 64-byte line. `n` bounds their number. -/
def piecesOf (op port : Nat) (write : Bool) (addr len birth n : Nat) : List MemTx :=
  match n with
  | 0 => []
  | k + 1 =>
    if len == 0 then []
    else
      let l := min len (64 - addr % 64)
      ⟨op, port, write, addr, l, birth, 0⟩ :: piecesOf op port write (addr + l) (len - l) birth k

/-- Bytes that a port holds: asked for and not yet answered. -/
def State.portBytes (s : State) (p : Nat) : Nat :=
  sumN ((s.mem.ops.filter (fun o => o.port == p)).map (fun o => o.data.length))

/-- R363: the level of a port's PANIC source and its size. -/
def State.panicLevel (s : State) (p : Nat) : Nat × Nat :=
  if p == 0 then ((List.range 32).foldl (fun m h => max m (s.encoderBytes h)) 0, 4096)
  else (s.portBytes p, 32768)

/-- R364: PANIC of the ports that have a source. -/
def State.panicCheck (s : State) : State :=
  forBelow 3 (fun p t =>
    let l := t.panicLevel p
    let on := t.fld F.MEM_QOS_PANIC_ON p
    let off := if on ≤ t.fld F.MEM_QOS_PANIC_OFF p then on - 1 else t.fld F.MEM_QOS_PANIC_OFF p
    if t.bit F.MEM_PSTAT_PANIC p then
      if l.1 * 100 ≤ off * l.2 then t.put F.MEM_PSTAT_PANIC p 0 else t
    else if on * l.2 ≤ l.1 * 100 then (t.put F.MEM_PSTAT_PANIC p 1).count .MEM_PANIC_CNT p
    else t) s

/-- Replace bytes of a list from a place on. -/
def patch (l : List Byte) (at_ : Nat) (bs : List Byte) : List Byte := l.take at_ ++ bs ++ l.drop (at_ + bs.length)

/-- The longest latency of a port (MEM_PSTATp.MAXLAT), units of 10 ns. -/
def State.noteLatency (s : State) (o : MemOp) : State :=
  s.put F.MEM_PSTAT_MAXLAT o.port (min (max (s.fld F.MEM_PSTAT_MAXLAT o.port) ((s.clk - o.birth) / 10)) 65535)

/-- A piece of a write has ended well: its bytes are stored, and a line it writes is poisoned no longer (R379). -/
def State.pieceStore (s : State) (x : MemTx) : State :=
  match s.mem.ops.find? (fun o => o.id == x.op) with
  | none => s
  | some o =>
    let s := s.dramWrite x.addr ((o.data.drop (x.addr - o.addr)).take x.len)
    { s with mem := { s.mem with poison := s.mem.poison.filter (fun a => a != x.addr / 64) } }

/-- A piece ends, well or in error; its access ends with its last piece and is then answered. Bytes count for PMC
(R482). -/
def State.pieceEnd (s : State) (x : MemTx) (e : Option MemErr) : State :=
  match s.mem.ops.find? (fun o => o.id == x.op) with
  | none => s
  | some o =>
    let s := if x.write then s.pmcCount (0x151 + 2 * x.port) x.len else s.pmcCount (0x150 + 2 * x.port) x.len
    let ofs := x.addr - o.addr
    let data := if x.write then o.data else patch o.data ofs (s.dramRead x.addr x.len)
    let o' : MemOp := { o with
      data := data
      left := o.left - 1
      err := if o.err.isSome then o.err else e
      bad := match e with
        | none => o.bad
        | some x' => o.bad ++ [(ofs, x.len, x')] }
    if o'.left == 0 then
      let s := s.noteLatency o'
      ({ s with mem := { s.mem with
        ops := s.mem.ops.filter (fun y => y.id != o.id)
        done := s.mem.done ++ [o'] } } : State).panicCheck
    else { s with mem := { s.mem with ops := s.mem.ops.map (fun y => if y.id == o.id then o' else y) } }

/-- An access ends at once, without reaching a queue. -/
def State.memFail (s : State) (o : MemOp) (e : MemErr) : State :=
  { s with mem := { s.mem with done := s.mem.done ++ [{ o with left := 0, err := some e }] } }

/-- The rank that serves a piece. -/
def State.txRank (s : State) (x : MemTx) : Nat :=
  let m := s.memMap x.addr
  s.servedBy m.1 m.2

/-- R378: a wing read of the rank under migration at or above K. -/
def State.readsAboveK (s : State) (x : MemTx) : Bool :=
  let m := s.memMap x.addr
  x.port == 2 && !x.write && s.bit F.MEM_RMAP_V && s.fld F.MEM_RMAP_FROM == m.1 && s.migK ≤ m.2

/-- R378: while a migration runs, the waiting pieces of wing reads that lie at or above K end at once with MIGR. -/
def State.wingMigr (s : State) : State :=
  if s.fld F.MEM_STATUS_MIG == 1 then
    let hit := s.mem.waiting.filter s.readsAboveK
    let t := { s with mem := { s.mem with waiting := s.mem.waiting.filter (fun x => !s.readsAboveK x) } }
    hit.foldl (fun u x => (u.count .MEM_MIGR_RD_CNT).pieceEnd x (some .migr)) t
  else s

/-- R53, R363: a requester asks for an access. Beyond the fitted capacity it ends in a decode error. -/
def State.memAccess (s : State) (owner : TxOwner) (port : Nat) (write : Bool) (addr : Nat) (data : List Byte) : State :=
  let id := s.mem.nextOp
  let s := { s with mem := { s.mem with nextOp := id + 1 } }
  let ps := piecesOf id port write addr data.length s.clk (data.length / 64 + 2)
  let o : MemOp := ⟨id, owner, port, write, addr, data, ps.length, none, [], s.clk⟩
  if s.memCapacity < addr + data.length then s.memFail o .decode
  else if ps.isEmpty then { s with mem := { s.mem with done := s.mem.done ++ [o] } }
  else
    let t := { s with mem := { s.mem with waiting := s.mem.waiting ++ ps, ops := s.mem.ops ++ [o] } }
    (if port == 2 && !write then t.wingMigr else t).panicCheck

/-- A requester writes bytes. -/
def State.memWrite (s : State) (owner : TxOwner) (port addr : Nat) (data : List Byte) : State :=
  s.memAccess owner port true addr data

/-- A requester reads bytes. -/
def State.memRead (s : State) (owner : TxOwner) (port addr len : Nat) : State :=
  s.memAccess owner port false addr (List.replicate len 0)

/-! ### Refresh and temperature -/

/-- Where D of a rank stands (MEM_DEBT0, MEM_DEBT1). -/
def debtFld (r : Nat) : Fld := ⟨if r < 8 then .MEM_DEBT0 else .MEM_DEBT1, 4 * (r % 8), 4⟩

/-- D of a rank, signed. -/
def State.debt (s : State) (r : Nat) : Int := signedOf 4 (s.fld (debtFld r))

/-- Store D of a rank. The field holds 4 bits, from −8 to 7. -/
def State.putDebt (s : State) (r : Nat) (d : Int) : State := s.put (debtFld r) 0 (wrapTo 4 d)

/-- What a DRAM command of Emission.dramCommand is: activate, precharge, read, write, refresh, page copy, training slice. -/
inductive DramCmd where
  | act | pre | rd | wr | ref | copy | slice
  deriving DecidableEq, Repr

/-- The command of a code. -/
def DramCmd.ofCode (n : Nat) : DramCmd :=
  match n with
  | 0 => .act
  | 1 => .pre
  | 2 => .rd
  | 3 => .wr
  | 4 => .ref
  | 5 => .copy
  | _ => .slice

/-- Its number on the wire list. -/
def DramCmd.code (c : DramCmd) : Nat :=
  match c with
  | .act => 0
  | .pre => 1
  | .rd => 2
  | .wr => 3
  | .ref => 4
  | .copy => 5
  | .slice => 6

/-- The clock of a command is noted for the distances of R386. -/
def State.dramStamp (s : State) (rank bank : Nat) (c : DramCmd) : State :=
  let t := s.clk + 1
  { s with mem := { s.mem with
    stamps := spSet 0 s.mem.stamps (8 * (32 * rank + bank) + c.code) t
    acts := if c == .act then
        (rank, t) :: ((s.mem.acts.filter (fun e => e.1 == rank)).take 3 ++ s.mem.acts.filter (fun e => e.1 != rank))
      else s.mem.acts } }

/-- R370: a refresh of a rank is issued. All its banks are closed by it. -/
def State.refreshRank (s : State) (r : Nat) : State :=
  let s := ((s.emit (.dramCommand (r / 2) DramCmd.ref.code r)).pmcCount 0x166 1).dramStamp r 0 .ref
  { s with mem := { s.mem with rows := s.mem.rows.filter (fun e => e.1 / 32 != r) } }

/-- R380: the rank has been retired, and is not accessed again. -/
def State.rankRetired (s : State) (r : Nat) : Bool :=
  s.bit F.MEM_RMAP_V && s.fld F.MEM_STATUS_MIG == 2 && s.fld F.MEM_RMAP_FROM == r

/-- R370: a tREFI tick of a rank. A tick that would take D to 5 forces a refresh at once. -/
def State.refreshTick (s : State) (r : Nat) : State :=
  if (s.memRank r).selfRef || s.rankRetired r then s
  else if s.debt r + 1 ≥ 5 then (s.refreshRank r).putDebt r 4
  else s.putDebt r (s.debt r + 1)

/-- The band of a rank: 0 NORMAL, 1 HOT, 2 CRIT, 3 a failed or reserved reading, treated as HOT (R368). -/
def State.bandOfRank (s : State) (r : Nat) : Nat := bitsOf (s.rd .MEM_BAND).toNat (2 * r) 2

/-- R371: the debt when tREFI halves or doubles, clamped to −4. -/
def convertDebt (halves : Bool) (d : Int) : Int :=
  max (-4) (if halves then 2 * d else if 0 ≤ d then (d + 1) / 2 else -((-d) / 2))

/-- R371: a converted debt above 4 is worked off by forced refreshes, each counted. -/
def State.workOff (s : State) (r n : Nat) (d : Int) : State :=
  match n with
  | 0 => s.putDebt r d
  | k + 1 =>
    if d > 4 then (((s.refreshRank r).count .MEM_PULLIN_CNT).raise F.MEM_EVENT_PULLIN).workOff r k (d - 1)
    else s.putDebt r d

/-- R368, R369, R371: a poll gives rank `r` band `b`. -/
def State.setBand (s : State) (r b : Nat) : State :=
  let old := s.bandOfRank r
  if b % 4 == old then s
  else
    let s := s.put ⟨.MEM_BAND, 2 * r, 2⟩ 0 (b % 4)
    let s := s.raise F.MEM_EVENT_BAND
    let s := if b % 4 == 2 then s.raise F.MEM_EVENT_DRAM_CRIT else s
    let hot := b % 4 != 0
    let was := old != 0
    if hot && !was then s.workOff r 8 (convertDebt true (s.debt r))
    else if was && !hot then s.putDebt r (convertDebt false (s.debt r))
    else s

/-- R369: MCLK cycles by which a rank's tRCD, tRP, tRC and tRRD are longer. -/
def State.derate (s : State) (r : Nat) : Nat := if s.bandOfRank r == 0 then 0 else s.fld F.MEM_DERATE_ADD

/-! ### Ranks in service, failure and migration -/

/-- A rank is in service (MEM_STATUS.INSERV). -/
def State.inService (s : State) (r : Nat) : Bool := bitAt (s.fld F.MEM_STATUS_INSERV) r

/-- Every fitted rank but the understudy is in service, as LOAD leaves it, with the remap applied (R362). -/
def State.serviceMask (s : State) : Nat :=
  maskBelow 16 (fun r =>
    let from_ := s.bit F.MEM_RMAP_V && !s.bit F.MEM_RMAP_SPLIT
    let fitted := r % 2 < s.memRanks && !(s.memSpare && r == s.understudy)
    if from_ && s.fld F.MEM_STATUS_MIG == 2 then
      (fitted && r != s.fld F.MEM_RMAP_FROM) || r == s.fld F.MEM_RMAP_TO
    else fitted)

/-- R378: a migration of rank `f` to the understudy starts. -/
def State.startMigration (s : State) (f : Nat) : State :=
  let u := s.understudy
  let s := s.setMemRank u { s.memRank u with selfRef := false }
  let s := (s.put F.MEM_STATUS_MIG 0 1).put F.MEM_STATUS_MIG_RANK 0 f
  let s := s.put F.MEM_STATUS_SPARE_OK 0 0
  let s := s.setPair .MEM_MIG_PTR_L .MEM_MIG_PTR_H 0 8 0
  let s := ((s.put F.MEM_RMAP_V 0 1).put F.MEM_RMAP_SPLIT 0 0).put F.MEM_RMAP_FROM 0 f
  let s := s.put F.MEM_RMAP_TO 0 u
  let s := { s with mem := { s.mem with spareUsed := true, migForce := false, migPaused := false } }
  (s.raise F.MEM_EVENT_MIG_START).wingMigr

/-- R381: the understudy fails during the copy: it stops, and both ranks stay in service. -/
def State.freezeMigration (s : State) : State :=
  let s := (s.put F.MEM_STATUS_MIG 0 3).put F.MEM_RMAP_SPLIT 0 1
  let s := s.put F.MEM_STATUS_INSERV 0 (s.fld F.MEM_STATUS_INSERV ||| 2 ^ s.fld F.MEM_RMAP_TO)
  s.raise F.MEM_EVENT_MIG_FROZEN

/-- R376: every access that waits for, or has been issued to, a rank ends in error. -/
def State.endRankAccesses (s : State) (r : Nat) : State :=
  let hit := (s.mem.issued ++ s.mem.waiting).filter (fun x => s.txRank x == r)
  let keep (l : List MemTx) : List MemTx := l.filter (fun x => s.txRank x != r)
  let t := { s with mem := { s.mem with waiting := keep s.mem.waiting, issued := keep s.mem.issued } }
  hit.foldl (fun u x => u.pieceEnd x (some .ue)) t

/-- The latest failure (MEM_UE_ADDR, MEM_UE_INFO). -/
def State.noteUe (s : State) (kind rank port addr : Nat) : State :=
  let s := s.setPair .MEM_UE_ADDR_L .MEM_UE_ADDR_H 0 8 addr
  let s := (s.put F.MEM_UE_INFO_KIND 0 kind).put F.MEM_UE_INFO_RANK 0 rank
  s.put F.MEM_UE_INFO_PORT 0 port

/-- R376, R377, R381: a rank fails: `kind` 0 DATA, 1 CMD, 3 COPY. Its first failure ends every access that it serves; a later
one, and one during its migration, ends the access `x` alone. -/
def State.rankFailure (s : State) (rank kind port addr : Nat) (x : Option MemTx) : State :=
  let s := ((s.noteUe kind rank port addr).count .MEM_UE_CNT).raise F.MEM_EVENT_UE
  let s := s.fault .memUe rank kind addr
  let s := match x with
    | none => s
    | some y => s.pieceEnd y (some .ue)
  let later := (s.memRank rank).failed
  let s := if later then s else (s.endRankAccesses rank).setMemRank rank { s.memRank rank with failed := true }
  if s.fld F.MEM_STATUS_MIG == 1 && s.fld F.MEM_RMAP_FROM == rank then s
  else if s.fld F.MEM_STATUS_MIG == 1 && s.fld F.MEM_RMAP_TO == rank then s.freezeMigration
  else if !later && s.bit F.MEM_STATUS_SPARE_OK && !s.mem.spareUsed then s.startMigration rank
  else (s.put F.MEM_STATUS_NOSPARE_UE 0 1).raise F.MEM_EVENT_NO_SPARE

/-- R374: a corrected error of a rank is counted; the limit within one second raises CE_LIM and may start a migration. -/
def State.correctedError (s : State) (rank : Nat) : State :=
  let s := s.count .MEM_CE_CNT
  let r := s.memRank rank
  let r := if 1000000000 ≤ s.clk - r.ceSince then { r with ce := 1, ceSince := s.clk, limited := false }
    else { r with ce := r.ce + 1 }
  if s.fld F.MEM_CFG_CE_LIM < r.ce && !r.limited then
    let s := (s.setMemRank rank { r with limited := true }).raise F.MEM_EVENT_CE_LIM
    if s.bit F.MEM_CFG_CE_SPARE && s.bit F.MEM_STATUS_SPARE_OK && !s.mem.spareUsed then s.startMigration rank else s
  else s.setMemRank rank r

/-- R380: K has reached 8 GiB. -/
def State.migrationDone (s : State) : State :=
  let f := s.fld F.MEM_RMAP_FROM
  let u := s.fld F.MEM_RMAP_TO
  let s := (s.put F.MEM_RMAP_V 0 1).put F.MEM_RMAP_SPLIT 0 0
  let m := s.fld F.MEM_STATUS_INSERV
  let s := s.put F.MEM_STATUS_INSERV 0 ((if bitAt m f then m - 2 ^ f else m) ||| 2 ^ u)
  (s.put F.MEM_STATUS_MIG 0 2).raise F.MEM_EVENT_MIG_DONE

/-- R378, R379: the page at K has been copied; `ue` are the lines of it (0 to 63) that read uncorrectable. Answers the
physical lines that were poisoned. -/
def State.pageCopied (s : State) (ue : List Nat) : State × List Nat :=
  let f := s.fld F.MEM_RMAP_FROM
  let k := s.migK
  let lines := ue.filterMap (fun l => (s.memUnmap f (k + 64 * l)).map (· / 64))
  let s := lines.foldl (fun t l =>
    let t := (t.count .MEM_POISON_CNT).raise F.MEM_EVENT_POISON
    let t := t.noteUe 3 f 7 (64 * l)
    { t with mem := { t.mem with poison := t.mem.poison ++ [l] } }) s
  let s := s.setPair .MEM_MIG_PTR_L .MEM_MIG_PTR_H 0 8 (k + 4096)
  let s := { s with mem := { s.mem with migForce := false } }
  (if k + 4096 ≥ 2 ^ 33 then s.migrationDone else s, lines)

/-! ### Command slots -/

/-- R365: the urgency of a request of age `a` ns under a target. -/
def urgencyOf (lat a : Nat) : Nat :=
  if 2 * a < lat then 0 else if 4 * a < 3 * lat then 1 else if a < lat then 2 else 3

/-- The urgency of a piece now. -/
def State.urgency (s : State) (x : MemTx) : Nat := urgencyOf (atLeast1 (s.fld F.MEM_QOS_LAT x.port)) (s.clk - x.birth)

/-- The open row of a bank of a rank. -/
def State.openRow (s : State) (rank bank : Nat) : Option Nat :=
  (s.mem.rows.find? (fun e => e.1 == 32 * rank + bank)).map (·.2)

/-- A piece hits an open row. -/
def State.rowHit (s : State) (x : MemTx) : Bool :=
  let o := (s.memMap x.addr).2
  s.openRow (s.txRank x) (s.bankOf o) == some (rowOf o)

/-- The class of a port above BULK (R363): every port but DMA is ROUTINE. -/
def portRoutine (p : Nat) : Bool := p != 4

/-- The command that a piece needs next: its column command when its row is open, else a precharge or an activate. -/
def State.nextCmd (s : State) (x : MemTx) : DramCmd :=
  if s.rowHit x then (if x.write then .wr else .rd)
  else if (s.openRow (s.txRank x) (s.bankOf (s.memMap x.addr).2)).isSome then .pre
  else .act

/-- R386: word `i` of the timing table of the set point in force. -/
def State.dramParam (s : State) (i : Nat) : Nat := (s.tab (0x12100000 + 0x80 * s.fld F.MEM_STATUS_FSP + 4 * i)).toNat

/-- R386: the data rate of the set point in force, MT/s. A table that gives none is taken at DDR5-6400 (notes/assumptions/138). -/
def State.dramRate (s : State) : Nat :=
  let r := s.dramParam 0 % 65536
  if r == 0 then 6400 else r

/-- R369, R386: `cycles` DRAM clock cycles and `add` MCLK cycles of 0.625 ns have passed since a stamp. -/
def State.dramPassed (s : State) (stamp cycles add : Nat) : Bool :=
  stamp == 0 || cycles * 16000 + 5 * add * s.dramRate ≤ 8 * (s.clk + 1 - stamp) * s.dramRate

/-- R386: the DRAM clock cycles from a command `a` to a command `b` of the same subchannel, with the meaning that JESD79-5
gives the table's parameters (notes/assumptions/138): at the same rank, bank group and bank as told. -/
def State.dramGap (s : State) (a b : DramCmd) (rank group bank : Bool) : Nat :=
  match a, b with
  | .act, .act => if bank then s.dramParam 6 else if group then s.dramParam 8 else if rank then s.dramParam 7 else 0
  | .act, .rd => if bank then s.dramParam 3 else 0
  | .act, .wr => if bank then s.dramParam 3 else 0
  | .act, .pre => if bank then s.dramParam 5 else 0
  | .pre, .act => if bank then s.dramParam 4 else 0
  | .rd, .pre => if bank then s.dramParam 13 else 0
  | .wr, .pre => if bank then s.dramParam 2 + 8 + s.dramParam 10 else 0
  | .rd, .rd => if group then s.dramParam 15 else s.dramParam 14
  | .wr, .wr => if group then s.dramParam 16 else s.dramParam 14
  | .wr, .rd => if group then s.dramParam 2 + 8 + s.dramParam 12 else if rank then s.dramParam 2 + 8 + s.dramParam 11 else 0
  | .ref, .act => if rank then s.dramParam 17 else 0
  | _, _ => 0

/-- R369: the distances that a rank's derate makes longer: tRCD, tRP, tRC and tRRD. -/
def derated (a b : DramCmd) : Bool :=
  match a, b with
  | .act, .act => true
  | .act, .rd => true
  | .act, .wr => true
  | .pre, .act => true
  | _, _ => false

/-- R386: a command to a bank keeps its distances from the commands before it, and the fifth activate of a rank its window
tFAW. -/
def State.dramAllowed (s : State) (rank bank : Nat) (c : DramCmd) : Bool :=
  s.mem.stamps.all (fun e =>
    let k := e.1 / 8
    let a := (DramCmd.ofCode (e.1 % 8))
    k / 32 / 2 != rank / 2 || s.dramPassed e.2
      (s.dramGap a c (k / 32 == rank) (k / 4 == (32 * rank + bank) / 4) (k == 32 * rank + bank))
      (if derated a c && k / 32 == rank then s.derate rank else 0)) &&
  (c != .act || match (s.mem.acts.filter (fun e => e.1 == rank))[3]? with
    | none => true
    | some e => s.dramPassed e.2 (s.dramParam 9) 0)

/-- R366, R386: the command that a piece needs next may be issued now. -/
def State.cmdAllowed (s : State) (x : MemTx) : Bool :=
  s.dramAllowed (s.txRank x) (s.bankOf (s.memMap x.addr).2) (s.nextCmd x)

/-- R366: piece `x` goes before piece `y`. -/
def State.goesBefore (s : State) (x y : MemTx) : Bool :=
  let p (z : MemTx) : Bool := decide (z.port < 3) && s.bit F.MEM_PSTAT_PANIC z.port
  if p x != p y then p x
  else if s.urgency x != s.urgency y then decide (s.urgency y < s.urgency x)
  else if s.rowHit x != s.rowHit y then s.rowHit x
  else if portRoutine x.port != portRoutine y.port then portRoutine x.port
  else if x.birth != y.birth then decide (x.birth < y.birth)
  else decide (x.port < y.port)

/-- R378: the page of a piece is being copied, so it waits. -/
def State.pageWaits (s : State) (x : MemTx) : Bool :=
  let m := s.memMap x.addr
  s.fld F.MEM_STATUS_MIG == 1 && !s.mem.migPaused && m.1 == s.fld F.MEM_RMAP_FROM && m.2 / 4096 == s.migK / 4096

/-- R366: the pieces that are eligible in a slot of subchannel `sc`. Writes are when the write queue holds 384 or more, no
read is eligible, or port 0 or 1 is in PANIC. During a set-point change only accesses from before it are (R385). -/
def State.eligible (s : State) (sc : Nat) : List MemTx :=
  let mine := s.mem.waiting.filter (fun x => s.txRank x / 2 == sc && !s.pageWaits x && s.cmdAllowed x &&
    (match s.mem.change with
      | none => true
      | some c => decide (x.op < c.2)))
  let reads := mine.filter (fun x => !x.write)
  let writes := (mine.filter (fun x => x.write)).take 512
  if 384 ≤ writes.length || reads.isEmpty || s.bit F.MEM_PSTAT_PANIC 0 || s.bit F.MEM_PSTAT_PANIC 1 then reads ++ writes
  else reads

/-- The first of a list in the order of R366. -/
def State.firstOf (s : State) (l : List MemTx) : Option MemTx :=
  l.foldl (fun best x => match best with
    | none => some x
    | some y => if s.goesBefore x y then some x else some y) none

/-- The next command of a piece is issued: its column command when its row is open, else a precharge or an activate. A
column command at urgency 3 is counted in MEM_LATE_CNT (R365). -/
def State.issueFor (s : State) (sc : Nat) (x : MemTx) : State :=
  let o := (s.memMap x.addr).2
  let rank := s.txRank x
  let bank := s.bankOf o
  if s.rowHit x then
    let s := if s.urgency x == 3 then s.count .MEM_LATE_CNT x.port else s
    let c : DramCmd := if x.write then .wr else .rd
    let s := (s.emit (.dramCommand sc c.code o)).dramStamp rank bank c
    { s with mem := { s.mem with
      waiting := s.mem.waiting.erase x
      issued := s.mem.issued ++ [x] } }
  else
    let closed := s.mem.rows.filter (fun e => e.1 != 32 * rank + bank)
    if (s.openRow rank bank).isSome then
      (({ s with mem := { s.mem with rows := closed } } : State).emit (.dramCommand sc DramCmd.pre.code o)).dramStamp rank
        bank .pre
    else
      (({ s with mem := { s.mem with rows := closed ++ [(32 * rank + bank, rowOf o)] } } : State).emit
        (.dramCommand sc DramCmd.act.code o)).dramStamp rank bank .act

/-- R383: a slice of the running training step is issued; `last` tells whether it is the step's last. -/
def State.trainSlice (s : State) (last : Bool) : State :=
  match s.mem.slice with
  | none => s
  | some (r, _) =>
    let s := s.emit (.dramCommand (r / 2) DramCmd.slice.code r)
    if last then
      let s := { s with mem := { s.mem with slice := none } }
      (s.put F.MEM_STATUS_TRAINING 0 0).put F.MEM_TRN_STATUS_STEP 0 0
    else { s with mem := { s.mem with slice := some (r, false) } }

/-- R370: an idle slot pulls a refresh in, down to D = −4. -/
def State.pullIn (s : State) (sc : Nat) : State :=
  if s.bit F.MEM_REF_CFG_PULLIN_EN then
    match [2 * sc, 2 * sc + 1].find? (fun r => s.inService r && !(s.memRank r).selfRef && decide (-4 < s.debt r)) with
    | some r => (s.refreshRank r).putDebt r (s.debt r - 1)
    | none => s
  else s

/-- R367: background work in a slot of subchannel `sc` in which no port command is eligible: a slice of training, a command
of the page copy, or a refresh pulled in. The spec gives no order among them (notes/assumptions/27). -/
def State.background (s : State) (sc : Nat) (last : Bool) : State :=
  match s.mem.slice with
  | some (r, _) => if r / 2 == sc then s.trainSlice last else s.pullIn sc
  | none =>
    if s.fld F.MEM_STATUS_MIG == 1 && !s.mem.migPaused && s.fld F.MEM_RMAP_FROM / 2 == sc then
      s.emit (.dramCommand sc DramCmd.copy.code s.migK)
    else s.pullIn sc

/-- R366, R367: a slot of subchannel `sc` without a forced command. A page copy that has waited FLOOR goes as a command of
urgency 3. -/
def State.ordinarySlot (s : State) (sc : Nat) (last : Bool) : State :=
  let copySlot := s.mem.migForce && s.fld F.MEM_STATUS_MIG == 1 && s.fld F.MEM_RMAP_FROM / 2 == sc
  match s.firstOf (s.eligible sc) with
  | none => if copySlot then s.emit (.dramCommand sc DramCmd.copy.code s.migK) else s.background sc last
  | some x =>
    let panic := decide (x.port < 3) && s.bit F.MEM_PSTAT_PANIC x.port
    if copySlot && !panic && s.urgency x < 3 then s.emit (.dramCommand sc DramCmd.copy.code s.migK)
    else s.issueFor sc x

/-- R366, R367: one command slot of subchannel `sc`. A forced slice goes first. -/
def State.commandSlot (s : State) (sc : Nat) (last : Bool) : State :=
  if !s.bit F.MEM_STATUS_READY && s.mem.change.isNone then s
  else
    match s.mem.slice with
    | some (r, true) => if r / 2 == sc then s.trainSlice last else s.ordinarySlot sc last
    | _ => s.ordinarySlot sc last

/-! ### Responses -/

/-- The oldest issued read or write of a subchannel. -/
def State.oldestIssued (s : State) (sc : Nat) (write : Bool) : Option MemTx :=
  s.mem.issued.find? (fun x => x.write == write && s.txRank x / 2 == sc)

/-- Take a piece out of the issued ones. -/
def State.unissue (s : State) (x : MemTx) : State := { s with mem := { s.mem with issued := s.mem.issued.erase x } }

/-- R373, R374, R376, R379: read data returns through ECC. -/
def State.readReturn (s : State) (x : MemTx) (out : ReadOutcome) : State :=
  let rank := s.txRank x
  let s := s.unissue x
  if s.mem.poison.contains (x.addr / 64) then
    let s := s.noteUe 2 rank x.port x.addr
    (s.count .MEM_POISON_RD_CNT).pieceEnd x (some .poison)
  else match out with
    | .clean => s.pieceEnd x none
    | .corrected => (s.correctedError rank).pieceEnd x none
    | .uncorrectable => s.rankFailure rank 0 x.port x.addr (some x)

/-- R375: a component signals a write CRC error: the write is replayed up to 3 times, and a fourth failure is a command
error of the rank. -/
def State.crcAlert (s : State) (x : MemTx) : State :=
  let s' := s.unissue x
  if x.crc < 3 then
    ({ s' with mem := { s'.mem with waiting := { x with crc := x.crc + 1 } :: s'.mem.waiting } } : State).count
      .MEM_CRC_RETRY_CNT
  else s'.rankFailure (s.txRank x) 1 x.port x.addr (some x)

/-! ### Set points -/

/-- HOLD_FSP: 1 is treated as 0 when FSP1_EN = 0. -/
def State.holdFsp (s : State) : Nat := if s.bit F.MEM_FSP_CFG_FSP1_EN then s.fld F.MEM_FSP_CFG_HOLD_FSP else 0

/-- R384, R385: a change to set point `f` starts, or is held while another runs. A training step that gathers data completes
first: its last slice is issued. -/
def State.fspTo (s : State) (f : Nat) : State :=
  match s.mem.change with
  | some _ => { s with mem := { s.mem with held := some f } }
  | none =>
    if s.fld F.MEM_STATUS_FSP == f then s
    else
      let s := s.trainSlice true
      let s := { s with mem := { s.mem with change := some (f, s.mem.nextOp), slice := none, rows := [], stamps := [] } }
      let s := (s.put F.MEM_STATUS_CHANGING 0 1).put F.MEM_STATUS_READY 0 0
      (s.put F.MEM_STATUS_TRAINING 0 0).put F.MEM_TRN_STATUS_STEP 0 0

/-- R372: a rank's debt is 0 at self-refresh exit. -/
def State.clearDebts (s : State) : State := forBelow 16 (fun r t => t.putDebt r 0) s

/-- R385: a change completes: granting resumes, and the request held during it runs. -/
def State.fspDone (s : State) : State :=
  match s.mem.change with
  | none => s
  | some (f, _) =>
    let s := { s with mem := { s.mem with change := none } }
    let s := s.clearDebts
    let s := ((s.put F.MEM_STATUS_FSP 0 f).put F.MEM_STATUS_CHANGING 0 0).put F.MEM_STATUS_READY 0 1
    let s := s.put F.MEM_TRN_STATUS_TRAINED 0 (s.fld F.MEM_TRN_STATUS_TRAINED ||| 2 ^ f)
    let s := (s.count .MEM_FSP_CNT).raise F.MEM_EVENT_FSP_DONE
    match s.mem.held with
    | none => s
    | some g => ({ s with mem := { s.mem with held := none } } : State).fspTo g

/-- R384: a request by MEM_FSP_CTRL: refused outside HOLD. -/
def State.fspRequest (s : State) (f : Nat) : State :=
  if s.mode == .hold && s.glb.trans.isNone then s.fspTo f
  else (s.count .MEM_FSP_REFUSE_CNT).raise F.MEM_EVENT_FSP_REFUSED

/-- R383: a training step of the next in-service rank begins. -/
def State.trainNext (s : State) : State :=
  match ((List.range 16).map (fun i => (s.mem.trainRank + i) % 16)).find? (fun r => s.inService r) with
  | none => s
  | some r =>
    let s := { s with mem := { s.mem with slice := some (r, false), trainRank := (r + 1) % 16 } }
    let s := (s.put F.MEM_STATUS_TRAINING 0 1).put F.MEM_TRN_STATUS_STEP 0 4
    s.put F.MEM_TRN_STATUS_TFSP 0 (s.fld F.MEM_STATUS_FSP)

/-- The ranks that STANDBY puts into self-refresh: those in service, and the understudy while a copy runs (R378, R381). -/
def State.refreshed (s : State) (r : Nat) : Bool :=
  s.inService r || (s.fld F.MEM_STATUS_MIG == 1 && s.fld F.MEM_RMAP_TO == r)

/-- R372, R381: STANDBY entry: every such rank is refreshed until its debt is at most 0 and enters self-refresh, and a
copy pauses. -/
def State.memStandby (s : State) : State :=
  let s := forBelow 16 (fun r t =>
    if t.refreshed r then (forBelow (t.debt r).toNat (fun _ u => u.refreshRank r) t).putDebt r (min (t.debt r) 0) else t) s
  let s := forBelow 16 (fun r t => if t.refreshed r then t.setMemRank r { t.memRank r with selfRef := true } else t) s
  let s := { s with mem := { s.mem with migPaused := true, rows := [], slice := none } }
  s.put F.MEM_STATUS_READY 0 0

/-- R372, R381: STANDBY exit. -/
def State.memWake (s : State) : State :=
  let s := forBelow 16 (fun r t => if t.refreshed r then t.setMemRank r { t.memRank r with selfRef := false } else t) s
  let s := { s with mem := { s.mem with migPaused := false } }
  s.clearDebts.put F.MEM_STATUS_READY 0 1

end Sys2Proof.Machine
end

