-- ==== Sys2Proof/Machine/BookOps.lean ====
section
/-! DEFINITION. Machine/BookOps.lean: the calibration summary as blocks change it, on its way into the prompt book
(spec/18 R526, R528, R529). -/

namespace Sys2Proof.Machine

/-- The newest calibration summary: the last of the groups on their way, or the mirror's. -/
def State.calib (s : State) : Calib :=
  s.pwr.groups.foldl (fun c g => g.calib.getD c) s.pwr.mirror.calib

/-- R528, R529: a calibration acceptance crosses as one group with its close item, and raises GEN by 1. -/
def State.calibGroup (s : State) (f : Calib → Calib) : State :=
  let c := f s.calib
  { s with pwr := { s.pwr with groups := s.pwr.groups ++ [⟨some { c with gen := c.gen + 1 }, none, true⟩] } }

/-- R529: an update of the summary that is no acceptance crosses as a group of its own. -/
def State.calibNote (s : State) (f : Calib → Calib) : State :=
  { s with pwr := { s.pwr with groups := s.pwr.groups ++ [⟨some (f s.calib), none, true⟩] } }

/-- The stale and offset words of the summary follow COR's registers (R528). -/
def State.calibCor (s : State) (c : Calib) : Calib :=
  { c with stale := s.rd .COR_STALE, ofsOld := s.rd .COR_OFS_OLD }

end Sys2Proof.Machine
end

