-- ==== Sys2Proof/Machine/Coding.lean ====
section
/-! DEFINITION. Machine/Coding.lean: the block coding of the Yofer link (spec/03 R71, R72): sync headers, block types, and the
self-synchronising scrambler; and the test patterns of the lanes (spec/13 R404). -/

namespace Sys2Proof.Machine

/-- R71: the sync header of a block: 01 for data, 10 for control. -/
def syncHeader (control : Bool) : BitVec 2 := if control then 2 else 1

/-- R71: a sync header that no block has. -/
def headerBad (hdr : BitVec 2) : Bool := hdr == 0 || hdr == 3

/-- R72: the block types that a camera sends: IDLE, ALIGN, SOL, EOL, DESC, ERR. -/
def cameraTypes : List Nat := [0x1E, 0x2D, 0x33, 0x55, 0x66, 0x4B]

/-- R72: the block types that the device sends: IDLE, CUE, SET, DREQ. -/
def backTypes : List Nat := [0x1E, 0x78, 0x99, 0xAA]

/-- R71: a block from a camera is invalid for its sync header, or for the type of a control block. -/
def blockInvalid (hdr : BitVec 2) (payload : BitVec 64) : Bool :=
  headerBad hdr || (hdr == syncHeader true && !(cameraTypes ++ backTypes).contains (payload.toNat / 2 ^ 56))

/-- R71: a control block: its type in bits [63:56], and the type's fields below. -/
def controlBlock (typ fields : Nat) : BitVec 64 := BitVec.ofNat 64 (typ % 256 * 2 ^ 56 + fields % 2 ^ 56)

/-- R71: one bit through the scrambler x^58 + x^39 + 1. The register holds the 58 bits sent last, the newest in bit 0. -/
def scrambleBit (r : BitVec 58) (b : Bool) : BitVec 58 × Bool :=
  let o := b ^^ r.getLsbD 38 ^^ r.getLsbD 57
  (r <<< 1 ||| (if o then 1 else 0), o)

/-- R71: one bit through the descrambler, whose register holds the 58 bits received last. -/
def descrambleBit (r : BitVec 58) (o : Bool) : BitVec 58 × Bool :=
  (r <<< 1 ||| (if o then 1 else 0), o ^^ r.getLsbD 38 ^^ r.getLsbD 57)

/-- R71: bits through the scrambler, in the order sent. -/
def scramble : BitVec 58 → List Bool → List Bool
  | _, [] => []
  | r, b :: bs => (scrambleBit r b).2 :: scramble (scrambleBit r b).1 bs

/-- R71: bits through the descrambler, in the order received. -/
def descramble : BitVec 58 → List Bool → List Bool
  | _, [] => []
  | r, o :: os => (descrambleBit r o).2 :: descramble (descrambleBit r o).1 os

/-- R404: the next bit of a test pattern after the bits sent last, newest in bit 0: 0 is PRBS7, x^7 + x^6 + 1; 1 is PRBS15,
x^15 + x^14 + 1; 2 is PRBS31, x^31 + x^28 + 1. -/
def prbsBit (pattern : Nat) (last : BitVec 31) : Bool :=
  match pattern with
  | 0 => last.getLsbD 6 ^^ last.getLsbD 5
  | 1 => last.getLsbD 14 ^^ last.getLsbD 13
  | _ => last.getLsbD 30 ^^ last.getLsbD 27

end Sys2Proof.Machine
end

