-- ==== Sys2Proof/Machine/CorOps.lean ====
section
/-! DEFINITION. Machine/CorOps.lean: strip statistics, the exposure loop and flat-field acquisition (spec/04 R129 to
R145). -/

namespace Sys2Proof.Machine

/-- A head of COR as it stands after reset. -/
def CorHead.fresh : CorHead := ⟨[], false, none, [], [], 0, none, none, none, none, false, false⟩

/-- A port's controller as it stands after reset. -/
def CorPort.fresh : CorPort := ⟨[], [[], []], 0, none, false⟩

/-- One head of COR. -/
def State.corHead (s : State) (h : Nat) : CorHead := s.cor.heads.getD h CorHead.fresh

/-- Change one head of COR. -/
def State.setCorHead (s : State) (h : Nat) (x : CorHead) : State :=
  { s with cor := { s.cor with heads := s.cor.heads.set h x } }

/-- One port's exposure controller. -/
def State.corPort (s : State) (p : Nat) : CorPort := s.cor.ports.getD p CorPort.fresh

/-- Change one port's exposure controller. -/
def State.setCorPort (s : State) (p : Nat) (x : CorPort) : State :=
  { s with cor := { s.cor with ports := s.cor.ports.set p x } }

/-- A bit that belongs to head `h` in a per-head register of COR. -/
def headBit (r : Reg) (h : Nat) : Fld := ⟨r, h, 1⟩

/-- The state code of a head's run (COR_FF_STATE). -/
def State.putFfState (s : State) (h code : Nat) : State := s.put ⟨.COR_FF_STATE, 2 * (h % 16), 2⟩ (h / 16) code

/-- COR_FF_STATE of a head. -/
def State.ffState (s : State) (h : Nat) : Nat := s.fld ⟨.COR_FF_STATE, 2 * (h % 16), 2⟩ (h / 16)

/-! ### Statistics spans -/

/-- R129: a span as it opens at a line. -/
def Span.open (sid : Nat) (n : LineNo) (t : Tick) : Span := ⟨sid, n, n, 0, t, 0, List.replicate 256 0, [0, 0, 0]⟩

/-- R129: one pixel joins a span. The sums wrap modulo 2^40 (notes/assumptions/116). -/
def Span.addPix (sp : Span) (colour : Bool) (x : Pix) : Span :=
  if x.inv || x.clip then sp
  else
    let b := if colour then x.v1 / 16 else x.v0 / 256
    { sp with
      pixels := sp.pixels + 1
      bins := sp.bins.set b (min (sp.bins.getD b 0 + 1) 0xFFFFFFFF)
      sums := [(sp.sums.getD 0 0 + x.v0) % 2 ^ 40, (sp.sums.getD 1 0 + x.v1) % 2 ^ 40,
        (sp.sums.getD 2 0 + x.v2) % 2 ^ 40] }

/-- R262: the words of one of the four STRIP_STATS records of a span, from word 1 on: word 1 is the start instant of the
span's first line. -/
def statsWords (h part : Nat) (colour : Bool) (sp : Span) : List DWord :=
  [sp.start,
   packWord [(59, h), (57, part), (56, b2n colour), (48, sp.sid), (0, sp.first.toNat)],
   packWord [(40, sp.lines % 2 ^ 24), (0, sp.last.toNat)],
   BitVec.ofNat 64 sp.pixels,
   BitVec.ofNat 64 (sp.sums.getD 0 0),
   BitVec.ofNat 64 (if colour then sp.sums.getD 1 0 else 0),
   BitVec.ofNat 64 (if colour then sp.sums.getD 2 0 else 0)] ++
  (List.range 32).map (fun i =>
    packWord [(0, sp.bins.getD (64 * part + 2 * i) 0), (32, sp.bins.getD (64 * part + 2 * i + 1) 0)])

/-- R130: a closed span with lines emits four STRIP_STATS records when STATS_EN is 1 and throttle step 4 is not active
(R521). -/
def State.emitStats (s : State) (h : Nat) (sp : Span) : State :=
  if s.bit F.COR_CTRL_STATS_EN && sp.lines != 0 && !(s.throttled 4) then
    forBelow 4 (fun part t => t.formRecord .routine 0x20 (statsWords h part (t.headColour h) sp) []) s
  else s

/-- R129, R130: the head's open span closes. -/
def State.closeSpan (s : State) (h : Nat) : State :=
  let c := s.corHead h
  match c.span with
  | none => s
  | some sp => (s.setCorHead h { c with span := none, cur := c.cur ++ [sp] }).emitStats h sp

/-- R129: a line that leaves COR joins the statistics. Replaced lines, lines of an unknown SID and lines of R139 pass over
them. -/
def State.statLine (s : State) (h : Nat) (l : CorLine) (px : List Pix) : State :=
  if l.raw.replaced || !l.raw.known || l.blank then s
  else
    let s := match (s.corHead h).span with
      | some sp => if sp.sid == l.raw.sid then s else s.closeSpan h
      | none => s
    let c := s.corHead h
    let sp := c.span.getD (Span.open l.raw.sid l.raw.line l.raw.start)
    let sp := px.foldl (fun a x => a.addPix (s.headColour h) x) sp
    s.setCorHead h { c with span := some { sp with last := l.raw.line, lines := sp.lines + 1 } }

/-! ### The exposure loop -/

/-- The smallest bin whose cumulative count reaches `pct` percent of `total`. -/
def pctBin (bins : List Nat) (acc pct total b : Nat) : Nat :=
  match bins with
  | [] => 255
  | x :: r => if pct * total ≤ 100 * (acc + x) then b else pctBin r (acc + x) pct total (b + 1)

/-- R131: the percentile level of a span. -/
def spanLevel (pct : Nat) (sp : Span) : Nat := pctBin sp.bins 0 pct sp.pixels 0 * 256 + 128

/-- PCT of a port; values outside 50 to 100 are treated as 98. -/
def State.expPct (s : State) (p : Nat) : Nat :=
  let v := s.fld F.COR_EXP_CFG_PCT p
  if 50 ≤ v && v ≤ 100 then v else 98

/-- The SET payload of R72 for one parameter of a head. -/
def setPayload (sid head param value : Nat) (commit : Bool) : Nat :=
  sid * 2 ^ 48 + head * 2 ^ 47 + param * 2 ^ 40 + b2n commit * 2 ^ 39 + value % 2 ^ 32

/-- The slots of a back-channel, 20.48 ns each (R72), that start in the first `n` ns of the model's clock. -/
def backSlots (n : Nat) : Nat := n * 25 / 512

/-- R85: a block with COMMIT has left: later cues carry its SID. -/
def CamPort.committed (c : CamPort) (k : Nat) : CamPort :=
  { c with
    sids := (k :: c.sids).take 4
    setCue := none
    setTmo := false
    heads := c.heads.map (fun h => { h with echoed := false }) }

/-- R72, R85: the fields of a CUE block for line `n`. -/
def cuePayload (n : LineNo) (sid : Nat) : Nat := n.toNat * 2 ^ 16 + sid * 2 ^ 8

/-- R83, R101: the block that a port's back-channel sends in its next slot: a waiting cue, else a waiting SET block, else a
DREQ, else IDLE; none while the port is OFF. -/
def State.backNext (s : State) (p : Nat) : Option (Nat × Nat) :=
  let c := s.camPort p
  if s.fld F.CAM_STATUS_STATE p == 0 then none
  else match c.cueQ, c.backQ with
    | n :: _, _ => some (0x78, cuePayload n (c.sids.headD 0))
    | [], b :: _ => some (b.typ, b.payload)
    | [], [] => some (0x1E, 0)

/-- R69, R70, R101: the reference output of port `p` runs in LOAD, REHEARSE, PERFORM and HOLD while CAM_CTRL.REFOUT_EN is
1. -/
def State.camRefOut (s : State) (p : Nat) : Bool :=
  s.glb.powered && s.bit F.CAM_CTRL_REFOUT_EN p &&
    (s.mode == .load || s.mode == .rehearse || s.mode == .perform || s.mode == .hold)

/-- R83: one slot of a port's back-channel. A waiting cue takes it (R82), else the front block of the queue. -/
def State.backSend (s : State) (p : Nat) : State :=
  let c := s.camPort p
  match c.cueQ, c.backQ with
  | [], b :: r =>
    let c := { c with backQ := r }
    (s.setCamPort p ((b.commit.map c.committed).getD c)).emit (.camBlock p b.typ b.payload)
  | _, _ => s

/-- R83: the slots of a port's back-channel that have started since it was last looked at (notes/assumptions/119). -/
def State.backDrain (s : State) (p : Nat) : State :=
  let c := s.camPort p
  forBelow (min (backSlots s.clk - backSlots c.slotAt) c.backQ.length) (fun _ t => t.backSend p)
    (s.setCamPort p { c with slotAt := s.clk })

/-- A block joins the queue of a port's back-channel (R83): SET before DREQ. -/
def State.backQueue (s : State) (p : Nat) (blocks : List BackBlock) : State :=
  let s := s.backDrain p
  let c := s.camPort p
  let q := c.backQ ++ blocks
  s.setCamPort p { c with backQ := q.filter (fun b => b.typ == 0x99) ++ q.filter (fun b => b.typ != 0x99) }

/-- R83, R85: the SET blocks of SID `k` wait for slots of the back-channel, the last with COMMIT, before a waiting DREQ.
`vals` gives PARAM 0 of each head in ns. An echo of an earlier use of `k` is forgotten. -/
def State.commitSet (s : State) (p k : Nat) (vals : List Nat) : State :=
  let n := vals.length
  let blocks : List BackBlock := (List.range n).map (fun j =>
    ⟨0x99, setPayload k j 0 (vals.getD j 0) (j + 1 == n), if j + 1 == n then some k else none⟩)
  let s := s.backQueue p blocks
  let x := s.corPort p
  s.setCorPort p { x with echoed := x.echoed.map (fun l => l.filter (· != k)) }

/-- The SID that follows `k` in rotation (R132). -/
def nextSid (k : Nat) : Nat := if k ≥ 255 then 1 else k + 1

/-- R82, R85: the newest SID whose COMMIT block has left, 0 before the first. -/
def State.sidNow (s : State) (p : Nat) : Nat := (s.camPort p).sids.headD 0

/-- The SID after the newest one in rotation, counting sets that still wait for their slots. -/
def State.sidNext (s : State) (p : Nat) : Nat :=
  nextSid (((s.camPort p).backQ.filterMap (·.commit)).getLast?.getD (s.sidNow p))

/-- R132: the controller commits exposure `t` under SID `k`. -/
def State.commitExposure (s : State) (p k t : Nat) : State :=
  let s := s.commitSet p k (List.replicate (max (s.portHeads p) 1) (t * 10))
  let s := (s.put F.COR_EXP_STATE_SID p k).put F.COR_EXP_STATE_EXPOSURE p t
  let c := s.corPort p
  s.setCorPort p { c with exps := ((k, t) :: c.exps).take 8 }

/-- R132: a head of the port has echoed a SID. -/
def State.echoedAll (s : State) (p k : Nat) : Bool :=
  (List.range (s.portHeads p)).all (fun j => ((s.corPort p).echoed.getD j []).contains k)

/-- R133: the SID most recently echoed by every head: the newest echo of head 0 that every head has echoed. -/
def State.lastEchoed (s : State) (p : Nat) : Option Nat :=
  ((s.corPort p).echoed.getD 0 []).find? (fun k => s.echoedAll p k)

/-- R133: after a settings timeout the controller takes the SID most recently echoed by every head as committed, with that
SID's exposure. The spec states no exposure for SID 0, under which the camera exposes before its first set: a free value
(notes/assumptions/3). -/
def State.expTimeout (s : State) (p : Nat) : State :=
  match s.lastEchoed p with
  | none => s
  | some k =>
    let s := s.put F.COR_EXP_STATE_SID p k
    match (s.corPort p).exps.find? (fun e => e.1 == k) with
    | some e => s.put F.COR_EXP_STATE_EXPOSURE p e.2
    | none =>
      let r := s.drawFree
      r.2.put F.COR_EXP_STATE_EXPOSURE p (r.1.toNat % 65536)

/-- The spans of SID `k` in the strip a head closed last. -/
def CorHead.spansOf (c : CorHead) (k : Nat) : List Span := c.strip.filter (fun sp => sp.sid == k)

/-- R132: a step of the controller whose conditions on echo and lines hold: the new exposure and whether a clamp acted. -/
def State.expStep (s : State) (p m t : Nat) : Nat × Bool :=
  let d : Int := (s.fld F.COR_EXP_CFG_TARGET p : Int) - m
  let st := s.fld F.COR_EXP_STEP_STEP_MAX p
  let k := s.fld F.COR_EXP_STEP_K p
  let num := clampI (-((st * 8 * m : Nat) : Int)) ((st * 8 * m : Nat) : Int) (d * k)
  let v := roundHalfUpDiv ((t : Int) * (256 * m + num)) (256 * m)
  let r := clampI (s.fld F.COR_EXP_LIM_EXP_MIN p) (s.fld F.COR_EXP_LIM_EXP_MAX p) v
  (r.toNat, r != v)

/-- R132: the controller runs once, when both heads of the port have closed a strip. -/
def State.exposureRun (s : State) (p : Nat) : State :=
  let k := s.fld F.COR_EXP_STATE_SID p
  let t := s.fld F.COR_EXP_STATE_EXPOSURE p
  let heads := (List.range (s.portHeads p)).map (fun j => s.corHead (headOf p j))
  let need := s.fld F.COR_EXP_STEP_MIN_LINES p
  if !(s.echoedAll p k) || heads.any (fun c => decide (sumN ((c.spansOf k).map (·.lines)) < need)) then
    s.put F.COR_EXP_STATE_WAIT p 1
  else
    let s := s.put F.COR_EXP_STATE_WAIT p 0
    let pct := s.expPct p
    let m : Nat := heads.foldl (fun a c => (c.spansOf k).foldl (fun b sp => max b (spanLevel pct sp)) a) 0
    if m == 0 || decide (absN ((s.fld F.COR_EXP_CFG_TARGET p : Int) - m) * 200 < s.fld F.COR_EXP_STEP_DEADBAND p * m) then s
    else
      let r := s.expStep p m t
      let s := if r.2 then
          ((s.put F.COR_EXP_STATE_LIMIT p 1).count .COR_EXP_LIMIT_CNT).raise F.COR_EVENT_EXP_LIMIT
        else s
      if r.1 == t then s
      else
        let s := (s.commitExposure p (nextSid k) r.1).count .COR_EXP_CHANGE_CNT
        s.putB F.COR_EXP_STATE_LIMIT p r.2

/-- The image's initial exposure, which no register states, is a free value (notes/assumptions/21). R132: it goes to the
camera once in LOAD under SID 1. -/
def State.initialSet (s : State) (p : Nat) : State :=
  if (s.corPort p).started then s
  else
    let r := s.drawFree
    let s := r.2.commitExposure p (r.2.sidNext p) (r.1.toNat % 65536)
    s.setCorPort p { s.corPort p with started := true }

/-! ### Flat-field runs -/

/-- The trigger that holds for head `h` at a strip boundary: the kind of run (true for dark) and what triggered it
(R106, R136, R138, R142, R506). -/
def State.ffWanted (s : State) (h : Nat) : Option (Bool × FfTrigger) :=
  let c := s.corHead h
  let p := portOf h
  if !(s.bit F.COR_CTRL_FF_EN) then none
  else if s.mode == .rehearse then
    if s.bit F.GLB_STATUS_VERIFY then none
    else if !(bitAt s.glb.headDark h) then some (true, .rehearsal)
    else if !(bitAt s.glb.headGain h) then some (false, .rehearsal)
    else none
  else if s.mode == .perform then
    if s.bit F.CAM_STATUS_PREH p then
      if bitAt (s.camPort p).prehFf (h % 2) then none else some (false, .camera)
    else if c.armed == some .temperature && c.retry.isNone && !(s.throttled 4) then some (false, .temperature)
    else none
  else none

/-- CAM_TEMP.TEMPh of a head, in 1/16 °C. -/
def State.headTempField (s : State) (h : Nat) : Int :=
  signedOf 12 (if h % 2 == 0 then s.fld F.CAM_TEMP_TEMP0 (portOf h) else s.fld F.CAM_TEMP_TEMP1 (portOf h))

/-- CAM_TEMP of a head, in 1/16 °C, when it is valid. -/
def State.headTemp (s : State) (h : Nat) : Option Int :=
  let p := portOf h
  if (if h % 2 == 0 then s.bit F.CAM_TEMP_VALID0 p else s.bit F.CAM_TEMP_VALID1 p) then some (s.headTempField h) else none

/-- R142: the temperature test of a head. -/
def State.tempTrigger (s : State) (h : Nat) : Bool :=
  match s.headTemp h, (s.corHead h).tLast with
  | some t, some l => decide (16 * atLeast1 (s.fld F.COR_FF_CFG_DTEMP) ≤ absN (t - l))
  | _, _ => false

/-- R142, R143: the trigger, when the head has no run in progress. -/
def State.ffTempCheck (s : State) (h : Nat) : State :=
  let c := s.corHead h
  if s.mode == .perform && s.bit F.COR_CTRL_FF_TEMP_EN && s.bit F.COR_CTRL_FF_EN && c.run.isNone
      && !(s.throttled 4) && s.tempTrigger h then
    s.setCorHead h { c with armed := some .temperature }
  else s

/-- R137, R134, R135: a run starts its first window at the head's boundary. A dark run sends the camera a set with
exposure 0 for the port's heads, unless one is already in force. -/
def State.ffStart (s : State) (h : Nat) (dark : Bool) (tr : FfTrigger) : State :=
  let p := portOf h
  let n := s.headPixels h
  let win := if dark then max (s.fld F.COR_DARK_CFG_LINES) 16 else atLeast1 (s.fld F.COR_FF_CFG_WIN)
  let s := if dark && (s.corPort p).darkSid.isNone then
      let k := s.sidNext p
      let t := s.commitSet p k (List.replicate (max (s.portHeads p) 1) 0)
      let x := t.corPort p
      t.setCorPort p { x with darkSid := some k, exps := ((k, 0) :: x.exps).take 8 }
    else s
  let c := s.corHead h
  let s := s.setCorHead h { c with
    armed := none
    run := some ⟨dark, s.rd .COR_FF_TOL, atLeast1 (s.fld F.COR_FF_CFG_RETRY), tr, win, win, 0, List.replicate n 0,
      List.replicate n 0, [], false, []⟩ }
  (s.putFfState h 1).raise F.COR_EVENT_FF_START

/-- When the last dark run of a port has ended, the committed exposure goes to the camera again, under the next SID
(notes/assumptions/22). -/
def State.darkEnd (s : State) (p : Nat) : State :=
  let busy := (List.range 2).any (fun j => match (s.corHead (headOf p j)).run with
    | some r => r.dark && !r.done
    | none => false)
  if (s.corPort p).darkSid.isSome && !busy then
    let s := s.setCorPort p { s.corPort p with darkSid := none }
    s.commitExposure p (s.sidNext p) (s.fld F.COR_EXP_STATE_EXPOSURE p)
  else s

/-- The end of a head's run without a result in force; a table write that has begun goes on (R139). -/
def State.ffDrop (s : State) (h : Nat) : State :=
  let c := s.corHead h
  ((s.setCorHead h { c with run := none }).putFfState h 0).darkEnd (portOf h)

/-- R138: a run in progress is abandoned; R143 abandons one without the event. A run that has been accepted is no longer in
progress: its result takes effect at the head's boundary (R139, R140). -/
def State.ffAbandon (s : State) (h : Nat) (event : Bool) : State :=
  match (s.corHead h).run with
  | none => s
  | some _ =>
    if s.ffState h == 3 then s
    else
    let s := s.ffDrop h
    if event then
      (s.wr .COR_FF_LAST 0 (BitVec.ofNat 32 (h * 2 ^ 27 + 5 * 2 ^ 24))).raise F.COR_EVENT_FF_ABANDON
    else s

/-- The middle value of a list, the lower one for an even number (R135). -/
def lowerMedian (l : List Int) : Int :=
  (sortBy (fun a b => decide (a < b)) l).getD ((l.length - 1) / 2) 0

/-- R135: the columns over which the local median of column `c` is taken. -/
def medianCols (colour : Bool) (p c : Nat) : List Nat :=
  (List.range 65).filterMap (fun (i : Nat) =>
    let t : Int := (c : Int) + ((i : Int) - 32) * (if colour then 2 else 1)
    if t < 0 || (p : Int) ≤ t then none else some t.toNat)

/-- The mean of a list of integers, rounded as R118 rounds. -/
def meanList (l : List Int) : Int := if l.isEmpty then 0 else Int.fdiv (l.foldl (· + ·) 0 + (l.length / 2 : Nat)) l.length

/-- R135: s_c of every column, none for a rejected or defective one. The reference is taken over the columns that pass the
other two tests, and is not taken again (notes/assumptions/118). -/
def State.gainResult (s : State) (h : Nat) (r : FfRun) : List (Option Int) :=
  let p := s.headPixels h
  let colour := s.headColour h
  let m : List (Option Int) := (List.range p).map (fun c =>
    if s.pixGain h c == 0 || r.cnts.getD c 0 == 0 then none else some (meanOf (r.sums.getD c 0) (r.cnts.getD c 0)))
  let val (c : Nat) : Option Int := m.getD c none
  let ok : List Bool := (List.range p).map (fun c =>
    match val c with
    | none => false
    | some x =>
      let l := lowerMedian ((medianCols colour p c).filterMap val)
      decide ((absN (x - l) : Int) * 100 ≤ (F.COR_FF_TOL_OUTLIER.get r.tol : Int) * l) &&
        decide (r.lines ≤ 2 * r.cnts.getD c 0) && decide (0 < x))
  let refOf (par : Nat) : Int := meanList ((List.range p).filterMap (fun c =>
    if ok.getD c false && (!colour || c % 2 == par) then val c else none))
  let ref0 := refOf 0
  let ref1 := refOf 1
  (List.range p).map (fun c =>
    match val c with
    | none => none
    | some x =>
      let ref := if colour && c % 2 == 1 then ref1 else ref0
      if ok.getD c false && decide (x ≤ 2 * ref) && decide (ref ≤ 2 * x) then
        some (roundHalfUpDiv (ref * 16384) x.toNat)
      else none)

/-- R134: o_c of every column, none for a defective one. -/
def State.darkResult (s : State) (h : Nat) (r : FfRun) : List (Option Int) :=
  (List.range (s.headPixels h)).map (fun c =>
    if s.pixGain h c == 0 || r.cnts.getD c 0 == 0 then none
    else some (clampI (-32768) 32767 (Int.fdiv (r.sums.getD c 0 + (r.cnts.getD c 0 / 2 : Nat)) (r.cnts.getD c 0))))

/-- R137: a window of the head's run ends. -/
def State.ffWindowEnd (s : State) (h : Nat) (r : FfRun) : State :=
  let res := if r.dark then s.darkResult h r else s.gainResult h r
  let n := s.headPixels h
  let c := s.corHead h
  if s.ffState h == 1 then
    (s.setCorHead h { c with run := some { r with
      one := res, left := r.win, lines := 0, sums := List.replicate n 0, cnts := List.replicate n 0 } }).putFfState h 2
  else (s.setCorHead h { c with run := some { r with res := res, done := true } }).darkEnd (portOf h)

/-- Add per-column values where a test holds. -/
def addCols (sums : List Int) (v : List Int) (use : Nat → Bool) : List Int :=
  (List.range sums.length).map (fun c => if use c then sums.getD c 0 + v.getD c 0 else sums.getD c 0)

/-- Count per column where a test holds. -/
def addCnts (cnts : List Nat) (use : Nat → Bool) : List Nat :=
  (List.range cnts.length).map (fun c => cnts.getD c 0 + b2n (use c))

/-- R134, R135: a line that leaves COR is measured by the head's run. A replaced line, which echoes nothing, does not end
the run of consecutive dark lines (notes/assumptions/117). -/
def State.ffLine (s : State) (h : Nat) (l : CorLine) (px : List Pix) : State :=
  let c := s.corHead h
  match c.run with
  | none => s
  | some r =>
    if r.done || s.ffState h == 3 then s
    else if r.dark then
      if l.raw.replaced then s
      else if some l.raw.sid == (s.corPort (portOf h)).darkSid && l.raw.known then
        let use (k : Nat) : Bool := !(l.inv.getD k true)
        let r := { r with left := r.left - 1, lines := r.lines + 1, sums := addCols r.sums l.r16 use, cnts := addCnts r.cnts use }
        if r.left == 0 then s.ffWindowEnd h r else s.setCorHead h { c with run := some r }
      else
        -- the lines of an acquisition are consecutive: another SID starts it again
        let n := s.headPixels h
        s.setCorHead h { c with run := some { r with
          left := r.win, lines := 0, sums := List.replicate n 0, cnts := List.replicate n 0 } }
    else
      let use (k : Nat) : Bool :=
        match px[k]? with
        | some x => !x.inv && !x.clip && !x.repl
        | none => false
      s.setCorHead h { c with run := some { r with
        lines := r.lines + 1, sums := addCols r.sums l.v4 use, cnts := addCnts r.cnts use } }

/-- R137: the accepted value of each column: the mean of the two, rounded half up; none keeps its previous value. -/
def ffMean (a b : List (Option Int)) : List (Option Int) :=
  (List.range a.length).map (fun c =>
    match a.getD c none, b.getD c none with
    | some x, some y => some (asr (x + y + 1) 1)
    | _, _ => none)

/-- R137: columns that fail the agreement test. -/
def State.ffDisagree (s : State) (h : Nat) (r : FfRun) : Nat :=
  let lsb := 2 ^ (16 - depthBits (s.headDepth h))
  countBelow (s.headPixels h) (fun c =>
    match r.one.getD c none, r.res.getD c none with
    | some a, some b =>
      if r.dark then decide (F.COR_FF_TOL_OFS_TOL.get r.tol * lsb < absN (a - b))
      else decide (((F.COR_FF_TOL_GAIN_TOL.get r.tol : Nat) : Int) * a < (absN (a - b) : Int) * 1000)
    | _, _ => false)

/-- R137: columns rejected in either acquisition of a gain run. -/
def State.ffRejected (s : State) (h : Nat) (r : FfRun) : Nat :=
  countBelow (s.headPixels h) (fun c =>
    s.pixGain h c != 0 && ((r.one.getD c none).isNone || (r.res.getD c none).isNone))

/-- R140: an accepted gain run in PERFORM fills the head's staged shading bank. -/
def State.fillBank (s : State) (h : Nat) (res : List (Option Int)) : State :=
  let work := s.shadeBank h
  let st := 1 - work
  forBelow (s.headPixels h) (fun c t =>
    let w := t.shade work h c
    let v := match res.getD c none with
      | none => w
      | some x => (clampI 0 65535 (asr (x * w + 8192) 14)).toNat
    let a := 0x10100000 + 4 * t.devCol h c
    let old := (t.tab a).toNat
    t.setTab a (BitVec.ofNat 32 (if st == 0 then bitsOf old 16 16 * 65536 + v else v * 65536 + bitsOf old 0 16))) s

/-- R139: the REHEARSE write of a result into the head's columns. -/
def State.writeResult (s : State) (h : Nat) (r : FfRun) : State :=
  forBelow (s.headPixels h) (fun c t =>
    let a := 0x10000000 + 4 * t.devCol h c
    let old := (t.tab a).toNat
    let t := match r.res.getD c none with
      | none => t
      | some x =>
        if r.dark then t.setTab a (BitVec.ofNat 32 (wrapTo 16 x * 65536 + old % 65536))
        else t.setTab a (BitVec.ofNat 32 (bitsOf old 16 16 * 65536 +
          (clampI 0 65535 (asr (((old % 65536 : Nat) : Int) * x + 8192) 14)).toNat))
    if r.dark then t else t.setTab (0x10100000 + 4 * t.devCol h c) 0x40004000) s

/-- R137, R138, R142: the head's second window has ended: the run is accepted or fails. -/
def State.ffComplete (s : State) (h : Nat) : State :=
  let c := s.corHead h
  match c.run with
  | none => s
  | some r =>
    if !r.done then s
    else
      let bad := s.ffDisagree h r
      let rej := if r.dark then 0 else s.ffRejected h r
      let many := !r.dark && decide (F.COR_FF_TOL_REJ_MAX.get r.tol * s.headPixels h < rej * 1000)
      let s := if r.dark then s else s.count .COR_FF_REJ_CNT 0 rej
      let result := if many then 4 else if bad != 0 then (if r.dark then 3 else 2) else if r.dark then 1 else 0
      let s := s.wr .COR_FF_LAST 0 (BitVec.ofNat 32 (h * 2 ^ 27 + result * 2 ^ 24 + min (bad + rej) 32767))
      if 1 < result then
        let s := (s.count .COR_FF_FAIL_CNT).raise F.COR_EVENT_FF_FAIL
        let s := s.ffDrop h
        if r.trigger == .temperature then s.setCorHead h { s.corHead h with retry := some r.pause }
        else s
      else
        let res := ffMean r.one r.res
        let s := (s.count .COR_FF_ACCEPT_CNT).raise F.COR_EVENT_FF_ACCEPT
        let s := (s.setCorHead h { c with run := some { r with res := res, done := false } }).putFfState h 3
        if r.dark then
          let s := s.putB (headBit .COR_OFS_OLD h) 0 false
          let s := if r.trigger == .rehearsal then
              { s with glb := { s.glb with headDark := s.glb.headDark ||| 2 ^ h } } else s
          s.calibGroup s.calibCor
        else
          let s := s.setCorHead h { s.corHead h with tLast := some (s.headTempField h) }
          let s := if r.trigger == .rehearsal then
              { s with glb := { s.glb with headGain := s.glb.headGain ||| 2 ^ h } }
            else s.fillBank h res
          let s := if r.trigger == .camera then
              s.setCamPort (portOf h) { s.camPort (portOf h) with prehFf := (s.camPort (portOf h)).prehFf ||| 2 ^ (h % 2) }
            else s
          let last := (s.corHead h).tLast
          s.calibGroup (fun k =>
            let k := s.calibCor k
            match last with
            | some x => { k with temps := k.temps.set h (BitVec.ofInt 16 x, true) }
            | none => k)

/-- R139: the table write of a rehearsal's result completes. -/
def State.ffWriteDone (s : State) (h : Nat) : State :=
  let c := s.corHead h
  match c.run with
  | none => s
  | some r =>
    if c.writing then
      ((s.writeResult h r).setCorHead h { c with run := none, writing := false }).putFfState h 0
    else s

/-- R140, R141: the head's staged shading bank becomes working. -/
def State.swapBank (s : State) (h : Nat) : State :=
  s.putB (headBit .COR_BANK h) 0 (!(s.bit (headBit .COR_BANK h)))

/-- R528: the entry of a port in the calibration summary. -/
def State.calPort (s : State) (p : Nat) : DWord × BitVec 16 × Bool :=
  (BitVec.ofNat 64 ((s.rd .CAM_CAL_SERIAL_LO p).toNat + 2 ^ 32 * (s.rd .CAM_CAL_SERIAL_HI p).toNat),
   BitVec.ofNat 16 (s.fld F.CAM_CAL_REPAIR_REPAIR p), true)

/-- R107, R141: the boundary at which a per-camera rehearsal takes effect for a head. Its STALE_CAL GAP closes when the
boundary line, the first that is not stale, leaves COR. -/
def State.cameraSwap (s : State) (h : Nat) : State :=
  let p := portOf h
  let cp := s.camPort p
  if bitAt cp.swap (h % 2) then
    let left := cp.swap - 2 ^ (h % 2)
    let s := s.setCamPort p { cp with swap := left }
    let s := if s.bit F.COR_CTRL_FF_EN then
        let t := (s.swapBank h).putB (headBit .COR_OFS_OLD h) 0 true
        (t.setCorHead h { t.corHead h with run := none }).putFfState h 0
      else s
    let s := s.putB (headBit .COR_STALE h) 0 false
    if left == 0 then
      let s := s.put F.CAM_STATUS_STALE p 0
      let s := (s.wr .CAM_CAL_SERIAL_LO p (s.rd .CAM_SERIAL_LO p)).wr .CAM_CAL_SERIAL_HI p (s.rd .CAM_SERIAL_HI p)
      let s := s.put F.CAM_CAL_REPAIR_REPAIR p (s.fld F.CAM_DESC_GEOM_REPAIR p)
      let s := s.put F.CAM_STATUS_PREH p 0
      let e := s.calPort p
      let s := s.calibGroup (fun k => { s.calibCor k with ports := k.ports.set p e })
      s.raise F.CAM_EVENT_PREH_DONE p
    else s
  else s

/-- R139 to R141: an accepted run takes effect at the head's boundary: the table write of a rehearsal begins, or the staged
shading bank becomes working. -/
def State.ffApply (s : State) (h : Nat) : State :=
  let c := s.corHead h
  match c.run with
  | none => s
  | some r =>
    if s.ffState h == 3 then
      match r.trigger with
      | .rehearsal => s.setCorHead h { c with writing := true }
      | .temperature => ((s.swapBank h).setCorHead h { c with run := none }).putFfState h 0
      | .camera => s
    else s

/-- R137, R138: the boundary of the head ends a strip of its run's window and of a wait for RETRY, and a triggered run
starts its first window. -/
def State.ffTurn (s : State) (h : Nat) : State :=
  let s := s.setCorHead h { s.corHead h with retry := (s.corHead h).retry.map (· - 1) }
  let c := s.corHead h
  let s := match c.run with
    | none => s
    | some r =>
      if s.ffState h == 3 || r.dark || r.done then s
      else if r.left ≤ 1 then s.ffWindowEnd h { r with left := 0 }
      else s.setCorHead h { c with run := some { r with left := r.left - 1 } }
  let s := s.ffTempCheck h
  if (s.corHead h).run.isSome then s
  else match s.ffWanted h with
    | none => s
    | some (dark, tr) => s.ffStart h dark tr

/-- R22, R23, R145: a boundary line enters COR for head `h`: what the lines from it on are corrected with. -/
def State.corLatch (s : State) (h : Nat) : State :=
  let s := ((s.latch .COR_HEAD_CFG h).latch .COR_BAL_RG h).latch .COR_BAL_B h
  let s := (s.cameraSwap h).ffApply h
  s.setCorHead h { s.corHead h with turn := true }

/-- R22, R129, R137: the strip behind a boundary is complete: its statistics close, and the windows of runs turn. For a
colour head that is when the line that waited for its look-ahead has left (R123). -/
def State.corTurn (s : State) (h : Nat) : State :=
  if (s.corHead h).turn then
    let s := s.closeSpan h
    let c := s.corHead h
    let s := s.setCorHead h { c with strip := c.cur, cur := [], closed := c.closed + 1, turn := false }
    s.ffTurn h
  else s

end Sys2Proof.Machine
end

