-- ==== Sys2Proof/Machine/AwfOps.lean ====
section
/-! DEFINITION. Machine/AwfOps.lean: along-web filtering and decimation (spec/05). -/

namespace Sys2Proof.Machine

/-- One response of the ROM (R151 to R153, R166): shape, design ratio, group delay in 1/64 line, reciprocal, shift, usable
ratio codes, and taps, newest line first. -/
structure Response where
  shape : Nat
  dr : Nat
  g : Nat
  rcp : Nat
  sh : Nat
  usable : List Nat
  taps : List Int
  deriving DecidableEq, Repr

/-- Responses 0 to 7, box (R152). -/
def romBox : List Response :=
  [⟨0, 1, 0, 2147483648, 31, [0],
    [1]⟩,
   ⟨0, 2, 32, 1073741824, 31, [0, 1],
    [1, 1]⟩,
   ⟨0, 3, 64, 715827883, 31, [0, 1],
    [1, 1, 1]⟩,
   ⟨0, 4, 96, 536870912, 31, [0, 1, 2],
    [1, 1, 1, 1]⟩,
   ⟨0, 6, 160, 357913941, 31, [1, 2],
    [1, 1, 1, 1, 1, 1]⟩,
   ⟨0, 8, 224, 268435456, 31, [1, 2, 3],
    [1, 1, 1, 1, 1, 1, 1, 1]⟩,
   ⟨0, 12, 352, 178956971, 31, [2, 3],
    [1, 1, 1, 1, 1, 1, 1, 1, 1, 1, 1, 1]⟩,
   ⟨0, 16, 480, 134217728, 31, [2, 3, 4],
    [1, 1, 1, 1, 1, 1, 1, 1, 1, 1, 1, 1, 1, 1, 1, 1]⟩]

/-- Responses 8 to 15, binomial: w_i = 3 C(2Dr, i) + C(2Dr, i - 1). -/
def romBinomial : List Response :=
  [⟨1, 1, 80, 1, 4, [0, 1, 2],
    [3, 7, 5, 1]⟩,
   ⟨1, 2, 144, 1, 6, [1, 2],
    [3, 13, 22, 18, 7, 1]⟩,
   ⟨1, 3, 208, 1, 8, [1, 2, 3],
    [3, 19, 51, 75, 65, 33, 9, 1]⟩,
   ⟨1, 4, 272, 1, 10, [2, 3],
    [3, 25, 92, 196, 266, 238, 140, 52, 11, 1]⟩,
   ⟨1, 6, 400, 1, 14, [2, 3],
    [3, 37, 210, 726, 1705, 2871, 3564, 3300, 2277, 1155, 418, 102, 15, 1]⟩,
   ⟨1, 8, 528, 1, 18, [3, 4],
    [3, 49, 376, 1800, 6020, 14924, 28392, 42328, 50050, 47190, 35464, 21112, 9828, 3500, 920, 168, 19, 1]⟩,
   ⟨1, 12, 784, 1, 26, [3, 4],
    [3, 73, 852, 6348, 33902, 138138, 446292, 1172908, 2552517, 4657983, 7191272, 9449688, 10608612, 10192588,
     8379912, 5883768, 3513917, 1773783, 749892, 262108, 74382, 16698, 2852, 348, 27, 1]⟩,
   ⟨1, 16, 1040, 1, 34, [4],
    [3, 97, 1520, 15376, 112840, 640088, 2919952, 11003760, 34920756, 94664700, 221585520, 451585680, 806403000,
     1267913640, 1761680400, 2168603760, 2368963890, 2298248550, 1980029520, 1513556400, 1024752120, 612866280,
     322561200, 148658640, 59603700, 20615868, 6084432, 1510320, 309256, 50840, 6448, 592, 35, 1]⟩]

/-- Responses 16 to 23, windowed-sinc, from the formula of the section The responses (notes/assumptions/23). -/
def romSinc : List Response :=
  [⟨2, 1, 64, 2147483648, 47, [0],
    [0, 65536, 0]⟩,
   ⟨2, 2, 128, 1098498949, 47, [1],
    [0, 31291, 65536, 31291, 0]⟩,
   ⟨2, 3, 160, 805669027, 47, [1, 2],
    [2356, 25503, 59483, 59483, 25503, 2356]⟩,
   ⟨2, 4, 224, 615687261, 47, [1, 2, 3],
    [1067, 12741, 38546, 61939, 61939, 38546, 12741, 1067]⟩,
   ⟨2, 6, 320, 439036338, 47, [2, 3],
    [838, 6775, 20861, 40648, 58390, 65536, 58390, 40648, 20861, 6775, 838]⟩,
   ⟨2, 8, 416, 343051316, 47, [2, 3],
    [617, 4174, 12567, 25827, 41628, 55909, 64404, 64404, 55909, 41628, 25827, 12567, 4174, 617]⟩,
   ⟨2, 12, 608, 239625773, 47, [3, 4],
    [356, 2030, 5805, 12116, 20876, 31415, 42557, 52820, 60702, 64984, 64984, 60702, 52820, 42557, 31415, 20876,
     12116, 5805, 2030, 356]⟩,
   ⟨2, 16, 800, 184391419, 47, [3, 4],
    [228, 1193, 3279, 6772, 11800, 18299, 25998, 34435, 43002, 51007, 57759, 62645, 65210, 65210, 62645, 57759,
     51007, 43002, 34435, 25998, 18299, 11800, 6772, 3279, 1193, 228]⟩]

/-- The response ROM. -/
def awfRom : List Response := romBox ++ romBinomial ++ romSinc

/-- Response `r`; a code beyond the ROM stands for response 0 (it is never applied, R160). -/
def response (r : Nat) : Response := awfRom.getD r ⟨0, 1, 0, 2147483648, 31, [0], [1]⟩

/-- R152: a response may be used at ratio 2^code. -/
def pairUsable (r code : Nat) : Bool := decide (r < 24) && (response r).usable.contains code

/-- R166: a word of the ROM window, by its offset in the window. -/
def romWord (off : Nat) : Word :=
  let r := off / 256
  let o := off % 256
  let x := response r
  if 24 ≤ r then 0
  else if o == 0 then BitVec.ofNat 32 (x.taps.length * 2 ^ 24 + x.dr * 2 ^ 16 + x.shape * 2 ^ 8)
  else if o == 4 then BitVec.ofNat 32 x.g
  else if o == 8 then BitVec.ofNat 32 x.rcp
  else if o == 12 then BitVec.ofNat 32 x.sh
  else BitVec.ofInt 32 (x.taps.getD ((o - 16) / 4) 0)

/-- A head of AWF as it stands after reset. -/
def awfReset : AwfHead := ⟨[], none, true, false⟩

/-- One head of AWF. -/
def State.awfHead (s : State) (h : Nat) : AwfHead := s.awf.getD h awfReset

/-- Change one head of AWF. -/
def State.setAwfHead (s : State) (h : Nat) (x : AwfHead) : State := { s with awf := s.awf.set h x }

/-- The working response of a head. -/
def State.awfResp (s : State) (h : Nat) : Response := response (s.fldWork F.AWF_HEAD_CFG_RESP h)

/-- The working ratio code of a head (R147): doubled while the head is shed (R522). -/
def State.awfCode (s : State) (h : Nat) : Nat := s.fldWork F.AWF_HEAD_CFG_DCODE h + b2n (s.awfHead h).shed

/-- The working ratio of a head (R147). -/
def State.awfRatio (s : State) (h : Nat) : Nat := 2 ^ s.awfCode h

/-- R161: a restart of a head at line `n`. -/
def State.awfRestart (s : State) (h : Nat) (n : LineNo) : State :=
  (s.setAwfHead h { s.awfHead h with
    hist := []
    restart := some n
    fresh := false }).raise F.AWF_EVENT_RESTART

/-- R160: the pair working in a head shows in AWF_HEAD_STATE. -/
def State.awfShow (s : State) (h : Nat) : State :=
  let r := s.fldWork F.AWF_HEAD_CFG_RESP h
  ((s.put F.AWF_HEAD_STATE_RESP h r).put F.AWF_HEAD_STATE_DCODE h (s.awfCode h)).put
    F.AWF_HEAD_STATE_GD h (response r).g

/-- R160: the staged pair of a head at boundary `n`. -/
def State.awfStaged (s : State) (h : Nat) (n : LineNo) : State :=
  let r := s.fld F.AWF_HEAD_CFG_RESP h
  let d := s.fld F.AWF_HEAD_CFG_DCODE h
  if s.rd .AWF_HEAD_CFG h == s.rdWork .AWF_HEAD_CFG h then s
  else if pairUsable r d then
    let s := ((s.latch .AWF_HEAD_CFG h).awfShow h).awfRestart h n
    (s.raise F.AWF_EVENT_CHANGE).count .AWF_CHANGE_CNT
  else
    let s := s.wr .AWF_REJ 0 (BitVec.ofNat 32 (h * 2 ^ 27 + r * 2 ^ 16 + d * 2 ^ 8))
    (s.raise F.AWF_EVENT_CFG_REJ).count .AWF_REJ_CNT

/-- R521, R522: throttle step 5 sheds head `h`: the pair with the doubled ratio is usable. -/
def State.awfShed (s : State) (h : Nat) : Bool :=
  let d := s.fldWork F.AWF_HEAD_CFG_DCODE h
  s.throttled 5 && bitAt (s.rd .THM_SHED_HEADS).toNat h && decide (d < 4) &&
    pairUsable (s.fldWork F.AWF_HEAD_CFG_RESP h) (d + 1)

/-- R160, R161, R522: line `n`, a strip boundary, enters AWF for head `h`: the staged pair, then step 5, which restarts the
head when its ratio changes. -/
def State.awfBoundary (s : State) (h : Nat) (n : LineNo) : State :=
  let s := (s.gapBoundary h 1).awfStaged h n
  let x := s.awfHead h
  let now := s.awfShed h
  if x.shed == now then s
  else
    let s := ((s.setAwfHead h { x with shed := now }).awfShow h).awfRestart h n
    if now then s else s.gapClean h .thermalShed 1

/-- R153, R161: the input line that tap `i` weighs, when the newest line is `e`. A line that never came, because a full
FIFO discarded it, adds nothing (notes/assumptions/24). -/
def AwfHead.tapLine (a : AwfHead) (e : LineNo) (i : Nat) : Option AwfLine :=
  let n := e - BitVec.ofNat 40 i
  let n := match a.restart with
    | some q => if after q n then q else n
    | none => n
  a.hist.find? (fun l => l.line == n)

/-- The taps of a response with the lines that they weigh. -/
def AwfHead.tapped (a : AwfHead) (r : Response) (e : LineNo) : List (Int × AwfLine) :=
  (List.range r.taps.length).filterMap (fun i => (a.tapLine e i).map (fun l => (r.taps.getD i 0, l)))

/-- R153: one output value and whether the clamp acted. -/
def awfValue (r : Response) (limit : Int) (xs : List (Int × Nat)) : Nat × Bool :=
  let a := xs.foldl (fun (acc : Int) x => acc + x.1 * (x.2 : Int)) 0
  let v := asr (a * r.rcp + 2 ^ (r.sh - 1)) r.sh
  let c := clampI 0 limit v
  (c.toNat, c != v)

/-- A pixel for a column that a line does not have. -/
def Pix.zero : Pix := ⟨0, 0, 0, false, false, false, false, 0⟩

/-- R153, R154: one output pixel, and whether its clamp acted. -/
def awfPixel (r : Response) (colour : Bool) (ls : List (Int × AwfLine)) (c : Nat) : Pix × Bool :=
  let ps := ls.map (fun l => (l.1, l.2.px.getD c Pix.zero))
  let lim : Int := if colour then 4095 else 65535
  let a := awfValue r lim (ps.map (fun p => (p.1, p.2.v0)))
  let b := if colour then awfValue r lim (ps.map (fun p => (p.1, p.2.v1))) else (0, false)
  let d := if colour then awfValue r lim (ps.map (fun p => (p.1, p.2.v2))) else (0, false)
  let cut := a.2 || b.2 || d.2
  let use := (ps.filter (fun p => p.1 != 0)).map (·.2)
  (⟨a.1, b.1, d.1, use.any (·.inv), use.any (·.repl), cut || use.any (·.clip), use.any (·.stale), 0⟩, cut)

/-- R155: the tag of an output line whose newest input line is `e`: Y_tag, phases, fault flags, revolutions. -/
def State.awfTag (s : State) (g : Nat) (e : LineNo) : YPos × List Phase × Nat × List (BitVec 16) :=
  let a := e - BitVec.ofNat 40 (ceilDiv g 64)
  let phi := (64 - g % 64) % 64
  let ta := s.tagOf a
  if phi == 0 then (ta.y, ta.phases, ta.rflt, ta.revs)
  else
    let tb := s.tagOf (a + 1)
    let step (d : Int) : Int := asr (phi * d + 32) 6
    let y := ta.y + BitVec.ofInt 40 (step (sdiff tb.y ta.y))
    let dk (k : Nat) : Int := sdiff (tb.phases.getD k 0) (ta.phases.getD k 0)
    let phases := (List.range 7).map (fun k => ta.phases.getD k 0 + BitVec.ofInt 16 (step (dk k)))
    let revs := (List.range 7).map (fun k =>
      let p : Int := (ta.phases.getD k 0).toNat
      let r := ta.revs.getD k 0
      if 0 < dk k && 65536 ≤ p + step (dk k) then r + 1
      else if dk k < 0 && p + step (dk k) < 0 then r - 1
      else r)
    (y, phases, ta.rflt ||| tb.rflt, revs)

/-- R164: AWF's own GAP records for one reason and the lines of one block. -/
def State.awfGap (s : State) (h : Nat) (g : GapReason) (reached : Bool) (first : LineNo) (d : Nat)
    (named : LineNo → Bool) : State :=
  if reached then
    forBelow d (fun i t =>
      let n := first + BitVec.ofNat 40 i
      if named n then t.gapClean h g 1 else t.gapLine h g 1 n) s
  else s.gapClean h g 1

/-- R147 to R156: the output line of the block whose newest line is `e`. Where the block's first line never came, the
newest line's start instant dates it (notes/assumptions/24). -/
def State.awfOutput (s : State) (h : Nat) (e : LineNo) : State × OutLine :=
  let a := s.awfHead h
  let r := s.awfResp h
  let d := s.awfRatio h
  let first := e - BitVec.ofNat 40 (d - 1)
  let ls := a.tapped r e
  let colour := s.headColour h
  let out := (List.range (s.headPixels h)).map (awfPixel r colour ls)
  let cuts := countBelow out.length (fun c => (out.getD c (Pix.zero, false)).2)
  let px := out.map (·.1)
  let s := s.count .AWF_CLIP_CNT 0 cuts
  let s := if px.any (·.inv) then s.count .AWF_INV_OUT_CNT else s
  let use := (ls.filter (fun l => l.1 != 0)).map (·.2)
  let line (n : LineNo) : Option AwfLine := a.hist.find? (fun l => l.line == n)
  let s := s.awfGap h .lineMalformed (use.any (·.malf)) first d
    (fun n => match line n with | some l => l.malf | none => false)
  let s := s.awfGap h .staleCal (use.any (·.stale)) first d
    (fun n => match line n with | some l => l.stale | none => false)
  let t := s.awfTag r.g e
  let start := match line first with
    | some l => l.start
    | none => (a.hist.headD ⟨e, 0, [], false, false⟩).start
  (s, ⟨first, e, start, t.1, t.2.1, t.2.2.1, t.2.2.2, colour, px⟩)

/-- The first line of the block of `d` lines that holds line `n` (R147). -/
def blockFirst (d : Nat) (n : LineNo) : LineNo := n - BitVec.ofNat 40 (n.toNat % d)

/-- R147: the first line of the block that a head has begun and not completed. -/
def State.openBlock (s : State) (h : Nat) : Option LineNo :=
  match (s.awfHead h).hist with
  | [] => none
  | x :: _ =>
    let d := s.awfRatio h
    if (x.line.toNat + 1) % d == 0 then none else some (blockFirst d x.line)

/-- R8, R32: line `n` comes to AWF, and the last line of the open block never came: the block gives no output line, and the
lines of it that did come are named as R20 names the one that did not. -/
def State.awfLost (s : State) (h : Nat) (n : LineNo) : State :=
  match s.openBlock h with
  | none => s
  | some first =>
    let d := s.awfRatio h
    if blockFirst d n == first then s
    else
      let lines := ((s.awfHead h).hist.filter (fun l => blockFirst d l.line == first)).map (·.line)
      (lines.reverse.foldl (fun t m => t.gapLine h .faultDiscard 1 m) s).gapClean h .faultDiscard 1

/-- R14: POS has cued line `n`, so that a tag for it exists. -/
def State.cued (s : State) (n : LineNo) : Bool := s.pos.firstTag.isSome && !(atOrAfter n s.pos.nextLine)

/-- R32: a line that has no tag cannot be positioned: AWF discards it under R20's rule. -/
def State.awfUntagged (s : State) (h : Nat) (n : LineNo) : State :=
  (s.gapLine h .faultDiscard 1 n).gapClean h .faultDiscard 1

/-- R147, R150, R161: a line with a tag enters AWF; the last line of a block gives the block's output line. -/
def State.awfTake (s : State) (h : Nat) (l : AwfLine) : State × Option OutLine :=
  let s := if (s.awfHead h).fresh then s.awfRestart h l.line else s
  let a := s.awfHead h
  let s := s.setAwfHead h { a with hist := (l :: a.hist).take 34 }
  let s := if a.shed then s.gapLine h .thermalShed 1 l.line else s
  if (l.line.toNat + 1) % s.awfRatio h == 0 then
    let r := s.awfOutput h l.line
    (r.1, some r.2)
  else (s, none)

/-- R14, R32, R147: a line comes to AWF. -/
def State.awfIn (s : State) (h : Nat) (l : AwfLine) : State × Option OutLine :=
  if s.cued l.line then s.awfTake h l else (s.awfUntagged h l.line, none)

/-- R163: at a port fault the head's open block is discarded, and named up to Y of the first undelivered line. -/
def State.awfDiscard (s : State) (h : Nat) : State :=
  let a := s.awfHead h
  let s := s.gapBoundary h 1
  match s.openBlock h with
  | none => s
  | some first =>
    let last := (a.hist.headD ⟨first, 0, [], false, false⟩).line
    let s := s.formGap h .faultDiscard first last (s.lineY h first) (s.lineY h (last + 1) - 1)
    (s.setAwfHead h { a with hist := [] }).raise F.AWF_EVENT_DISCARD

end Sys2Proof.Machine
end

