-- ==== Sys2Proof/Machine/SegOps.lean ====
section
/-! DEFINITION. Machine/SegOps.lean: the background model, thresholds, run extraction and the cluster aggregator
(spec/07). -/

namespace Sys2Proof.Machine

/-- A head of SEG as it stands after reset. -/
def segReset : SegHead := ⟨true, none, none, false, 0, false, 0, none, [], none⟩

/-- One head of SEG. -/
def State.segHead (s : State) (h : Nat) : SegHead := s.seg.heads.getD h segReset

/-- Change one head of SEG. -/
def State.setSegHead (s : State) (h : Nat) (x : SegHead) : State :=
  { s with seg := { s.seg with heads := s.seg.heads.set h x } }

/-- A head is in density overflow (SEG_OVF_STATE). -/
def State.inOvf (s : State) (h : Nat) : Bool := bitAt (s.rd .SEG_OVF_STATE).toNat h

/-! ### The background model -/

/-- R208: the address of a model entry. -/
def State.bgAddr (s : State) (h c axis : Nat) : Nat := 0x10800000 + 8 * (3 * s.devCol h c + axis)

/-- R202: the axis values of a pixel. -/
def axisValues (colour : Bool) (x : Pix) : List Int :=
  if colour then
    [((4 * (x.v0 + 2 * x.v1 + x.v2) : Nat) : Int), 8 * ((x.v0 : Int) - x.v1), 8 * ((x.v2 : Int) - x.v1)]
  else [(x.v0 : Int)]

/-- R208: INIT, μ and A of an entry. -/
def State.bgEntry (s : State) (h c axis : Nat) : Bool × Int × Nat :=
  let a := s.bgAddr h c axis
  let w := (s.tab a).toNat
  (bitAt w 31, signedOf 25 w, (s.tab (a + 4)).toNat % 65536)

/-- R208: FG_RUN of a column. -/
def State.fgRun (s : State) (h c : Nat) : Nat := (s.tab (s.bgAddr h c 0 + 4)).toNat / 65536

/-- Store a model entry. -/
def State.putBg (s : State) (h c axis : Nat) (init : Bool) (mu : Int) (a fg : Nat) : State :=
  let ad := s.bgAddr h c axis
  (s.setTab ad (BitVec.ofNat 32 (b2n init * 2 ^ 31 + wrapTo 25 mu))).setTab (ad + 4)
    (BitVec.ofNat 32 ((if axis == 0 then fg else 0) * 65536 + a))

/-- R209: whether threshold entry `i` of a head is met by deviation `d` of a column with deviation model `a`. -/
def State.thrMet (s : State) (h i a : Nat) (d : Int) : Bool :=
  let k := h * 18 + i
  let t : Int := s.fldWork F.SEG_THR_ABS k + ((s.fldWork F.SEG_THR_K k * a + 128) / 256 : Nat)
  s.fldWork F.SEG_THR_EN k != 0 && decide (t ≤ (if i / 3 % 2 == 0 then d else -d))

/-- R209: the level field of an axis and polarity. -/
def State.levelField (s : State) (h axis p a : Nat) (d : Int) : Nat :=
  let m (l : Nat) : Bool := s.thrMet h (6 * axis + 3 * p + (l - 1)) a d
  if m 1 then (if m 3 then 3 else if m 2 then 2 else 1) else 0

/-- R210: the level mask of a pixel from its axes' deviations and models. -/
def State.levelMask (s : State) (h : Nat) (ds : List (Int × Nat)) : Nat :=
  sumN ((List.range ds.length).map (fun ax =>
    let e := ds.getD ax (0, 0)
    s.levelField h ax 0 e.2 e.1 * 2 ^ (4 * ax) + s.levelField h ax 1 e.2 e.1 * 2 ^ (4 * ax + 2)))

/-- What the background stage answers for a column: axis 0 deviation and level mask (0 for background). -/
structure ColOut where
  dev : Int
  mask : Nat
  deriving DecidableEq, Repr

/-- R203, R204: one column of one output line: deviations from the model before the line, then the update. -/
def State.bgColumn (s : State) (h c : Nat) (colour warm : Bool) (x : Pix) : State × ColOut :=
  if x.inv then (s, ⟨0, 0⟩)
  else
    let xs := axisValues colour x
    let n := xs.length
    let es := (List.range n).map (s.bgEntry h c)
    if es.any (fun e => !e.1) then
      let ai := s.fldWork F.SEG_BG_LIM_A_INIT h
      (forBelow n (fun ax t => t.putBg h c ax true (xs.getD ax 0 * 256) ai 0) s, ⟨0, 0⟩)
    else
      let ent (ax : Nat) := es.getD ax (true, 0, 0)
      let dev (ax : Nat) : Int := clampI (-32768) 32767 (xs.getD ax 0 - asr ((ent ax).2.1 + 128) 8)
      let mask := s.levelMask h ((List.range n).map (fun ax => (dev ax, (ent ax).2.2)))
      let fg := mask != 0
      let fmax := s.fldWork F.SEG_BG_CFG_FREEZE_MAX h
      let frz := s.fldWork F.SEG_BG_CFG_FREEZE h != 0
      let run := s.fgRun h c
      let hold := fg && frz && (fmax == 0 || decide (run < fmax))
      let shift := atLeast1 (if warm then s.fldWork F.SEG_BG_CFG_WARM_SHIFT h else s.fldWork F.SEG_BG_CFG_BG_SHIFT h)
      let mad := atLeast1 (s.fldWork F.SEG_BG_CFG_MAD_SHIFT h)
      let amin : Int := s.fldWork F.SEG_BG_LIM_A_MIN h
      let run' := if fg then min (run + 1) 65535 else 0
      let s := forBelow n (fun ax t =>
        let mu := (ent ax).2.1
        let a := (ent ax).2.2
        let e := xs.getD ax 0 * 256 - mu
        if hold then t.putBg h c ax true mu a run'
        else
          let a' := clampI amin 65535 ((a : Int) + asr (((absN e / 16 : Nat) : Int) - a) mad)
          t.putBg h c ax true (mu + asr e shift) a'.toNat run') s
      let s := if fg && frz && fmax != 0 && run' == fmax && run != run' then
          (s.count .SEG_FREEZE_REL_CNT).raise F.SEG_EVENT_FREEZE_REL else s
      (s, ⟨dev 0, mask⟩)

/-- R205: INIT is cleared on every column of a head, which starts a warm-up span at output line `n`. -/
def State.warmStart (s : State) (h : Nat) (n : LineNo) : State :=
  let axes := if s.headColour h then 3 else 1
  let s := forBelow (s.headPixels h) (fun c t =>
    forBelow axes (fun ax u =>
      let a := u.bgAddr h c ax
      u.setTab a (u.tab a &&& 0x7FFFFFFF)) t) s
  let s := s.setSegHead h { s.segHead h with fresh := false, q := some n }
  (s.putB ⟨.SEG_WARM_STATE, h, 1⟩ 0 true).count .SEG_WARM_CNT

/-- The last web position of an output line's span when the next line is not known: Y + round_half_up(D × PITCH_Y) − 1
(R230). -/
def State.outEnd (s : State) (i : LineInfo) : YPos :=
  let d := (i.last - i.line).toNat + 1
  i.y + BitVec.ofInt 40 (roundHalfUpDiv ((d * s.pitchY : Nat) : Int) 65536) - 1

/-- An output line joins a GAP record of SEG. -/
def State.gapOut (s : State) (h : Nat) (g : GapReason) (i : LineInfo) : State :=
  s.gapSpan h g 2 i.line i.last i.y (s.outEnd i)

/-- R226: the open record of a head ends at the position of the line `i` at which it closes, minus 1. -/
def State.gapOutEnd (s : State) (h : Nat) (g : GapReason) (i : LineInfo) : State :=
  match s.openGap h g 2 with
  | none => s
  | some o =>
    let o' := { o with y1 := i.y - 1 }
    ({ s with gaps := s.gaps.map (fun x => if x == o then o' else x) } : State).gapClean h g 2

/-- R211, R206: line `n`, a strip boundary, reaches the background and threshold stages of head `h`. -/
def State.segBoundary (s : State) (h : Nat) (n : LineNo) : State :=
  let s := (s.latch .SEG_BG_CFG h).latch .SEG_BG_LIM h
  let s := forBelow 18 (fun i t => t.latch .SEG_THR (h * 18 + i)) s
  match (s.segHead h).q with
  | none => s
  | some q =>
    if decide ((s.stripLen : Int) ≤ sdiff n q) then
      let s := s.setSegHead h { s.segHead h with q := none }
      (s.putB ⟨.SEG_WARM_STATE, h, 1⟩ 0 false).raise F.SEG_EVENT_WARM_DONE
    else s

/-! ### The cluster aggregator and the run FIFO -/

/-- The field-by-field maximum of two level masks (R213). -/
def maskMax (a b : Nat) : Nat :=
  sumN ((List.range 6).map (fun i => max (bitsOf a (2 * i) 2) (bitsOf b (2 * i) 2) * 4 ^ i))

/-- The smaller of two positions across the web, as signed values. -/
def minX (a b : BitVec 40) : BitVec 40 := if b.toInt < a.toInt then b else a

/-- The larger of two positions across the web. -/
def maxX (a b : BitVec 40) : BitVec 40 := if a.toInt < b.toInt then b else a

/-- The boundary line of the strip that holds a line (R21). -/
def State.stripLine (s : State) (n : LineNo) : LineNo := n - BitVec.ofNat 40 (n.toNat % s.stripLen)

/-- R225: a run joins the aggregate of its strip. -/
def State.aggregate (s : State) (h : Nat) (r : Run) (direct : Bool) : State :=
  let sh := s.segHead h
  let st := s.stripLine r.info.line
  let lo := minX r.x1 r.x2
  let hi := maxX r.x1 r.x2
  let n := r.b - r.a + 1
  let aggs := if sh.aggs.any (fun a => a.strip == st) then
      sh.aggs.map (fun a =>
        if a.strip == st then
          { a with
            pixels := min (a.pixels + n) (2 ^ 40 - 1)
            runs := a.runs + 1
            xmin := minX a.xmin lo
            xmax := maxX a.xmax hi
            last := if after a.last.line r.info.line then a.last else r.info
            first := if after a.first.line r.info.line then r.info else a.first
            mask := maskMax a.mask r.mask
            direct := a.direct || direct }
        else a)
    else sh.aggs ++ [⟨st, n, 1, lo, hi, r.info, r.info, r.mask, direct⟩]
  s.setSegHead h { sh with aggs := aggs }

/-- R260: the words of a CLUSTER record, from word 1 on. -/
def clusterWords (h : Nat) (a : Agg) : List DWord :=
  [a.first.start, packWord [(59, h), (47, a.mask), (0, a.strip.toNat)], BitVec.ofNat 64 a.pixels,
   packWord [(32, a.runs % 2 ^ 32)], sext64 a.xmin, sext64 a.xmax, zext64 a.first.line, zext64 a.last.line,
   zext64 a.first.y, zext64 a.last.y]

/-- R225: the aggregates of strips below line `n` are flushed, or all of them. -/
def State.flushAggs (s : State) (h : Nat) (upTo : Option LineNo) : State :=
  let sh := s.segHead h
  let out (a : Agg) : Bool := match upTo with
    | none => true
    | some n => after n a.strip
  let s := s.setSegHead h { sh with aggs := sh.aggs.filter (fun a => !(out a)) }
  (sh.aggs.filter out).foldl (fun t a =>
    if a.pixels == 0 then t
    else (t.formRecord .routine 0x04 (clusterWords h a) []).count .SEG_CLUSTER_CNT) s

/-- The head of a FIFO entry. -/
def FifoEntry.head (e : FifoEntry) : Nat :=
  match e with
  | .run r => r.info.head
  | .marker i => i.head
  | .ovf i _ => i.head

/-- The line of a FIFO entry. -/
def FifoEntry.info (e : FifoEntry) : LineInfo :=
  match e with
  | .run r => r.info
  | .marker i => i
  | .ovf i _ => i

/-- An entry joins the run FIFO; SEG_FIFO_STATUS.PEAK follows its level. -/
def State.fifoPush (s : State) (e : FifoEntry) : State :=
  let s := { s with seg := { s.seg with fifo := s.seg.fifo ++ [e] } }
  s.put F.SEG_FIFO_STATUS_PEAK 0 (max (s.fld F.SEG_FIFO_STATUS_PEAK) s.seg.fifo.length)

/-- R222: the share of the entries that a head must hold to be affected: the level divided by the heads with entries. -/
def shareOf (own : Nat → Nat) (level : Nat) (h : Nat) : Bool :=
  let k := countBelow 32 (fun x => own x != 0)
  own h != 0 && decide (level ≤ own h * k)

/-- An overflow marker of a head waits in the FIFO (R224). -/
def State.ovfWaits (s : State) (h : Nat) : Bool :=
  s.seg.fifo.any (fun e => match e with
    | .ovf i _ => i.head == h
    | _ => false)

/-- R222: the level causes that hold for a head: bit 0 FIFO, bit 1 LABEL. -/
def State.levelHolds (s : State) (h : Nat) : Nat :=
  let fl := s.seg.fifo.length
  let ll := s.seg.labels.length
  let ownF (h : Nat) : Nat := (s.seg.fifo.filter (fun e => e.head == h)).length
  let ownL (h : Nat) : Nat := (s.seg.labels.filter (fun e => e.head == h)).length
  b2n (decide (7373 ≤ fl) && shareOf ownF fl h) + 2 * b2n (decide (498074 ≤ ll) && shareOf ownL ll h)

/-- R224, R228: level causes `m` set the overflow points of a head that is not in overflow; those that hold together are
recorded together. -/
def State.armLevels (s : State) (h m : Nat) : State :=
  let x := s.segHead h
  let x := if bitAt m 0 && !x.fifoArm && !(s.ovfWaits h) then { x with fifoArm := true, fifoCause := m } else x
  s.setSegHead h (if bitAt m 1 && !x.lblArm then { x with lblArm := true, lblCause := m } else x)

/-- R222: the FIFO and LABEL causes, for heads that are not in overflow. -/
def State.levelCauses (s : State) : State :=
  if 7373 ≤ s.seg.fifo.length || 498074 ≤ s.seg.labels.length then
    forBelow 32 (fun h t => if t.inOvf h then t else t.armLevels h (s.levelHolds h)) s
  else s

/-- R222 to R224: extraction offers a run. -/
def State.offerRun (s : State) (r : Run) : State :=
  let h := r.info.head
  let s := s.setPair .SEG_RUN_CNT_L .SEG_RUN_CNT_H 0 8 ((s.getPair .SEG_RUN_CNT_L .SEG_RUN_CNT_H + 1) % 2 ^ 40)
  let sh := s.segHead h
  let ovf := s.inOvf h || s.ovfWaits h
  if 8128 < s.seg.fifo.length then
    let s := (s.count .SEG_BACKSTOP_CNT).raise F.SEG_EVENT_BACKSTOP
    let s := if ovf then s
      else (s.setSegHead h { sh with fifoArm := false }).fifoPush (.ovf r.info (1 ||| s.levelHolds h))
    s.aggregate h r true
  else
    let s := if sh.fifoArm && !ovf then
        (s.setSegHead h { sh with fifoArm := false }).fifoPush (.ovf r.info sh.fifoCause) else s
    (s.fifoPush (.run r)).levelCauses

/-! ### Runs -/

/-- R185: the contact bands that a run of a head touches. -/
def State.bandsOf (s : State) (h a b : Nat) : List (Nat × Bool) :=
  if s.bit F.STI_CTRL_MERGE_EN then
    let band := s.fld F.STI_MERGE_BAND
    let right := match s.rankOf h with
      | none => []
      | some k =>
        if s.seamInUse k && k < 31 then
          let e := s.seamCol k
          if a ≤ e - 1 && e - 1 - band ≤ b then [(k, true)] else []
        else if !(s.headAt (k + 1)).isSome && s.bit F.STI_CTRL_XR then
          let e := s.fld F.STI_XR_CFG_SEAMCOL
          if a ≤ e - 1 && e - 1 - band ≤ b then [(32, true)] else []
        else []
    let left := match s.leftSeam h with
      | none => []
      | some k =>
        if s.seamInUse k then
          let c0 := s.ownedLo h
          if a ≤ c0 + band && c0 ≤ b then [(k, false)] else []
        else []
    right ++ left
  else []

/-- The L value of a pixel under R202. -/
def pixL (colour : Bool) (x : Pix) : Nat := if colour then 4 * (x.v0 + 2 * x.v1 + x.v2) else x.v0

/-- R212: the ends of the runs of a line: maximal stretches of foreground. -/
def runEnds (fg : Nat → Bool) (n c : Nat) (start : Option Nat) : List (Nat × Nat) :=
  match n with
  | 0 => match start with
    | none => []
    | some a => [(a, c - 1)]
  | k + 1 =>
    match fg c, start with
    | true, none => runEnds fg k (c + 1) (some c)
    | true, some a => runEnds fg k (c + 1) (some a)
    | false, none => runEnds fg k (c + 1) none
    | false, some a => (a, c - 1) :: runEnds fg k (c + 1) none

/-- R213: the run of columns `a` to `b`. -/
def State.makeRun (s : State) (i : LineInfo) (colour : Bool) (px : List Pix) (cols : List ColOut) (a b : Nat) : Run :=
  let h := i.head
  let ps := (List.range (b - a + 1)).map (fun k => px.getD (a + k) Pix.zero)
  let ls := ps.map (pixL colour)
  let sum3 (f : Pix → Nat) : Nat := if colour then sumN (ps.map f) else 0
  ⟨i, a, b, (List.range (b - a + 1)).foldl (fun m k => maskMax m (cols.getD (a + k) ⟨0, 0⟩).mask) 0,
   ps.any (·.clip), ps.any (·.stale), s.xOf h a, s.xOf h b, s.bandsOf h a b,
   sumN ls, ls.foldl min 65535, ls.foldl max 0, sum3 (·.v0), sum3 (·.v1), sum3 (·.v2)⟩

/-- R207: the deviations that SEG writes into the words of a mono line; colour words leave it unchanged. -/
def OutLine.withDevs (o : OutLine) (cols : List ColOut) : OutLine :=
  if o.colour then o
  else { o with px := (List.range o.px.length).map (fun c => { o.px.getD c Pix.zero with dev := (cols.getD c ⟨0, 0⟩).dev }) }

/-- R215, R236: the place of an output line in the count of the head's output lines. Lines that never came count under the
ratio of the line that follows them (notes/assumptions/125). -/
def State.outOrd (s : State) (h : Nat) (o : OutLine) : Nat :=
  match (s.segHead h).edge with
  | none => 0
  | some (e, k) => k + 1 + (o.line - (e + 1)).toNat / ((o.last - o.line).toNat + 1)

/-- R200 to R213: an output line goes through SEG. Answers it with its deviations (R207). -/
def State.segLine (s : State) (h : Nat) (o : OutLine) : State × OutLine :=
  let i : LineInfo := ⟨h, o.line, o.last, s.webY h o.y, o.start, o.phases, o.rflt, o.revs, s.outOrd h o⟩
  let s := s.setSegHead h { s.segHead h with edge := some (o.last, i.ord) }
  let s := if (s.segHead h).fresh then s.warmStart h o.line else s
  let warm := (s.segHead h).q.isSome
  let s := if warm && s.mode == .perform && atOrAfter o.line s.glb.performFrom then
      s.gapSpan h .staleCal 2 o.line o.last (s.lineY h o.line) (s.lineYNext h o.last - 1)
    else s.gapClean h .staleCal 2
  let r := o.px.foldl (fun (a : State × List ColOut) x =>
    let c := a.1.bgColumn h a.2.length o.colour warm x
    (c.1, a.2 ++ [c.2])) (s, [])
  let s := r.1
  let cols := r.2
  let lo := s.ownedLo h
  let hi := s.ownedHi h
  let fg (c : Nat) : Bool := lo ≤ c && c < hi && !(o.px.getD c Pix.zero).inv && (cols.getD c ⟨0, 0⟩).mask != 0
  let runs := (runEnds fg o.px.length 0 none).map (fun e => s.makeRun i o.colour o.px cols e.1 e.2)
  let s := runs.foldl (fun t x => t.offerRun x) s
  ((s.fifoPush (.marker i)).levelCauses, o.withDevs cols)

end Sys2Proof.Machine
end

