-- ==== Sys2Proof/Machine/ArcOps.lean ====
section
/-! DEFINITION. Machine/ArcOps.lean: the image archive (spec/11): rows, the strip index, archiving a line, and what write
responses and lost lines do to rows. -/

namespace Sys2Proof.Machine

/-! ### Contexts (R336) -/

/-- The address of stream context `n` in the table window. -/
def ctxAddr (n : Nat) : Nat := 0x11800000 + 0x20000 * n

/-- Bytes of a table window. -/
def State.winBytes (s : State) (addr n : Nat) : List Byte :=
  (List.range n).map (fun i => BitVec.ofNat 8 ((s.tab ((addr + i) / 4 * 4)).toNat / 2 ^ (8 * ((addr + i) % 4))))

/-- Store bytes upward from an aligned address of a table window; the last word is filled with zeros. -/
def State.setWinBytes (s : State) (addr : Nat) (bs : List Byte) : State :=
  s.setTabs addr ((List.range (ceilDiv bs.length 4)).map (fun i =>
    BitVec.ofNat 32 (ofLeBytes ((bs.drop (4 * i)).take 4))))

/-- The low and high words of 64-bit words, as bytes. -/
def dwordBytes (ws : List DWord) : List Byte := ws.flatMap (fun w => leBytes 8 w.toNat)

/-- The 64-bit word at an address of a table window. -/
def State.winDWord (s : State) (addr : Nat) : Nat := (s.tab addr).toNat + 2 ^ 32 * (s.tab (addr + 4)).toNat

/-- The dynamic table in the layout of index words 4 and 5, with the low bits of word 5. -/
def dynWords (dyn : Option (List Nat)) (low : Nat) : List DWord :=
  match dyn with
  | none => [0, BitVec.ofNat 64 low]
  | some ls => [packWord ((List.range 16).map (fun k => (4 * k, ls.getD k 0))), packWord [(60, ls.getD 16 0), (0, low)]]

/-- The dynamic table that two words hold. -/
def dynOfWords (a b : Nat) : List Nat := (List.range 16).map (fun k => bitsOf a (4 * k) 4) ++ [bitsOf b 60 4]

/-- R336: a context's header: head, the line last reconstructed, block columns, the first of them, and the dynamic table. -/
def State.ctxHead (s : State) (n h : Nat) (line : LineNo) (cols firstCol : Nat) (dyn : Option (List Nat)) : State :=
  s.setWinBytes (ctxAddr n) (dwordBytes ([packWord [(59, h), (58, 1), (0, line.toNat)],
    packWord [(48, cols), (32, firstCol)]] ++ dynWords dyn 0 ++ [0, 0, 0, 0]))

/-- R336: the reconstruction of block column `i` of a context. -/
def State.ctxPixels (s : State) (n i : Nat) (ws : List Nat) : State :=
  s.setWinBytes (ctxAddr n + 0x40 + 320 * i) (ws.flatMap (leBytes 5))

/-- A context holds nothing that can be used. -/
def State.ctxDrop (s : State) (n : Nat) : State := s.setWinBytes (ctxAddr n) (List.replicate 8 0)

/-- A context is VALID. -/
def State.ctxValid (s : State) (n : Nat) : Bool := bitAt (s.winDWord (ctxAddr n)) 58

/-- The channels that a pixel word holds (R39). -/
def wordChans (colour : Bool) (w : Nat) : List Nat :=
  if colour then [bitsOf w 28 12, bitsOf w 16 12, bitsOf w 4 12] else [bitsOf w 24 16]

/-- The reconstruction of the `64` columns of block `i` in a context. -/
def State.ctxBlock (s : State) (n i : Nat) (colour : Bool) : List (List Nat) :=
  (List.range 64).map (fun c => wordChans colour (ofLeBytes (s.winBytes (ctxAddr n + 0x40 + 5 * (64 * i + c)) 5)))

/-! ### Rows and the strip index -/

/-- Change the archive of a head. -/
def State.setArcHead (s : State) (h : Nat) (x : ArcHead) : State :=
  { s with arc := { s.arc with heads := s.arc.heads.set h x } }

/-- The ring's slots. -/
def State.arcRows (s : State) (h : Nat) : Nat := atLeast1 (s.fld F.ARC_RING_ROWS_ROWS h)

/-- The strip number of a line. -/
def State.stripNo (s : State) (n : LineNo) : Nat := n.toNat / s.stripLen

/-- R315: Z_h. -/
def State.slotBytes (s : State) (h : Nat) : Nat :=
  s.stripLen * (s.headPixels h / 64) * blockBytes (s.fld F.ARC_HEAD_CFG_RCODE h)

/-- R315: the base of the slot that holds strip line `n`. -/
def State.slotBase (s : State) (h : Nat) (n : LineNo) : Nat :=
  s.getPair .ARC_RING_BASE_L .ARC_RING_BASE_H h + s.stripNo n % s.arcRows h * s.slotBytes h

/-- R315: the address of block `i` of line `j` of a row. -/
def State.blockAddr (s : State) (h : Nat) (strip : LineNo) (rcode j i : Nat) : Nat :=
  s.slotBase h strip + (j * (s.headPixels h / 64) + i) * blockBytes rcode

/-- R316: the address of the index entry of strip line `n`. -/
def State.entryAddr (s : State) (h : Nat) (n : LineNo) : Nat :=
  s.getPair .ARC_IDX_BASE_L .ARC_IDX_BASE_H h + 64 * (s.stripNo n % s.arcRows h)

/-- R316: the words of an index entry. -/
def ArcRow.words (r : ArcRow) (v : Bool) : List DWord :=
  [packWord [(63, b2n v), (62, b2n r.refresh), (61, b2n r.badRow), (60, b2n r.dyn.isSome), (58, r.rcode), (55, r.dcode),
     (0, r.strip.toNat)],
   packWord [(40, r.lines), (0, r.y0.toNat)],
   packWord [(48, r.ownLo), (32, r.ownHi), (16, min r.bad 65535), (0, min r.overs 65535)],
   r.t0] ++ dynWords r.dyn r.xlo.toNat ++
  [BitVec.ofNat 64 r.xhi.toNat, packWord [(48, r.badLine), (32, r.badBlk)]]

/-- R317: an index entry is written. -/
def State.writeEntry (s : State) (h : Nat) (r : ArcRow) (v : Bool) : State :=
  s.memWrite (.arcIndex h) 0 (s.entryAddr h r.strip) (dwordBytes (r.words v))

/-- Replace a row of a head. -/
def State.setRow (s : State) (h : Nat) (r : ArcRow) : State :=
  let a := s.arcHead h
  s.setArcHead h { a with rows := a.rows.map (fun x => if x.strip == r.strip then r else x) }

/-- R317: the head's open row takes no more lines. -/
def State.arcEndRow (s : State) (h : Nat) : State :=
  match s.openRow_ h with
  | none => s
  | some r =>
    let a := (s.setRow h { r with ended := true }).arcHead h
    s.setArcHead h { a with sameRun := true, lastBad := r.badRow }

/-- R317, R325, R328: a row of head `h` begins at line `n`; its entry is written with V = 0. -/
def State.arcStartRow (s : State) (h : Nat) (n : LineNo) : State :=
  let s := s.arcEndRow h
  let a := s.arcHead h
  let strip := s.stripLine n
  let refresh := s.stripNo n % atLeast1 (s.fld F.ARC_HEAD_CFG_REFRESH h) == 0 || a.intra || a.lastBad
  let dyn := match a.counts with
    | some c => if a.sameRun && !a.lastBad then some (dynTable c) else none
    | none => none
  let r : ArcRow := ⟨strip, refresh, false, dyn, s.rowRcode h, s.awfCode h, 0, 0, 0, 0, 0, 0, 0, 0, 0,
    0, 0, false⟩
  let keep := a.starts.filter (fun e => decide ((strip - e.1).toNat / s.stripLen < s.arcRows h) && e.1 != strip)
  let s := s.setArcHead h { a with
    rows := a.rows.filter (fun x => x.strip != strip) ++ [r]
    counts := some (List.replicate 17 0)
    intra := false
    lastBad := false
    starts := keep }
  s.writeEntry h r false

/-- R22, R317: a boundary line's first word enters ARC. -/
def State.arcBoundary (s : State) (h : Nat) (n : LineNo) : State := if s.arcOn h then s.arcStartRow h n else s

/-- Add the classes of coded values to the row's counts (R325). -/
def addClasses (counts : List Nat) (qs : List Int) : List Nat :=
  qs.foldl (fun c q => c.set (classOf q) (c.getD (classOf q) 0 + 1)) counts

/-- R327, R329: one block is coded, verified and written. `fault` is none when the verifier agrees; otherwise whether the
retry fails as well. -/
def State.arcBlock (s : State) (h i : Nat) (line : LineNo) (r : ArcRow) (b : BlockIn) (fault : Option Bool) :
    State × ArcRow × List Nat :=
  let out := match fault with
    | none => b.code false
    | some false => b.code true
    | some true => b.codeBad
  let s := match fault with
    | none => s
    | some _ => (s.count .ARC_RETRY_CNT).raise F.ARC_EVENT_RETRY
  let isBad := fault == some true
  let s := if isBad then
      (((s.count .ARC_CODEC_FAULT_CNT).raise F.ARC_EVENT_CODEC_FAULT).fault .data h 0 r.strip.toNat) else s
  let isOver := !isBad && decide (1 < out.level)
  let s := if isOver then s.count .ARC_OVER_CNT else s
  let r := { r with
    overs := r.overs + b2n isOver
    badLine := if isBad && r.bad == 0 then r.lines else r.badLine
    badBlk := if isBad && r.bad == 0 then i else r.badBlk
    bad := r.bad + b2n isBad }
  let blk := (s.getPair .ARC_BLK_CNT_L .ARC_BLK_CNT_H + 1) % 2 ^ 40
  let s := (s.setPair .ARC_BLK_CNT_L .ARC_BLK_CNT_H 0 8 blk).pmcCount 0x165 1
  let s := s.memWrite (.arcBlock h r.strip line false) 0 (s.blockAddr h r.strip r.rcode r.lines i) out.bytes
  let a := s.arcHead h
  let s := s.setArcHead h { a with counts := a.counts.map (fun c => addClasses c out.qs) }
  let allInv := b.px.all (·.inv) || isBad
  let ws := out.recon.zipWith (fun cs (x : Pix) =>
    (pixOf cs (x.inv || allInv) (b.px.any (·.repl)) (b.px.any (·.clip)) (b.px.any (·.stale))).word b.colour) b.px
  (s, r, ws)

/-- The start of a row's first line (R316): its position, start instant and owned range. -/
def State.rowFirst (s : State) (h : Nat) (o : OutLine) (r : ArcRow) : ArcRow :=
  { r with
    y0 := s.webY h o.y
    t0 := o.start
    ownLo := s.ownedLo h
    ownHi := s.ownedHi h - 1
    xlo := s.xOf h (s.ownedLo h)
    xhi := s.xOf h (s.ownedHi h - 1) }

/-- R318 to R330: the encoder of a head codes the next block of the line at its front, when the output buffer has room for a
block of the row's size; with the line's last block the line is archived. -/
def State.arcNext (s : State) (h : Nat) : State :=
  match (s.arcHead h).pend with
  | [] => s
  | p :: rest =>
    match (s.arcHead h).rows.find? (fun r => r.strip == p.strip) with
    | none => s.setArcHead h { s.arcHead h with pend := rest }
    | some r =>
      if !s.blockRoom h r.rcode then s
      else
        let o := p.out
        let n := o.px.length / 64
        let start := p.next == 0
        let first := r.lines == 0
        let intra := if start then (first && r.refresh) || !s.ctxValid h else p.intra
        let r := if start && first then s.rowFirst h o r else r
        let b : BlockIn := ⟨o.colour, r.rcode, intra, (o.px.drop (64 * p.next)).take 64,
          if intra then [] else s.ctxBlock h p.next o.colour, r.dyn⟩
        let s := if start then
            let a := s.arcHead h
            s.setArcHead h { a with front := a.front ++ [(o.line, n)] }
          else s
        let t := s.arcBlock h p.next o.line r b ((p.faults.find? (fun f => f.1 == p.next)).map (·.2))
        let s := t.1.ctxPixels h p.next t.2.2
        let a := s.arcHead h
        if p.next + 1 < n then
          (s.setArcHead h { a with pend := { p with next := p.next + 1, intra := intra } :: rest }).setRow h t.2.1
        else
          let s := s.ctxHead h h o.line n 0 r.dyn
          let s := s.setArcHead h { a with
            pend := rest
            starts := a.starts ++ [(r.strip, t.2.1.lines, o.line, o.start)] }
          s.setRow h { t.2.1 with lines := t.2.1.lines + 1 }

/-- R330: the encoder of a head codes what the output buffer has room for. -/
def State.arcPump (s : State) (h : Nat) : State :=
  forBelow (sumN ((s.arcHead h).pend.map (fun p => p.out.px.length / 64 - p.next))) (fun _ t => t.arcNext h) s

/-- R314 to R330: an output line enters the encoder of its head. `faults` names the blocks whose verification fails, and
whether the retry fails as well. -/
def State.arcLine (s : State) (h : Nat) (o : OutLine) (faults : List (Nat × Bool)) : State :=
  if !s.arcOn h || o.px.length < 64 then s
  else
    let s := if (s.openRow_ h).isSome then s else s.arcStartRow h o.line
    match s.openRow_ h with
    | none => s
    | some r =>
      let a := s.arcHead h
      (s.setArcHead h { a with pend := a.pend ++ [⟨r.strip, o, 0, false, faults⟩] }).arcPump h

/-- ARC_FRONT: the last output line of which every block, and every block of the lines before it, has been written. -/
def State.frontAdvance (s : State) (h n : Nat) : State :=
  match n with
  | 0 => s
  | k + 1 =>
    let a := s.arcHead h
    match a.front with
    | (l, 0) :: rest =>
      ((s.setArcHead h { a with front := rest }).setPair .ARC_FRONT_L .ARC_FRONT_H h 8 l.toNat).frontAdvance h k
    | _ => s

/-- R317, R330: a block of a line has returned; the encoder goes on. -/
def State.blockReturned (s : State) (h : Nat) (line : LineNo) : State :=
  let a := s.arcHead h
  let s := s.setArcHead h { a with
    front := a.front.map (fun e => if e.1 == line then (e.1, e.2 - 1) else e) }
  (s.frontAdvance h a.front.length).arcPump h

/-- R331, R379: a row is marked BADROW. -/
def State.markBadRow (s : State) (h : Nat) (strip : LineNo) : State :=
  let s := (s.count .ARC_BADROW_CNT).raise F.ARC_EVENT_BAD_ROW
  match (s.arcHead h).rows.find? (fun r => r.strip == strip) with
  | some r => s.setRow h { r with badRow := true }
  | none =>
    let at_ := s.entryAddr h strip
    s.memWrite (.arcIndex h) 0 (at_ + 4) (leBytes 4 (ofLeBytes (s.dramRead (at_ + 4) 4) ||| 2 ^ 29))

/-- R331: a block write has ended in error: it is written once more, or its row is marked BADROW. -/
def State.blockError (s : State) (o : MemOp) : State :=
  match o.owner with
  | .arcBlock h row line false => s.memWrite (.arcBlock h row line true) 0 o.addr o.data
  | .arcBlock h row line true =>
    ((s.count .ARC_WERR_CNT).markBadRow h row).blockReturned h line
  | _ => s

/-- R379: the strips of a head whose slot holds a physical line. -/
def State.rowsHolding (s : State) (h l : Nat) : List LineNo :=
  ((s.arcHead h).starts.map (·.1)).eraseDups.filter (fun n =>
    decide (s.slotBase h n < 64 * l + 64) && decide (64 * l < s.slotBase h n + s.slotBytes h))

/-- R379: ARC learns of a poisoned line. -/
def State.arcPoison (s : State) (l : Nat) : State :=
  forBelow 32 (fun h t => if t.arcOn h then (t.rowsHolding h l).foldl (fun u n => u.markBadRow h n) t else t) s

/-- R317: the oldest row of a head that has ended and of which no block write is outstanding. -/
def State.rowReady (s : State) (h : Nat) : Option ArcRow :=
  match (s.arcHead h).rows with
  | [] => none
  | r :: _ =>
    let mine (o : MemOp) : Bool := match o.owner with
      | .arcBlock g n _ _ => g == h && n == r.strip
      | _ => false
    if r.ended && !s.mem.ops.any mine && !s.arc.werr.any mine && !(s.arcHead h).pend.any (fun p => p.strip == r.strip) then
      some r
    else none

/-- R340: strip `n` has been completed by every archived head. -/
def State.stripComplete (s : State) (n : LineNo) : Bool :=
  (List.range 32).all (fun h => !s.arcOn h || ((s.arcHead h).doneAny && atOrAfter (s.arcHead h).done n))

/-- R340, R343: a periodic strip image is queued. -/
def State.stripImageQueue (s : State) (n : LineNo) : State :=
  let every := s.fld F.ARC_STRIP_CFG_EVERY
  if s.bit F.ARC_CTRL_STRIP_EN && every != 0 && s.stripNo n % atLeast1 every == 0 && s.stripComplete n
      && s.fld F.THM_STATUS_LEVEL == 0 && !s.arc.stripDone.contains n then
    { s with arc := { s.arc with
      stripQ := s.arc.stripQ ++ [⟨true, 0, 0, none, 0, 0, 0, n, 0⟩]
      stripDone := (n :: s.arc.stripDone).take 4 } }
  else s

/-- R317: a row is complete: its entry is written with V = 1. -/
def State.rowComplete (s : State) (h : Nat) : State :=
  match s.rowReady h with
  | none => s
  | some r =>
    let s := s.writeEntry h r true
    let a := s.arcHead h
    let s := s.setArcHead h { a with
      rows := a.rows.filter (fun x => x.strip != r.strip)
      done := r.strip
      doneAny := true
      lastBad := a.lastBad || r.badRow }
    s.stripImageQueue r.strip

/-- R317, R328, R502: at the end of LOAD every entry of every archived head is written with V = 0, and nothing archived
before is known. -/
def State.arcClear (s : State) : State :=
  let inIdx (a : Nat) : Bool := (List.range 32).any (fun h => s.arcOn h &&
    decide (s.getPair .ARC_IDX_BASE_L .ARC_IDX_BASE_H h ≤ a) &&
    decide (a < s.getPair .ARC_IDX_BASE_L .ARC_IDX_BASE_H h + 64 * s.arcRows h))
  let s := s.clearDram inIdx
  { s with arc := { s.arc with heads := List.replicate 32 ArcHead.fresh, stream := [], saved := [] } }

/-- R325, R328: the head's port has entered RUN. -/
def State.arcRunEntry (s : State) (h : Nat) : State :=
  s.setArcHead h { s.arcHead h with intra := true, sameRun := false }

end Sys2Proof.Machine
end

