-- ==== Sys2Proof/Machine/ObjFeat.lean ====
section
/-! DEFINITION. Machine/ObjFeat.lean: the accumulators, features and rules of defect objects (spec/08 R235 to R248, spec/06
R189 and R190). -/

namespace Sys2Proof.Machine

/-- A sum limited to 40 bits unsigned, and whether it saturated (R238). -/
def satU (n : Nat) : Nat × Bool := (min n (2 ^ 40 - 1), decide (2 ^ 40 ≤ n))

/-- A sum limited to 40 bits signed, and whether it saturated. -/
def satS (i : Int) : Int × Bool :=
  let c := clampI (-(2 ^ 39)) (2 ^ 39 - 1) i
  (c, c != i)

/-- Accumulators without a pixel. -/
def Acc.empty : Acc := ⟨0, 0, false, 0, 0, 0, 0, 0, 0, 0, 0, 0, 0, 0, 0, 0, 0, 0, 0, 0, 0, 0⟩

/-- R238: `new` holds exact sums that follow those of `old`; each is limited to its 40 bits, and one that had saturated keeps
its limit. Answers the accumulators and whether a sum has saturated now. -/
def Acc.limit (old new : Acc) : Acc × Bool :=
  let u (k : Nat) (f : Acc → Nat) : Nat × Bool := if bitAt old.sat k then (f old, false) else satU (f new)
  let g (k : Nat) (f : Acc → Int) : Int × Bool := if bitAt old.sat k then (f old, false) else satS (f new)
  let area := u 0 (·.area)
  let sx := g 1 (·.sx)
  let sy := g 2 (·.sy)
  let sxx := u 3 (·.sxx)
  let syy := u 4 (·.syy)
  let sxy := g 5 (·.sxy)
  let isum := u 6 (·.isum)
  let rs := u 7 (·.rsum)
  let gs := u 8 (·.gsum)
  let bs := u 9 (·.bsum)
  let br := u 10 (·.brun)
  let hits := [area.2, sx.2, sy.2, sxx.2, syy.2, sxy.2, isum.2, rs.2, gs.2, bs.2, br.2]
  ({ new with
    area := area.1, sx := sx.1, sy := sy.1, sxx := sxx.1, syy := syy.1, sxy := sxy.1, isum := isum.1, rsum := rs.1
    gsum := gs.1, bsum := bs.1, brun := br.1
    sat := old.sat ||| sumN ((List.range 11).map (fun k => b2n (hits.getD k false) * 2 ^ k)) }, hits.any (fun b => b))

/-- R238: the saturated sums of `b` stay at their limits in accumulators that `b` joins (notes/assumptions/126). -/
def Acc.stick (a b : Acc) : Acc :=
  let k (i : Nat) : Bool := bitAt b.sat i && !(bitAt a.sat i)
  { a with
    area := if k 0 then b.area else a.area
    sx := if k 1 then b.sx else a.sx
    sy := if k 2 then b.sy else a.sy
    sxx := if k 3 then b.sxx else a.sxx
    syy := if k 4 then b.syy else a.syy
    sxy := if k 5 then b.sxy else a.sxy
    isum := if k 6 then b.isum else a.isum
    rsum := if k 7 then b.rsum else a.rsum
    gsum := if k 8 then b.gsum else a.gsum
    bsum := if k 9 then b.bsum else a.bsum
    brun := if k 10 then b.brun else a.brun
    sat := a.sat ||| b.sat }

/-- XSH of OBJ_GEOM. -/
def State.xsh (s : State) : Nat := min (s.fld F.OBJ_GEOM_XSH) 24

/-- YSH of OBJ_GEOM. -/
def State.ysh (s : State) : Nat := min (s.fld F.OBJ_GEOM_YSH) 16

/-- R235: the accumulator position of X. -/
def State.accX (s : State) (x : BitVec 40) : Int := asr x.toInt s.xsh

/-- R235: the accumulator position of Y less that of the anchor, under R34. -/
def State.accV (s : State) (y anc : YPos) : Int :=
  asr (anc.toInt + sdiff y anc) s.ysh - asr anc.toInt s.ysh

/-- R235: X of pixel `i` of a run of `n` pixels. -/
def Run.pixX (r : Run) (n i : Nat) : BitVec 40 :=
  if n ≤ 1 then r.x1 else r.x1 + BitVec.ofInt 40 (roundHalfUpDiv ((i : Int) * (r.x2 - r.x1).toInt) (n - 1))

/-- R236: a run's pixels join the accumulators, and `edges` its boundary runs (R237). Answers them with whether a sum
saturated. -/
def State.accRun (s : State) (a : Acc) (r : Run) (edges : Nat) : Acc × Bool :=
  let n := r.b - r.a + 1
  let a := if a.anchored then a
    else { a with
      ancX := r.x1, ancY := r.info.y, anchored := true, imin := 65535, xmin := minX r.x1 r.x2,
      xmax := maxX r.x1 r.x2, ymin := r.info.y, ymax := r.info.y }
  let v := s.accV r.info.y a.ancY
  let us := (List.range n).map (fun i => s.accX (r.pixX n i) - s.accX a.ancX)
  let su := us.foldl (· + ·) 0
  let suu := (us.map (fun u => (u * u).natAbs)).foldl (· + ·) 0
  a.limit { a with
    area := a.area + n, sx := a.sx + su, sy := a.sy + n * v, sxx := a.sxx + suu
    syy := a.syy + n * (v * v).natAbs, sxy := a.sxy + su * v, isum := a.isum + r.isum
    imin := min a.imin r.imin, imax := max a.imax r.imax
    rsum := a.rsum + r.rsum, gsum := a.gsum + r.gsum, bsum := a.bsum + r.bsum
    brun := a.brun + edges
    xmin := minX a.xmin (minX r.x1 r.x2), xmax := maxX a.xmax (maxX r.x1 r.x2)
    ymin := earlier a.ymin r.info.y, ymax := later a.ymax r.info.y, mask := maskMax a.mask r.mask }

/-- R190: sums moved to another anchor. -/
def State.accMove (s : State) (a : Acc) (x : BitVec 40) (y : YPos) : Acc × Bool :=
  let u := s.accX a.ancX - s.accX x
  let v := s.accV a.ancY y
  let n : Int := a.area
  a.limit { a with
    ancX := x, ancY := y, sx := a.sx + n * u, sy := a.sy + n * v
    sxx := ((a.sxx : Int) + 2 * u * a.sx + n * u * u).toNat
    syy := ((a.syy : Int) + 2 * v * a.sy + n * v * v).toNat
    sxy := a.sxy + v * a.sx + u * a.sy + n * u * v }

/-- R189, R239: accumulators of `b` join those of `a`, which keep their anchor unless they have none. BRUN adds in every
case. -/
def State.accJoin (s : State) (a b : Acc) : Acc × Bool :=
  let brun := a.brun + b.brun
  if !b.anchored then (a.stick b).limit { a with brun := brun }
  else if !a.anchored then (b.stick a).limit { b with brun := brun }
  else
    let m := s.accMove b a.ancX a.ancY
    let b := m.1
    let r := (a.stick b).limit { a with
      area := a.area + b.area, sx := a.sx + b.sx, sy := a.sy + b.sy, sxx := a.sxx + b.sxx, syy := a.syy + b.syy
      sxy := a.sxy + b.sxy, isum := a.isum + b.isum
      imin := min a.imin b.imin, imax := max a.imax b.imax
      rsum := a.rsum + b.rsum, gsum := a.gsum + b.gsum, bsum := a.bsum + b.bsum, brun := brun
      xmin := minX a.xmin b.xmin, xmax := maxX a.xmax b.xmax, ymin := earlier a.ymin b.ymin
      ymax := later a.ymax b.ymax, mask := maskMax a.mask b.mask }
    (r.1, m.2 || r.2)

/-! ### Features and rules -/


/-- sin(i × 90° / 64) × 2^40, i = 0 to 64. -/
def sinTable : List Nat :=
  [0, 26983366121, 53950478471, 80885093070, 107770985514, 134591960745, 161331862813, 187974584598, 214504077523,
   240904361213, 267159533123, 293253778120, 319171378006, 344896720990, 370414311084, 395708777449, 420764883643,
   445567536804, 470101796741, 494352884935, 518306193436, 541947293666, 565261945112, 588236103898, 610855931251,
   633107801833, 654978311948, 676454287619, 697522792521, 718171135775, 738386879591, 758157846761, 777472127994,
   796318089088, 814684377941, 832559931389, 849933981865, 866796063891, 883136020380, 898944008753, 914210506869,
   928926318760, 943082580171, 956670763901, 969682684934, 982110505377, 993946739174, 1005184256622,
   1015816288660, 1025836430950, 1035238647732, 1044017275463, 1052167026225, 1059682990914, 1066560642194,
   1072795837223, 1078384820155, 1083324224394, 1087611074629, 1091242788621, 1094217178761, 1096532453388,
   1098187217867, 1099180475430, 1099511627776]

/-- sin of `k` 256ths of a turn, × 2^40. -/
def sin256 (k : Nat) : Int :=
  let q := k % 256
  if q ≤ 64 then (sinTable.getD q 0 : Int)
  else if q ≤ 128 then (sinTable.getD (128 - q) 0 : Int)
  else if q ≤ 192 then -(sinTable.getD (q - 128) 0 : Int)
  else -(sinTable.getD (256 - q) 0 : Int)

/-- How many directions of 1 to 255 256ths of a turn lie at or before the direction of (x, y), counted from +x through
+y: the angle of (x, y) in 1/256 turn, rounded down. -/
def angle256 (x y : Int) : Nat :=
  if x == 0 && y == 0 then 0
  else
  let upper := decide (0 < y) || (y == 0 && decide (0 ≤ x))
  let base := if upper then 0 else 128
  base + countBelow 127 (fun j =>
    let k := base + j + 1
    decide (0 ≤ sin256 (k + 64) * y - sin256 k * x))

/-- A value within ±1 of an exact one and not below 0, by a free reading (R246). -/
def offBy (dev : Nat) (v : Int) : Int := max 0 (v + (dev % 3 : Nat) - 1)

/-- R246: the second moments times AREA². -/
def Acc.moments (a : Acc) : Int × Int × Int :=
  ((a.sxx : Int) * a.area - a.sx * a.sx, (a.syy : Int) * a.area - a.sy * a.sy, a.sxy * a.area - a.sx * a.sy)

/-- SPAN of R236 for lines of one ratio, in the head's output lines. -/
def spanOf (d : Nat) (first last : LineNo) : Nat := (last - first).toNat / atLeast1 d + 1

/-- The ratio of the head at an object's first line. -/
def LineInfo.ratio (i : LineInfo) : Nat := (i.last - i.line).toNat + 1

/-- SPAN of an object (R236). -/
def Obj.span (o : Obj) : Nat := o.lastOrd - o.info.ord + 1

/-- A quotient by AREA, rounded toward minus infinity; without pixels it is a free value (notes/assumptions/25). -/
def perArea (a : Acc) (fsel : Nat) (v : Int) : Int := if a.area == 0 then Config.emptyFeature fsel else Int.fdiv v a.area

/-- R246: feature `f` of an object; none for a reserved FSEL. -/
def State.feature (s : State) (o : Obj) (f : Nat) : Option Int :=
  let a := o.acc
  let m := a.moments
  match f with
  | 0 => some a.area
  | 1 => some (asr (a.xmax - a.xmin).toInt 10)
  | 2 => some (sdiff a.ymax a.ymin)
  | 3 => some o.span
  | 4 => some (perArea a 4 a.isum)
  | 5 => some a.imin
  | 6 => some a.imax
  | 7 => some a.brun
  | 8 =>
    let den := m.1 + m.2.1
    if den ≤ 0 then some 0
    else
      let num := (m.1 - m.2.1) * (m.1 - m.2.1) + 4 * m.2.2 * m.2.2
      some (offBy (Config.anisoDev m.1 m.2.1 m.2.2) (Int.fdiv (isqrtAux (65536 * num.toNat) 100 0) den))
  | 9 =>
    if m.1 + m.2.1 ≤ 0 then some 0
    else some (min 255 (offBy (Config.angleDev m.1 m.2.1 m.2.2) (angle256 (m.1 - m.2.1) (2 * m.2.2))))
  | 10 => some (perArea a 10 a.rsum)
  | 11 => some (perArea a 11 a.gsum)
  | 12 => some (perArea a 12 a.bsum)
  | 13 => some (8 * (perArea a 10 a.rsum - perArea a 11 a.gsum))
  | 14 => some (8 * (perArea a 12 a.bsum - perArea a 11 a.gsum))
  | 15 => some (asr (a.ancX.toInt + perArea a 15 a.sx * 2 ^ s.xsh) 10)
  | 16 => some a.mask
  | 17 => some o.flags
  | 18 => some o.info.head
  | 19 => some o.segs
  | _ => none

/-- R246: the features that are signed. -/
def featureSigned (f : Nat) : Bool := 13 ≤ f && f ≤ 15

/-- R245, R246: a condition word holds for an object. -/
def State.condition (s : State) (o : Obj) (w : Nat) : Bool :=
  let f := bitsOf w 26 6
  match s.feature o f with
  | none => false
  | some x =>
    let mant := bitsOf w 0 20
    let m : Int := if featureSigned f then signedOf 20 mant else mant
    let v := m * 4 ^ bitsOf w 20 4
    match bitsOf w 24 2 with
    | 0 => decide (v ≤ x)
    | 1 => decide (x < v)
    | 2 => (wrapTo 20 x &&& mant) != 0
    | _ => (wrapTo 20 x &&& mant) == 0

/-- R247: rule `i` matches an object. Rule 255 matches whatever its EN and CEN. -/
def State.ruleMatches (s : State) (o : Obj) (i : Nat) : Bool :=
  let a := 0x11200000 + 32 * i
  let w0 := (s.tab a).toNat
  i == 255 || (bitAt w0 31 && (List.range 4).all (fun j =>
    !(bitAt w0 j) || s.condition o (s.tab (a + 4 + 4 * j)).toNat))

/-- R247: the class and the rule of an object. -/
def State.classify (s : State) (o : Obj) : Nat × Nat :=
  let i := ((List.range 256).find? (s.ruleMatches o)).getD 255
  (bitsOf (s.tab (0x11200000 + 32 * i)).toNat 24 4, i)

end Sys2Proof.Machine
end

