-- ==== Sys2Proof/Machine/ObjOps.lean ====
section
/-! DEFINITION. Machine/ObjOps.lean: labelling, and the opening and closing of defect objects with their records (spec/07
R215 to R224, spec/08 R240 to R259). -/

namespace Sys2Proof.Machine

/-! ### Contexts -/

/-- The contexts of this device that a component holds. -/
def Comp.contexts (c : Comp) : Nat := (c.members.filter (fun o => o.src.isNone)).length

/-- Contexts of this device in use (R233): a component that was sent keeps its contexts until its CACK (R452). -/
def State.ctxUsed (s : State) : Nat :=
  s.seg.objs.length + s.seg.absorbed.length + sumN (s.seg.comps.map Comp.contexts) +
    sumN (s.sti.sent.map (fun x => x.comp.contexts))

/-- Free contexts. -/
def State.ctxFree (s : State) : Nat := 16384 - s.ctxUsed

/-- Join memory entries in use (R257). -/
def State.joinUsed (s : State) : Nat :=
  sumN (s.seg.objs.map (fun o => o.joins.length)) +
    sumN (s.seg.comps.map (fun c => sumN (c.members.map (fun o => o.joins.length))))

/-- Replace an object by its OID. -/
def State.setObj (s : State) (o : Obj) : State :=
  { s with seg := { s.seg with objs := s.seg.objs.map (fun x => if x.oid == o.oid then o else x) } }

/-- An object by its OID. -/
def State.objOf (s : State) (oid : Oid) : Option Obj := s.seg.objs.find? (fun o => o.oid == oid)

/-- Set a bit of an object's flags (R259). -/
def Obj.flag (o : Obj) (k : Nat) : Obj := { o with flags := o.flags ||| 2 ^ k }

/-- R238: an accumulator of an object saturated. -/
def State.accOvf (s : State) (ovf : Bool) : State :=
  if ovf then (s.count .OBJ_ACC_OVF_CNT).raise F.OBJ_EVENT_ACC_OVF else s

/-- OBJ_CTX_STATUS.MINFREE and OBJ_JOIN_STATUS.MAXUSED follow the levels. After a read, which clears it, MINFREE takes the
next level as its first (notes/assumptions/47). -/
def State.ctxPeaks (s : State) : State :=
  let low := if s.seg.minFresh then s.ctxFree else min (s.fld F.OBJ_CTX_STATUS_MINFREE) s.ctxFree
  let s := { s with seg := { s.seg with minFresh := false } }
  (s.put F.OBJ_CTX_STATUS_MINFREE 0 low).put F.OBJ_JOIN_STATUS_MAXUSED 0
    (max (s.fld F.OBJ_JOIN_STATUS_MAXUSED) s.joinUsed)

/-- R216, R218: label entries retire; an absorbed context returns to the pool with the last line that holds an entry of it. -/
def State.retire (s : State) (keep : Label → Bool) : State :=
  let ls := s.seg.labels.filter keep
  { s with seg := { s.seg with
    labels := ls
    absorbed := s.seg.absorbed.filter (fun a => ls.any (fun l => l.home == a.oid)) } }

/-- R259: FLAGS of a record that carries the object's OID: NOOPEN when no OPEN was sent for it. -/
def Obj.recFlags (o : Obj) : Nat := o.flags ||| (if o.sent then 0 else 2 ^ 9)

/-! ### Records -/

/-- A latency class by its number; 3 is treated as 2 (OBJ_CLASS_CFGc). -/
def lclassOf (n : Nat) : LClass :=
  match n with
  | 0 => .cue
  | 1 => .routine
  | _ => .bulk

/-- The latency class of a class configuration. -/
def State.classL (s : State) (c : Nat) : LClass := lclassOf (s.fld F.OBJ_CLASS_CFG_LCLASS c)

/-- The lower of two latency classes (R258). -/
def lowerClass (a b : LClass) : LClass := if classCode a < classCode b then b else a

/-- R249, R258: the class in which a CLOSE, UPDATE or REPEAT of class `c` leaves. -/
def State.closeClass (s : State) (c : Nat) (low : Option LClass) : LClass :=
  let l := if s.classL c == .bulk then LClass.bulk else .routine
  match low with
  | none => l
  | some x => lowerClass l x

/-- R255: words 1 to 12 of OPEN, UPDATE and CLOSE. -/
def objWords (now : Tick) (o : Obj) (cls rule flags nmem : Nat) : List DWord :=
  let a := o.acc
  let src := (o.src.getD 0).toNat
  let ph (k : Nat) : Nat := (o.info.phases.getD k 0).toNat
  [now,
   packWord [(60, cls), (52, rule), (47, o.info.head), (40, o.info.rflt % 128), (0, o.oid.toNat)],
   packWord [(48, flags), (40, nmem), (0, o.info.line.toNat)],
   sext64 a.xmin, sext64 a.xmax,
   packWord [(52, a.mask), (0, a.ymin.toNat)],
   zext64 a.ymax,
   packWord [(40, o.segs % 2 ^ 24), (0, a.area)],
   sext64 a.ancX,
   packWord [(52, src), (0, a.ancY.toNat)],
   packWord [(48, ph 0), (32, ph 1), (16, ph 2), (0, ph 3)],
   packWord [(48, ph 4), (32, ph 5), (16, ph 6)]]

/-- R256: words 13 to 24 of UPDATE and CLOSE. -/
def closeWords (o : Obj) : List DWord :=
  let a := o.acc
  let sg (i : Int) : DWord := sext64 (BitVec.ofInt 40 i)
  let un (n : Nat) : DWord := BitVec.ofNat 64 n
  [sg a.sx, sg a.sy, un a.sxx, un a.syy, sg a.sxy, un a.isum,
   packWord [(48, a.imin), (32, a.imax), (24, min o.njoin 255)],
   un a.brun, un a.rsum, un a.gsum, un a.bsum, zext64 o.last]

/-- R256: a member entry. -/
def Join.word (j : Join) : DWord :=
  packWord [(52, (j.src.getD 0).toNat), (47, j.head), (46, b2n j.opened), (0, j.oid.toNat)]

/-- The words, by number, whose SRC field names this device (R63): OSRC, and the entries from word `w` on. -/
def selfPlaces (o : Obj) (own : Bool) (w : Nat) (js : List Join) : List (Nat × Nat) :=
  (if own && o.src.isNone then [(10, 52)] else []) ++
    (List.range js.length).filterMap (fun i =>
      match js[i]? with
      | some j => if j.src.isNone then some (w + i, 52) else none
      | none => none)

/-- R257: the continuation records of a list, 60 entries each. -/
def State.continuations (s : State) (o : Obj) (l : LClass) (cls rule flags : Nat) (js : List Join) (n : Nat) : State :=
  match n with
  | 0 => s
  | k + 1 =>
    if js.isEmpty then s
    else
      let here := js.take 60
      let rest := js.drop 60
      let fl := flags ||| 2 ^ 15 ||| (if rest.isEmpty then 0 else 2 ^ 14)
      let w := objWords o.info.start o cls rule fl here.length
      (s.formRecord l 0x03 (w.take 3 ++ here.map Join.word) (selfPlaces o false 4 here)).continuations o l cls rule flags rest k

/-- R243, R256, R257: the CLOSE record and its continuations. -/
def State.formClose (s : State) (o : Obj) (l : LClass) (cls rule flags : Nat) (js : List Join) : State :=
  let here := js.take 39
  let rest := js.drop 39
  let fl := flags ||| (if rest.isEmpty then 0 else 2 ^ 14)
  let s := s.formRecord l 0x03 (objWords o.info.start o cls rule fl here.length ++ closeWords o ++ here.map Join.word)
    (selfPlaces o true 25 here)
  s.continuations o l cls rule flags rest (rest.length + 1)

/-! ### Opening -/

/-- MIN_AREA of a class. -/
def State.minArea (s : State) (c : Nat) : Nat := atLeast1 (s.fld F.OBJ_CLASS_CFG_MIN_AREA c)

/-- OPEN_LINES of a class. -/
def State.openLines (s : State) (c : Nat) : Nat := min (s.fld F.OBJ_CLASS_CFG_OPEN_LINES c) 24

/-- R240: the opening test of class `c`. -/
def State.opens (s : State) (o : Obj) (c : Nat) : Bool :=
  decide (s.minArea c ≤ o.acc.area) || (s.openLines c != 0 && decide (s.openLines c ≤ o.span))

/-- R4: the budget window of a line. -/
def budgetWindow (n : LineNo) : Nat := n.toNat / 256

/-- R241: the window of the newest cue. -/
def State.newestWindow (s : State) : Nat := budgetWindow (s.pos.nextLine - 1)

/-- R241: a window is one of the four newest. -/
def State.windowLive (s : State) (w : Nat) : Bool := (s.newestWindow + 2 ^ 32 - w) % 2 ^ 32 < 4

/-- The CUE openings that a window has sent. -/
def State.windowUsed (s : State) (w : Nat) : Nat := ((s.seg.budget.find? (fun e => e.1 == w)).map (·.2)).getD 0

/-- OBJ_BUDGET.BUDGET. -/
def State.cueBudget (s : State) : Nat := min (atLeast1 (s.fld F.OBJ_BUDGET_BUDGET)) 64

/-- A CUE opening takes a place in its window's budget; windows that are no longer live are forgotten. -/
def State.takeBudget (s : State) (w : Nat) : State :=
  let rest := s.seg.budget.filter (fun e => s.windowLive e.1 && e.1 != w)
  { s with seg := { s.seg with budget := (w, s.windowUsed w + 1) :: rest } }

/-- R251: the mark request of an object. -/
def Obj.markReq (o : Obj) (cls : Nat) (cue : Bool) : MarkReq :=
  ⟨o.src, o.oid, cls, cue, o.acc.xmin, o.acc.xmax, o.acc.ymin, o.acc.ymax⟩

/-- A mark request joins the queue. -/
def State.queueMark (s : State) (m : MarkReq) : State := { s with seg := { s.seg with markQ := s.seg.markQ ++ [m] } }

/-- R240, R241, R249, R251: an object opens under provisional class `p` and rule at its newest output line. -/
def State.openObj (s : State) (o : Obj) (p rule : Nat) : State :=
  let cue := s.classL p == .cue
  let w := budgetWindow o.info.line
  let late := cue && !(decide (o.span ≤ s.openLines p))
  let dem := cue && !(s.windowLive w && decide (s.windowUsed w < s.cueBudget))
  let l := if cue then (if late || dem then .routine else .cue) else s.classL p
  let s := if late then (s.count .OBJ_LATE_CNT).raise F.OBJ_EVENT_LATE else s
  let s := if dem then (s.count .OBJ_BUDGET_OVF_CNT).raise F.OBJ_EVENT_BUDGET_OVF else s
  let s := if l == .cue then s.takeBudget w else s
  let o := if late then o.flag 3 else o
  let o := if dem then o.flag 2 else o
  let mark := cue && s.bit F.OBJ_CLASS_CFG_MARK_EN p
  let low := match o.low with
    | none => l
    | some x => lowerClass x l
  let o := { o with opened := true, sent := true, low := some low, marked := o.marked || mark }
  let s := s.setObj o
  let s := s.formRecord l 0x01
    (objWords o.info.start o p rule (o.flags ||| (if mark then 2 ^ 12 else 0)) 0) (selfPlaces o true 25 [])
  let s := s.count .OBJ_OPEN_CNT
  if mark then s.queueMark (o.markReq p true) else s

/-- R240: an unopened object with a run in the line just applied is evaluated. -/
def State.evalOpen (s : State) (o : Obj) : State :=
  let c := s.classify o
  if s.opens o c.1 && s.bit F.OBJ_CLASS_CFG_EMIT c.1 then s.openObj o c.1 c.2 else s

/-! ### Runs and merges -/

/-- Columns of a run that no run of a list covers (R237). -/
def uncovered (a b : Nat) (rs : List (Nat × Nat)) : Nat :=
  countBelow (b - a + 1) (fun k => !(rs.any (fun r => r.1 ≤ a + k && a + k ≤ r.2)))

/-- R185: a run's touch of a contact band extends the object's contact intervals. -/
def touchContacts (cs : List Contact) (touch : List (Nat × Bool)) (y : YPos) : List Contact :=
  touch.foldl (fun acc t =>
    if acc.any (fun c => c.seam == t.1 && c.left == t.2) then
      acc.map (fun c => if c.seam == t.1 && c.left == t.2 then { c with y2 := y } else c)
    else acc ++ [⟨t.1, t.2, y, y⟩]) cs

/-- The intervals of two objects together. -/
def joinContacts (a b : List Contact) : List Contact :=
  b.foldl (fun acc c =>
    if acc.any (fun x => x.seam == c.seam && x.left == c.left) then
      acc.map (fun x => if x.seam == c.seam && x.left == c.left then
        { x with y1 := earlier x.y1 c.y1, y2 := later x.y2 c.y2 } else x)
    else acc ++ [c]) a

/-- R236, R237: a run joins an object. -/
def State.runIntoObj (s : State) (o : Obj) (r : Run) : State :=
  let n := r.info.line
  let acc := s.accRun o.acc r (2 + uncovered r.a r.b o.prev)
  let ovf := acc.2
  let o := { o with
    acc := acc.1, last := n, lastOrd := r.info.ord, idle := 0,
    cur := o.cur ++ [(r.a, r.b)],
    segStart := (match o.segStart with | none => some r.info.start | some t => some t),
    contacts := touchContacts o.contacts r.touch r.info.y }
  let o := if r.clip then o.flag 1 else o
  let o := if r.stale then o.flag 0 else o
  let o := if ovf then o.flag 6 else o
  (s.setObj o).accOvf ovf

/-- R217: a run without a connection starts an object. -/
def State.allocObj (s : State) (r : Run) : State × Oid :=
  let oid : Oid := BitVec.ofNat 40 (s.getPair .OBJ_OID_L .OBJ_OID_H)
  let s := s.setPair .OBJ_OID_L .OBJ_OID_H 0 8 ((oid.toNat + 1) % 2 ^ 40)
  let o : Obj := ⟨none, oid, .live, r.info, r.info.line, r.info.ord, none, Acc.empty, 0, false, false, none, false, 0, 0, 0,
    [], [], [], 0, []⟩
  (({ s with seg := { s.seg with objs := s.seg.objs ++ [o] } } : State).ctxPeaks, oid)

/-- R257: a spill: the one entry leaves in a continuation at once. -/
def State.spill (s : State) (o : Obj) (j : Join) : State :=
  let c := s.classify o
  let w := objWords o.info.start o c.1 c.2 (o.recFlags ||| 2 ^ 15 ||| 2 ^ 14) 1
  let s := s.formRecord (s.closeClass c.1 o.low) 0x03 (w.take 3 ++ [j.word]) (selfPlaces o false 4 [j])
  (s.count .OBJ_SPILL_CNT).raise F.OBJ_EVENT_SPILL

/-- The lowest of the classes of two objects' OPENs. -/
def lowOf (a b : Option LClass) : Option LClass :=
  match a, b with
  | none, x => x
  | x, none => x
  | some x, some y => some (lowerClass x y)

/-- R218, R239: object `b` is absorbed into `a`. Its context waits for its last label entry to retire. -/
def State.absorb (s : State) (a b : Obj) : State :=
  let acc := s.accJoin a.acc b.acc
  let mine : List Join := if b.opened && b.sent then [⟨b.src, b.info.head, true, b.oid⟩] else []
  let full := decide (16384 ≤ s.joinUsed) && !mine.isEmpty
  let a' : Obj := { a with
    acc := acc.1, flags := a.flags ||| b.flags, opened := a.opened || b.opened, low := lowOf a.low b.low,
    last := later a.last b.last, lastOrd := max a.lastOrd b.lastOrd, cur := a.cur ++ b.cur, prev := a.prev ++ b.prev,
    segStart := (match a.segStart with | none => b.segStart | some t => some t),
    joins := a.joins ++ b.joins ++ (if full then [] else mine),
    njoin := min (a.njoin + b.njoin + 1) 255, contacts := joinContacts a.contacts b.contacts,
    idle := min a.idle b.idle }
  let a' := if acc.2 then a'.flag 6 else a'
  let gone : Absorbed := ⟨a.info.head, b.oid⟩
  let s := { s with seg := { s.seg with
    objs := s.seg.objs.filter (fun o => o.oid != b.oid),
    labels := s.seg.labels.map (fun (l : Label) => if l.oid == b.oid then { l with oid := a.oid } else l),
    absorbed := s.seg.absorbed ++ [gone] } }.retire (fun _ => true)
  let s := (s.setObj a').accOvf acc.2
  let s := match mine with
    | j :: _ => if full then s.spill a' j else s
    | [] => s
  (s.count .SEG_MERGE_CNT).ctxPeaks

/-! ### Closing -/

/-- R237: the third term for the runs of the line before, against the runs of the line applied. -/
def Obj.thirdTerm (o : Obj) (below : List (Nat × Nat)) : Nat := sumN (o.prev.map (fun r => uncovered r.1 r.2 below))

/-- An object is queued for closing and its entries retire (R216, R242). -/
def State.queueClose (s : State) (oid : Oid) : State :=
  match s.objOf oid with
  | none => s
  | some o =>
    let s := s.setObj { o with st := .queued }
    { s with seg := { s.seg with closeQ := s.seg.closeQ ++ [oid] } }.retire (fun l => l.oid != oid)

/-- R224, R230, R237: every open object of a head closes truncated. -/
def State.closeHeadTrunc (s : State) (h : Nat) : State :=
  (s.seg.objs.filter (fun o => o.st == .live && o.info.head == h)).foldl (fun t o =>
    let below := if o.prev.isEmpty then [] else o.cur
    let extra := o.thirdTerm below + sumN (o.cur.map (fun r => r.2 - r.1 + 1))
    let a := o.acc.limit { o.acc with brun := o.acc.brun + extra }
    let o := ({ o with acc := a.1, prev := [], cur := [] } : Obj).flag 4
    let o := if a.2 then o.flag 6 else o
    (((t.setObj o).accOvf a.2).queueClose o.oid).count .OBJ_TRUNC_CNT) s

/-- R250: the snippet request of an object; answers whether it found room. -/
def State.requestSnip (s : State) (o : Obj) (c : Nat) : State × Bool :=
  let mx : BitVec 40 := BitVec.ofNat 40 (s.fld F.OBJ_SNIP_MARGIN_X * 1024)
  let my : YPos := BitVec.ofNat 40 (s.fld F.OBJ_SNIP_MARGIN_Y)
  if s.seg.snipQ.length < 256 then
    ({ s with seg := { s.seg with snipQ := s.seg.snipQ ++
      [⟨o.src, o.oid, c, o.acc.xmin - mx, o.acc.xmax + mx, o.acc.ymin - my, o.acc.ymax + my⟩] } }, true)
  else ((s.count .OBJ_SNIP_DROP_CNT).raise F.OBJ_EVENT_SNIP_DROP, false)

/-- R251: a mark request that is not from a CUE opening; answers whether it found room. -/
def State.requestMark (s : State) (o : Obj) (c : Nat) : State × Bool :=
  if s.seg.markQ.length ≤ 256 then (s.queueMark (o.markReq c false), true)
  else ((s.count .OBJ_MARK_DROP_CNT).raise F.OBJ_EVENT_MARK_DROP, false)

/-- R243 steps 4 to 6, R249: a closed object of class `c`, alone or merged (`merged`), is dropped or emitted. `js` is its
member list. -/
def State.finishClose (s : State) (o : Obj) (merged : Bool) (c rule : Nat) (js : List Join) : State :=
  let emit := s.bit F.OBJ_CLASS_CFG_EMIT c
  let any := o.opened || js.any (·.opened)
  if !any && !(merged && emit && s.opens o c) then s.count .OBJ_SMALL_CNT
  else
    let r := if emit && s.bit F.OBJ_CLASS_CFG_SNIP_EN c then
        (let q := s.requestSnip o c; (q.1, if q.2 then 2 ^ 10 else 2 ^ 11)) else (s, 0)
    let m := if emit && s.bit F.OBJ_CLASS_CFG_MARK_EN c && s.classL c != .cue && !o.marked then
        (let q := r.1.requestMark o c; (q.1, if q.2 then 2 ^ 12 else 2 ^ 13)) else (r.1, 0)
    let fl := o.recFlags ||| r.2 ||| m.2
    let s := m.1.formClose o (s.closeClass c o.low) c rule fl js
    (s.count .OBJ_CLOSE_CNT).count .OBJ_CLASS_CNT c

/-! ### Repeats -/

/-- R254: the address of a histogram entry. -/
def histAddr (r c b : Nat) : Nat := 0x11000000 + 32 * (4096 * (r - 1) + 256 * c + b)

/-- R254: the stored revolutions of an entry, newest first. -/
def State.histRevs (s : State) (a : Nat) : List Nat :=
  ((List.range 4).flatMap (fun i =>
    let w := (s.tab (a + 4 + 4 * i)).toNat
    [w % 65536, w / 65536])).filter (fun v => v != 0xFFFF)

/-- Store the revolutions of an entry. -/
def State.putHistRevs (s : State) (a : Nat) (rs : List Nat) : State :=
  forBelow 4 (fun i t =>
    t.setTab (a + 4 + 4 * i) (BitVec.ofNat 32 (rs.getD (2 * i + 1) 0xFFFF * 65536 + rs.getD (2 * i) 0xFFFF))) s

/-- OBJ_REP_CFG.W. -/
def State.repW (s : State) : Nat := min (atLeast1 (s.fld F.OBJ_REP_CFG_W)) 32767

/-- OBJ_REP_CFG.K. -/
def State.repK (s : State) : Nat := min (max (s.fld F.OBJ_REP_CFG_K) 2) 8

/-- R253: a hit of roller `r` (1 to 7) for an object of class `c`. -/
def State.repeatHit (s : State) (o : Obj) (c r : Nat) : State :=
  let ph := (o.info.phases.getD (r - 1) 0).toNat
  let rev := (o.info.revs.getD (r - 1) 0).toNat
  let b := ph / 256
  let a := histAddr r c b
  let cnt := (s.tab a).toNat % 65536
  let s := s.setTab a (BitVec.ofNat 32 (min (cnt + 1) 65535))
  let rs := s.histRevs a
  let s := if rs.contains rev then s else s.putHistRevs a ((rev :: rs).take 8)
  let bins := [histAddr r c ((b + 255) % 256), a, histAddr r c ((b + 1) % 256)]
  let seen := ((bins.flatMap s.histRevs).eraseDups).filter (fun v => (rev + 65536 - v) % 65536 < s.repW)
  if s.repK ≤ seen.length then
    let age (v : Nat) : Nat := (rev + 65536 - v) % 65536
    let old := seen.foldl (fun m v => if age m < age v then v else m) rev
    let hits := min seen.length 15
    let l := if s.classL c == .bulk then LClass.bulk else .routine
    let s := s.formRecord l 0x05
      [o.info.start, packWord [(61, r), (57, c), (49, b), (45, hits), (0, o.oid.toNat)],
       packWord [(48, s.repW), (32, old), (16, rev), (0, ph)], zext64 o.acc.ancY] []
    let s := bins.foldl (fun t x => t.putHistRevs x []) s
    let s := (s.raise F.OBJ_EVENT_REPEAT).count .OBJ_REPEAT_CNT
    s.wr .OBJ_LAST_REP 0 (BitVec.ofNat 32 (r * 2 ^ 29 + c * 2 ^ 25 + b * 2 ^ 17 + hits * 2 ^ 13))
  else s

/-- R253: the hits of a closing object. Throttle step 4 sheds them (R521). -/
def State.repeatHits (s : State) (o : Obj) (c : Nat) : State :=
  if s.bit F.OBJ_CTRL_REP_EN && s.bit F.OBJ_CLASS_CFG_REP_EN c && !(s.throttled 4) then
    forBelow 7 (fun k t =>
      if bitAt (t.fld F.OBJ_REP_CFG_REN) k && !(bitAt o.info.rflt k) then t.repeatHit o c (k + 1) else t) s
  else s

/-- R254: every histogram clears. -/
def State.clearHist (s : State) : State :=
  s.clearTabs (fun a => 0x11000000 ≤ a && a < 0x110E0000)

end Sys2Proof.Machine
end

