-- ==== Sys2Proof/Machine/ArcJobs.lean ====
section
/-! DEFINITION. Machine/ArcJobs.lean: snippets and strip images (spec/11 R333 to R343): queueing, starting, decoding and
sending a job. -/

namespace Sys2Proof.Machine

/-! ### Finding lines in the archive -/

/-- R316, R379: a row as its index entry in DRAM gives it, when the entry is readable and names the strip. -/
def State.entryRow (s : State) (h : Nat) (strip : LineNo) : Option ArcRow :=
  let at_ := s.entryAddr h strip
  let w (k : Nat) : Nat := ofLeBytes (s.dramRead (at_ + 8 * k) 8)
  if bitAt (w 0) 63 && bitsOf (w 0) 0 40 == strip.toNat then
    some ⟨strip, bitAt (w 0) 62, bitAt (w 0) 61 || s.mem.poison.contains (at_ / 64),
      if bitAt (w 0) 60 then some (dynOfWords (w 4) (w 5)) else none,
      bitsOf (w 0) 58 2, bitsOf (w 0) 55 3, bitsOf (w 1) 40 24, BitVec.ofNat 40 (w 1), BitVec.ofNat 64 (w 3),
      bitsOf (w 2) 48 16, bitsOf (w 2) 32 16, BitVec.ofNat 40 (w 5), BitVec.ofNat 40 (w 6),
      bitsOf (w 2) 16 16, bitsOf (w 2) 0 16, bitsOf (w 7) 48 16, bitsOf (w 7) 32 16, true⟩
  else none

/-- A row of a head: one that is being written, or one that the index holds. -/
def State.rowOfStrip (s : State) (h : Nat) (strip : LineNo) : Option ArcRow :=
  match (s.arcHead h).rows.find? (fun r => r.strip == strip) with
  | some r => some r
  | none => s.entryRow h strip

/-- The strips of a head that are in its ring. -/
def State.ringStrips (s : State) (h : Nat) : List LineNo := ((s.arcHead h).starts.map (·.1)).eraseDups

/-- The pitch of a head's output lines under a row's decimation, Q16.16 µm. -/
def State.outPitch (s : State) (r : ArcRow) : Nat := 2 ^ r.dcode * s.pitchY

/-- R338: the web position of line `j` of a row. -/
def State.rowLineY (s : State) (r : ArcRow) (j : Nat) : YPos :=
  r.y0 + BitVec.ofInt 40 (roundHalfUpDiv (j * s.outPitch r : Nat) 65536)

/-- The row of a head that holds web position `y`. -/
def State.rowHolding (s : State) (h : Nat) (y : YPos) : Option ArcRow :=
  (s.ringStrips h).findSome? (fun n => match s.rowOfStrip h n with
    | some r => if 0 < r.lines && atOrAfter y r.y0 && after (s.rowLineY r r.lines) y then some r else none
    | none => none)

/-- The lines of a row near a web position: the last one at or before it, and its neighbours. -/
def State.nearLines (s : State) (r : ArcRow) (y : YPos) : List Nat :=
  let d := sdiff y r.y0
  let j := if d < 0 then 0 else d.toNat * 65536 / atLeast1 (s.outPitch r)
  [j - 1, j, j + 1].eraseDups.filter (fun k => decide (k < r.lines))

/-- R338: the line of a head nearest a web position, within half a row pitch; the earlier one wins a tie. -/
def State.nearestLine (s : State) (h pitch : Nat) (y : YPos) : Option (LineNo × Nat) :=
  ((s.ringStrips h).foldl (fun (best : Option (Nat × YPos × LineNo × Nat)) n =>
    match s.rowOfStrip h n with
    | none => best
    | some r => (s.nearLines r y).foldl (fun best j =>
        let at_ := s.rowLineY r j
        let d := (sdiff at_ y).natAbs
        if 2 * 65536 * d > pitch then best
        else match best with
          | none => some (d, at_, n, j)
          | some b => if d < b.1 || (d == b.1 && after b.2.1 at_) then some (d, at_, n, j) else some b) best) none).map
    (fun b => (b.2.2.1, b.2.2.2))

/-- R338: X of a column, interpolated between the ends of a row's owned range, times the range's width. -/
def rowX (r : ArcRow) (c : Nat) : Frac :=
  if r.ownHi ≤ r.ownLo then Frac.ofInt r.xlo.toInt
  else ⟨r.xlo.toInt * (r.ownHi - r.ownLo : Nat) + (r.xhi.toInt - r.xlo.toInt) * (c - r.ownLo : Nat), r.ownHi - r.ownLo⟩

/-- The owned columns of a row, every `step`-th, within a cross-web interval if one is given. -/
def rowCols (r : ArcRow) (step : Nat) (box : Option (Int × Int)) : List Nat :=
  ((List.range (r.ownHi + 1 - r.ownLo)).filter (fun i => i % atLeast1 step == 0)).filterMap (fun i =>
    let c := r.ownLo + i
    match box with
    | none => some c
    | some (lo, hi) =>
      let x := rowX r c
      if x.geInt lo && !(decide (hi * x.den < x.num)) then some c else none)

/-- A tile of a head over a row's columns (R338, R340): the lines are filled in once the anchor is known. -/
def tileOf (h : Nat) (r : ArcRow) (cols : List Nat) : Tile :=
  let x (c : Nat) : BitVec 40 := BitVec.ofInt 40 (rowX r c).roundHalfUp
  ⟨h, cols, [x (cols.headD 0), x (cols.getLastD 0)], []⟩

/-- The archived heads by rank (R338). -/
def State.headsByRank (s : State) : List Nat := ((List.range 32).filterMap (fun k => s.headAt k)).filter (fun h => s.arcOn h)

/-- The tiles of a job, each with its row at the job's first line (R338, R340). -/
def State.jobTiles (s : State) (j : ArcJob) : List (ArcRow × Tile) :=
  s.headsByRank.filterMap (fun h =>
    if j.strip then
      match s.rowOfStrip h (s.stripLine j.ylo) with
      | none => none
      | some r =>
        let cols := rowCols r (atLeast1 (s.fld F.ARC_STRIP_CFG_STEP)) none
        if cols.isEmpty then none else some (r, tileOf h r cols)
    else
      match s.rowHolding h j.ylo with
      | none => none
      | some r =>
        if j.xhi.toInt < r.xlo.toInt || r.xhi.toInt < j.xlo.toInt then none
        else
          let cols := rowCols r 1 (some (j.xlo.toInt, j.xhi.toInt))
          if cols.isEmpty then none else some (r, tileOf h r cols))

/-- R338: the anchor's first output line at or after YLO. -/
def State.anchorFirst (s : State) (r : ArcRow) (ylo : YPos) : YPos :=
  let d := sdiff ylo r.y0
  let j := if d ≤ 0 then 0 else d.toNat * 65536 / atLeast1 (s.outPitch r)
  ((List.range 3).map (fun i => s.rowLineY r (j - 1 + i))).foldl
    (fun best y => if atOrAfter y ylo && (after best y || !(atOrAfter best ylo)) then y else best) (s.rowLineY r (j + 2))

/-- ARC_FRONT of a head, once a line has been archived. -/
def State.arcFront (s : State) (h : Nat) : Option LineNo :=
  let f : LineNo := BitVec.ofNat 40 (s.getPair .ARC_FRONT_L .ARC_FRONT_H h)
  if (s.arcHead h).starts.any (fun e => e.2.2.1 == f) then some f else none

/-- R339: a line of a row lies at or before ARC_FRONT. -/
def State.archived (s : State) (h : Nat) (l : LineNo × Nat) : Bool :=
  (s.arcFront h).any (fun f => (s.arcHead h).starts.any (fun e => e.1 == l.1 && e.2.1 == l.2 && atOrAfter f e.2.2.1))

/-- What a job covers: its tiles with their lines, the anchor's Y0, the rows' positions, and the row pitch. A job that starts
PARTIAL takes no line that is not archived yet (R339). -/
def State.jobPlan (s : State) (j : ArcJob) (isPartial : Bool) : Option (List Tile × ArcRow × List YPos × Nat) :=
  match s.jobTiles j with
  | [] => none
  | (r, t) :: rest =>
    let pitch := s.outPitch r
    let step := if j.strip then atLeast1 (s.fld F.ARC_STRIP_CFG_STEP) else 1
    let y0 := if j.strip then r.y0 else s.anchorFirst r j.ylo
    let ys :=
      if j.strip then ((List.range r.lines).filter (fun i => i % step == 0)).map (fun i => s.rowLineY r i)
      else
        let d := sdiff j.yhi y0
        let n := if d < 0 then 0 else ((2 * d.toNat + 1) * 65536 - 1) / (2 * atLeast1 pitch) + 1
        (List.range n).map (fun i => y0 + BitVec.ofInt 40 (roundHalfUpDiv (i * pitch : Nat) 65536))
    if ys.isEmpty then none
    else some ((t :: rest.map (·.2)).map (fun t => { t with
      lines := ys.map (fun y => (s.nearestLine t.head pitch y).filter (fun l => !isPartial || s.archived t.head l)) }),
      r, ys, pitch)

/-- R338, R339: a head in RUN has archived its line nearest web position `last`, or is not in RUN. Its next line comes one row
of its own later, and of two lines equally near the earlier one is taken. -/
def State.tileReady (s : State) (h : Nat) (last : YPos) : Bool :=
  !s.runHead h || (s.arcFront h).any (fun f =>
    decide (0 ≤ 2 * 65536 * sdiff (s.lineY h f) last + (s.awfRatio h * s.pitchY : Nat)))

/-- R338, R339: a head that may give a job a tile has archived its row at the job's first line: a head in RUN, inside the
job's rectangle as its columns now lie, whose archive has not come there is waited for. -/
def State.headReached (s : State) (j : ArcJob) (h : Nat) : Bool :=
  let e := s.edgesNow h
  if !s.runHead h || (!j.strip && (decide (j.xhi.toInt < e.1.toInt) || decide (e.2.toInt < j.xlo.toInt))) then true
  else (s.arcFront h).any (fun f =>
    if j.strip then atOrAfter f (s.stripLine j.ylo + BitVec.ofNat 40 s.stripLen) ||
      (s.rowOfStrip h (s.stripLine j.ylo)).any (fun r => r.ended)
    else atOrAfter (s.lineY h f) j.ylo)

/-! ### Blocks to decode -/

/-- R333, R336: the rows from one at which decoding can start to a strip, oldest first: each one readable and not BADROW. `n`
bounds the walk. -/
def State.decodeFrom (s : State) (h : Nat) (start : ArcRow → Bool) (strip : LineNo) (n : Nat) : Option (List ArcRow) :=
  match n with
  | 0 => none
  | k + 1 =>
    match s.rowOfStrip h strip with
    | none => none
    | some r =>
      if r.badRow then none
      else if start r then some [r]
      else (s.decodeFrom h start (strip - BitVec.ofNat 40 s.stripLen) k).map (fun rs => rs ++ [r])

/-- The block columns of a tile. -/
def Tile.blockCols (t : Tile) : List Nat := (t.cols.map (· / 64)).eraseDups

/-- The strips whose lines a tile takes. -/
def Tile.strips (t : Tile) : List LineNo := (t.lines.filterMap (fun l => l.map (·.1))).eraseDups

/-- The oldest and the newest strip whose lines a tile takes. -/
def Tile.ends (t : Tile) : Option (LineNo × LineNo) :=
  match t.strips with
  | [] => none
  | n :: r => some (r.foldl (fun a b => if after a b then b else a) n, r.foldl later n)

/-- R333: the rows that a tile decodes, oldest first: from the newest row with REFRESH at or before the first needed one. -/
def State.tileRows (s : State) (t : Tile) : List ArcRow :=
  match t.ends with
  | none => []
  | some (a, b) =>
    (s.decodeFrom t.head (fun r => r.refresh && atOrAfter a r.strip) b (s.arcRows t.head)).getD []

/-- R336: the rows that tile `k` of a strip image decodes when it goes on from the line in its context, and that line. -/
def State.streamRows (s : State) (k : Nat) (t : Tile) : Option (List ArcRow × Nat) :=
  match s.arc.stream[k]?, t.ends with
  | some c, some (a, b) =>
    if c.head == t.head && c.cols == t.blockCols && after a c.strip then
      (s.decodeFrom t.head (fun r => r.strip == c.strip) b (s.arcRows t.head)).map (fun rs => (rs, c.line))
    else none
  | _, _ => none

/-- The last line that a tile takes of a strip, when it takes none of a later one. -/
def Tile.lastLine (t : Tile) (r : ArcRow) : Nat :=
  if t.strips.any (fun n => after n r.strip) then r.lines
  else (t.lines.filterMap (fun l => match l with
    | some (n, j) => if n == r.strip then some (j + 1) else none
    | none => none)).foldl max 0

/-- R333, R336: the blocks that tile `k` needs, and whether it goes on from its context. -/
def State.tileBlocks (s : State) (strip : Bool) (k : Nat) (t : Tile) : List JobBlock × Bool :=
  let go := if strip then s.streamRows k t else none
  let rows := match go with
    | some g => g.1
    | none => s.tileRows t
  (rows.flatMap (fun r =>
    (List.range (t.lastLine r)).flatMap (fun j =>
      if go.any (fun g => rows.head? == some r && decide (j ≤ g.2)) then []
      else t.blockCols.map (fun c => (⟨k, r.strip, j, c, r.rcode, r.dyn, none, false⟩ : JobBlock)))), go.isSome)

/-! ### Sending -/

/-- R341, R464, HST: a job-stream record leaves for the fabric relay or the job-stream queue. -/
def State.jobRecord (s : State) (typ : Nat) (words : List DWord) (self : List (Nat × Nat)) : State :=
  let seq := s.seqs.getD 2 0
  let s := { s with seqs := s.seqs.set 2 (seq + 1) }
  let s := s.pmcCount 0x164 1
  let r : Record := ⟨none, seq, .bulk, typ, words, self⟩
  s.jobSend r

/-- Cut a list into pieces of `n`. -/
def chunks {α : Type} (n fuel : Nat) (l : List α) : List (List α) :=
  match fuel with
  | 0 => []
  | k + 1 => if l.length ≤ n then [l] else l.take n :: chunks n k (l.drop n)

/-- R341: the records of a job: `head` is words 3 to 8 of PART 0, `data` its stream. OSRC stands in word 3. -/
def State.sendJob (s : State) (j : ArcJob) (t0 : Tick) (head data : List DWord) : State :=
  let typ := if j.strip then 0x31 else 0x30
  let rest := data.drop 55
  let parts := data.take 55 :: (if rest.isEmpty then [] else chunks 61 (rest.length + 1) rest)
  (List.range parts.length).foldl (fun t i =>
    let w2 := packWord [(32, j.job.toNat), (16, i), (15, b2n (i + 1 == parts.length))]
    let body := parts.getD i []
    if i == 0 then
      t.jobRecord typ ([t0, w2] ++ head ++ body) (if j.src.isNone && j.oid != 0 then [(3, 52)] else [])
    else t.jobRecord typ ([t0, w2] ++ body) []) s

/-- R342: the trailer. -/
def trailer (status flags words invalid blocks : Nat) : List DWord :=
  [packWord [(60, status), (40, flags), (0, words)], packWord [(32, invalid), (0, blocks)]]

/-- Word 3 of PART 0. -/
def jobWord3 (j : ArcJob) (ntile : Nat) : DWord :=
  packWord [(52, (j.src.getD 0).toNat), (48, j.cls), (42, ntile), (0, j.oid.toNat)]

/-- What a job's status counts (R355). -/
def State.jobCount (s : State) (status : Nat) : State :=
  let s := match status with
    | 1 => s.count .ARC_LIMIT_CNT
    | 2 => s.count .ARC_PARTIAL_CNT
    | 3 => s.count .ARC_REFUSE_CNT
    | 4 => (s.count .ARC_SHED_CNT).raise F.ARC_EVENT_SHED
    | _ => s
  if status == 0 then s else s.raise F.ARC_EVENT_JOB_FAIL

/-- R342: a job that ends without a picture sends one record. The spec gives no web position, start instant or row pitch
where there is no row: free values (notes/assumptions/3). -/
def State.jobEmpty (s : State) (j : ArcJob) (status : Nat) : State :=
  let a := s.drawFree
  let b := a.2.drawFree
  let c := b.2.drawFree
  let head := [jobWord3 j 0, zext64 j.xlo, zext64 j.xhi, b.1 &&& 0xFFFFFFFFFF,
    (c.1 &&& 0xFFFFFFFF00000000), packWord [(60, if j.strip then atLeast1 (s.fld F.ARC_STRIP_CFG_STEP) else 1),
      (0, j.yhi.toNat)]]
  ((c.2.sendJob j a.1 head (trailer status 0 0 0 0)).jobCount status).raise F.ARC_EVENT_JOB_DONE

/-- R337: a host request is queued, or answered at once with REFUSED. -/
def State.hostRequest (s : State) : State :=
  let p (lo hi : Reg) : BitVec 40 := BitVec.ofNat 40 (s.getPair lo hi)
  let j : ArcJob := ⟨s.bit F.ARC_HREQ_CTRL_KIND, s.rd .ARC_HREQ_JOB, 0, some 0, 0, p .ARC_HREQ_XLO_L .ARC_HREQ_XLO_H,
    p .ARC_HREQ_XHI_L .ARC_HREQ_XHI_H, p .ARC_HREQ_YLO_L .ARC_HREQ_YLO_H, p .ARC_HREQ_YHI_L .ARC_HREQ_YHI_H⟩
  if s.arc.hostQ.length < 16 then { s with arc := { s.arc with hostQ := s.arc.hostQ ++ [j] } }
  else s.jobEmpty j 3

/-- R250: OBJ's request as a job. -/
def snipJob (r : SnipReq) : ArcJob := ⟨false, 0, r.cls, r.src, r.oid, r.xlo, r.xhi, r.ylo, r.yhi⟩

/-- R337: the next job: the queues are taken alternately. Periodic strip images wait with the host queue. Answers the job
and the state without it. -/
def State.nextJob (s : State) : Option (ArcJob × State) :=
  let host : Option (ArcJob × State) := match s.arc.hostQ, s.arc.stripQ with
    | j :: r, _ => some (j, { s with arc := { s.arc with hostQ := r, lastHost := true } })
    | [], j :: r => some (j, { s with arc := { s.arc with stripQ := r, lastHost := true } })
    | [], [] => none
  let obj : Option (ArcJob × State) := match s.seg.snipQ with
    | q :: r => some (snipJob q, { s with
        seg := { s.seg with snipQ := r }
        arc := { s.arc with lastHost := false } })
    | [] => none
  if s.arc.lastHost then obj.orElse (fun _ => host) else host.orElse (fun _ => obj)

/-- R337, R343: the status with which a job ends before it starts; 0 when it does not. -/
def State.jobRefusal (s : State) (j : ArcJob) : Nat :=
  let l := s.fld F.THM_STATUS_LEVEL
  if j.strip then (if 1 ≤ l then 4 else 0)
  else if !s.bit F.ARC_CTRL_SNIP_EN then 3
  else if 2 ≤ l then 4
  else 0

/-- R336: the contexts of a strip-image stream are saved, through the DMA port, before a snippet job that needs them, and
restored before the next strip-image job. -/
def State.jobContexts (s : State) (j : ArcJob) (tiles : Nat) : State :=
  let base (i : Nat) : Nat := s.getPair .ARC_CTXSAVE_L .ARC_CTXSAVE_H + 0x20000 * i
  let size (i : Nat) : Nat := 0x40 + 320 * ((s.arc.stream[i]?).elim 0 (fun c => c.cols.length))
  if j.strip then
    let t := s.arc.saved.foldl (fun t i => t.memRead (.arcContext (32 + i)) 4 (base i) (size i)) s
    { t with arc := { t.arc with saved := [] } }
  else
    let new := (List.range (min tiles s.arc.stream.length)).filter (fun i => !s.arc.saved.contains i)
    let t := new.foldl (fun t i =>
      t.memWrite (.arcContext (32 + i)) 4 (base i) (s.winBytes (ctxAddr (32 + i)) (size i))) s
    { t with arc := { t.arc with saved := t.arc.saved ++ new } }

/-- R339: the start instant of row 0's anchor line. -/
def State.anchorStart (s : State) (t : Tile) (r : ArcRow) : Tick :=
  match t.lines.headD none with
  | none => r.t0
  | some (n, j) =>
    match (s.arcHead t.head).starts.find? (fun e => e.1 == n && e.2.1 == j) with
    | none => r.t0
    | some e => e.2.2.2

/-- R339: a job starts: its block reads are asked for. -/
def State.jobBegin (s : State) (j : ArcJob) (isPartial : Bool) : State :=
  let why := s.jobRefusal j
  if why != 0 then s.jobEmpty j why
  else
    match s.jobPlan j isPartial with
    | none => s.jobEmpty j 5
    | some (tiles, r, ys, pitch) =>
      let plans := (List.range tiles.length).map (fun k => match tiles[k]? with
        | none => ([], false)
        | some t => s.tileBlocks j.strip k t)
      let blocks := plans.flatMap (·.1)
      let bad := tiles.any (fun t => t.strips.any (fun n => match s.rowOfStrip t.head n with
        | some x => x.badRow
        | none => false))
      let t0 := match tiles with
        | t :: _ => s.anchorStart t r
        | [] => r.t0
      let run : ArcRun := ⟨j, isPartial, tiles, ys.headD 0, ys.getLastD 0, ys.length, pitch, t0,
        if j.strip then atLeast1 (s.fld F.ARC_STRIP_CFG_STEP) else 1, bad, blocks,
        (List.range tiles.length).filter (fun k => (plans.getD k ([], false)).2)⟩
      let s := s.jobContexts j tiles.length
      let s := { s with arc := { s.arc with run := some run } }
      (List.range blocks.length).foldl (fun t i => match blocks[i]? with
        | none => t
        | some b =>
          let h := (tiles[b.tile]?).elim 0 (·.head)
          t.memRead (.jobRead i) 4 (t.blockAddr h b.strip b.rcode b.line b.col) (blockBytes b.rcode)) s

/-- R339: the job at the head of the queues may start: every tile has archived what it needs. -/
def State.jobReady (s : State) (j : ArcJob) : Bool :=
  s.jobRefusal j != 0 || (s.headsByRank.all (fun h => s.headReached j h) && (match s.jobPlan j false with
    | none => true
    | some (tiles, _, ys, _) => tiles.all (fun t => s.tileReady t.head (ys.getLastD 0))))

/-- R334: the data of a block have come, or its read has ended in error. -/
def State.jobData (s : State) (i : Nat) (data : Option (List Byte)) : State :=
  match s.arc.run with
  | none => s
  | some r =>
    match r.blocks[i]? with
    | none => s
    | some b =>
      let b := { b with
        data := some (data.getD [])
        err := data.isNone }
      { s with arc := { s.arc with run := some { r with blocks := r.blocks.set i b } } }

/-! ### Decoding a job -/

/-- A decoded block of a job. -/
structure JobDec where
  tile : Nat
  strip : LineNo
  line : Nat
  col : Nat
  px : List Pix
  bad : Bool
  taint : Bool
  deriving DecidableEq, Repr

/-- R333, R334: decode the blocks of one tile and block column in order, carrying the reconstruction and the taint. -/
def decodeColumn (colour : Bool) (prev : List (List Nat)) (taint : Bool) (bs : List JobBlock) : List JobDec :=
  match bs with
  | [] => []
  | b :: r =>
    if b.err then
      ⟨b.tile, b.strip, b.line, b.col, [], false, true⟩ :: decodeColumn colour prev true r
    else
      let d := (⟨colour, b.rcode, false, [], prev, b.dyn⟩ : BlockIn).decode (b.data.getD [])
      let t := taint && !d.alone
      ⟨b.tile, b.strip, b.line, b.col, d.px, d.bad, t⟩ :: decodeColumn colour d.recon t r

/-- Everything that a job decodes. A tile that goes on from its context starts with the line that it holds; a context that could
not be restored taints the tile (R334, R336). -/
def State.decodeJob (s : State) (r : ArcRun) : List JobDec :=
  (List.range r.tiles.length).flatMap (fun k => match r.tiles[k]? with
    | none => []
    | some t => t.blockCols.flatMap (fun c =>
      let on := r.resumed.contains k
      decodeColumn (s.headColour t.head)
        (if on then s.ctxBlock (32 + k) (c - t.blockCols.headD 0) (s.headColour t.head) else [])
        (on && !s.ctxValid (32 + k)) (r.blocks.filter (fun b => b.tile == k && b.col == c))))

/-- One output pixel: its word, whether it is INVALID under R333 or R334, and the flags it sets (OLD, BAD, TAINT). -/
def State.jobPixel (s : State) (ds : List JobDec) (k : Nat) (t : Tile) (l : Option (LineNo × Nat)) (c : Nat) : Nat × Bool × Nat :=
  match l with
  | none => (1, false, 0)
  | some (n, j) =>
    match ds.find? (fun d => d.tile == k && d.strip == n && d.line == j && d.col == c / 64) with
    | none => (1, true, 1)
    | some d =>
      if d.taint then (1, true, if d.bad then 6 else 4)
      else if d.bad then (1, true, 2)
      else match d.px[c % 64]? with
        | none => (1, true, 2)
        | some x => (x.word (s.headColour t.head), false, 0)

/-- 40-bit words packed from bit 0 of the first 64-bit word, padded with zeros (R342). -/
def pack40 (ws : List Nat) : List DWord :=
  let n := ws.foldr (fun w acc => w % 2 ^ 40 + 2 ^ 40 * acc) 0
  (List.range (ceilDiv (40 * ws.length) 64)).map (fun i => BitVec.ofNat 64 (n / 2 ^ (64 * i)))

/-- R336: what the decoder's contexts hold after a job; those of a strip image are the stream that the next one goes on
from, unless a column of it is tainted (R334). -/
def State.storeDecoder (s : State) (r : ArcRun) (ds : List JobDec) : State :=
  let lastOf (k : Nat) (tile : Tile) : LineNo × Nat :=
    ((r.blocks.filter (fun b => b.tile == k)).getLast?.map (fun b => (b.strip, b.line))).getD
      ((tile.lines.filterMap id).getLastD (0, 0))
  let s := (List.range r.tiles.length).foldl (fun t k => match r.tiles[k]? with
    | none => t
    | some tile =>
      let colour := t.headColour tile.head
      let last := lastOf k tile
      let line := (((t.arcHead tile.head).starts.find? (fun e => e.1 == last.1 && e.2.1 == last.2)).map (·.2.2.1)).getD 0
      let cols := tile.blockCols
      let dyn := (t.rowOfStrip tile.head last.1).bind (fun x => x.dyn)
      (List.range cols.length).foldl (fun u i =>
        match ds.find? (fun d => d.tile == k && d.strip == last.1 && d.line == last.2 && d.col == cols.getD i 0) with
        | some d => u.ctxPixels (32 + k) i (d.px.map (fun x => x.word colour))
        | none => u) (t.ctxHead (32 + k) tile.head line cols.length (cols.headD 0) dyn)) s
  if r.job.strip then
    { s with arc := { s.arc with stream := (List.range r.tiles.length).filterMap (fun k => (r.tiles[k]?).map (fun t =>
      let l := lastOf k t
      let whole := t.blockCols.all (fun c => ds.any (fun d =>
        d.tile == k && d.strip == l.1 && d.line == l.2 && d.col == c && !d.taint))
      ⟨t.head, l.1, l.2, if whole then t.blockCols else []⟩)) } }
  else s

/-- R335, R341, R342: a job's decode ends: its records leave, the last one with the trailer. -/
def State.jobFinish (s : State) (r : ArcRun) : State :=
  let ds := s.decodeJob r
  let limit := 256 * atLeast1 (s.fld F.ARC_SNIP_CFG_MAXPIX)
  let rows := (List.range r.rows).map (fun i =>
    (List.range r.tiles.length).flatMap (fun k => match r.tiles[k]? with
      | none => []
      | some t => t.cols.map (fun c => s.jobPixel ds k t (t.lines.getD i none) c)))
  let all := rows.flatMap id
  let out := all.take limit
  let limited := decide (limit < all.length)
  let width := sumN (r.tiles.map (fun t => t.cols.length))
  let outRows := chunks (atLeast1 width) (out.length + 1) out
  let heads := r.tiles.flatMap (fun t =>
    [packWord [(59, t.head), (58, b2n (s.headColour t.head)), (40, t.cols.headD 0), (0, (t.xs.headD 0).toNat)],
     packWord [(48, t.cols.length), (0, (t.xs.getLastD 0).toNat)]])
  let flags := maskBelow 3 (fun b => out.any (fun p => bitAt p.2.2 b))
    ||| (if r.badRows then 2 else 0) ||| (if r.blocks.any (·.err) then 8 else 0)
  let status := if limited then 1 else if r.partialJob then 2 else 0
  let x0 := if r.job.strip then (r.tiles.head?).elim 0 (fun t => t.xs.headD 0) else r.job.xlo
  let x1 := if r.job.strip then (r.tiles.getLast?).elim 0 (fun t => t.xs.getLastD 0) else r.job.xhi
  let head := [jobWord3 r.job r.tiles.length, zext64 x0, zext64 x1, zext64 r.y0,
    packWord [(32, r.pitch), (16, r.rows), (0, width)],
    packWord [(60, r.step), (0, (if r.job.strip then r.yend else r.job.yhi).toNat)]]
  let data := heads ++ outRows.flatMap (fun row => pack40 (row.map (·.1)))
    ++ trailer status flags out.length ((out.filter (fun p => p.2.1)).length) ((r.blocks.filter (fun b => !b.err)).length)
  let s := s.storeDecoder r ds
  let s := s.sendJob r.job r.t0 head data
  let s := { s with arc := { s.arc with run := none } }
  ((s.count .ARC_JOB_CNT).jobCount status).raise F.ARC_EVENT_JOB_DONE

/-- R343: STANDBY entry: the queued jobs are answered REFUSED. -/
def State.jobsRefuse (s : State) : State :=
  let js := s.arc.hostQ ++ s.arc.stripQ ++ s.seg.snipQ.map snipJob
  let s := { s with
    arc := { s.arc with hostQ := [], stripQ := [] }
    seg := { s.seg with snipQ := [] } }
  js.foldl (fun t j => t.jobEmpty j 3) s

/-- R343: DARK entry: running and queued jobs are discarded without a trailer. -/
def State.jobsDrop (s : State) : State :=
  { s with
    arc := { s.arc with hostQ := [], stripQ := [], run := none }
    seg := { s.seg with snipQ := [] } }

end Sys2Proof.Machine
end

