-- ==== Sys2Proof/Machine/DmaCore.lean ====
section
/-! DEFINITION. Machine/DmaCore.lean: the DMA engine's sets, its error log and its grants (spec/11 R344 to R356). -/

namespace Sys2Proof.Machine

/-- STATE of a channel's active set: 0 EMPTY, 1 LOADED, 2 RUN, 3 DRAIN. -/
def State.dmaState (s : State) (c : Nat) : Nat := s.fld F.DMA_ACTRL_STATE c

/-- R345: an armed shadow is copied into an empty active set. -/
def State.dmaHandover (s : State) (c : Nat) : State :=
  if s.dmaState c == 0 && s.bit F.DMA_SCTRL_ARMED c then
    let w := s.rd .DMA_SCTRL c
    let d := s.bit F.DMA_SCTRL_DESC_EVT c
    let s := s.wr .DMA_ACTRL c (w &&& 0x03FFFFFF)
    let s := s.put F.DMA_ACTRL_STATE c 1
    let s := s.setPair .DMA_ASRC_L .DMA_ASRC_H c 8 (s.getPair .DMA_SSRC_L .DMA_SSRC_H c)
    let s := s.setPair .DMA_ADST_L .DMA_ADST_H c 8 (s.getPair .DMA_SDST_L .DMA_SDST_H c)
    let s := s.put F.DMA_SCTRL_ARMED c 0
    let s := { s with dma := { s.dma with descEvt := s.dma.descEvt.set c d } }
    s.put F.DMA_STATUS_LOADED 0 (s.fld F.DMA_STATUS_LOADED ||| 2 ^ c)
  else s

/-- R345: ARMED is written 1. -/
def State.dmaArm (s : State) (c : Nat) : State := (s.put F.DMA_SCTRL_ARMED c 1).dmaHandover c

/-- The oldest log entry is what DMA_ERRLOG reads. -/
def State.dmaShowLog (s : State) : State := s.wr .DMA_ERRLOG 0 (s.dma.log.headD 0)

/-- R351: an error is logged, or counted when the log is full. -/
def State.dmaLog (s : State) (c : Nat) (dst : Bool) (kind index : Nat) : State :=
  if s.dma.log.length < 8 then
    let w := BitVec.ofNat 32 (2 ^ 31 + c * 2 ^ 27 + b2n dst * 2 ^ 26 + kind * 2 ^ 23 + index % 65536)
    ({ s with dma := { s.dma with log := s.dma.log ++ [w] } } : State).dmaShowLog
  else s.count .DMA_ERRLOG_OVF_CNT

/-- R351: the oldest log entry is removed. -/
def State.dmaPop (s : State) : State :=
  ({ s with dma := { s.dma with log := s.dma.log.drop 1 } } : State).dmaShowLog

/-- R351: an entry is made bad: it is logged and counted, and ERR is raised. -/
def State.dmaBad (s : State) (c : Nat) (dst : Bool) (kind index : Nat) : State :=
  let s := (s.dmaLog c dst kind index).count .DMA_BADDESC_CNT
  s.raise ⟨.DMA_EVENT, 16 + c, 1⟩

/-- The KIND of an error (DMA_ERRLOG). -/
def MemErr.kind (e : MemErr) : Nat :=
  match e with
  | .decode => 0
  | .ue => 2
  | .timeout => 3
  | .align => 4
  | .poison => 6
  | .migr => 1

/-- The width in bytes of a code; 7 is treated as 6 (R348). -/
def dmaWidth (code : Nat) : Nat := 2 ^ min code 6

/-- R349: the loaded channel that is granted: the highest PRIO, a tie round-robin after the channel granted last. -/
def State.dmaPick (s : State) : Option Nat :=
  (((List.range 16).map (fun i => (s.dma.last + 1 + i) % 16)).filter (fun c => s.dmaState c == 1)).foldl
    (fun best c => match best with
      | none => some c
      | some b => if s.fld F.DMA_ACTRL_PRIO b < s.fld F.DMA_ACTRL_PRIO c then some c else some b) none

/-- One side of a transfer as it starts at a list address. -/
def DmaSide.start (a : Nat) : DmaSide := ⟨a, false, false, 0, []⟩

/-- R349: with no channel running, the picked channel runs. -/
def State.dmaGrant (s : State) : State :=
  match s.dma.run with
  | some _ => s
  | none =>
    if !s.bit F.DMA_CTRL_EN then s
    else match s.dmaPick with
      | none => s
      | some c =>
        let run : DmaRun := ⟨c, DmaSide.start (s.getPair .DMA_ASRC_L .DMA_ASRC_H c),
          DmaSide.start (s.getPair .DMA_ADST_L .DMA_ADST_H c), [], [], 0, 0, 0, false⟩
        let s := { s with dma := { s.dma with
          run := some run
          last := c
          errs := []
          listFail := none
          complete := [] } }
        let s := s.put F.DMA_ACTRL_STATE c 2
        (s.put F.DMA_STATUS_BUSY 0 1).put F.DMA_STATUS_CUR 0 c

/-- R354, R350: the transfer's RESULT: LISTERR before LENGTH before ERRORS. -/
def DmaRun.finalResult (r : DmaRun) (listFail : Bool) : Nat :=
  if listFail then 3 else if r.result == 2 then 2 else if r.badEntries != 0 then 1 else 0

/-- R345, R350: the transfer of the running channel completes; an armed shadow is handed over. -/
def State.dmaFinish (s : State) (r : DmaRun) : State :=
  let c := r.chan
  let result := r.finalResult s.dma.listFail.isSome
  let s := { s with dma := { s.dma with run := none, listFail := none } }
  let s := (s.put F.DMA_ARES_RESULT c result).put F.DMA_ARES_BAD c (min r.badEntries 65535)
  let s := (s.put F.DMA_ACTRL_STATE c 0).put F.DMA_STATUS_BUSY 0 0
  let m := s.fld F.DMA_STATUS_LOADED
  let s := s.put F.DMA_STATUS_LOADED 0 (if bitAt m c then m - 2 ^ c else m)
  let s := (s.count .DMA_XFER_CNT).raise ⟨.DMA_EVENT, c, 1⟩
  let s := if result != 0 then s.raise ⟨.DMA_EVENT, 16 + c, 1⟩ else s
  s.dmaHandover c

end Sys2Proof.Machine
end

