-- ==== Sys2Proof/Machine/Lane.lean ====
section
/-! DEFINITION. Machine/Lane.lean: the operations of the serial lanes (spec/13 R388 to R406) that their owners and mode
control use. -/

namespace Sys2Proof.Machine

/-- The lane states, with the codes of LNE_STATEℓ.STATE. -/
inductive LaneSt where
  | off | deep | acq | up | low | test
  deriving DecidableEq, Repr

/-- The lane state that a code names. -/
def LaneSt.ofCode (n : Nat) : LaneSt :=
  match n with
  | 0 => .off
  | 1 => .deep
  | 2 => .acq
  | 3 => .up
  | 4 => .low
  | _ => .test

/-- The code of a lane state. -/
def LaneSt.code (t : LaneSt) : Nat :=
  match t with
  | .off => 0
  | .deep => 1
  | .acq => 2
  | .up => 3
  | .low => 4
  | .test => 5

/-- R393: the causes of LNE_LAST. -/
inductive LaneCause where
  | lock | signal | ref | retrain | ka
  deriving DecidableEq, Repr

/-- The code of a cause. -/
def LaneCause.code (c : LaneCause) : Nat :=
  match c with
  | .lock => 1
  | .signal => 2
  | .ref => 3
  | .retrain => 4
  | .ka => 5

/-- A lane as it stands after reset: full rate, equaliser at mid-scale (R397). -/
def Lane.fresh : Lane := ⟨false, 8, 32, List.replicate 10 0, [], false, none, 0, 0, 0⟩

/-- What lane `l` holds beside its registers. -/
def State.lane (s : State) (l : Nat) : Lane := s.lne.lanes.getD l Lane.fresh

/-- Change what lane `l` holds beside its registers. -/
def State.setLane (s : State) (l : Nat) (x : Lane) : State :=
  { s with lne := { s.lne with lanes := s.lne.lanes.set l x } }

/-- The state of lane `l`. -/
def State.laneSt (s : State) (l : Nat) : LaneSt := LaneSt.ofCode (s.fld F.LNE_STATE_STATE l)

/-- Store the state of lane `l`. -/
def State.putLaneSt (s : State) (l : Nat) (t : LaneSt) : State := s.put F.LNE_STATE_STATE l t.code

/-- R388: a camera lane. -/
def isCamLane (l : Nat) : Bool := l < 64

/-- R388: a fabric lane. -/
def isFabLane (l : Nat) : Bool := 64 ≤ l && l < 88

/-- R388: a host lane. -/
def isHostLane (l : Nat) : Bool := 88 ≤ l

/-- R392: a low-rate lane is lane 0 of an enabled fabric or host port. -/
def State.lowRateLane (s : State) (l : Nat) : Bool :=
  !isCamLane l && l % 4 == 0 && s.bit F.LNE_CFG_EN l

/-- R391: the reference of a lane is good. -/
def State.refOk (s : State) (l : Nat) : Bool :=
  if isHostLane l then s.bit F.LNE_STATUS_REF_HOST_OK else s.bit F.LNE_STATUS_REF_CAM_OK

/-- R394: the block boundary is lost when a lane leaves UP. -/
def State.laneLoseBlocks (s : State) (l : Nat) : State :=
  let s := s.put F.LNE_STATE_HDR_OK l 0
  let s := s.put F.LNE_STATE_HDR_RUN l 0
  s.setLane l { s.lane l with
    blocks := []
    marker := none
    missed := 0 }

/-- R74, R76: the spread of a port's markers, once every lane of its quad, from lane `l` on, has shown the same one. -/
def State.markerSkew (s : State) (l : Nat) : Option Nat :=
  match (List.range 4).map (fun i => (s.lane (l + i)).marker) with
  | [some a, some b, some c, some d] =>
    if a.1 == b.1 && b.1 == c.1 && c.1 == d.1 then
      let ps := [a.2, b.2, c.2, d.2]
      some (ps.foldl max 0 - ps.foldl min a.2)
    else none
  | _ => none

/-- R74: the four lanes of a quad are in UP, locked and deskewed. -/
def State.quadAligned (s : State) (l : Nat) : Bool :=
  (List.range 4).all (fun i => s.fld F.LNE_STATE_STATE (l + i) == 3 && s.bit F.LNE_STATE_HDR_OK (l + i)) &&
    ((s.markerSkew l).map (fun k => decide (k ≤ 32))).getD false

/-- A lane goes to a state in which neither its PLL nor its receiver is locked. -/
def State.laneDown (s : State) (l : Nat) (t : LaneSt) : State :=
  let s := s.laneLoseBlocks l
  let s := s.put F.LNE_STATE_PLL_LOCK l 0
  let s := s.put F.LNE_STATE_CDR_LOCK l 0
  let s := s.put F.LNE_STATE_RETRAINING l 0
  let s := s.put F.LNE_TSTAT_LOCKED l 0
  let s := s.put F.LNE_TSTAT_TSTATE l 0
  let s := s.setLane l { s.lane l with window := false, eighth := false }
  s.putLaneSt l t

/-- R393: a lane leaves UP for ACQ: it is retraining, is counted, and is named in LNE_LAST. A loss of lock or of signal
is counted as well. -/
def State.laneRetrain (s : State) (l : Nat) (c : LaneCause) : State :=
  let s := s.laneLoseBlocks l
  let s := s.setLane l { s.lane l with lostAt := s.clk + 1 }
  let s := s.put F.LNE_STATE_RETRAINING l 1
  let s := s.put F.LNE_STATE_CDR_LOCK l 0
  let s := s.putLaneSt l .acq
  let s := s.count .LNE_RETRAIN_CNT l
  let s := s.put F.LNE_LAST_LANE 0 l
  let s := s.put F.LNE_LAST_CAUSE 0 c.code
  let s := s.raise F.LNE_EVENT_RETRAIN
  match c with
  | .lock => (s.count .LNE_LOCKLOSS_CNT l).raise F.LNE_EVENT_LOCK_LOSS
  | .signal => ((s.put F.LNE_STATE_SIGDET l 0).count .LNE_LOCKLOSS_CNT l).raise F.LNE_EVENT_LOCK_LOSS
  | _ => s

/-- R392: OFF to ACQ when the lane is enabled, and any state to OFF when it is not. -/
def State.laneEnable (s : State) (l : Nat) : State :=
  if s.bit F.LNE_CFG_EN l then
    if s.laneSt l == .off && s.mode != .standby && s.mode != .dark then s.putLaneSt l .acq else s
  else s.laneDown l .off

/-- R399: the transmit equaliser: MAIN below 24 is 24, and MAIN is lowered until PRE + MAIN + POST is at most 64. LNE_TXEQ
reads the values in use. -/
def State.laneTxEq (s : State) (l : Nat) : State :=
  let main := max (s.fld F.LNE_TXEQ_MAIN l) 24
  let rest := s.fld F.LNE_TXEQ_PRE l + s.fld F.LNE_TXEQ_POST l
  let use := if main + rest > 64 then 64 - rest else main
  (s.put F.LNE_TXEQ_MAIN l use).putB F.LNE_STATE_EQ_CLAMP l (decide (main + rest > 64))

/-- R404: the owner has released the lane. -/
def State.laneReleased (s : State) (l : Nat) : Bool :=
  if isCamLane l then !(s.bit F.CAM_CTRL_EN (l / 4))
  else if isFabLane l then !(bitAt (s.fld F.FAB_PORT_EN_EN) ((l - 64) / 4))
  else !(s.bit F.HST_PCFG_EN ((l - 88) / 4))

/-- R405: a checker that is switched off is unlocked, and its window ends. -/
def State.checkerFollow (s : State) (l : Nat) : State :=
  if s.bit F.LNE_TEST_CHK l then s
  else (s.put F.LNE_TSTAT_LOCKED l 0).setLane l { s.lane l with window := false }

/-- R392, R404: the test request of a lane is tested: TEST from UP when its owner has released it, refused otherwise. A lane
in TEST stays there while the request stands. -/
def State.laneTestTry (s : State) (l : Nat) : State :=
  if s.bit F.LNE_TEST_EN l then
    if s.laneSt l == .test then s.checkerFollow l
    else if s.laneReleased l then
      if s.laneSt l == .up then
        ((s.putLaneSt l .test).put F.LNE_TSTAT_TSTATE l 1).laneLoseBlocks l
      else s.put F.LNE_TSTAT_TSTATE l 0
    else (s.put F.LNE_TSTAT_TSTATE l 2).raise F.LNE_EVENT_TEST_REFUSED
  else if s.laneSt l == .test then
    ((s.laneDown l .acq).put F.LNE_STATE_PLL_LOCK l 1)
  else s.put F.LNE_TSTAT_TSTATE l 0

/-- R404: the requests of a quad are tested again when the owner releases it. -/
def State.quadReleased (s : State) (first : Nat) : State :=
  forBelow 4 (fun i t => if t.bit F.LNE_TEST_EN (first + i) then t.laneTestTry (first + i) else t) s

/-- R392: STANDBY entry: a low-rate lane reacquires at one eighth of the rate, every other lane goes to DEEP. -/
def State.lanesToStandby (s : State) : State :=
  forBelow 104 (fun l t =>
    if t.laneSt l == .up || t.laneSt l == .acq then
      if t.lowRateLane l then
        let u := t.laneDown l .acq
        u.setLane l { u.lane l with eighth := true }
      else t.laneDown l .deep
    else t) s

/-- R401: WAKE blocks for 10 µs on every low-rate lane, as the device begins its exit from STANDBY. -/
def State.sendWakes (s : State) : State :=
  forBelow 104 (fun l t => if t.laneSt l == .low then t.emit (.laneBlock l 0xD2 0) else t) s

/-- R392: STANDBY exit: DEEP and LOW lanes return to ACQ at full rate, unless software holds them in DEEP. -/
def State.lanesFromStandby (s : State) : State :=
  forBelow 104 (fun l t =>
    match t.laneSt l with
    | .deep => if t.bit F.LNE_CTL_DEEP l then t else t.laneDown l .acq
    | .low => (t.put F.LNE_STATE_KA l 0).laneDown l .acq
    | .acq => t.setLane l { t.lane l with eighth := false }
    | _ => t) s

/-- R392: every lane to OFF, at reset, at DARK entry and at a curtain. -/
def State.lanesOff (s : State) : State := forBelow 104 (fun l t => t.laneDown l .off) s

end Sys2Proof.Machine
end

