-- ==== Sys2Proof/Machine/LabelOps.lean ====
section
/-! DEFINITION. Machine/LabelOps.lean: the labelling engine and the end-of-line marker (spec/07 R215 to R230, spec/08 R240
to R244), components at seams (spec/06 R185 to R193), and the settle point (spec/18 R527). -/

namespace Sys2Proof.Machine

/-- BRIDGE_Y of a head; 3 is treated as 2. -/
def State.bridgeY (s : State) (h : Nat) : Nat := min (s.fldWork F.SEG_HEAD_CFG_BRIDGE_Y h) 2

/-- BRIDGE_X of a head. -/
def State.bridgeX (s : State) (h : Nat) : Nat := s.fldWork F.SEG_HEAD_CFG_BRIDGE_X h

/-! ### Density overflow -/

/-- R224: the engine reaches a head's overflow point, which `cause` set (R222). -/
def State.overflowPoint (s : State) (i : LineInfo) (cause : Nat) : State :=
  let h := i.head
  if s.inOvf h then s
  else
    let s := (s.closeHeadTrunc h).retire (fun l => l.head != h)
    let s := s.setSegHead h { s.segHead h with fifoArm := false, lblArm := false }
    let s := s.putB ⟨.SEG_OVF_STATE, h, 1⟩ 0 true
    let s := s.wr .SEG_LAST_OVF 0 (BitVec.ofNat 32 (h * 2 ^ 27 + cause * 2 ^ 24 + i.line.toNat % 2 ^ 24))
    let s := s.count .SEG_OVF_ENTER_CNT
    let s := if bitAt cause 0 then s.count .SEG_OVF_FIFO_CNT else s
    let s := if bitAt cause 1 then s.count .SEG_OVF_LBL_CNT else s
    let s := if bitAt cause 2 then s.count .SEG_OVF_CTX_CNT else s
    s.raise F.SEG_EVENT_OVF_ENTER

/-- A head leaves overflow (R227, R230). -/
def State.overflowExit (s : State) (h : Nat) : State :=
  let s := s.setSegHead h { s.segHead h with fifoArm := false, lblArm := false }
  (s.putB ⟨.SEG_OVF_STATE, h, 1⟩ 0 false).raise F.SEG_EVENT_OVF_EXIT

/-- REL_FIFO of SEG_OVF_CFG; values outside 1 to 90 are treated as 90. -/
def State.relFifo (s : State) : Nat :=
  let v := s.fld F.SEG_OVF_CFG_REL_FIFO
  if 1 ≤ v && v ≤ 90 then v else 90

/-- REL_LBL of SEG_OVF_CFG; values outside 1 to 95 are treated as 95. -/
def State.relLbl (s : State) : Nat :=
  let v := s.fld F.SEG_OVF_CFG_REL_LBL
  if 1 ≤ v && v ≤ 95 then v else 95

/-- R227: the release conditions of a head at boundary line `n`. -/
def State.canRelease (s : State) (h : Nat) (n : LineNo) : Bool :=
  decide (s.seg.fifo.length * 100 ≤ s.relFifo * 8192) && decide (s.seg.labels.length * 100 ≤ s.relLbl * 524288) &&
    decide (s.fld F.SEG_OVF_CFG_REL_CTX ≤ s.ctxFree) &&
    !((s.segHead h).aggs.any (fun a => a.direct && !(after n a.strip)))

/-- R211, R221, R225, R227, R228: the first entry of a boundary line reaches the engine; it still counts in the level of
the FIFO. -/
def State.crossLabel (s : State) (i : LineInfo) : State :=
  let h := i.head
  if s.boundaryLine i.line && (s.segHead h).lblLine != some i.line then
    let s := s.setSegHead h { s.segHead h with lblLine := some i.line }
    let rel := s.inOvf h && s.canRelease h i.line
    let s := s.flushAggs h (some i.line)
    let s := s.gapOutEnd h .densityOverflow i
    let s := s.latch .SEG_HEAD_CFG h
    let s := s.retire (fun l => l.head != h || decide (i.ord - l.ord ≤ s.bridgeY h + 1))
    (if rel then s.overflowExit h else s).levelCauses
  else s

/-! ### Labelling -/

/-- R215: a label entry connects with a run. -/
def connected (bx by_ : Nat) (r : Run) (l : Label) : Bool :=
  l.head == r.info.head && decide (r.info.ord - l.ord ≤ by_ + 1) &&
    decide (r.a ≤ l.b + 1 + bx) && decide (l.a ≤ r.b + 1 + bx)

/-- The head's objects that a run connects with, in order of allocation (R218). -/
def State.connectedObjs (s : State) (r : Run) : List Obj :=
  let h := r.info.head
  let ls := s.seg.labels.filter (connected (s.bridgeX h) (s.bridgeY h) r)
  s.seg.objs.filter (fun o => ls.any (fun (l : Label) => l.oid == o.oid))

/-- R216: a run's label table entry. -/
def State.addLabel (s : State) (r : Run) (oid : Oid) : State :=
  let s := { s with seg := { s.seg with labels := s.seg.labels ++ [(⟨r.info.head, r.info.line, r.info.ord, r.a, r.b, oid, oid⟩ : Label)] } }
  s.put F.SEG_LBL_PEAK_PEAK 0 (max (s.fld F.SEG_LBL_PEAK_PEAK) s.seg.labels.length)

/-- R214 to R218: the engine takes a run. -/
def State.takeRun (s : State) (r : Run) : State :=
  let h := r.info.head
  if s.inOvf h then s.aggregate h r false
  else if (s.segHead h).lblArm then (s.overflowPoint r.info (s.segHead h).lblCause).aggregate h r false
  else
    match s.connectedObjs r with
    | [] =>
      if s.ctxFree == 0 then (s.overflowPoint r.info (4 ||| s.levelHolds h)).aggregate h r false
      else
        let a := s.allocObj r
        match a.1.objOf a.2 with
        | none => a.1
        | some o => (a.1.runIntoObj o r).addLabel r a.2
    | o :: rest =>
      let s := rest.foldl (fun t b =>
        match t.objOf o.oid, t.objOf b.oid with
        | some x, some y => t.absorb x y
        | _, _ => t) s
      match s.objOf o.oid with
      | none => s
      | some x => (s.runIntoObj x r).addLabel r o.oid

/-! ### Closing of objects at seams -/

/-- PITCH_Y × n, in µm, rounded up (R186). -/
def State.linesUp (s : State) (n : Nat) : Nat := ceilDiv (n * s.pitchY) 65536

/-- The heads on the two sides of a seam; a side on a neighbour has none. -/
def State.seamHeads (s : State) (k : Nat) : Option Nat × Option Nat :=
  if k == 31 then (none, s.headAt 0)
  else if k == 32 then ((List.range 32).reverse.findSome? s.headAt, none)
  else (s.headAt k, s.headAt (k + 1))

/-- The working ratios of the heads of a seam, the left neighbour's for seam 31; a side that no packet tells of counts 1. -/
def State.seamRatios (s : State) (k : Nat) : Nat × Nat :=
  let p := s.seamHeads k
  let d (o : Option Nat) (other : Nat) : Nat := match o with
    | none => other
    | some h => s.awfRatio h
  (d p.1 (if k == 31 then s.sti.nbrRatio else 1), d p.2 1)

/-- The larger working ratio of the heads of a seam. -/
def State.seamRatio (s : State) (k : Nat) : Nat := max (s.seamRatios k).1 (s.seamRatios k).2

/-- R186: T of a seam, µm. -/
def State.seamTol (s : State) (k : Nat) : Nat := s.linesUp ((1 + s.fld F.STI_MERGE_TOL) * s.seamRatio k)

/-- R186: two contact intervals of one seam are counterparts. -/
def State.contactsMeet (s : State) (a b : Contact) : Bool :=
  a.seam == b.seam && a.left != b.left &&
    decide (sdiff a.y1 b.y2 ≤ (s.seamTol a.seam : Int)) && decide (sdiff b.y1 a.y2 ≤ (s.seamTol a.seam : Int))

/-- R186: two objects are counterparts. -/
def State.counterparts (s : State) (a b : Obj) : Bool :=
  a.contacts.any (fun x => b.contacts.any (fun y => s.contactsMeet x y))

/-- R186, R187: a pending object joins the components of its counterparts; the 65th object is cut. -/
def State.joinComps (s : State) (o : Comp) : State :=
  let hit (c : Comp) : Bool := c.members.any (fun m => o.members.any (fun x => s.counterparts m x))
  let start := { s with seg := { s.seg with comps := s.seg.comps.filter (fun c => !(hit c)) } }
  let r := (s.seg.comps.filter hit).foldl (fun (a : State × Comp) c =>
    if a.2.members.length + c.members.length ≤ 64 then
      (a.1.count .STI_MERGE_CNT, ⟨c.members ++ a.2.members, a.2.limit || c.limit⟩)
    else
      let t := (a.1.raise F.STI_EVENT_MERGE_LIMIT).count .STI_MLIMIT_CNT
      ({ t with seg := { t.seg with comps := t.seg.comps ++ [{ c with limit := true }] } }, { a.2 with limit := true }))
    (start, o)
  { r.1 with seg := { r.1.seg with comps := r.1.seg.comps ++ [r.2] } }

/-- R188: the frontier of the head on the other side of a contact. -/
def State.otherFrontier (s : State) (c : Contact) : Option YPos :=
  if c.seam == 31 && !c.left then s.sti.nbrY
  else
    let p := s.seamHeads c.seam
    match (if c.left then p.2 else p.1) with
    | none => none
    | some h => ((s.segHead h).lastInfo).map (·.y)

/-- R188: the frontier has passed a contact; contacts at the right neighbour's seam are its matter (R194). -/
def State.contactPassed (s : State) (c : Contact) : Bool :=
  if c.seam == 32 then true
  else match s.otherFrontier c with
    | none => false
    | some f => decide (0 ≤ sdiff f (c.y2 + BitVec.ofNat 40 (s.seamTol c.seam)))

/-- R188: a component may be released. -/
def State.compReady (s : State) (c : Comp) : Bool :=
  c.members.all (fun m => m.contacts.all s.contactPassed) &&
    !(s.seg.objs.any (fun o => c.members.any (fun m => s.counterparts m o)))

/-- The member whose anchor the component takes: the smallest Y, then the smallest X (R189). A member that a streak's end has
left without an anchor (R244) gives one only when no member has any. -/
def anchorOf (ms : List Obj) : Option Obj :=
  let have_ := ms.filter (fun m => m.acc.anchored)
  (if have_.isEmpty then ms else have_).foldl (fun (best : Option Obj) m =>
    match best with
    | none => some m
    | some b =>
      if after b.acc.ancY m.acc.ancY || (b.acc.ancY == m.acc.ancY && decide (m.acc.ancX.toInt < b.acc.ancX.toInt)) then some m
      else some b) none

/-- R189: output lines common to the contact intervals of two members (notes/assumptions/26). -/
def State.commonLines (s : State) (a b : Contact) : Nat :=
  if a.seam == b.seam && a.left && !b.left then
    let lo := later a.y1 b.y1
    let hi := earlier a.y2 b.y2
    if sdiff hi lo < 0 then 0
    else (roundHalfUpDiv (sdiff hi lo * 65536) (s.seamRatio a.seam * s.pitchY)).toNat + 1
  else 0

/-- R189: twice the lines common to counterpart pairs. -/
def State.sharedRuns (s : State) (ms : List Obj) : Nat :=
  2 * sumN (ms.flatMap (fun a => ms.flatMap (fun b =>
    a.contacts.flatMap (fun x => (b.contacts.filter (fun y => s.contactsMeet x y)).map (fun y => s.commonLines x y)))))

/-- R189: the merged object of a component, its member list, and whether a sum saturated. -/
def State.mergeComp (s : State) (c : Comp) (unmerged : Bool) : Option (Obj × List Join × Bool) :=
  match anchorOf c.members with
  | none => none
  | some m =>
    let rest := c.members.filter (fun x => !(x == m))
    let r := rest.foldl (fun (a : Acc × Bool) x => let j := s.accJoin a.1 x.acc; (j.1, a.2 || j.2)) (m.acc, false)
    let acc := r.1
    let acc := if bitAt acc.sat 10 then acc else { acc with brun := acc.brun - s.sharedRuns c.members }
    let last := rest.foldl (fun l x => later l x.last) m.last
    let fl := rest.foldl (fun f x => f ||| x.flags) m.flags
    let fl := fl ||| (if unmerged then 2 ^ 7 else 0) ||| (if c.limit then 2 ^ 8 else 0) ||| (if r.2 then 2 ^ 6 else 0)
    let o := { m with
      acc := acc, flags := fl, opened := c.members.any (·.opened),
      low := rest.foldl (fun l x => lowOf l x.low) m.low,
      marked := m.marked, last := last
      lastOrd := if last == m.last then m.lastOrd else m.info.ord + spanOf m.info.ratio m.info.line last - 1,
      njoin := min (sumN (c.members.map (·.njoin)) + rest.length) 255 }
    some (o, rest.map (fun x => ⟨x.src, x.info.head, x.sent, x.oid⟩) ++ c.members.flatMap (·.joins), r.2)

/-- Remove a component. -/
def State.dropComp (s : State) (c : Comp) : State :=
  { s with seg := { s.seg with comps := s.seg.comps.filter (fun x => !(x == c)) } }

/-- R188, R193: a component is merged, classified and emitted; `unmerged` marks a release of R193. -/
def State.emitComp (s : State) (c : Comp) (unmerged : Bool) : State :=
  let s := if unmerged then (s.raise F.STI_EVENT_UNMERGED).count .STI_UNMERGED_CNT else s
  match s.mergeComp c unmerged with
  | none => s
  | some (o, js, ovf) =>
    let k := s.classify o
    (s.accOvf ovf).finishClose o (decide (1 < c.members.length)) k.1 k.2 js

/-- FAB_NBR: the right neighbour's address. -/
def State.rightNbr (s : State) : FabAddr :=
  let w := (s.rd .FAB_NBR).toNat
  if bitAt w 15 then BitVec.ofNat 12 (bitsOf w 0 12) else 0

/-- R451: the words of a COMPONENT packet for member `i` of a component. -/
def State.compWords (s : State) (c : Comp) (first : Oid) (i : Nat) (o : Obj) : List DWord :=
  let own := s.fabAddr
  let n := c.members.length
  let src (a : Option FabAddr) : FabAddr := a.getD own
  let k := s.classify o
  let o' := { o with src := some (src o.src) }
  let ct := (o.contacts.find? (fun x => x.seam == 32)).getD ⟨32, true, o.acc.ymin, o.acc.ymax⟩
  [packWord [(58, n % 64), (52, i), (40, own.toNat), (0, first.toNat)]] ++
    ((objWords 0 o' k.1 k.2 (o.recFlags ||| (if c.limit then 2 ^ 8 else 0)) 0).drop 1 ++ closeWords o) ++ [zext64 ct.y1, zext64 ct.y2]

/-- R194, R451: a component that touches the right neighbour's seam leaves for it, and is kept until its CACK (R452). -/
def State.sendComp (s : State) (c : Comp) : State :=
  let first := (c.members.head?.map (·.oid)).getD 0
  let s := forBelow c.members.length (fun i t =>
    match c.members[i]? with
    | none => t
    | some o => t.fabSend ⟨t.rightNbr, 2, 3, .words (t.compWords c first i o)⟩) s
  { s with sti := { s.sti with sent := s.sti.sent ++ [⟨first, c, s.clk⟩] } }

/-- R188, R194: a ready component is released. -/
def State.releaseComp (s : State) (c : Comp) : State :=
  let s := s.dropComp c
  if c.members.any (fun m => m.contacts.any (fun x => x.seam == 32)) then
    (if s.rightNbr == 0 then s.emitComp c true else s.sendComp c)
  else s.emitComp c false

/-- R193: every component pending at a seam is released as it stands. -/
def State.releaseSeam (s : State) (k : Nat) : State :=
  (s.seg.comps.filter (fun c => c.members.any (fun m => m.contacts.any (fun x => x.seam == k)))).foldl
    (fun t c => (t.dropComp c).emitComp c true) s

/-- R243: the closing queued first is evaluated. -/
def State.evalClosing (s : State) : State :=
  match s.seg.closeQ with
  | [] => s
  | oid :: rest =>
    let s := { s with seg := { s.seg with closeQ := rest } }
    match s.objOf oid with
    | none => s
    | some o =>
      let k := s.classify o
      let s := s.repeatHits o k.1
      let s := { s with seg := { s.seg with objs := s.seg.objs.filter (fun x => x.oid != oid) } }
      if o.contacts.isEmpty then s.finishClose o false k.1 k.2 o.joins
      else s.joinComps ⟨[{ o with st := .pending }], false⟩

/-! ### The end-of-line marker -/

/-- R244, R249: a streak's segment ends. It is emitted as an UPDATE, and counted in SEGS, unless its class emits nothing. -/
def State.streakEnd (s : State) (o : Obj) : State :=
  let k := s.classify o
  let next (o : Obj) : Obj := { o with acc := Acc.empty, cuts := o.cuts + 1, segStart := none }
  if s.bit F.OBJ_CLASS_CFG_EMIT k.1 then
    let o := o.flag 5
    let s := s.formRecord (s.closeClass k.1 o.low) 0x02
      (objWords (o.segStart.getD o.info.start) o k.1 k.2 o.recFlags 0 ++ closeWords o) (selfPlaces o true 25 [])
    (s.count .OBJ_UPDATE_CNT).setObj (next { o with segs := o.segs + 1 })
  else s.setObj (next o)

/-- R237, R240 to R244: an open object of the head at the end of line `n`. -/
def State.objAtEol (s : State) (oid : Oid) (n : LineNo) : State :=
  match s.objOf oid with
  | none => s
  | some o =>
    let got := o.last == n && !o.cur.isEmpty
    let br := o.acc.limit { o.acc with brun := o.acc.brun + o.thirdTerm o.cur }
    let o := { o with
      acc := br.1, prev := o.cur, cur := [], idle := (if got then 0 else o.idle + 1) }
    let o := if br.2 then o.flag 6 else o
    let s := (s.setObj o).accOvf br.2
    let s := if got && !o.opened then s.evalOpen o else s
    let o := (s.objOf oid).getD o
    if got then
      (if 65536 * (o.cuts + 1) ≤ o.span then s.streakEnd o else s)
    else
      let nclose := max (s.fldWork F.OBJ_HEAD_CFG_CLOSE_N o.info.head) (s.bridgeY o.info.head + 1)
      if nclose ≤ o.idle then s.queueClose oid else s

/-- GAP records of head `h` that wait to leave in a list: first line and position of each (R527). -/
def waitingGaps (h : Nat) (rs : List Record) : List (LineNo × YPos) :=
  rs.filterMap (fun r =>
    let w := (r.words.getD 1 0).toNat
    if r.typ == tyGap && r.src.isNone && bitsOf w 59 5 == h then
      some (BitVec.ofNat 40 w, (r.words.getD 3 0).setWidth 40) else none)

/-- R8, R510: where a head's GAP starts that a transition owes and that no line has named yet (notes/assumptions/127). -/
def State.owedPoint (s : State) (h : Nat) : List (LineNo × YPos) :=
  if bitAt s.glb.gapOwed h then
    let f := s.glb.gapFrom.getD h (0, 0, .linkLoss)
    [(f.1, f.2.1)]
  else []

/-- R527: the settle point of a head, given the first output line after its frontier. -/
def State.settleOf (s : State) (h : Nat) (next : LineNo × YPos) : LineNo × YPos :=
  let objs := (s.seg.objs ++ s.seg.comps.flatMap (·.members) ++ s.sti.sent.flatMap (·.comp.members)).filter (fun o => o.src.isNone && o.info.head == h)
  let fromFab := s.fab.ports.flatMap (fun p => p.outq.flatMap (fun q => q.filterMap (fun o =>
    match o.body with
    | .record r => some r
    | .words _ => none)))
  let all := objs.map (fun o => (o.info.line, o.info.y)) ++
    (s.gaps.filter (fun g => g.head == h)).map (fun g => (g.l0, g.y0)) ++ s.owedPoint h ++
    waitingGaps h s.hst.routineQ ++ waitingGaps h fromFab
  all.foldl (fun a b => if after a.1 b.1 then b else a) next

/-- R526, R527: the mirror takes the settle point of a head, unless it is frozen. -/
def State.bookSettle (s : State) (h : Nat) (next : LineNo × YPos) : State :=
  let b := s.pwr.mirror
  if b.frozen then s
  else
    let p := s.settleOf h next
    { s with pwr := { s.pwr with mirror := { b with settle := b.settle.set h p } } }

/-- R194: the frontier of the last-ranked head goes to the right neighbour after every output line. -/
def State.sendFrontier (s : State) (h : Nat) : State :=
  match s.rankOf h, (s.segHead h).lastInfo with
  | some _, some i =>
    if s.bit F.STI_CTRL_XR && (s.rightSeam h).isNone && s.rightNbr != 0 then
      s.fabSend ⟨s.rightNbr, 2, 2, .words [packWord [(59, h), (0, i.y.toNat)]]⟩
    else s
  | _, _ => s

/-- R171, R528: the calibration summary takes a seam's registration. -/
def State.calibSeam (s : State) (k : Nat) (r : SeamReg) (c : Calib) : Calib :=
  { c with
    seams := c.seams.set k (BitVec.ofInt 24 r.ofs, BitVec.ofInt 24 r.sdev, BitVec.ofInt 16 r.yofs,
      BitVec.ofNat 16 (s.seamCol k), BitVec.ofNat 11 (s.seamWing k), BitVec.ofNat 2 (s.fld F.SEAM_STATUS_STATE k))
    ranks := (List.range 32).map (fun i => BitVec.ofNat 8 (s.rankByte i)) }

/-- R22: every head in RUN has crossed boundary `n` at OBJ. -/
def State.objCrossed (s : State) (n : LineNo) : Bool :=
  (List.range 32).all (fun h => !(s.runHead h) || (s.segHead h).lastInfo.any (fun i => atOrAfter i.line n))

/-- R22, R171, R181: the prompt book takes the registrations of the oldest boundary that still waits, once the last head has
crossed it at OBJ: a group for each acceptance, and one for all that was written. -/
def State.bookNext (s : State) : State :=
  match s.sti.bookDue with
  | [] => s
  | d :: rest =>
    if s.objCrossed d.line then
      let s := { s with sti := { s.sti with bookDue := rest } }
      let s := d.accepted.foldl (fun t e => t.calibGroup (t.calibSeam e.1 e.2)) s
      if d.written.isEmpty then s
      else s.calibGroup (fun c => d.written.foldl (fun x e => s.calibSeam e.1 e.2 x) c)
    else s

/-- R22: the same for every boundary that waits. -/
def State.bookCross (s : State) : State := forBelow s.sti.bookDue.length (fun _ t => t.bookNext) s

/-- R240, R194: OBJ applies the end-of-line marker of an output line; the frontier advances. -/
def State.applyMarker (s : State) (i : LineInfo) : State :=
  let h := i.head
  let n := i.line
  let s := if s.boundaryLine n then s.latch .OBJ_HEAD_CFG h else s
  let live := s.seg.objs.filter (fun o => o.st == .live && o.info.head == h)
  let s := live.foldl (fun t o => t.objAtEol o.oid n) s
  let s := s.retire (fun l => l.head != h || decide (i.ord - l.ord < s.bridgeY h + 1))
  let s := if s.inOvf h then (s.gapOut h .densityOverflow i).count .SEG_OVF_LINE_CNT else s
  let s := s.setSegHead h { s.segHead h with lastInfo := some i }
  ((s.bookSettle h (i.last + 1, s.outEnd i + 1)).sendFrontier h).bookCross

/-- R214, R222: the engine takes the entry at the front of the FIFO, and the levels are tested. -/
def State.takeFront (s : State) : State :=
  match s.seg.fifo with
  | [] => s
  | e :: rest =>
    let s := s.crossLabel e.info
    let s := { s with seg := { s.seg with fifo := rest } }
    let s := match e with
      | .run r => s.takeRun r
      | .marker i => s.applyMarker i
      | .ovf i cause => s.overflowPoint i cause
    s.levelCauses

/-- The engine takes everything in the FIFO (R504, R230). -/
def State.drainFifo (s : State) : State := forBelow s.seg.fifo.length (fun _ t => t.takeFront) s

/-- Every queued closing is evaluated. -/
def State.drainClosings (s : State) : State := forBelow s.seg.closeQ.length (fun _ t => t.evalClosing) s

/-- R230: a head in overflow flushes its aggregate, ends its GAP with its last line and leaves overflow. -/
def State.overflowDrain (s : State) (h : Nat) : State :=
  if s.inOvf h then ((s.flushAggs h none).gapClean h .densityOverflow 2).overflowExit h else s.flushAggs h none

/-- R230: a head whose port enters FAULT, or that enters STANDBY. -/
def State.segStop (s : State) (h : Nat) : State :=
  let s := s.drainFifo
  ((s.closeHeadTrunc h).retire (fun l => l.head != h)).overflowDrain h

end Sys2Proof.Machine
end

