-- ==== Sys2Proof/Machine/StiOps.lean ====
section
/-! DEFINITION. Machine/StiOps.lean: stitching (spec/06): the latch of registrations, wings and their delay,
self-registration, seam states and SEAM_REPORT. -/

namespace Sys2Proof.Machine

/-- A seam as it starts. -/
def SeamSt.fresh : SeamSt := ⟨[], none, 0, [], [], [], false, 0, none, none, 0, 0, false, none⟩

/-- STI for one seam. -/
def State.seam (s : State) (k : Nat) : SeamSt := s.sti.seams.getD k SeamSt.fresh

/-- Change STI for one seam. -/
def State.setSeam (s : State) (k : Nat) (x : SeamSt) : State :=
  { s with sti := { s.sti with seams := s.sti.seams.set k x } }

/-- The registration latched for the newest boundary (R172). -/
def State.latchedReg (s : State) (k : Nat) : SeamReg := s.sti.latched.getD k ⟨0, 0, 0⟩

/-- R171: a staged value limited to the accepted range. -/
def State.stagedReg (s : State) (k : Nat) : SeamReg :=
  ⟨signedOf 24 (s.fld F.SEAM_OFS_OFS k), clampI (-262144) 262144 (signedOf 24 (s.fld F.SEAM_SCALE_SDEV k)),
    clampI (-32767) 32767 (signedOf 16 (s.fld F.SEAM_YOFS_YOFS k))⟩

/-- STATE of a seam: 0 OFF, 1 IMAGE, 2 TRACK, 3 HELD. -/
def State.seamState (s : State) (k : Nat) : Nat := s.fld F.SEAM_STATUS_STATE k

/-- Store STATE of a seam; STI_STATE0 and STI_STATE1 show it too. -/
def State.putSeamState (s : State) (k code : Nat) : State :=
  (s.put F.SEAM_STATUS_STATE k code).put ⟨if k < 16 then .STI_STATE0 else .STI_STATE1, 2 * (k % 16), 2⟩ 0 code

/-! ### Stagger and delay -/

/-- R174: σ of a seam under a registration. The mounting distance of the left neighbour's head is that neighbour's own
(notes/assumptions/31). -/
def State.stagger (s : State) (k : Nat) (yofs : Int) : Frac :=
  let mount (o : Option Nat) : Int := match o with
    | some h => (s.fld F.STI_MOUNT_D h : Int)
    | none => Config.nbrMount
  let d := mount (s.seamHeads k).2 - mount (s.seamHeads k).1
  ⟨d * 65536 * 64 + yofs * s.pitchY, 64 * s.pitchY⟩

/-- R174: head b leads under a registration. -/
def State.rightLeads (s : State) (k : Nat) (r : SeamReg) : Bool := decide ((s.stagger k r.yofs).num < 0)

/-- R174: Δ of a seam in output lines under a registration. -/
def State.wingDelay (s : State) (k : Nat) (r : SeamReg) : Nat :=
  let f := s.stagger k r.yofs
  (roundHalfUpDiv f.num.natAbs (f.den * atLeast1 (s.seamRatio k))).toNat

/-- SEAM_DELAY of a seam, for the set of the newest boundary. -/
def State.showDelay (s : State) (k : Nat) : State :=
  (s.putB F.SEAM_DELAY_LEADR k (s.rightLeads k (s.latchedReg k))).put F.SEAM_DELAY_DELTA k
    (min (s.wingDelay k (s.latchedReg k)) 32767)

/-! ### SEAM_REPORT -/

/-- The heads of a seam by index, the neighbour's for seam 31. -/
def State.reportHeads (s : State) (k : Nat) : Nat × Nat :=
  let p := s.seamHeads k
  (if k == 31 then s.sti.nbrHead else p.1.getD 0, p.2.getD 0)

/-- The head in whose output lines a seam works under a registration (R174); at seam 31 the windows follow the device's own
head (notes/assumptions/31). -/
def State.trailingHead (s : State) (k : Nat) (r : SeamReg) : Nat :=
  let p := s.seamHeads k
  if k != 31 && s.rightLeads k r then p.1.getD 0 else p.2.getD 0

/-- R198: the web position of a boundary line in a head: that of the newest boundary is kept; a line that has not been cued
stands where the grid will cue it (notes/assumptions/136). -/
def State.reportY (s : State) (h : Nat) (line : LineNo) : YPos :=
  if s.sti.latchLine == some line then s.webY h s.sti.latchY else s.lineY h line

/-- R197, R198: a SEAM_REPORT: `event` 0 periodic, 1 acceptance, 2 state change; `line` is the boundary of the set that it
reports. -/
def State.seamReport (s : State) (k event : Nat) (line : LineNo) (r : SeamReg) : State :=
  if s.bit F.STI_CTRL_REPORT_EN then
    let h := s.trailingHead k (s.latchedReg k)
    let y : DWord := zext64 (s.reportY h line)
    let hs := s.reportHeads k
    s.formRecord .bulk 0x21
      [s.tick,
       packWord [(59, k), (58, b2n (k == 31)), (56, s.seamState k), (52, s.fld F.SEAM_STATUS_REASON k), (48, event),
         (40, s.fld F.SEAM_STATUS_CONF k), (0, line.toNat)],
       packWord [(40, wrapTo 24 r.ofs), (16, wrapTo 24 r.sdev), (0, wrapTo 16 r.yofs)],
       packWord [(48, s.fld F.SEAM_EST_RL k), (32, s.fld F.SEAM_EST_RR k), (16, s.fld F.SEAM_EST2_RY k),
         (8, s.fld F.SEAM_EST2_CONF_L k), (0, s.fld F.SEAM_EST2_CONF_R k)],
       packWord [(59, hs.1), (54, hs.2)] ||| y,
       packWord [(52, if k == 31 then bitsOf (s.rd .FAB_NBR).toNat 16 12 else 0), (32, (s.seam k).acc),
         (0, s.fld F.SEAM_STATUS_HELD_STRIPS k)]] []
  else s

/-- A state change of a seam, with the events of R182, its report and R193's release. -/
def State.seamChange (s : State) (k code reason : Nat) : State :=
  let old := s.seamState k
  let s := s.put F.SEAM_STATUS_REASON k reason
  if old == code then s
  else
    let s := s.putSeamState k code
    let s := if code == 3 then s.raise F.STI_EVENT_HELD else s
    let s := if old == 3 && code == 2 then s.raise F.STI_EVENT_TRACK else s
    s.seamReport k 2 (s.sti.latchLine.getD 0) (s.latchedReg k)

/-- R193: a seam that is held for want of data releases the components pending at it. -/
def State.noDataRelease (s : State) (k reason : Nat) : State := if reason == 6 then s.releaseSeam k else s

/-- R182: a strip of a seam closes without acceptance, for a reason; 0 when its estimate was usable and had no partner
(notes/assumptions/134). -/
def State.stripNotAccepted (s : State) (k reason : Nat) : State :=
  let st := s.seamState k
  if st == 0 || (st == 3 && s.fld F.SEAM_STATUS_REASON k == 8) then s
  else
    let s := s.countFld F.SEAM_STATUS_HELD_STRIPS k 1
    if st == 3 then (s.seamChange k 3 reason).noDataRelease k reason
    else if reason == 6 || reason == 5 || s.fld F.SEAM_STATUS_HELD_STRIPS k ≥ atLeast1 (s.fld F.STI_CTRL_HOLD_N) then
      (s.seamChange k 3 reason).noDataRelease k reason
    else s.put F.SEAM_STATUS_REASON k reason

/-- R184, R509: what an acceptance from two windows that both started under the current rehearsal meets. -/
def State.rehearsalMet (s : State) (k started : Nat) : State :=
  let s := { s with glb := { s.glb with regDone := s.glb.regDone ||| 2 ^ k } }
  let s := if s.mode == .rehearse && s.glb.rehFrom ≤ started then
      { s with glb := { s.glb with seamMet := s.glb.seamMet ||| 2 ^ k } } else s
  { s with cam := s.cam.map (fun p => if p.prehFrom ≤ started then { p with prehSeams := p.prehSeams ||| 2 ^ k } else p) }

/-- R180 to R182: an acceptance: the new values are staged at once. -/
def State.seamAccept (s : State) (k : Nat) (r : SeamReg) (line : LineNo) (started : Nat) : State :=
  let s := s.put F.SEAM_OFS_OFS k (wrapTo 24 r.ofs)
  let s := s.put F.SEAM_SCALE_SDEV k (wrapTo 24 r.sdev)
  let s := s.put F.SEAM_YOFS_YOFS k (wrapTo 16 r.yofs)
  let s := { s with sti := { s.sti with selfWrite := s.sti.selfWrite ||| 2 ^ k } }
  let s := (s.count .STI_ACC_CNT).raise F.STI_EVENT_ACCEPT
  let x := s.seam k
  let s := s.setSeam k { x with
    acc := min (x.acc + 1) (2 ^ 20 - 1)
    byWrite := false
    selfAt := some s.clk }
  let s := s.put F.SEAM_STATUS_HELD_STRIPS k 0
  let old := s.seamState k
  let s := (s.put F.SEAM_STATUS_REASON k 0).putSeamState k 2
  let s := if old == 3 then s.raise F.STI_EVENT_TRACK else s
  let s := s.seamReport k 1 (line + BitVec.ofNat 40 s.stripLen) r
  let s := if old == 2 then s else s.seamReport k 2 (line + BitVec.ofNat 40 s.stripLen) r
  s.rehearsalMet k started

/-! ### Self-registration -/

/-- R178: the normalised cross-correlation of sample pairs, in units of 2^-24. -/
def ncc (ps : List (Int × Int)) : Int :=
  let n : Int := ps.length
  let sum (f : Int × Int → Int) : Int := ps.foldl (fun a p => a + f p) 0
  let sx := sum (·.1)
  let sy := sum (·.2)
  let num := n * sum (fun p => p.1 * p.2) - sx * sy
  let vx := n * sum (fun p => p.1 * p.1) - sx * sx
  let vy := n * sum (fun p => p.2 * p.2) - sy * sy
  if vx * vy == 0 then Config.nccFlat ps
  else
    let c : Int := isqrtAux ((num * num).toNat * 2 ^ 48 / (vx * vy).toNat) 25 0
    (if num < 0 then -c else c) + (Config.nccDev ps % 3 : Nat) - 1

/-- The place in the left wing that lies under column `c` of head b, before any shift (R178). -/
def State.wingColumn (s : State) (k : Nat) (r : SeamReg) (c : Nat) : Frac :=
  let b := (s.seamHeads k).2.getD 0
  let pa := match (s.seamHeads k).1 with
    | some a => s.headPixels a
    | none => Config.nbrPixels
  (seamMap r (s.lensColumn b c)).add (Frac.ofInt (s.seamWing k - (pa : Int)))

/-- The left side at a place between two columns: linear between them (notes/assumptions/133), in units of the place's
denominator. None where the wing has no such column; an invalid sample where one of them is invalid. -/
def leftAt (left : List Nat) (p : Frac) : Option (Option Int) :=
  let i := p.parts.1
  let f := p.parts.2
  let at_ (j : Nat) : Option (Option Int) := (left[j]?).map (fun x => if x % 2 == 0 then some ((x / 2 : Nat) : Int) else none)
  if i < 0 then none
  else match at_ i.toNat with
    | none => none
    | some x =>
      if f == 0 then some (x.map (fun v => v * p.den))
      else (at_ (i.toNat + 1)).map (fun y => match x, y with
        | some v, some w => some (v * ((p.den : Int) - f) + w * f)
        | _, _ => none)

/-- R178: the sample pairs of columns `c0` to `c0 + n - 1` at shifts (dx, dy); none for a pair of which a sample is
invalid. -/
def State.samplePairs (s : State) (k : Nat) (w : Window) (c0 n : Nat) (dx dy : Int) : List (Option (Int × Int)) :=
  (List.range w.pairs.length).flatMap (fun (i : Nat) =>
    let j := (i : Int) - dy
    if j < 0 then []
    else match w.pairs[i]?, w.pairs[j.toNat]? with
      | some pr, some pl => (List.range n).filterMap (fun t =>
          let p := (s.wingColumn k w.reg (c0 + t)).add (Frac.ofInt dx)
          match leftAt pl.left p, pr.right[c0 + t]? with
            | some x, some y => some (x.bind (fun v => if y % 2 == 0 then some (v, (y / 2 : Nat) * (p.den : Int)) else none))
            | _, _ => none)
      | _, _ => [])

/-- The pairs of which both samples are valid. -/
def validPairs (ps : List (Option (Int × Int))) : List (Int × Int) := ps.filterMap id

/-- The search range in columns. -/
def State.searchDx (s : State) : Nat := atLeast1 (s.fld F.STI_SEARCH_DX)

/-- The search range in output lines. -/
def State.searchDy (s : State) : Nat := min (s.fld F.STI_SEARCH_DY) 4

/-- Whole numbers from −n to n. -/
def shifts (n : Nat) : List Int := (List.range (2 * n + 1)).map (fun (i : Nat) => (i : Int) - n)

/-- C of a half at a shift. -/
def State.coeff (s : State) (k : Nat) (w : Window) (c0 n : Nat) (dx dy : Int) : Int :=
  ncc (validPairs (s.samplePairs k w c0 n dx dy))

/-- R178: the peak of a half: its coefficient and its shifts. -/
def State.peak (s : State) (k : Nat) (w : Window) (c0 n : Nat) : Int × Int × Int :=
  let all := (shifts s.searchDy).flatMap (fun dy => (shifts s.searchDx).map (fun dx => (s.coeff k w c0 n dx dy, dx, dy)))
  let top := all.foldl (fun m e => max m e.1) (all.headD (0, 0, 0)).1
  let best := all.filter (fun e => e.1 == top)
  best.getD (Config.peakTie best.length % atLeast1 best.length) (0, 0, 0)

/-- R178: the refinement of a peak in 1/64. -/
def refine (cm c0 cp : Int) : Int :=
  let den := 2 * (cm - 2 * c0 + cp)
  if den == 0 then clampI (-32) 32 (Config.flatPeak c0)
  else
    let num := (cm - cp) * (if den < 0 then -1 else 1)
    clampI (-32) 32 (roundHalfUpDiv (64 * num) den.natAbs)

/-- What a strip gives: a usable estimate, or the reason of R179. -/
inductive EstResult where
  | usable (e : Estimate)
  | reason (n : Nat)
  deriving DecidableEq, Repr

/-- A coefficient as Q0.8. -/
def confOf (c : Int) : Nat := (clampI 0 255 (Int.fdiv c 65536)).toNat

/-- R179: 64 × m_s(q) in units of 2^-20, q a whole number of quarter wings. -/
def mapped64 (r : SeamReg) (q : Nat) : Int := (r.ofs + 64 * q) * 2 ^ 20 + q * r.sdev * 4

/-- R178, R179: the estimate of a closed window; the latest residuals and peaks are shown in the registers. -/
def State.estimate (s : State) (k : Nat) (w : Window) : State × EstResult :=
  let hs := s.seamHeads k
  let run (o : Option Nat) : Bool := match o with
    | some h => s.runHead h
    | none => k == 31 && s.sti.nbrY.isSome
  if !(run hs.1 && run hs.2) then (s, .reason 6)
  else if (s.seamRatios k).1 != (s.seamRatios k).2 then (s, .reason 5)
  else
    let half := s.seamWing k / 2
    let mv := s.fld F.STI_SEARCH_MIN_VALID
    let need := if 1 ≤ mv && mv ≤ 100 then mv else 50
    let enough (c0 : Nat) : Bool :=
      let ps := s.samplePairs k w c0 half 0 0
      !ps.isEmpty && decide (need * ps.length ≤ 100 * (validPairs ps).length)
    if !(enough 0 && enough half) then (s, .reason 4)
    else
      let a := s.peak k w 0 half
      let b := s.peak k w half half
      let s := (s.put F.SEAM_EST2_CONF_L k (confOf a.1)).put F.SEAM_EST2_CONF_R k (confOf b.1)
      let s := s.put F.SEAM_STATUS_CONF k (min (confOf a.1) (confOf b.1))
      let floor : Int := (s.fld F.STI_SEARCH_CONF : Int) * 65536
      let edge (p : Int × Int × Int) : Bool := p.2.1.natAbs == s.searchDx || p.2.2.natAbs == s.searchDy
      if a.1 < floor || b.1 < floor then (s, .reason 1)
      else if edge a || edge b then (s, .reason 2)
      else
        let rx (c0 : Nat) (p : Int × Int × Int) : Int := 64 * p.2.1 +
          refine (s.coeff k w c0 half (p.2.1 - 1) p.2.2) p.1 (s.coeff k w c0 half (p.2.1 + 1) p.2.2)
        let ry (c0 : Nat) (p : Int × Int × Int) : Int := 64 * p.2.2 +
          refine (s.coeff k w c0 half p.2.1 (p.2.2 - 1)) p.1 (s.coeff k w c0 half p.2.1 (p.2.2 + 1))
        let rl := rx 0 a
        let rr := rx half b
        let y := roundHalfUpDiv ((ry 0 a + ry half b) * atLeast1 (s.seamRatio k)) 2
        let s := (s.put F.SEAM_EST_RL k (wrapTo 16 rl)).put F.SEAM_EST_RR k (wrapTo 16 rr)
        let s := s.put F.SEAM_EST2_RY k (wrapTo 16 y)
        let q := s.seamWing k / 4
        (s, .usable ⟨mapped64 w.reg q + rl * 2 ^ 20, mapped64 w.reg (3 * q) + rr * 2 ^ 20, w.reg.yofs + y⟩)

/-- R180: two estimates agree within 1/16 pixel and 1/16 line. -/
def agree (a b : Estimate) : Bool :=
  decide ((a.el - b.el).natAbs ≤ 4 * 2 ^ 20) && decide ((a.er - b.er).natAbs ≤ 4 * 2 ^ 20) &&
    decide ((a.ey - b.ey).natAbs ≤ 4)

/-- R180: the parameters that two agreeing estimates give. -/
def newReg (wing : Nat) (a b : Estimate) : SeamReg :=
  let el := roundHalfUpDiv (a.el + b.el) (2 ^ 21)
  let er := roundHalfUpDiv (a.er + b.er) (2 ^ 21)
  let sdev := roundHalfUpDiv ((er - el - 32 * wing) * 2 ^ 19) (atLeast1 wing)
  ⟨roundHalfUpDiv ((el - 16 * wing) * 2 ^ 20 - sdev * wing) (2 ^ 20), sdev, roundHalfUpDiv (a.ey + b.ey) 2⟩

/-- R180: the result lies within the ranges of R171, and |σ| within 16,384 lines. -/
def State.regAllowed (s : State) (k : Nat) (r : SeamReg) : Bool :=
  let f := s.stagger k r.yofs
  decide (-8388608 ≤ r.ofs) && decide (r.ofs ≤ 8388607) && decide (-262144 ≤ r.sdev) && decide (r.sdev ≤ 262144)
    && decide (-32767 ≤ r.yofs) && decide (r.yofs ≤ 32767) && decide (f.num.natAbs ≤ 16384 * f.den)

/-- R178 to R182: the estimate of a seam's closed window and its agreement test complete. -/
def State.seamEstimate (s : State) (k : Nat) : State :=
  let x := s.seam k
  match x.closed with
  | none => s
  | some w =>
    let r := s.estimate k w
    let s := r.1
    let done (t : State) (l : Option (Estimate × Nat)) : State := t.setSeam k { t.seam k with closed := none, last := l }
    match r.2 with
    | .reason n => ((done s none).count .STI_UNUSABLE_CNT).stripNotAccepted k n
    | .usable e =>
      let s := done s (some (e, w.started))
      match x.last with
      | none => s.stripNotAccepted k 0
      | some (p, st) =>
        if agree p e then
          let v := newReg (s.seamWing k) p e
          if s.regAllowed k v then s.seamAccept k v w.line (min st w.started)
          else ((s.count .STI_DISAGREE_CNT).raise F.STI_EVENT_LIMIT).stripNotAccepted k 7
        else (s.count .STI_DISAGREE_CNT).stripNotAccepted k 3

/-! ### Wings -/

/-- R175: a wing sample of a pixel. -/
def wingSample (colour : Bool) (x : Pix) : Nat :=
  (if colour then x.v1 * 16 else x.v0 / 2 * 2) + b2n x.inv

/-- The wing of a line at a seam's left or right side. -/
def wingOf (w : Nat) (left : Bool) (o : OutLine) : List Nat :=
  ((if left then o.px.drop (o.px.length - w) else o.px.take w)).map (wingSample o.colour)

/-- R175: places of the ring of a seam. -/
def State.ringPlaces (s : State) (k : Nat) : Nat := atLeast1 (2 ^ 25 / atLeast1 (s.seamWing k))

/-- R175: the address of line `j` of a seam's ring. -/
def State.ringAddr (s : State) (k j : Nat) : Nat :=
  s.getPair .STI_WBUF_BASE_L .STI_WBUF_BASE_H + k * 0x4000000 + (j % s.ringPlaces k) * (2 * s.seamWing k)

/-- A pair of wing lines joins its window (R178); `left` tells that the trailing line is the left head's. -/
def State.wingPair (s : State) (k : Nat) (line : LineNo) (left : Bool) (trail lead : List Nat) : State :=
  let x := s.seam k
  let p : WingPair := if left then ⟨trail, lead⟩ else ⟨lead, trail⟩
  let running := if x.running then s.setSeam k { x with pairs := x.pairs ++ [p] } else s
  match x.closed with
  | some w =>
    if after w.line line && !(k == 31 && left) then s.setSeam k { x with closed := some { w with pairs := w.pairs ++ [p] } }
    else running
  | none => running

/-- A trailing line leaves with its pair. -/
def State.trailDone (s : State) (k : Nat) (t : WingLine) (lead : List Nat) : State :=
  let x := s.seam k
  (s.setSeam k { x with trail := x.trail.filter (fun u => u.line != t.line || u.left != t.left) }).wingPair
    k t.line t.left t.samples lead

/-- R176: a trailing line whose delayed samples read as INVALID. -/
def State.trailInvalid (s : State) (k : Nat) (t : WingLine) : State :=
  (s.count .STI_WBUF_INV_CNT 0 (s.seamWing k)).trailDone k t (List.replicate (s.seamWing k) 1)

/-- R451: the line of the leading side nearest a web position, once its wings have come that far; the earlier one wins. -/
def nearestLead (ls : List WingLine) (y : YPos) : Option WingLine :=
  match ls with
  | [] => none
  | n :: _ =>
    if after y n.y then none
    else ls.foldl (fun best l => match best with
      | none => some l
      | some b => if (sdiff l.y y).natAbs < (sdiff b.y y).natAbs
          || ((sdiff l.y y).natAbs == (sdiff b.y y).natAbs && after b.y l.y) then some l else some b) none

/-- The ring line with which a trailing line of seam `k` is paired: none while it has not come. A line before the ring's first
answers that there is none (R176). Seam 31 matches web positions after the offset of R170 and R174 (R451). -/
def State.pairIndex (s : State) (k : Nat) (t : WingLine) : Option (Option Nat) :=
  let x := s.seam k
  if k == 31 then
    let yofs := (s.seamReg ((s.headAt 0).getD 0) 31).yofs
    let off := BitVec.ofInt 40 (roundHalfUpDiv (yofs * s.pitchY) (64 * 65536))
    (nearestLead x.lead (if t.left then t.y + off else t.y - off)).map (fun l => some l.ring)
  else
    let j := t.line.toNat / atLeast1 x.ratio
    if j < t.ring then some none
    else match x.newest with
      | none => none
      | some n => if j ≤ n + t.ring then some (some (j - t.ring)) else none

/-- R174 to R176: trailing lines that can be paired are read from the ring, or are INVALID where it was never written and the
leading side will not write it. -/
def State.tryTrail (s : State) (k : Nat) : State :=
  (s.seam k).trail.foldl (fun u t =>
    if t.asked then u
    else
      let hs := u.seamHeads k
      let up := match (if t.left then hs.2 else hs.1) with
        | some h => u.runHead h
        | none => u.sti.nbrY.isSome
      match u.pairIndex k t with
      | none => if up then u else u.trailInvalid k t
      | some none => u.trailInvalid k t
      | some (some j) =>
        let x := u.seam k
        if x.written.contains (j % u.ringPlaces k, j) then
          let v := u.setSeam k { x with trail := x.trail.map (fun w =>
            if w.line == t.line && w.left == t.left then { w with asked := true } else w) }
          v.memRead (.wingRead k t.line.toNat) 2 (v.ringAddr k j) (2 * v.seamWing k)
        else u.trailInvalid k t) s

/-- R175: a line of the leading side goes to its ring. -/
def State.ringWrite (s : State) (k j : Nat) (samples : List Nat) : State :=
  s.memWrite (.wingWrite k j) 1 (s.ringAddr k j) (samples.flatMap (leBytes 2))

/-- R175: the write of a ring line has returned. -/
def State.ringWritten (s : State) (k j : Nat) (ok : Bool) : State :=
  let x := s.seam k
  let place := j % s.ringPlaces k
  let w := x.written.filter (fun e => e.1 != place)
  let s := s.setSeam k { x with
    written := if ok then w ++ [(place, j)] else w
    newest := some (max j (x.newest.getD 0)) }
  s.tryTrail k

/-- R176: the read of a delayed line has returned; `bad` are the pieces in error: every sample in one reads as INVALID. -/
def State.ringRead (s : State) (k line : Nat) (data : List Byte) (bad : List (Nat × Nat × MemErr)) : State :=
  match (s.seam k).trail.find? (fun t => t.line.toNat == line && t.asked) with
  | none => s
  | some t =>
    let lost (i : Nat) : Bool := bad.any (fun e => e.1 < 2 * i + 2 && 2 * i < e.1 + e.2.1)
    let n := data.length / 2
    let s := if bad.any (fun e => e.2.2 == .ue || e.2.2 == .poison) then s.raise F.STI_EVENT_WBUF_ERR else s
    let s := s.count .STI_WBUF_INV_CNT 0 (countBelow n lost)
    s.trailDone k t ((List.range n).map (fun i => if lost i then 1 else ofLeBytes ((data.drop (2 * i)).take 2)))

/-- R174 to R177, R194: a wing line of one side of a seam, under a registration that makes the right side lead or not: the
leading side's goes to the ring, whose lines count from the last change of the side's ratio; the trailing side's waits for its
pair at the delay that now works. -/
def State.wingGoes (s : State) (k : Nat) (line : LineNo) (y : YPos) (w : List Nat) (left rightLeads : Bool)
    (ratio : Nat) : State :=
  let x := s.seam k
  if left != rightLeads then
    let x := if x.ratio == ratio then x else { x with
      ratio := ratio
      written := []
      newest := none
      lead := [] }
    let j := line.toNat / atLeast1 ratio
    let s := s.setSeam k (if k == 31 then
      { x with lead := (⟨line, y, [], false, left, j⟩ :: x.lead).take (s.ringPlaces 31) } else x)
    s.ringWrite k j w
  else
    let h := if left then (s.seamHeads k).1 else (s.seamHeads k).2
    let d := s.wingDelay k (s.seamReg (h.getD 0) k)
    (s.setSeam k { x with trail := x.trail ++ [⟨line, y, w, false, left, d⟩] }).tryTrail k

/-- A side of a seam has a line of head `h`, under the set that the head applies (R172). -/
def State.wingLine (s : State) (h k : Nat) (left : Bool) (o : OutLine) (y : YPos) : State :=
  s.wingGoes k o.line y (wingOf (s.seamWing k) left o) left (s.rightLeads k (s.seamReg h k)) (s.awfRatio h)

/-- R451: the wing of the last head leaves for the right neighbour, in packets of at most 248 samples. -/
def State.sendWing (s : State) (h : Nat) (o : OutLine) (y : YPos) : State :=
  if s.rightNbr == 0 then s
  else
    let w := wingOf (s.fld F.STI_XR_CFG_WING) true o
    forBelow (ceilDiv w.length 248) (fun part t =>
      let xs := (w.drop (248 * part)).take 248
      let words := (List.range (ceilDiv xs.length 4)).map (fun i =>
        packWord ((List.range 4).map (fun j => (16 * j, xs.getD (4 * i + j) 0))))
      t.fabSend ⟨t.rightNbr, 2, 1, .words ([packWord [(59, h), (40, part), (0, y.toNat)], zext64 o.line] ++ words)⟩) s

/-- R174, R175, R194: an output line passes STI: each seam of its head takes its wing. -/
def State.stiLine (s : State) (h : Nat) (o : OutLine) : State :=
  let y := s.webY h o.y
  let s := match s.leftSeam h with
    | some k => if s.seamInUse k then s.wingLine h k false o y else s
    | none => s
  match s.rightSeam h with
  | some k => if s.seamInUse k then s.wingLine h k true o y else s
  | none => if (s.rankOf h).isSome && s.bit F.STI_CTRL_XR then s.sendWing h o y else s

/-! ### Boundaries -/

/-- R172: a register write reaches a seam in the cycle in which self-registration staged its values: it is lost. -/
def State.seamWriteLost (s : State) (k : Nat) : Bool := (s.seam k).selfAt == some s.clk

/-- R171: a register write has staged a value of a seam. -/
def State.seamWritten (s : State) (k : Nat) : State := s.setSeam k { s.seam k with byWrite := true }

/-- R172: the staged values are latched once for boundary `n`, for all heads. The prompt book takes what was accepted and
what was written once the boundary has been crossed at OBJ (R22, R171, R181). -/
def State.regLatch (s : State) (n : LineNo) : State :=
  if s.sti.latchLine == some n then s
  else
    let new := (List.range 32).map s.stagedReg
    let pick (p : Nat → Bool) : List (Nat × SeamReg) :=
      ((List.range 32).filter p).map (fun k => (k, new.getD k ⟨0, 0, 0⟩))
    let due : BookDue := ⟨n, pick (fun k => bitAt s.sti.selfWrite k), pick (fun k => (s.seam k).byWrite)⟩
    let s := { s with sti := { s.sti with
      latched := new
      latchLine := some n
      latchY := (s.tagOf n).y
      bookDue := if due.accepted.isEmpty && due.written.isEmpty then s.sti.bookDue else s.sti.bookDue ++ [due]
      seams := s.sti.seams.map (fun x => { x with byWrite := false })
      selfWrite := 0 } }
    let s := (List.range 32).foldl (fun t k => ((t.latch .SEAM_OFS k).latch .SEAM_SCALE k).latch .SEAM_YOFS k) s
    forBelow 32 (fun k t => if t.seamInUse k then t.showDelay k else t) s

/-- R261: the edges of head `h` under the set that it applies from line `n` on are kept, when they differ from those before. -/
def State.noteEdges (s : State) (h : Nat) (n : LineNo) (old new : BitVec 40 × BitVec 40) : State :=
  if old == new then s
  else
    let xs := s.sti.regHist.getD h []
    let xs := if xs.isEmpty then [(n - 1, old)] else xs
    { s with sti := { s.sti with regHist := s.sti.regHist.set h (((n, new) :: xs).take 64) } }

/-- R178, R182, R183: the trailing head's boundary closes the window of a seam, whose lines it took under the set that it
applied until now, and starts the next. A seam without self-registration has no estimate: its strip closes unaccepted here. -/
def State.windowTurn (s : State) (h k : Nat) (n : LineNo) : State :=
  let x := s.seam k
  let on := s.bit F.SEAM_CFG_SR_EN k
  let s := if x.running && !on then s.countFld F.SEAM_STATUS_HELD_STRIPS k 1 else s
  s.setSeam k { x with
    closed := if x.running && on then some ⟨x.pairs, s.seamReg h k, n, x.startedAt⟩ else x.closed
    pairs := []
    running := true
    startedAt := s.sti.rehearsal
    strips := if x.running then x.strips + 1 else x.strips }

/-- R197: the periodic report of a seam, with the set that takes effect at the trailing head's boundary `n`. -/
def State.windowReport (s : State) (k : Nat) (n : LineNo) : State :=
  let every := s.fld F.STI_CTRL_REPORT_N
  if every != 0 && every ≤ (s.seam k).strips && !(s.throttled 4) then
    (s.setSeam k { s.seam k with strips := 0 }).seamReport k 0 (s.sti.latchLine.getD n) (s.latchedReg k)
  else s

/-- R22, R172: a boundary line of head `h` enters STI. -/
def State.stiBoundary (s : State) (h : Nat) (n : LineNo) : State :=
  let turns := (List.range 32).filter (fun k => s.seamInUse k && s.trailingHead k (s.seamReg h k) == h)
  let s := turns.foldl (fun t k => t.windowTurn h k n) s
  let s := s.regLatch n
  let old := s.edgesNow h
  let s := { s with sti := { s.sti with headReg := s.sti.headReg.set h s.sti.latched } }
  let s := s.noteEdges h n old (s.edgesNow h)
  turns.foldl (fun t k => t.windowReport k n) s

/-- R183: at HOLD no window runs. -/
def State.stiHold (s : State) : State :=
  { s with sti := { s.sti with seams := s.sti.seams.map (fun x => { x with running := false, pairs := [] }) } }

/-- R176: a port enters RUN: what its heads' rings hold as leading side was not written. -/
def State.stiRunEntry (s : State) (h : Nat) : State :=
  forBelow 32 (fun k t =>
    if t.seamInUse k && (let p := t.seamHeads k
        (if t.rightLeads k (t.seamReg h k) then p.2 else p.1) == some h) then
      t.setSeam k { t.seam k with
        written := []
        newest := none }
    else t) s

/-- R182: at LOAD every seam goes OFF. -/
def State.stiLoad (s : State) : State :=
  let s := { s with sti := { s.sti with
    seams := List.replicate 32 SeamSt.fresh
    latchLine := none
    bookDue := []
    regHist := List.replicate 32 []
    selfWrite := 0
    nbrY := none
    nbrLine := none
    wing31 := [] } }
  forBelow 32 (fun k t => (t.putSeamState k 0).put F.SEAM_STATUS_REASON k 0) s

/-- R173, R182: the end of LOAD: the registration in the registers works at once for every head, and each seam in use
starts in IMAGE, or in HELD when its self-registration is disabled. -/
def State.stiLoadEnd (s : State) : State :=
  let regs := (List.range 32).map s.stagedReg
  let s := { s with sti := { s.sti with
    latched := regs
    headReg := List.replicate 32 regs
    seams := s.sti.seams.map (fun x => { x with byWrite := false }) } }
  let s := (List.range 32).foldl (fun t k => ((t.latch .SEAM_OFS k).latch .SEAM_SCALE k).latch .SEAM_YOFS k) s
  forBelow 32 (fun k t =>
    if t.seamInUse k then
      let t := t.showDelay k
      let t := t.put F.SEAM_STATUS_HELD_STRIPS k 0
      if t.bit F.SEAM_CFG_SR_EN k then (t.putSeamState k 1).put F.SEAM_STATUS_REASON k 0
      else ((t.putSeamState k 3).put F.SEAM_STATUS_REASON k 8).raise F.STI_EVENT_HELD
    else t) s

/-- R173: the saved registration of a seam is used when the ranks and its SEAMCOL and W equal the image's. -/
def State.stiRestore (s : State) (c : Calib) : State :=
  if (List.range 32).all (fun i => (c.ranks.getD i 0).toNat == s.rankByte i) then
    forBelow 32 (fun k t => match c.seams[k]? with
      | none => t
      | some (o, d, y, col, w, _) =>
        if t.seamInUse k && col.toNat == t.seamCol k && w.toNat == t.seamWing k then
          ((t.put F.SEAM_OFS_OFS k o.toNat).put F.SEAM_SCALE_SDEV k d.toNat).put F.SEAM_YOFS_YOFS k y.toNat
        else t) s
  else s

/-- R196: seam 31 has no data: it is held and its components are released. -/
def State.seam31Lost (s : State) : State :=
  if s.seamInUse 31 then
    let s := { s with sti := { s.sti with nbrY := none } }
    let st := s.seamState 31
    if st == 0 || (st == 3 && s.fld F.SEAM_STATUS_REASON 31 == 8) then s.releaseSeam 31
    else (s.seamChange 31 3 6).releaseSeam 31
  else s

end Sys2Proof.Machine
end

