-- ==== Sys2Proof/Machine/LinePath.lean ====
section
/-! DEFINITION. Machine/LinePath.lean: the journey of a line from its FIFO through correction, the along-web filter,
stitching, segmentation and the archive (spec/01 R13 to R24), and the boundaries that travel with it. -/

namespace Sys2Proof.Machine

/-! ### Boundaries -/

/-- The number of a stage. -/
def stageCode (x : Stage) : Nat :=
  match x with
  | .cor => 0
  | .awf => 1
  | .seg => 2
  | .arc => 3
  | .sti => 4

/-- R22: boundary line `n` has still to enter a stage for head `h`. -/
def State.due (s : State) (x : Stage) (h : Nat) (n : LineNo) : Bool :=
  s.boundaryLine n && s.crossed.getD (32 * stageCode x + h) none != some n

/-- Boundary line `n` has entered a stage for head `h`. -/
def State.noteCross (s : State) (x : Stage) (h : Nat) (n : LineNo) : State :=
  { s with crossed := s.crossed.set (32 * stageCode x + h) (some n) }

/-- R106: the seams that touch a port's heads and register themselves. -/
def State.portSeams (s : State) (p : Nat) : List Nat :=
  (List.range 32).filter (fun k => s.seamInUse k && s.bit F.SEAM_CFG_SR_EN k &&
    (let hs := s.seamHeads k
     hs.1.map portOf == some p || hs.2.map portOf == some p))

/-- R106, R107: both acquisitions of a port's rehearsal are accepted, over at least 16 strips; at the first boundary when
it acquires nothing (R184). -/
def State.prehAccepted (s : State) (p : Nat) : Bool :=
  let c := s.camPort p
  (decide (17 ≤ c.prehStrips) || (!(s.bit F.COR_CTRL_FF_EN) && (s.portSeams p).isEmpty)) &&
    (!(s.bit F.COR_CTRL_FF_EN) || (List.range (s.portHeads p)).all (fun j => bitAt c.prehFf j)) &&
    (s.portSeams p).all (fun k => bitAt c.prehSeams k)

/-- R107: at a COR boundary of a port in rehearsal: its strips are counted, and an accepted rehearsal takes effect at each
head's next boundary, this one included. -/
def State.prehBoundary (s : State) (h : Nat) : State :=
  let p := portOf h
  if s.bit F.CAM_STATUS_PREH p then
    let c := s.camPort p
    let s := if h % 2 == 0 then s.setCamPort p { c with prehStrips := c.prehStrips + 1 } else s
    if (s.camPort p).swap == 0 && s.prehAccepted p then
      s.setCamPort p { s.camPort p with swap := 2 ^ s.portHeads p - 1 }
    else s
  else s

/-- R22, R23: boundary line `n` enters a stage for head `h`. -/
def State.stageBoundary (s : State) (x : Stage) (h : Nat) (n : LineNo) : State :=
  let s := s.noteCross x h n
  match x with
  | .cor =>
    let s := (s.prehBoundary h).corLatch h
    if (s.corHead h).held then s else s.corTurn h
  | .awf => s.awfBoundary h n
  | .seg => s.segBoundary h n
  | .arc => s.arcBoundary h n
  | .sti => s.stiBoundary h n

/-- The boundary of line `n` at a stage, when the line is one and has not entered it yet. -/
def State.crossIf (s : State) (x : Stage) (h : Nat) (n : LineNo) : State :=
  if s.due x h n then s.stageBoundary x h n else s

/-! ### The stages -/

/-- R22, R112: an output line of AWF reaches stitching, segmentation and the archive. -/
def State.lineOut (s : State) (h : Nat) (o : OutLine) (faults : List (Nat × Bool)) : State :=
  let s := ((s.crossIf .sti h o.line).crossIf .seg h o.line).crossIf .arc h o.line
  let r := s.segLine h o
  (r.1.stiLine h r.2).arcLine h r.2 faults

/-- A line that leaves COR takes a LINE_MALFORMED GAP: it is replaced or padded (R95, R100), or no pixel of a colour line
could be formed (R126). A line of R139 takes none. -/
def lineMalf (l : CorLine) (width : Nat) (px : List Pix) : Bool :=
  !l.blank && (l.raw.replaced || decide (l.raw.valid < width) || px.all (·.inv))

/-- Steps 6 to 8 of R111 and what follows: a line leaves COR with its neighbour lines. -/
def State.corOut (s : State) (h : Nat) (l : CorLine) (up dn : Option CorLine) (faults : List (Nat × Bool)) : State :=
  let n := l.raw.line
  let px := s.packLine h l (up.filter (fun x => x.raw.line + 1 == n)) (dn.filter (fun x => x.raw.line == n + 1))
  let s := (s.count .COR_REPLACED_CNT 0 (px.countP (·.repl))).count .COR_CLIP_CNT 0 (px.countP (·.clip))
  let s := (s.statLine h l px).ffLine h l px
  let malf := lineMalf l (s.headPixels h) px
  let s := (s.gapIf malf h .lineMalformed 0 n).gapIf l.stale h .staleCal 0 n
  let s := (s.awfLost h n).crossIf .awf h n
  let r := s.awfIn h ⟨n, l.raw.start, px, malf, l.stale⟩
  match r.2 with
  | none => r.1
  | some o => r.1.lineOut h o faults

/-- R123, R504: the line of a colour head that waits for its look-ahead leaves without one. -/
def State.corFlush (s : State) (h : Nat) (faults : List (Nat × Bool)) : State :=
  let c := s.corHead h
  match c.held, c.last with
  | true, l :: r =>
    ((s.setCorHead h { c with held := false }).corOut h l r.head? none faults).corTurn h
  | _, _ => s

/-- R18, R19: the lane-cycles of a line: retired pixels, and the wasted ones with the line overhead. -/
def State.laneCycles (s : State) (h : Nat) (raw : RawLine) : State :=
  let p := s.headPixels h
  let kept := countBelow p (fun c => s.owns h c && decide (c < raw.valid))
  let q := 4 * portOf h
  let s := s.quadLine h
  let s := (s.pmcCount (0x100 + q) kept).pmcCount 0x140 kept
  (s.pmcCount (0x101 + q) (p - kept + 32)).pmcCount 0x141 (p - kept + 32)

/-- R510: the first line that a head inspects names the span that was not inspected before it. -/
def State.coverage (s : State) (h : Nat) (n : LineNo) : State :=
  if s.mode == .perform && bitAt s.glb.gapOwed h && atOrAfter n s.glb.performFrom then
    let s := { s with glb := { s.glb with gapOwed := s.glb.gapOwed - 2 ^ h } }
    let from_ := s.glb.gapFrom.getD h (0, 0, .linkLoss)
    let l0 := from_.1
    let y0 := from_.2.1
    let y1 := s.lineY h n
    let named := match ((s.camPort (portOf h)).heads.getD (h % 2) CamHead.fresh).lossBefore with
      | some (a, b) => b == n && atOrAfter l0 a
      | none => false
    if named || decide (sdiff y1 y0 ≤ 0) then s
    else s.formGap h from_.2.2 l0 (if after n l0 then n - 1 else l0) y0 (y1 - 1)
  else s

/-- R18: the line at the front of a port's FIFO goes through the pixel engine. `faults` is what the archive's verifier
finds (R329). -/
def State.deliver (s : State) (p : Nat) (faults : List (Nat × Bool)) : State :=
  let c := s.camPort p
  match c.fifo with
  | [] => s
  | (j, raw) :: rest =>
    let h := headOf p j
    let x := c.heads.getD j CamHead.fresh
    let s := s.setCamPort p { c with
      fifo := rest
      heads := c.heads.set j { x with first := raw.line + 1 } }
    let s := (s.coverage h raw.line).laneCycles h raw
    let s := s.crossIf .cor h raw.line
    let ch := s.corHead h
    let l := s.correct h raw ch.last ch.writing
    let enter (t : State) (held : Bool) : State :=
      t.setCorHead h { t.corHead h with
        last := (l :: (t.corHead h).last).take 3
        held := held }
    if s.headColour h then
      let s := match ch.held, ch.last with
        | true, m :: r => s.corOut h m r.head? (some l) faults
        | _, _ => s
      enter (s.corTurn h) true
    else enter (s.corOut h l none none faults) false

end Sys2Proof.Machine
end

