-- ==== Sys2Proof/Machine/CamOps.lean ====
section
/-! DEFINITION. Machine/CamOps.lean: the camera ports (spec/03): states, faults, the back-channel, the descriptor, line
checks, and stale cameras. -/

namespace Sys2Proof.Machine

/-- CAM_STATUS.STATE of a port: 0 OFF, 1 ALIGN, 2 DESC, 3 READY, 4 RUN, 5 FAULT (R101). -/
def State.camSt (s : State) (p : Nat) : Nat := s.fld F.CAM_STATUS_STATE p

/-- Store the state of a port. -/
def State.putCamSt (s : State) (p st : Nat) : State := s.put F.CAM_STATUS_STATE p st

/-- Head `j` of a port as the port keeps it. -/
def State.camHead (s : State) (p j : Nat) : CamHead := (s.camPort p).heads.getD j CamHead.fresh

/-- Change what a port keeps of one of its heads. -/
def State.setCamHead (s : State) (p j : Nat) (x : CamHead) : State :=
  let c := s.camPort p
  s.setCamPort p { c with heads := c.heads.set j x }

/-- CAM_LAST_LINEh: the last line of a head that the port accepted or replaced (R95). -/
def State.lastLine (s : State) (p j : Nat) : LineNo :=
  BitVec.ofNat 40 (if j == 0 then s.getPair .CAM_LAST_LINE0_L .CAM_LAST_LINE0_H p
    else s.getPair .CAM_LAST_LINE1_L .CAM_LAST_LINE1_H p)

/-- Store CAM_LAST_LINEh. -/
def State.putLastLine (s : State) (p j : Nat) (n : LineNo) : State :=
  if j == 0 then s.setPair .CAM_LAST_LINE0_L .CAM_LAST_LINE0_H p 8 n.toNat
  else s.setPair .CAM_LAST_LINE1_L .CAM_LAST_LINE1_H p 8 n.toNat

/-! ### States -/

/-- R101: a port goes to ALIGN: its markers and its descriptor answer start anew. -/
def State.camAlign (s : State) (p : Nat) : State :=
  let s := forBelow 4 (fun i t => t.setLane (4 * p + i) { t.lane (4 * p + i) with
    marker := none
    missed := 0 }) s
  let c := s.camPort p
  (s.setCamPort p { c with
    descNext := 0
    desc := []
    attempts := 0
    cueQ := [] }).putCamSt p 1

/-- R101: an enabled port leaves OFF, in LOAD from step 7, at STANDBY exit (R508), or in a later mode other than STANDBY
and DARK. -/
def State.camEnable (s : State) (p : Nat) : State :=
  let ok := match s.mode with
    | .load => 7 ≤ s.fld F.GLB_LOAD_STATUS_STEP
    | .standby => s.glb.trans == some .wakeUp
    | .dark => false
    | _ => true
  if ok && !s.pwr.curtain && s.bit F.CAM_CTRL_EN p && s.camSt p == 0 then s.camAlign p else s

/-- R102: work in flight of a port that leaves RUN by a fault, or by CAM_CTRL.EN (notes/assumptions/120): what its heads' next stages do (R100, R138, R163, R230,
R317). -/
def State.camRunLost (s : State) (p : Nat) : State :=
  forBelow (s.portHeads p) (fun j t =>
    let h := headOf p j
    let x := t.camHead p j
    let t := t.setCamHead p j { x with
      prev := none
      missing := []
      linkLoss := some (x.linkLoss.getD (x.first, t.lineY h x.first)) }
    let t := ((t.uncertainHead h).corFlush h []).gapBoundary h 0
    ((((t.awfDiscard h).segStop h).ffAbandon h true).arcEndRow h)) s

/-- R106, R143: a per-camera rehearsal gives up the runs of its heads, an accepted one that has not taken effect too. -/
def State.prehDrop (s : State) (p : Nat) : State :=
  forBelow (s.portHeads p) (fun j t =>
    let h := headOf p j
    let t := if (t.corHead h).run.any (fun r => r.trigger == .camera) then t.ffAbandon h true else t
    if (t.corHead h).run.any (fun r => r.trigger == .camera) then t.ffDrop h else t) s

/-- R108: a per-camera rehearsal ends before it has taken effect: it has failed unless it had been accepted. -/
def State.prehEnd (s : State) (p : Nat) : State :=
  if s.bit F.CAM_STATUS_PREH p then
    let met := (s.camPort p).swap != 0
    let s := (s.prehDrop p).put F.CAM_STATUS_PREH p 0
    let s := s.setCamPort p { s.camPort p with swap := 0 }
    if met then s else (s.count .CAM_PREH_FAIL_CNT p).raise F.CAM_EVENT_PREH_FAIL p
  else s

/-- R101, R102, R536: a port enters FAULT with a class, the class's DETAIL and its event. The callboard takes the first
undelivered line of head 0 (notes/assumptions/121). -/
def State.portFault (s : State) (p : Nat) (c : FaultClass) (detail : Nat) (ev : Fld) : State :=
  let st := s.camSt p
  if st == 0 || st == 5 then s
  else
    let first := (s.camHead p 0).first
    let s := (if st == 4 then s.camRunLost p else s).prehEnd p
    let x := s.camPort p
    let s := s.setCamPort p { x with
      fifo := []
      launches := []
      cueQ := [] }
    let s := (s.putCamSt p 5).put F.CAM_STATUS_FCLASS p c.code
    let s := (s.raise F.CAM_EVENT_FAULT p).raise ev p
    s.bookCross.fault c p detail (if st == 4 then first.toNat else 0)

/-- R73, R76: a lane of a camera port is lost, or does not align. -/
def State.camLaneLost (s : State) (p : Nat) : State :=
  s.portFault p .link (s.fld F.LNE_LAST_CAUSE) F.CAM_EVENT_LOCK_LOST

/-- R101: a port goes to OFF: open lines are dropped without a GAP, and open records of its heads close (R100, R164). Its
heads' previous lines are forgotten (notes/assumptions/122). -/
def State.camOff (s : State) (p : Nat) : State :=
  let run := s.camSt p == 4
  let s := forBelow (s.portHeads p) (fun j t =>
    let h := headOf p j
    let t := t.setCamHead p j { t.camHead p j with
      prev := none
      missing := [] }
    let t := t.closeGaps (fun o => o.head == h)
    if run then (t.ffAbandon h true).arcEndRow h else t) s
  let s := s.prehEnd p
  let x := s.camPort p
  ((s.setCamPort p { x with
    fifo := []
    launches := []
    cueQ := []
    backQ := [] }).putCamSt p 0).bookCross

/-- R8, R101: CAM_CTRL.EN is cleared. In RUN the span that follows is named as after a fault (notes/assumptions/120). -/
def State.camDisable (s : State) (p : Nat) : State := (if s.camSt p == 4 then s.camRunLost p else s).camOff p

/-- R98, R102: a port enters RUN at cue `n`. CAM_MALF_RUN and the heads' previous lines start anew
(notes/assumptions/122). -/
def State.camRun (s : State) (p : Nat) (n : LineNo) : State :=
  let s := (s.putCamSt p 4).raise F.CAM_EVENT_RUN_ENTER p
  let s := s.put F.CAM_MALF_RUN_RUN p 0
  let s := (s.putLastLine p 0 (n - 1)).putLastLine p 1 (n - 1)
  let s := s.setCamPort p { s.camPort p with runAt := n }
  let s := s.setCorPort p { s.corPort p with ran := 0 }
  forBelow (s.portHeads p) (fun j t =>
    let h := headOf p j
    let x := t.camHead p j
    let t := match x.linkLoss with
      | none => t
      | some (l0, y0) => t.formGap h .linkLoss l0 (n - 1) y0 (t.lineY h n - 1)
    let t := t.setCamHead p j { x with
      prev := none
      eoeOfs := 0
      first := n
      linkLoss := none
      lossBefore := (x.linkLoss.map (fun l => (l.1, n))).orElse (fun _ => x.lossBefore)
      missing := [] }
    let t := t.setCorHead h { t.corHead h with closed := 0 }
    let t := t.setAwfHead h { t.awfHead h with fresh := true }
    let t := t.setSegHead h { t.segHead h with fresh := true }
    (t.arcRunEntry h).stiRunEntry h) s

/-! ### The back-channel -/

/-- R82: a cue that has just been issued enters the back-channel queue of every port in READY or RUN. R506: strips are
counted at their boundary's cue. -/
def State.cueToPorts (s : State) : State :=
  let n := s.pos.nextLine - 1
  let s := forBelow 16 (fun p t => t.backDrain p) s
  let s := forBelow 32 (fun h t =>
    let x := t.camHead (portOf h) (h % 2)
    match x.linkLoss with
    | some (l0, _) => if l0 == n then t.setCamHead (portOf h) (h % 2) { x with linkLoss := some (n, t.lineY h n) } else t
    | none => t) s
  let s := if s.mode == .rehearse && s.boundaryLine n then
      { s with glb := { s.glb with rehStrips := s.glb.rehStrips + 1 } }
    else s
  forBelow 16 (fun p t =>
    if t.camSt p == 3 || t.camSt p == 4 then
      let c := t.camPort p
      t.setCamPort p { c with cueQ := c.cueQ ++ [n] }
    else t) s

/-- R82, R85, R98: the cue at the front of a port's queue is launched as a CUE block in this slot. -/
def State.cueLaunch (s : State) (p : Nat) : State :=
  let s := s.backDrain p
  let c := s.camPort p
  match c.cueQ with
  | [] => s
  | n :: r =>
    let s := s.setCamPort p { c with cueQ := r }
    if s.camSt p == 3 || s.camSt p == 4 then
      let sid := s.sidNow p
      let s := s.emit (.camBlock p 0x78 (cuePayload n sid))
      let s := s.put F.CAM_SID_ISSUED p sid
      let c := s.camPort p
      let s := s.setCamPort p { c with
        launches := ⟨n, s.tick, sid, s.clk⟩ :: c.launches
        slotAt := s.clk
        setCue := if c.sids.isEmpty then none else some (c.setCue.getD n) }
      if s.camSt p == 3 && s.boundaryLine n then s.camRun p n else s
    else s

/-- R83, R91: the port asks for the descriptor: a DREQ takes the next slot, or waits behind SET blocks. -/
def State.descRequest (s : State) (p : Nat) : State :=
  let s := s.backDrain p
  let c := s.camPort p
  let s := s.setCamPort p { c with
    descNext := 0
    desc := [] }
  if c.backQ.isEmpty then s.emit (.camBlock p 0xAA 0) else s.backQueue p [⟨0xAA, 0, none⟩]

/-- R101: all four lanes are locked and deskewed: the port goes to DESC. -/
def State.camToDesc (s : State) (p : Nat) : State :=
  let c := s.camPort p
  ((s.setCamPort p { c with attempts := 0 }).putCamSt p 2).descRequest p

/-! ### The descriptor -/

/-- R91: an attempt fails: another request, or the fault after the third. -/
def State.descFail (s : State) (p : Nat) : State :=
  let s := s.count .CAM_DESC_ERR_CNT p
  let c := s.camPort p
  let s := s.setCamPort p { c with attempts := c.attempts + 1 }
  if 3 ≤ c.attempts + 1 then s.portFault p .camera 1 F.CAM_EVENT_DESC_ERR else s.descRequest p

/-- R91: the checks on a complete answer. NHEADS is judged by R92; DEPTH1 is in use when it is 2 or more
(notes/assumptions/115). -/
def descGood (d : List Nat) : Bool :=
  let w (i : Nat) : Nat := d.getD i 0
  let n := bitsOf (w 3) 46 2
  let two := 2 ≤ n
  let crc := crc32 ((d.take 6).flatMap (leBytes 6))
  bitsOf (w 6) 16 32 == crc && bitsOf (w 6) 0 16 == 0 && bitsOf (w 0) 8 8 == 1 && bitsOf (w 0) 0 8 == 0 &&
    bitsOf (w 2) 32 16 == 0 && bitsOf (w 3) 42 4 ≤ 4 && (!two || bitsOf (w 3) 38 4 ≤ 4) &&
    bitsOf (w 3) 32 4 == 0 && bitsOf (w 4) 0 20 == 0 && bitsOf (w 5) 0 24 == 0

/-- The registers of an accepted descriptor. -/
def State.descRegs (s : State) (p : Nat) (d : List Nat) : State :=
  let w (i : Nat) : Nat := d.getD i 0
  let s := s.wr .CAM_DESC_ID p (BitVec.ofNat 32 (bitsOf (w 0) 16 32))
  let serial := bitsOf (w 2) 0 16 * 2 ^ 48 + w 1 % 2 ^ 48
  let s := (s.wr .CAM_SERIAL_LO p (BitVec.ofNat 32 serial)).wr .CAM_SERIAL_HI p (BitVec.ofNat 32 (serial / 2 ^ 32))
  let g := w 3
  let s := (s.put F.CAM_DESC_GEOM_NHEADS p (bitsOf g 46 2)).put F.CAM_DESC_GEOM_REPAIR p (bitsOf (w 2) 16 16)
  let s := (s.put F.CAM_DESC_GEOM_DEPTH0 p (bitsOf g 42 4)).put F.CAM_DESC_GEOM_DEPTH1 p (bitsOf g 38 4)
  let s := (s.put F.CAM_DESC_GEOM_MOSAIC0 p (bitsOf g 37 1)).put F.CAM_DESC_GEOM_MOSAIC1 p (bitsOf g 36 1)
  let s := (s.put F.CAM_DESC_PIXELS_PIX0 p (bitsOf g 0 16)).put F.CAM_DESC_PIXELS_PIX1 p (bitsOf g 16 16)
  let s := (s.put F.CAM_DESC_TIMING_SDELAY p (bitsOf (w 4) 40 8)).put F.CAM_DESC_TIMING_MAXRATE p (bitsOf (w 4) 20 20)
  s.put F.CAM_STATUS_DESC_VALID p 1

/-- R92: an accepted descriptor matches the port's configuration. -/
def State.descMatches (s : State) (p : Nat) : Bool :=
  s.fld F.CAM_DESC_GEOM_NHEADS p == s.fld F.CAM_GEOM_NHEADS p &&
  s.fld F.CAM_DESC_GEOM_DEPTH0 p == s.fld F.CAM_GEOM_DEPTH0 p && s.fld F.CAM_DESC_GEOM_DEPTH1 p == s.fld F.CAM_GEOM_DEPTH1 p &&
  s.fld F.CAM_DESC_GEOM_MOSAIC0 p == s.fld F.CAM_GEOM_MOSAIC0 p &&
  s.fld F.CAM_DESC_GEOM_MOSAIC1 p == s.fld F.CAM_GEOM_MOSAIC1 p &&
  s.rd .CAM_DESC_PIXELS p == s.rd .CAM_PIXELS p &&
  decide (Config.declaredRate p ≤ s.fld F.CAM_DESC_TIMING_MAXRATE p)

/-- R93: one head's temperature of an index-5 payload. -/
def State.takeTemp (s : State) (p j t : Nat) : State :=
  let v := signedOf 12 t
  if -640 ≤ v && v ≤ 2000 then
    if j == 0 then (s.put F.CAM_TEMP_TEMP0 p t).put F.CAM_TEMP_VALID0 p 1
    else (s.put F.CAM_TEMP_TEMP1 p t).put F.CAM_TEMP_VALID1 p 1
  else s.count .CAM_DESC_ERR_CNT p

/-- R93, R142: a temperature report of the port's heads. -/
def State.tempReport (s : State) (p payload : Nat) : State :=
  let s := s.takeTemp p 0 (bitsOf payload 36 12)
  let s := if s.portHeads p == 2 then s.takeTemp p 1 (bitsOf payload 24 12) else s
  forBelow (s.portHeads p) (fun j t => t.ffTempCheck (headOf p j)) s

/-- R104: a camera is stale, and its heads' correction set with it. -/
def State.camStale (s : State) (p : Nat) : State :=
  let s := (s.put F.CAM_STATUS_STALE p 1).raise F.CAM_EVENT_STALE_SET p
  let s := forBelow (s.portHeads p) (fun j t => t.putB (headBit .COR_STALE (headOf p j)) 0 true) s
  s.calibNote (fun c => s.calibCor c)

/-- R104: a port that reaches READY is checked against its calibration. A camera that matches leaves STALE as it stands
(notes/assumptions/123). -/
def State.staleCheck (s : State) (p : Nat) : State :=
  let same := s.rd .CAM_SERIAL_LO p == s.rd .CAM_CAL_SERIAL_LO p && s.rd .CAM_SERIAL_HI p == s.rd .CAM_CAL_SERIAL_HI p &&
    s.fld F.CAM_DESC_GEOM_REPAIR p == s.fld F.CAM_CAL_REPAIR_REPAIR p
  if same then s else s.camStale p

/-- R101, R104, R132, R508: a matching descriptor takes the port to READY; the exposure controller's set goes to the
camera. -/
def State.camReady (s : State) (p : Nat) : State :=
  let s := (s.staleCheck p).putCamSt p 3
  if (s.camPort p).resend then
    (s.setCamPort p { s.camPort p with resend := false }).commitExposure p (s.sidNext p) (s.fld F.COR_EXP_STATE_EXPOSURE p)
  else s.initialSet p

/-- R91, R92: a complete answer. -/
def State.descComplete (s : State) (p : Nat) (d : List Nat) : State :=
  if descGood d then
    let s := (s.descRegs p d).tempReport p (d.getD 5 0)
    if s.descMatches p then (s.put F.CAM_STATUS_MISMATCH p 0).camReady p
    else (s.put F.CAM_STATUS_MISMATCH p 1).portFault p .camera 2 F.CAM_EVENT_MISMATCH
  else s.descFail p

/-- R90, R91, R93: a DESC block. -/
def State.descBlock (s : State) (p idx payload : Nat) : State :=
  let c := s.camPort p
  if s.camSt p == 2 && (c.descNext != 0 || idx == 0) then
    if idx == c.descNext then
      let d := c.desc ++ [payload % 2 ^ 48]
      if idx == 6 then
        (s.setCamPort p { c with
          descNext := 0
          desc := [] }).descComplete p d
      else s.setCamPort p { c with
        descNext := idx + 1
        desc := d }
    else s.descFail p
  else if idx == 5 && 2 ≤ s.camSt p && s.camSt p ≤ 4 then s.tempReport p payload
  else s

/-! ### Lines -/

/-- R96: `n` malformed lines: at 16 in a row the port faults. -/
def State.malformed (s : State) (p : Nat) : State :=
  let r := s.fld F.CAM_MALF_RUN_RUN p + 1
  let s := s.put F.CAM_MALF_RUN_RUN p (min r 31)
  if 16 ≤ r then s.portFault p .camera 3 F.CAM_EVENT_MALF_FAULT else s

/-- R81: the start instant of a line. The spec gives none for a line of which no cue was launched: a free value
(notes/assumptions/3). -/
def State.startInstant (s : State) (p : Nat) (n : LineNo) (eoe : Nat) : Tick × State :=
  match (s.camPort p).launches.find? (fun l => l.line == n) with
  | some l => (l.time + BitVec.ofNat 64 (s.fld F.CAM_TIMING_CABLE_DELAY p * 65536 + eoe * 4096), s)
  | none => s.drawFree

/-- Launches that both heads have completed are forgotten. -/
def State.pruneLaunches (s : State) (p : Nat) : State :=
  let c := s.camPort p
  let keep (l : Launch) : Bool := (List.range (s.portHeads p)).any (fun j => after l.line (s.lastLine p j))
  s.setCamPort p { c with launches := c.launches.filter keep }

/-- R18, R20: a line enters the port's FIFO, or is discarded whole when the FIFO is full. -/
def State.pushLine (s : State) (p j : Nat) (l : RawLine) : State :=
  let s := s.putLastLine p j l.line
  let s := s.setCamHead p j { s.camHead p j with prev := some l.pixels }
  let s := s.pruneLaunches p
  let c := s.camPort p
  if c.fifo.length < 8 then
    (s.setCamPort p { c with fifo := c.fifo ++ [(j, l)] }).gapClean (headOf p j) .faultDiscard 0
  else (s.count .CAM_FIFO_OVF_CNT p).gapLine (headOf p j) .faultDiscard 0 l.line

/-- R95, R97, R99: line `n` of a head is replaced by the previous line, all pixels INVALID. -/
def State.replaceLine (s : State) (p j : Nat) (n : LineNo) : State :=
  let x := s.camHead p j
  let k := s.headPixels (headOf p j)
  let r := s.startInstant p n x.eoeOfs
  (r.2.pushLine p j ⟨n, r.1, 0, false, 0, x.prev.getD (List.replicate k 0), 0, true⟩).malformed p

/-- R94, R99: lines that an ERR block has named are replaced as their turn comes. -/
def State.namedMissing (s : State) (p j fuel : Nat) : State :=
  match fuel with
  | 0 => s
  | k + 1 =>
    let n := s.lastLine p j + 1
    let x := s.camHead p j
    if s.camSt p == 4 && x.missing.contains n then
      let s := s.setCamHead p j { x with missing := x.missing.erase n }
      ((s.count .CAM_MISSING_CNT p).replaceLine p j n).namedMissing p j k
    else s

/-- R95: the lines that a frame skips are replaced one by one, while the port stays in RUN; they have been counted. -/
def State.fillSkip (s : State) (p j : Nat) (upTo : LineNo) (fuel : Nat) : State :=
  match fuel with
  | 0 => s
  | k + 1 =>
    let n := s.lastLine p j + 1
    if s.camSt p == 4 && after upTo n then
      (s.replaceLine p j n).fillSkip p j upTo k
    else s

/-- R88, R89: what a completed line's echo does: the echoed identifiers, and the settings timeout. -/
def State.echo (s : State) (p j sid : Nat) (line : LineNo) : State :=
  let s := if j == 0 then s.put F.CAM_SID_ECHO0 p sid else s.put F.CAM_SID_ECHO1 p sid
  let cp := s.corPort p
  let es := cp.echoed.getD j []
  let s := s.setCorPort p { cp with echoed := cp.echoed.set j ((sid :: es.filter (· != sid)).take 8) }
  let c := s.camPort p
  match c.setCue with
  | none => s
  | some n =>
    let limit := n + BitVec.ofNat 40 (s.fld F.CAM_DESC_TIMING_SDELAY p) + 8
    let s := if sid == s.sidNow p && !(after line limit) then
        s.setCamHead p j { s.camHead p j with echoed := true } else s
    let c := s.camPort p
    if after line limit && !c.setTmo && !(c.heads.any (·.echoed)) then
      ((s.setCamPort p { c with setTmo := true }).count .CAM_SET_TMO_CNT p).raise F.CAM_EVENT_SET_TMO p |>.expTimeout p
    else s

/-- R79: the pixels of the data blocks. -/
def unpackPixels (d n : Nat) (data : List DWord) : List Nat :=
  let all := ofLeBytes (data.flatMap (fun w => leBytes 8 w.toNat))
  (List.range n).map (fun c => bitsOf all (d * c) d)

/-- R79: the received pixel count. -/
def pixelCount (d bits : Nat) (data : List DWord) : Nat :=
  if data.isEmpty then 0
  else (64 * (data.length - 1) + (if bits % 256 == 0 then 64 else min (bits % 256) 64)) / d

/-- R80: a frame's CRC matches. -/
def frameCrcOk (hdr : DWord) (data : List DWord) (crc : Word) : Bool :=
  crc32 ((hdr :: data).flatMap (fun w => leBytes 8 w.toNat)) == crc.toNat

/-- R95: the frame of the line that the port expects next, with a good CRC: it is accepted, padded or cut. -/
def State.acceptLine (s : State) (p j mrow sid : Nat) (line : LineNo) (hdr : DWord) (data : List DWord) (bits : Nat) :
    State :=
  let h := headOf p j
  let k := s.headPixels h
  let d := 8 + 2 * min (s.headDepth h) 4
  let got := pixelCount d bits data
  let x := s.camHead p j
  let prev := x.prev.getD (List.replicate k 0)
  let px := unpackPixels d (min got k) data
  let eoe := bitsOf hdr.toNat 32 32
  let r := s.startInstant p line eoe
  let sids := (s.camPort p).sids
  let known := sids.contains sid || (sids.isEmpty && sid == 0)
  let s := if known then r.2 else r.2.count .CAM_SID_UNK_CNT p
  let s := if got == k then s.setCamHead p j { s.camHead p j with eoeOfs := eoe } else s
  let s := s.pushLine p j ⟨line, r.1, sid, known, mrow, px ++ prev.drop px.length, min got k, false⟩
  let s := s.echo p j sid line
  if got < k then (s.count .CAM_SHORT_CNT p).malformed p
  else if k < got then (s.count .CAM_LONG_CNT p).malformed p
  else s.put F.CAM_MALF_RUN_RUN p 0

/-- R95, R96, R98: a line frame completes with its EOL. Lines are not delivered before RUN, but what they echo counts
(R88); a frame in READY is not counted (notes/assumptions/124). -/
def State.lineFrame (s : State) (p j mrow sid : Nat) (line : LineNo) (hdr : DWord) (data : List DWord) (bits : Nat)
    (crc : Word) : State :=
  let s := s.backDrain p
  if s.portHeads p ≤ j then s
  else if s.camSt p == 3 then (if frameCrcOk hdr data crc then s.echo p j sid line else s)
  else if s.camSt p != 4 then s
  else
    let last := s.lastLine p j
    if !frameCrcOk hdr data crc then
      let s := s.count .CAM_CRC_CNT p
      let s := if line == last + 1 then s.replaceLine p j line else s.malformed p
      s.namedMissing p j 16
    else if !(after line last) then
      if after (s.camPort p).runAt line then s.echo p j sid line else (s.count .CAM_ORDER_CNT p).malformed p
    else
      let s := (s.count .CAM_MISSING_CNT p (sdiff line last - 1).toNat).fillSkip p j line 32
      if s.camSt p == 4 then (s.acceptLine p j mrow sid line hdr data bits).namedMissing p j 16 else s

/-- R99: the line that a head expects next has not completed within LINE_TMO, in units of 100 ns, of its cue's launch. -/
def State.lineTimeout (s : State) (p j : Nat) : State :=
  let n := s.lastLine p j + 1
  if s.camSt p == 4 && j < s.portHeads p && (s.camPort p).launches.any (fun l => l.line == n &&
      decide (l.at_ + 100 * atLeast1 (s.fld F.CAM_TIMING_LINE_TMO p) < s.clk)) then
    ((s.count .CAM_MISSING_CNT p).replaceLine p j n).namedMissing p j 16
  else s

/-- R94: an ERR block; the blocks of a port can be read once its lanes are deskewed, from DESC on. -/
def State.errBlock (s : State) (p code j : Nat) (line : LineNo) : State :=
  if s.camSt p < 2 then s
  else
    let s := s.count .CAM_CAMERR_CNT p
    let s := (s.put F.CAM_LAST_ERR_CODE p code).put F.CAM_LAST_ERR_HEAD p j
    let s := s.put F.CAM_LAST_ERR_LINE p (line.toNat % 2 ^ 23)
    match code with
    | 1 => s.portFault p .camera 4 F.CAM_EVENT_MALF_FAULT
    | 2 => s.raise F.CAM_EVENT_CAM_WARN p
    | 4 => s.raise F.CAM_EVENT_CAM_WARN p
    | 3 | 5 =>
      if s.camSt p == 4 && j < s.portHeads p && after line (s.lastLine p j) then
        let x := s.camHead p j
        (s.setCamHead p j { x with missing := x.missing ++ [line] }).namedMissing p j 16
      else s
    | _ => s

/-! ### Stale cameras -/

/-- R106: a rehearsal of one port starts; R143: it takes the place of its heads' temperature runs. -/
def State.prehStart (s : State) (p : Nat) : State :=
  let st := s.camSt p
  if s.mode == .perform && (st == 3 || st == 4) && s.bit F.CAM_STATUS_STALE p && !s.bit F.CAM_STATUS_PREH p then
    let n := s.sti.rehearsal + 1
    let s := { s with sti := { s.sti with rehearsal := n } }
    let s := forBelow (s.portHeads p) (fun j t =>
      let h := headOf p j
      (t.ffAbandon h false).setCorHead h { (t.ffAbandon h false).corHead h with armed := none }) s
    (s.setCamPort p { s.camPort p with
      prehStrips := 0
      prehFrom := n
      prehFf := 0
      prehSeams := 0 }).put F.CAM_STATUS_PREH p 1
  else s

/-- R108: a port's rehearsal ends without acceptance. -/
def State.prehFail (s : State) (p : Nat) : State := if (s.camPort p).swap == 0 then s.prehEnd p else s

end Sys2Proof.Machine
end

