-- ==== Sys2Proof/Machine/FabMap.lean ====
section
/-! DEFINITION. Machine/FabMap.lean: what a device computes from its map of the fabric (spec/15 R454, R457, R459, R461 to
R464, spec/17 R513): hop counts, routes, the tree, the cross-web neighbours, the sink and the link hash. -/

namespace Sys2Proof.Machine

/-- The addresses one link away from `a`. -/
def nbrsOf (links : List MapLink) (a : FabAddr) : List FabAddr :=
  links.flatMap (fun l => if l.a == a then [l.b] else if l.b == a then [l.a] else [])

/-- Breadth-first hop counts: `found` holds addresses with their hops, `front` those found last. -/
def hopsStep (links : List MapLink) (n : Nat) (d : Nat) (found : List (FabAddr × Nat)) (front : List FabAddr) :
    List (FabAddr × Nat) :=
  match n with
  | 0 => found
  | k + 1 =>
    let new := (front.flatMap (nbrsOf links)).foldl
      (fun acc x => if found.any (fun e => e.1 == x) || acc.contains x then acc else acc ++ [x]) []
    if new.isEmpty then found
    else hopsStep links k (d + 1) (found ++ new.map (fun x => (x, d + 1))) new

/-- Hops from `a` to every address that can be reached. -/
def hopsFrom (links : List MapLink) (a : FabAddr) : List (FabAddr × Nat) :=
  hopsStep links (2 * links.length + 1) 0 [(a, 0)] [a]

/-- Hops from `a` to `b`, if there is a path. -/
def hopsTo (links : List MapLink) (a b : FabAddr) : Option Nat :=
  ((hopsFrom links a).find? (fun e => e.1 == b)).map (·.2)

/-- The neighbour of `a` on its port `p`, with the neighbour's port. -/
def linkAt (links : List MapLink) (a : FabAddr) (p : Nat) : Option (FabAddr × Nat) :=
  links.findSome? (fun l =>
    if l.a == a && l.pa == p then some (l.b, l.pb)
    else if l.b == a && l.pb == p then some (l.a, l.pa) else none)

/-- R457: the output port that starts a path with the fewest hops; a tie goes to the lower port number. -/
def routeFor (links : List MapLink) (own d : FabAddr) : Option Nat :=
  ((List.range 6).foldl (fun (best : Option (Nat × Nat)) p =>
    match linkAt links own p with
    | none => best
    | some (n, _) =>
      match hopsTo links n d, best with
      | none, _ => best
      | some k, none => some (k, p)
      | some k, some (j, q) => if k < j then some (k, p) else some (j, q)) none).map (·.2)

/-- R457: the tree parent of `a`: its neighbour with the fewest hops to the root, the lower address on a tie. -/
def treeParent (links : List MapLink) (root a : FabAddr) : Option FabAddr :=
  if a == root then none
  else ((nbrsOf links a).foldl (fun (best : Option (Nat × FabAddr)) n =>
    match hopsTo links n root, best with
    | none, _ => best
    | some k, none => some (k, n)
    | some k, some (j, m) => if k < j || (k == j && n.toNat < m.toNat) then some (k, n) else some (j, m)) none).map (·.2)

/-- The addresses on the tree path from `a` to the root (R459). -/
def treePathOf (links : List MapLink) (root a : FabAddr) (n : Nat) : List FabAddr :=
  match n with
  | 0 => []
  | k + 1 =>
    match treeParent links root a with
    | none => [a]
    | some b => a :: treePathOf links root b k

/-- The lowest port of `a` that leads to `b`. -/
def portTo (links : List MapLink) (a b : FabAddr) : Option Nat :=
  (List.range 6).find? (fun p => (linkAt links a p).map (·.1) == some b)

/-- R457, R463: port `p` of `a` leads to a tree child: its far end is the port by which that neighbour reaches `a` as its
tree parent. -/
def leadsToChild (links : List MapLink) (root a : FabAddr) (p : Nat) : Bool :=
  match linkAt links a p with
  | none => false
  | some (n, q) => treeParent links root n == some a && portTo links n a == some q

/-- X0 of a mapped device. -/
def x0Of (devs : List MapDev) (a : FabAddr) : BitVec 40 :=
  ((devs.find? (fun d => d.addr == a)).map (·.x0)).getD 0

/-- R513: the 12 octets of one link: the end with the smaller X0 first, the lower port on a tie. -/
def linkOctets (devs : List MapDev) (l : MapLink) : List Byte :=
  let xa := x0Of devs l.a
  let xb := x0Of devs l.b
  let endA := leBytes 5 xa.toNat ++ leBytes 1 l.pa
  let endB := leBytes 5 xb.toNat ++ leBytes 1 l.pb
  if xa.toInt < xb.toInt || (xa == xb && l.pa ≤ l.pb) then endA ++ endB else endB ++ endA

/-- R462, R513: the link hash: the sum of one CRC per link, modulo 2^32. -/
def linkHash (devs : List MapDev) (links : List MapLink) : Word :=
  BitVec.ofNat 32 (sumN (links.map (fun l => crc32 (linkOctets devs l))))

/-- The cross-web neighbours (FAB_NBR): the devices whose X0 is next below and next above. -/
def crossNbrs (devs : List MapDev) (own : FabAddr) : Option FabAddr × Option FabAddr :=
  let x := (x0Of devs own).toInt
  let left := devs.foldl (fun (best : Option MapDev) d =>
    if d.addr != own && d.x0.toInt < x then
      match best with
      | none => some d
      | some b => if b.x0.toInt < d.x0.toInt then some d else some b
    else best) none
  let right := devs.foldl (fun (best : Option MapDev) d =>
    if d.addr != own && x < d.x0.toInt then
      match best with
      | none => some d
      | some b => if d.x0.toInt < b.x0.toInt then some d else some b
    else best) none
  (left.map (·.addr), right.map (·.addr))

/-- R464: at least one host interface of this device is up and it may act as a sink. -/
def State.isSink (s : State) : Bool := s.bit F.FAB_CTRL_SINK_EL && s.fld F.HST_STATUS_LINK != 0

/-- R464: the sink of this device and its hops: itself when it is a sink; otherwise the sink with the fewest hops, the
lower address on a tie. -/
def State.chooseSink (s : State) : FabAddr × Nat :=
  if s.isSink then (s.fabAddr, 0)
  else
    match s.fab.devs.foldl (fun (best : Option (Nat × FabAddr)) d =>
      if d.sinkEl && d.addr != s.fabAddr then
        match hopsTo s.fab.links s.fabAddr d.addr, best with
        | none, _ => best
        | some k, none => some (k, d.addr)
        | some k, some (j, a) => if k < j || (k == j && d.addr.toNat < a.toNat) then some (k, d.addr) else some (j, a)
      else best) none with
    | none => (0, 0)
    | some (k, a) => (a, k)

/-- R465: with RELAY, the job-stream records that waited for a sink leave for it in order. -/
def State.flushJobs (s : State) : State :=
  if s.relaysJobs then
    let t := { s with hst := { s.hst with jobQ := [], jobWait := [] } }
    (s.hst.jobQ ++ s.hst.jobWait).foldl (fun u r => u.jobSend r) t
  else s

/-- R465: when another device is the sink, the records held in the host queues leave for it in order. -/
def State.flushToSink (s : State) : State :=
  if s.sink != 0 && s.sink != s.fabAddr then
    let rs := s.hst.cueQ ++ s.hst.routineQ ++ s.hst.bulkQ
    let t := { s with hst := { s.hst with cueQ := [], routineQ := [], bulkQ := [] } }
    rs.foldl (fun u r => u.fabSend ⟨u.sink, classVc r.cls, 0, .record r⟩) t
  else s

/-- R464, R466: the sink is chosen again; a change raises SINK_CHANGE, more than 8 hops raise HOPS_OVER, and records that
waited for a sink leave. -/
def State.updateSink (s : State) : State :=
  let c := s.chooseSink
  let changed := c.1 != s.sink
  let near := s.fld F.FAB_STATUS_SINK_HOPS ≤ 8
  let t := (s.put F.FAB_STATUS_SINK 0 c.1.toNat).put F.FAB_STATUS_SINK_HOPS 0 (min c.2 15)
  let t := if changed then t.raise F.FAB_EVENT_SINK_CHANGE else t
  let t := if c.2 > 8 && (changed || near) then t.raise F.FAB_EVENT_HOPS_OVER else t
  t.flushToSink.flushJobs

/-- R462: the topology check. -/
def State.topologyCheck (s : State) : State :=
  let want := s.rd .FAB_TOPO
  if want != 0 && linkHash s.fab.devs s.fab.links != want then
    (s.put F.FAB_STATUS_TOPO_MISMATCH 0 1).raise F.FAB_EVENT_TOPO
  else s.put F.FAB_STATUS_TOPO_MISMATCH 0 0

/-- The words of the route table that the map gives (R457). -/
def State.routeWords (s : State) : List (Nat × Word) :=
  let own := s.fabAddr
  let words := s.fab.devs.map (fun d =>
    (0x12400000 + 4 * d.addr.toNat,
      if d.addr == own then (6 : Word)
      else match routeFor s.fab.links own d.addr with
        | none => 15
        | some p => BitVec.ofNat 32 p))
  words

/-- R457: the route table is computed again. -/
def State.writeRoutes (s : State) : State :=
  let cleared := s.clearTabs (fun a => 0x12400000 ≤ a && a < 0x12404000)
  s.routeWords.foldl (fun t w => t.setTab w.1 w.2) cleared

/-- R457, R463, R464: routes, tree, parent and child ports, neighbours, sink and hash, from the map as it stands. -/
def State.recomputeMap (s : State) : State :=
  let own := s.fabAddr
  let t := s.writeRoutes
  let links := t.fab.links
  let root := t.fab.rootAddr
  let parent := treeParent links root own
  let port := parent.bind (portTo links own)
  let t := { t with fab := { t.fab with treePort := port, treePath := treePathOf links root own (links.length + 1) } }
  let t := forBelow 6 (fun p u =>
    (u.putB F.FAB_PSTAT_PARENT p (port == some p)).putB F.FAB_PSTAT_CHILD p (leadsToChild links root own p)) t
  let n := crossNbrs t.fab.devs own
  let t := t.wr .FAB_NBR 0 (BitVec.ofNat 32
    ((match n.1 with | none => 0 | some a => 2 ^ 31 + a.toNat * 2 ^ 16) +
     (match n.2 with | none => 0 | some a => 2 ^ 15 + a.toNat)))
  t.updateSink.topologyCheck

end Sys2Proof.Machine
end

