-- ==== Sys2Proof/Machine/TimOps.lean ====
section
/-! DEFINITION. Machine/TimOps.lean: the servo of the time base, steps, path delay and the PTP exchanges (spec/14 R432 to
R439). -/

namespace Sys2Proof.Machine

/-- R433, R463: what steers the time base: 0 nothing, 1 PTP, 2 the fabric. 3 is treated as 0, and 2 as 0 on the root. -/
def State.timSource (s : State) : Nat :=
  match s.fld F.TIM_CTRL_SRC with
  | 1 => 1
  | 2 => if s.bit F.FAB_STATUS_ROOT then 0 else 2
  | _ => 0

/-- The limit of ADJ (R431). -/
def adjMax : Int := 281474976711

/-- Store the rate correction ADJ. -/
def State.setAdj (s : State) (a : Int) : State := s.setPair .TIM_ADJ_L .TIM_ADJ_H 0 8 (wrapTo 40 a)

/-- The integrator of R433. -/
def State.integ (s : State) : Int := signedOf 40 (s.getPair .TIM_INTEG_L .TIM_INTEG_H)

/-- Store the integrator. -/
def State.setInteg (s : State) (a : Int) : State := s.setPair .TIM_INTEG_L .TIM_INTEG_H 0 8 (wrapTo 40 a)

/-- What every step does beside moving the time base (R432, R434). -/
def State.stepped (s : State) : State :=
  let s := s.put F.TIM_STATUS_TVALID 0 1
  let s := s.put F.TIM_STATUS_STEPPED 0 1
  (s.raise F.TIM_EVENT_STEP).count .TIM_STEP_CNT

/-- R434: a step of `d` ticks. -/
def State.stepTime (s : State) (d : Int) : State := (s.addTime (d * 2 ^ 32)).stepped

/-- R432: the staged set becomes the time base, its hidden bits 0. Nanoseconds beyond a second carry into the seconds
(notes/assumptions/35). -/
def State.timeSet (s : State) : State :=
  let sec := s.fld F.TIM_SET2_SLO + 2 ^ 32 * s.fld F.TIM_SET3_SHI
  let n := (sec * 1000000000 + s.fld F.TIM_SET1_NS) * 2 ^ 48 + s.fld F.TIM_SET0_FRAC * 2 ^ 32
  ({ s with tim := { s.tim with base := TimeBase.ofCount n } }).stepped

/-- R433: an offset of `theta` ticks drives the servo. -/
def State.servo (s : State) (theta : Int) : State :=
  let thr := s.fld F.TIM_STEP_THR_THR
  if thr != 0 && thr * 65536 ≤ theta.natAbs then
    let s := s.stepTime (-theta)
    s.setAdj s.integ
  else
    let i := clampI (-adjMax) adjMax (s.integ - asr (s.fld F.TIM_SERVO_KI_KI * theta) 16)
    let a := clampI (-adjMax) adjMax (i - asr (s.fld F.TIM_SERVO_KP_KP * theta) 16)
    (s.setInteg i).setAdj a

/-- R435: a rejection is counted. -/
def State.timReject (s : State) : State := (s.count .TIM_REJ_CNT).raise F.TIM_EVENT_OFS_REJ

/-- R435: LOCKED after an accepted offset. -/
def State.lockStep (s : State) (theta : Int) : State :=
  if theta.natAbs < s.fld F.TIM_LOCK_CFG_LOCK_THR * 65536 then
    let n := s.tim.lockRun + 1
    let s := { s with tim := { s.tim with lockRun := n } }
    if 8 ≤ n && !s.bit F.TIM_STATUS_LOCKED then (s.put F.TIM_STATUS_LOCKED 0 1).raise F.TIM_EVENT_LOCK else s
  else
    let s := { s with tim := { s.tim with lockRun := 0 } }
    if s.bit F.TIM_STATUS_LOCKED then (s.put F.TIM_STATUS_LOCKED 0 0).raise F.TIM_EVENT_UNLOCK else s

/-- R433, R435: an offset becomes usable: it is rejected, or drives the servo and ends holdover. -/
def State.takeOffset (s : State) (theta : Int) : State :=
  if 2 ^ 62 ≤ theta.natAbs then s.timReject
  else
    let s := { s with tim := { s.tim with lastOfs := s.clk } }
    let s := s.count .TIM_OFS_CNT
    let n := wrapTo 64 theta
    let s := (s.wr .TIM_OFS_LO 0 (BitVec.ofNat 32 n)).wr .TIM_OFS_HI 0 (BitVec.ofNat 32 (n / 2 ^ 32))
    let s := s.put F.TIM_STATUS_HOLDOVER 0 0
    let s := s.put F.TIM_STATUS_SRC_OK 0 1
    (s.lockStep theta).servo theta

/-- R433: an offset goes to the servo through the crossing of R28. -/
def State.queueOffset (s : State) (theta : Int) : State :=
  { s with tim := { s.tim with offsets := s.tim.offsets ++ [theta] } }

/-- R433: the offset that came first becomes usable. Without a source it steers nothing. -/
def State.servoOffset (s : State) : State :=
  match s.tim.offsets with
  | [] => s
  | theta :: rest =>
    let s := { s with tim := { s.tim with offsets := rest } }
    if s.timSource == 0 then s else s.takeOffset theta

/-- R435: no offset has been accepted for HOLD_TMO ms. -/
def State.offsetsLate (s : State) : Bool :=
  decide (s.tim.lastOfs + 1000000 * atLeast1 (s.fld F.TIM_LOCK_CFG_HOLD_TMO) ≤ s.clk)

/-- R435: holdover. -/
def State.holdover (s : State) : State :=
  if !s.offsetsLate || s.timSource == 0 || s.bit F.TIM_STATUS_HOLDOVER then s
  else
    let s := s.setAdj s.integ
    let s := s.put F.TIM_STATUS_LOCKED 0 0
    let s := s.put F.TIM_STATUS_SRC_OK 0 0
    let s := s.put F.TIM_STATUS_HOLDOVER 0 1
    let s := { s with tim := { s.tim with lockRun := 0 } }
    (s.raise F.TIM_EVENT_HOLDOVER).count .TIM_HOLD_CNT

/-- MPD in ticks. -/
def State.mpd (s : State) : Int := s.fld F.TIM_MPD_MPD

/-- R435, R439, R463: a path delay sample in ticks is rejected, or filtered into MPD. After a re-acquisition the filter
starts again from the sample. -/
def State.delaySample (s : State) (x : Int) : State :=
  if x < 0 || ((s.fld F.TIM_PTP_CFG_MPD_MAX * 65536 : Nat) : Int) < x then s.timReject
  else
    let m := if s.tim.mpdValid then s.mpd + asr (x - s.mpd) (s.fld F.TIM_PTP_CFG_MPD_SHIFT) else x
    let s := { s with tim := { s.tim with mpdValid := true } }
    s.wr .TIM_MPD 0 (BitVec.ofInt 32 m)

/-- R459, R463: a re-acquisition discards MPD. -/
def State.timReacquire (s : State) : State :=
  ({ s with tim := { s.tim with mpdValid := false } }).wr .TIM_MPD 0 0

/-! ### PTP -/

/-- R438: a receive time corrected by the receive board delay, 1/16 ns. -/
def State.rxStamp (s : State) (t : Tick) : Tick :=
  t - BitVec.ofInt 64 (signedOf 16 (s.fld F.TIM_TSADJ_RX) * 4096)

/-- R438: a departure corrected by the transmit board delay. -/
def State.txStamp (s : State) (t : Tick) : Tick :=
  t + BitVec.ofInt 64 (signedOf 16 (s.fld F.TIM_TSADJ_TX) * 4096)

/-- R437, R439: a message of the chosen master, in the configured domain, while PTP steers the time base. -/
def State.fromMaster (s : State) (m : PtpMsg) : Bool :=
  s.timSource == 1 && s.bit F.TIM_MASTER_PORT_V &&
    m.clock == BitVec.ofNat 64 ((s.rd .TIM_MASTER_LO).toNat + 2 ^ 32 * (s.rd .TIM_MASTER_HI).toNat) &&
    m.port.toNat == s.fld F.TIM_MASTER_PORT_PORT && m.domain.toNat == s.fld F.TIM_CTRL_DOMAIN

/-- R439: the times of a Sync are complete: `t1` is its departure, `corr` the corrections, `t2` its arrival. -/
def State.syncComplete (s : State) (t1 : Tick) (corr : Int) (t2 : Tick) : State :=
  let t1c := t1 + BitVec.ofInt 64 corr
  let s := { s with tim := { s.tim with sync := none, lastSync := some (t1c, t2) } }
  s.queueOffset (sdiff t2 t1c - s.mpd)

/-- R439: a Sync of the chosen master. -/
def State.ptpSync (s : State) (m : PtpMsg) : State :=
  if s.fromMaster m && !m.followUp then
    if m.twoStep then { s with tim := { s.tim with sync := some { m with rx := s.rxStamp m.rx } } }
    else s.syncComplete m.stamp m.corr (s.rxStamp m.rx)
  else s

/-- R439: the sample of the peer-to-peer mechanism: `t1` and `t4` are taken here, `turn` is the partner's turnaround and
its corrections. -/
def State.peerSample (s : State) (t1 t4 : Tick) (turn : Int) : State :=
  let s := { s with tim := { s.tim with delaySent := none, pdelayResp := none } }
  s.delaySample (asr (sdiff t4 t1 - turn) 1)

/-- R439: a Follow_Up of a Sync, or of a Pdelay_Resp, completes the times. -/
def State.ptpFollowUp (s : State) (m : PtpMsg) : State :=
  if s.fromMaster m && m.followUp then
    if m.peer then
      match s.tim.pdelayResp, s.tim.delaySent with
      | some r, some d =>
        if r.seqId == m.seqId then s.peerSample d.2 r.rx (sdiff m.stamp r.stamp + r.corr + m.corr) else s
      | _, _ => s
    else
      match s.tim.sync with
      | none => s
      | some y => if y.seqId == m.seqId then s.syncComplete m.stamp (y.corr + m.corr) y.rx else s
  else s

/-- R439: a Delay_Resp or Pdelay_Resp of the chosen master. -/
def State.ptpDelayResp (s : State) (m : PtpMsg) : State :=
  match s.tim.delaySent with
  | none => s
  | some d =>
    if s.fromMaster m && !m.followUp && m.seqId == d.1 && m.peer == s.bit F.TIM_CTRL_P2P then
      if m.peer then
        if m.twoStep then { s with tim := { s.tim with pdelayResp := some { m with rx := s.rxStamp m.rx } } }
        else s.peerSample d.2 (s.rxStamp m.rx) m.corr
      else
        match s.tim.lastSync with
        | none => s
        | some y =>
          let s := { s with tim := { s.tim with delaySent := none } }
          s.delaySample (asr (sdiff y.2 y.1 + (sdiff m.stamp d.2 - m.corr)) 1)
    else s

/-- A PTP message leaves on the PTP interface at its command (notes/assumptions/36). -/
def State.sendPtp (s : State) (kind : PtpKind) (seq : BitVec 16) (stamp : Tick) (corr : Int) : State :=
  let j := s.fld F.TIM_CTRL_PTP_IF
  if s.bit F.HST_IF_STATUS_UP j then (s.emit (.ptpMessage j kind seq stamp corr)).count .HST_TX_FRAME_CNT j else s

/-- R439: the firmware sends a Delay_Req or Pdelay_Req, and its departure is timestamped. -/
def State.ptpDelayReqSend (s : State) (seqId : BitVec 16) : State :=
  if s.timSource == 1 && s.bit F.HST_IF_STATUS_UP (s.fld F.TIM_CTRL_PTP_IF) then
    let t := s.txStamp s.tick
    let s := s.sendPtp (if s.bit F.TIM_CTRL_P2P then .pdelayReq else .delayReq) seqId t 0
    { s with tim := { s.tim with delaySent := some (seqId, t), pdelayResp := none } }
  else s

/-- R437: a Pdelay_Req is answered one-step, with the turnaround in the correction, or two-step. -/
def State.ptpPdelayReq (s : State) (m : PtpMsg) : State :=
  if m.domain.toNat == s.fld F.TIM_CTRL_DOMAIN then
    let t2 := s.rxStamp m.rx
    let t3 := s.txStamp s.tick
    if s.bit F.TIM_CTRL_TWO_STEP then
      (s.sendPtp .pdelayResp m.seqId t2 0).sendPtp .pdelayRespFollowUp m.seqId t3 m.corr
    else s.sendPtp .pdelayResp m.seqId t2 (m.corr + sdiff t3 t2)
  else s

end Sys2Proof.Machine
end

