-- ==== Sys2Proof/Machine/FabOps.lean ====
section
/-! DEFINITION. Machine/FabOps.lean: fabric ports, packets with their credits and replay, discovery, changes of links,
seam traffic from the left neighbour, and time across the fabric (spec/15, spec/06 R194 to R196). -/

namespace Sys2Proof.Machine

/-- This device's serial number (R497). -/
def State.serial (s : State) : DWord :=
  BitVec.ofNat 64 ((s.rd .SEC_SERIAL_LO).toNat + 2 ^ 32 * (s.rd .SEC_SERIAL_HI).toNat)

/-- Store the state of a fabric port. -/
def State.putFabSt (s : State) (f : Nat) (t : FabSt) : State := s.put F.FAB_PSTAT_STATE f t.code

/-- FAB_POUTf follows the replay buffer. -/
def State.showReplay (s : State) (f : Nat) : State :=
  let n := (s.fabPort f).replay.length
  (s.put F.FAB_POUT_USED f n).put F.FAB_POUT_PEAK f (max n (s.fld F.FAB_POUT_PEAK f))

/-- R453: what is in a port's replay buffer and receive buffers is discarded; numbering and credits start anew. -/
def State.fabClear (s : State) (f : Nat) : State :=
  let p := s.fabPort f
  let s := s.setFabPort f { FabPort.fresh with
    outq := p.outq
    lastJob := p.lastJob }
  s.put F.FAB_POUT_USED f 0

/-! ### Discovery: packets -/

/-- R454: word 0 of a DISC packet that this device sends on port `f`. -/
def State.discWord (s : State) (kind f : Nat) (parent : Bool) (field : Nat) : DWord :=
  packWord [(60, kind), (48, s.fabAddr.toNat), (45, f), (44, s.fld F.FAB_CTRL_ROOT_EL), (43, b2n parent), (0, field)]

/-- A DISC packet to the neighbour on port `f`, in UP. -/
def State.sendDisc (s : State) (kind f : Nat) (parent : Bool) (field : Nat) (ws : List DWord) : State :=
  if s.fabSt f == .up then s.fabQueue f ⟨0xFFF, 0, 4, .words (s.discWord kind f parent field :: ws)⟩ else s

/-- R455: a flooded packet leaves on every port in UP. -/
def State.flood (s : State) (kind field : Nat) (ws : List DWord) : State :=
  forBelow 6 (fun f t => t.sendDisc kind f false field ws) s

/-- R455: a flooded packet is forwarded on every port in UP but the one it arrived on. -/
def State.forward (s : State) (from_ : Nat) (ws : List DWord) : State :=
  forBelow 6 (fun f t =>
    if f != from_ && t.fabSt f == .up then t.fabQueue f ⟨0xFFF, 0, 4, .words ws⟩ else t) s

/-- R455: the flood sequence of the next flooded packet of this device. -/
def State.nextFlood (s : State) : Nat × State :=
  (s.fab.floodSeq.toNat, { s with fab := { s.fab with floodSeq := s.fab.floodSeq + 1 } })

/-- R455: a flooded packet that has not been seen is noted and forwarded. Answers whether it is new. -/
def State.floodIn (s : State) (f : Nat) (key : FabAddr × Nat) (ws : List DWord) : State × Bool :=
  if s.fab.seen.contains key then (s, false)
  else ({ s with fab := { s.fab with seen := s.fab.seen ++ [key] } }.forward f ws, true)

/-! ### Discovery: election -/

/-- R455 step 2: the best root of this device: the lowest serial among its own, when it is eligible, and the best roots that
HELLOs name on ports in UP. 0 names none. -/
def State.electBest (s : State) : DWord :=
  (List.range 6).foldl (fun (best : DWord) f =>
    match (s.fabPort f).hello with
    | none => best
    | some h =>
      if s.fabSt f == .up && h.root != 0 && h.hops < 255 && (best == 0 || h.root.toNat < best.toNat) then h.root else best)
    (if s.bit F.FAB_CTRL_ROOT_EL then s.serial else 0)

/-- R455 steps 3 and 4: the port that names the best root with the least HOPS, the lower neighbour serial and then the lower
port on a tie. -/
def State.electPort (s : State) (root : DWord) : Option (Nat × Hello) :=
  (List.range 6).foldl (fun (best : Option (Nat × Hello)) f =>
    match (s.fabPort f).hello with
    | none => best
    | some h =>
      if s.fabSt f == .up && h.root == root && h.hops < 255 then
        match best with
        | none => some (f, h)
        | some (g, b) =>
          if h.hops < b.hops || (h.hops == b.hops && h.serial.toNat < b.serial.toNat) then some (f, h) else some (g, b)
      else best) none

/-- R455: the election is made again; a device whose best root or HOPS changes is not settled. -/
def State.elect (s : State) : State :=
  let root := s.electBest
  let via := if root == s.serial || root == 0 then none else s.electPort root
  let hops := match via with
    | none => 0
    | some x => x.2.hops + 1
  let same := root == s.fab.bestRoot && hops == s.fab.hops
  { s with fab := { s.fab with
    electAt := if same then s.fab.electAt else s.clk
    bestRoot := root
    hops := hops
    parent := via.map (fun (x : Nat × Hello) => x.1)
    settled := same && s.fab.settled } }

/-- The serials of the neighbours on ports 0 to 5, 0 for none (R454). -/
def State.nbrSerials (s : State) : List DWord :=
  (List.range 6).map (fun f =>
    match (s.fabPort f).hello with
    | some h => if s.fabSt f == .up then h.serial else 0
    | none => 0)

/-- STI_X0 of this device. -/
def State.x0 (s : State) : BitVec 40 := BitVec.ofNat 40 (s.getPair .STI_X0_L .STI_X0_H)

/-- R454: this device's own REPORT. -/
def State.ownReport (s : State) : Report :=
  ⟨s.serial, s.fabAddr, s.bit F.FAB_CTRL_SINK_EL, s.x0, s.nbrSerials⟩

/-- A report joins those that are held, in place of an older one of the same device. -/
def State.holdReport (s : State) (r : Report) : State :=
  { s with fab := { s.fab with reports := s.fab.reports.filter (fun x => x.serial != r.serial) ++ [r] } }

/-! ### The map and its consequences -/

/-- R452: a component that the right neighbour has not taken is emitted by this device itself, unmerged. -/
def State.emitSent (s : State) (p : SentComp → Bool) : State :=
  let out := s.sti.sent.filter p
  let s := { s with sti := { s.sti with sent := s.sti.sent.filter (fun x => !(p x)) } }
  out.foldl (fun t x => t.emitComp x.comp true) s

/-- R458: the route to an address names a port in UP. -/
def State.reachable (s : State) (a : FabAddr) : Bool :=
  let f := s.route a
  f < 6 && s.fabSt f == .up

/-- FAB_NBR: the left neighbour's address. -/
def State.leftNbr (s : State) : FabAddr :=
  if s.bit F.FAB_NBR_LV then BitVec.ofNat 12 (s.fld F.FAB_NBR_LEFT) else 0

/-- R196, R452: what a lost path to a cross-web neighbour does to the seam traffic. -/
def State.seamPaths (s : State) : State :=
  let s := if s.leftNbr != 0 && s.reachable s.leftNbr then s else s.seam31Lost
  if s.rightNbr != 0 && s.reachable s.rightNbr then s else s.emitSent (fun _ => true)

/-- R461: a device that finds no path to its root elects anew among the devices that it can reach. -/
def State.partition (s : State) : State :=
  if s.bit F.FAB_STATUS_PARTITION then s
  else
    let s := s.put F.FAB_STATUS_PARTITION 0 1
    let s := s.put F.FAB_STATUS_ROOT 0 0
    let s := forBelow 6 (fun f t => t.setFabPort f { t.fabPort f with hello := none }) s
    { s with fab := { s.fab with reports := [], settled := false } }.elect

/-- R459, R461 to R464: the map has changed: routes, tree, sink and hash follow; a device whose tree path has changed
acquires time again. -/
def State.mapChanged (s : State) : State :=
  let old := s.fab.treePath
  let s := s.recomputeMap
  let s := if s.fab.treePath != old && !old.isEmpty then
      (s.timReacquire.count .FAB_REDISC_CNT).raise F.FAB_EVENT_REDISC
    else s
  let lost := s.fabAddr != 0 && s.fab.rootAddr != 0 && s.fabAddr != s.fab.rootAddr &&
    (hopsTo s.fab.links s.fabAddr s.fab.rootAddr).isNone
  let s := if lost then s.partition else s
  s.seamPaths

/-- A link entry names the same link, from either end. -/
def MapLink.same (a b : MapLink) : Bool :=
  (a.a == b.a && a.pa == b.pa && a.b == b.b && a.pb == b.pb) || (a.a == b.b && a.pa == b.pb && a.b == b.a && a.pb == b.pa)

/-- The serial of an address, where an ASSIGN has given it. -/
def State.serialOf (s : State) (a : FabAddr) : DWord :=
  ((s.fab.serials.find? (fun e => e.2 == a)).map (fun (e : DWord × FabAddr) => e.1)).getD 0

/-- A link event corrects the neighbour serials of the reports that a root holds (R459). -/
def Report.link (r : Report) (sa sb : DWord) (l : MapLink) (up : Bool) : Report :=
  let r := if r.serial == sa then { r with nbrs := r.nbrs.set l.pa (if up then sb else 0) } else r
  if r.serial == sb then { r with nbrs := r.nbrs.set l.pb (if up then sa else 0) } else r

/-- R459: a link event is applied to this device's copy of the map. -/
def State.applyLinkev (s : State) (l : MapLink) (up : Bool) : State :=
  let rest := s.fab.links.filter (fun x => !(x.same l))
  let links := if up then rest ++ [l] else rest
  let sa := s.serialOf l.a
  let sb := s.serialOf l.b
  let reports := if sa != 0 && sb != 0 then s.fab.reports.map (fun r => r.link sa sb l up) else s.fab.reports
  if up && s.fab.links.any (fun x => x.same l) then s
  else { s with fab := { s.fab with links := links, reports := reports } }.mapChanged

/-- R454: the words of a link entry. -/
def MapLink.word (l : MapLink) : DWord :=
  packWord [(63, 1), (51, l.a.toNat), (48, l.pa), (36, l.b.toNat), (33, l.pb)]

/-- A link entry read back. -/
def linkOfWord (w : DWord) : MapLink :=
  let n := w.toNat
  ⟨BitVec.ofNat 12 (bitsOf n 51 12), bitsOf n 48 3, BitVec.ofNat 12 (bitsOf n 36 12), bitsOf n 33 3⟩

/-- R459: this device's end of the link on port `f` enters or leaves UP after LOAD: a LINKEV is flooded and applied. -/
def State.linkEvent (s : State) (f : Nat) (up : Bool) : State :=
  let n := BitVec.ofNat 12 (s.fld F.FAB_PSTAT_NADDR f)
  if s.mode == .load || s.fabAddr == 0 || n == 0 then s
  else
    let l : MapLink := ⟨s.fabAddr, f, n, s.fld F.FAB_PSTAT_NPORT f⟩
    let q := s.nextFlood
    let s := q.2.flood 4 (q.1 * 2 ^ 24 + b2n up * 2 ^ 23) [l.word]
    s.applyLinkev l up

/-! ### Ports -/

/-- R453: a port in HELLO or UP goes down: its buffers are discarded, its lanes still in UP retrain, and the loss is logged and
made known. -/
def State.fabPortDown (s : State) (f : Nat) : State :=
  let was := s.fabSt f
  if was == .up || was == .hello then
    let cause := s.fld F.LNE_LAST_CAUSE
    let s := (s.fabClear f).putFabSt f .link
    let s := forBelow 4 (fun i t =>
      if t.laneSt (64 + 4 * f + i) == .up then t.laneRetrain (64 + 4 * f + i) .retrain else t) s
    let s := (s.raise F.FAB_EVENT_LINK_DOWN).count .FAB_DOWN_CNT f
    let s := s.fault .link (16 + f) cause 0
    let s := if was == .up then s.linkEvent f false else s
    s.elect
  else s

/-- R453: a port in HELLO has the two LSTATE blocks of its partner: it is UP. -/
def State.fabPortUp (s : State) (f : Nat) : State :=
  let s := (s.fabClear f).putFabSt f .up
  let s := s.raise F.FAB_EVENT_LINK_UP
  s.linkEvent f true

/-- R453: a port goes OFF. -/
def State.fabPortOff (s : State) (f : Nat) : State :=
  (((s.setFabPort f FabPort.fresh).put F.FAB_POUT_USED f 0).putFabSt f .off).quadReleased (64 + 4 * f)

/-- R453: a port is enabled. -/
def State.fabEnabled (s : State) (f : Nat) : Bool := s.bit F.FAB_CTRL_EN && bitAt (s.fld F.FAB_PORT_EN_EN) f

/-- R453: the enables of a port take effect. -/
def State.fabEnable (s : State) (f : Nat) : State :=
  if s.fabEnabled f then
    (if s.fabSt f == .off && s.mode != .dark && s.mode != .standby then s.putFabSt f .link else s)
  else s.fabPortOff f

/-- R453: STANDBY entry. The map stays as it is: the low-rate links carry time (notes/assumptions/37). -/
def State.fabStandby (s : State) : State :=
  forBelow 6 (fun f t =>
    match t.fabSt f with
    | .up => ((t.fabClear f).putFabSt f .low).count .FAB_DOWN_CNT f
    | .hello => (((t.fabClear f).putFabSt f .low).count .FAB_DOWN_CNT f).raise F.FAB_EVENT_LINK_DOWN
    | .link => t.putFabSt f .low
    | _ => t) s

/-- R453: STANDBY exit. -/
def State.fabWake (s : State) : State :=
  forBelow 6 (fun f t => if t.fabSt f == .low then t.putFabSt f .link else t) s

/-- R453: all four lanes of a port are up, locked and aligned: the port enters HELLO and sends its LSTATE blocks
(notes/assumptions/38). -/
def State.fabAligned (s : State) (f : Nat) : State :=
  if s.fabSt f == .link && s.quadAligned (64 + 4 * f) then
    let s := s.setFabPort f { s.fabPort f with lstates := 0 }
    ((s.putFabSt f .hello).emit (.fabLstate f s.fabAddr)).emit (.fabLstate f s.fabAddr)
  else s

/-- R453: an LSTATE block of the partner. -/
def State.lstateRx (s : State) (f : Nat) (addr : FabAddr) (port : Nat) : State :=
  if s.fabSt f == .hello || s.fabSt f == .up then
    let s := (s.put F.FAB_PSTAT_NADDR f addr.toNat).put F.FAB_PSTAT_NPORT f port
    if s.fabSt f == .hello then
      let p := s.fabPort f
      if 1 ≤ p.lstates then s.fabPortUp f else s.setFabPort f { p with lstates := p.lstates + 1 }
    else s
  else s

/-! ### Packets: sending -/

/-- R447: the octets that a packet's CRC covers: SOP payload bits [55:0] and the data words. -/
def packetOctets (dst : FabAddr) (vc ptype : Nat) (lseq : BitVec 13) (ws : List DWord) : List Byte :=
  let sop := dst.toNat * 2 ^ 44 + vc * 2 ^ 41 + ptype * 2 ^ 37 + (ws.length % 64) * 2 ^ 31 + lseq.toNat * 2 ^ 18
  leBytes 7 sop ++ ws.flatMap (fun w => leBytes 8 w.toNat)

/-- R447: EOP.CRC of a packet. -/
def packetCrc (p : Packet) (lseq : BitVec 13) : Word := BitVec.ofNat 32 (crc32 (packetOctets p.dst p.vc p.ptype lseq p.words))

/-- R449: the next packet of a VC: the oldest, but RECORD and JOB packets of VC 4 alternate. -/
def FabPort.nextOf (p : FabPort) (vc : Nat) : Option OutPkt :=
  let q := p.outq.getD vc []
  if vc == 4 then
    match q.find? (fun o => (o.ptype == 5) != p.lastJob) with
    | some o => some o
    | none => q.head?
  else q.head?

/-- R449, R450: the VC that sends next: the first by priority with a packet and a credit. -/
def FabPort.nextVc (p : FabPort) : Option Nat :=
  (List.range 5).find? (fun vc => !(p.outq.getD vc []).isEmpty && p.credits.getD vc 0 != 0)

/-- R63: a packet's words as it leaves. -/
def State.bodyWords (s : State) (b : Body) : List DWord :=
  match b with
  | .words ws => ws
  | .record r => r.wire s.fabAddr

/-- R449, R450: an output port starts its next packet. -/
def State.packetStart (s : State) (f : Nat) : State :=
  let p := s.fabPort f
  if s.fabSt f == .up && p.replay.length < 4096 then
    match p.nextVc with
    | none => s
    | some vc =>
      match p.nextOf vc with
      | none => s
      | some o =>
        let pkt : Packet := ⟨o.dst, vc, o.ptype, s.bodyWords o.body⟩
        let s := s.setFabPort f { p with
          outq := p.outq.set vc ((p.outq.getD vc []).erase o)
          lastJob := if vc == 4 then o.ptype == 5 else p.lastJob
          credits := p.credits.set vc (p.credits.getD vc 0 - 1)
          replay := p.replay ++ [⟨p.lseq, pkt, 0⟩]
          ackAt := if p.replay.isEmpty then s.clk else p.ackAt
          lseq := p.lseq + 1 }
        (s.showReplay f).emit (.fabPacket f p.lseq pkt)
  else s

/-- R450: an ACK, or a NAK, of what has been received in order. -/
def State.sendAck (s : State) (f : Nat) (nak : Bool) : State :=
  let p := s.fabPort f
  (s.setFabPort f { p with unacked := 0 }).emit (.fabAck f (p.expect - 1) nak)

/-- R450, R466: every unacknowledged packet is sent again, the oldest first; after 8 replays the port goes down. -/
def State.replay (s : State) (f : Nat) : State :=
  let p := s.fabPort f
  if p.replay.isEmpty then s
  else if 8 ≤ p.replays then s.fabPortDown f
  else
    let late := (p.replay.filter (fun x => x.pkt.vc == 1 && x.resent == 1)).length
    let again := p.replay.map (fun x => { x with resent := x.resent + 1 })
    let s := s.setFabPort f { p with replay := again, replays := p.replays + 1, ackAt := s.clk }
    let s := (s.count .FAB_REPLAY_CNT f).count .FAB_CUE_LATE_CNT 0 late
    again.foldl (fun t x => t.emit (.fabPacket f x.lseq x.pkt)) s

/-- R450: 1 µs has passed with unacknowledged packets and no ACK. An ACK in the same cycle wins (R55). -/
def State.ackLate (s : State) (f : Nat) : Bool :=
  !(s.fabPort f).replay.isEmpty && decide ((s.fabPort f).ackAt + 1000 ≤ s.clk)

/-- R450: an ACK or a NAK arrives. -/
def State.ackRx (s : State) (f : Nat) (lseq : BitVec 13) (nak : Bool) : State :=
  if s.fabSt f == .up then
    let p := s.fabPort f
    let rest := p.replay.filter (fun x => after x.lseq lseq)
    let s := (s.setFabPort f { p with
      replay := rest
      ackAt := s.clk
      replays := if rest.length < p.replay.length then 0 else p.replays }).showReplay f
    if nak then s.replay f else s
  else s

/-! ### Packets: receiving -/

/-- R450: a receive buffer of a VC is free again, and its credit is returned. -/
def State.giveCredit (s : State) (f vc : Nat) : State := s.emit (.fabCredit f vc 1)

/-- R450: a packet has been received in order. -/
def State.inOrder (s : State) (f : Nat) : State :=
  let p := s.fabPort f
  let s := s.setFabPort f { p with expect := p.expect + 1, naked := false, unacked := p.unacked + 1 }
  if 64 ≤ p.unacked + 1 then s.sendAck f false else s

/-- R450: a packet that fails its CRC or comes out of order: one NAK for each such event, and the packet is discarded. -/
def State.packetError (s : State) (f : Nat) : State :=
  let p := s.fabPort f
  if p.naked then s
  else ((s.setFabPort f { p with naked := true }).count .FAB_CRC_CNT f).sendAck f true

/-- R448, R458: a packet received in order is consumed here, relayed or discarded. -/
def State.routePacket (s : State) (f : Nat) (p : Packet) : State :=
  if 7 ≤ p.ptype then (s.count .FAB_BADPKT_CNT).giveCredit f p.vc
  else if p.ptype == 4 && 5 ≤ bitsOf (p.words.getD 0 0).toNat 60 4 then s.giveCredit f p.vc
  else if p.dst == 0xFFF || s.route p.dst == 6 then
    let q := s.fabPort f
    s.setFabPort f { q with rx := q.rx ++ [p] }
  else
    let g := s.route p.dst
    let s := if g < 6 && s.fabSt g == .up then s.count .FAB_RELAY_CNT else s
    (s.fabSend ⟨p.dst, p.vc, p.ptype, .words p.words⟩).giveCredit f p.vc

/-- R450: a packet arrives. -/
def State.packetRx (s : State) (f : Nat) (p : Packet) (lseq : BitVec 13) (crc : Word) : State :=
  if s.fabSt f == .up then
    if crc == packetCrc p lseq && lseq == (s.fabPort f).expect then (s.inOrder f).routePacket f p
    else s.packetError f
  else s

/-- The oldest packet of a kind that a port has received for this device is taken, and its credit returned. -/
def State.takePacket (s : State) (f : Nat) (k : Packet → Bool) : Option (List DWord × State) :=
  let p := s.fabPort f
  match p.rx.find? k with
  | none => none
  | some x => some (x.words, (s.setFabPort f { p with rx := p.rx.erase x }).giveCredit f x.vc)

/-- A DISC packet of a kind. -/
def isDisc (kind : Nat) (p : Packet) : Bool := p.ptype == 4 && bitsOf (p.words.getD 0 0).toNat 60 4 == kind

/-! ### Discovery: what the packets do -/

/-- R455 step 1: a HELLO on each port in UP. -/
def State.helloTimer (s : State) : State :=
  if s.bit F.FAB_CTRL_EN then
    forBelow 6 (fun f t =>
      t.sendDisc 0 f (t.fab.parent == some f) (min t.fab.hops 255 * 2 ^ 32) [t.serial, t.fab.bestRoot]) s
  else s

/-- R455: a HELLO of the neighbour on port `f`. -/
def State.helloRx (s : State) (f : Nat) (ws : List DWord) : State :=
  let w := (ws.getD 0 0).toNat
  let h : Hello := ⟨bitsOf w 32 8, ws.getD 2 0, ws.getD 1 0, BitVec.ofNat 12 (bitsOf w 48 12), bitsOf w 45 3, bitAt w 43⟩
  let s := s.setFabPort f { s.fabPort f with hello := some h }
  let s := s.wr .FAB_NSER_LO f (h.serial.setWidth 32)
  let s := s.wr .FAB_NSER_HI f ((h.serial >>> 32).setWidth 32)
  let s := s.put F.FAB_PSTAT_NPORT f h.port
  let s := if h.addr != 0 then s.put F.FAB_PSTAT_NADDR f h.addr.toNat else s
  s.elect

/-- R455 step 6: every serial that a held report names has been reported. -/
def reportsWhole (rs : List Report) : Bool :=
  rs.all (fun r => r.nbrs.all (fun n => n == 0 || rs.any (fun x => x.serial == n)))

/-- R455 step 6: reports in breadth-first order from `front`, by the parent's place and then its port. -/
def reportOrder (rs : List Report) (n : Nat) (done front : List DWord) : List DWord :=
  match n with
  | 0 => done
  | k + 1 =>
    let new := front.foldl (fun (acc : List DWord) x =>
      ((rs.find? (fun r => r.serial == x)).map (fun (r : Report) => r.nbrs)).getD [] |>.foldl (fun (a : List DWord) y =>
        if y == 0 || done.contains y || a.contains y then a else a ++ [y]) acc) []
    if new.isEmpty then done else reportOrder rs k (done ++ new) new

/-- The lowest address from `a` on that a list does not hold. -/
def lowestFree (used : List FabAddr) (n : Nat) (a : FabAddr) : FabAddr :=
  match n with
  | 0 => a
  | k + 1 => if used.contains a then lowestFree used k (a + 1) else a

/-- R455, R460, R461: the addresses in breadth-first order: a device keeps the address that the root's map or its own REPORT
gives it, unless another serial has it; the others take the lowest free one. -/
def assignAll (known : List (DWord × FabAddr)) (rs : List Report) (order : List DWord) : List (DWord × FabAddr) :=
  let held := known.map (fun (e : DWord × FabAddr) => e.2) ++ rs.map (fun (r : Report) => r.addr)
  order.foldl (fun (acc : List (DWord × FabAddr)) x =>
    let mine := (known.find? (fun e => e.1 == x)).map (fun (e : DWord × FabAddr) => e.2)
    let own := ((rs.find? (fun r => r.serial == x)).map (fun (r : Report) => r.addr)).getD 0
    let taken (a : FabAddr) : Bool := acc.any (fun e => e.2 == a) || known.any (fun e => e.2 == a && e.1 != x)
    let a := match mine with
      | some a => a
      | none =>
        if own != 0 && !(taken own) then own
        else lowestFree (held ++ acc.map (fun (e : DWord × FabAddr) => e.2)) 4095 1
    acc ++ [(x, a)]) []

/-- The ports of a report that lead to a serial, ascending. -/
def portsTo (r : Report) (n : DWord) : List Nat := (List.range 6).filter (fun p => r.nbrs.getD p 0 == n)

/-- The links that reports show; parallel links pair their ports in ascending order (notes/assumptions/39). -/
def linksOf (rs : List Report) (addrs : List (DWord × FabAddr)) : List MapLink :=
  let addr (n : DWord) : FabAddr := ((addrs.find? (fun e => e.1 == n)).map (fun (e : DWord × FabAddr) => e.2)).getD 0
  rs.flatMap (fun r =>
    rs.flatMap (fun q =>
      if (addr r.serial).toNat < (addr q.serial).toNat then
        ((portsTo r q.serial).zip (portsTo q r.serial)).map (fun (pp : Nat × Nat) =>
          ⟨addr r.serial, pp.1, addr q.serial, pp.2⟩)
      else []))

/-- R454: the words of a device entry. -/
def MapDev.word (d : MapDev) : DWord := packWord [(51, d.addr.toNat), (50, b2n d.sinkEl), (0, d.x0.toNat)]

/-- A device entry read back. -/
def devOfWord (w : DWord) : MapDev :=
  let n := w.toNat
  ⟨BitVec.ofNat 12 (bitsOf n 51 12), bitAt n 50, BitVec.ofNat 40 n⟩

/-- A list in pieces of 63, the last of them shorter: a shorter MAP packet ends the map (notes/assumptions/39). -/
def mapPieces (n : Nat) (ws : List DWord) : List (List DWord) :=
  match n with
  | 0 => [ws]
  | k + 1 => if ws.length < 63 then [ws] else ws.take 63 :: mapPieces k (ws.drop 63)

/-- This device takes an address; a change of address is raised and counted (R461). -/
def State.takeAddress (s : State) (a : FabAddr) : State :=
  let s := if s.fabAddr != 0 && s.fabAddr != a then (s.raise F.FAB_EVENT_READDR).count .FAB_READDR_CNT else s
  s.put F.FAB_STATUS_ADDR 0 a.toNat

/-- Discovery is complete on this device (R455 step 8). -/
def State.discDone (s : State) : State :=
  let s := s.put F.FAB_STATUS_DONE 0 1
  let s := s.put F.FAB_STATUS_PARTITION 0 0
  (s.raise F.FAB_EVENT_DISC_DONE).count .FAB_DISC_CNT

/-- Store the root's serial in FAB_ROOT. -/
def State.showRoot (s : State) (r : DWord) : State :=
  (s.wr .FAB_ROOT_LO 0 (r.setWidth 32)).wr .FAB_ROOT_HI 0 ((r >>> 32).setWidth 32)

/-- R455 steps 6 and 7: the root holds every REPORT: it assigns the addresses and floods the ASSIGN and MAP packets. -/
def State.rootAssign (s : State) : State :=
  let rs := s.fab.reports
  let order := reportOrder rs (rs.length + 1) [s.serial] [s.serial]
  let addrs := assignAll s.fab.serials rs order
  let own := ((addrs.find? (fun e => e.1 == s.serial)).map (fun (e : DWord × FabAddr) => e.2)).getD 1
  let links := linksOf rs addrs
  let devs := addrs.filterMap (fun (e : DWord × FabAddr) =>
    (rs.find? (fun r => r.serial == e.1)).map (fun (r : Report) => (⟨e.2, r.sinkEl, r.x0⟩ : MapDev)))
  let s := (s.takeAddress own).put F.FAB_STATUS_ROOT 0 1
  let s := s.showRoot s.serial
  let s := { s with fab := { s.fab with serials := addrs, rootAddr := own, devs := devs, links := links } }
  let s := addrs.foldl (fun t (e : DWord × FabAddr) => t.flood 2 (e.2.toNat * 2 ^ 28) [e.1, t.serial]) s
  let entries := devs.map MapDev.word ++ links.map MapLink.word
  let s := (mapPieces entries.length entries).foldl (fun t ws =>
    let q := t.nextFlood
    q.2.flood 3 (q.1 * 2 ^ 24) ws) s
  s.mapChanged.discDone

/-- R455 step 6: this device is the root, and holds a REPORT from every serial that a REPORT names. -/
def State.rootTry (s : State) : State :=
  if s.fab.bestRoot == s.serial && s.fab.settled then
    let s := s.holdReport s.ownReport
    if reportsWhole s.fab.reports then s.rootAssign else s
  else s

/-- R454: the words of a REPORT behind word 0. -/
def Report.words (r : Report) : List DWord :=
  [r.serial, packWord [(63, b2n r.sinkEl), (0, r.x0.toNat)]] ++ r.nbrs

/-- R455 step 5: this device is settled: it reports to its parent, or holds its own report as the root. -/
def State.discSettled (s : State) : State :=
  if s.bit F.FAB_CTRL_EN && !s.fab.settled && s.fab.bestRoot != 0 then
    let s := { s with fab := { s.fab with settled := true } }
    match s.fab.parent with
    | some f => s.sendDisc 1 f true 0 s.ownReport.words
    | none => s.rootTry
  else s

/-- R455 steps 5 and 6, R460: a REPORT is relayed up, or held by the root. -/
def State.reportRx (s : State) (ws : List DWord) : State :=
  match s.fab.parent with
  | some f => if s.fabSt f == .up then s.fabQueue f ⟨0xFFF, 0, 4, .words ws⟩ else s
  | none =>
    let w := (ws.getD 0 0).toNat
    let x := ws.getD 2 0
    (s.holdReport ⟨ws.getD 1 0, BitVec.ofNat 12 (bitsOf w 48 12), x.msb, x.setWidth 40,
      (ws.drop 3).take 6⟩).rootTry

/-- R455 step 8, R459, R461: an ASSIGN arrives on port `f`. A device that has just been given its address is linked to its
neighbours by their LINKEVs (notes/assumptions/39). -/
def State.assignRx (s : State) (f : Nat) (ws : List DWord) : State :=
  let w := (ws.getD 0 0).toNat
  let a : FabAddr := BitVec.ofNat 12 (bitsOf w 28 12)
  let who := ws.getD 1 0
  let r := s.floodIn f (BitVec.ofNat 12 (bitsOf w 48 12), 2 ^ 16 + a.toNat + 2 ^ 28 * who.toNat) ws
  if r.2 then
    let s := r.1
    let s := { s with fab := { s.fab with
      serials := s.fab.serials.filter (fun (e : DWord × FabAddr) => e.1 != who && e.2 != a) ++ [(who, a)]
      rootAddr := BitVec.ofNat 12 (bitsOf w 48 12) } }
    let s := s.showRoot (ws.getD 2 0)
    if who == s.serial then (s.takeAddress a).put F.FAB_STATUS_ROOT 0 0
    else
      forBelow 6 (fun g t =>
        match (t.fabPort g).hello with
        | some h =>
          if t.fabSt g == .up && h.serial == who then
            let t := t.put F.FAB_PSTAT_NADDR g a.toNat
            if (linkAt t.fab.links t.fabAddr g).isNone then t.linkEvent g true else t
          else t
        | none => t) s
  else r.1

/-- R455, R457: a MAP packet arrives on port `f`; with the whole map the device computes its routes and its tree. -/
def State.mapRx (s : State) (f : Nat) (ws : List DWord) : State :=
  let w := (ws.getD 0 0).toNat
  let r := s.floodIn f (BitVec.ofNat 12 (bitsOf w 48 12), bitsOf w 24 16) ws
  if r.2 then
    let s := r.1
    let es := ws.drop 1
    let devs := (es.filter (fun e => !e.msb)).map devOfWord
    let links := (es.filter (fun (e : DWord) => e.msb)).map linkOfWord
    let s := { s with fab := { s.fab with
      devs := s.fab.devs.filter (fun d => !(devs.any (fun e => e.addr == d.addr))) ++ devs
      links := s.fab.links.filter (fun l => !(links.any (fun x => x.same l))) ++ links } }
    if es.length < 63 && s.fabAddr != 0 then s.mapChanged.discDone else s
  else r.1

/-- R459: a LINKEV arrives on port `f`. -/
def State.linkevRx (s : State) (f : Nat) (ws : List DWord) : State :=
  let w := (ws.getD 0 0).toNat
  let r := s.floodIn f (BitVec.ofNat 12 (bitsOf w 48 12), bitsOf w 24 16) ws
  if r.2 then r.1.applyLinkev (linkOfWord (ws.getD 1 0)) (bitAt w 23) else r.1

/-- R456: the discovery timeout: a device without the fabric is its own root; one that has a port in UP and no address has
failed. -/
def State.discoveryTimeout (s : State) : State :=
  if !s.bit F.FAB_CTRL_EN || (List.range 6).all (fun f => s.fabSt f != .up) then
    let s := (s.takeAddress 1).put F.FAB_STATUS_ROOT 0 1
    let s := s.showRoot s.serial
    let s := { s with fab := { s.fab with
      serials := [(s.serial, 1)], rootAddr := 1, devs := [⟨1, s.bit F.FAB_CTRL_SINK_EL, s.x0⟩], links := [] } }
    s.mapChanged.discDone
  else if s.fabAddr == 0 then (s.raise F.FAB_EVENT_DISC_FAIL).put F.FAB_STATUS_DONE 0 0
  else s

/-! ### Seam traffic -/

/-- R176, R194: a wing line of the left neighbour whose parts have come or are lost goes to the ring of seam 31, or waits for
its pair there. The step from the line before tells the neighbour's ratio. -/
def State.wingDone31 (s : State) : State :=
  match s.sti.wing31 with
  | [] => s
  | (_, w0) :: _ =>
    let width := s.seamWing 31
    let xs := (List.range width).map (fun i =>
      match s.sti.wing31.find? (fun e => e.1 == i / 248) with
      | none => 1
      | some e => e.2.samples.getD (i % 248) 1)
    let step := match s.sti.nbrLine with
      | none => 0
      | some n => (sdiff w0.line n).toNat
    let s := { s with sti := { s.sti with
      wing31 := []
      nbrLine := some w0.line
      nbrRatio := if step == 0 then s.sti.nbrRatio else step } }
    s.wingGoes 31 w0.line w0.y xs true (s.rightLeads 31 (s.seamReg ((s.headAt 0).getD 0) 31)) s.sti.nbrRatio

/-- R194, R451: a WING packet of the left neighbour. -/
def State.wingPacket (s : State) (ws : List DWord) : State :=
  if s.seamInUse 31 then
    let w := (ws.getD 0 0).toNat
    let line : LineNo := (ws.getD 1 0).setWidth 40
    let part := bitsOf w 40 8
    let xs := (ws.drop 2).flatMap (fun v => (List.range 4).map (fun i => bitsOf v.toNat (16 * i) 16))
    let s := if s.sti.wing31.any (fun e => e.2.line != line) then s.wingDone31 else s
    let s := { s with sti := { s.sti with
      nbrHead := bitsOf w 59 5
      wing31 := s.sti.wing31.filter (fun e => e.1 != part) ++ [(part, ⟨line, BitVec.ofNat 40 w, xs, false, true, 0⟩)] } }
    if ceilDiv (s.seamWing 31) 248 ≤ s.sti.wing31.length then s.wingDone31 else s
  else s

/-- R194: a FRONTIER packet of the left neighbour. -/
def State.frontierPacket (s : State) (ws : List DWord) : State :=
  if s.seamInUse 31 then
    let w := (ws.getD 0 0).toNat
    ({ s with sti := { s.sti with
      nbrHead := bitsOf w 59 5
      nbrY := some (BitVec.ofNat 40 w)
      nbrAt := s.clk } }).tryTrail 31
  else s

/-- R195: the offset that moves a component of the left neighbour into this device's frame, 1/1024 µm. -/
def State.nbrShift (s : State) : BitVec 40 :=
  BitVec.ofInt 40 (roundHalfUpDiv ((s.latchedReg 31).ofs * Config.nbrPitch) 64)

/-- R451: the object that a COMPONENT packet carries, as the left neighbour sent it. Its start instant is not carried: a free
value (notes/assumptions/40). -/
def State.objOfPacket (s : State) (ws : List DWord) : Obj × State :=
  let d := s.drawFree
  let w (i : Nat) : Nat := (ws.getD (i - 1) 0).toNat
  let x (i : Nat) : BitVec 40 := BitVec.ofNat 40 (w i)
  let sg (i : Nat) : Int := signedOf 40 (w i)
  let ph (i k : Nat) : Phase := BitVec.ofNat 16 (bitsOf (w i) k 16)
  let line : LineNo := BitVec.ofNat 40 (w 3)
  let fl := bitsOf (w 3) 48 16
  let info : LineInfo := ⟨bitsOf (w 2) 47 5, line, line, BitVec.ofNat 40 (w 6), d.1,
    [ph 11 48, ph 11 32, ph 11 16, ph 11 0, ph 12 48, ph 12 32, ph 12 16], bitsOf (w 2) 40 7, [], 0⟩
  let acc : Acc := { Acc.empty with
    ancX := x 9, ancY := x 10, anchored := bitsOf (w 8) 0 40 != 0, area := bitsOf (w 8) 0 40
    sx := sg 13, sy := sg 14, sxx := w 15, syy := w 16, sxy := sg 17, isum := w 18
    imin := bitsOf (w 19) 48 16, imax := bitsOf (w 19) 32 16, brun := w 20, rsum := w 21, gsum := w 22, bsum := w 23
    xmin := x 4, xmax := x 5, ymin := x 6, ymax := x 7, mask := bitsOf (w 6) 52 12 }
  let sentOpen := !(bitAt fl 9)
  ({ src := some (BitVec.ofNat 12 (bitsOf (w 10) 52 12)), oid := BitVec.ofNat 40 (w 2), st := .pending, info := info
     last := BitVec.ofNat 40 (w 24), lastOrd := spanOf 1 line (BitVec.ofNat 40 (w 24)) - 1, segStart := none
     acc := acc, flags := fl &&& 0xFDFF, opened := sentOpen, sent := sentOpen
     low := if sentOpen then some (lclassOf (Config.memberClass ws)) else none
     marked := bitAt fl 12, segs := bitsOf (w 8) 40 24, cuts := bitsOf (w 8) 40 24, idle := 0, cur := [], prev := [], joins := []
     njoin := bitsOf (w 19) 24 8, contacts := [⟨31, true, BitVec.ofNat 40 (w 25), BitVec.ofNat 40 (w 26)⟩] }, d.2)

/-- R195: an object of the left neighbour is moved across the web. -/
def Obj.shiftX (o : Obj) (d : BitVec 40) : Obj :=
  { o with acc := { o.acc with ancX := o.acc.ancX + d, xmin := o.acc.xmin + d, xmax := o.acc.xmax + d } }

/-- R194, R195, R451, R452: a COMPONENT packet: one member arrives; the whole component joins the merge and is
acknowledged. -/
def State.componentPacket (s : State) (ws : List DWord) : State :=
  if s.seamInUse 31 then
    let w := (ws.getD 0 0).toNat
    let n := if bitsOf w 58 6 == 0 then 64 else bitsOf w 58 6
    let src : FabAddr := BitVec.ofNat 12 (bitsOf w 40 12)
    let first : Oid := BitVec.ofNat 40 w
    let r := s.objOfPacket ((0 : DWord) :: ws.drop 1)
    let o := r.1.shiftX s.nbrShift
    let mine (a : Arriving) : Bool := a.src == src && a.oid == first
    let old := ((r.2.sti.arriving.find? mine).map (fun (a : Arriving) => a.members)).getD []
    let ms := old.filter (fun (e : Nat × Obj) => e.1 != bitsOf w 52 6) ++ [(bitsOf w 52 6, o)]
    let rest := r.2.sti.arriving.filter (fun a => !(mine a))
    if n ≤ ms.length then
      let members := (sortBy (fun (a b : Nat × Obj) => decide (a.1 < b.1)) ms).map (fun (e : Nat × Obj) => e.2)
      let s := { r.2 with sti := { r.2.sti with arriving := rest } }
      (s.joinComps ⟨members, false⟩).fabSend ⟨src, 2, 6, .words [packWord [(52, src.toNat), (0, first.toNat)]]⟩
    else { r.2 with sti := { r.2.sti with arriving := rest ++ [⟨src, first, n, ms⟩] } }
  else s

/-- R452: a CACK releases the context of a component that was sent. -/
def State.cackPacket (s : State) (ws : List DWord) : State :=
  let oid : Oid := (ws.getD 0 0).setWidth 40
  { s with sti := { s.sti with sent := s.sti.sent.filter (fun x => x.oid != oid) } }

/-! ### Time -/

/-- R463: the low 48 bits of a tick time, extended to the value nearest the device's own. -/
def State.extendTick (s : State) (t : BitVec 48) : Tick :=
  s.tick + (t - s.tick.setWidth 48).signExtend 64

/-- A port that carries TIME blocks: in UP, or at the low rate. -/
def State.timePort (s : State) (f : Nat) : Bool := s.fabSt f == .up || s.fabSt f == .low

/-- R463: a SYNC to every tree child. -/
def State.syncTimer (s : State) : State :=
  let q := s.fab.syncSeq + 1
  let s := { s with fab := { s.fab with syncSeq := q } }
  forBelow 6 (fun f t =>
    if t.timePort f && t.bit F.FAB_PSTAT_CHILD f then t.emit (.fabTime f 0 q (t.tick.setWidth 48)) else t) s

/-- R463: a SYNC from the tree parent is answered with a DREQ. -/
def State.syncRx (s : State) (f : Nat) (seq : BitVec 6) (t : BitVec 48) : State :=
  if s.timePort f && s.fab.treePort == some f && s.timSource == 2 then
    let s := s.setFabPort f { s.fabPort f with t1 := s.extendTick t, t2 := s.tick, t3 := s.tick, tseq := seq }
    s.emit (.fabTime f 1 seq (s.tick.setWidth 48))
  else s

/-- R463: a DREQ of a child is answered with its arrival time. -/
def State.dreqRx (s : State) (f : Nat) (seq : BitVec 6) : State :=
  if s.timePort f && s.bit F.FAB_PSTAT_CHILD f then s.emit (.fabTime f 2 seq (s.tick.setWidth 48)) else s

/-- R463: a DRESP completes the times: a delay sample, and an offset for the servo. -/
def State.drespRx (s : State) (f : Nat) (seq : BitVec 6) (t : BitVec 48) : State :=
  let p := s.fabPort f
  if s.timePort f && s.fab.treePort == some f && s.timSource == 2 && seq == p.tseq then
    let x := asr (sdiff p.t2 p.t1 + sdiff (s.extendTick t) p.t3) 1
    let bad := x < 0 || ((s.fld F.TIM_PTP_CFG_MPD_MAX * 65536 : Nat) : Int) < x
    let s := s.delaySample x
    if bad then s else s.queueOffset (sdiff p.t2 p.t1 - s.mpd)
  else s

end Sys2Proof.Machine
end

