-- ==== Sys2Proof/Machine/HstOps.lean ====
section
/-! DEFINITION. Machine/HstOps.lean: host interfaces, the frames they send and receive, the record queues, management
sessions and timed launch (spec/14 R408 to R430 and R440 to R442). Registers named by a management request are read and
written in Machine/Reg.lean. -/

namespace Sys2Proof.Machine

/-- One interface. -/
def HostIf.fresh : HostIf := ⟨0, 0, 0, false, false, [], [], 0⟩

/-- Interface `j`. -/
def State.hostIf (s : State) (j : Nat) : HostIf := s.hst.ifs.getD j HostIf.fresh

/-- Change interface `j`. -/
def State.setHostIf (s : State) (j : Nat) (x : HostIf) : State :=
  { s with hst := { s.hst with ifs := s.hst.ifs.set j x } }

/-- Interface `j` is up. -/
def State.ifUp (s : State) (j : Nat) : Bool := s.bit F.HST_IF_STATUS_UP j

/-- R408: port `k` runs in a 100 Gbit/s mode. -/
def State.port100 (s : State) (k : Nat) : Bool := s.fld F.HST_PCFG_MODE k < 2

/-- R408: interface `j` exists and is enabled. -/
def State.ifEnabled (s : State) (j : Nat) : Bool :=
  s.bit F.HST_PCFG_EN (j / 4) && s.bit F.HST_IF_CFG_EN j && (j % 4 == 0 || !s.port100 (j / 4))

/-- R409: the lanes of interface `j` are in UP. -/
def State.ifLanesUp (s : State) (j : Nat) : Bool :=
  if s.port100 (j / 4) then (List.range 4).all (fun i => s.laneSt (88 + 4 * (j / 4) + i) == .up)
  else s.laneSt (88 + j) == .up

/-- The MTU of an interface's port. -/
def State.mtu (s : State) (j : Nat) : Nat := max 1500 (min 9000 (s.fld F.HST_PCFG_MTU (j / 4)))

/-- The active interface (R418). -/
def State.activeIf (s : State) : Nat := s.fld F.HST_STATUS_ACTIVE

/-- The interface of the job streams (R415). -/
def State.jobIf (s : State) : Nat := 4 * s.fld F.ARC_CTRL_PORT

/-- R419: NOPATH while the active interface is not up. -/
def State.showPath (s : State) : State := s.putB F.HST_STATUS_NOPATH 0 (!(s.ifUp s.activeIf))

/-! ### Frames -/

/-- A MAC address from a pair of registers, in network order. -/
def State.macOf (s : State) (lo hi : Reg) (j : Nat) : BitVec 48 :=
  BitVec.ofNat 48 ((s.rd lo j).toNat + 2 ^ 32 * ((s.rd hi j).toNat % 65536))

/-- HST_IF_MACj. -/
def State.ifMac (s : State) (j : Nat) : BitVec 48 := s.macOf .HST_IF_MAC_LO .HST_IF_MAC_HI j

/-- The PCP of a latency class. -/
def State.pcpOf (s : State) (c : LClass) : Nat :=
  match c with
  | .cue => s.fld F.HST_CLASS_CFG_PCP_CUE
  | .routine => s.fld F.HST_CLASS_CFG_PCP_ROUTINE
  | .bulk => s.fld F.HST_CLASS_CFG_PCP_BULK

/-- R411: an Ethernet II frame before its FCS, padded to 64 bytes with it. -/
def State.ethFrame (s : State) (j : Nat) (dst : BitVec 48) (c : LClass) (etype : Nat) (payload : List Byte) : List Byte :=
  let tag := if s.bit F.HST_IF_CFG_VLAN_EN j then
      beBytes 2 0x8100 ++ beBytes 2 (s.pcpOf c * 2 ^ 13 + s.fld F.HST_IF_CFG_VID j)
    else []
  let f := beBytes 6 dst.toNat ++ beBytes 6 (s.ifMac j).toNat ++ tag ++ beBytes 2 etype ++ payload
  f ++ List.replicate (60 - f.length) 0

/-- The sum of 16-bit words of the internet checksum. -/
def sum16 (bs : List Byte) : Nat :=
  match bs with
  | [] => 0
  | [a] => a.toNat * 256
  | a :: b :: r => a.toNat * 256 + b.toNat + sum16 r

/-- The internet checksum of octets: the complement of their ones' complement sum. -/
def inetSum (bs : List Byte) : Nat :=
  let n := sum16 bs
  let n := n / 65536 + n % 65536
  let n := n / 65536 + n % 65536
  let n := n / 65536 + n % 65536
  65535 - n % 65536

/-- R412: an IPv4 datagram of the interface; its identification goes up by 1. -/
def State.ipDatagram (s : State) (j : Nat) (dst : Word) (proto : Nat) (payload : List Byte) : List Byte × State :=
  let x := s.hostIf j
  let ttl := atLeast1 (s.fld F.HST_CLASS_CFG_TTL)
  let head (sum : Nat) : List Byte :=
    beBytes 2 0x4500 ++ beBytes 2 (20 + payload.length) ++ beBytes 2 x.ipId.toNat ++ beBytes 2 0x4000 ++
      beBytes 1 ttl ++ beBytes 1 proto ++ beBytes 2 sum ++ beBytes 4 (s.rd .HST_IF_IP j).toNat ++ beBytes 4 dst.toNat
  (head (inetSum (head 0)) ++ payload, s.setHostIf j { x with ipId := x.ipId + 1 })

/-- R412: a UDP datagram with its checksum. -/
def State.udpDatagram (s : State) (j : Nat) (dst : Word) (sport dport : Nat) (payload : List Byte) : List Byte × State :=
  let len := 8 + payload.length
  let pseudo := beBytes 4 (s.rd .HST_IF_IP j).toNat ++ beBytes 4 dst.toNat ++ beBytes 2 17 ++ beBytes 2 len
  let head (sum : Nat) : List Byte := beBytes 2 sport ++ beBytes 2 dport ++ beBytes 2 len ++ beBytes 2 sum
  let c := inetSum (pseudo ++ head 0 ++ payload)
  s.ipDatagram j dst 17 (head (if c == 0 then 65535 else c) ++ payload)

/-- A frame leaves on interface `j`. -/
def State.sendFrame (s : State) (j : Nat) (bytes : List Byte) : State :=
  (s.emit (.hostFrame j bytes)).count .HST_TX_FRAME_CNT j

/-- A reply joins the queue of rank 3 (R416). -/
def State.queueReply (s : State) (j : Nat) (bytes : List Byte) : State :=
  let x := s.hostIf j
  s.setHostIf j { x with tx := x.tx ++ [bytes] }

/-! ### Records -/

/-- R413: how many words a transport payload of an interface holds. -/
def State.payloadWords (s : State) (j : Nat) : Nat :=
  (if s.bit F.HST_IF_CFG_RAW j then s.mtu j else s.mtu j - 28) / 8

/-- R413, R417: the records at the front of a queue that fit into `room` words. -/
def fitting (room : Nat) (rs : List Record) : List Record :=
  match rs with
  | [] => []
  | r :: rest =>
    let n := r.words.length + 1
    if n ≤ room then r :: fitting (room - n) rest else []

/-- R417: the next record of a queue would not fit. -/
def State.frameFull (s : State) (j : Nat) (q : List Record) : Bool :=
  (fitting (s.payloadWords j - 1) q).length < q.length

/-- R413: the next DSEQ of a class. -/
def State.nextDseq (s : State) (c : LClass) : Word × State :=
  let k := classCode c
  let d := s.hst.dseq.getD k 0
  (d, { s with hst := { s.hst with dseq := s.hst.dseq.set k (d + 1) } })

/-- R411 to R413: a frame of records leaves on interface `j`; `kind` is 1 for a job stream. -/
def State.recordFrame (s : State) (j kind : Nat) (c : LClass) (rs : List Record) : State :=
  let q := s.nextDseq c
  let s := q.2
  let own := s.fabAddr
  let head := packWord [(60, 1), (58, kind), (56, classCode c), (44, own.toNat), (32, rs.length), (0, q.1.toNat)]
  let words := head :: rs.flatMap (fun r => r.wire own)
  let payload := words.flatMap (fun w => beBytes 8 w.toNat)
  let dmac := s.macOf .HST_IF_DMAC_LO .HST_IF_DMAC_HI j
  if s.bit F.HST_IF_CFG_RAW j then s.sendFrame j (s.ethFrame j dmac c 0x88B5 payload)
  else
    let d := s.udpDatagram j (s.rd .HST_IF_DIP j) (s.fld F.HST_IF_UDP_SRC j) (s.fld F.HST_IF_UDP_DST j) payload
    d.2.sendFrame j (d.2.ethFrame j dmac c 0x0800 d.1)

/-! ### Timed launch -/

/-- The entry at the head of cue queue `k`. -/
def State.cqHead (s : State) (k : Nat) : Option CqEntry := (s.hst.cq.getD k []).head?

/-- The interface of an entry of cue queue `k`. -/
def State.cqIf (s : State) (k : Nat) (e : CqEntry) : Nat := 4 * k + (if s.port100 k then 0 else e.sub)

/-- R442: a new head of cue queue `k` is late when it is already past its time. -/
def State.cqNewHead (s : State) (k : Nat) : State :=
  let late := match s.cqHead k with
    | none => false
    | some e => after s.tick e.time
  { s with hst := { s.hst with
    cqDue := s.hst.cqDue.set k false
    cqLate := s.hst.cqLate.set k late } }

/-- The head of cue queue `k` leaves it. -/
def State.cqPop (s : State) (k : Nat) : State :=
  ({ s with hst := { s.hst with cq := s.hst.cq.set k ((s.hst.cq.getD k []).drop 1) } }).cqNewHead k

/-- R440: an entry is pushed, or refused when its queue is full or its length is not allowed. -/
def State.cqPush (s : State) (k : Nat) (value : Word) : State :=
  let len := F.HST_CQ_PUSH_LEN.get value
  let q := s.hst.cq.getD k []
  if 64 ≤ q.length || len < 60 || 1514 < len then (s.count .HST_CQ_REFUSE_CNT k).raise F.HST_EVENT_CQ_REFUSED
  else
    let t : Tick := BitVec.ofNat 64 (s.fld F.HST_CQ_TLO_V k + 2 ^ 32 * s.fld F.HST_CQ_THI_V k)
    let e : CqEntry := ⟨t, 8 * F.HST_CQ_PUSH_OFS.get value, len, F.HST_CQ_PUSH_SUB.get value,
      F.HST_CQ_PUSH_TSCAP.get value == 1⟩
    let s := { s with hst := { s.hst with cq := s.hst.cq.set k (q ++ [e]) } }
    if q.isEmpty then s.cqNewHead k else s

/-- R440: bytes of a port's frame memory; an offset past its end goes on at its start. -/
def State.frameMemory (s : State) (k ofs len : Nat) : List Byte :=
  (List.range len).map (fun i =>
    let a := (ofs + i) % 65536
    BitVec.ofNat 8 ((s.tab (0x12300000 + 0x10000 * k + a / 4 * 4)).toNat / 2 ^ (8 * (a % 4))))

/-- R441, R442: the head of cue queue `k` launches. -/
def State.cqLaunch (s : State) (k : Nat) (e : CqEntry) : State :=
  let j := s.cqIf k e
  let late := s.hst.cqLate.getD k false || after s.tick e.time
  let s := s.sendFrame j (s.frameMemory k e.ofs e.len)
  let s := s.setHostIf j { s.hostIf j with lastCq := true }
  let s := if e.tscap then
      (s.wr .HST_CQ_TS_LO k (s.tick.setWidth 32)).wr .HST_CQ_TS_HI k ((s.tick >>> 32).setWidth 32)
    else s
  let s := if late then (s.count .HST_CQ_LATE_CNT k).raise F.HST_EVENT_CQ_LATE else s
  s.cqPop k

/-- R416: after a cue-queue frame a waiting CUE record goes first. -/
def State.cueFirst (s : State) (j : Nat) : Bool :=
  (s.hostIf j).lastCq && j == s.activeIf && !s.hst.cueQ.isEmpty

/-- R441: TCLK cycles until a tick time is reached; 0 when it has been. -/
def State.cyclesUntil (s : State) (t : Tick) : Nat :=
  let d := sdiff t s.tick * 2 ^ 32 - (s.tim.base.sub.toNat % 2 ^ 32 : Nat)
  if d ≤ 0 then 0 else ceilDiv d.toNat s.rate.toNat

/-- R441, R442: the head of cue queue `k` reaches its time: it is discarded when its sub-link is down, launches, or waits
behind a CUE frame. -/
def State.cqEntryDue (s : State) (k : Nat) : State :=
  match s.cqHead k with
  | none => s
  | some e =>
    let s := s.advance (s.cyclesUntil e.time)
    if !(s.ifUp (s.cqIf k e)) then (s.count .HST_CQ_DROP_CNT k).cqPop k
    else if s.cueFirst (s.cqIf k e) then { s with hst := { s.hst with cqDue := s.hst.cqDue.set k true } }
    else s.cqLaunch k e

/-- R441: a frame of rank 3 to 5 with `n` bytes before its FCS would still be in progress at the time of the head of the
port's cue queue. -/
def State.guarded (s : State) (j n : Nat) : Bool :=
  let k := j / 4
  match s.cqHead k with
  | none => false
  | some e =>
    let rate := if s.port100 k then 100 else 25
    let dur : Int := ((n + 24) * 8 * 65536 / rate : Nat)
    let left := sdiff e.time s.tick
    s.cqIf k e == j && decide (left ≤ (s.fld F.HST_CQ_GUARD_GUARD k * 65536 : Nat)) && decide (left < dur)

/-! ### The next frame -/

/-- R416: a frame that is no cue-queue frame has started. -/
def State.notCq (s : State) (j : Nat) : State := s.setHostIf j { s.hostIf j with lastCq := false }

/-- R417: the CUE frame: every CUE record queued, up to the MTU. -/
def State.cueFrame (s : State) (j : Nat) : State :=
  let rs := fitting (s.payloadWords j - 1) s.hst.cueQ
  let s := { s with hst := { s.hst with cueQ := s.hst.cueQ.drop rs.length } }
  (s.recordFrame j 0 .cue rs).notCq j

/-- The bytes before the FCS of a frame of these records. -/
def State.frameBytes (s : State) (j : Nat) (rs : List Record) : Nat :=
  let n := 8 + 8 * sumN (rs.map (fun r => r.words.length + 1)) + (if s.bit F.HST_IF_CFG_RAW j then 14 else 42) +
    (if s.bit F.HST_IF_CFG_VLAN_EN j then 4 else 0)
  max n 60

/-- R417: a ROUTINE frame. -/
def State.routineFrame (s : State) (j : Nat) : State :=
  let rs := fitting (s.payloadWords j - 1) s.hst.routineQ
  let s := { s with hst := { s.hst with
    routineQ := s.hst.routineQ.drop rs.length
    flushRoutine := false } }
  (s.recordFrame j 0 .routine rs).notCq j

/-- R417: a BULK frame. -/
def State.bulkFrame (s : State) (j : Nat) : State :=
  let rs := fitting (s.payloadWords j - 1) s.hst.bulkQ
  let s := { s with hst := { s.hst with
    bulkQ := s.hst.bulkQ.drop rs.length
    flushBulk := false } }
  let s := (s.recordFrame j 0 .bulk rs).notCq j
  s.setHostIf j { s.hostIf j with lastJob := false }

/-- R415, R417, R420: a frame of the job stream; records that have waited for room take the places that it leaves. -/
def State.jobFrame (s : State) (j : Nat) : State :=
  let rs := fitting (s.payloadWords j - 1) s.hst.jobQ
  let q := s.hst.jobQ.drop rs.length ++ s.hst.jobWait
  let s := { s with hst := { s.hst with
    jobQ := q.take 256
    jobWait := q.drop 256
    flushJob := false } }
  let s := (s.recordFrame j 1 .bulk rs).notCq j
  s.setHostIf j { s.hostIf j with lastJob := true }

/-- R417: a queue's frame is ready: it is full, or FLUSH has run out. -/
def State.frameReady (s : State) (j : Nat) (q : List Record) (flush : Bool) : Bool :=
  !q.isEmpty && (flush || s.frameFull j q)

/-- A frame of the records at the front of a queue is held back by the guard of R441. -/
def State.queueGuarded (s : State) (j : Nat) (q : List Record) : Bool :=
  s.guarded j (s.frameBytes j (fitting (s.payloadWords j - 1) q))

/-- R416: rank 5: the BULK queue and the job-stream queue in turn. -/
def State.rankFive (s : State) (j : Nat) : State :=
  let bulk := j == s.activeIf && s.frameReady j s.hst.bulkQ s.hst.flushBulk && !(s.queueGuarded j s.hst.bulkQ)
  let job := j == s.jobIf && s.frameReady j s.hst.jobQ s.hst.flushJob && !(s.queueGuarded j s.hst.jobQ)
  if bulk && (!job || (s.hostIf j).lastJob) then s.bulkFrame j
  else if job then s.jobFrame j
  else s

/-- R416: interface `j` starts its next frame at a frame boundary. -/
def State.frameStart (s : State) (j : Nat) : State :=
  if !(s.ifUp j) then s
  else
    let k := j / 4
    let timed := match s.cqHead k with
      | none => none
      | some e => if s.hst.cqDue.getD k false && s.cqIf k e == j && !(s.cueFirst j) then some e else none
    match timed with
    | some e => s.cqLaunch k e
    | none =>
      if j == s.activeIf && !s.hst.cueQ.isEmpty then s.cueFrame j
      else
        match (s.hostIf j).tx with
        | b :: rest =>
          if s.guarded j b.length then s
          else
            let s := s.setHostIf j { s.hostIf j with tx := rest }
            (s.sendFrame j b).notCq j
        | [] =>
          if j == s.activeIf && s.frameReady j s.hst.routineQ s.hst.flushRoutine && !(s.queueGuarded j s.hst.routineQ) then
            s.routineFrame j
          else s.rankFive j

/-- R417: FLUSH has run out for the records of a class. -/
def State.frameFlush (s : State) (c : LClass) : State :=
  match c with
  | .cue => s
  | .routine => { s with hst := { s.hst with flushRoutine := s.hst.flushRoutine || !s.hst.routineQ.isEmpty } }
  | .bulk => { s with hst := { s.hst with
      flushBulk := s.hst.flushBulk || !s.hst.bulkQ.isEmpty
      flushJob := s.hst.flushJob || !s.hst.jobQ.isEmpty } }

/-! ### Interfaces going up and down -/

/-- R421: an ARP packet of the interface. -/
def State.arpFrame (s : State) (j : Nat) (op : Nat) (dst tha : BitVec 48) (tpa : Word) : List Byte :=
  s.ethFrame j dst .routine 0x0806
    (beBytes 2 1 ++ beBytes 2 0x0800 ++ beBytes 1 6 ++ beBytes 1 4 ++ beBytes 2 op ++ beBytes 6 (s.ifMac j).toNat ++
      beBytes 4 (s.rd .HST_IF_IP j).toNat ++ beBytes 6 tha.toNat ++ beBytes 4 tpa.toNat)

/-- R409, R421: interface `j` comes up. -/
def State.hostUp (s : State) (j : Nat) : State :=
  let k := j / 4
  if s.ifEnabled j && s.ifLanesUp j && !(s.ifUp j) then
    let fec := s.port100 k || s.fld F.HST_PCFG_FEC25 k != 2
    let s := s.wr .HST_IF_STATUS j (BitVec.ofNat 32
      (32 + 8 * b2n fec + 4 * b2n (s.port100 k) + 2 + s.fld F.HST_PCFG_AN_EN k))
    let s := s.put F.HST_STATUS_LINK 0 (s.fld F.HST_STATUS_LINK ||| 2 ^ j)
    let s := s.raise F.HST_EVENT_LINK_UP
    let s := if s.bit F.HST_CTRL_GARP_EN then
        s.queueReply j (s.arpFrame j 1 (BitVec.allOnes 48) 0 (s.rd .HST_IF_IP j))
      else s
    s.showPath.updateSink
  else s

/-- R409: interface `j` is no longer up. -/
def State.hostLower (s : State) (j : Nat) (remote : Bool) : State :=
  let s := if remote then (s.put F.HST_IF_STATUS_UP j 0).put F.HST_IF_STATUS_RFAULT j 1 else s.wr .HST_IF_STATUS j 0
  let s := s.put F.HST_STATUS_LINK 0 (s.fld F.HST_STATUS_LINK - (s.fld F.HST_STATUS_LINK &&& 2 ^ j))
  let s := s.setHostIf j { HostIf.fresh with
    ipId := (s.hostIf j).ipId
    downAt := s.clk }
  s.showPath.updateSink

/-- R409, R536: interface `j` goes down, which is a LINK fault. -/
def State.hostDown (s : State) (j : Nat) (remote : Bool) : State :=
  if s.ifUp j then
    let s := s.raise F.HST_EVENT_LINK_DOWN
    (s.hostLower j remote).fault .link (32 + j) (s.fld F.LNE_LAST_CAUSE) 0
  else if remote then s.put F.HST_IF_STATUS_RFAULT j 1
  else s

/-- R409: a host lane leaves UP: the interfaces that it carries go down. -/
def State.hostLaneLost (s : State) (l : Nat) : State :=
  let k := (l - 88) / 4
  if s.port100 k then s.hostDown (4 * k) false else s.hostDown (l - 88) false

/-- R409: HST_PCFGk takes effect: a disabled port is down and has released its lanes (R404). -/
def State.hostEnable (s : State) (k : Nat) : State :=
  if s.bit F.HST_PCFG_EN k then s
  else (forBelow 4 (fun i t => if t.ifUp (4 * k + i) then t.hostLower (4 * k + i) false else t) s).quadReleased (88 + 4 * k)

/-- R392, R403: STANDBY entry takes every interface down. -/
def State.hostStandby (s : State) : State :=
  forBelow 16 (fun j t => if t.ifUp j then (t.raise F.HST_EVENT_LINK_DOWN).hostLower j false else t) s

/-- R418: the active interface has been down for LINKDN_TMO µs. -/
def State.downLong (s : State) : Bool :=
  !(s.ifUp s.activeIf) &&
    decide ((s.hostIf s.activeIf).downAt + 1000 * atLeast1 (s.fld F.HST_TX_CFG_LINKDN_TMO) ≤ s.clk)

/-- R418: the active interface has been down for LINKDN_TMO: the queues move to the other one. -/
def State.failover (s : State) : State :=
  let pri := s.fld F.HST_TX_CFG_PRI
  let alt := s.fld F.HST_TX_CFG_ALT
  let next := if s.activeIf == pri then alt else pri
  if s.bit F.HST_TX_CFG_ALT_EN && s.downLong && s.ifUp next && next != s.activeIf then
    let s := s.put F.HST_STATUS_ACTIVE 0 next
    ((s.raise F.HST_EVENT_FAILOVER).count .HST_FAILOVER_CNT).showPath
  else s

/-! ### Received frames -/

/-- What a received frame is, once it has passed the checks of R414. -/
inductive RxKind where
  | drop
  | arp (sha : BitVec 48) (spa : Word)
  | other                        -- accepted, and nothing to answer
  | icmp (mac : BitVec 48) (ip : Word) (body : List Byte)
  | mgmt (r : MgmtReq)
  deriving DecidableEq, Repr

/-- Octets of a frame, as a number in network order. -/
def octets (bs : List Byte) (at_ n : Nat) : Nat := ofBeBytes ((bs.drop at_).take n)

/-- R437: the MAC and IPv4 addresses to which PTP messages come. -/
def ptpMacs : List Nat := [0x011B19000000, 0x0180C200000E, 0x01005E000181, 0x01005E00006B]

/-- R437: 224.0.1.129 and 224.0.0.107. -/
def ptpIps : List Nat := [0xE0000181, 0xE000006B]

/-- R437: a PTP message that is ignored and counted as a received drop: Signaling (12) and management (13). -/
def ptpDropped (b : List Byte) : Bool :=
  let t := octets b 0 1 % 16
  t == 12 || t == 13

/-- R414, R422: the words of a management datagram; the length does not match when it is no whole number of words. -/
def mgmtWords (n : Nat) (bs : List Byte) : List DWord :=
  match n with
  | 0 => []
  | k + 1 => BitVec.ofNat 64 (ofBeBytes (bs.take 8)) :: mgmtWords k (bs.drop 8)

/-- R414: a UDP datagram `u` from `ip`, with its pseudo-header's destination. -/
def State.udpKind (s : State) (j : Nat) (mac : BitVec 48) (ip dst : Nat) (u : List Byte) : RxKind :=
  let len := octets u 4 2
  let pseudo := beBytes 4 ip ++ beBytes 4 dst ++ beBytes 2 17 ++ beBytes 2 len
  let dport := octets u 2 2
  if u.length < len || len < 8 then .drop
  else if octets u 6 2 != 0 && inetSum (pseudo ++ u.take len) != 0 then .drop
  else if dport == s.fld F.HST_MGMT_CFG_UDP && dst == (s.rd .HST_IF_IP j).toNat then
    let body := (u.take len).drop 8
    let n := body.length / 8
    .mgmt ⟨j, mac, BitVec.ofNat 32 ip, BitVec.ofNat 16 (octets u 0 2), mgmtWords n body, body.length % 8 != 0⟩
  else if (dport == 319 || dport == 320) && j == s.fld F.TIM_CTRL_PTP_IF && !s.bit F.TIM_CTRL_ETH then
    (if ptpDropped (u.drop 8) then .drop else .other)
  else .drop

/-- R414: an IPv4 packet. -/
def State.ipKind (s : State) (j : Nat) (mac : BitVec 48) (b : List Byte) : RxKind :=
  let total := octets b 2 2
  let dst := octets b 16 4
  let ip := octets b 12 4
  let body := (b.take total).drop 20
  if b.length < 20 || octets b 0 1 != 0x45 || inetSum (b.take 20) != 0 || octets b 6 2 % 2 ^ 14 != 0 then .drop
  else if b.length < total || !(dst == (s.rd .HST_IF_IP j).toNat || ptpIps.contains dst) then .drop
  else
    match octets b 9 1 with
    | 1 => if octets body 0 2 == 0x0800 then .icmp mac (BitVec.ofNat 32 ip) (body.drop 4) else .drop
    | 17 => s.udpKind j mac ip dst body
    | _ => .drop

/-- R414: what a received frame, its FCS last, is. -/
def State.rxKind (s : State) (j : Nat) (bytes : List Byte) : RxKind :=
  let n := bytes.length
  let f := bytes.take (n - 4)
  let dst := octets f 0 6
  let mac : BitVec 48 := BitVec.ofNat 48 (octets f 6 6)
  let tagged := octets f 12 2 == 0x8100
  let e := if tagged then 16 else 12
  let etype := octets f e 2
  let body := f.drop (e + 2)
  let vlanOk := if s.bit F.HST_IF_CFG_VLAN_EN j then
      tagged && octets f 14 2 % 4096 == s.fld F.HST_IF_CFG_VID j
    else !tagged
  let dstOk := dst == (s.ifMac j).toNat || (etype == 0x0806 && dst == 0xFFFFFFFFFFFF) || ptpMacs.contains dst
  if n < 64 || s.mtu j + 22 < n || ofLeBytes (bytes.drop (n - 4)) != crc32 f || !dstOk || !vlanOk then .drop
  else if etype == 0x0806 then
    (if octets body 6 2 == 1 && octets body 24 4 == (s.rd .HST_IF_IP j).toNat then
      .arp (BitVec.ofNat 48 (octets body 8 6)) (BitVec.ofNat 32 (octets body 14 4))
    else .other)
  else if etype == 0x0800 then s.ipKind j mac body
  else if etype == 0x88F7 && j == s.fld F.TIM_CTRL_PTP_IF && s.bit F.TIM_CTRL_ETH then
    (if ptpDropped body then .drop else .other)
  else .drop

/-- R414, R429: a frame is received: dropped, or passed on. -/
def State.frameRx (s : State) (j : Nat) (bytes : List Byte) : State :=
  if !(s.ifUp j) then s
  else
    let x := s.hostIf j
    match s.rxKind j bytes with
    | .drop => s.count .HST_RX_DROP_CNT j
    | .other => s.count .HST_RX_FRAME_CNT j
    | .arp sha spa => (s.setHostIf j { x with rx := x.rx ++ [.arp sha spa] }).count .HST_RX_FRAME_CNT j
    | .icmp mac ip body => (s.setHostIf j { x with rx := x.rx ++ [.icmp mac ip body] }).count .HST_RX_FRAME_CNT j
    | .mgmt r =>
      let s := s.count .HST_RX_FRAME_CNT j
      if 16 ≤ s.hst.mq.length then s.count .HST_MGMT_OVF_CNT
      else { s with hst := { s.hst with mq := s.hst.mq ++ [r] } }

/-- An ARP request that waits. -/
def RxMsg.isArp (m : RxMsg) : Bool :=
  match m with
  | .arp _ _ => true
  | .icmp _ _ _ => false

/-- R421: the oldest ARP request is answered. -/
def State.arpAnswer (s : State) (j : Nat) : State :=
  let x := s.hostIf j
  match x.rx.find? RxMsg.isArp with
  | some (.arp sha spa) =>
    let s := s.setHostIf j { x with rx := x.rx.erase (.arp sha spa) }
    if s.bit F.HST_CTRL_ARP_EN then (s.queueReply j (s.arpFrame j 2 sha sha spa)).count .HST_ARP_CNT j else s
  | _ => s

/-- R421: one of the 1,000 answers of a second is taken; TCLK runs at 10^9 cycles per second. -/
def HostIf.takeIcmp (x : HostIf) (clk : Nat) : Option HostIf :=
  if x.icmpSince + 1000000000 ≤ clk || x.icmpCount == 0 then some { x with icmpSince := clk, icmpCount := 1 }
  else if x.icmpCount < 1000 then some { x with icmpCount := x.icmpCount + 1 }
  else none

/-- R421: the oldest echo request is answered within the rate limit. -/
def State.icmpAnswer (s : State) (j : Nat) : State :=
  let x := s.hostIf j
  match x.rx.find? (fun m => !m.isArp) with
  | some (.icmp mac ip body) =>
    let x := { x with rx := x.rx.erase (.icmp mac ip body) }
    let s := s.setHostIf j x
    if s.bit F.HST_CTRL_ICMP_EN && body.length ≤ 1476 then
      match x.takeIcmp s.clk with
      | none => s.count .HST_RX_DROP_CNT j
      | some y =>
        let s := s.setHostIf j y
        let msg := beBytes 4 (inetSum (beBytes 4 0 ++ body)) ++ body
        let d := s.ipDatagram j ip 1 msg
        (d.2.queueReply j (d.2.ethFrame j mac .routine 0x0800 d.1)).count .HST_ICMP_CNT j
    else s
  | _ => s

/-! ### Management: requests, replies and sessions -/

/-- Fields of word 0 of a request (R422). -/
def MgmtReq.w0 (r : MgmtReq) : Nat := (r.words.getD 0 0).toNat

/-- OP of a request. -/
def MgmtReq.op (r : MgmtReq) : Nat := bitsOf r.w0 56 4

/-- N of a request. -/
def MgmtReq.n (r : MgmtReq) : Nat := bitsOf r.w0 48 8

/-- SESSION of a request. -/
def MgmtReq.session (r : MgmtReq) : Nat := bitsOf r.w0 32 16

/-- RID of a request. -/
def MgmtReq.rid (r : MgmtReq) : Word := BitVec.ofNat 32 r.w0

/-- R422: N fits OP: 1 to 64 for READ and WRITE, 69 for OPEN, 0 for CHALLENGE and CLOSE. -/
def MgmtReq.nOk (r : MgmtReq) : Bool :=
  match r.op with
  | 0 => 1 ≤ r.n && r.n ≤ 64
  | 1 => 1 ≤ r.n && r.n ≤ 64
  | 2 => r.n == 0
  | 3 => r.n == 69
  | 4 => r.n == 0
  | _ => false

/-- R422: a request is well formed. -/
def MgmtReq.ok (r : MgmtReq) : Bool :=
  !r.badLen && r.words.length == r.n + 1 && bitsOf r.w0 60 4 == 1 && r.nOk

/-- R422: the words of a reply; `session` takes the place of SESSION in word 0. -/
def MgmtReq.reply (r : MgmtReq) (session status : Nat) (res : List DWord) : List DWord :=
  packWord [(60, bitsOf r.w0 60 4), (56, r.op), (48, res.length), (32, session), (0, r.rid.toNat)] ::
    packWord [(56, status)] :: res

/-- R422: a reply goes back to where the request came from. -/
def State.mgmtReply (s : State) (r : MgmtReq) (ws : List DWord) : State :=
  let d := s.udpDatagram r.iface r.ip (s.fld F.HST_MGMT_CFG_UDP) r.port.toNat (ws.flatMap (fun w => beBytes 8 w.toNat))
  d.2.queueReply r.iface (d.2.ethFrame r.iface r.mac .routine 0x0800 d.1)

/-- A reply that carries a status alone. -/
def State.mgmtStatus (s : State) (r : MgmtReq) (status : Nat) : State := s.mgmtReply r (r.reply r.session status [])

/-- The request served next leaves the queue. -/
def State.mqPop (s : State) : State := { s with hst := { s.hst with mq := s.hst.mq.drop 1 } }

/-- The request served next, when it is well formed and of an operation. -/
def State.mqHead (s : State) (op : Nat) : Option MgmtReq :=
  match s.hst.mq with
  | [] => none
  | r :: _ => if r.ok && r.op == op then some r else none

/-- HST_STATUS.SESS counts the open sessions. -/
def State.showSessions (s : State) : State :=
  s.put F.HST_STATUS_SESS 0 (s.hst.sessions.filter (fun x => x.isSome)).length

/-- R425: session slot `k` ends. -/
def State.endSession (s : State) (k : Nat) : State :=
  ({ s with hst := { s.hst with sessions := s.hst.sessions.set k none } }).showSessions

/-- R425: session slot `k` has reached its LIFE since its OPEN, or IDLE without a request, on the always-on clock. -/
def State.sessionOver (s : State) (k : Nat) : Bool :=
  match s.hst.sessions.getD k none with
  | none => false
  | some x => decide (x.openedAt + 1000000000 * x.life ≤ s.clk) ||
      decide (x.usedAt + 1000000000 * atLeast1 (s.fld F.HST_MGMT_CFG_IDLE) ≤ s.clk)

/-- R425: every session ends: at any entry to LOAD, STANDBY or DARK. -/
def State.endSessions (s : State) : State := forBelow 4 (fun k t => t.endSession k) s

/-- R422, R424: the session of a request: its slot, bound to the request's source. -/
def State.sessionOf (s : State) (r : MgmtReq) : Option (Nat × Session) :=
  (List.range 4).findSome? (fun k =>
    match s.hst.sessions.getD k none with
    | none => none
    | some x =>
      if x.id.toNat == r.session && r.session != 0 && x.ip == r.ip && x.port == r.port then some (k, x) else none)

/-- Change the session in slot `k`. -/
def State.setSession (s : State) (k : Nat) (x : Session) : State :=
  { s with hst := { s.hst with sessions := s.hst.sessions.set k (some x) } }

/-- R426: how a request's RID stands to the session's last. -/
inductive RidOrder where
  | fresh | again | stale
  deriving DecidableEq, Repr

/-- R426: the comparison by signed difference. -/
def Session.order (x : Session) (rid : Word) : RidOrder :=
  match x.lastRid with
  | none => .fresh
  | some q => if rid == q then .again else if after rid q then .fresh else .stale

/-- R426: a request of a session with its reply: `run` executes it; only a request that is done counts as executed. One that
has reset the device (a WRITE of RELOAD) gets no reply. -/
def State.inSession (s : State) (r : MgmtReq) (k : Nat) (x : Session) (run : State → List DWord × State) : State :=
  let x := { x with usedAt := s.clk }
  match x.order r.rid with
  | .stale => ((s.setSession k x).mgmtStatus r 4).count .HST_STALE_CNT
  | .again => (s.setSession k x).mgmtReply r x.reply
  | .fresh =>
    let o := run (s.setSession k x)
    match o.2.hst.sessions.getD k none with
    | none => o.2
    | some _ =>
      let t := (o.2.setSession k { x with
        lastRid := some r.rid
        reply := o.1 }).mgmtReply r o.1
      if bitsOf (o.1.getD 1 0).toNat 56 8 == 0 then t.count .HST_MGMT_REQ_CNT else t

/-- R424: a CHALLENGE is answered with a fresh nonce, which replaces an older one of the same source. -/
def State.mgmtChallenge (s : State) : State :=
  match s.mqHead 2 with
  | none => s
  | some r =>
    let d := s.mqPop.drawFree
    let s := d.2
    let keep := s.hst.nonces.filter (fun x => !(x.ip == r.ip && x.port == r.port))
    let s := { s with hst := { s.hst with nonces := keep ++ [(⟨r.ip, r.port, d.1, s.clk⟩ : Nonce)] } }
    (s.mgmtReply r (r.reply r.session 0 [d.1])).count .HST_MGMT_REQ_CNT

/-- R424: an OPEN goes to verification, and other requests are served meanwhile. -/
def State.mgmtOpen (s : State) : State :=
  match s.mqHead 3 with
  | none => s
  | some r =>
    let s := s.mqPop
    { s with hst := { s.hst with opens := s.hst.opens ++ [r] } }

/-- R424: a nonce has reached its 10 s on the model's clock. -/
def Nonce.old (x : Nonce) (clk : Nat) : Bool := decide (x.since + 10000000000 ≤ clk)

/-- R424: the checks of a token beside its signature. -/
def State.tokenOk (s : State) (r : MgmtReq) : Bool :=
  let w (i : Nat) : DWord := r.words.getD (i + 1) 0
  s.sec.opkey.isSome && s.hst.nonces.any (fun x => x.ip == r.ip && x.port == r.port && x.value == w 0 && !(x.old s.clk)) &&
    w 1 == s.serial && bitsOf (w 2).toNat 32 32 == r.ip.toNat && bitsOf (w 2).toNat 16 16 == r.port.toNat

/-- R424: the next session identifier, which skips 0. -/
def nextSession (c : BitVec 16) : BitVec 16 := if c + 1 == 0 then 1 else c + 1

/-- R424: the verification of the oldest OPEN completes; `sigOk` is what the signature engine finds. -/
def State.mgmtOpenVerified (s : State) (sigOk : Bool) : State :=
  match s.hst.opens with
  | [] => s
  | r :: rest =>
    let ok := sigOk && s.tokenOk r
    let s := { s with hst := { s.hst with
      opens := rest
      nonces := s.hst.nonces.filter (fun x => !(x.ip == r.ip && x.port == r.port && x.value == r.words.getD 1 0)) } }
    if !ok then ((s.mgmtStatus r 5).count .HST_TOKEN_FAIL_CNT).raise F.HST_EVENT_TOKEN_FAIL
    else
      match (List.range 4).find? (fun k => (s.hst.sessions.getD k none).isNone) with
      | none => s.mgmtStatus r 6
      | some k =>
        let id := nextSession s.hst.sessCount
        let s := { s with hst := { s.hst with sessCount := id } }
        let x : Session := ⟨id, r.ip, r.port, r.words.getD 4 0, bitsOf (r.words.getD 3 0).toNat 0 16, none, [], s.clk, s.clk⟩
        let s := s.setSession k x
        (s.showSessions.mgmtReply r (r.reply id.toNat 0 [])).count .HST_MGMT_REQ_CNT

/-- R425: a CLOSE ends the session. -/
def State.mgmtClose (s : State) : State :=
  match s.mqHead 4 with
  | none => s
  | some r =>
    let s := s.mqPop
    match s.sessionOf r with
    | none => s.mgmtStatus r 2
    | some (k, x) =>
      if x.order r.rid == .fresh then
        ((s.endSession k).mgmtReply r (r.reply r.session 0 [])).count .HST_MGMT_REQ_CNT
      else s.inSession r k x (fun t => ([], t))

/-- R422: a malformed request is answered MALFORMED; one without word 0 has nothing to answer. -/
def State.mgmtMalformed (s : State) : State :=
  match s.hst.mq with
  | [] => s
  | r :: _ =>
    if r.ok then s
    else if r.words.isEmpty then s.mqPop
    else s.mqPop.mgmtStatus r 3

end Sys2Proof.Machine
end

