-- ==== Sys2Proof/Machine/MrkOps.lean ====
section
/-! DEFINITION. Machine/MrkOps.lean: the marking heads (spec/10): scheduling, bursts, lines, head temperature. -/

namespace Sys2Proof.Machine

/-- A head port as it starts. -/
def MrkPort.fresh : MrkPort := ⟨none, none, false, 0, false, 0, 0, none, 0, none⟩

/-- One head port. -/
def State.mrkPort (s : State) (m : Nat) : MrkPort := s.mrk.ports.getD m MrkPort.fresh

/-- Change one head port. -/
def State.setMrkPort (s : State) (m : Nat) (x : MrkPort) : State :=
  { s with mrk := { s.mrk with ports := s.mrk.ports.set m x } }

/-- A port is enabled (R296, R298). -/
def State.mrkOn (s : State) (m : Nat) : Bool := s.bit F.MRK_CTRL_EN && s.bit F.MRK_PCTL_EN m

/-- The schedule changes: MRK_SCHED and MRK_PSTATm.ACTIVE follow it. -/
def State.setMarks (s : State) (ms : List Mark) : State :=
  let s := { s with mrk := { s.mrk with marks := ms } }
  let s := s.put F.MRK_SCHED_USED 0 ms.length
  let s := s.put F.MRK_SCHED_PEAK 0 (max (s.fld F.MRK_SCHED_PEAK) ms.length)
  forBelow 4 (fun m t =>
    t.put F.MRK_PSTAT_ACTIVE m ((ms.filter (fun x => x.port == m && x.join.isSome)).length)) s

/-- R295: the delay table entry of a nozzle. -/
def State.nozzleEntry (s : State) (m n : Nat) : Nat := (s.tab (0x11400000 + 0x2000 * m + 4 * n)).toNat

/-- DLY of a nozzle, in marking lines. -/
def State.nozzleDelay (s : State) (m n : Nat) : Nat := s.nozzleEntry m n % 256

/-- The nozzles fitted to a port. -/
def State.nozzles (s : State) (m : Nat) : Nat := min (s.fld F.MRK_PCTL_NOZ m) 1280

/-- R295: X of a nozzle. -/
def State.nozzleX (s : State) (m n : Nat) : Int :=
  signedOf 40 (s.getPair .MRK_X0_L .MRK_X0_H m) + (n : Int) * signedOf 32 (s.rd .MRK_XPITCH m).toNat

/-- R298: the nozzles of a port that are not disabled and lie within the box and its margin. -/
def State.markSelection (s : State) (m : Nat) (r : MarkReq) : List Nat :=
  let mx : Int := 1024 * (s.fld F.MRK_MARGIN_MARGIN_X : Int)
  (List.range (s.nozzles m)).filter (fun n =>
    !bitAt (s.nozzleEntry m n) 8 && decide (r.xmin.toInt - mx ≤ s.nozzleX m n)
      && decide (s.nozzleX m n ≤ r.xmax.toInt + mx))

/-- LPITCH in µm. -/
def State.linePitch (s : State) : Nat := atLeast1 (s.fld F.MRK_LPITCH_LPITCH)

/-- G − (P + v × ADV) in units of 2^-32 × 10^-9 µm (R299, R300). -/
def State.markAhead (s : State) (g : YPos) : Int :=
  sdiff (BitVec.ofNat 72 (g.toNat * 2 ^ 32)) s.pos.p * 1000000000
    - (s.speed : Int) * s.fld F.MRK_ADV_ADV * 2 ^ 32

/-- R300: a compare target has been reached. -/
def State.markDue (s : State) (g : YPos) : Bool := decide (s.markAhead g ≤ 0)

/-- R312: the class of a mark's MARK_RESULT. -/
def State.markClass (s : State) (cls : Nat) : LClass :=
  if s.classL cls == .bulk then .bulk else .routine

/-- R303: the line of the running burst, or from the mark's next joining line, at which nozzle `n` fires row `r`. -/
def State.rowLine (s : State) (x : Mark) (r n : Nat) : Int :=
  (x.join.getD x.offset) + (r : Int) + (s.nozzleDelay x.port n : Int)

/-- The next line of the port's burst; 0 when none runs. -/
def State.nextMarkLine (s : State) (m : Nat) : Nat :=
  match (s.mrkPort m).burst with
  | none => 0
  | some b => b.next

/-- R312: the rows that every selected nozzle has fired; a mark without a selection has fired none. -/
def State.rowsFired (s : State) (x : Mark) : Nat :=
  let next : Int := if x.join.isSome then (s.nextMarkLine x.port : Int) else 0
  if x.sel.isEmpty then 0 else countBelow x.rows (fun r => !x.spoiled.contains r && x.sel.all (fun n => decide (s.rowLine x r n < next)))

/-- R312: the words of a MARK_RESULT from word 1 on; `reason` 0 is PLACED. -/
def markWords (now : Tick) (x : Mark) (reason fired : Nat) : List DWord :=
  let first := x.first.getD (now, 0)
  [first.1,
   packWord [(60, x.cls), (58, x.port), (57, b2n (reason != 0)), (53, reason), (40, x.flags), (0, x.oid.toNat)],
   packWord [(48, x.rows), (32, fired), (16, x.bursts)],
   zext64 x.ystart, zext64 x.yend, zext64 first.2,
   packWord [(32, x.tau), (16, x.w), (14, x.band), (0, x.temp)]]

/-- R312: a mark's MARK_RESULT is emitted and counted. -/
def State.markResult (s : State) (x : Mark) (reason : Nat) : State :=
  let s := s.formRecord (s.markClass x.cls) 0x40 (markWords s.tick x reason (s.rowsFired x)) []
  if reason == 0 then s.count .MRK_PLACED_CNT
  else
    let s := (s.count .MRK_NOTPL_CNT).raise F.MRK_EVENT_NOT_PLACED
    if reason == 3 then s.raise F.MRK_EVENT_SCHED_FULL else s

/-- A mark leaves the schedule with its result. -/
def State.endMark (s : State) (x : Mark) (reason : Nat) : State :=
  (s.markResult x reason).setMarks (s.mrk.marks.filter (fun y => !(y == x)))

/-- R298: the mark that a request gives on port `m`. -/
def State.markFor (s : State) (m : Nat) (r : MarkReq) (sel : List Nat) : Mark :=
  let my : YPos := BitVec.ofNat 40 (s.fld F.MRK_MARGIN_MARGIN_Y)
  let y0 := r.ymin - my
  let ylast := if r.cue then later r.ymax (r.ymin + BitVec.ofNat 40 (s.fld F.MRK_CUE_LEN_CUE_LEN)) else r.ymax
  let y1 := ylast + my
  let n := ceilDiv (sdiff y1 y0 + 1).toNat s.linePitch
  let rows := min (max n 1) 65535
  ⟨m, r.src, r.oid, r.cls, r.cue, rows, y0, y1, y0 + BitVec.ofNat 40 (s.fld F.MRK_DIST_DIST m), sel,
    b2n r.cue + (if n > 65535 then 16 else 0), none, 0, [], 0, none, 0, 0, 0, 0⟩

/-- R299: why MRK refuses a mark: 7 MODE, 6 FAULT, 1 LATE, 3 FULL; 0 when it does not. -/
def State.markRefusal (s : State) (x : Mark) : Nat :=
  if s.mode != .perform then 7
  else if s.fld F.MRK_PSTAT_STATE x.port == 2 then 6
  else if s.markAhead x.target < (s.fld F.MRK_LEAD_LEAD : Int) * 2 ^ 32 * 1000000000 then 1
  else if s.mrk.marks.length ≥ (if x.cue then 1024 else 960) then 3
  else 0

/-- The marks of a port that its burst carries. -/
def State.burstMarks (s : State) (m : Nat) : List Mark :=
  s.mrk.marks.filter (fun x => x.port == m && x.join.isSome)

/-- The marks of a port that wait for their compare, the earliest target first. -/
def State.waitingMarks (s : State) (m : Nat) : List Mark :=
  sortBy (fun a b => after b.target a.target) (s.mrk.marks.filter (fun x => x.port == m && x.join.isNone))

/-- R303: the rows of a mark of which some nozzle fires in line `k`. -/
def State.rowsAt (s : State) (x : Mark) (k : Nat) : List Nat :=
  (List.range x.rows).filter (fun r => x.sel.any (fun n => decide (s.rowLine x r n = (k : Int))))

/-- R303: the nozzles that fire in line `k`. -/
def State.lineNozzles (s : State) (m k : Nat) : List Nat :=
  (List.range (s.nozzles m)).filter (fun n => (s.burstMarks m).any (fun x =>
    x.sel.contains n && decide (0 ≤ (k : Int) - s.rowLine x 0 n) && decide ((k : Int) - s.rowLine x 0 n < x.rows)))

/-- R294: the data line that feeds a nozzle. -/
def dotLine (n : Nat) : Nat := 4 * (n % 2) + n / 2 % 4

/-- R294: the slot of a nozzle on its data line. -/
def dotSlot (n : Nat) : Nat := n / 8

/-- R294: the bits of data line SDd for a set of nozzles in the order shifted, slot 159 first. -/
def dotBits (nozzles : List Nat) (d : Nat) : List Bool :=
  (List.range 160).map (fun i => nozzles.any (fun n => dotLine n == d && dotSlot n == 159 - i))

/-- R294, R308: the data of the next line shift, unless the port is HOT or they have been shifted. -/
def State.shiftData (s : State) (m : Nat) (nozzles : List Nat) : State :=
  let p := s.mrkPort m
  if s.bit F.MRK_PSTAT_HOT m || p.loaded == some nozzles then s
  else (s.setMrkPort m { p with loaded := some nozzles }).emit (.markLine m ((List.range 8).map (dotBits nozzles)))

/-- R304, R306: the waiting marks whose rows line 0 of the next burst takes: the earliest one, and with a mark carried over by
a split all that were carried over with it. -/
def State.firstMarks (s : State) (m : Nat) : List Mark :=
  match s.waitingMarks m with
  | [] => []
  | x :: r => x :: (if x.bursts == 0 then [] else r.filter (fun y => y.bursts != 0 && y.target == x.target))

/-- R306: with no burst running, the data of line 0 of the next burst shift. -/
def State.shiftFirst (s : State) (m : Nat) : State :=
  let xs := s.firstMarks m
  if (s.mrkPort m).burst.isSome || xs.isEmpty then s
  else s.shiftData m ((List.range (s.nozzles m)).filter (fun n => xs.any (fun x =>
    x.sel.contains n && decide (s.rowLine x 0 n ≤ 0) && decide (-(s.rowLine x 0 n) < x.rows))))

/-- R306, and step 4 of a line's timing: the data of the next line shift. -/
def State.shiftNext (s : State) (m : Nat) : State :=
  match (s.mrkPort m).burst with
  | none => s.shiftFirst m
  | some b => s.shiftData m (s.lineNozzles m b.next)

/-- R298, R299: MRK takes a mark request. -/
def State.markRequest (s : State) (r : MarkReq) : State :=
  let s := s.count .MRK_REQ_CNT
  let cands := (List.range 4).filterMap (fun m =>
    if s.mrkOn m then
      let sel := s.markSelection m r
      if sel.isEmpty then none else some (s.markFor m r sel)
    else none)
  if cands.isEmpty then s.markResult (s.markFor 0 r []) 2
  else cands.foldl (fun t x =>
    let why := t.markRefusal x
    if why == 0 then (t.setMarks (t.mrk.marks ++ [x])).shiftFirst x.port else t.markResult x why) s

/-- The largest strobe width of the port's bands, units of 10 ns. -/
def State.maxStrobe (s : State) (m : Nat) : Nat :=
  max (max (s.fld F.MRK_STRW01_W0 m) (s.fld F.MRK_STRW01_W1 m)) (max (s.fld F.MRK_STRW23_W2 m) (s.fld F.MRK_STRW23_W3 m))

/-- LATCH_W in ns. -/
def State.latchW (s : State) (m : Nat) : Nat := max (s.fld F.MRK_LATCH_LATCH_W m) 10

/-- R294: T_shift in ns. -/
def State.shiftTime (s : State) (m : Nat) : Nat := 160 * max (s.fld F.MRK_PCTL_SCLK_DIV m) 20

/-- R301: τ_min in ns. -/
def State.tauMin (s : State) (m : Nat) : Nat :=
  max (s.shiftTime m + s.latchW m + 20) (s.latchW m + 20 + 10 * s.maxStrobe m + 100)

/-- Firings of POS's REVERSE and STOP so far (R304). -/
def State.posTurns (s : State) : Nat :=
  match producerOf F.POS_EVENT_REVERSE, producerOf F.POS_EVENT_STOP with
  | some a, some b => spGet 0 s.evt.fired a + spGet 0 s.evt.fired b
  | _, _ => 0

/-- R301, R302: a burst starts on a port at target `g`. In position mode the spec gives no τ: a free value stands for it
in MARK_RESULT (notes/assumptions/3). -/
def State.burstStart (s : State) (m : Nat) (g : YPos) : State :=
  if s.speedValid then
    let v := s.speed
    let t := if v == 0 then s.tauMin m else (roundHalfUpDiv (s.linePitch * 1000000000 : Nat) v).toNat
    let stretched := decide (t < s.tauMin m)
    let s := if stretched then (s.count .MRK_STRETCH_CNT).raise F.MRK_EVENT_STRETCH else s
    let b : Burst := ⟨g, max t (s.tauMin m), false, stretched, 0, s.clk, s.clk, s.posTurns⟩
    s.setMrkPort m { s.mrkPort m with burst := some b }
  else
    let f := s.drawFree
    let b : Burst := ⟨g, f.1.toNat % 2 ^ 32, true, false, 0, s.clk, s.clk, s.posTurns⟩
    f.2.setMrkPort m { f.2.mrkPort m with burst := some b }

/-- R303, R304: a waiting mark joins the burst of its port at its line, or is refused with BUSY. The mark that starts a burst
and those that a split carried to line 0 have their data in it; for the others the line's shift must not have begun. -/
def State.markJoin (s : State) (x : Mark) (b : Burst) (first : Bool) : State :=
  if (s.burstMarks x.port).length ≥ 16 then s.endMark x 4
  else
    let zero := first || (b.next == 0 && x.bursts != 0 && x.target == b.g)
    let least := if zero then 0 else if (s.mrkPort x.port).loaded.isSome then b.next + 1 else b.next
    let k := max (ceilDiv (sdiff x.target b.g).toNat s.linePitch) least
    let y := { x with
      join := some ((k : Int) + x.offset)
      bursts := x.bursts + 1
      tau := if x.bursts == 0 then b.tau else x.tau
      flags := x.flags ||| (if b.stretched then 2 else 0) ||| (if b.posMode then 8 else 0) }
    s.setMarks (s.mrk.marks.map (fun z => if z == x then y else z))

/-- R300, R301, R303: the compare of a waiting mark fires. -/
def State.markCompare (s : State) (x : Mark) : State :=
  match (s.mrkPort x.port).burst with
  | some b => s.markJoin x b false
  | none =>
    let s := s.burstStart x.port x.target
    match (s.mrkPort x.port).burst with
    | some b => s.markJoin x b true
    | none => s

/-- R307: the band of a temperature in 1/8 °C. -/
def State.bandOf (s : State) (m : Nat) (t : Int) : Nat :=
  let th (f : Fld) : Int := 8 * signedOf 8 (s.fld f m)
  if th F.MRK_BAND_T3 ≤ t then 3 else if th F.MRK_BAND_T2 ≤ t then 2 else if th F.MRK_BAND_T1 ≤ t then 1 else 0

/-- The strobe width of a band, units of 10 ns (R307). -/
def State.strobeW (s : State) (m band : Nat) : Nat :=
  match band with
  | 0 => s.fld F.MRK_STRW01_W0 m
  | 1 => s.fld F.MRK_STRW01_W1 m
  | 2 => s.fld F.MRK_STRW23_W2 m
  | _ => s.fld F.MRK_STRW23_W3 m

/-- What a line leaves in a mark that has rows in it (R303, R308, R312). LATCH rises one TCLK cycle after the line starts. -/
def State.markLineDone (s : State) (x : Mark) (k : Nat) (hot : Bool) (band w temp : Nat) : Mark :=
  let rs := s.rowsAt x k
  if rs.isEmpty then x
  else
    let x := if s.bit F.POS_STATUS_UNCERTAIN then { x with flags := x.flags ||| 32 } else x
    if hot then { x with spoiled := x.spoiled ++ rs.filter (fun r => !x.spoiled.contains r) }
    else if x.first.isSome then x
    else { x with
      first := some ((s.addTime s.rate).tick, BitVec.ofNat 40 (s.pos.p.toNat / 2 ^ 32))
      w := w
      band := band
      temp := temp }

/-- A mark has no rows left after line `k`. -/
def State.markOver (s : State) (x : Mark) (k : Nat) : Bool :=
  x.sel.all (fun n => decide (s.rowLine x (x.rows - 1) n ≤ (k : Int)))

/-- R304: the burst ends or splits after the line before `b.next`. -/
def State.burstCheck (s : State) (m : Nat) (b : Burst) : State :=
  let left := s.burstMarks m
  let gap := if b.posMode then s.clk - b.start + s.tauMin m else b.next * b.tau
  let turned := s.posTurns != b.turns
  if left.isEmpty || turned || b.next ≥ atLeast1 (s.fld F.MRK_BURST_BURST_MAX)
      || gap > 1000 * atLeast1 (s.fld F.MRK_BURST_TMAX) then
    let s := s.setMrkPort m { s.mrkPort m with burst := none }
    if left.isEmpty then s.shiftFirst m
    else
      let g := b.g + BitVec.ofNat 40 (b.next * s.linePitch)
      let carried (x : Mark) : Mark := { x with
        offset := (x.join.getD 0) - (b.next : Int)
        join := none
        target := g
        flags := x.flags ||| 4 ||| (if turned then 64 else 0) }
      let s := s.setMarks (s.mrk.marks.map (fun x => if x.port == m && x.join.isSome then carried x else x))
      (s.count .MRK_SPLIT_CNT).shiftFirst m
  else s

/-- R301 to R304, R308: the next line of a port's burst starts. -/
def State.lineStart (s : State) (m : Nat) : State :=
  match (s.mrkPort m).burst with
  | none => s
  | some b =>
    let k := b.next
    let hot := s.bit F.MRK_PSTAT_HOT m
    let temp := s.fld F.MRK_PSTAT_TEMP m
    let band := s.bandOf m (signedOf 12 temp)
    let w := s.strobeW m band
    let s := s.setMarks (s.mrk.marks.map (fun x =>
      if x.port == m && x.join.isSome then s.markLineDone x k hot band w temp else x))
    let b := { b with next := k + 1, lastStart := s.clk }
    let s := if hot then s.count .MRK_SUPP_LINE_CNT else s.emit (.markPin m true false)
    let p := s.mrkPort m
    let s := s.setMrkPort m (if hot then { p with
        burst := some b
        loaded := none }
      else { p with
        burst := some b
        loaded := none
        latchHigh := true
        latchAt := s.clk + 1
        width := 10 * w })
    let past := (s.burstMarks m).filter (fun x => s.markOver x k)
    let s := past.foldl (fun t x => t.endMark x (if x.spoiled.isEmpty then 0 else 5)) s
    s.burstCheck m b

/-- R311: a port's outputs go low and its burst ends. -/
def State.mrkQuiet (s : State) (m : Nat) : State :=
  let p := s.mrkPort m
  let s := if p.latchHigh || p.strobeHigh then s.emit (.markPin m false false) else s
  s.setMrkPort m { p with
    burst := none
    loaded := none
    latchHigh := false
    strobeHigh := false }

/-- Every scheduled mark of a port is reported NOT_PLACED (R311). -/
def State.dropMarks (s : State) (m reason : Nat) : State :=
  (s.mrk.marks.filter (fun x => x.port == m)).foldl (fun t x => t.endMark x reason) s

/-- R310, R311: a port enters FAULT: 1 STAT, 2 WATCHDOG. -/
def State.mrkFault (s : State) (m reason : Nat) : State :=
  let s := (s.dropMarks m 6).mrkQuiet m
  let s := (s.put F.MRK_PSTAT_STATE m 2).put F.MRK_PSTAT_FREASON m reason
  let s := s.setMrkPort m { s.mrkPort m with tripAt := if reason == 2 then some s.clk else none }
  s.fault .mark m reason 0

/-- R310: EN = 0, STANDBY or DARK takes a port to OFF. -/
def State.mrkOff (s : State) (m : Nat) : State :=
  let s := s.mrkQuiet m
  (s.put F.MRK_PSTAT_STATE m 0).put F.MRK_PSTAT_FREASON m 0

/-- R310: EN = 0: the port goes OFF, and its marks are reported with reason MODE (notes/assumptions/131). -/
def State.mrkDisable (s : State) (m : Nat) : State := (s.dropMarks m 7).mrkOff m

/-- R309: the watchdog limit in ns after STROBE's rise; WD is at most 498, and 0 is treated as 1. -/
def State.strobeLimit (s : State) (m : Nat) : Nat := 40 * min 498 (atLeast1 (s.fld F.MRK_TLIM_WD m))

/-- R297: no measurement has been accepted for 1 ms. -/
def State.statLate (s : State) (m : Nat) : Bool :=
  match (s.mrkPort m).lastAccept with
  | none => true
  | some c => decide (1000000 ≤ s.clk - c)

/-- R311: STANDBY entry: every scheduled mark is reported with reason MODE, and the ports go OFF. -/
def State.mrkStandby (s : State) : State :=
  forBelow 4 (fun m t => t.mrkDisable m) s

/-- R311: DARK entry: scheduled marks are discarded and none is reported. -/
def State.mrkDark (s : State) : State := forBelow 4 (fun m t => t.mrkOff m) (s.setMarks [])

/-- R297, R308, R310: at COOL the data of the next line shift, where LATCH is low (notes/assumptions/132). A measurement of period `p` and high time `h`, in samples of 5 ns. -/
def State.statMeasure (s : State) (m p h : Nat) : State :=
  if 16000 ≤ p && p ≤ 24000 && p ≤ 20 * h && 20 * h ≤ 19 * p then
    let t : Int := Int.fdiv (1600 * h) p - 400
    let port := s.mrkPort m
    let late := match port.lastAccept with
      | none => true
      | some c => decide (1000000 < s.clk - c)
    let s := s.setMrkPort m { port with
      lastAccept := some s.clk
      runSince := if late then s.clk else port.runSince }
    let s := (s.put F.MRK_PSTAT_TEMP m (wrapTo 12 t)).put F.MRK_PSTAT_TVALID m 1
    let s := s.put F.MRK_PSTAT_BAND m (s.bandOf m t)
    let lim : Int := 8 * signedOf 8 (s.fld F.MRK_TLIM_TLIM m)
    let hyst : Int := 8 * (s.fld F.MRK_TLIM_THYST m : Int)
    let s :=
      if s.bit F.MRK_PSTAT_HOT m then
        if t < lim - hyst then
          let s := (s.put F.MRK_PSTAT_HOT m 0).raise F.MRK_EVENT_COOL
          if (s.mrkPort m).latchHigh then s else s.shiftNext m
        else s
      else if lim ≤ t then (s.put F.MRK_PSTAT_HOT m 1).raise F.MRK_EVENT_HOT else s
    if s.fld F.MRK_PSTAT_STATE m == 0 && s.mrkOn m && s.mode != .standby && s.mode != .dark then
      (s.put F.MRK_PSTAT_STATE m 1).shiftFirst m
    else s
  else s.count .MRK_STAT_ERR_CNT

/-- R310: MRK_PCTL.RESTART acts in a WATCHDOG fault, from the cycle after the trip. -/
def State.mrkRestart (s : State) (m : Nat) : State :=
  if s.fld F.MRK_PSTAT_STATE m == 2 && s.fld F.MRK_PSTAT_FREASON m == 2 && (s.mrkPort m).tripAt != some s.clk then
    (s.put F.MRK_PSTAT_STATE m 1).put F.MRK_PSTAT_FREASON m 0
  else s

end Sys2Proof.Machine
end

