-- ==== Sys2Proof/Machine/KeepOps.lean ====
section
/-! DEFINITION. Machine/KeepOps.lean: the prompt book and the save slots (spec/18 R526 to R533), and the words that their
windows show. -/

namespace Sys2Proof.Machine

/-! ### The words of the prompt book -/

/-- A flag at a bit of a 64-bit word. -/
def flagAt (b : Bool) (k : Nat) : Nat := if b then 2 ^ k else 0

/-- R528: word `i` of the calibration summary, its CRC left out. -/
def Calib.bodyWord (c : Calib) (i : Nat) : Nat :=
  if i == 0 then c.stale.toNat + c.gen.toNat * 2 ^ 32
  else if i == 1 then c.ofsOld.toNat
  else if i < 34 then
    match c.ports[(i - 2) / 2]? with
    | none => 0
    | some (serial, repair, v) => if i % 2 == 0 then serial.toNat else repair.toNat + flagAt v 16
  else if i < 66 then
    match c.temps[i - 34]? with
    | none => 0
    | some (t, v) => t.toNat + flagAt v 16
  else if i < 130 then
    match c.seams[(i - 66) / 2]? with
    | none => 0
    | some (ofs, sdev, yofs, col, w, st) =>
      if i % 2 == 0 then ofs.toNat + sdev.toNat * 2 ^ 24 + yofs.toNat * 2 ^ 48
      else col.toNat + w.toNat * 2 ^ 16 + st.toNat * 2 ^ 27
  else if i < 134 then ofLeBytes ((c.ranks.drop (8 * (i - 130))).take 8)
  else 0

/-- R528: the CRC of the summary, over its first 0x43C bytes. -/
def Calib.crc (c : Calib) : Nat :=
  crc32 ((List.range 135).flatMap (fun i => leBytes 8 (c.bodyWord i)) ++ leBytes 4 (c.bodyWord 135))

/-- R528: word `i` of the calibration summary. -/
def Calib.word (c : Calib) (i : Nat) : Nat := if i == 135 then c.crc * 2 ^ 32 else c.bodyWord i

/-- A summary without a calibration. -/
def Calib.blank : Calib :=
  ⟨0, 0, 0, List.replicate 16 (0, 0, false), List.replicate 32 (0, false),
   List.replicate 32 (0, 0, 0, 0, 0, 0), List.replicate 32 0⟩

/-- R490, R528: the summary that a CALINIT section holds. -/
def Calib.ofBytes (bs : List Byte) : Calib :=
  let w (i : Nat) : Nat := ofLeBytes ((bs.drop (8 * i)).take 8)
  ⟨BitVec.ofNat 32 (w 0 / 2 ^ 32), BitVec.ofNat 32 (w 0), BitVec.ofNat 32 (w 1),
   (List.range 16).map (fun p => (BitVec.ofNat 64 (w (2 + 2 * p)), BitVec.ofNat 16 (w (3 + 2 * p)), bitAt (w (3 + 2 * p)) 16)),
   (List.range 32).map (fun h => (BitVec.ofNat 16 (w (34 + h)), bitAt (w (34 + h)) 16)),
   (List.range 32).map (fun s =>
     let a := w (66 + 2 * s)
     let b := w (67 + 2 * s)
     (BitVec.ofNat 24 a, BitVec.ofNat 24 (a / 2 ^ 24), BitVec.ofNat 16 (a / 2 ^ 48),
      BitVec.ofNat 16 b, BitVec.ofNat 11 (b / 2 ^ 16), BitVec.ofNat 2 (b / 2 ^ 27))),
   (bs.drop 0x410).take 32⟩

/-- A pair of roller counts in one word (R526). -/
def encWord (es : List Nat) (k : Nat) : Nat := es.getD k 0 % 2 ^ 24 + (if k < 6 then (es.getD (k + 1) 0 % 2 ^ 24) * 2 ^ 32 else 0)

/-- R526: word `i` of the first 256 bytes. -/
def Book.headWord (b : Book) (i : Nat) : Nat :=
  match i with
  | 0 => if b.written then 0x5054424B * 2 ^ 32 + 2 ^ 16 else 0
  | 1 => b.counter
  | 2 => b.kind + flagAt b.frozen 3
  | 3 => b.tick.toNat
  | 8 => b.pos.c.toNat
  | 9 => b.pos.p.toNat % 2 ^ 64
  | 10 => b.pos.p.toNat / 2 ^ 64
  | 11 => b.pos.h.toNat % 2 ^ 64
  | 12 => b.pos.h.toNat / 2 ^ 64
  | 13 => b.pos.q.toNat % 2 ^ 64
  | 14 => b.pos.q.toNat / 2 ^ 64
  | 15 => b.pos.line.toNat
  | 16 => b.pos.zref.toNat + flagAt b.pos.zv 63
  | 17 => encWord b.pos.encs 0
  | 18 => encWord b.pos.encs 2
  | 19 => encWord b.pos.encs 4
  | 20 => encWord b.pos.encs 6
  | 24 => (b.seqs.getD 0 0).toNat
  | 25 => (b.seqs.getD 1 0).toNat
  | 26 => (b.seqs.getD 2 0).toNat
  | 27 => b.oid.toNat
  | _ => 0

/-- R526: word `i` of a prompt book, its CRC word left out. -/
def Book.bodyWord (b : Book) (i : Nat) : Nat :=
  if i < 32 then b.headWord i
  else if i < 96 then
    match b.settle[(i - 32) / 2]? with
    | none => 0
    | some (n, y) => if i % 2 == 0 then n.toNat else y.toNat
  else if i == 96 then b.rmap.toNat
  else if i == 97 then b.mig
  else if i == 98 then b.migK.toNat
  else if i < 128 then 0
  else if i < 264 then b.calib.word (i - 128)
  else if i < 512 then 0
  else if i < 1536 then
    match b.board[(i - 512) / 2]? with
    | none => 0
    | some e => if i % 2 == 0 then e.word0.toNat else e.word1.toNat
  else 0

/-- R526: the CRC over 0x0000 to 0x3FF7. -/
def Book.formCrc (b : Book) : Word := BitVec.ofNat 32 (crc32 ((List.range 2047).flatMap (fun i => leBytes 8 (b.bodyWord i))))

/-- R526: word `i` of a prompt book. -/
def Book.word (b : Book) (i : Nat) : Nat := if i == 2047 then b.crc.toNat else b.bodyWord i

/-- A 32-bit word of a prompt book, by its byte offset. -/
def Book.word32 (b : Book) (off : Nat) : Word := BitVec.ofNat 32 (b.word (off / 8) / 2 ^ (8 * (off % 8 / 4 * 4)))

/-- R531: a 32-bit word of a slot. The content of a slot whose write was cut short is not stated: a free value
(notes/assumptions/3) that the caller supplies. -/
def Slot.word32 (x : Slot) (off : Nat) (free : DWord) : Word :=
  match x with
  | .erased => 0xFFFFFFFF
  | .torn => free.setWidth 32
  | .whole b => b.word32 off

/-- A mirror without content (R485). -/
def Book.blank : Book :=
  ⟨false, 0, 0, false, 0, ⟨0, 0, 0, 0, 0, 0, false, List.replicate 7 0⟩, [0, 0, 0], 0,
   List.replicate 32 (0, 0), 0, 0, 0, Calib.blank, [], 0⟩

/-! ### Mirror, freeze and thaw -/

/-- R526: the mirror as it stands: while it is not frozen it follows POS, the SEQ counters, the next OID and the memory's
remap. -/
def State.book (s : State) : Book :=
  let b := s.pwr.mirror
  if b.frozen then b
  else
    { b with
      pos := s.posSnap
      seqs := s.seqs
      oid := BitVec.ofNat 40 (s.getPair .OBJ_OID_L .OBJ_OID_H)
      rmap := s.rd .MEM_RMAP
      mig := s.fld F.MEM_STATUS_MIG
      migK := BitVec.ofNat 40 (s.getPair .MEM_MIG_PTR_L .MEM_MIG_PTR_H) }

/-- Change the mirror. -/
def State.setMirror (s : State) (b : Book) : State := { s with pwr := { s.pwr with mirror := b } }

/-- R529: the mirror freezes with a KIND, and what has not become usable is discarded. A frozen mirror stays as it is. -/
def State.freeze (s : State) (kind : Nat) : State :=
  if s.pwr.mirror.frozen then s
  else
    let t := s.setMirror { s.book with
      kind := kind
      frozen := true
      tick := s.tick }
    { t with pwr := { t.pwr with groups := [], savedMirror := false } }

/-- R529: the group at the front becomes usable, and is applied whole. -/
def State.applyGroup (s : State) : State :=
  match s.pwr.groups with
  | [] => s
  | g :: r =>
    if g.closed then
      let b := s.pwr.mirror
      let b := if b.frozen then b else
        { b with
          calib := g.calib.getD b.calib
          settle := g.settle.getD b.settle }
      { s with pwr := { s.pwr with
          groups := r
          mirror := b } }
    else s

/-- R529, R530: step 6 of LOAD: the mirror thaws and MVALID is set. -/
def State.thaw (s : State) : State :=
  let b := s.pwr.mirror
  let s := { s with pwr := { s.pwr with
    mirror := { b with
      written := true
      frozen := false }
    mvalid := true
    step6 := true } }
  s.put F.PWR_STATUS_MVALID 0 1

/-! ### Slots -/

/-- What PWR_STATUS and PWR_SAVE show of the slots. -/
def State.showSlots (s : State) : State :=
  match newestSlot s.pwr.slots with
  | none => (s.put F.PWR_STATUS_NEWEST_V 0 0).put F.PWR_STATUS_NEWEST 0 0
  | some (i, b) =>
    let s := (s.put F.PWR_STATUS_NEWEST_V 0 1).put F.PWR_STATUS_NEWEST 0 i
    s.setPair .PWR_SAVE_LO .PWR_SAVE_HI 0 32 b.counter

/-- R531: N, the COUNTER from which the next slot write counts. -/
def State.lastCounter (s : State) : Nat :=
  match newestSlot s.pwr.slots with
  | some (_, b) => b.counter
  | none => if s.pwr.mvalid then s.pwr.mirror.counter else 0

/-- R531: a slot write starts: the mirror is copied with its new COUNTER, and the slot holds nothing valid until its CRC is
written. -/
def State.startWriteAt (s : State) (slot counter kind : Nat) : State :=
  let b := s.book
  let b := { b with counter := counter }
  let b := if b.frozen then b else
    { b with
      kind := kind
      tick := s.tick }
  let m := s.pwr.mirror
  let m := { m with
    counter := counter
    kind := b.kind
    tick := b.tick }
  let s := { s with pwr := { s.pwr with
    mirror := m
    slots := s.pwr.slots.set slot .torn
    write := some ⟨slot, kind, b⟩ } }
  (s.put F.PWR_STATUS_WRITING 0 1).showSlots

/-- R531: a slot write of a KIND starts in the next slot. -/
def State.startWrite (s : State) (kind : Nat) : State :=
  let n := s.lastCounter
  s.startWriteAt ((n + 1) % 8) (n + 1) kind

/-- R532: a curtain or SHUTDOWN asks for a write: a CHECKPOINT write is abandoned and its slot written again, another write
is left to complete. -/
def State.urgentWrite (s : State) (kind : Nat) : State :=
  match s.pwr.write with
  | none => s.startWrite kind
  | some w => if w.kind == 0 then s.startWriteAt w.slot w.book.counter kind else s

/-- R531, R532: the slot write ends with its CRC after `micros` µs. -/
def State.writeDone (s : State) (micros : Nat) : State :=
  match s.pwr.write with
  | none => s
  | some w =>
    let crc := w.book.formCrc
    let b := { w.book with crc := crc }
    let m := { s.pwr.mirror with crc := crc }
    let s := { s with pwr := { s.pwr with
      mirror := m
      slots := s.pwr.slots.set w.slot (.whole b)
      write := none
      savedMirror := b.frozen } }
    let s := (s.put F.PWR_STATUS_WRITING 0 0).showSlots
    let s := (s.put F.PWR_LAST_SAVE_KIND 0 w.kind).put F.PWR_LAST_SAVE_SLOT 0 w.slot
    let s := (s.put F.PWR_LAST_SAVE_OK 0 1).put F.PWR_LAST_SAVE_TIME 0 (min micros 65535)
    let s := s.raise F.PWR_EVENT_SAVE_DONE
    let s := if w.kind == 0 then s.count .PWR_CKPT_CNT else s
    if b.counter == 800000001 then s.raise F.PWR_EVENT_WEAR else s

/-- A slot write is cut short (R531): its slot stays invalid. -/
def State.cutWrite (s : State) : State :=
  match s.pwr.write with
  | none => s
  | some _ => ({ s with pwr := { s.pwr with write := none } }).put F.PWR_STATUS_WRITING 0 0

/-- R530: what LOAD restores from: the frozen mirror with MVALID, else the newest valid slot; and whether it is the
mirror. -/
def State.restoreSource (s : State) : Option (Book × Bool) :=
  if s.pwr.mvalid && s.pwr.mirror.frozen then some (s.pwr.mirror, true)
  else (newestSlot s.pwr.slots).map (fun x => (x.2, false))

/-- R510, R530: the reason of the first GAP: SUPPLY_LOSS, FAULT_DISCARD or LINK_LOSS. -/
def restoreReason (b : Book) : GapReason :=
  match b.kind with
  | 1 => .supplyLoss
  | 2 => .faultDiscard
  | 0 => .supplyLoss
  | _ => .linkLoss

end Sys2Proof.Machine
end

