-- ==== Sys2Proof/Machine/ThmOps.lean ====
section
/-! DEFINITION. Machine/ThmOps.lean: sensors, their flags and substitutes, the device's heat states, the throttle level,
board sensors and rails (spec/18 R514 to R523, R536). -/

namespace Sys2Proof.Machine

/-- A sensor as it starts. -/
def Sensor.fresh : Sensor := ⟨0, 0, none, 0, 0, 0, [0, 0, 0], [0, 0, 0], [false, false, false], 0⟩

/-- A board sensor as it starts. -/
def Board.fresh : Board := ⟨0, 0, 0, false⟩

/-- Sensor `i`. -/
def State.sensor (s : State) (i : Nat) : Sensor := s.thm.sensors.getD i Sensor.fresh

/-- Change sensor `i`. -/
def State.setSensor (s : State) (i : Nat) (x : Sensor) : State :=
  { s with thm := { s.thm with sensors := s.thm.sensors.set i x } }

/-- A bit of the fuse array (R497). -/
def State.fuseBits (s : State) (lo w : Nat) : Nat :=
  (List.range w).foldl (fun a k =>
    let b := lo + w - 1 - k
    2 * a + b2n (bitAt (spGet 0 s.sec.fuses (b / 32)).toNat (b % 32))) 0

/-- R514: the reading of a raw code by sensor `i`, in 1/16 °C, rounded toward minus infinity. -/
def State.readingOf (s : State) (i x : Nat) : Int :=
  let a : Int := s.fuseBits (1024 + 32 * i) 16
  let b : Int := s.fuseBits (1024 + 32 * i + 16) 16
  if b == a then Config.flatTrim x
  else
    let n := 80 * 16 * ((x : Int) - a)
    480 + (if b < a then Int.fdiv (-n) (a - b) else Int.fdiv n (b - a))

/-- R514: the neighbours of sensor `i` in the 4 × 6 grid. -/
def neighbours (i : Nat) : List Nat :=
  (if 6 ≤ i then [i - 6] else []) ++ (if i < 18 then [i + 6] else []) ++
  (if i % 6 != 0 then [i - 1] else []) ++ (if i % 6 != 5 then [i + 1] else [])

/-- Sensor `i` is broken. -/
def State.isBroken (s : State) (i : Nat) : Bool := s.bit F.THM_TS_BROKEN i

/-- The reading, or the substitute, of sensor `i`. -/
def State.temp (s : State) (i : Nat) : Int := signedOf 16 (s.fld F.THM_TS_T i)

/-- The readings of the valid neighbours of sensor `i`. -/
def State.validNbrs (s : State) (i : Nat) : List Int :=
  ((neighbours i).filter (fun j => !s.isBroken j)).map s.temp

/-- The largest of a list of readings. -/
def maxI (l : List Int) : Int := l.foldl max (l.headD 0)

/-- The mean of the neighbours' readings in 1/192 °C, in which it is exact; none without a neighbour. -/
def mean192 (l : List Int) : Option Int :=
  if l.isEmpty then none else some (12 * l.foldl (· + ·) 0 / l.length)

/-- LOFS of sensor `i` (R519). -/
def State.lofs (s : State) (i : Nat) : Int := signedOf 10 (s.fld F.THM_TS_LOFS i)

/-- A threshold of R516 in 1/16 °C: 0 WARN, 1 THROTTLE, 2 SHUTDOWN. -/
def State.limit (s : State) (k : Nat) : Int :=
  let c := match k with
    | 0 => s.fld F.THM_LIMITS_WARN
    | 1 => s.fld F.THM_LIMITS_THROTTLE
    | _ => min (s.fld F.THM_LIMITS_SHUTDOWN) 120
  16 * (c : Int)

/-- HYST in 1/16 °C. -/
def State.hyst (s : State) : Int := 16 * (atLeast1 (s.fld F.THM_LIMITS_HYST) : Nat)

/-- R516: a flag and its two counts after a sample. -/
def flagStep (limit hyst v : Int) (above below : Nat) (flag : Bool) : Nat × Nat × Bool :=
  if limit ≤ v then (above + 1, 0, flag || decide (3 ≤ above))
  else if v < limit - hyst then (0, below + 1, flag && decide (below < 3))
  else (0, 0, flag)

/-- R516: the three flags of sensor `i` after the sample `v`. -/
def State.flagsStep (s : State) (i : Nat) (v : Int) : State :=
  let x := s.sensor i
  let r := (List.range 3).map (fun k =>
    flagStep (s.limit k) s.hyst v (x.above.getD k 0) (x.below.getD k 0) (x.flags.getD k false))
  s.setSensor i { x with
    above := r.map (·.1)
    below := r.map (·.2.1)
    flags := r.map (·.2.2)
    cold := if v < s.limit 2 - 320 then x.cold + 1 else 0 }

/-- R515: whether sensor `i` stands in the fast set after the sample `v`; a broken sensor keeps its round. -/
def State.fastStep (s : State) (i : Nat) (v : Int) : State :=
  if s.isBroken i then s
  else
    let x := s.sensor i
    let cool := if v < s.limit 0 - 240 then x.cool + 1 else 0
    let s := s.setSensor i { x with cool := cool }
    if s.limit 0 - 160 ≤ v then (s.put F.THM_TS_FAST i 1).put ⟨.THM_FAST, i, 1⟩ 0 1
    else if 4 ≤ cool then (s.put F.THM_TS_FAST i 0).put ⟨.THM_FAST, i, 1⟩ 0 0
    else s

/-- R518: the causes that hold for sensor `i` with reading `t`, after its counts have taken the sample. -/
def State.brokenCause (s : State) (i : Nat) (t : Int) : Nat :=
  let x := s.sensor i
  let nb := s.validNbrs i
  if t < -880 || 2400 < t then 1
  else if 64 ≤ x.same && (match mean192 nb, x.nbrAtFirst with
      | some m, some f => decide (384 ≤ (m - f).natAbs)
      | _, _ => false) then 2
  else if 4 ≤ x.apart then 3
  else 0

/-- R518: the counts behind the tests STUCK and DISAGREE take a sample of raw code `raw` and reading `t`. -/
def State.testCounts (s : State) (i raw : Nat) (t : Int) : State :=
  let x := s.sensor i
  let nb := s.validNbrs i
  let again := x.same != 0 && x.raw == raw
  let far := !nb.isEmpty && decide (240 < (t - (maxI nb + s.lofs i)).natAbs)
  s.setSensor i { x with
    raw := raw
    same := if again then x.same + 1 else 1
    nbrAtFirst := if again then x.nbrAtFirst else mean192 nb
    apart := if far then x.apart + 1 else 0 }

/-- R518: sensor `i` breaks, with its cause. The flags that are set stay set, and clear only on substitute samples
(R520). -/
def State.breakSensor (s : State) (i cause : Nat) : State :=
  let x := s.sensor i
  let s := s.setSensor i { x with
    clean := 0
    below := [0, 0, 0] }
  let s := (s.put F.THM_TS_BROKEN i 1).put F.THM_TS_CAUSE i cause
  ((s.put ⟨.THM_BROKEN, i, 1⟩ 0 1).raise F.THM_EVENT_SENSOR).count .THM_BROKEN_CNT

/-- R519: the substitute of a broken sensor. -/
def State.substitute (s : State) (i : Nat) : Int :=
  let nb := s.validNbrs i
  if nb.isEmpty then s.limit 1 else maxI nb + s.lofs i

/-- R515 to R520: one sample of sensor `i` with raw code `raw`. -/
def State.sampleSensor (s : State) (i raw : Nat) : State :=
  let t := s.readingOf i raw
  let s := s.testCounts i raw t
  let cause := s.brokenCause i t
  let s := if !s.isBroken i && cause != 0 then s.breakSensor i cause
    else if s.isBroken i then
      let x := s.sensor i
      s.setSensor i { x with clean := if cause == 0 then x.clean + 1 else 0 }
    else s
  let v := if s.isBroken i then s.substitute i else t
  let s := if s.isBroken i && (s.validNbrs i).isEmpty then s.put F.THM_TS_CAUSE i 4 else s
  let s := s.put F.THM_TS_T i (wrapTo 16 v)
  (s.flagsStep i v).fastStep i v

/-- R519: LOFS of sensor `i` learns in a slow round. -/
def State.learnLofs (s : State) (i : Nat) : State :=
  let nb := s.validNbrs i
  if s.isBroken i || nb.isEmpty then s
  else
    let l := s.lofs i
    let n := clampI (-240) 240 (l + Int.fdiv ((s.temp i - maxI nb) - l) 64)
    s.put F.THM_TS_LOFS i (wrapTo 10 n)

/-- R518: a broken sensor becomes valid again after 1,024 clean samples. -/
def State.recoverSensor (s : State) (i : Nat) : State :=
  if s.isBroken i && decide (1024 ≤ (s.sensor i).clean) then
    let s := (s.put F.THM_TS_BROKEN i 0).put F.THM_TS_CAUSE i 0
    let s := s.put ⟨.THM_BROKEN, i, 1⟩ 0 0
    s.put F.THM_TS_T i (wrapTo 16 (s.readingOf i (s.sensor i).raw))
  else s

/-! ### Board sensors and rails -/

/-- Board sensor `b`. -/
def State.board (s : State) (b : Nat) : Board := s.thm.boards.getD b Board.fresh

/-- Change board sensor `b`. -/
def State.setBoard (s : State) (b : Nat) (x : Board) : State :=
  { s with thm := { s.thm with boards := s.thm.boards.set b x } }

/-- R517: an invalid sample of a board sensor is counted; the fourth in a row clears VALID. -/
def State.boardInvalid (s : State) (b : Nat) : State :=
  let x := s.board b
  let s := (s.setBoard b { x with bad := x.bad + 1 }).count .THM_I2C_ERR_CNT
  if 3 ≤ x.bad then s.put F.THM_BRDT_VALID b 0 else s

/-- R517: a valid sample of a board sensor, in 1/256 °C. -/
def State.boardSample (s : State) (b : Nat) (raw : BitVec 16) : State :=
  let v := Int.fdiv raw.toInt 16
  let x := s.board b
  let r := flagStep (16 * signedOf 8 (s.fld F.THM_BRD_WARN b)) s.hyst v x.above x.below x.warn
  let s := s.setBoard b ⟨0, r.1, r.2.1, r.2.2⟩
  (s.put F.THM_BRDT_VALID b 1).put F.THM_BRDT_T b (wrapTo 16 v)

/-- The window of rail `r` in mV (PWR_RAILr, spec/19). -/
def railWindow (r : Nat) : Nat × Nat :=
  if r == 8 then (6000, 13200)
  else
    let n := [750, 850, 900, 1200, 1100, 1800, 1800, 3300].getD r 0
    (ceilDiv (n * 95) 100, n * 105 / 100)

/-- R536: a rail's reading in a slow round. OUT sets after 4 samples outside the window, which is a SUPPLY fault, and
clears after 4 inside. -/
def State.railSample (s : State) (r mv : Nat) : State :=
  let w := railWindow r
  let out := mv < w.1 || w.2 < mv
  let x := s.thm.rails.getD r ⟨0, 0⟩
  let x : Rail := if out then ⟨x.outRun + 1, 0⟩ else ⟨0, x.inRun + 1⟩
  let s := { s with thm := { s.thm with rails := s.thm.rails.set r x } }
  let s := s.put F.PWR_RAIL_MV r mv
  let s := if r == 8 then ({ s with pwr := { s.pwr with vkeep := mv } }).put F.PWR_STATUS_VKEEP 0 mv else s
  if !s.bit F.PWR_RAIL_OUT r && 4 ≤ x.outRun then
    (((s.put F.PWR_RAIL_OUT r 1).raise F.PWR_EVENT_RAIL).count .PWR_RAIL_CNT).fault .supply r 0 mv
  else if s.bit F.PWR_RAIL_OUT r && 4 ≤ x.inRun then s.put F.PWR_RAIL_OUT r 0
  else s

/-! ### States and level -/

/-- R521: a change of the throttle level raises THROTTLE and is logged. -/
def State.setThrottle (s : State) (l : Nat) : State :=
  let was := s.fld F.THM_STATUS_LEVEL
  if l == was then s
  else
    let s := s.put F.THM_STATUS_LEVEL 0 l
    let s := { s with thm := { s.thm with stepAt := s.clk } }
    let s := if was == 0 then s.count .THM_THR_CNT else s
    (s.raise F.THM_EVENT_THROTTLE).callboard 4 0xFF 3 (l * 2 ^ 37)

/-- The highest level; values outside 1 to 5 are treated as 5 (THM_THR_CFG.MAX). -/
def State.throttleMax (s : State) : Nat :=
  let m := s.fld F.THM_THR_CFG_MAX
  if 1 ≤ m && m ≤ 5 then m else 5

/-- R521: a source of throttling holds. -/
def State.throttleSource (s : State) : Bool := s.bit F.THM_STATUS_THROTTLE || s.bit F.THM_STATUS_DRAM_CRIT

/-- R521: a source begins or ceases to hold: the time to the next change of the level runs from here. -/
def State.sourceNote (s : State) : State :=
  if s.throttleSource == s.thm.source then s
  else { s with thm := { s.thm with
    source := s.throttleSource
    stepAt := s.clk } }

/-- R521: a source begins to hold while the level is 0. -/
def State.throttleStart (s : State) : State :=
  let s := s.sourceNote
  if s.throttleSource && s.fld F.THM_STATUS_LEVEL == 0 then s.setThrottle 1 else s

/-- R521: a rank in band CRIT shows in THM_STATUS. -/
def State.noteDramCrit (s : State) : State :=
  s.putB F.THM_STATUS_DRAM_CRIT 0 ((List.range 16).any (fun r => bitsOf (s.rd .MEM_BAND).toNat (2 * r) 2 == 2))

/-- A sensor's flag `k` is set in some sensor. -/
def State.anyFlag (s : State) (k : Nat) : Bool := s.thm.sensors.any (fun x => x.flags.getD k false)

/-- R517: a valid board sensor holds the WARN state. -/
def State.boardWarn (s : State) : Bool :=
  (List.range 8).any (fun b => (s.board b).warn && s.bit F.THM_BRDT_VALID b && s.bit F.THM_BRD_EN b)

/-- The hottest reading and its source (THM_STATUS). -/
def State.showHottest (s : State) : State :=
  let all := (List.range 24).map (fun i => (i, s.temp i)) ++
    ((List.range 8).filter (fun b => s.bit F.THM_BRDT_VALID b)).map (fun b => (24 + b, signedOf 16 (s.fld F.THM_BRDT_T b)))
  let top := all.foldl (fun (a : Nat × Int) e => if a.2 < e.2 then e else a) (0, s.temp 0)
  (s.put F.THM_STATUS_HOT_SRC 0 top.1).put F.THM_STATUS_HOT_T 0 (wrapTo 16 top.2)

/-- R516, R521: the device's states after a round, their events, and the start of throttling. -/
def State.heatStates (s : State) : State :=
  let warn := s.anyFlag 0 || s.boardWarn
  let thr := s.anyFlag 1
  let wasWarn := s.bit F.THM_STATUS_WARN
  let wasThr := s.bit F.THM_STATUS_THROTTLE
  let s := (s.putB F.THM_STATUS_WARN 0 warn).putB F.THM_STATUS_THROTTLE 0 thr
  let s := if warn && !wasWarn then (s.raise F.THM_EVENT_WARN).count .THM_WARN_CNT else s
  let s := if (wasWarn && !warn) || (wasThr && !thr) then s.raise F.THM_EVENT_RELEASE else s
  s.showHottest.throttleStart

/-- R516, R520: SHUTDOWN asserts: UNIT and DETAIL of its callboard entry. -/
def State.shutdownCause (s : State) : Option (Nat × Nat) :=
  match (List.range 24).find? (fun i => (s.sensor i).flags.getD 2 false) with
  | some i => some (i, 1)
  | none => if 12 ≤ countBelow 24 s.isBroken then some (0xFF, 2) else none

/-- R525: every sensor, or its substitute, has been cool for 4 samples. -/
def State.cooled (s : State) : Bool :=
  countBelow 24 s.isBroken < 12 && (List.range 24).all (fun i => decide (4 ≤ (s.sensor i).cold))

end Sys2Proof.Machine
end

