-- ==== Sys2Proof/Machine/Reset.lean ====
section
/-! DEFINITION. Machine/Reset.lean: what a reset leaves, DARK entry and the start of LOAD (spec/17 R485, R486, R492, R497,
R503; spec/18 R529, R533). -/

namespace Sys2Proof.Machine

/-! ### Mode and status code -/

/-- R486: the code on STS3 to STS0. -/
def State.showSts (s : State) : State :=
  let code :=
    if s.mode == .dark then s.fld F.SEC_DARK_REASON
    else if s.bit F.GLB_STATUS_LOAD_STALL then 5
    else s.mode.code
  s.put F.GLB_STATUS_STS 0 code

/-- R532, R540: the modes in which checkpoints are written and periodic HEALTH records formed. -/
def Mode.periodic (m : Mode) : Bool := m == .rehearse || m == .perform || m == .hold

/-- The times that a change to mode `m` notes: when the mode began, and the periods of R532 and R540, which count only in
their modes. -/
def State.modeTimes (s : State) (m : Mode) : State :=
  let s := { s with glb := { s.glb with modeAt := s.clk } }
  if s.mode.periodic == m.periodic then s
  else { s with pwr := { s.pwr with
    ckptAt := s.clk - s.pwr.ckptAt
    healthAt := s.clk - s.pwr.healthAt } }

/-- R503: the mode changes, which raises MODE_CHANGE. -/
def State.setMode (s : State) (m : Mode) : State :=
  if s.mode == m then s.showSts
  else (((s.modeTimes m).put F.GLB_MODE_MODE 0 m.code).raise F.GLB_EVENT_MODE_CHANGE).showSts

/-! ### What a reset leaves -/

/-- R485, R541, R542: the registers that lie in the keep domain; with `heat`, those of THM and PWR as well, which go on
working in the DARK of THERMAL and SUPPLY (R525, R534, notes/assumptions/42). -/
def keptRegs (heat : Bool) : List Reg :=
  (if heat then regsTHM ++ regsPWR else []) ++ [.SEC_DARK, .THM_SHUT_CNT, .PWR_CURTAIN_CNT, .PWR_CB_STATUS]

/-- A register key of the kept registers. -/
def keptKey (heat : Bool) (k : Nat) : Bool := (keptRegs heat).any (fun r => r.ctorIdx == k % 1024)

/-- What PWR_STATUS shows of the keep domain. -/
def State.showKeep (s : State) : State :=
  let s := (s.putB F.PWR_STATUS_MVALID 0 s.pwr.mvalid).putB F.PWR_STATUS_WRITING 0 s.pwr.write.isSome
  (s.putB F.PWR_STATUS_CURTAIN 0 s.pwr.curtain).showSlots

/-- R485, R492: every part of the device but the keep domain goes to its reset state. DRAM, the fuses, what waits to come and
what has left stay as they are; marking outputs that are high go low (R296). `power` tells whether RESET_N is high. -/
def State.blocksReset (s : State) (heat power : Bool) : State :=
  let s := forBelow 4 (fun m t => t.mrkQuiet m) s
  let r := State.reset
  let t : State := { r with
    clk := s.clk
    free := s.free
    pending := s.pending
    wire := s.wire
    regs := s.regs.filter (fun e => keptKey heat e.1)
    dram := s.dram
    stripLen := s.stripLen
    glb := { r.glb with powered := power }
    sec := { r.sec with fuses := s.sec.fuses }
    mem := { r.mem with poison := s.mem.poison }
    thm := if heat then s.thm else r.thm
    pwr := { s.pwr with
      groups := []
      ckptAt := 0
      healthAt := 0 } }
  let t := if heat then t else forBelow 24 (fun i u => u.put F.THM_TS_LOFS i (s.fld F.THM_TS_LOFS i)) t
  t.cellsInit.showKeep

/-! ### DARK -/

/-- R503, R529: DARK is entered with a reason of R486. -/
def State.enterDark (s : State) (reason : Nat) : State :=
  let s := (s.freeze 2).blocksReset (reason == 8 || reason == 9) true
  (s.put F.SEC_DARK_REASON 0 reason).setMode .dark

/-- The device is in DARK for a reason. -/
def State.darkFor (s : State) (reason : Nat) : Bool := s.mode == .dark && s.fld F.SEC_DARK_REASON == reason

/-! ### LOAD -/

/-- R497: the octets that the fuse array's CRC covers. -/
def State.fuseBytes (s : State) : List Byte :=
  let ws := List.range 16 ++ (List.range 14).map (· + 18) ++ (List.range 95).map (· + 32)
  ws.flatMap (fun (k : Nat) => leBytes 4 (spGet 0 s.sec.fuses k).toNat)

/-- R497: the fuse array's CRC matches. -/
def State.fuseGood (s : State) : Bool := crc32 s.fuseBytes == (spGet 0 s.sec.fuses 127).toNat

/-- R497: the rollback count. -/
def State.rollback (s : State) : Nat :=
  countBelow 64 (fun i => bitAt (spGet 0 s.sec.fuses (16 + i / 32)).toNat (i % 32))

/-- LOAD step 2: the fuses are read; a bad CRC ends LOAD in DARK. -/
def State.readFuses (s : State) : State :=
  if s.fuseGood then
    let s := (s.wr .SEC_SERIAL_LO 0 (spGet 0 s.sec.fuses 18)).wr .SEC_SERIAL_HI 0 (spGet 0 s.sec.fuses 19)
    let s := s.put F.SEC_ROLLBACK_FUSE 0 s.rollback
    let s := s.putB F.SEC_STATUS_DBG_LOCK 0 (bitAt (spGet 0 s.sec.fuses 20).toNat 0)
    s.put F.GLB_LOAD_STATUS_STEP 0 4
  else (s.fault .config 0 0xE 0).enterDark 0xE

/-- R503: LOAD starts from its first step, with every block reset; steps 1 and 2 pass at once, and step 3 is part of the
reading of pass 1. A slot write in progress is cut short (notes/assumptions/43). -/
def State.loadStart (s : State) : State :=
  let s := s.cutWrite
  let s := { s with pwr := { s.pwr with
    step6 := false
    curtain := false
    bothCauses := false
    restored := none } }
  let s := s.blocksReset false true
  (({ s with glb := { s.glb with loadFrom := s.clk } } : State).put F.GLB_MODE_MODE 0 0).showSts.readFuses

/-- R485: RESET_N is accepted low: the mirror freezes and every part but the keep domain is reset. -/
def State.resetLow (s : State) : State :=
  let s := (s.freeze 3).cutWrite
  let s := { s with pwr := { s.pwr with step6 := false, curtain := false, bothCauses := false } }
  s.blocksReset false false

/-- R485, R530: the volatile part of the keep domain is reset: the mirror with its callboard, MVALID, SEC_DARK, the learned
offsets and the keep-domain counters. A slot write is cut short; the slots and the identity key stay. -/
def State.keepReset (s : State) : State :=
  let s := s.cutWrite
  let s := { s with pwr := { s.pwr with
    mirror := Book.blank
    mvalid := false
    groups := []
    savedMirror := false } }
  let s := (s.put F.SEC_DARK_REASON 0 0).wr .PWR_CB_STATUS 0 0
  let s := (s.wr .THM_SHUT_CNT 0 0).wr .PWR_CURTAIN_CNT 0 0
  (forBelow 24 (fun i t => t.put F.THM_TS_LOFS i 0) s).showKeep

end Sys2Proof.Machine
end

