-- ==== Sys2Proof/Machine/Modes.lean ====
section
/-! DEFINITION. Machine/Modes.lean: mode control: requests and transitions, HOLD and STANDBY, rehearsals and return checks,
the curtain and thermal shutdown (spec/17 R503 to R510, spec/18 R524, R533, R534). -/

namespace Sys2Proof.Machine

/-! ### Requests -/

/-- R503: a request that does not apply is refused. -/
def State.refuse (s : State) : State := (s.count .GLB_REFUSE_CNT).raise F.GLB_EVENT_REFUSED

/-- A transition begins. -/
def State.startTrans (s : State) (t : Transition) : State :=
  ({ s with glb := { s.glb with trans := some t } } : State).put F.GLB_STATUS_TRANSITION 0 1

/-- A transition ends. -/
def State.endTrans (s : State) : State :=
  ({ s with glb := { s.glb with trans := none } } : State).put F.GLB_STATUS_TRANSITION 0 0

/-- The head belongs to an enabled port that declares it. -/
def State.headWorks (s : State) (h : Nat) : Bool := s.headUsed h && s.bit F.CAM_CTRL_EN (portOf h)

/-- R503, R504: HOLD entry begins: no more cues are issued (R276). -/
def State.holdEntry (s : State) (byReq : Bool) : State := s.startTrans (.toHold byReq)

/-! ### Rehearsal and return checks -/

/-- R184, R506, R509: REHEARSE begins. -/
def State.beginRehearsal (s : State) : State :=
  let n := s.sti.rehearsal + 1
  let s := { s with
    sti := { s.sti with rehearsal := n }
    glb := { s.glb with
      rehFrom := n
      rehStrips := 0
      headDark := 0
      headGain := 0
      seamMet := 0
      regDone := 0 } }
  s.setMode .rehearse

/-- PERFORM begins; `n` is the first line cued in it. -/
def State.enterPerform (s : State) (n : LineNo) : State :=
  ({ s with glb := { s.glb with performFrom := n } } : State).setMode .perform

/-- The strips that have passed since REHEARSE began: strips are counted at their boundary's cue. -/
def State.stripsPassed (s : State) : Nat := s.glb.rehStrips - 1

/-- R506, R509: the last cued line is a strip boundary of the running rehearsal, and no transition is under way. -/
def State.atRehBoundary (s : State) : Bool :=
  s.mode == .rehearse && s.glb.trans.isNone && decide (1 ≤ s.glb.rehStrips) && s.boundaryLine (s.pos.nextLine - 1)

/-- R506: a head's acquisitions have been accepted in the running rehearsal, or are switched off (R136). -/
def State.headAccepted (s : State) (h : Nat) : Bool :=
  !(s.bit F.COR_CTRL_FF_EN) || (bitAt s.glb.headDark h && bitAt s.glb.headGain h)

/-- R184, R506: a seam has met the running rehearsal. -/
def State.seamAccepted (s : State) (k : Nat) : Bool :=
  !(s.seamInUse k) || !(s.bit F.SEAM_CFG_SR_EN k) || bitAt s.glb.seamMet k

/-- R106, R506: every head of a port and every seam that touches it have been accepted. -/
def State.portAccepted (s : State) (p : Nat) : Bool :=
  (List.range (s.portHeads p)).all (fun j => s.headAccepted (headOf p j)) &&
    (s.portSeams p).all s.seamAccepted

/-- R506: every head and seam has been accepted. -/
def State.rehAccepted (s : State) : Bool :=
  (List.range 32).all (fun h => !(s.headWorks h) || s.headAccepted h) && (List.range 32).all s.seamAccepted

/-- GLB_REH_CFG.MIN_STRIPS: values below 16 are treated as 16. -/
def State.minStrips (s : State) : Nat := max (s.fld F.GLB_REH_CFG_MIN_STRIPS) 16

/-- GLB_REH_CFG.MAX_STRIPS: values below MIN_STRIPS are treated as MIN_STRIPS. -/
def State.maxStrips (s : State) : Nat := max (s.fld F.GLB_REH_CFG_MAX_STRIPS) s.minStrips

/-- R104, R506: a port whose rehearsal was accepted is calibrated with its present camera. -/
def State.portCalibrated (s : State) (p : Nat) : State :=
  let s := s.put F.CAM_STATUS_STALE p 0
  let s := forBelow (s.portHeads p) (fun j t => t.putB (headBit .COR_STALE (headOf p j)) 0 false) s
  let s := (s.wr .CAM_CAL_SERIAL_LO p (s.rd .CAM_SERIAL_LO p)).wr .CAM_CAL_SERIAL_HI p (s.rd .CAM_SERIAL_HI p)
  s.put F.CAM_CAL_REPAIR_REPAIR p (s.fld F.CAM_DESC_GEOM_REPAIR p)

/-- A port has a camera that takes part in a rehearsal. -/
def State.portWorks (s : State) (p : Nat) : Bool := s.bit F.CAM_CTRL_EN p && (s.camSt p == 3 || s.camSt p == 4)

/-- R506: a full rehearsal ends; `timeout` marks an end at MAX_STRIPS, after which every port that was not accepted is
stale. Runs that have not been accepted are abandoned (R138). -/
def State.rehearsalEnd (s : State) (timeout : Bool) : State :=
  let s := forBelow 32 (fun h t => t.ffAbandon h true) s
  let s := if timeout then s.raise F.GLB_EVENT_REH_TIMEOUT else s
  let s := (s.put F.GLB_STATUS_REH_OWED 0 0).raise F.GLB_EVENT_REH_DONE
  let s := forBelow 16 (fun p t =>
    if t.portWorks p && t.portAccepted p then t.portCalibrated p
    else if timeout && t.bit F.CAM_CTRL_EN p then t.camStale p
    else t) s
  let ports := (List.range 16).map s.calPort
  let accepted := timeout == false || (List.range 16).any (fun p => s.portWorks p && s.portAccepted p)
  let note (c : Calib) : Calib := { s.calibCor c with ports := (List.range 16).map (fun p =>
    if s.portWorks p && s.portAccepted p then ports.getD p (0, 0, false) else c.ports.getD p (0, 0, false)) }
  let s := if accepted then s.calibGroup note else s.calibNote note
  s.enterPerform (s.pos.nextLine - 1)

/-- R509: the REG check has passed. -/
def State.regPassed (s : State) : Bool :=
  (List.range 32).all (fun k => !(s.seamInUse k) || !(s.bit F.SEAM_CFG_SR_EN k) || bitAt s.glb.regDone k)

/-- R509: the TIME check has passed. -/
def State.timePassed (s : State) : Bool :=
  s.bit F.TIM_STATUS_TVALID && (s.fld F.TIM_CTRL_SRC == 0 || s.bit F.TIM_STATUS_LOCKED)

/-- R509: the checks that are open: REG, POS, TIME. -/
def State.openChecks (s : State) : Bool × Bool × Bool :=
  (s.bit F.GLB_VERIFY_CFG_REG && !s.regPassed,
   s.bit F.GLB_VERIFY_CFG_POS && !s.glb.posDone,
   s.bit F.GLB_VERIFY_CFG_TIME && !s.timePassed)

/-- R509: the return checks end into PERFORM. -/
def State.verifyDone (s : State) : State :=
  let s := (s.put F.GLB_STATUS_VERIFY 0 0).raise F.GLB_EVENT_VERIFY_DONE
  s.enterPerform (s.pos.nextLine - 1)

/-- R509: an open POS check that fails at TMO opens a GAP for every head at the boundary. -/
def State.openPosGap (s : State) : State :=
  let n := s.pos.nextLine - 1
  { s with glb := { s.glb with
    posGapOpen := maskBelow 32 s.headWorks
    posGapLine := n
    posGapY := (s.tagOf n).y } }

/-- R509: the GAP of a failed POS check closes. -/
def State.closePosGap (s : State) : State :=
  if s.glb.posGapOpen == 0 then s
  else
    let open_ := s.glb.posGapOpen
    let l0 := s.glb.posGapLine
    let y0 := s.glb.posGapY
    let last := s.pos.nextLine - 1
    let s := { s with glb := { s.glb with posGapOpen := 0 } }
    let l1 := if after l0 last then l0 else last
    let y1 := (s.tagOf last).yNext
    forBelow 32 (fun h t =>
      if bitAt open_ h then t.formGap h .posUncertain l0 l1 (t.webY h y0) (t.webY h y1 - 1) else t) s

/-- R509: the POS check is over. -/
def State.posCheckOver (s : State) (passed : Bool) : State :=
  let s := { s with glb := { s.glb with posDone := true } }
  if passed then s else s.put F.GLB_STATUS_VFAIL_POS 0 1

/-- R509: TMO has passed: every open check fails. -/
def State.verifyTimeout (s : State) : State :=
  let c := s.openChecks
  let s := if c.1 then s.put F.GLB_STATUS_VFAIL_REG 0 1 else s
  let s := if c.2.2 then s.put F.GLB_STATUS_VFAIL_TIME 0 1 else s
  let s := if c.2.1 then (s.put F.GLB_STATUS_VFAIL_POS 0 1).openPosGap else s
  s.verifyDone

/-! ### HOLD -/

/-- R504: every port in RUN has completed or timed out its last cued line, and nothing waits in its FIFO. -/
def State.drained (s : State) : Bool :=
  (List.range 16).all (fun p =>
    let c := s.camPort p
    (s.camSt p != 3 && s.camSt p != 4) || (c.cueQ.isEmpty && c.fifo.isEmpty &&
      (s.camSt p != 4 ||
        (List.range (s.portHeads p)).all (fun j => atOrAfter (s.lastLine p j) (s.pos.nextLine - 1)))))

/-- R510: from PERFORM, every head that owes no GAP owes one from the line that is cued next. -/
def State.owePerform (s : State) : State :=
  let n := s.pos.nextLine
  if s.mode == .perform then
    forBelow 32 (fun h t =>
      if t.headWorks h && !(bitAt t.glb.gapOwed h) then
        { t with glb := { t.glb with
          gapOwed := t.glb.gapOwed ||| 2 ^ h
          gapFrom := t.glb.gapFrom.set h (n, t.lineYNext h (n - 1), .linkLoss) } }
      else t) s
  else s

/-- R504: the drain of HOLD entry is done. -/
def State.holdDone (s : State) (byReq : Bool) : State :=
  let s := forBelow 32 (fun h t => t.corFlush h []) s
  let s := s.drainFifo
  let s := forBelow 32 (fun h t =>
    let t := if t.bit ⟨.SEG_OVF_STATE, h, 1⟩ then t.overflowDrain h else t
    let t := t.setSegHead h { t.segHead h with fresh := true }
    t.ffAbandon h true) s
  let s := s.owePerform.closeLineGaps.stiHold
  let s := if s.mode == .rehearse then s.put F.GLB_STATUS_REH_OWED 0 1 else s
  let s := (s.setMode .hold).endTrans
  let s := (s.putB F.GLB_STATUS_HELD_BY_REQ 0 byReq).count .GLB_HOLD_CNT
  s.fspTo s.holdFsp

/-- R503, R504: HOLD is left for REHEARSE or PERFORM. -/
def State.resumeNow (s : State) : State :=
  if s.bit F.GLB_STATUS_REH_OWED || s.bit F.GLB_STATUS_VERIFY then s.beginRehearsal else s.enterPerform s.pos.nextLine

/-! ### STANDBY -/

/-- R500: an attestation in progress is discarded. -/
def State.attDrop (s : State) : State :=
  ({ s with sec := { s.sec with attHeld := false } } : State).put F.SEC_STATUS_ATT_BUSY 0 0

/-- R510, R527: a head's uninspected span starts at its settle point, when an open block of AWF, or a GAP record that has not
left the device, lies further back. -/
def State.settleBack (s : State) : State :=
  forBelow 32 (fun h t =>
    if bitAt t.glb.gapOwed h then
      let f := t.glb.gapFrom.getD h (0, 0, .linkLoss)
      let p := t.settleOf h (match t.openBlock h with
        | some n => (n, t.lineY h n)
        | none => (f.1, f.2.1))
      ({ t with glb := { t.glb with gapFrom := t.glb.gapFrom.set h (p.1, p.2, f.2.2) } } : State).bookSettle h p
    else t) s

/-- R507: what is not retained in STANDBY: the contents of pipelines, queues and FIFOs, the label table and the object
contexts. -/
def State.pipesEmpty (s : State) : State :=
  let empty (c : CorHead) : CorHead := { c with
    last := []
    held := false
    span := none
    cur := []
    strip := []
    run := none
    writing := false
    turn := false }
  { s with
    hst := { s.hst with
      ifs := s.hst.ifs.map (fun x => { x with
        rx := []
        tx := [] })
      cueQ := []
      routineQ := []
      bulkQ := []
      jobQ := []
      jobWait := []
      flushRoutine := false
      flushBulk := false
      flushJob := false
      mq := []
      nonces := []
      opens := []
      cq := List.replicate 4 []
      cqDue := List.replicate 4 false
      cqLate := List.replicate 4 false }
    cor := { s.cor with heads := s.cor.heads.map empty }
    awf := s.awf.map (fun a => { a with
      hist := []
      fresh := true })
    seg := { s.seg with
      heads := s.seg.heads.map (fun x => { x with
        fresh := true
        edge := none
        fifoArm := false
        lblArm := false
        aggs := [] })
      fifo := []
      labels := []
      objs := []
      absorbed := []
      comps := []
      closeQ := []
      markQ := []
      snipQ := [] }
    sti := { s.sti with
      seams := s.sti.seams.map (fun x => { x with
        lead := []
        trail := []
        pairs := []
        closed := none })
      wing31 := []
      arriving := [] }
    tim := { s.tim with
      offsets := []
      sync := none
      delaySent := none
      pdelayResp := none } }

/-- R507: no flat-field run outlives STANDBY. -/
def State.ffIdle (s : State) : State := forBelow 32 (fun h t => t.putFfState h 0) s

/-- R473: channels 8 to 63 hold no pulse across STANDBY. -/
def State.chansDrop (s : State) : State :=
  { s with evt := { s.evt with chans := (List.range 64).map (fun c =>
      let x := s.evt.chans.getD c ⟨0, []⟩
      if c < 8 then x else ⟨spGet 0 s.evt.fired (s.fld F.EVT_CH_PSEL c), []⟩) } }

/-- R507: STANDBY entry. -/
def State.standbyEntry (s : State) : State :=
  let s := s.closeLineGaps.closePosGap
  let s := forBelow 32 (fun h t => t.segStop h) s
  let s := s.drainClosings
  let s := forBelow 33 (fun k t => t.releaseSeam k) s
  let s := s.emitSent (fun _ => true)
  let asked := s.seg.markQ
  let s := { s with seg := { s.seg with markQ := [] } }
  let s := asked.foldl (fun t r => t.markRequest r) s
  let s := s.mrkStandby.jobsRefuse.endSessions.attDrop.settleBack
  let s := forBelow 16 (fun p t => t.camOff p) s
  let s := s.lanesToStandby.fabStandby.hostStandby.pipesEmpty.ffIdle.memStandby.chansDrop
  (s.count .GLB_STBY_CNT).setMode .standby

/-- R509: the POS check is treated as passed from the start. -/
def State.posFree (s : State) : Bool := s.fld F.POS_ZCFG_ZPERIOD == 0 || !(s.bit F.POS_CHCFG_Z_EN 0)

/-- R271, R508: POS comes back from the prompt book: its count and position, the cue grid, ZREF0 and the rollers' counts;
its channels and its speed start anew. -/
def State.posWake (s : State) : State :=
  let b := s.book.pos
  let chans := (List.range 8).map (fun c => { EncCh.fresh with
    a := (s.ench c).a
    b := (s.ench c).b
    wires := (s.ench c).wires
    count := if c == 0 then 0 else b.encs.getD (c - 1) 0 })
  let s := { s with pos := { s.pos with
    c := b.c
    p := b.p
    h := b.h
    q := b.q
    nextLine := b.line
    zref := b.zref
    zv := b.zv
    chans := chans
    lastCue := none
    skipped := false
    lastCount := none
    tp := none
    recent := []
    zAfterWake := false } }
  (s.put F.POS_SPEED_VALID 0 0).put F.POS_SPEED_STARTING 0 0

/-- R508: a wake source acts: the exit from STANDBY begins. -/
def State.wakeStart (s : State) : State :=
  let s := ((s.startTrans .wakeUp).emit .fabWake).sendWakes
  let s := s.posWake.memWake
  let s := (s.put F.GLB_STATUS_VERIFY 0 1).put F.GLB_STATUS_VFAIL_REG 0 0
  let s := (s.put F.GLB_STATUS_VFAIL_POS 0 0).put F.GLB_STATUS_VFAIL_TIME 0 0
  let s := { s with
    glb := { s.glb with posDone := s.posFree }
    cam := s.cam.map (fun (c : CamPort) => { c with resend := true }) }
  let s := s.lanesFromStandby
  (forBelow 16 (fun p t => t.camEnable p) s).fabWake

/-! ### Transitions -/

/-- R372, R384, R504: HOLD may be left: no set-point change runs; for STANDBY the running job and every access to memory have
ended as well (notes/assumptions/44). -/
def State.mayLeave (s : State) (stby : Bool) : Bool :=
  s.mem.change.isNone && (!stby || (s.arc.run.isNone && s.dma.run.isNone && s.mem.ops.isEmpty))

/-- R504, R507: a transition out of HOLD goes on once it may. -/
def State.leaveTry (s : State) : State :=
  match s.glb.trans with
  | some (.leaveHold stby) =>
    if s.mayLeave stby then
      let s := s.endTrans
      if stby then s.standbyEntry else s.resumeNow
    else s
  | _ => s

/-- R503, R504: HOLD is to be left: MEM goes back to FSP0 first. -/
def State.leaveHold (s : State) (stby : Bool) : State := ((s.fspTo 0).startTrans (.leaveHold stby)).leaveTry

/-- R503: a request acts, or is refused. -/
def State.modeAct (s : State) (r : ModeReq) : State :=
  match r with
  | .hold => if s.inspecting then s.holdEntry true else s.refuse
  | .resume => if s.mode == .hold then s.leaveHold false else s.refuse
  | .standby => if s.mode == .hold then s.leaveHold true else s.refuse
  | .wake => if s.mode == .standby && s.bit F.GLB_WAKE_CFG_TASK then s.wakeStart else s.refuse

/-- R505: a transition has completed: the request that was held is tested again. -/
def State.settle (s : State) : State :=
  match s.glb.trans, s.glb.pend with
  | none, some r =>
    (({ s with glb := { s.glb with pend := none } } : State).put F.GLB_STATUS_PENDING 0 0).modeAct r
  | _, _ => s

/-- R474: a further firing of a mode task while one is held is an overrun; the STANDBY request, which has no task, is
refused. -/
def State.modeOverrun (s : State) (r : ModeReq) : State :=
  match r with
  | .hold => s.overrun 0x56 1
  | .resume => s.overrun 0x57 1
  | .wake => s.overrun 0x58 1
  | .standby => s.refuse

/-- R503, R505: a request arrives. -/
def State.modeRequest (s : State) (r : ModeReq) : State :=
  if s.glb.trans.isSome then
    match s.glb.pend with
    | none => ({ s with glb := { s.glb with pend := some r } } : State).put F.GLB_STATUS_PENDING 0 1
    | some _ => s.modeOverrun r
  else s.modeAct r

/-- R504, R507: what a transition out of HOLD waits for may have ended. -/
def State.transCheck (s : State) : State := s.leaveTry.settle

/-! ### The curtain and thermal shutdown -/

/-- R534: the curtain is complete. -/
def State.curtainDone (s : State) : State :=
  let s := ({ s with pwr := { s.pwr with curtain := false } } : State).put F.PWR_STATUS_CURTAIN 0 0
  if s.darkFor 8 && s.pwr.bothCauses then s else s.enterDark 9

/-- R533: steps 2 of the curtain: the outputs of MRK go low, and every lane, camera port, fabric port and interface goes
off. -/
def State.curtainOff (s : State) : State :=
  let s := (forBelow 4 (fun m t => t.mrkQuiet m) s).lanesOff
  let s := forBelow 16 (fun p t => t.camOff p) s
  let s := forBelow 6 (fun f t => t.fabPortOff f) s
  s.hostStandby

/-- R533: the curtain writes a slot: after step 6 of LOAD, and in DARK only when the newest slot does not hold the frozen
mirror. -/
def State.curtainWrites (s : State) : Bool := s.pwr.step6 && (s.mode != .dark || !s.pwr.savedMirror)

/-- R529, R533, R536: a curtain trigger is accepted; `trig` is its UNIT of R539. -/
def State.curtainStart (s : State) (trig : Nat) : State :=
  if s.pwr.curtain then s
  else
    let s := s.freeze 1
    let thermal := s.darkFor 8
    let s := { s with pwr := { s.pwr with
      curtain := true
      curtainTrig := trig
      bothCauses := s.pwr.bothCauses || thermal } }
    let s := ((s.put F.PWR_STATUS_CURTAIN 0 1).raise F.PWR_EVENT_CURTAIN).count .PWR_CURTAIN_CNT
    let s := s.fault .supply trig 1 s.pwr.vkeep
    let s := if s.mode == .dark then s else s.curtainOff
    if s.curtainWrites then s.urgentWrite 1 else s.curtainDone

/-- R524, R534: SHUTDOWN asserts: MRK goes low, the mirror freezes, DARK is entered and a slot write starts. -/
def State.shutdown (s : State) (unit detail : Nat) : State :=
  let s := s.mrkDark.freeze 2
  let s := { s with pwr := { s.pwr with bothCauses := s.pwr.curtain } }
  let s := s.enterDark 8
  let s := (s.fault .thermal unit detail 0).count .THM_SHUT_CNT
  s.urgentWrite 2

/-- R516, R520, R524: SHUTDOWN is tested after a round, in every mode but DARK. -/
def State.shutdownCheck (s : State) : State :=
  if s.mode == .dark then s
  else match s.shutdownCause with
    | none => s
    | some (u, d) => s.shutdown u d

end Sys2Proof.Machine
end

