-- ==== Sys2Proof/Machine/EvtOps.lean ====
section
/-! DEFINITION. Machine/EvtOps.lean: event pins, tasks, channels and the loop guard, and the counters' tasks (spec/16 R468
to R483). -/

namespace Sys2Proof.Machine

/-! ### Counters -/

/-- R483: the settings of PMC_CTRL and PMC_WIN take effect, and a window starts when RUN has become 1. -/
def State.pmcTake (s : State) : State :=
  let win := s.rd .PMC_WIN
  { s with pmc := { s.pmc with
    ctrl := s.rd .PMC_CTRL
    win := win
    left := atLeast1 win.toNat } }

/-- R483: a write of PMC_CTRL or PMC_WIN takes effect at once, unless a window runs. -/
def State.pmcWritten (s : State) : State := if s.pmcWindows then s else s.pmcTake

/-- Task PMC_START (R469): RUN becomes 1, and a window starts; while RUN is 1 nothing changes. In the PIX cycle of a
PMC_STOP RUN stays 0 (R475). -/
def State.pmcStart (s : State) : State :=
  if s.pmc.stopAt == some s.pmc.cyc then s
  else
    let s := s.put F.PMC_CTRL_RUN 0 1
    if F.PMC_CTRL_RUN.get s.pmc.ctrl == 1 then s else s.pmcTake

/-- Task PMC_STOP (R469). -/
def State.pmcStop (s : State) : State :=
  let s := s.put F.PMC_CTRL_RUN 0 0
  { s with pmc := { s.pmc with ctrl := F.PMC_CTRL_RUN.put s.pmc.ctrl 0, stopAt := some s.pmc.cyc } }

/-- Task PMC_SNAP (R469): every counter is copied into its result pair. In the cycle in which a window ends the result pairs
hold the window's last cycle already (R475). -/
def State.pmcSnap (s : State) : State :=
  if s.pmc.endAt == some s.pmc.cyc then s
  else forBelow 8 (fun i t => t.setPair .PMC_RES_LO .PMC_RES_HI i 16 (t.pmcValue i)) s

/-! ### Pins -/

/-- Change one pin. -/
def State.setPin (s : State) (i : Nat) (x : Pin) : State := { s with evt := { s.evt with pins := s.evt.pins.set i x } }

/-- R476: EDGE of a pin selects an edge to a level. -/
def State.pinEdge (s : State) (i : Nat) (level : Bool) : Bool :=
  match s.fld F.EVT_PIN_EDGE i with
  | 0 => false
  | 1 => level
  | 2 => !level
  | _ => true

/-- R476, R477: a level of a pin is accepted: its producer fires on the edges that EDGE selects, silent in DARK. -/
def State.pinAccept (s : State) (i : Nat) (level : Bool) : State :=
  let x := s.pin i
  if x.level == level then s
  else
    let s := s.setPin i { x with level := level, since := s.clk }
    let s := (s.putB ⟨.EVT_PINSTAT, i, 1⟩ 0 level).put ⟨.EVT_PINSTAT, 16 + i, 1⟩ 0 0
    if s.mode == .dark then s
    else
      let s := if s.pinEdge i level then s.fire i else s
      if s.mode == .standby then s else s.cellsNow

/-- R476: an output pin is driven to a level, which it reads back as an input. -/
def State.pinDrive (s : State) (i : Nat) (level : Bool) : State :=
  let x := s.pin i
  let s := s.setPin i { x with out := level }
  (if x.out == level then s else s.emit (.eventPin i level)).pinAccept i level

/-- R476: a firing of an output's task. -/
def State.pinTask (s : State) (i : Nat) : State :=
  if !(s.bit F.EVT_PIN_DIR i) then s
  else
    let x := s.pin i
    if s.bit F.EVT_PIN_OMODE i then s.pinDrive i (!x.out)
    else
      let s := if x.pulse then s.overrun (0x40 + i) 1 else s
      (s.setPin i { s.pin i with pulse := true, pulseAt := s.clk }).pinDrive i (!(s.bit F.EVT_PIN_POL i))

/-- R476: an output's pulse ends when its width, PW × 40 ns from the last firing, has run out (PW 0 is
treated as 1). -/
def State.pinPulseEnd (s : State) (i : Nat) : State :=
  let x := s.pin i
  if x.pulse && decide (40 * atLeast1 (s.fld F.EVT_PIN_PW i) ≤ s.clk - x.pulseAt) then
    (s.setPin i { x with pulse := false }).pinDrive i (s.bit F.EVT_PIN_POL i)
  else s

/-- R477: at the end of LOAD an output pin stands at its inactive level. -/
def State.pinsInit (s : State) : State :=
  forBelow 16 (fun i t =>
    if t.bit F.EVT_PIN_DIR i then t.pinDrive i (!(t.bit F.EVT_PIN_OMODE i) && t.bit F.EVT_PIN_POL i) else t) s

/-- R476: an input has stayed at its active level for STUCK ms. -/
def State.pinStuck (s : State) (i : Nat) : State :=
  let e := s.fld F.EVT_PIN_EDGE i
  let active := (e == 1 && (s.pin i).level) || (e == 2 && !(s.pin i).level)
  if s.mode != .dark && !(s.bit F.EVT_PIN_DIR i) && s.fld F.EVT_CTRL_STUCK != 0 && active &&
      decide (1000000 * s.fld F.EVT_CTRL_STUCK < s.clk - (s.pin i).since) && !(s.bit ⟨.EVT_PINSTAT, 16 + i, 1⟩) then
    (s.put ⟨.EVT_PINSTAT, 16 + i, 1⟩ 0 1).raise F.EVT_EVENT_PIN_STUCK
  else s

/-! ### Tasks -/

/-- R469: tick time is stored in EVT_TCAP0 or EVT_TCAP1. -/
def State.timeCap (s : State) (n : Nat) : State :=
  let t := s.tick.toNat
  if n == 0 then s.setPair .EVT_TCAP0_LO .EVT_TCAP0_HI 0 32 t else s.setPair .EVT_TCAP1_LO .EVT_TCAP1_HI 0 32 t

/-- R469: master Y, the integer part of P, is stored in EVT_YCAP. -/
def State.posCap (s : State) : State := s.setPair .EVT_YCAP_L .EVT_YCAP_H 0 8 (s.pos.p.toNat / 2 ^ 32)

/-- R473: a task that is powered in STANDBY. -/
def standbyTask (t : Nat) : Bool := (0x40 ≤ t && t < 0x50) || (0x56 ≤ t && t < 0x59)

/-- R473: a producer that is powered in STANDBY. -/
def standbyProducer (p : Nat) : Bool :=
  p < 0x10 || p == 0x94 || p == 0x95 || p == 0xB2 || (0xB4 ≤ p && p ≤ 0xBC)

/-- R469: a task input fires. Reserved tasks do nothing, nor does a task that is not powered (R473). -/
def State.taskFire (s : State) (t : Nat) : State :=
  if s.mode == .dark || (s.mode == .standby && !(standbyTask t)) then s
  else if t < 0x40 then s.cellTask (t / 4) (t % 4)
  else if t < 0x50 then s.pinTask (t - 0x40)
  else match t with
    | 0x50 => s.pmcStart
    | 0x51 => s.pmcStop
    | 0x52 => s.pmcSnap
    | 0x53 => s.timeCap 0
    | 0x54 => s.timeCap 1
    | 0x55 => s.posCap
    | 0x56 => s.modeRequest .hold
    | 0x57 => s.modeRequest .resume
    | 0x58 => s.modeRequest .wake
    | _ => s

/-! ### Channels -/

/-- What is kept of a channel. -/
def State.chan (s : State) (c : Nat) : Chan := s.evt.chans.getD c ⟨0, []⟩

/-- Change what is kept of a channel. -/
def State.setChan (s : State) (c : Nat) (x : Chan) : State :=
  { s with evt := { s.evt with chans := s.evt.chans.set c x } }

/-- The bit of a channel in EVT_LOOPED. -/
def loopedBit (c : Nat) : Fld := ⟨.EVT_LOOPED, c % 32, 1⟩

/-- Firings of a channel's producer so far (R468). -/
def State.chanFired (s : State) (c : Nat) : Nat := spGet 0 s.evt.fired (s.fld F.EVT_CH_PSEL c)

/-- R470, R473: the channel carries pulses. -/
def State.chanOn (s : State) (c : Nat) : Bool :=
  s.bit F.EVT_CTRL_EN && s.bit F.EVT_CH_EN c && !(s.bit (loopedBit c) (c / 32)) && s.mode != .dark &&
    (c < 8 || s.mode != .standby)

/-- R480: an instant lies inside the guard's window: the last 64 ECLK cycles, or ACLK cycles in STANDBY. -/
def State.inGuard (s : State) (t : Nat) : Bool :=
  if s.mode == .standby then decide (s.clk / 40 - t / 40 < 64) else decide (s.clk / 4 - t / 4 < 64)

/-- LOOP_LIMIT: 0 is treated as 1. -/
def State.loopLimit (s : State) : Nat := atLeast1 (s.fld F.EVT_CTRL_LOOP_LIMIT)

/-- R480: the guard latches a channel off. -/
def State.loopLatch (s : State) (c : Nat) : State :=
  let s := (s.put (loopedBit c) (c / 32) 1).raise F.EVT_EVENT_LOOP
  (s.count .EVT_LOOP_CNT).fault .evtLoop c 0 0

/-- R480: a channel delivers `k` pulses to a task in one ECLK cycle, unless the guard stops it; pulses beyond the first are
overruns (R471, R474). -/
def State.chanPulse (s : State) (c k : Nat) : State :=
  let x := s.chan c
  let recent := x.recent.filter s.inGuard
  if s.loopLimit ≤ recent.length then s.loopLatch c
  else
    let task := s.fld F.EVT_CH_TSEL c
    let s := s.setChan c { x with recent := s.clk :: recent }
    (s.overrun task (k - 1)).taskFire task

/-- R470 to R474: a channel delivers what its producer has fired since the delivery before. -/
def State.chanDeliver (s : State) (c : Nat) : State :=
  let x := s.chan c
  let fired := s.chanFired c
  if s.chanOn c && x.seen != fired then
    let k := min 15 (fired - x.seen)
    let s := s.setChan c { x with seen := x.seen + k }
    let task := s.fld F.EVT_CH_TSEL c
    if s.mode == .standby && !(standbyProducer (s.fld F.EVT_CH_PSEL c)) then s
    else if 0x59 ≤ task then s
    else if s.mode == .standby && !(standbyTask task) then
      (s.count .EVT_DROP_CNT 0 k).raise F.EVT_EVENT_DROP
    else s.chanPulse c k
  else s

/-- R480: software re-enables a latched channel; its window starts empty. -/
def State.loopReenable (s : State) (c : Nat) : State :=
  if s.bit (loopedBit c) (c / 32) then (s.put (loopedBit c) (c / 32) 0).setChan c ⟨s.chanFired c, []⟩ else s

/-- At the end of LOAD no channel holds a pulse. -/
def State.chansInit (s : State) : State :=
  { s with evt := { s.evt with chans := (List.range 64).map (fun c => ⟨s.chanFired c, []⟩) } }

end Sys2Proof.Machine
end

