-- ==== Sys2Proof/Machine/Evt.lean ====
section
/-! DEFINITION. Machine/Evt.lean: the meanings of the commands of event routing and of the counters (spec/16). -/

namespace Sys2Proof.Machine

/-- EVT_PIN_EDGE (R476, R477): the synchroniser of an input pin has delivered a level for `held` cycles (ECLK, in STANDBY
ACLK): it is accepted once it has held for FILT of them, and one that has not is no edge. -/
def execEvtPinEdge (i : Fin 16) (level : Bool) (held : Nat) (s : State) : Host.Outcome State Fault Refusal :=
  .next (if (s.bit F.EVT_PIN_DIR i && s.mode != .dark) || decide (held < s.fld F.EVT_PIN_FILT i) then s
    else s.pinAccept i level)

/-- PIN_STUCK (R476): `dt` TCLK cycles pass, and an input has stayed at its active level for longer than STUCK ms. -/
def execPinStuck (dt : Nat) (i : Fin 16) (s : State) : Host.Outcome State Fault Refusal :=
  .next ((s.advance dt).pinStuck i)

/-- PIN_PULSE_END (R476): `dt` TCLK cycles pass, and the width of an output's pulse has run out. -/
def execPinPulseEnd (dt : Nat) (i : Fin 16) (s : State) : Host.Outcome State Fault Refusal :=
  .next ((s.advance dt).pinPulseEnd i)

/-- EVT_CHANNEL_DELIVERY (R470 to R474, R480). -/
def execEvtChannelDelivery (c : Fin 64) (s : State) : Host.Outcome State Fault Refusal := .next (s.chanDeliver c)

/-- LOOP_REENABLE (R480): 1 is written to a bit of EVT_LOOPED. -/
def execLoopReenable (c : Fin 64) (s : State) : Host.Outcome State Fault Refusal := .next (s.loopReenable c)

/-- SOFTWARE_FIRE (R470): EVT_SWFIRE fires a task input as one pulse. -/
def execSoftwareFire (task : BitVec 7) (s : State) : Host.Outcome State Fault Refusal := .next (s.taskFire task.toNat)

/-- CELL_FILTER_PASS (R478, R479): `dt` TCLK cycles pass, and a value of cell `k` that has held for FILT ECLK cycles passes the
filter. -/
def execCellFilterPass (dt : Nat) (k : Fin 16) (s : State) : Host.Outcome State Fault Refusal :=
  let t := s.advance dt
  .next (if t.mode == .standby || t.mode == .dark then t else t.cellPass k)

/-- PMC_WINDOW_END (R483): the running window reaches its last cycle; the clock runs up to it. -/
def execPmcWindowEnd (s : State) : Host.Outcome State Fault Refusal :=
  .next (if s.pmcWindows then (s.advance (ceilDiv (10 * s.pmc.left) 13)).pmcWindowEnd else s)

/-- PMC_COUNTER_WRAP (R481): a counter at 2^48 − 1 counts once more. -/
def execPmcCounterWrap (i : Fin 8) (s : State) : Host.Outcome State Fault Refusal :=
  if F.PMC_CTRL_RUN.get s.pmc.ctrl == 1 && s.pmcValue i == 2 ^ 48 - 1 then
    let r := s.pmcBump i 1
    .next (if r.2 then r.1.fire 0xBE else r.1)
  else .next s

end Sys2Proof.Machine
end

