-- ==== Sys2Proof/Machine/Hst.lean ====
section
/-! DEFINITION. Machine/Hst.lean: the commands of the host ports (spec/14 R408 to R430, R440 to R442). MGMT_READ and
MGMT_WRITE stand in Machine/Reg.lean. -/

namespace Sys2Proof.Machine

/-- HOST_IF_UP (R409). -/
def execHostIfUp (j : Fin 16) (s : State) : Host.Outcome State Fault Refusal := .next (s.hostUp j.val)

/-- HOST_IF_DOWN (R409). -/
def execHostIfDown (j : Fin 16) (remoteFault : Bool) (s : State) : Host.Outcome State Fault Refusal :=
  .next (s.hostDown j.val remoteFault)

/-- FAILOVER (R418): `dt` TCLK cycles pass, and the active interface has been down for LINKDN_TMO. -/
def execFailover (dt : Nat) (s : State) : Host.Outcome State Fault Refusal := .next (s.advance dt).failover

/-- HOST_FRAME_START (R416). -/
def execHostFrameStart (j : Fin 16) (s : State) : Host.Outcome State Fault Refusal := .next (s.frameStart j.val)

/-- FRAME_FLUSH (R417). -/
def execFrameFlush (cls : LClass) (s : State) : Host.Outcome State Fault Refusal := .next (s.frameFlush cls)

/-- The FEC codewords that an interface has received since its last frame are counted (R443): those corrected and those
uncorrectable, while its mode runs a FEC (R408). -/
def State.fecCount (s : State) (j corrected bad : Nat) : State :=
  if s.bit F.HST_IF_STATUS_FEC_LOCK j then
    (s.count .HST_FEC_CORR_CNT j corrected).count .HST_FEC_UNCORR_CNT j bad
  else s

/-- HOST_FRAME_RX (R414, R443): a frame is received; `corrected` and `bad` FEC codewords have come since the frame before. -/
def execHostFrameRx (j : Fin 16) (bytes : List Byte) (corrected bad : Nat) (s : State) :
    Host.Outcome State Fault Refusal :=
  .next ((s.fecCount j.val corrected bad).frameRx j.val bytes)

/-- ARP_REQUEST (R421). -/
def execArpRequest (j : Fin 16) (s : State) : Host.Outcome State Fault Refusal := .next (s.arpAnswer j.val)

/-- ICMP_ECHO_REQUEST (R421). -/
def execIcmpEchoRequest (j : Fin 16) (s : State) : Host.Outcome State Fault Refusal := .next (s.icmpAnswer j.val)

/-- MGMT_CHALLENGE (R424). -/
def execMgmtChallenge (s : State) : Host.Outcome State Fault Refusal := .next s.mgmtChallenge

/-- MGMT_OPEN (R424). -/
def execMgmtOpen (s : State) : Host.Outcome State Fault Refusal := .next s.mgmtOpen

/-- MGMT_OPEN_VERIFIED (R424). -/
def execMgmtOpenVerified (sigOk : Bool) (s : State) : Host.Outcome State Fault Refusal :=
  .next (s.mgmtOpenVerified sigOk)

/-- MGMT_CLOSE (R425). -/
def execMgmtClose (s : State) : Host.Outcome State Fault Refusal := .next s.mgmtClose

/-- MGMT_MALFORMED (R422). -/
def execMgmtMalformed (s : State) : Host.Outcome State Fault Refusal := .next s.mgmtMalformed

/-- SESSION_EXPIRY (R425): `dt` TCLK cycles pass, and a session that has reached its LIFE or IDLE time ends. -/
def execSessionExpiry (dt : Nat) (k : Fin 4) (s : State) : Host.Outcome State Fault Refusal :=
  let t := s.advance dt
  .next (if t.sessionOver k.val then t.endSession k.val else t)

/-- NONCE_EXPIRY (R424): `dt` TCLK cycles pass, and the nonce of a source that has reached 10 s is dropped. -/
def execNonceExpiry (dt : Nat) (ip : Word) (port : BitVec 16) (s : State) : Host.Outcome State Fault Refusal :=
  let t := s.advance dt
  .next { t with hst := { t.hst with
    nonces := t.hst.nonces.filter (fun x => !(x.ip == ip && x.port == port && x.old t.clk)) } }

/-- CQ_PUSH (R440). -/
def execCqPush (k : Fin 4) (value : Word) (s : State) : Host.Outcome State Fault Refusal := .next (s.cqPush k.val value)

/-- CQ_ENTRY_DUE (R441). -/
def execCqEntryDue (k : Fin 4) (s : State) : Host.Outcome State Fault Refusal := .next (s.cqEntryDue k.val)

end Sys2Proof.Machine
end

