-- ==== Sys2Proof/Machine/Glb.lean ====
section
/-! DEFINITION. Machine/Glb.lean: the meanings of resets and of mode control (spec/17 R485, R502 to R509) and of the wake
pin (spec/15 R446). -/

namespace Sys2Proof.Machine

/-- RESET_N_ASSERT (R485, R529): the last four samples of RESET_N in ACLK; a low level that the filter of R266 accepts resets
the device. -/
def execResetNAssert (samples : BitVec 4) (s : State) : Host.Outcome State Fault Refusal :=
  .next (if filter3of4 true samples then s else s.resetLow)

/-- RESET_N_RELEASE (R485, LOAD steps 1 to 3): the last four samples of RESET_N in ACLK; a high level that the filter accepts
starts LOAD. The board raises RESET_N when every power-good input is high. -/
def execResetNRelease (samples : BitVec 4) (s : State) : Host.Outcome State Fault Refusal :=
  .next (if s.glb.powered || !(filter3of4 false samples) then s else ({ s with pwr := { s.pwr with pg := 15 } } : State).loadStart)

/-- KEEP_DOMAIN_POWER_LOSS (R485): VKEEP has fallen below the supervisor's threshold. -/
def execKeepDomainPowerLoss (s : State) : Host.Outcome State Fault Refusal := .next s.keepReset

/-- KEEP_DOMAIN_POWER_ON (R485, R530): VKEEP has risen after an absence. -/
def execKeepDomainPowerOn (s : State) : Host.Outcome State Fault Refusal := .next s.keepReset

/-- HOLD_REQUEST (R503, R505): GLB_CTRL.HOLD. -/
def execHoldRequest (s : State) : Host.Outcome State Fault Refusal := .next (s.modeRequest .hold)

/-- RESUME_REQUEST (R503, R505): GLB_CTRL.RESUME. -/
def execResumeRequest (s : State) : Host.Outcome State Fault Refusal := .next (s.modeRequest .resume)

/-- STANDBY_REQUEST (R503, R505, R507): GLB_CTRL.STANDBY. -/
def execStandbyRequest (s : State) : Host.Outcome State Fault Refusal := .next (s.modeRequest .standby)

/-- GLB_CTRL.RELOAD (R503, R529): the mirror freezes and LOAD starts, in any mode. -/
def State.reload (s : State) : State := (s.freeze 3).loadStart

/-- RELOAD_REQUEST (R503, R529). -/
def execReloadRequest (s : State) : Host.Outcome State Fault Refusal := .next (if s.glb.powered then s.reload else s)

/-- REHEARSAL_OWED_REQUEST (R503): GLB_CTRL.REH sets REH_OWED for the next resume. -/
def execRehearsalOwedRequest (s : State) : Host.Outcome State Fault Refusal := .next (s.put F.GLB_STATUS_REH_OWED 0 1)

/-- HOLD_DRAIN_DONE (R504, R505): the last cued lines have completed or timed out, and every stage has passed them. -/
def execHoldDrainDone (s : State) : Host.Outcome State Fault Refusal :=
  match s.glb.trans with
  | some (.toHold byReq) => .next (if s.drained then (s.holdDone byReq).settle else s)
  | _ => .next s

/-- AUTO_RESUME (R503): the web moves again in a HOLD that no request entered. -/
def execAutoResume (s : State) : Host.Outcome State Fault Refusal :=
  .next (if s.mode == .hold && s.glb.trans.isNone && s.runSpeed && s.bit F.GLB_RUN_CFG_AUTO_RESUME &&
    !(s.bit F.GLB_STATUS_HELD_BY_REQ) then s.leaveHold false else s)

/-- STANDBY_AFTER_EXPIRY (R503, R507): `dt` TCLK cycles pass, and HOLD has lasted STBY_AFTER seconds. -/
def execStandbyAfterExpiry (dt : Nat) (s : State) : Host.Outcome State Fault Refusal :=
  let s := s.advance dt
  .next (if s.mode == .hold && s.glb.trans.isNone && s.fld F.GLB_WAKE_CFG_STBY_AFTER != 0 &&
      decide (1000000000 * s.fld F.GLB_WAKE_CFG_STBY_AFTER ≤ s.clk - s.glb.modeAt) then s.leaveHold true else s)

/-- R508: a wake source is enabled in GLB_WAKE_CFG. -/
def State.wakeEnabled (s : State) (src : WakeSource) : Bool :=
  match src with
  | .task => s.bit F.GLB_WAKE_CFG_TASK
  | .lane => s.bit F.GLB_WAKE_CFG_LANE
  | .pin => s.bit F.GLB_WAKE_CFG_PIN

/-- R503, R508: a wake source acts in STANDBY. -/
def State.wakeBy (s : State) (src : WakeSource) : State :=
  if s.mode == .standby && s.glb.trans.isNone && s.wakeEnabled src then s.wakeStart else s

/-- STANDBY_WAKE (R508). -/
def execStandbyWake (src : WakeSource) (s : State) : Host.Outcome State Fault Refusal := .next (s.wakeBy src)

/-- WAKE_HOLD_ENTRY (R508, R505): bring-up after a wake is complete: HOLD with VERIFY set. -/
def execWakeHoldEntry (s : State) : Host.Outcome State Fault Refusal :=
  match s.glb.trans with
  | some .wakeUp =>
    let s := (s.setMode .hold).endTrans
    let s := (s.put F.GLB_STATUS_HELD_BY_REQ 0 0).count .GLB_HOLD_CNT
    .next ((s.cellsResume.chansDrop.fspTo s.holdFsp).settle)
  | _ => .next s

/-- REHEARSAL_END (R506): a full rehearsal ends at a strip boundary with every head and seam accepted. -/
def execRehearsalEnd (s : State) : Host.Outcome State Fault Refusal :=
  .next (if s.atRehBoundary && !(s.bit F.GLB_STATUS_VERIFY) && decide (s.minStrips ≤ s.stripsPassed) && s.rehAccepted
    then s.rehearsalEnd false else s)

/-- REHEARSAL_TIMEOUT (R506): MAX_STRIPS strips have passed. R55: an acceptance at that boundary wins. -/
def execRehearsalTimeout (s : State) : Host.Outcome State Fault Refusal :=
  .next (if s.atRehBoundary && !(s.bit F.GLB_STATUS_VERIFY) && decide (s.maxStrips ≤ s.stripsPassed)
    then s.rehearsalEnd (!s.rehAccepted) else s)

/-- VERIFY_END (R509): every enabled return check has passed or failed, and a strip has passed. -/
def execVerifyEnd (s : State) : Host.Outcome State Fault Refusal :=
  .next (if s.atRehBoundary && s.bit F.GLB_STATUS_VERIFY && decide (1 ≤ s.stripsPassed) && s.openChecks == (false, false, false)
    then s.verifyDone else s)

/-- VERIFY_TIMEOUT (R509): TMO strips have passed. -/
def execVerifyTimeout (s : State) : Host.Outcome State Fault Refusal :=
  .next (if s.atRehBoundary && s.bit F.GLB_STATUS_VERIFY && decide (atLeast1 (s.fld F.GLB_VERIFY_CFG_TMO) ≤ s.stripsPassed)
    then s.verifyTimeout else s)

/-- FAB_WAKE_PIN (R446, R508): the last four samples of FAB_WAKE in ACLK; a high level that the filter of R266 accepts raises
WAKE_PIN. -/
def execFabWakePin (samples : BitVec 4) (s : State) : Host.Outcome State Fault Refusal :=
  let level := filter3of4 s.fab.wake samples
  let t := { s with fab := { s.fab with wake := level } }
  .next (if level && !s.fab.wake then (t.raise F.FAB_EVENT_WAKE_PIN).wakeBy .pin else t)

end Sys2Proof.Machine
end

