-- ==== Sys2Proof/Machine/Lne.lean ====
section
/-! DEFINITION. Machine/Lne.lean: the meanings of the commands of the serial lanes (spec/13 R388 to R407, spec/03 R73 to
R76). -/

namespace Sys2Proof.Machine

/-! ### Lanes and their owners -/

/-- R76, R394, R409, R453: what the owner of a lane does when the lane is lost. -/
def State.laneLost (s : State) (l : Nat) : State :=
  if isCamLane l then s.camLaneLost (l / 4)
  else if isFabLane l then s.fabPortDown ((l - 64) / 4)
  else s.hostLaneLost l

/-- R101: the loss of a lane faults its port, in ALIGN only for a lane that had locked. -/
def State.lossCounts (s : State) (l : Nat) : Bool :=
  !(isCamLane l && s.camSt (l / 4) == 1) || s.bit F.LNE_STATE_HDR_OK l

/-- R393, R394: a lane leaves UP for ACQ, and its owner loses it. -/
def State.laneDrop (s : State) (l : Nat) (c : LaneCause) : State :=
  if s.laneSt l == .up then
    let t := s.laneRetrain l c
    if s.lossCounts l then t.laneLost l else t
  else s

/-- R391, R392: the reference of a lane is lost. -/
def State.laneRefLost (s : State) (l : Nat) : State :=
  match s.laneSt l with
  | .up => s.laneDrop l .ref
  | .test => s.laneDown l .acq
  | .low =>
    let s := s.laneDown l .acq
    s.setLane l { s.lane l with eighth := true }
  | _ => s

/-- What LNE_RXEQℓ shows (R398). -/
def State.showRxEq (s : State) (l : Nat) : State :=
  let x := s.lane l
  let mags := x.dfe.tail.map (fun b => b.toInt.natAbs)
  let s := (s.put F.LNE_RXEQ_CTLE l x.ctle).put F.LNE_RXEQ_GAIN l x.gain
  (s.put F.LNE_RXEQ_DFE1 l (x.dfe.headD 0).toNat).put F.LNE_RXEQ_DFEMAX l (mags.foldl max 0)

/-- LANE_ACQ_DONE (R392, R393, R397): the PLL, the CDR and the first adaptation of a lane are complete, with the settings
found. -/
def execLaneAcqDone (l : Fin 104) (ctle : Fin 16) (gain : Fin 64) (dfe : List Byte) (s : State) :
    Host.Outcome State Fault Refusal :=
  if s.laneSt l == .acq && s.refOk l then
    let low := (s.lane l).eighth
    let s := (s.put F.LNE_STATE_PLL_LOCK l 1).put F.LNE_STATE_CDR_LOCK l 1
    let s := (s.put F.LNE_STATE_SIGDET l 1).put F.LNE_STATE_RETRAINING l 0
    let s := (s.put F.LNE_STATE_SLIP_POS l 0).put F.LNE_STATE_HDR_RUN l 0
    let s := s.setLane l { s.lane l with
      ctle := ctle
      gain := gain
      dfe := (List.range 10).map (fun i => dfe.getD i 0) }
    let s := (s.showRxEq l).putLaneSt l (if low then .low else .up)
    .next (if !low && s.bit F.LNE_TEST_EN l then s.laneTestTry l else s)
  else .next s

/-- R395: a RETRAIN written in this cycle has sent the lane to ACQ. -/
def State.retrainedNow (s : State) (l : Nat) : Bool :=
  s.laneSt l == .acq && s.bit F.LNE_STATE_RETRAINING l && (s.lane l).lostAt == s.clk + 1 &&
    s.fld F.LNE_LAST_LANE == l && s.fld F.LNE_LAST_CAUSE == LaneCause.retrain.code

/-- LANE_LOCK_LOSS (R392, R393, R395): a lane in UP loses CDR lock, or its signal for 1 µs. In the cycle of a RETRAIN the lane
enters ACQ once, and the cause is the loss. -/
def execLaneLockLoss (l : Fin 104) (signal : Bool) (s : State) : Host.Outcome State Fault Refusal :=
  let c : LaneCause := if signal then .signal else .lock
  if s.retrainedNow l then
    let t := if signal then s.put F.LNE_STATE_SIGDET l 0 else s
    .next (((t.put F.LNE_LAST_CAUSE 0 c.code).count .LNE_LOCKLOSS_CNT l).raise F.LNE_EVENT_LOCK_LOSS)
  else .next (s.laneDrop l c)

/-- REFCLK_WINDOW (R391): a window of a reference ends with `count` reference cycles. -/
def execRefclkWindow (host : Bool) (count : Nat) (s : State) : Host.Outcome State Fault Refusal :=
  let k := b2n host
  let ok : Fld := if host then F.LNE_STATUS_REF_HOST_OK else F.LNE_STATUS_REF_CAM_OK
  let good := decide (1552 ≤ count) && decide (count ≤ 1566)
  let bad := if good then 0 else s.lne.refBad.getD k 0 + 1
  let run := if good then s.lne.refGood.getD k 0 + 1 else 0
  let s := { s with lne := { s.lne with
    refBad := s.lne.refBad.set k (min bad 2)
    refGood := s.lne.refGood.set k (min run 10) } }
  if bad == 2 then
    let s := (s.put ok 0 0).raise (if host then F.LNE_EVENT_REF_HOST_LOSS else F.LNE_EVENT_REF_CAM_LOSS)
    .next (forBelow 104 (fun l t => if isHostLane l == host then t.laneRefLost l else t) s)
  else .next (if 10 ≤ run then s.put ok 0 1 else s)

/-- LANE_RETRAIN (R392, R395): LNE_CTL.RETRAIN is written 1. -/
def execLaneRetrain (l : Fin 104) (s : State) : Host.Outcome State Fault Refusal := .next (s.laneDrop l .retrain)

/-- R400: a camera or fabric lane in UP shows its block alignment. -/
def State.showsBlocks (s : State) (l : Nat) : Bool := !(isHostLane l) && s.laneSt l == .up

/-- R400: a slip moves the block boundary one bit later. -/
def State.laneSlip (s : State) (l : Nat) : State :=
  if s.showsBlocks l then
    (s.put F.LNE_STATE_SLIP_POS l ((s.fld F.LNE_STATE_SLIP_POS l + 1) % 66)).laneLoseBlocks l
  else s

/-- LANE_SLIP (R400): LNE_CTL.SLIP is written 1. -/
def execLaneSlip (l : Fin 104) (s : State) : Host.Outcome State Fault Refusal := .next (s.laneSlip l)

/-- R392: LNE_CTL.DEEP is set or cleared. -/
def State.laneDeepSet (s : State) (l : Nat) (deep : Bool) : State :=
  let s := s.putB F.LNE_CTL_DEEP l deep
  match deep, s.laneSt l with
  | true, .up =>
    let t := s.laneDown l .deep
    if s.lossCounts l then t.laneLost l else t
  | true, .acq => s.laneDown l .deep
  | false, .deep => if s.mode == .standby then s else s.laneDown l .acq
  | _, _ => s

/-- LANE_DEEP (R392). -/
def execLaneDeep (l : Fin 104) (deep : Bool) (s : State) : Host.Outcome State Fault Refusal := .next (s.laneDeepSet l deep)

/-! ### Test patterns -/

/-- R404: the transmitter of lane `l` sends a pattern, and which one; `none` while it sends none. Camera lanes 1 to 3 have no
transmitter. -/
def State.lanePattern (s : State) (l : Nat) : Option Nat :=
  if s.laneSt l == .test && s.bit F.LNE_TEST_GEN l && !(isCamLane l && l % 4 != 0) then
    some (min (s.fld F.LNE_TEST_PATTERN l) 2)
  else none

/-- R404, R405: the bit that the checker of lane `l` expects after the 31 bits received last, newest in bit 0. INV inverts the
pattern. -/
def State.checkerBit (s : State) (l : Nat) (last : BitVec 31) : Bool :=
  prbsBit (min (s.fld F.LNE_TEST_PATTERN l) 2) last ^^ s.bit F.LNE_TEST_INV l

/-- R404: a lane in TEST receives its own transmitter: LOOP of a fabric or host lane. -/
def State.laneLoops (s : State) (l : Nat) : Bool :=
  s.laneSt l == .test && s.bit F.LNE_TEST_LOOP l && !(isCamLane l)

/-- LANE_TEST_REQUEST (R404): LNE_TESTℓ is written. -/
def execLaneTestRequest (l : Fin 104) (value : Word) (s : State) : Host.Outcome State Fault Refusal :=
  .next ((s.wr .LNE_TEST l (value &&& 0x7F)).laneTestTry l)

/-- R406: a write of LNE_BER_CFG abandons every running window; new ones start at the next locked bit. -/
def State.berRestart (s : State) : State :=
  forBelow 104 (fun l t =>
    if (t.lane l).window then
      t.put F.LNE_TSTAT_ABANDON l 1
    else t) s

/-- BER_CFG_WRITE (R406): LNE_BER_CFG is written. -/
def execBerCfgWrite (value : Word) (s : State) : Host.Outcome State Fault Refusal :=
  .next (s.wr .LNE_BER_CFG 0 (value &&& 0x1F)).berRestart

/-- R404: the checker of a lane runs. -/
def State.checkerOn (s : State) (l : Nat) : Bool := s.laneSt l == .test && s.bit F.LNE_TEST_CHK l

/-- PRBS_CHECKER_LOCK (R405, R406): 128 bits have matched. -/
def execPrbsCheckerLock (l : Fin 104) (s : State) : Host.Outcome State Fault Refusal :=
  .next (if s.checkerOn l && !(s.bit F.LNE_TSTAT_LOCKED l) then
    (s.put F.LNE_TSTAT_LOCKED l 1).setLane l { s.lane l with window := true } else s)

/-- PRBS_CHECKER_LOSS (R405, R406): more than 1,024 bits have mismatched within 2^16; `mismatches` counts those since the
window's start. -/
def execPrbsCheckerLoss (l : Fin 104) (mismatches : Nat) (s : State) : Host.Outcome State Fault Refusal :=
  if s.checkerOn l && s.bit F.LNE_TSTAT_LOCKED l then
    let s := (s.count .LNE_PRBS_ERR l mismatches).put F.LNE_TSTAT_LOCKED l 0
    let s := s.put F.LNE_TSTAT_LOSS_CNT l ((s.fld F.LNE_TSTAT_LOSS_CNT l + 1) % 256)
    let s := if (s.lane l).window then s.put F.LNE_TSTAT_ABANDON l 1 else s
    .next (s.setLane l { s.lane l with window := false })
  else .next s

/-- BER_WINDOW_END (R405, R406): the window of a locked checker ends with `mismatches`. -/
def execBerWindowEnd (l : Fin 104) (mismatches : Nat) (s : State) : Host.Outcome State Fault Refusal :=
  if s.checkerOn l && s.bit F.LNE_TSTAT_LOCKED l && (s.lane l).window then
    let s := (s.count .LNE_PRBS_ERR l mismatches).wr .LNE_BER_RES l (BitVec.ofNat 32 (min mismatches 0xFFFFFFFF))
    let s := s.put F.LNE_TSTAT_WSEQ l ((s.fld F.LNE_TSTAT_WSEQ l + 1) % 256)
    .next ((s.put F.LNE_TSTAT_ABANDON l 0).raise F.LNE_EVENT_BER_DONE)
  else .next s

/-- R398: 40 µs have passed since the last step of a lane's background adaptation. -/
def State.adaptFree (s : State) (l : Nat) : Bool :=
  (s.lane l).stepAt == 0 || decide ((s.lane l).stepAt + 40000 ≤ s.clk + 1)

/-- ADAPTATION_STEP (R398): `dt` TCLK cycles pass, and background adaptation moves one setting by one step: 0 the equaliser, 1 the
gain, 2 to 11 the taps; at most once per 40 µs. -/
def execAdaptationStep (dt : Nat) (l : Fin 104) (setting : Fin 12) (up : Bool) (s : State) :
    Host.Outcome State Fault Refusal :=
  let s := s.advance dt
  if s.laneSt l == .up && s.bit F.LNE_CFG_ADAPT l && s.adaptFree l then
    let x := { s.lane l with stepAt := s.clk + 1 }
    let move (n top : Nat) : Nat := if up then min (n + 1) top else n - 1
    let y : Lane := match setting.val with
      | 0 => { x with ctle := move x.ctle 15 }
      | 1 => { x with gain := move x.gain 63 }
      | k =>
        let d := (x.dfe.getD (k - 2) 0).toInt
        { x with dfe := x.dfe.set (k - 2) (BitVec.ofInt 8 (clampI (-128) 127 (if up then d + 1 else d - 1))) }
    .next ((s.setLane l y).showRxEq l)
  else .next s

/-! ### Low-rate links -/

/-- KEEP_BLOCK_SEND (R401): 1,023 other blocks have been sent on a low-rate lane. -/
def execKeepBlockSend (l : Fin 104) (s : State) : Host.Outcome State Fault Refusal :=
  .next (if s.laneSt l == .low then
    s.emit (.laneBlock l 0xB4 (s.fabAddr.toNat * 2 ^ 44 + s.mode.code * 2 ^ 40)) else s)

/-- KEEP_BLOCK_RX (R401): a valid KEEP block of a partner arrives; its address and mode tell of the partner. -/
def execKeepBlockRx (l : Fin 104) (_addr : FabAddr) (_mode : Fin 16) (s : State) : Host.Outcome State Fault Refusal :=
  .next (if s.laneSt l == .low then s.put F.LNE_STATE_KA l 1 else s)

/-- KEEPALIVE_LOST (R401, R402): no valid KEEP has arrived for 100 µs. -/
def execKeepaliveLost (l : Fin 104) (s : State) : Host.Outcome State Fault Refusal :=
  if s.laneSt l == .low || (s.laneSt l == .acq && (s.lane l).eighth) then
    let s := (s.put F.LNE_STATE_KA l 0).raise F.LNE_EVENT_KA_LOST
    .next ((s.put F.LNE_LAST_LANE 0 l).put F.LNE_LAST_CAUSE 0 LaneCause.ka.code)
  else .next s

/-- WAKE_BLOCK_RX (R401, R508): a valid WAKE block arrives on a low-rate lane. -/
def execWakeBlockRx (l : Fin 104) (s : State) : Host.Outcome State Fault Refusal :=
  .next (if s.laneSt l == .low then (s.raise F.LNE_EVENT_WAKE).wakeBy .lane else s)

/-! ### Blocks -/

/-- BLOCK_LOCK (R400, R401): 64 consecutive valid sync headers. -/
def execBlockLock (l : Fin 104) (s : State) : Host.Outcome State Fault Refusal :=
  .next (if s.showsBlocks l || s.laneSt l == .low then
    (s.put F.LNE_STATE_HDR_RUN l 64).put F.LNE_STATE_HDR_OK l 1 else s)

/-- R76, R401: 16 of the last 64 blocks of a locked lane are invalid. -/
def State.lockBroken (s : State) (l : Nat) : Bool :=
  decide (16 ≤ ((s.lane l).blocks.filter (fun b => !b)).length)

/-- INVALID_BLOCK (R76, R400, R401, R407): a block with sync header `hdr` arrives after `since` valid ones, and it is
invalid, for the header or else for its type (R71). -/
def execInvalidBlock (l : Fin 104) (since : Nat) (hdr : BitVec 2) (s : State) : Host.Outcome State Fault Refusal :=
  let header := headerBad hdr
  let low := s.laneSt l == .low
  if s.showsBlocks l || low then
    let s := if low || header then s.count .LNE_HDR_ERR_CNT l else s
    let run := min (s.fld F.LNE_STATE_HDR_RUN l + since) 64
    let s := s.put F.LNE_STATE_HDR_RUN l (if header then 0 else min (run + 1) 64)
    if s.bit F.LNE_STATE_HDR_OK l then
      let x := s.lane l
      let s := s.setLane l { x with blocks := lastN 64 (x.blocks ++ List.replicate (min since 64) true ++ [false]) }
      if s.lockBroken l then
        let s := s.setLane l { s.lane l with blocks := [] }
        .next (if low then (s.put F.LNE_STATE_HDR_OK l 0).put F.LNE_STATE_HDR_RUN l 0 else s.laneLost l)
      else .next s
    else .next s
  else .next s

/-- ALIGN_BLOCK (R74, R76): a marker arrives on a lane at a block position of its quad; a skew beyond 32 blocks loses the
lane. -/
def execAlignBlock (l : Fin 104) (seq pos : Nat) (s : State) : Host.Outcome State Fault Refusal :=
  if s.showsBlocks l && s.bit F.LNE_STATE_HDR_OK l then
    let s := s.setLane l { s.lane l with
      marker := some (seq, pos)
      missed := 0 }
    match s.markerSkew (l - l % 4) with
    | some k => .next (if 32 < k then s.laneLost l else s)
    | none => .next s
  else .next s

/-- ALIGN_MISSING (R76): an expected marker is absent; the second absence in a row loses the lane. -/
def execAlignMissing (l : Fin 104) (s : State) : Host.Outcome State Fault Refusal :=
  if s.showsBlocks l && s.bit F.LNE_STATE_HDR_OK l then
    let x := s.lane l
    if x.missed == 0 then .next (s.setLane l { x with missed := 1 })
    else .next ((s.setLane l { x with missed := 0 }).laneLost l)
  else .next s

end Sys2Proof.Machine
end

