-- ==== Sys2Proof/Machine/Mrk.lean ====
section
/-! DEFINITION. Machine/Mrk.lean: the meanings of the commands of the marking heads (spec/10). Commands that follow a time
carry `dt`, the TCLK cycles since the command before. -/

namespace Sys2Proof.Machine

/-- MARK_REQUEST (R298, R299): MRK takes the oldest request that OBJ has handed on. -/
def execMarkRequest (s : State) : Host.Outcome State Fault Refusal :=
  match s.seg.markQ with
  | [] => .next s
  | r :: rest => .next (({ s with seg := { s.seg with markQ := rest } } : State).markRequest r)

/-- MARK_COMPARE (R300 to R303): the position of port `m` is compared. Every waiting mark whose target is reached starts a
burst or joins it; in position mode the next line starts once its own compare and τ_min allow. -/
def execMarkCompare (m : Fin 4) (dt : Nat) (s : State) : Host.Outcome State Fault Refusal :=
  let s := s.advance dt
  let due := (s.waitingMarks m).filter (fun x => s.markDue x.target)
  let s := due.foldl (fun t x => t.markCompare x) s
  match (s.mrkPort m).burst with
  | none => .next s
  | some b =>
    if b.posMode && s.markDue (b.g + BitVec.ofNat 40 (b.next * s.linePitch))
        && (b.next == 0 || b.lastStart + s.tauMin m ≤ s.clk) then .next (s.lineStart m)
    else .next s

/-- BURST_LINE_START (R301, R303, R304, R308): the next line of a timed burst starts, k × τ after line 0. -/
def execBurstLineStart (m : Fin 4) (dt : Nat) (s : State) : Host.Outcome State Fault Refusal :=
  let s := s.advance dt
  match (s.mrkPort m).burst with
  | none => .next s
  | some b => if !b.posMode && b.start + b.next * b.tau ≤ s.clk then .next (s.lineStart m) else .next s

/-- LATCH_FALL (the timing of a marking line, R306, R308): LATCH_W after its rise LATCH falls, the next line's data shift, and
20 ns later STROBE rises. -/
def execLatchFall (m : Fin 4) (dt : Nat) (s : State) : Host.Outcome State Fault Refusal :=
  let s := s.advance dt
  let p := s.mrkPort m
  if p.latchHigh && p.latchAt + s.latchW m ≤ s.clk then
    let s := (s.setMrkPort m { p with
      latchHigh := false
      strobeHigh := true
      strobeAt := s.clk + 20 }).emit (.markPin m false false)
    let s := if p.burst.isSome then s.shiftNext m else s
    .next (s.emit (.markPin m false true))
  else .next s

/-- STROBE_FALL (R307): the strobe's width W has passed. -/
def execStrobeFall (m : Fin 4) (dt : Nat) (s : State) : Host.Outcome State Fault Refusal :=
  let s := s.advance dt
  let p := s.mrkPort m
  if p.strobeHigh && p.strobeAt + p.width ≤ s.clk then .next ((s.setMrkPort m { p with strobeHigh := false }).emit (.markPin m false false))
  else .next s

/-- STROBE_WATCHDOG (R309, R55): `dt` TCLK cycles after the command before it. A strobe that has been high for WD × 40 ns is
forced low and the port enters FAULT; a fall that is due in this cycle wins. -/
def execStrobeWatchdog (m : Fin 4) (dt : Nat) (s : State) : Host.Outcome State Fault Refusal :=
  let s := s.advance dt
  let p := s.mrkPort m
  if !p.strobeHigh || s.clk < p.strobeAt + s.strobeLimit m then .next s
  else if p.strobeAt + p.width == s.clk then
    .next ((s.setMrkPort m { p with strobeHigh := false }).emit (.markPin m false false))
  else
    .next (((s.mrkFault m 2).count .MRK_WD_CNT).raise F.MRK_EVENT_WATCHDOG)

/-- STAT_MEASUREMENT (R297, R307, R308): a rising STAT edge gives period `p` and high time `h`, in samples of 5 ns. -/
def execStatMeasurement (m : Fin 4) (dt p h : Nat) (s : State) : Host.Outcome State Fault Refusal :=
  .next ((s.advance dt).statMeasure m p h)

/-- STAT_TIMEOUT (R297, R310): `dt` TCLK cycles after the command before it. TVALID ends, and a port in READY enters FAULT, once
no measurement has been accepted for 1 ms. -/
def execStatTimeout (m : Fin 4) (dt : Nat) (s : State) : Host.Outcome State Fault Refusal :=
  let s := s.advance dt
  if !s.statLate m then .next s else
  let s := s.put F.MRK_PSTAT_TVALID m 0
  if s.fld F.MRK_PSTAT_STATE m == 1 then .next ((s.mrkFault m 1).raise F.MRK_EVENT_STAT_FAULT) else .next s

/-- STAT_RECOVERY (R310): `dt` TCLK cycles after the command before it. A STAT fault ends once measurements have been accepted
for 10 ms without a 1 ms gap. -/
def execStatRecovery (m : Fin 4) (dt : Nat) (s : State) : Host.Outcome State Fault Refusal :=
  let s := s.advance dt
  if s.fld F.MRK_PSTAT_STATE m == 2 && s.fld F.MRK_PSTAT_FREASON m == 1 && !s.statLate m
      && 10000000 ≤ s.clk - (s.mrkPort m).runSince then
    .next ((s.put F.MRK_PSTAT_STATE m 1).put F.MRK_PSTAT_FREASON m 0)
  else .next s

/-- MARK_RESTART (R310): RESTART is written 1. It acts in a WATCHDOG fault and clears in every state. -/
def execMarkRestart (m : Fin 4) (s : State) : Host.Outcome State Fault Refusal := .next (s.mrkRestart m)

end Sys2Proof.Machine
end

