-- ==== Sys2Proof/Machine/TimFam.lean ====
section
/-! DEFINITION. Machine/TimFam.lean: the commands of network time (spec/14 R431 to R439). -/

namespace Sys2Proof.Machine

/-- PTP_SYNC (R439). -/
def execPtpSync (m : PtpMsg) (s : State) : Host.Outcome State Fault Refusal := .next (s.ptpSync m)

/-- PTP_FOLLOW_UP (R439). -/
def execPtpFollowUp (m : PtpMsg) (s : State) : Host.Outcome State Fault Refusal := .next (s.ptpFollowUp m)

/-- PTP_DELAY_RESP (R439). -/
def execPtpDelayResp (m : PtpMsg) (s : State) : Host.Outcome State Fault Refusal := .next (s.ptpDelayResp m)

/-- PTP_PDELAY_REQ (R437). -/
def execPtpPdelayReq (m : PtpMsg) (s : State) : Host.Outcome State Fault Refusal := .next (s.ptpPdelayReq m)

/-- PTP_DELAY_REQ_SEND (R439). -/
def execPtpDelayReqSend (seqId : BitVec 16) (s : State) : Host.Outcome State Fault Refusal :=
  .next (s.ptpDelayReqSend seqId)

/-- SERVO_OFFSET (R433). -/
def execServoOffset (s : State) : Host.Outcome State Fault Refusal := .next s.servoOffset

/-- HOLDOVER_ENTRY (R435): `dt` TCLK cycles pass, and no offset has been accepted for HOLD_TMO. -/
def execHoldoverEntry (dt : Nat) (s : State) : Host.Outcome State Fault Refusal := .next (s.advance dt).holdover

/-- R431: TCLK cycles until the nanoseconds carry into the seconds. -/
def State.cyclesToSecond (s : State) : Nat :=
  let left : Int := 1000000000 * 2 ^ 48 - (s.tim.base.toCount % (1000000000 * 2 ^ 48) : Nat)
  ceilDiv left.toNat s.rate.toNat

/-- SECOND_ROLLOVER (R431): the clock runs to the cycle in which the nanoseconds carry, which raises SECOND. -/
def execSecondRollover (s : State) : Host.Outcome State Fault Refusal := .next (s.advance s.cyclesToSecond)

/-- TIME_SET (R432). -/
def execTimeSet (s : State) : Host.Outcome State Fault Refusal := .next s.timeSet

/-- TIME_NOW_READ (R432): the read latches the whole time base and returns the fraction. -/
def execTimeNowRead (_q : Requester) (s : State) : Host.Outcome State Fault Refusal :=
  .next { s with
    tim := { s.tim with latched := s.tim.base }
    busData := BitVec.ofNat 32 (s.tim.base.sub.toNat / 2 ^ 32) }

end Sys2Proof.Machine
end

