-- ==== Sys2Proof/Machine/RegAccess.lean ====
section
/-! DEFINITION. Machine/RegAccess.lean: reads and writes on the register bus (spec/02 R42 to R51, R565): from an address to
a register or a table window, what a read returns and clears, and what a write stores and starts. -/

namespace Sys2Proof.Machine

/-! ### Addresses -/

/-- The instance of a register that lies at an address, if one does. -/
def RegInfo.at (d : RegInfo) (a : Nat) : Option Nat :=
  if a < d.base then none
  else
    let o := a - d.base
    let i := if d.s1 == 0 then 0 else o / d.s1
    let r := o - i * d.s1
    let j := if d.s2 == 0 then 0 else r / d.s2
    if i < d.n1 && j < d.n2 && r == j * d.s2 then some (d.n2 * i + j) else none

/-- The first register of a list that has an instance at an address. -/
def regIn (rs : List Reg) (a : Nat) : Option (Reg × Nat) :=
  match rs with
  | [] => none
  | r :: t => match r.info.at a with
    | some i => some (r, i)
    | none => regIn t a

/-- R50: the registers of the block that an address lies in. -/
def blockRegs (a : Nat) : List Reg :=
  if a < 0x100000 then regsGLB
  else if a < 0x200000 then regsCAM
  else if a < 0x300000 then regsCOR
  else if a < 0x400000 then regsAWF
  else if a < 0x500000 then regsSTI
  else if a < 0x600000 then regsSEG
  else if a < 0x700000 then regsOBJ
  else if a < 0x780000 then regsPOS
  else if a < 0x800000 then regsMRK
  else if a < 0x880000 then regsARC
  else if a < 0x900000 then regsDMA
  else if a < 0xA00000 then regsMEM
  else if a < 0xB00000 then regsLNE
  else if a < 0xB80000 then regsHST
  else if a < 0xC00000 then regsTIM
  else if a < 0xD00000 then regsFAB
  else if a < 0xD80000 then regsEVT
  else if a < 0xE00000 then regsPMC
  else if a < 0xE80000 then regsTHM
  else if a < 0xF00000 then regsPWR
  else if a < 0x1000000 then regsSEC
  else []

/-- R42: the register at an address. -/
def regAt (a : Nat) : Option (Reg × Nat) := if a % 4 == 0 then regIn (blockRegs a) a else none

/-- The table windows (R51), each named where its chapter gives its addresses. -/
inductive Win where
  /-- per-pixel and shading tables (R114, R115) -/
  | cor
  /-- response ROM (R166) -/
  | rom
  /-- lens tables (R171) -/
  | lens
  /-- background model (R208) -/
  | model
  /-- repeat histograms (R254) -/
  | hist
  /-- rule table (R245) -/
  | rules
  /-- nozzle delay tables (R295) -/
  | delay
  /-- static code tables (R324) -/
  | codes
  /-- stream context `n` (R336) -/
  | ctx (n : Nat)
  /-- timing tables (R386) -/
  | timing
  /-- permission map (R428) -/
  | perm
  /-- frame memory (R440) -/
  | frame
  /-- route table (R457) -/
  | route
  /-- fuses (R497) -/
  | fuses
  /-- identity public key (R499) -/
  | idKey
  /-- image digest (R501) -/
  | digest
  /-- the mirror (R526) -/
  | mirror
  /-- save slot `n` (R526, R531) -/
  | slot (n : Nat)
  deriving DecidableEq, Repr

/-- An address lies in `len` bytes from `base`. -/
def inWin (a base len : Nat) : Bool := decide (base ≤ a) && decide (a < base + len)

/-- R51: the table window that an aligned address lies in. Addresses of 0x1000_0000 to 0x3FFF_FFFF that no chapter gives to
a table are unmapped (notes/assumptions/46). -/
def winAt (a : Nat) : Option Win :=
  if a % 4 != 0 then none
  else if inWin a 0x10000000 0x200000 then some .cor
  else if inWin a 0x10300000 0x1800 then some .rom
  else if inWin a 0x10400000 0x4000 then (if a % 0x200 ≤ 0x100 then some .lens else none)
  else if inWin a 0x10800000 0x600000 then some .model
  else if inWin a 0x11000000 0xE0000 then some .hist
  else if inWin a 0x11200000 0x2000 then some .rules
  else if inWin a 0x11400000 0x8000 then (if a % 0x2000 < 5120 then some .delay else none)
  else if inWin a 0x11500000 0x100 then some .codes
  else if inWin a 0x11800000 0x800000 then
    (if a % 0x20000 < 0x14040 then some (.ctx ((a - 0x11800000) / 0x20000)) else none)
  else if inWin a 0x12100000 0x100 then some .timing
  else if inWin a 0x12200000 0x400 then some .perm
  else if inWin a 0x12300000 0x40000 then some .frame
  else if inWin a 0x12400000 0x4000 then some .route
  else if inWin a 0x12500000 0x200 then some .fuses
  else if inWin a 0x12501000 0x208 then some .idKey
  else if inWin a 0x12501400 0x40 then some .digest
  else if inWin a 0x12600000 0x4000 then some .mirror
  else if inWin a 0x12610000 0x20000 then some (.slot ((a - 0x12610000) / 0x4000))
  else none

/-! ### Reads -/

/-- A word of four octets, the first in its low bits (R54). -/
def word4 (b : Nat → Nat) : Word := BitVec.ofNat 32 (b 0 + 256 * (b 1 + 256 * (b 2 + 256 * b 3)))

/-- What a table window returns. The identity key before there is one, and a slot that was cut short, are free values. -/
def State.readWin (s : State) (w : Win) (a : Nat) : Word × State :=
  match w with
  | .rom => (romWord (a - 0x10300000), s)
  | .codes => (word4 (fun i => (staticLens ((a - 0x11500000) / 32)).getD (a % 32 + i) 0), s)
  | .fuses => (spGet 0 s.sec.fuses ((a - 0x12500000) / 4), s)
  | .idKey => match s.pwr.idKey with
    | some ws => ((ws ++ [0x00010001, 0]).getD ((a - 0x12501000) / 4) 0, s)
    | none => let f := s.drawFree; (f.1.setWidth 32, f.2)
  | .digest => (BitVec.ofNat 32 (s.sec.imgDigest.toNat / 2 ^ (8 * (a - 0x12501400))), s)
  | .mirror => (s.book.word32 (a - 0x12600000), s)
  | .slot n =>
    let x := s.pwr.slots.getD n .erased
    let f := s.drawFree
    (x.word32 ((a - 0x12610000) % 0x4000) f.1, if x == .torn then f.2 else s)
  | _ => (s.tab a, s)

/-- MEM_PSTATp.URG: the urgency of a port's oldest request. -/
def State.portUrgency (s : State) (p : Nat) : Nat :=
  match s.mem.waiting.find? (fun (x : MemTx) => x.port == p) with
  | some x => s.urgency x
  | none => 0

/-- The level fields of the status registers follow the queues and tables themselves. -/
def State.levels (s : State) (r : Reg) (i : Nat) (w : Word) : Word :=
  match r with
  | .STI_PEND => BitVec.ofNat 32 ((sumN ((s.seg.comps ++ s.sti.sent.map (·.comp)).map Comp.contexts)) % 65536)
  | .SEG_FIFO_STATUS => F.SEG_FIFO_STATUS_LEVEL.put w s.seg.fifo.length
  | .SEG_LBL_STATUS => BitVec.ofNat 32 s.seg.labels.length
  | .OBJ_CTX_STATUS => F.OBJ_CTX_STATUS_FREE.put w s.ctxFree
  | .OBJ_JOIN_STATUS => F.OBJ_JOIN_STATUS_USED.put w s.joinUsed
  | .OBJ_REV => match s.pos.tags with
    | [] => 0
    | t :: _ => (t.revs.getD i 0).setWidth 32
  | .POS_STATUS => F.POS_STATUS_COUNTING.put w (b2n (s.posOn && s.chMode 0 == 1))
  | .POS_SPEED => F.POS_SPEED_SPEED.put w s.speed
  | .POS_COUNT_L => s.pos.c.setWidth 32
  | .POS_COUNT_H => (s.pos.c >>> 32).setWidth 32
  | .POS_Y_L => (s.pos.p >>> 32).setWidth 32
  | .POS_Y_H => (s.pos.p >>> 64).setWidth 32
  | .POS_HWM_L => (s.pos.h >>> 32).setWidth 32
  | .POS_HWM_H => (s.pos.h >>> 64).setWidth 32
  | .POS_NEXT_L => (s.pos.q >>> 32).setWidth 32
  | .POS_NEXT_H => (s.pos.q >>> 64).setWidth 32
  | .POS_ROLL => F.POS_ROLL_PHASE.put w (s.rollerPhase (i + 1)).toNat
  | .POS_EMU_STAT => BitVec.ofNat 32 (wrapTo 11 (s.emu i).owed)
  | .ARC_JOBQ => BitVec.ofNat 32 (s.arc.hostQ.length + 2 ^ 16 * s.seg.snipQ.length)
  | .MEM_PSTAT => F.MEM_PSTAT_URG.put w (s.portUrgency i)
  | .HST_QSTAT0 => BitVec.ofNat 32 (2 ^ 16 * s.hst.cueQ.length + s.hst.routineQ.length)
  | .HST_QSTAT1 => BitVec.ofNat 32 (2 ^ 16 * s.hst.jobQ.length + s.hst.bulkQ.length)
  | .HST_CQ_STAT => BitVec.ofNat 32 (2 ^ 16 * (s.hst.cq.getD i []).length + b2n (s.hst.cqDue.getD i false))
  | .TIM_NOW0 => BitVec.ofNat 32 (s.tim.base.sub.toNat / 2 ^ 32)
  | .TIM_NOW1 => BitVec.ofNat 32 s.tim.latched.ns
  | .TIM_NOW2 => s.tim.latched.sec.setWidth 32
  | .TIM_NOW3 => (s.tim.latched.sec >>> 32).setWidth 32
  | .PMC_CYC_LO => BitVec.ofNat 32 s.pmc.cyc
  | .PMC_CYC_HI => BitVec.ofNat 32 (s.pmc.cyc / 2 ^ 32)
  | .PWR_STATUS => F.PWR_STATUS_PFAIL.put (F.PWR_STATUS_PG.put (F.PWR_STATUS_VKEEP.put w s.pwr.vkeep) s.pwr.pg)
      (b2n s.pwr.pfail)
  | _ => w

/-- R43: the current value of a register; fields of type WO are never stored and read 0. -/
def State.look (s : State) (r : Reg) (i : Nat) : Word := s.levels r i (s.rd r i)

/-- R49: the slot of a requester. -/
def requesterCode (q : Requester) : Nat :=
  match q with
  | .housekeeping => 0
  | .management => 1
  | .dmaMirror => 2

/-- R49: the key of a pair's snapshot and stage, by requester and low register. -/
def pairKey (q : Requester) (lo : Reg) (i : Nat) : Nat := requesterCode q * 2 ^ 24 + lo.key i

/-- The mask of the fields of some types. -/
def fieldMask (fs : List FieldSpec) (p : FTy → Bool) : Word :=
  match fs with
  | [] => 0
  | f :: r => (if p f.ty then BitVec.ofNat 32 ((2 ^ f.width - 1) * 2 ^ f.lo) else 0) ||| fieldMask r p

/-- R43: a read clears the RC fields of a register. MINFREE then starts again with the next level (notes/assumptions/47). -/
def State.readClears (s : State) (r : Reg) (i : Nat) : State :=
  let m := fieldMask r.info.fields (fun t => t == .RC)
  if m == 0 then s
  else
    let s := s.wr r i (s.rd r i &&& ~~~m)
    if r == .OBJ_CTX_STATUS then { s with seg := { s.seg with minFresh := true } } else s

/-- R43, R47: a register is read: its value, and what the read clears and latches. -/
def State.readReg (s : State) (q : Requester) (r : Reg) (i : Nat) : Word × State :=
  match r.pairRole with
  | .low hi =>
    let w := s.look r i
    let s := s.setSnap (pairKey q r i) (s.look hi i)
    (w, (s.readClears r i).readClears hi i)
  | .high lo => (spGet 0 s.snaps (pairKey q lo i), s)
  | .none =>
    let w := s.look r i
    match r with
    | .TIM_NOW0 => (w, { s with tim := { s.tim with latched := s.tim.base } })
    | .TIM_EVENT => (w, s.put F.TIM_STATUS_STEPPED 0 0)
    | _ => (w, s.readClears r i)

/-- R42: a read on the register bus. An access that is not mapped returns 0 and is counted. -/
def State.busRead (s : State) (q : Requester) (addr : Word) : Word × State :=
  let a := addr.toNat
  if a < 0x1000000 then
    match regAt a with
    | some (r, i) => s.readReg q r i
    | none => (0, s.accessError)
  else match winAt a with
    | some w => s.readWin w a
    | none => (0, s.accessError)

/-- A register that a read changes for good: one of type RC, which a READ without a session may not name (R423). -/
def isRc (addr : Word) : Bool :=
  match regAt addr.toNat with
  | some (r, _) => decide (addr.toNat < 0x1000000) && r.info.fields.any (fun f => f.ty == .RC)
  | none => false

/-! ### Writes -/

/-- R51: who may write a table window now. -/
def State.winWritable (s : State) (q : Requester) (w : Win) : Bool :=
  match w with
  | .rom | .model | .hist | .codes | .route | .fuses | .idKey | .digest | .mirror | .slot _ => false
  | .frame => s.mode == .load || q != .dmaMirror
  | .ctx n => s.mode == .load || (decide (32 ≤ n) &&
      (match s.arc.run with
       | none => true
       | some r => decide (r.tiles.length ≤ n - 32)))
  | _ => s.mode == .load

/-- R44: the bits that hold a field in the word of a table at an address; for a rule see R245, for a context's
header R336. -/
def winMask (w : Win) (addr : Nat) : Word :=
  match w with
  | .lens => 0x0000FFFF
  | .delay => 0x000001FF
  | .rules => match addr / 4 % 8 with
    | 0 => 0x8F00000F
    | 1 | 2 | 3 | 4 => 0xFFFFFFFF
    | _ => 0
  | .timing => match addr / 4 % 32 with
    | 0 => 0x0000FFFF
    | n => if 22 < n then 0 else 0xFFFFFFFF
  | .perm => if addr / 4 % 4 == 3 then 0x80000000 else 0xFFFFFFFF
  | .ctx _ => match addr % 0x20000 / 4 with
    | 1 => 0xFC0000FF
    | 2 => 0
    | 6 => 0
    | 7 => 0xF0000000
    | n => if 8 ≤ n && n < 16 then 0 else 0xFFFFFFFF
  | _ => 0xFFFFFFFF

/-- R565: whether a field of a type takes a write now; `locked` tells that its register's chapter lets software write it
only in LOAD, and that the device is in another mode. -/
def FTy.takes (t : FTy) (locked : Bool) : Bool :=
  match t with
  | .RO | .RC => false
  | .RW | .RWS => !locked
  | _ => true

/-- R565: an RW or RWS field keeps its value now. -/
def FTy.held (t : FTy) (locked : Bool) : Bool := (t == .RW || t == .RWS) && locked

/-- R565: a register that software writes only in LOAD, outside LOAD. TIM_ADJ is written outside LOAD only while SRC is 0
(spec/14). -/
def State.lockedReg (s : State) (r : Reg) : Bool :=
  s.mode != .load && (r.info.loadOnly ||
    ((r == .TIM_ADJ_L || r == .TIM_ADJ_H) && s.fld F.TIM_CTRL_SRC != 0))

/-- R565: a write is counted: no field takes it and none is held back, or a field that is held back would change
(notes/assumptions/48). -/
def writeCounts (fs : List FieldSpec) (locked : Bool) (old new : Word) : Bool :=
  let held := fieldMask fs (fun t => t.held locked)
  if held == 0 then !(fs.any (fun f => f.ty.takes locked))
  else (old &&& held) != (new &&& held)

/-- R43: the word that a write leaves in a register: RW and RWS fields take their new value, W1C fields are cleared where 1
is written. -/
def writeWord (fs : List FieldSpec) (locked : Bool) (old new : Word) : Word :=
  let m := fieldMask fs (fun t => (t == .RW || t == .RWS || t == .RWA) && t.takes locked)
  let c := fieldMask fs (fun t => t == .W1C)
  ((old &&& ~~~m) ||| (new &&& m)) &&& ~~~(c &&& new)

/-- GLB_CTRL (R503, R505): the requests of one write, in the order of R505. REH is not among its triggers and is taken
first. -/
def State.glbCtrl (s : State) (v : Word) : State :=
  let has (f : Fld) : Bool := f.get v == 1
  let s := when (has F.GLB_CTRL_REH) (fun t => t.put F.GLB_STATUS_REH_OWED 0 1) s
  if has F.GLB_CTRL_RELOAD then s.reload
  else
    let s := when (has F.GLB_CTRL_HOLD) (fun t => t.modeRequest .hold) s
    let s := when (has F.GLB_CTRL_STANDBY) (fun t => t.modeRequest .standby) s
    when (has F.GLB_CTRL_RESUME) (fun t => t.modeRequest .resume) s

/-- R101: CAM_CTRL.RESTART: FAULT to ALIGN, counted. -/
def State.camRetry (s : State) (p : Nat) : State :=
  if s.camSt p == 5 && s.bit F.CAM_CTRL_EN p && s.mode != .standby && s.mode != .dark then
    (s.count .CAM_RETRY_CNT p).camAlign p
  else s

/-- R101: CAM_CTRL of a port has been written. -/
def State.camCtrl (s : State) (p : Nat) (v : Word) : State :=
  let s := if s.bit F.CAM_CTRL_EN p then s.camEnable p
    else if s.camSt p != 0 then (s.camDisable p).quadReleased (4 * p) else s
  when (F.CAM_CTRL_RESTART.get v == 1) (fun t => t.camRetry p) s

/-- R500: an attestation is requested: it signs the values of this cycle; a second one is refused. -/
def State.attRequest (s : State) : State :=
  if s.bit F.SEC_STATUS_ATT_BUSY then (s.raise F.SEC_EVENT_ATT_BUSY).count .SEC_ATT_BUSY_CNT
  else
    let s := s.put F.SEC_STATUS_ATT_BUSY 0 1
    let n := s.getPair .SEC_ATT_NONCE_LO .SEC_ATT_NONCE_HI
    { s with sec := { s.sec with
      attHeld := !(s.bit F.SEC_STATUS_ID_READY)
      attNonce := BitVec.ofNat 64 n
      attAid := s.rd .SEC_ATT_ID } }

/-- LNE_CTL of a lane (R392, R395, R400): DEEP has been stored, and the bits of `v` act. -/
def State.lneCtl (s : State) (l : Nat) (v : Word) : State :=
  let s := s.laneDeepSet l (s.bit F.LNE_CTL_DEEP l)
  let s := when (F.LNE_CTL_RETRAIN.get v == 1) (fun t => t.laneDrop l .retrain) s
  when (F.LNE_CTL_SLIP.get v == 1) (fun t => t.laneSlip l) s

/-- What a write of a register starts, once its fields have taken their values; `v` is the word written. -/
def State.writeActs (s : State) (r : Reg) (i : Nat) (v : Word) : State :=
  match r with
  | .GLB_CTRL => s.glbCtrl v
  | .CAM_CTRL => s.camCtrl i v
  | .OBJ_REP_CTRL => when (F.OBJ_REP_CTRL_CLEAR.get v == 1) (fun t => t.clearHist) s
  | .MRK_CTRL => if s.bit F.MRK_CTRL_EN then s else forBelow 4 (fun m t => t.mrkDisable m) s
  | .MRK_PCTL =>
    let s := if s.mrkOn i then s else s.mrkDisable i
    when (F.MRK_PCTL_RESTART.get v == 1) (fun t => t.mrkRestart i) s
  | .ARC_HREQ_GO => when (F.ARC_HREQ_GO_GO.get v == 1) (fun t => t.hostRequest) s
  | .DMA_ERRPOP => when (F.DMA_ERRPOP_POP.get v == 1) (fun t => t.dmaPop) s
  | .DMA_SCTRL => when (F.DMA_SCTRL_ARMED.get v == 1) (fun t => t.dmaArm i) s
  | .MEM_FSP_CTRL => when (F.MEM_FSP_CTRL_REQ.get v == 1) (fun t => t.fspRequest (t.fld F.MEM_FSP_CTRL_TARGET)) s
  | .LNE_CFG => s.laneEnable i
  | .LNE_TXEQ => s.laneTxEq i
  | .LNE_CTL => s.lneCtl i v
  | .LNE_TEST => s.laneTestTry i
  | .LNE_BER_CFG => s.berRestart
  | .HST_PCFG => s.hostEnable i
  | .HST_CQ_PUSH => s.cqPush i v
  | .TIM_SET_GO => when (F.TIM_SET_GO_SET.get v == 1) (fun t => t.timeSet) s
  | .FAB_CTRL => forBelow 6 (fun f t => t.fabEnable f) s
  | .FAB_PORT_EN => forBelow 6 (fun f t => t.fabEnable f) s
  | .EVT_SWFIRE => s.taskFire (F.EVT_SWFIRE_TASK.get v)
  | .EVT_LOOPED => forBelow 32 (fun b t => if bitAt v.toNat b then t.loopReenable (32 * i + b) else t) s
  | .PMC_CTRL => s.pmcWritten
  | .PMC_WIN => s.pmcWritten
  | .SEC_ATT_CTRL => when (F.SEC_ATT_CTRL_REQ.get v == 1) (fun t => t.attRequest) s
  | _ => s

/-- R565: a write to a register that is no part of a pair. EVT_LOOPED clears with the channel that software enables again. -/
def State.writeSingle (s : State) (r : Reg) (i : Nat) (v : Word) : State :=
  let fs := r.info.fields
  let locked := s.lockedReg r
  let old := s.rd r i
  let s := if writeCounts fs locked old v then s.accessError else s
  let s := if r == .EVT_LOOPED then s else s.wr r i (writeWord fs locked old v)
  if fs.any (fun f => f.ty.takes locked) then s.writeActs r i v else s

/-- R48, R565: a write of a pair's high register stages the upper bits. The stage is marked in bit 31. -/
def State.writeHigh (s : State) (q : Requester) (lo hi : Reg) (i : Nat) (v : Word) : State :=
  let fs := hi.info.fields
  let locked := s.lockedReg hi
  let s := if writeCounts fs locked (s.rd hi i) v then s.accessError else s
  if fs.any (fun f => f.ty.takes locked) then
    let m := fieldMask fs (fun _ => true)
    s.setStage (pairKey q lo i) ((v &&& m) ||| 0x80000000)
  else s

/-- R48: the upper bits that a write of the low register commits: those staged, else those in place. -/
def State.stagedHigh (s : State) (q : Requester) (lo hi : Reg) (i : Nat) : Word :=
  let st := spGet 0 s.stages (pairKey q lo i)
  if st == 0 then s.rd hi i else st &&& 0x7FFFFFFF

/-- R48, R565: a write of a pair's low register commits the whole value. -/
def State.writeLow (s : State) (q : Requester) (lo hi : Reg) (i : Nat) (v : Word) : State :=
  let fs := lo.info.fields
  let locked := s.lockedReg lo
  let s := if writeCounts fs locked (s.rd lo i) v then s.accessError else s
  if fs.any (fun f => f.ty.takes locked) then
    let h := s.stagedHigh q lo hi i
    ((s.wr lo i v).wr hi i h).setStage (pairKey q lo i) 0
  else s

/-- R43, R48, R565: a register is written. -/
def State.writeReg (s : State) (q : Requester) (r : Reg) (i : Nat) (v : Word) : State :=
  match r.pairRole with
  | .low hi => s.writeLow q r hi i v
  | .high lo => s.writeHigh q lo r i v
  | .none =>
    if r == .SEAM_OFS || r == .SEAM_SCALE || r == .SEAM_YOFS then
      if s.seamWriteLost i then s else (s.writeSingle r i v).seamWritten i
    else s.writeSingle r i v

/-- R51: a table window is written, or the write is ignored and counted. -/
def State.writeWin (s : State) (q : Requester) (w : Win) (a : Nat) (v : Word) : State :=
  if s.winWritable q w then s.setTab a (v &&& winMask w a) else s.accessError

/-- R42, R51: a write on the register bus. -/
def State.busWrite (s : State) (q : Requester) (addr value : Word) : State :=
  let a := addr.toNat
  if a < 0x1000000 then
    match regAt a with
    | some (r, i) => s.writeReg q r i value
    | none => s.accessError
  else match winAt a with
    | some w => s.writeWin q w a value
    | none => s.accessError

end Sys2Proof.Machine
end

