-- ==== Sys2Proof/Machine/DmaOps.lean ====
section
/-! DEFINITION. Machine/DmaOps.lean: the running transfer of the DMA engine: list fetches, source and destination beats, and
their errors (spec/11 R347 to R354, spec/02 R52, R53). -/

namespace Sys2Proof.Machine

/-! ### Targets of R52 -/

/-- R52: what an address of the engine names. -/
inductive DmaTarget where
  | dram
  | sram (w : Win)
  | mirror
  | unmapped
  deriving DecidableEq, Repr

/-- R52: the target of an address. A word of the SRAM range that no table window holds is unmapped. -/
def dmaTarget (a : Nat) : DmaTarget :=
  if a < 0x2000000000 then .dram
  else if a < 0xF000000000 then .unmapped
  else if a < 0xF100000000 then
    match winAt ((a - 0xF000000000) / 4 * 4) with
    | some w => .sram w
    | none => .unmapped
  else if a < 0xFF00000000 then .unmapped
  else .mirror

/-- The octet at a byte address of a 32-bit word. -/
def octetOf (w : Word) (a : Nat) : Byte := BitVec.ofNat 8 (w.toNat / 2 ^ (8 * (a % 4)))

/-- The engine reads the octets of a table window. A word is read once for each octet of it. -/
def State.sramRead (s : State) (addr n : Nat) : Option (List Byte) × State :=
  match n with
  | 0 => (some [], s)
  | k + 1 =>
    match dmaTarget addr with
    | .sram w =>
      let a := addr - 0xF000000000
      let r := s.readWin w (a / 4 * 4)
      let q := r.2.sramRead (addr + 1) k
      (q.1.map (fun l => octetOf r.1 a :: l), q.2)
    | _ => (none, s)

/-- R53: the engine reads the register mirror in 32-bit accesses. -/
def State.mirrorRead (s : State) (a words : Nat) : List Byte × State :=
  match words with
  | 0 => ([], s)
  | k + 1 =>
    let r := s.busRead .dmaMirror (BitVec.ofNat 32 a)
    let q := r.2.mirrorRead (a + 4) k
    (leBytes 4 r.1.toNat ++ q.1, q.2)

/-- R53: an access to the register mirror is neither narrower than 32 bits nor unaligned. -/
def mirrorFits (addr n : Nat) : Bool := addr % 4 == 0 && n % 4 == 0 && n != 0

/-- R52, R53: a read that is answered at once: its octets, or none for a decode error. -/
def State.nearRead (s : State) (addr n : Nat) : Option (List Byte) × State :=
  match dmaTarget addr with
  | .sram _ => s.sramRead addr n
  | .mirror =>
    if mirrorFits addr n then
      let r := s.mirrorRead (addr - 0xFF00000000) (n / 4)
      (some r.1, r.2)
    else (none, s)
  | _ => (none, s)

/-- The engine writes one octet of a table window; the others of its word stay as they stand (notes/assumptions/52). -/
def State.sramOctet (s : State) (addr : Nat) (b : Byte) : Bool × State :=
  match dmaTarget addr with
  | .sram w =>
    let a := addr - 0xF000000000
    let sh := 8 * (a % 4)
    let m : Word := 0xFF <<< sh
    (true, s.writeWin .dmaMirror w (a / 4 * 4) ((s.tab (a / 4 * 4) &&& ~~~m) ||| (b.setWidth 32 <<< sh)))
  | _ => (false, s)

/-- The engine writes one word of a table window. -/
def State.sramWord (s : State) (addr : Nat) (v : Word) : Bool × State :=
  match dmaTarget addr with
  | .sram w => (true, s.writeWin .dmaMirror w (addr - 0xF000000000) v)
  | _ => (false, s)

/-- The engine writes octets of a table window. -/
def State.sramWrite (s : State) (addr : Nat) (bs : List Byte) : Bool × State :=
  match bs with
  | [] => (true, s)
  | [b] => s.sramOctet addr b
  | [b, c] =>
    let q := s.sramOctet addr b
    if q.1 then q.2.sramOctet (addr + 1) c else q
  | b :: c :: d :: r =>
    if addr % 4 == 0 then
      match r with
      | [] =>
        let q := (s.sramOctet addr b).2.sramOctet (addr + 1) c
        q.2.sramOctet (addr + 2) d
      | e :: r' =>
        let q := s.sramWord addr (BitVec.ofNat 32 (ofLeBytes [b, c, d, e]))
        if q.1 then q.2.sramWrite (addr + 4) r' else q
    else
      let q := s.sramOctet addr b
      if q.1 then q.2.sramWrite (addr + 1) (c :: d :: r) else q

/-- R53: the engine writes the register mirror in 32-bit accesses. -/
def State.mirrorWrite (s : State) (a : Nat) (ws : List Word) : State :=
  match ws with
  | [] => s
  | w :: r => (s.busWrite .dmaMirror (BitVec.ofNat 32 a) w).mirrorWrite (a + 4) r

/-- R52, R53: a write that is answered at once; false for a decode error. -/
def State.nearWrite (s : State) (addr : Nat) (bs : List Byte) : Bool × State :=
  match dmaTarget addr with
  | .sram _ => s.sramWrite addr bs
  | .mirror =>
    if mirrorFits addr bs.length then
      let ws := (List.range (bs.length / 4)).map (fun i => BitVec.ofNat 32 (ofLeBytes ((bs.drop (4 * i)).take 4)))
      (true, s.mirrorWrite (addr - 0xFF00000000) ws)
    else (false, s)
  | _ => (false, s)

/-! ### The running transfer -/

/-- Replace the running transfer. -/
def State.setRun (s : State) (r : DmaRun) : State := { s with dma := { s.dma with run := some r } }

/-- Change the running transfer, if there is one. -/
def State.onRun (s : State) (f : DmaRun → DmaRun) : State :=
  match s.dma.run with
  | none => s
  | some r => s.setRun (f r)

/-- Source or destination side of a transfer. -/
def DmaRun.side (r : DmaRun) (source : Bool) : DmaSide := if source then r.src else r.dst

/-- Replace a side. -/
def DmaRun.setSide (r : DmaRun) (source : Bool) (d : DmaSide) : DmaRun :=
  if source then { r with src := d } else { r with dst := d }

/-- Change one entry of a side. -/
def DmaRun.onEntry (r : DmaRun) (source : Bool) (idx : Nat) (f : DmaEntry → DmaEntry) : DmaRun :=
  let d := r.side source
  r.setSide source { d with entries := d.entries.map (fun e => if e.idx == idx then f e else e) }

/-- The entry of a side whose bytes are issued next. -/
def DmaSide.current (d : DmaSide) : Option DmaEntry := d.entries.find? (fun e => e.left != 0)

/-- R348: the destination is ARC's decoder. -/
def State.toDecoder (s : State) (r : DmaRun) : Bool := s.bit F.DMA_ACTRL_DST_KIND r.chan

/-- R348: the width in bytes of a side. -/
def State.sideWidth (s : State) (r : DmaRun) (source : Bool) : Nat :=
  if source then dmaWidth (s.fld F.DMA_ACTRL_SRC_W r.chan)
  else if s.toDecoder r then 64 else dmaWidth (s.fld F.DMA_ACTRL_DST_W r.chan)

/-- R348: accesses of the running transfer that are in flight. -/
def DmaRun.inFlight (r : DmaRun) : Nat :=
  sumN (r.src.entries.map (·.out)) + sumN (r.dst.entries.map (·.out)) + b2n r.src.fetching + b2n r.dst.fetching

/-- R351: an entry becomes bad with a kind, and is logged and counted once; `stop` tells whether nothing more of it is
issued. -/
def State.entryBad (s : State) (source : Bool) (idx kind : Nat) (stop : Bool) : State :=
  match s.dma.run with
  | none => s
  | some r =>
    match (r.side source).entries.find? (fun e => e.idx == idx) with
    | none => s
    | some e =>
      let r := r.onEntry source idx (fun x => { x with
        bad := some (x.bad.getD kind)
        stop := x.stop || stop })
      if e.bad.isSome then s.setRun r
      else (s.setRun { r with badEntries := r.badEntries + 1 }).dmaBad r.chan (!source) kind idx

/-- R347: a fetched list entry joins its side, or ends the list. -/
def DmaRun.takeEntry (r : DmaRun) (source : Bool) (w : Nat) : DmaRun :=
  let d := r.side source
  let len := bitsOf w 40 24
  let d := { d with
    fetching := false
    next := d.next + 8
    count := d.count + 1 }
  if len == 0 then r.setSide source { d with ended := true }
  else r.setSide source { d with entries := d.entries ++ [⟨d.count - 1, bitsOf w 0 40, len, len, 0, none, false⟩] }

/-- R354: the fetch of a list entry fails. -/
def State.fetchFails (s : State) (source : Bool) : State :=
  let s := s.onRun (fun r => r.setSide source { r.side source with fetching := false })
  { s with dma := { s.dma with listFail := some (s.dma.listFail.getD source) } }

/-- R347: the next entry of a list is fetched: from DRAM or from the SRAM windows, 8-byte aligned. A list that lies elsewhere
cannot be fetched (notes/assumptions/51). -/
def State.fetchEntry (s : State) (r : DmaRun) (source : Bool) : State :=
  let d := r.side source
  let s := s.setRun (r.setSide source { d with fetching := true })
  if d.next % 8 != 0 then s.fetchFails source
  else match dmaTarget d.next with
    | .dram => s.memRead (.dmaList r.chan source) 4 d.next 8
    | .sram _ =>
      let q := s.sramRead d.next 8
      (match q.1 with
       | some bs => q.2.onRun (fun x => x.takeEntry source (ofLeBytes bs))
       | none => q.2.fetchFails source)
    | _ => s.fetchFails source

/-- R347: a side may fetch ahead. -/
def DmaSide.fetches (d : DmaSide) : Bool := !d.ended && !d.fetching && decide (d.entries.length < 16)

/-- R348: an entry in memory that its width does not fit. -/
def DmaEntry.misfit (e : DmaEntry) (w : Nat) : Bool := e.addr % w != 0 || e.len % w != 0

/-- R348: bytes that the holding register has promised to take. -/
def DmaRun.promised (r : DmaRun) : Nat := r.hold.length + sumN (r.beats.map (·.len))

/-- Octets of an entry that are supplied or hold no error. -/
def heldBytes (bs : List Byte) (bad : Option Nat) : List HeldByte := bs.map (fun b => ⟨b, bad⟩)

/-- R348, R351: a beat of source entry `e`, `w` bytes wide, is issued, or supplied as zeros when the entry is bad. -/
def State.sourceBeat (s : State) (r : DmaRun) (e : DmaEntry) (w : Nat) : State :=
  if e.stop then
    let n := min (min w e.left) (128 - r.promised)
    let beat : DmaBeat := ⟨r.nextBeat, e.idx, n, some (heldBytes (List.replicate n 0) e.bad)⟩
    s.setRun { (r.onEntry true e.idx (fun x => { x with left := x.left - n })) with
      beats := r.beats ++ [beat]
      nextBeat := r.nextBeat + 1 }
  else
    let a := e.addr + (e.len - e.left)
    let id := r.nextBeat
    let r := { (r.onEntry true e.idx (fun x => { x with
        left := x.left - w
        out := x.out + 1 })) with
      beats := r.beats ++ [⟨id, e.idx, w, none⟩]
      nextBeat := id + 1 }
    let s := s.setRun r
    if dmaTarget a == .dram then s.memRead (.dmaRead r.chan id) 4 a w
    else
      let q := s.nearRead a w
      match q.1 with
      | some bs => q.2.onRun (fun x => { (x.onEntry true e.idx (fun y => { y with out := y.out - 1 })) with
          beats := x.beats.map (fun b => if b.id == id then { b with data := some (heldBytes bs none) } else b) })
      | none => { q.2 with dma := { q.2.dma with errs := q.2.dma.errs ++ [⟨true, id, 0⟩] } }

/-- R348, R351: a beat of destination entry `e` takes `n` bytes from the holding register. -/
def State.destBeat (s : State) (r : DmaRun) (e : DmaEntry) (n : Nat) : State :=
  let bytes := r.hold.take n
  let a := e.addr + (e.len - e.left)
  let r := { (r.onEntry false e.idx (fun x => { x with left := x.left - n })) with hold := r.hold.drop n }
  let s := s.setRun r
  let s := match bytes.findSome? (fun b => b.bad) with
    | some k => s.entryBad false e.idx k false
    | none => s
  if e.stop || s.toDecoder r then s
  else
    let s := s.onRun (fun x => x.onEntry false e.idx (fun y => { y with out := y.out + 1 }))
    let bs := bytes.map (·.value)
    if dmaTarget a == .dram then s.memWrite (.dmaWrite r.chan 0 e.idx) 4 a bs
    else
      let q := s.nearWrite a bs
      if q.1 then q.2.onRun (fun x => x.onEntry false e.idx (fun y => { y with out := y.out - 1 }))
      else { q.2 with dma := { q.2.dma with errs := q.2.dma.errs ++ [⟨false, e.idx, 0⟩] } }

/-- Nothing more comes from the source list. -/
def DmaRun.sourceOver (r : DmaRun) : Bool := r.src.ended && r.src.current.isNone && r.beats.isEmpty

/-- Nothing more goes to the destination list. -/
def DmaRun.destOver (r : DmaRun) : Bool := r.dst.ended && r.dst.current.isNone

/-- R354: the lists' totals differ: the shorter one has ended. -/
def DmaRun.lengthDiffers (r : DmaRun) : Bool :=
  (r.sourceOver && r.dst.current.isSome && decide (r.inFlight < 4096)) ||
    (r.destOver && (!r.hold.isEmpty || !r.beats.isEmpty || r.src.current.isSome))

/-- R347 to R354: one thing that the running transfer can do now; none when it waits. -/
def State.dmaAct (s : State) : Option State :=
  match s.dma.run with
  | none => none
  | some r =>
    match r.beats with
    | ⟨_, _, _, some bs⟩ :: rest => some (s.setRun { r with
        beats := rest
        hold := r.hold ++ bs })
    | _ =>
      if r.stop || s.dma.listFail.isSome then none
      else
        let w := s.sideWidth r true
        let v := s.sideWidth r false
        let dest : Option State := match r.dst.current with
          | none => none
          | some e =>
            if !e.stop && !s.toDecoder r && e.misfit v then some (s.entryBad false e.idx 4 true)
            else if e.stop || s.toDecoder r then
              (if r.hold.isEmpty || (!e.stop && decide (r.hold.length < min v e.left)) then none
               else some (s.destBeat r e (min (min v e.left) r.hold.length)))
            else if v ≤ r.hold.length && r.inFlight < 4096 then some (s.destBeat r e v)
            else none
        let source : Option State := match r.src.current with
          | none => none
          | some e =>
            if !e.stop && e.misfit w then some (s.entryBad true e.idx 4 true)
            else if (e.stop && decide (r.promised < 128)) || (decide (r.promised + w ≤ 128) && decide (r.inFlight < 4096))
            then some (s.sourceBeat r e w)
            else none
        if dest.isSome then dest
        else if r.src.fetches then some (s.fetchEntry r true)
        else if r.dst.fetches then some (s.fetchEntry r false)
        else if r.lengthDiffers then some (s.setRun { r with
            result := 2
            stop := true
            hold := [] })
        else source

/-- The transfer acts as long as it can, at most `fuel` times. -/
def State.dmaLoop (s : State) (fuel : Nat) : State :=
  match fuel with
  | 0 => s
  | k + 1 => match s.dmaAct with
    | none => s
    | some t => t.dmaLoop k

/-- R350: destination entries of which nothing is outstanding have completed; source entries go quietly. -/
def State.dmaRetire (s : State) : State :=
  match s.dma.run with
  | none => s
  | some r =>
    let spent (e : DmaEntry) : Bool := e.left == 0 && e.out == 0
    let done := (r.dst.entries.filter spent).map (fun e => (e.idx, e.bad.isSome))
    let keep (d : DmaSide) : DmaSide := { d with entries := d.entries.filter (fun e => !spent e) }
    let r := { r with
      src := { r.src with entries := r.src.entries.filter (fun e =>
        !spent e || r.beats.any (fun b => b.entry == e.idx)) }
      dst := keep r.dst }
    { s with dma := { s.dma with
      run := some r
      complete := s.dma.complete ++ done } }

/-- What DMA_ACTRL, DMA_ASRC, DMA_ADST, DMA_AREM and DMA_AIDX show of the running transfer. -/
def State.dmaShow (s : State) : State :=
  match s.dma.run with
  | none => s
  | some r =>
    let index (d : DmaSide) : Nat := match d.current with
      | some e => e.idx
      | none => d.count
    let addr (d : DmaSide) : Nat := d.next - 8 * (d.count - index d)
    let left := match r.dst.current with
      | some e => e.left
      | none => 0
    let s := s.setPair .DMA_ASRC_L .DMA_ASRC_H r.chan 8 (addr r.src)
    let s := s.setPair .DMA_ADST_L .DMA_ADST_H r.chan 8 (addr r.dst)
    let s := s.wr .DMA_AREM r.chan (BitVec.ofNat 32 left)
    let s := s.wr .DMA_AIDX r.chan (BitVec.ofNat 32 (65536 * (index r.src % 65536) + index r.dst % 65536))
    s.put F.DMA_ACTRL_STATE r.chan (if r.stop || s.dma.listFail.isSome || (r.sourceOver && r.destOver) then 3 else 2)

/-- R347 to R354: the running transfer goes on as far as it can without another response. -/
def State.dmaPump (s : State) : State := (s.dmaLoop 65536).dmaRetire.dmaShow

/-- R350, R354: the transfer is over: both lists have ended, or it has stopped, and nothing is in flight or left to report. -/
def State.dmaOver (s : State) (r : DmaRun) : Bool :=
  r.inFlight == 0 && s.dma.errs.isEmpty && s.dma.complete.isEmpty &&
    (r.stop || (r.sourceOver && r.destOver && r.hold.isEmpty))

/-! ### Responses -/

/-- R350, R351: the response to a source beat. -/
def State.dmaReadBack (s : State) (beat : Nat) (data : List Byte) (err : Option MemErr) : State :=
  match err with
  | some e => { s with dma := { s.dma with errs := s.dma.errs ++ [⟨true, beat, e.kind⟩] } }
  | none => s.onRun (fun r =>
    match r.beats.find? (fun b => b.id == beat) with
    | none => r
    | some b => { (r.onEntry true b.entry (fun y => { y with out := y.out - 1 })) with
        beats := r.beats.map (fun x => if x.id == beat then { x with data := some (heldBytes data none) } else x) })

/-- R350, R351: the response to a destination beat. -/
def State.dmaWriteBack (s : State) (entry : Nat) (err : Option MemErr) : State :=
  match err with
  | some e => { s with dma := { s.dma with errs := s.dma.errs ++ [⟨false, entry, e.kind⟩] } }
  | none => s.onRun (fun r => r.onEntry false entry (fun y => { y with out := y.out - 1 }))

/-- R351: a beat that has ended in error is dealt with. -/
def State.dmaError (s : State) (x : DmaErr) : State :=
  match s.dma.run with
  | none => s
  | some r =>
    if x.source then
      match r.beats.find? (fun b => b.id == x.which) with
      | none => s
      | some b =>
        let r := { (r.onEntry true b.entry (fun y => { y with out := y.out - 1 })) with
          beats := r.beats.map (fun y => if y.id == x.which then
            { y with data := some (heldBytes (List.replicate y.len 0) (some x.kind)) } else y) }
        (s.setRun r).entryBad true b.entry x.kind true
    else
      (s.setRun (r.onEntry false x.which (fun y => { y with out := y.out - 1 }))).entryBad false x.which x.kind true

end Sys2Proof.Machine
end

