-- ==== Sys2Proof/Machine/MemResp.lean ====
section
/-! DEFINITION. Machine/MemResp.lean: what each requester does with an access to memory that has ended (spec/12 R376, with
R175, R176, R317, R331, R334, R336, R350, R354). -/

namespace Sys2Proof.Machine

/-- R376: an access that has ended goes back to its requester. -/
def State.answerOp (s : State) (o : MemOp) : State :=
  match o.owner with
  | .arcBlock h _ line _ =>
    if o.err.isNone then s.blockReturned h line
    else { s with arc := { s.arc with werr := s.arc.werr ++ [o] } }
  | .arcIndex _ => s
  | .arcContext n => if o.write then s else if o.err.isSome then s.ctxDrop n else s.setWinBytes (ctxAddr n) o.data
  | .wingWrite k line => s.ringWritten k line o.err.isNone
  | .wingRead k line =>
    match o.err with
    | none => s.ringRead k line o.data []
    | some e => s.ringRead k line o.data (if o.bad.isEmpty then [(0, o.data.length, e)] else o.bad)
  | .jobRead i => s.jobData i (if o.err.isNone then some o.data else none)
  | .dmaRead _ beat => (s.dmaReadBack beat o.data o.err).dmaPump
  | .dmaWrite _ _ entry => (s.dmaWriteBack entry o.err).dmaPump
  | .dmaList _ source =>
    if o.err.isNone then (s.onRun (fun r => r.takeEntry source (ofLeBytes o.data))).dmaPump
    else (s.fetchFails source).dmaPump
  | .dropped => s

/-- The accesses that have ended are answered, oldest first, until none is left; `fuel` bounds their number. -/
def State.answerAll (s : State) (fuel : Nat) : State :=
  match fuel with
  | 0 => s
  | k + 1 => match s.mem.done with
    | [] => s
    | o :: r => (({ s with mem := { s.mem with done := r } } : State).answerOp o).answerAll k

/-- The accesses that have ended are answered; a transition of mode control may have waited for them. -/
def State.memRespond (s : State) : State := (s.answerAll 65536).transCheck

end Sys2Proof.Machine
end

