-- ==== Sys2Proof/Machine/ArcFam.lean ====
section
/-! DEFINITION. Machine/ArcFam.lean: the meanings of the archive's commands (spec/11 R317, R331, R337 to R341). -/

namespace Sys2Proof.Machine

/-- ARCHIVE_ROW_COMPLETE (R317, R340): a row of the head whose block writes have all returned is written with V = 1. -/
def execArchiveRowComplete (h : Fin 32) (s : State) : Host.Outcome State Fault Refusal :=
  .next (if (s.rowReady h).isSome then (s.rowComplete h).memRespond else s)

/-- BLOCK_WRITE_ERROR (R331): the oldest block write that has ended in error. -/
def execBlockWriteError (s : State) : Host.Outcome State Fault Refusal :=
  match s.arc.werr with
  | [] => .next s
  | o :: rest => .next ((({ s with arc := { s.arc with werr := rest } } : State).blockError o).memRespond)

/-- HOST_JOB_REQUEST (R337): ARC_HREQ_GO is written 1. -/
def execHostJobRequest (s : State) : Host.Outcome State Fault Refusal := .next s.hostRequest

/-- R337: the sequencer takes a job now: none runs, the job stream's queue has room, and no transition into STANDBY waits for
the memory (notes/assumptions/44). -/
def State.jobFree (s : State) : Bool :=
  s.arc.run.isNone && decide (s.hst.jobQ.length < 256) && s.hst.jobWait.isEmpty && s.glb.trans != some (.leaveHold true) && s.mode != .standby &&
    s.mode != .dark

/-- JOB_START (R337, R339): the next job starts when every tile has archived what it needs. -/
def execJobStart (s : State) : Host.Outcome State Fault Refusal :=
  match s.nextJob with
  | none => .next s
  | some (j, t) => .next (if s.jobFree && t.jobReady j then (t.jobBegin j false).memRespond else s)

/-- JOB_WAIT_TIMEOUT (R339): WAIT ms have passed, and the next job starts PARTIAL with what exists. -/
def execJobWaitTimeout (s : State) : Host.Outcome State Fault Refusal :=
  match s.nextJob with
  | none => .next s
  | some (j, t) => .next (if s.jobFree then (t.jobBegin j (!t.jobReady j)).memRespond else s)

/-- JOB_DONE (R335, R341): every block of the running job has come, and its records leave. -/
def execJobDone (s : State) : Host.Outcome State Fault Refusal :=
  match s.arc.run with
  | none => .next s
  | some r => .next (if r.blocks.all (fun b => b.data.isSome) then (s.jobFinish r).transCheck else s)

end Sys2Proof.Machine
end

