-- ==== Sys2Proof/Machine/Cam.lean ====
section
/-! DEFINITION. Machine/Cam.lean: the meanings of the camera ports' commands (spec/03 R69 to R110). -/

namespace Sys2Proof.Machine

/-! ### Bring-up and faults -/

/-- CAM_PORT_ENABLE (R101): an enabled port leaves OFF. -/
def execCamPortEnable (p : Fin 16) (s : State) : Host.Outcome State Fault Refusal := .next (s.camEnable p)

/-- CAM_RESTART (R101): CAM_CTRL.RESTART. -/
def execCamRestart (p : Fin 16) (s : State) : Host.Outcome State Fault Refusal := .next (s.camRetry p)

/-- CAM_AUTO_RETRY (R101): 10 ms after FAULT entry. -/
def execCamAutoRetry (p : Fin 16) (s : State) : Host.Outcome State Fault Refusal :=
  .next (if s.bit F.CAM_CTRL_AUTO_RETRY p then s.camRetry p else s)

/-- ALIGN_SEARCH_FAIL (R73): a lane of a port in ALIGN has found no block lock. -/
def execAlignSearchFail (l : Fin 64) (s : State) : Host.Outcome State Fault Refusal :=
  .next (if s.camSt (l.val / 4) == 1 && !(s.bit F.LNE_STATE_HDR_OK l) then s.camLaneLost (l.val / 4) else s)

/-- CAM_ALIGN_TIMEOUT (R101): a lane of a port in ALIGN has not reached UP. -/
def execCamAlignTimeout (p : Fin 16) (s : State) : Host.Outcome State Fault Refusal :=
  .next (if s.camSt p == 1 && (List.range 4).any (fun i => s.laneSt (4 * p.val + i) != .up) then s.camLaneLost p else s)

/-- CAM_DESKEWED (R101): all four lanes of a port in ALIGN are locked and deskewed. -/
def execCamDeskewed (p : Fin 16) (s : State) : Host.Outcome State Fault Refusal :=
  .next (if s.camSt p == 1 && s.quadAligned (4 * p.val) then s.camToDesc p else s)

/-! ### The descriptor and the temperatures -/

/-- DESC_BLOCK (R91, R93). -/
def execDescBlock (p : Fin 16) (idx payload : Nat) (s : State) : Host.Outcome State Fault Refusal :=
  .next (s.descBlock p idx payload)

/-- DESCRIPTOR_TIMEOUT (R91): the answer to a DREQ is not complete in time. -/
def execDescriptorTimeout (p : Fin 16) (s : State) : Host.Outcome State Fault Refusal :=
  .next (if s.camSt p == 2 then s.descFail p else s)

/-- TEMPERATURE_STALE (R93). -/
def execTemperatureStale (p : Fin 16) (s : State) : Host.Outcome State Fault Refusal :=
  .next ((s.put F.CAM_TEMP_VALID0 p 0).put F.CAM_TEMP_VALID1 p 0)

/-! ### Cues and lines -/

/-- CUE_LAUNCH (R82, R98, R101). -/
def execCueLaunch (dt : Nat) (p : Fin 16) (s : State) : Host.Outcome State Fault Refusal :=
  .next (((s.advance dt).cueLaunch p).memRespond)

/-- LINE_FRAME (R95, R96). -/
def execLineFrame (p : Fin 16) (j : Fin 2) (mrow sid : Nat) (line : LineNo) (hdr : DWord) (data : List DWord)
    (bits : Nat) (crc : Word) (s : State) : Host.Outcome State Fault Refusal :=
  .next ((s.lineFrame p j mrow sid line hdr data bits crc).memRespond)

/-- EOL_TIMEOUT (R95): the open frame is dropped; its line is missing unless it arrives again. -/
def execEolTimeout (p : Fin 16) (s : State) : Host.Outcome State Fault Refusal :=
  .next (if s.camSt p == 4 then s.count .CAM_EOL_TMO_CNT p else s)

/-- LINE_TIMEOUT (R99): `dt` TCLK cycles after the command before it. -/
def execLineTimeout (dt : Nat) (p : Fin 16) (j : Fin 2) (s : State) : Host.Outcome State Fault Refusal :=
  .next (((s.advance dt).lineTimeout p j).memRespond)

/-- CAMERA_ERR_BLOCK (R94). -/
def execCameraErrBlock (p : Fin 16) (code j : Nat) (line : LineNo) (s : State) :
    Host.Outcome State Fault Refusal :=
  .next ((s.errBlock p code j line).memRespond)

/-! ### Rehearsal of one port -/

/-- PREH_START (R106). -/
def execPrehStart (p : Fin 16) (s : State) : Host.Outcome State Fault Refusal := .next (s.prehStart p)

/-- PREH_FAIL (R108). -/
def execPrehFail (p : Fin 16) (s : State) : Host.Outcome State Fault Refusal := .next (s.prehFail p)

end Sys2Proof.Machine
end

