-- ==== Sys2Proof/Machine/Dma.lean ====
section
/-! DEFINITION. Machine/Dma.lean: the meanings of the DMA engine's commands (spec/11 R344 to R356). -/

namespace Sys2Proof.Machine

/-- DMA_ARM (R345): DMA_SCTRL.ARMED is written 1. -/
def execDmaArm (c : Fin 16) (s : State) : Host.Outcome State Fault Refusal := .next (s.dmaArm c.val)

/-- DMA_GRANT (R349): the engine grants, unless a transition into STANDBY waits for the memory (notes/assumptions/44), and the
granted channel fetches its lists. -/
def execDmaGrant (s : State) : Host.Outcome State Fault Refusal :=
  .next (if s.glb.trans == some (.leaveHold true) || s.dma.run.isSome || s.mode == .standby || s.mode == .dark then s
    else s.dmaGrant.dmaPump.memRespond)

/-- DMA_ENTRY_COMPLETE (R350): the oldest destination entry whose responses have all returned completes, and raises DESC when
it asks for it and is not bad. -/
def execDmaEntryComplete (s : State) : Host.Outcome State Fault Refusal :=
  match s.dma.run, s.dma.complete with
  | some r, (_, bad) :: rest =>
    let c := r.chan
    let s := { s with dma := { s.dma with complete := rest } }
    .next (if s.dma.descEvt.getD c false && !bad then
      { s with dma := { s.dma with desc := s.dma.desc.set c (s.dma.desc.getD c 0 + 1) } } else s)
  | _, _ => .next s.dmaPump.memRespond

/-- DMA_BEAT_ERROR (R351, R352): the oldest beat that has ended in error makes its entry bad. -/
def execDmaBeatError (s : State) : Host.Outcome State Fault Refusal :=
  match s.dma.errs with
  | [] => .next s
  | x :: rest => .next ((({ s with dma := { s.dma with errs := rest } } : State).dmaError x).dmaPump.memRespond)

/-- An access of the running transfer. -/
def MemOp.ofDma (o : MemOp) : Bool :=
  match o.owner with
  | .dmaRead _ _ | .dmaWrite _ _ _ | .dmaList _ _ => true
  | _ => false

/-- DMA_TIMEOUT (R353): the oldest access of the running transfer that has no response ends with TIMEOUT; its later response
is discarded. -/
def execDmaTimeout (s : State) : Host.Outcome State Fault Refusal :=
  match s.mem.ops.find? (·.ofDma) with
  | none => .next s
  | some o =>
    let s := { s with mem := { s.mem with
      ops := s.mem.ops.map (fun (x : MemOp) => if x.id == o.id then { x with owner := .dropped } else x) } }
    .next (((s.count .DMA_TMO_CNT).answerOp { o with err := some .timeout }).memRespond)

/-- DMA_LIST_FETCH_FAIL (R354): the transfer stops issuing; the failure is logged. -/
def execDmaListFetchFail (s : State) : Host.Outcome State Fault Refusal :=
  match s.dma.run, s.dma.listFail with
  | some r, some source =>
    if r.stop then .next s
    else .next ((s.setRun { r with stop := true }).dmaLog r.chan (!source) 5 (r.side source).count).dmaPump
  | _, _ => .next s

/-- DMA_TRANSFER_COMPLETE (R350, R354): the running transfer is over: RESULT, DONE and the hand-over. -/
def execDmaTransferComplete (s : State) : Host.Outcome State Fault Refusal :=
  match s.dma.run with
  | none => .next s
  | some r => .next (if s.dmaOver r then (s.dmaFinish r).transCheck else s.dmaPump.memRespond)

/-- DMA_ERRLOG_POP (R351). -/
def execDmaErrlogPop (s : State) : Host.Outcome State Fault Refusal := .next s.dmaPop

end Sys2Proof.Machine
end

