-- ==== Sys2Proof/Machine/Fab.lean ====
section
/-! DEFINITION. Machine/Fab.lean: the commands of the fabric (spec/15) and of seam 31 (spec/06 R194 to R196). FAB_WAKE_PIN
stands in Machine/Glb.lean, with the wake sources. -/

namespace Sys2Proof.Machine

/-- FAB_LINK_ALIGNED (R453). -/
def execFabLinkAligned (f : Fin 6) (s : State) : Host.Outcome State Fault Refusal := .next (s.fabAligned f.val)

/-- FAB_LSTATE_RX (R453). -/
def execFabLstateRx (f : Fin 6) (addr : FabAddr) (port : Fin 8) (s : State) : Host.Outcome State Fault Refusal :=
  .next (s.lstateRx f.val addr port.val)

/-- FAB_PACKET_RX (R450). -/
def execFabPacketRx (f : Fin 6) (pkt : Packet) (lseq : BitVec 13) (crc : Word) (s : State) :
    Host.Outcome State Fault Refusal :=
  .next (s.packetRx f.val pkt lseq crc)

/-- FAB_ACK_RX (R450). -/
def execFabAckRx (f : Fin 6) (lseq : BitVec 13) (nak : Bool) (s : State) : Host.Outcome State Fault Refusal :=
  .next (s.ackRx f.val lseq nak)

/-- R450: the credits a port may hold, by VC. -/
def creditMax : List Nat := [64, 256, 1024, 1536, 1216]

/-- FAB_CREDIT_RX (R450): a port never holds more credits than its partner has buffers. -/
def execFabCreditRx (f : Fin 6) (vc : Fin 5) (n : BitVec 13) (s : State) : Host.Outcome State Fault Refusal :=
  let p := s.fabPort f.val
  let held := min (p.credits.getD vc.val 0 + n.toNat) (creditMax.getD vc.val 0)
  .next (when (s.fabSt f.val == .up) (fun t => t.setFabPort f.val { p with credits := p.credits.set vc.val held }) s)

/-- FAB_ACK_TIMER (R450): 0.25 µs have passed with unacknowledged packets. -/
def execFabAckTimer (f : Fin 6) (s : State) : Host.Outcome State Fault Refusal :=
  .next (when (s.fabSt f.val == .up && (s.fabPort f.val).unacked != 0) (fun t => t.sendAck f.val false) s)

/-- FAB_REPLAY_TIMEOUT (R450): `dt` TCLK cycles pass, and 1 µs has passed with unacknowledged packets and no ACK. -/
def execFabReplayTimeout (dt : Nat) (f : Fin 6) (s : State) : Host.Outcome State Fault Refusal :=
  let s := s.advance dt
  .next (when (s.fabSt f.val == .up && s.ackLate f.val) (fun t => t.replay f.val) s)

/-- FAB_PACKET_START (R449). -/
def execFabPacketStart (f : Fin 6) (s : State) : Host.Outcome State Fault Refusal := .next (s.packetStart f.val)

/-- A packet of a kind that a port has received goes to what it is for; without one nothing happens. -/
def State.onPacket (s : State) (f : Nat) (k : Packet → Bool) (g : List DWord → State → State) : State :=
  match s.takePacket f k with
  | none => s
  | some (ws, t) => g ws t

/-- R464, R465: a relayed record goes on to this device's sink, or enters the host queues. -/
def State.recordPacket (s : State) (ws : List DWord) : State :=
  match recordOfWords ws with
  | none => s
  | some r => s.enqueue r

/-- FAB_RECORD_PACKET (R464). -/
def execFabRecordPacket (f : Fin 6) (s : State) : Host.Outcome State Fault Refusal :=
  .next (s.onPacket f.val (fun p => p.ptype == 0) (fun ws t => t.recordPacket ws))

/-- FAB_WING_PACKET (R451). -/
def execFabWingPacket (f : Fin 6) (s : State) : Host.Outcome State Fault Refusal :=
  .next (s.onPacket f.val (fun p => p.ptype == 1) (fun ws t => t.wingPacket ws))

/-- FAB_FRONTIER_PACKET (R194). -/
def execFabFrontierPacket (f : Fin 6) (s : State) : Host.Outcome State Fault Refusal :=
  .next (s.onPacket f.val (fun p => p.ptype == 2) (fun ws t => t.frontierPacket ws))

/-- FAB_COMPONENT_PACKET (R194, R195). -/
def execFabComponentPacket (f : Fin 6) (s : State) : Host.Outcome State Fault Refusal :=
  .next (s.onPacket f.val (fun p => p.ptype == 3) (fun ws t => t.componentPacket ws))

/-- R420, R448: a relayed job-stream record joins the job-stream queue. -/
def State.jobPacket (s : State) (ws : List DWord) : State :=
  match recordOfWords ws with
  | none => s
  | some r => s.jobSend r

/-- FAB_JOB_PACKET (R448). -/
def execFabJobPacket (f : Fin 6) (s : State) : Host.Outcome State Fault Refusal :=
  .next (s.onPacket f.val (fun p => p.ptype == 5) (fun ws t => t.jobPacket ws))

/-- FAB_CACK_PACKET (R452). -/
def execFabCackPacket (f : Fin 6) (s : State) : Host.Outcome State Fault Refusal :=
  .next (s.onPacket f.val (fun p => p.ptype == 6) (fun ws t => t.cackPacket ws))

/-- R196, R452: XDEV_TMO µs have passed since a clock. -/
def State.xdevLate (s : State) (since : Nat) : Bool :=
  decide (since + 1000 * atLeast1 (s.fld F.STI_MERGE_XDEV_TMO) ≤ s.clk)

/-- CACK_TIMEOUT (R452): `dt` TCLK cycles pass, and no CACK of a component has come for XDEV_TMO. -/
def execCackTimeout (dt : Nat) (oid : Oid) (s : State) : Host.Outcome State Fault Refusal :=
  let s := s.advance dt
  .next (s.emitSent (fun x => x.oid == oid && s.xdevLate x.sentAt))

/-- DISC_HELLO_TIMER (R455). -/
def execDiscHelloTimer (s : State) : Host.Outcome State Fault Refusal := .next s.helloTimer

/-- DISC_HELLO (R455). -/
def execDiscHello (f : Fin 6) (s : State) : Host.Outcome State Fault Refusal :=
  .next (s.onPacket f.val (isDisc 0) (fun ws t => t.helloRx f.val ws))

/-- DISC_SETTLED (R455): `dt` TCLK cycles pass, and the best root and HOPS have not changed for 200 µs. -/
def execDiscSettled (dt : Nat) (s : State) : Host.Outcome State Fault Refusal :=
  let s := s.advance dt
  .next (if s.fab.electAt + 200000 ≤ s.clk then s.discSettled else s)

/-- DISC_REPORT (R455, R460). -/
def execDiscReport (f : Fin 6) (s : State) : Host.Outcome State Fault Refusal :=
  .next (s.onPacket f.val (isDisc 1) (fun ws t => t.reportRx ws))

/-- DISC_ASSIGN (R455, R460, R461). -/
def execDiscAssign (f : Fin 6) (s : State) : Host.Outcome State Fault Refusal :=
  .next (s.onPacket f.val (isDisc 2) (fun ws t => t.assignRx f.val ws))

/-- DISC_MAP (R455, R457). -/
def execDiscMap (f : Fin 6) (s : State) : Host.Outcome State Fault Refusal :=
  .next (s.onPacket f.val (isDisc 3) (fun ws t => t.mapRx f.val ws))

/-- DISC_LINKEV (R459). -/
def execDiscLinkev (f : Fin 6) (s : State) : Host.Outcome State Fault Refusal :=
  .next (s.onPacket f.val (isDisc 4) (fun ws t => t.linkevRx f.val ws))

/-- R496: LOAD runs discovery once more after DISC_FAIL; the second failure ends it without an address. -/
def State.discoveryAgain (s : State) : State :=
  if s.mode == .load && s.bit F.FAB_CTRL_EN && s.fabAddr == 0 then
    let s := { s with glb := { s.glb with discTries := s.glb.discTries + 1 } }
    if s.glb.discTries == 1 then { s with fab := { s.fab with settled := false, reports := [] } }.elect else s
  else s

/-- DISCOVERY_TIMEOUT (R456, R496). -/
def execDiscoveryTimeout (s : State) : Host.Outcome State Fault Refusal := .next s.discoveryTimeout.discoveryAgain

/-- FAB_SYNC_TIMER (R463). -/
def execFabSyncTimer (s : State) : Host.Outcome State Fault Refusal := .next s.syncTimer

/-- TIME_SYNC_RX (R463). -/
def execTimeSyncRx (f : Fin 6) (seq : BitVec 6) (t : BitVec 48) (s : State) : Host.Outcome State Fault Refusal :=
  .next (s.syncRx f.val seq t)

/-- TIME_DREQ_RX (R463): the DREQ's own time is the child's, and is not used. -/
def execTimeDreqRx (f : Fin 6) (seq : BitVec 6) (_t : BitVec 48) (s : State) : Host.Outcome State Fault Refusal :=
  .next (s.dreqRx f.val seq)

/-- TIME_DRESP_RX (R463). -/
def execTimeDrespRx (f : Fin 6) (seq : BitVec 6) (t : BitVec 48) (s : State) : Host.Outcome State Fault Refusal :=
  .next (s.drespRx f.val seq t)

/-- XDEV_STREAM_TIMEOUT (R196): `dt` TCLK cycles pass, and the left neighbour's stream has brought no frontier for
XDEV_TMO. -/
def execXdevStreamTimeout (dt : Nat) (s : State) : Host.Outcome State Fault Refusal :=
  let s := s.advance dt
  .next (if s.xdevLate s.sti.nbrAt then s.seam31Lost else s)

end Sys2Proof.Machine
end

