-- ==== Sys2Proof/Machine/Line.lean ====
section
/-! DEFINITION. Machine/Line.lean: the meanings of the line path's commands: delivery, boundaries, exposure and flat-field
(spec/01, spec/04), labelling and objects (spec/07, spec/08) and the estimates of seams (spec/06). -/

namespace Sys2Proof.Machine

/-! ### Lines and boundaries -/

/-- LINE_DELIVERY (R18): the line at the front of a port's FIFO, once the encoder has room for it (R330). -/
def execLineDelivery (p : Fin 16) (faults : List (Nat × Bool)) (s : State) : Host.Outcome State Fault Refusal :=
  .next (if s.canDeliver p then (s.deliver p faults).memRespond else s)

/-- The line of a head at the front of its port's FIFO. -/
def State.frontLine (s : State) (h : Nat) : Option LineNo :=
  match (s.camPort (portOf h)).fifo with
  | (j, raw) :: _ => if headOf (portOf h) j == h then some raw.line else none
  | [] => none

/-- The line of a head that leaves COR next: the one that waits for its look-ahead (R123), or the front of the FIFO. -/
def State.leavingLine (s : State) (h : Nat) : Option LineNo :=
  if s.headColour h then
    (if (s.corHead h).held then (s.corHead h).last.head?.map (fun (l : CorLine) => l.raw.line) else none)
  else s.frontLine h

/-- R22: the first word of boundary line `n` of a head stands before a stage, having passed the stages that come before
it. AWF hands a block on with its newest line (R147). -/
def State.atStage (s : State) (x : Stage) (h : Nat) (n : LineNo) : Bool :=
  match x with
  | .cor => s.frontLine h == some n
  | .awf => s.leavingLine h == some n && !(s.due .cor h n)
  | _ =>
    let d := s.awfRatio h
    match s.leavingLine h with
    | none => false
    | some e => (e.toNat + 1) % d == 0 && e + 1 - BitVec.ofNat 40 d == n && !(s.due .awf h n) && !(s.due .cor h n)

/-- STRIP_BOUNDARY (R22, R23): the first word of a boundary line enters a stage. -/
def execStripBoundary (stage : Stage) (h : Fin 32) (line : LineNo) (s : State) : Host.Outcome State Fault Refusal :=
  .next (if s.due stage h line && s.atStage stage h line then (s.stageBoundary stage h line).memRespond else s)

/-! ### Exposure and flat-field -/

/-- EXPOSURE_LOOP_RUN (R132): every head of the port has closed a strip since the controller last ran. -/
def execExposureLoopRun (p : Fin 16) (s : State) : Host.Outcome State Fault Refusal :=
  let n := s.portHeads p
  let least := (List.range n).foldl (fun m j => min m (s.corHead (headOf p j)).closed) (s.corHead (headOf p 0)).closed
  let c := s.corPort p
  .next (if s.bit F.COR_EXP_CFG_EN p && n != 0 && decide (c.ran < least)
    then (s.setCorPort p { c with ran := least }).exposureRun p else s)

/-- FF_RUN_COMPLETE (R137, R138, R142). -/
def execFfRunComplete (h : Fin 32) (s : State) : Host.Outcome State Fault Refusal := .next (s.ffComplete h)

/-- FF_TABLE_WRITE_DONE (R139). -/
def execFfTableWriteDone (h : Fin 32) (s : State) : Host.Outcome State Fault Refusal := .next (s.ffWriteDone h)

/-- FF_RETRY_EXPIRY (R138, R142): RETRY strips have passed; the trigger decides afresh. -/
def execFfRetryExpiry (h : Fin 32) (s : State) : Host.Outcome State Fault Refusal :=
  let c := s.corHead h
  .next (if c.retry == some 0 then (s.setCorHead h { c with retry := none }).ffTempCheck h else s)

/-! ### Labelling and objects -/

/-- RUN_LABEL (R214 to R218, R228): the engine takes a run, or the mark that a line was lost at the full FIFO. -/
def execRunLabel (s : State) : Host.Outcome State Fault Refusal :=
  match s.seg.fifo with
  | [] => .next s
  | .marker _ :: _ => .next s
  | _ :: _ => .next s.takeFront

/-- EOL_MARKER_APPLY (R240): OBJ applies the end-of-line marker at the front of the FIFO. -/
def execEolMarkerApply (s : State) : Host.Outcome State Fault Refusal :=
  match s.seg.fifo with
  | .marker _ :: _ => .next s.takeFront
  | _ => .next s

/-- CLOSING_EVALUATION (R243). -/
def execClosingEvaluation (s : State) : Host.Outcome State Fault Refusal := .next s.evalClosing

/-- COMPONENT_RELEASE (R188): the first component that may be released. -/
def execComponentRelease (s : State) : Host.Outcome State Fault Refusal :=
  match s.seg.comps.find? s.compReady with
  | none => .next s
  | some c => .next (s.releaseComp c)

/-! ### Seams -/

/-- SEAM_ESTIMATE_DONE (R178 to R184). -/
def execSeamEstimateDone (k : Fin 32) (s : State) : Host.Outcome State Fault Refusal := .next (s.seamEstimate k)

end Sys2Proof.Machine
end

