-- ==== Sys2Proof/Machine/Load.lean ====
section
/-! DEFINITION. Machine/Load.lean: LOAD from the reading of an image to its end, and the trust block (spec/17 R488 to R502,
spec/18 R530, spec/12 R382). -/

namespace Sys2Proof.Machine

/-! ### Pass 1 -/

/-- Word `k` of an image's playbill (R488). -/
def playWord (img : ImageRead) (k : Nat) : Nat := (img.playbill.getD k 0).toNat

/-- IMGLEN (R488). -/
def imgLen (img : ImageRead) : Nat := bitsOf (playWord img 1) 32 32

/-- NSEC (R488). -/
def imgSections (img : ImageRead) : Nat := bitsOf (playWord img 1) 16 16

/-- ROLLBACK of an image (R488). -/
def imgRollback (img : ImageRead) : Nat := bitsOf (playWord img 1) 8 8

/-- BURN of an image (R488). -/
def imgBurn (img : ImageRead) : Bool := bitAt (playWord img 1) 0

/-- R493: a slot is blank when its bytes 4 to 7 are not MAGIC. -/
def imgBlank (img : ImageRead) : Bool := bitsOf (playWord img 0) 32 32 != 0x544C5254

/-- R490: the length and target that a kind of section asks for. An entry that breaks them fails as one that breaks R489
does (notes/assumptions/49). -/
def kindFits (x : Section) : Bool :=
  match x.kind with
  | 1 => x.len % 8 == 0 && x.target == 0
  | 2 => x.len % 4 == 0
  | 3 => x.len == 8
  | 4 => x.len == 520 && x.target == 0
  | 5 => x.len == 1088
  | _ => false

/-- R489: the sections lie in ascending OFFSET order from `from_` on, without overlap, and end at or before `end_`. -/
def sectionsFit (xs : List Section) (from_ end_ : Nat) : Bool :=
  match xs with
  | [] => true
  | x :: r => x.reservedZero && x.offset % 8 == 0 && decide (from_ ≤ x.offset) && decide (x.offset + x.len ≤ end_) &&
      kindFits x && sectionsFit r (x.offset + x.len) end_

/-- R492 check 1: the playbill, the exponent, the reserved fields and the section table follow R488 and R489. -/
def imgFormat (img : ImageRead) : Bool :=
  let n := imgLen img
  let w1 := playWord img 1
  playWord img 0 == 0x544C525400018016 && n % 8 == 0 && decide (4096 ≤ n) && decide (n ≤ 134217728) &&
    decide (1 ≤ imgSections img) && decide (imgSections img ≤ 1024) && decide (imgRollback img ≤ 64) &&
    bitsOf w1 3 5 == 0 && bitsOf (playWord img 4) 48 16 == 0 && bitsOf (playWord img 5) 0 48 == 0 &&
    (List.range 26).all (fun k => playWord img (6 + k) == 0) && img.exponent == 65537 && img.headZero &&
    img.sections.length == imgSections img &&
    sectionsFit img.sections (0x400 + 96 * imgSections img) (n - 512)

/-- R497: the fuse key hash. -/
def State.fuseKeyHash (s : State) : BitVec 512 :=
  BitVec.ofNat 512 (ofLeBytes ((List.range 16).flatMap (fun (k : Nat) => leBytes 4 (spGet 0 s.sec.fuses k).toNat)))

/-- R492: the key of an image is the one whose hash the fuses hold. -/
def State.keyFits (s : State) (img : ImageRead) : Bool := img.keyHash == s.fuseKeyHash && s.fuseKeyHash != 0

/-- R492: the reason, a code of R486, with which pass 1 fails a slot. -/
def State.pass1Reason (s : State) (img : ImageRead) : Option Nat :=
  let bind := img.playbill.getD 3 0
  if !imgFormat img then some 0xF
  else if bind != 0 && bind != s.serial then some 0xF
  else if !s.keyFits img then some 0xC
  else if img.sections.any (fun (x : Section) => x.hash != x.digest) then some 0xA
  else if !img.sigOk then some 0xA
  else if imgRollback img < s.rollback then some 0xB
  else none

/-- R493: a slot fails: the next slot is tried, or LOAD ends in DARK. -/
def State.slotFail (s : State) (reason : Nat) (blank : Bool) : State :=
  let slot := s.sec.slot
  let s := (s.count .SEC_SIGFAIL_CNT).raise F.SEC_EVENT_SLOT_FAIL
  let s := s.fault .config slot reason 0
  if slot == 0 then
    let s := (s.put F.GLB_LOAD_STATUS_SLOT0_BAD 0 1).put F.GLB_LOAD_STATUS_FAIL0 0 reason
    { s with sec := { s.sec with
      slot := 1
      slot0Blank := blank
      fail0 := reason } }
  else
    (s.put F.GLB_LOAD_STATUS_SLOT1_BAD 0 1).enterDark (if blank then s.sec.fail0 else reason)

/-- R492, R493: pass 1 of a slot is over. -/
def State.pass1Done (s : State) (img : ImageRead) : State :=
  let s := s.putB F.SEC_STATUS_KEY_OK 0 (s.keyFits img)
  match s.pass1Reason img with
  | some r => s.slotFail r (imgBlank img)
  | none =>
    let s := { s with sec := { s.sec with
      img := some img
      nextSec := 0
      imgDigest := img.signedHash } }
    let s := (s.put F.GLB_LOAD_STATUS_SLOT 0 s.sec.slot).put F.GLB_LOAD_STATUS_STEP 0 5
    let s := (s.put F.SEC_ROLLBACK_IMG 0 (imgRollback img)).putB F.SEC_STATUS_CUE_OK 0 (bitAt (playWord img 1) 1)
    let s := s.wr .GLB_IMG_VER 0 (BitVec.ofNat 32 (bitsOf (playWord img 2) 32 32))
    if s.pwr.idKey.isSome then s.put F.SEC_STATUS_ID_READY 0 1 else s

/-- LOAD stands before the end of pass 1. -/
def State.inPass1 (s : State) : Bool := s.mode == .load && s.glb.powered && s.fld F.GLB_LOAD_STATUS_STEP == 4

/-- LOAD stands in pass 2. -/
def State.inPass2 (s : State) : Bool := s.mode == .load && s.glb.powered && s.fld F.GLB_LOAD_STATUS_STEP == 5

/-- LOAD has begun step 7. -/
def State.inStep7 (s : State) : Bool := s.mode == .load && s.glb.powered && decide (7 ≤ s.fld F.GLB_LOAD_STATUS_STEP)

/-- R492: the image changed between the passes. -/
def State.imageChanged (s : State) : State := (s.fault .config s.sec.slot 0xD 0).enterDark 0xD

/-- IMAGE_PASS1_DONE (R492, R493). -/
def execImagePass1Done (img : ImageRead) (s : State) : Host.Outcome State Fault Refusal :=
  .next (if s.inPass1 then s.pass1Done img else s)

/-- FLASH_NO_ANSWER (R493, R494): a blank slot fails with FORMAT. In pass 2 nothing of it matches any more
(notes/assumptions/50). -/
def execFlashNoAnswer (s : State) : Host.Outcome State Fault Refusal :=
  .next (if s.inPass1 then s.slotFail 0xF true else if s.inPass2 then s.imageChanged else s)

/-! ### Pass 2 -/

/-- R490: one value of an image goes to its register or table word, as a write in LOAD; a register of type RWS takes it as
its staged and as its working value. -/
def State.imageWrite (s : State) (addr value : Word) : State :=
  let s := s.busWrite .housekeeping addr value
  if addr.toNat < 0x1000000 then
    match regAt addr.toNat with
    | none => s
    | some (r, i) =>
      let s := if r.info.fields.any (fun f => f.ty == .RWS) then s.latch r i else s
      if r == .AWF_HEAD_CFG then s.awfShow i else s
  else s

/-- R54: word `k` of a section's data. -/
def dataWord (bs : List Byte) (k : Nat) : Word := BitVec.ofNat 32 (ofLeBytes ((bs.drop (4 * k)).take 4))

/-- R490 FILL: a value goes to `n` words from an address upward. -/
def State.imageFill (s : State) (addr value : Word) (n : Nat) : State :=
  match n with
  | 0 => s
  | k + 1 => (s.imageWrite addr value).imageFill (addr + 4) value k

/-- R490: a section takes effect. -/
def State.applySection (s : State) (x : Section) : State :=
  match x.kind with
  | 1 => forBelow (x.len / 8) (fun k t => t.imageWrite (dataWord x.data (2 * k)) (dataWord x.data (2 * k + 1))) s
  | 2 => forBelow (x.len / 4) (fun k t => t.imageWrite (x.target + BitVec.ofNat 32 (4 * k)) (dataWord x.data k)) s
  | 3 => s.imageFill x.target (dataWord x.data 1) (dataWord x.data 0).toNat
  | 4 => ({ s with sec := { s.sec with opkey := some x.data } } : State).put F.SEC_STATUS_OPKEY 0 1
  | _ => { s with sec := { s.sec with calinit := some (Calib.ofBytes x.data) } }

/-- R104, R142, R173, R490: the calibration that works from step 6 on: cameras, T_last and registration. -/
def State.calibTake (s : State) (c : Calib) : State :=
  let s := forBelow 16 (fun p t => match c.ports[p]? with
    | some (serial, rep, true) =>
      let t := (t.wr .CAM_CAL_SERIAL_LO p (serial.setWidth 32)).wr .CAM_CAL_SERIAL_HI p ((serial >>> 32).setWidth 32)
      t.put F.CAM_CAL_REPAIR_REPAIR p rep.toNat
    | _ => t) s
  let s := forBelow 32 (fun h t => match c.temps[h]? with
    | some (v, true) => t.setCorHead h { t.corHead h with tLast := some v.toInt }
    | _ => t) s
  s.stiRestore c

/-- R64, R234, R271, R362, R510, R527, R530: what a valid save gives back; its position waits for the end of LOAD. -/
def State.saveTake (s : State) (b : Book) : State :=
  let s := { s with
    seqs := b.seqs.map (· + 0x1000000)
    pwr := { s.pwr with
      mirror := { b with board := s.pwr.mirror.board }
      restored := some b.pos }
    glb := { s.glb with
      gapOwed := maskBelow 32 s.headWorks
      gapFrom := b.settle.map (fun (p : LineNo × YPos) => (p.1, p.2, restoreReason b)) } }
  let s := s.setPair .OBJ_OID_L .OBJ_OID_H 0 8 ((b.oid + 0x1000000).toNat)
  let s := s.wr .MEM_RMAP 0 b.rmap
  let s := (s.put F.MEM_STATUS_MIG 0 b.mig).setPair .MEM_MIG_PTR_L .MEM_MIG_PTR_H 0 8 b.migK.toNat
  let s := if b.mig == 0 then s else s.put F.MEM_STATUS_MIG_RANK 0 (s.fld F.MEM_RMAP_FROM)
  s.calibTake b.calib

/-- R490, R530: without a valid save the image's calibration is used; the mirror keeps its COUNTER and its callboard. -/
def State.noSave (s : State) : State :=
  let c := s.sec.calinit.getD Calib.blank
  let m := s.pwr.mirror
  (s.setMirror { Book.blank with
    counter := m.counter
    calib := c
    board := m.board
    crc := m.crc }).calibTake c

/-- R530: a slot found invalid that has been written. -/
def State.tornSlots (s : State) : Nat := s.pwr.slots.countP (fun x => x == .torn)

/-- R362, R377: a rank that is retired has used the understudy. -/
def State.spareTaken (s : State) : State :=
  if s.bit F.MEM_RMAP_V then { s with mem := { s.mem with spareUsed := true } } else s

/-- R382: the training of the set points begins, FSP1 first when it is used. -/
def State.trainLoad (s : State) (fsp : Nat) : State :=
  let s := ((s.put F.MEM_STATUS_TRAINING 0 1).put F.MEM_TRN_STATUS_STEP 0 1).put F.MEM_TRN_STATUS_TFSP 0 fsp
  { s with glb := { s.glb with trainTries := 0 } }

/-- R101, R382, R456, R558: step 7 of LOAD begins. -/
def State.step7 (s : State) : State :=
  let s := { s with mem := { s.mem with resetN := true } }
  let s := (s.put F.GLB_LOAD_STATUS_STEP 0 7).trainLoad (s.fld F.MEM_FSP_CFG_FSP1_EN)
  let s := forBelow 16 (fun p t => t.camEnable p) s
  if s.bit F.FAB_CTRL_EN then s else s.discoveryTimeout

/-- R529, R530: step 6 of LOAD: the prompt book is restored and thaws; step 7 follows. -/
def State.step6 (s : State) : State :=
  let src := s.restoreSource
  let s := if s.tornSlots == 0 then s else s.count .PWR_SLOT_BAD_CNT 0 s.tornSlots
  let s := match src with
    | some (b, _) => s.saveTake b
    | none => s.noSave
  s.thaw.showKeep.spareTaken.step7

/-- R492: a section has been hashed again in pass 2. -/
def State.pass2Section (s : State) (hash : BitVec 512) : State :=
  match s.sec.img with
  | none => s
  | some img => match img.sections[s.sec.nextSec]? with
    | none => s
    | some x =>
      if hash == x.digest then
        let s := s.applySection x
        let s := { s with sec := { s.sec with nextSec := s.sec.nextSec + 1 } }
        if s.sec.nextSec == img.sections.length then s.step6 else s
      else s.imageChanged

/-- IMAGE_PASS2_SECTION (R490, R492): sections are applied in order; after the last one LOAD goes on to steps 6 and 7. -/
def execImagePass2Section (hash : BitVec 512) (s : State) : Host.Outcome State Fault Refusal :=
  .next (if s.inPass2 then s.pass2Section hash else s)

/-! ### Training in LOAD -/

/-- R382, R495: set point `fsp` trains now: its turn follows the end of FSP1's training. -/
def State.trainTurn (s : State) (fsp : Nat) : State :=
  if s.fld F.MEM_TRN_STATUS_TFSP == 1 && fsp == 0 then
    (s.put F.MEM_TRN_STATUS_TRAINED 0 (s.fld F.MEM_TRN_STATUS_TRAINED ||| 2)).trainLoad 0
  else s

/-- R495: a training step of a rank fails. The understudy's failure stalls nothing; the third retraining that fails does. -/
def State.trainFail (s : State) (rank step : Nat) : State :=
  let s := (s.put F.MEM_TRN_STATUS_FAIL 0 1).put F.MEM_TRN_STATUS_FAIL_RANK 0 rank
  let s := (s.put F.MEM_TRN_STATUS_FAIL_STEP 0 step).raise F.MEM_EVENT_TRN_FAIL
  if s.memSpare && rank == s.understudy then
    ({ s with mem := { s.mem with spareUsed := true } } : State).put F.MEM_STATUS_SPARE_OK 0 0
  else if s.glb.trainTries < 3 then
    let s := { s with glb := { s.glb with trainTries := s.glb.trainTries + 1 } }
    (s.countFld F.GLB_LOAD_STATUS_TRIES 0 1).put F.MEM_TRN_STATUS_STEP 0 1
  else
    let s := (s.put F.MEM_STATUS_TRAINING 0 0).put F.MEM_TRN_STATUS_STEP 0 0
    let s := { s with glb := { s.glb with stallAt := s.clk } }
    (s.put F.GLB_STATUS_LOAD_STALL 0 1).showSts

/-- A rank is fitted (R358). -/
def State.rankFitted (s : State) (rank : Nat) : Bool := decide (rank < 16) && decide (rank % 2 < s.memRanks)

/-- TRAINING_STEP_FAIL (R382, R495): a training step of LOAD fails on a fitted rank. -/
def execTrainingStepFail (fsp : Fin 2) (rank : Fin 17) (step : Fin 16) (s : State) : Host.Outcome State Fault Refusal :=
  .next (if s.inStep7 && s.bit F.MEM_STATUS_TRAINING && s.rankFitted rank.val && decide (1 ≤ step.val) &&
      decide (step.val ≤ 5) && decide (fsp.val ≤ s.fld F.MEM_TRN_STATUS_TFSP)
    then (s.trainTurn fsp.val).trainFail rank.val step.val else s)

/-- LOAD_STALL_RETRY (R495): `dt` TCLK cycles pass; while LOAD is stalled, the training is tried again once a second. -/
def execLoadStallRetry (dt : Nat) (s : State) : Host.Outcome State Fault Refusal :=
  let s := s.advance dt
  .next (if s.bit F.GLB_STATUS_LOAD_STALL && !s.bit F.MEM_STATUS_TRAINING &&
      decide (1000000000 ≤ s.clk - s.glb.stallAt) then
    let s := { s with glb := { s.glb with stallAt := s.clk } }
    let s := (s.put F.MEM_STATUS_TRAINING 0 1).put F.MEM_TRN_STATUS_STEP 0 1
    s.countFld F.GLB_LOAD_STATUS_TRIES 0 1 else s)

/-- R378, R381: a copy that DARK or a supply loss cut short starts again from K = 0. -/
def State.migrationAgain (s : State) : State :=
  if s.fld F.MEM_STATUS_MIG == 1 then s.startMigration (s.fld F.MEM_RMAP_FROM) else s

/-- R382, R495: the training of LOAD ends well; the memory serves. -/
def State.trainDone (s : State) (spareOk : Bool) : State :=
  let s := (s.put F.MEM_STATUS_TRAINING 0 0).put F.MEM_TRN_STATUS_STEP 0 0
  let s := s.put F.MEM_TRN_STATUS_TRAINED 0 (if s.bit F.MEM_FSP_CFG_FSP1_EN then 3 else 1)
  let s := (s.put F.MEM_STATUS_READY 0 1).put F.MEM_STATUS_INSERV 0 s.serviceMask
  let s := s.putB F.MEM_STATUS_SPARE_OK 0 (spareOk && s.memSpare && !s.mem.spareUsed)
  ((s.put F.GLB_STATUS_LOAD_STALL 0 0).showSts).migrationAgain

/-- DRAM_TRAINING_DONE (R382): every set point is trained; `spareOk` tells whether the understudy's pattern matched. -/
def execDramTrainingDone (spareOk : Bool) (s : State) : Host.Outcome State Fault Refusal :=
  .next (if s.inStep7 && s.bit F.MEM_STATUS_TRAINING then s.trainDone spareOk else s)

/-! ### The end of LOAD -/

/-- R101, R496: a camera port no longer holds LOAD up: it is off, has come up, or has faulted (which its retry count tells
once it tries again). -/
def State.camSettled (s : State) (p : Nat) : Bool :=
  (s.camSt p != 1 && s.camSt p != 2) || s.rd .CAM_RETRY_CNT p != 0

/-- Step 7 of LOAD is over: memory is trained, cameras and discovery have come to their end. -/
def State.step7Over (s : State) : Bool :=
  s.inStep7 && !s.bit F.MEM_STATUS_TRAINING && s.bit F.MEM_STATUS_READY &&
    (s.fabAddr != 0 || decide (2 ≤ s.glb.discTries)) && (List.range 16).all s.camSettled

/-- R498: bits are owed to the rollback counter. -/
def State.burnOwed (s : State) : Bool :=
  match s.sec.img with
  | none => false
  | some img => imgBurn img && decide (s.rollback < imgRollback img)

/-- R497, R498: the lowest bit of the rollback counter that has not been blown is blown. -/
def State.blowFuse (s : State) : State :=
  match (List.range 64).find? (fun i => !bitAt (spGet 0 s.sec.fuses (16 + i / 32)).toNat (i % 32)) with
  | none => s
  | some i =>
    let s := s.blowBits (16 + i / 32) (BitVec.ofNat 32 (2 ^ (i % 32)))
    s.put F.SEC_ROLLBACK_FUSE 0 s.rollback

/-- ROLLBACK_FUSE_BLOWN (R498): step 8 of LOAD blows one bit and counts it. -/
def execRollbackFuseBlown (s : State) : Host.Outcome State Fault Refusal :=
  .next (if s.step7Over && s.burnOwed then (s.put F.GLB_LOAD_STATUS_STEP 0 8).blowFuse else s)

/-- R271, R281: the position that LOAD ends with: the save's, without ZREF0, or the image's. Without a save the rollers count
from 0 from here on. R283: no roller has had a zero reference since LOAD. -/
def State.posLoadEnd (s : State) : State :=
  let y0 := BitVec.ofNat 40 (s.getPair .POS_Y0_L .POS_Y0_H)
  let image : PosSnap :=
    ⟨0, y0.setWidth 72 <<< 32, y0.setWidth 72 <<< 32, (y0.setWidth 72 <<< 32) + BitVec.ofNat 72 (s.pitchY * 65536),
     BitVec.ofNat 40 (s.getPair .POS_LINE0_L .POS_LINE0_H), 0, false, List.replicate 7 0⟩
  let b := s.pwr.restored.getD image
  let chans := (List.range 8).map (fun c =>
    if c == 0 then s.ench 0
    else match s.pwr.restored with
      | none => { s.ench c with count := 0 }
      | some x => { s.ench c with count := x.encs.getD (c - 1) 0 })
  let s := if s.pwr.restored.isSome then s.setPair .POS_LINE_L .POS_LINE_H 0 8 (b.line - 1).toNat else s
  let s := { s with
    pos := { s.pos with
      c := b.c
      p := b.p
      h := b.h
      q := b.q
      nextLine := b.line
      zref := 0
      zv := false
      revRaised := false
      chans := chans }
    pwr := { s.pwr with restored := none } }
  forBelow 7 (fun r t =>
    ((t.put F.POS_ROLL_REF r 0).put F.POS_ROLL_PHASE r (t.rollerPhase (r + 1)).toNat).rollerCheck (r + 1)) s

/-- R528: the calibration in use at the end of LOAD enters the summary. -/
def State.calibLoadEnd (s : State) : State :=
  s.calibNote (fun c => (List.range 32).foldl (fun d k =>
    if s.seamInUse k then s.calibSeam k (s.latchedReg k) d else d) (s.calibCor c))

/-- R372: the understudy is held in self-refresh from the end of LOAD until a migration begins. -/
def State.spareSleeps (s : State) : State :=
  if s.memSpare && s.fld F.MEM_STATUS_MIG == 0 then
    s.setMemRank s.understudy { s.memRank s.understudy with selfRef := true }
  else s

/-- R418: after LOAD the active interface is PRI. -/
def State.activeLoadEnd (s : State) : State := (s.put F.HST_STATUS_ACTIVE 0 (s.fld F.HST_TX_CFG_PRI)).showPath

/-- R502: LOAD ends: every block starts from what the image and the save have given it. -/
def State.loadEnd (s : State) : State :=
  let s := s.posLoadEnd.stiLoadEnd.calibLoadEnd.spareSleeps.activeLoadEnd
  let s := s.arcClear.clearHist
  let s := s.cellsInit.pinsInit.chansInit
  let s := s.wr .GLB_LOAD_TIME 0 (BitVec.ofNat 32 ((s.clk - s.glb.loadFrom) / 1000))
  let s := (s.put F.GLB_LOAD_STATUS_STEP 0 0).raise F.GLB_EVENT_LOAD_DONE
  let s := if s.runSpeed then s.beginRehearsal
    else
      let s := (s.put F.GLB_STATUS_REH_OWED 0 1).put F.GLB_STATUS_HELD_BY_REQ 0 0
      ((s.setMode .hold).count .GLB_HOLD_CNT).fspTo s.holdFsp
  s.health 2 0 0 0 0

/-- LOAD_END (R502): step 9 of LOAD, once steps 7 and 8 are over. -/
def execLoadEnd (s : State) : Host.Outcome State Fault Refusal :=
  .next (if s.step7Over && !s.burnOwed then s.loadEnd else s)

/-! ### Identity and attestation -/

/-- Fresh free values, the first drawn first. -/
def State.drawMany (s : State) (n : Nat) : List DWord × State :=
  match n with
  | 0 => ([], s)
  | k + 1 =>
    let a := s.drawFree
    let r := a.2.drawMany k
    (a.1 :: r.1, r.2)

/-- R499: the background generation has run since step 5 of this LOAD. -/
def State.keyOwed (s : State) : Bool := s.sec.img.isSome && s.pwr.idKey.isNone && s.mode != .dark && s.mode != .standby

/-- IDENTITY_KEY_READY (R499, R500): the key is sealed and ready; its modulus is a free value (notes/assumptions/3). A request
that was held is signed from now on. -/
def execIdentityKeyReady (s : State) : Host.Outcome State Fault Refusal :=
  .next (if s.keyOwed then
    let d := s.drawMany 64
    let key := d.1.flatMap (fun (w : DWord) => [w.setWidth 32, (w >>> 32).setWidth 32])
    let s := { d.2 with
      pwr := { d.2.pwr with idKey := some key }
      sec := { d.2.sec with attHeld := false } }
    ((s.put F.SEC_STATUS_ID_READY 0 1).put F.SEC_STATUS_ID_NEW 0 1).raise F.SEC_EVENT_ID_DONE else s)

/-- R501: eight octets of a digest from octet `8 k` on, the first in [63:56]. -/
def digestWord (d : BitVec 512) (k : Nat) : DWord :=
  BitVec.ofNat 64 ((List.range 8).foldl (fun a i => a * 256 + bitsOf d.toNat (8 * (8 * k + i)) 8) 0)

/-- R501: words 3 to 25 of PART 0. -/
def State.attestBody (s : State) : List DWord :=
  let img := (s.sec.img).getD ⟨[], [], 0, false, [], 0, 0, false⟩
  let held := maskBelow 32 (fun k => s.seamState k == 3)
  [s.sec.attNonce, s.serial] ++ (List.range 8).map (digestWord s.sec.imgDigest) ++
    [packWord [(56, s.rollback), (48, imgRollback img), (40, s.fld F.SEC_STATUS_DBG_LOCK),
      (32, s.fld F.GLB_LOAD_STATUS_SLOT), (0, (s.rd .GLB_IMG_VER).toNat)]] ++
    (List.range 8).map (digestWord s.fuseKeyHash) ++
    [packWord [(32, s.pwr.mirror.calib.crc), (0, (s.rd .COR_STALE).toNat)],
     packWord [(32, s.pwr.mirror.calib.gen.toNat), (0, held)],
     packWord [(60, (s.rd .TIM_STATUS).toNat % 16), (0, s.tim.base.sec.toNat)],
     packWord [(56, s.mode.code)]]

/-- R500, R501: signing has ended: the three ATTEST records leave, consecutive in SEQ. The signature is a free value
(notes/assumptions/3). -/
def State.attestEmit (s : State) : State :=
  let word2 (part : Nat) : DWord := packWord [(56, part), (48, 3), (0, s.sec.attAid.toNat)]
  let body := s.attestBody
  let now := s.tick
  let d := s.drawMany 64
  let s := d.2.formRecord .routine 0x60 ([now, word2 0] ++ body) []
  let s := s.formRecord .routine 0x60 ([now, word2 1] ++ d.1.take 32) []
  let s := s.formRecord .routine 0x60 ([now, word2 2] ++ d.1.drop 32) []
  ((s.put F.SEC_STATUS_ATT_BUSY 0 0).raise F.SEC_EVENT_ATT_DONE).count .SEC_ATT_CNT

/-- ATTEST_REQUEST (R500): SEC_ATT_CTRL.REQ is written 1. -/
def execAttestRequest (s : State) : Host.Outcome State Fault Refusal := .next s.attRequest

/-- ATTEST_DONE (R500, R501): the signature of the running request is ready. -/
def execAttestDone (s : State) : Host.Outcome State Fault Refusal :=
  .next (if s.bit F.SEC_STATUS_ATT_BUSY && !s.sec.attHeld then s.attestEmit else s)

end Sys2Proof.Machine
end

