-- ==== Sys2Proof/Machine/Mem.lean ====
section
/-! DEFINITION. Machine/Mem.lean: the meanings of the commands of the memory controller (spec/12 R363 to R385). -/

namespace Sys2Proof.Machine

/-- MEM_BAND_POLL (R368, R371, R521): mode register 4 of every in-service rank has been read; `bands` gives what each of the
16 ranks answered. -/
def execMemBandPoll (bands : List (Fin 4)) (s : State) : Host.Outcome State Fault Refusal :=
  .next (if s.bit F.MEM_STATUS_READY then
    (forBelow 16 (fun r t => if t.inService r then t.setBand r ((bands.getD r 0).val) else t) s).noteDramCrit.throttleStart
  else s)

/-- REFRESH_TICK (R370): a tREFI tick of a fitted rank. -/
def execRefreshTick (rank : Fin 16) (s : State) : Host.Outcome State Fault Refusal :=
  .next (if s.bit F.MEM_STATUS_READY && decide (rank.val % 2 < s.memRanks) then s.refreshTick rank.val else s)

/-- DRAM_COMMAND_ISSUE (R366, R367): a command slot of a subchannel, `dt` TCLK cycles after the command before it; `last` marks
the last slice of a training step. -/
def execDramCommandIssue (sc : Fin 8) (dt : Nat) (last : Bool) (s : State) : Host.Outcome State Fault Refusal :=
  .next (((s.advance dt).commandSlot sc.val last).memRespond)

/-- MEM_READ_COMPLETE (R373, R374, R376, R379): the oldest read issued on a subchannel returns through ECC. -/
def execMemReadComplete (sc : Fin 8) (dt : Nat) (out : ReadOutcome) (s : State) : Host.Outcome State Fault Refusal :=
  let s := s.advance dt
  match s.oldestIssued sc.val false with
  | none => .next s
  | some x => .next ((s.readReturn x out).memRespond)

/-- MEM_WRITE_COMPLETE (R330, R364): the oldest write issued on a subchannel is done. -/
def execMemWriteComplete (sc : Fin 8) (dt : Nat) (s : State) : Host.Outcome State Fault Refusal :=
  let s := s.advance dt
  match s.oldestIssued sc.val true with
  | none => .next s
  | some x => .next ((((s.unissue x).pieceStore x).pieceEnd x none).memRespond)

/-- WRITE_CRC_ALERT (R375): ALERT_N names the oldest write issued on a subchannel. -/
def execWriteCrcAlert (sc : Fin 8) (s : State) : Host.Outcome State Fault Refusal :=
  match s.oldestIssued sc.val true with
  | none => .next s
  | some x => .next ((s.crcAlert x).memRespond)

/-- R374, R376, R379: what the patrol scrub finds in a line of a rank. -/
def State.scrubLine (s : State) (rank line : Nat) (out : ReadOutcome) : State :=
  let a := (s.memUnmap rank (64 * line)).getD (64 * line)
  if s.mem.poison.contains (a / 64) then (s.noteUe 2 rank 7 a).count .MEM_POISON_RD_CNT
  else match out with
    | .clean => s
    | .corrected => (s.correctedError rank).count .MEM_SCRUB_FIX_CNT
    | .uncorrectable => s.rankFailure rank 0 7 a none

/-- PATROL_SCRUB (R374): the patrol scrub reads line `line` of an in-service rank. -/
def execPatrolScrub (rank : Fin 16) (line : Nat) (out : ReadOutcome) (s : State) : Host.Outcome State Fault Refusal :=
  .next (if s.bit F.MEM_CFG_SCRUB_EN && s.bit F.MEM_STATUS_READY && s.inService rank.val && decide (line < 2 ^ 27)
    then (s.scrubLine rank.val line out).memRespond else s)

/-- A migration is copying (R378, R381). -/
def State.copying (s : State) : Bool := s.fld F.MEM_STATUS_MIG == 1 && !s.mem.migPaused && s.bit F.MEM_STATUS_READY

/-- MIGRATION_PAGE_COPY (R378 to R380): the page at K has been copied; `ue` names its lines that read uncorrectable. ARC learns
of the lines that were poisoned. -/
def execMigrationPageCopy (ue : List (Fin 64)) (s : State) : Host.Outcome State Fault Refusal :=
  .next (if s.copying then
    let r := s.pageCopied (ue.map (·.val))
    (r.2.foldl (fun t l => t.arcPoison l) r.1).memRespond
  else s)

/-- MIGRATION_FLOOR (R367): the page has waited FLOOR µs; with FLOOR 0 there is no such limit. -/
def execMigrationFloor (s : State) : Host.Outcome State Fault Refusal :=
  .next (if s.copying && s.fld F.MEM_MIG_CFG_FLOOR != 0 then { s with mem := { s.mem with migForce := true } } else s)

/-- FSP_REQUEST (R384): MEM_FSP_CTRL is written with REQ = 1. -/
def execFspRequest (fsp : Fin 2) (s : State) : Host.Outcome State Fault Refusal :=
  .next ((s.put F.MEM_FSP_CTRL_TARGET 0 fsp.val).fspRequest fsp.val).transCheck

/-- FSP_CHANGE_DONE (R385): the change is complete, once the accesses granted before it have ended. -/
def execFspChangeDone (s : State) : Host.Outcome State Fault Refusal :=
  match s.mem.change with
  | none => .next s
  | some (_, first) => .next (if s.mem.ops.any (fun o => decide (o.id < first)) then s else s.fspDone.transCheck)

/-- TRAINING_PERIOD (R383): PERIOD ms have passed. -/
def execTrainingPeriod (s : State) : Host.Outcome State Fault Refusal :=
  .next (if s.bit F.MEM_STATUS_READY && s.fld F.MEM_TRN_CFG_PERIOD != 0 && s.mem.slice.isNone then s.trainNext else s)

/-- TRAINING_SLICE_FORCE (R383): a slice has waited 1 ms and is issued at once. -/
def execTrainingSliceForce (last : Bool) (s : State) : Host.Outcome State Fault Refusal :=
  .next (if s.bit F.MEM_STATUS_READY then s.trainSlice last else s)

end Sys2Proof.Machine
end

