-- ==== Sys2Proof/Machine/Pos.lean ====
section
/-! DEFINITION. Machine/Pos.lean: the meanings of the commands of web position, rollers and speed (spec/09). -/

namespace Sys2Proof.Machine

/-- ENC0_COUNT (R266 to R270, R275 to R280, R285 to R290): `dt` TCLK cycles after the command before it, the last 4 samples
of ENC0's A and B are `sa` and `sb`. -/
def execEnc0Count (dt : Nat) (sa sb : BitVec 4) (s : State) : Host.Outcome State Fault Refusal :=
  let s := s.advance dt
  if !s.posOn then .next s else
  let ch := s.ench 0
  let a := filter3of4 ch.a sa
  let b := filter3of4 ch.b sb
  if s.chMode 0 == 1 then
    match quadDecode (s.bit F.POS_CHCFG_DIR 0) ch.a ch.b a b with
    | .same => .next s
    | .illegal =>
      let s := s.noteIllegal 0 a b
      .next (if threeIllegal (s.ench 0).illegal then s.encFaultEntry 1 else
        { s with pos := { s.pos with clean := false } })
    | .count back =>
      let r := (s.setEnch 0 { ch with a := a, b := b }).masterCount back
      .next (if r.2 then r.1.cueToPorts else r.1)
  else .next (s.setEnch 0 { ch with a := a, b := b })

/-- ENCODER_FAULT_END (R273): `dt` TCLK cycles after the command before it. Once 65,536 clean samples have passed, the fault
ends, or waits for the Z that re-references the count. -/
def execEncoderFaultEnd (dt : Nat) (s : State) : Host.Outcome State Fault Refusal :=
  let s := s.advance dt
  if !s.posOn then .next s else
  if s.bit F.POS_STATUS_ENC_FAULT && s.cleanRun 0 then
    if s.zrefNeeded then .next { s with pos := { s.pos with clean := true } }
    else .next s.encFaultEnd
  else .next s

/-- ENC0_Z_EDGE (R266, R274, R509): the last 4 samples of ENC0's Z are `sz`; a rising edge of the filtered level is an
accepted Z. -/
def execEnc0ZEdge (sz : BitVec 4) (s : State) : Host.Outcome State Fault Refusal :=
  if !s.posOn then .next s else
  let rises := s.zRises 0 sz
  let s := s.takeZ 0 sz
  if rises && s.chMode 0 == 1 && s.bit F.POS_CHCFG_Z_EN 0 then
    let s := s.setPair .POS_ZLATCH_L .POS_ZLATCH_H 0 8 s.pos.c.toNat
    let check := s.bit F.GLB_STATUS_VERIFY && s.bit F.GLB_VERIFY_CFG_POS && !s.glb.posDone
    let s := { s with pos := { s.pos with zAfterWake := true } }
    if !s.pos.zv then
      -- the first Z after LOAD sets ZREF0; a return check without a saved reference fails there (R509)
      let s := { s with pos := { s.pos with zref := s.pos.c, zv := true } }
      let s := if check then s.posCheckOver false else s
      .next s.closePosGap
    else if s.fld F.POS_ZCFG_ZPERIOD == 0 then .next s
    else
      let e := s.zError
      let s := s.put F.POS_ZERR_E 0 (wrapTo 24 e)
      let big := decide (s.fld F.POS_ZCFG_ZTOL < e.natAbs)
      let reref := s.bit F.POS_STATUS_ENC_FAULT && s.bit F.POS_CTRL_ZREF
      let ended := fun (t : State) => if check then t.posCheckOver (!big) else t
      if reref then .next (ended (s.zReference e)).closePosGap
      else if check then .next (ended (if big then s.zSubtract e else s)).closePosGap
      else if !big then .next s.closePosGap
      else if s.bit F.POS_STATUS_ENC_FAULT then .next s
      else .next ((s.count .POS_ZSLIP_CNT).raise F.POS_EVENT_ZSLIP)
  else .next s

/-- WIRE_FAULT (R268, R272, R283): the legs of a used pair have shown one level for more than 8 samples. -/
def execWireFault (c : Fin 8) (pair : Fin 3) (s : State) : Host.Outcome State Fault Refusal :=
  if !s.posOn then .next s else
  let ch := s.ench c
  if s.wireChecked c pair && !(bitAt ch.wires pair) then
    let s := s.setEnch c { ch with wires := ch.wires ||| 2 ^ pair.val }
    let s := s.put ⟨.POS_STATUS, 8 + c.val, 1⟩ 0 1
    let s := (s.raise F.POS_EVENT_WIRE).count .POS_WIRE_CNT
    .next (if c.val == 0 then s.encFaultEntry 2 else s.rollerCheck c)
  else .next s

/-- WIRE_FAULT_END (R268): the legs have disagreed for 1,024 consecutive samples. -/
def execWireFaultEnd (c : Fin 8) (pair : Fin 3) (s : State) : Host.Outcome State Fault Refusal :=
  if !s.posOn then .next s else
  let ch := s.ench c
  if bitAt ch.wires pair then
    let left := ch.wires - 2 ^ pair.val
    let s := s.setEnch c { ch with wires := left, dirty := s.sample }
    .next (if left == 0 then s.put ⟨.POS_STATUS, 8 + c.val, 1⟩ 0 0 else s)
  else .next s

/-- ROLLER_COUNT (R266, R281, R283): `dt` TCLK cycles after the command before it, the last 4 samples of A and B of roller
channel `c + 1` are `sa` and `sb`. -/
def execRollerCount (dt : Nat) (c : Fin 7) (sa sb : BitVec 4) (s : State) : Host.Outcome State Fault Refusal :=
  let s := s.advance dt
  if !s.posOn then .next s else
  let n := c.val + 1
  let ch := s.ench n
  let a := filter3of4 ch.a sa
  let b := filter3of4 ch.b sb
  if s.chMode n == 1 then
    match quadDecode (s.bit F.POS_CHCFG_DIR n) ch.a ch.b a b with
    | .same => .next s
    | .illegal => .next ((s.noteIllegal n a b).rollerCheck n)
    | .count back =>
      let cpr := atLeast1 (s.fld F.POS_CPR_CPR c)
      let k := if back then (ch.count + cpr - 1) % cpr else (ch.count + 1) % cpr
      let s := s.setEnch n { ch with a := a, b := b, count := k }
      .next (s.put F.POS_ROLL_PHASE c (s.rollerPhase n).toNat)
  else .next (s.setEnch n { ch with a := a, b := b })

/-- ROLLER_Z_EDGE (R266, R281, R283): `dt` TCLK cycles after the command before it, the last 4 samples of the Z of a roller
channel in quadrature mode are `sz`. -/
def execRollerZEdge (dt : Nat) (c : Fin 7) (sz : BitVec 4) (s : State) : Host.Outcome State Fault Refusal :=
  let s := s.advance dt
  if !s.posOn then .next s else
  let n := c.val + 1
  let rises := s.zRises n sz
  let s := s.takeZ n sz
  if rises && s.chMode n == 1 && s.bit F.POS_CHCFG_Z_EN n then
    let ch := s.ench n
    let slip := s.bit F.POS_ROLL_REF c && ch.count != 0
    let s := s.setEnch n { ch with count := 0 }
    let s := (s.put F.POS_ROLL_REF c 1).put F.POS_ROLL_PHASE c 0
    let s := if slip then s.count .POS_ZSLIP_CNT else s
    .next (s.rollerClear n)
  else .next s

/-- INDEX_EDGE (R266, R282, R283): `dt` TCLK cycles after the command before it, the last 4 samples of the Z pair of a roller
channel in index mode are `sz`. -/
def execIndexEdge (dt : Nat) (c : Fin 7) (sz : BitVec 4) (s : State) : Host.Outcome State Fault Refusal :=
  let s := s.advance dt
  if !s.posOn then .next s else
  let n := c.val + 1
  let rises := s.zRises n sz
  let s := s.takeZ n sz
  if rises && s.chMode n == 2 then
    let ch := s.ench n
    let pmin := atLeast1 (s.fld F.POS_IDX_PMIN c) * 100000
    let pmax := atLeast1 (s.fld F.POS_IDX_PMAX c) * 100000
    match ch.tz with
    | some t =>
      let d := s.clk - t
      if d < pmin then .next (s.count .POS_IDX_REJ_CNT)
      else
        let ok := decide (d ≤ pmax)
        let good := if ok then ch.good + 1 else 0
        let s := s.setEnch n { ch with
          tz := some s.clk, period := (if ok then some d else ch.period), good := good, late := false }
        let s := (s.put F.POS_ROLL_REF c 1).put F.POS_ROLL_PHASE c 0
        .next (if 2 ≤ good then s.rollerClear n else s)
    | none =>
      let s := s.setEnch n { ch with tz := some s.clk, good := 0, late := false }
      .next ((s.put F.POS_ROLL_REF c 1).put F.POS_ROLL_PHASE c 0)
  else .next s

/-- ROLLER_INDEX_TIMEOUT (R283): `dt` TCLK cycles after the command before it, the index is tested for being overdue. -/
def execRollerIndexTimeout (dt : Nat) (c : Fin 7) (s : State) : Host.Outcome State Fault Refusal :=
  let s := s.advance dt
  if !s.posOn then .next s else
  let n := c.val + 1
  if s.chMode n == 2 && s.indexOverdue n then
    let ch := s.ench n
    .next ((s.setEnch n { ch with late := true, good := 0 }).rollerCheck n)
  else .next s

/-- ROLLER_FLAG_CLEAN (R283): `dt` TCLK cycles after the command before it; with Z_EN clear, the flag goes once 65,536 clean
samples have passed. -/
def execRollerFlagClean (dt : Nat) (c : Fin 7) (s : State) : Host.Outcome State Fault Refusal :=
  let s := s.advance dt
  if !s.posOn then .next s else
  let n := c.val + 1
  if s.chMode n == 1 && !(s.bit F.POS_CHCFG_Z_EN n) && s.cleanRun n then
    let ch := s.ench n
    .next ((s.setEnch n { ch with illegal := [] }).rollerClear n)
  else .next s

/-- SPEED_STOP (R286, R278, R100, R503): `dt` TCLK cycles after the command before it. Once no count has come for STOP_TMO,
open spans close, and with AUTO_HOLD the device starts HOLD entry from REHEARSE or PERFORM. -/
def execSpeedStop (dt : Nat) (s : State) : Host.Outcome State Fault Refusal :=
  let s := s.advance dt
  if !s.posOn then .next s else
  if s.bit F.POS_SPEED_STOPPED || !s.standstill then .next s
  else
    let s := ((s.put F.POS_SPEED_STOPPED 0 1).put F.POS_SPEED_STARTING 0 0).put F.POS_SPEED_VALID 0 0
    let s := { s with pos := { s.pos with tp := none } }
    let s := s.raise F.POS_EVENT_STOP
    let s := s.closeLineGaps
    .next (if s.bit F.GLB_RUN_CFG_AUTO_HOLD && s.inspecting && s.glb.trans.isNone then s.holdEntry false else s)

/-- QOUT_STEP (R289, R291): output `k` steps toward its owed count, `dt` TCLK cycles after the command before it. -/
def execQoutStep (dt : Nat) (k : Fin 2) (s : State) : Host.Outcome State Fault Refusal :=
  let s := s.advance dt
  .next (if s.posOn then s.emuStep k else s)

end Sys2Proof.Machine
end

