-- ==== Sys2Proof/Machine/Pwr.lean ====
section
/-! DEFINITION. Machine/Pwr.lean: the meanings of the commands of the prompt book, the save slots, the curtain and HEALTH
(spec/18 R526 to R540). -/

namespace Sys2Proof.Machine

/-- PROMPT_BOOK_GROUP_APPLY (R529): the group at the front has its close item. -/
def execPromptBookGroupApply (s : State) : Host.Outcome State Fault Refusal := .next s.applyGroup

/-- CHECKPOINT_TIMER (R531, R532): `dt` TCLK cycles pass, and CKPT × 100 ms of REHEARSE, PERFORM and HOLD have passed. The
period starts anew also when another slot write runs. -/
def execCheckpointTimer (dt : Nat) (s : State) : Host.Outcome State Fault Refusal :=
  let s := s.advance dt
  .next (if s.mode.periodic && s.fld F.PWR_CFG_CKPT != 0 &&
      decide (100000000 * s.fld F.PWR_CFG_CKPT ≤ s.clk - s.pwr.ckptAt) then
    let s := { s with pwr := { s.pwr with ckptAt := s.clk } }
    if s.pwr.write.isNone && !s.pwr.curtain then s.startWrite 0 else s
  else s)

/-- SLOT_WRITE_DONE (R531, R533): the slot write ends with its CRC; a running curtain then enters DARK. -/
def execSlotWriteDone (micros : Nat) (s : State) : Host.Outcome State Fault Refusal :=
  if s.pwr.write.isSome then
    let s := s.writeDone micros
    .next (if s.pwr.curtain then s.curtainDone else s)
  else .next s

/-- PFAIL_N_FALL (R533): the last four samples of PFAIL_N in ACLK; a low level that the filter of R266 accepts triggers the
curtain. -/
def execPfailNFall (samples : BitVec 4) (s : State) : Host.Outcome State Fault Refusal :=
  if filter3of4 (!s.pwr.pfail) samples then .next s
  else
    let s := { s with pwr := { s.pwr with pfail := true } }
    .next (if s.glb.powered then s.curtainStart 0xF0 else s)

/-- PWR_VIN_CFG.TRIP: values below 7,000 mV are treated as 7,000 mV (R535). -/
def State.tripLevel (s : State) : Nat := max (s.fld F.PWR_VIN_CFG_TRIP) 7000

/-- VKEEP_BELOW_TRIP (R533): VKEEP has been at `mv` millivolts for `held` ACLK cycles; 4 cycles below TRIP trigger the
curtain. -/
def execVkeepBelowTrip (mv held : Nat) (s : State) : Host.Outcome State Fault Refusal :=
  let s := { s with pwr := { s.pwr with vkeep := mv } }
  .next (if s.glb.powered && s.bit F.PWR_CFG_VIN_EN && decide (mv < s.tripLevel) && decide (4 ≤ held)
    then s.curtainStart 0xF1 else s)

/-- POWER_GOOD_LOSS (R533): a power-good input has been low for `held` ACLK cycles; 4 of them trigger the curtain. -/
def execPowerGoodLoss (g : Fin 4) (held : Nat) (s : State) : Host.Outcome State Fault Refusal :=
  let pg := if bitAt s.pwr.pg g then s.pwr.pg - 2 ^ g.val else s.pwr.pg
  let s := { s with pwr := { s.pwr with pg := pg } }
  .next (if s.glb.powered && s.bit F.PWR_CFG_PG_CURTAIN && decide (4 ≤ held) then s.curtainStart (0xF2 + g.val) else s)

/-- HEALTH_PERIOD (R540): `dt` TCLK cycles pass, and HEALTH seconds of REHEARSE, PERFORM and HOLD have passed. -/
def execHealthPeriod (dt : Nat) (s : State) : Host.Outcome State Fault Refusal :=
  let s := s.advance dt
  .next (if s.mode.periodic && s.fld F.PWR_CFG_HEALTH != 0 &&
      decide (1000000000 * s.fld F.PWR_CFG_HEALTH ≤ s.clk - s.pwr.healthAt) then
    ({ s with pwr := { s.pwr with healthAt := s.clk } } : State).health 0 0 0 0 0 else s)

/-- SUPPLY_RESTORED (R525, R534): PFAIL_N, VKEEP at `mv` millivolts and PG0 to PG3 have been good for `held` ms; RESTORE_MS
(0 as 1) of them are asked. The device
leaves the DARK of SUPPLY; in that of THERMAL, where both causes fell together, the cooling of R525 remains. -/
def execSupplyRestored (mv held : Nat) (s : State) : Host.Outcome State Fault Refusal :=
  if s.glb.powered && s.mode == .dark && decide (s.fld F.PWR_VIN_CFG_RESTORE ≤ mv) &&
      decide (atLeast1 (s.fld F.PWR_CFG_RESTORE_MS) ≤ held) then
    let s := { s with pwr := { s.pwr with
      pfail := false
      pg := 15
      vkeep := mv } }
    if s.darkFor 9 then .next s.loadStart
    else if s.darkFor 8 && s.pwr.bothCauses && !s.pwr.curtain then
      let s := { s with pwr := { s.pwr with bothCauses := false } }
      .next (if s.pwr.write.isNone && s.cooled then s.loadStart else s)
    else .next s
  else .next s

end Sys2Proof.Machine
end

