-- ==== Sys2Proof/Machine/Reg.lean ====
section
/-! DEFINITION. Machine/Reg.lean: the meanings of the register bus (spec/02 R42 to R49, R565) and of management reads and
writes (spec/14 R423, R427, R428). -/

namespace Sys2Proof.Machine

/-! ### The register bus -/

/-- A read on the register bus shows its data. -/
def State.readShown (s : State) (q : Requester) (addr : Word) : State :=
  let r := s.busRead q addr
  { r.2 with busData := r.1 }

/-- PAIR_LOW_READ (R46, R47). -/
def execPairLowRead (q : Requester) (addr : Word) (s : State) : Host.Outcome State Fault Refusal :=
  .next (s.readShown q addr)

/-- PAIR_HIGH_WRITE (R48). -/
def execPairHighWrite (q : Requester) (addr value : Word) (s : State) : Host.Outcome State Fault Refusal :=
  .next (s.busWrite q addr value)

/-- PAIR_LOW_WRITE (R48). -/
def execPairLowWrite (q : Requester) (addr value : Word) (s : State) : Host.Outcome State Fault Refusal :=
  .next (s.busWrite q addr value)

/-- RC_READ (R43). -/
def execRcRead (q : Requester) (addr : Word) (s : State) : Host.Outcome State Fault Refusal :=
  .next (s.readShown q addr)

/-- REGISTER_WRITE (R42, R51, R565). -/
def execRegisterWrite (q : Requester) (addr value : Word) (s : State) : Host.Outcome State Fault Refusal :=
  .next (s.busWrite q addr value)

/-! ### Management reads and writes -/

/-- R423: the registers named are read in order. -/
def State.readList (s : State) (ws : List DWord) : List DWord × State :=
  ws.foldl (fun (a : List DWord × State) w =>
    let r := a.2.busRead .management (w.setWidth 32)
    (a.1 ++ [r.1.setWidth 64], r.2)) ([], s)

/-- R423: a READ is answered: in a session, or without one while READ_AUTH is 0 and no RC register is named. -/
def State.mgmtRead (s : State) : State :=
  match s.mqHead 0 with
  | none => s
  | some r =>
    let s := s.mqPop
    let ws := r.words.drop 1
    if r.session == 0 then
      if s.bit F.HST_CTRL_READ_AUTH then s.mgmtStatus r 2
      else if ws.any (fun (w : DWord) => isRc (w.setWidth 32)) then s.mgmtStatus r 1
      else
        let o := s.readList ws
        (o.2.mgmtReply r (r.reply 0 0 o.1)).count .HST_MGMT_REQ_CNT
    else match s.sessionOf r with
      | none => s.mgmtStatus r 2
      | some (k, x) => s.inSession r k x (fun t =>
        let o := t.readList ws
        (r.reply r.session 0 o.1, o.2))

/-- R428: word `j` of entry `e` of the permission map. -/
def State.permWord (s : State) (e j : Nat) : Word := s.tab (0x12200000 + 16 * e + 4 * j)

/-- R427: an enabled entry of the permission map allows a word. -/
def State.permits (s : State) (perm w : DWord) : Bool :=
  let a := w.toNat / 2 ^ 32
  (List.range 64).any (fun e =>
    bitAt perm.toNat e && bitAt (s.permWord e 3).toNat 31 && decide ((s.permWord e 0).toNat ≤ a) &&
      decide (a ≤ (s.permWord e 1).toNat) && (w.setWidth 32 &&& ~~~(s.permWord e 2)) == 0)

/-- R427: the permitted words are applied in order. -/
def State.writeList (s : State) (ws : List DWord) : State :=
  ws.foldl (fun t w => t.busWrite .management (BitVec.ofNat 32 (w.toNat / 2 ^ 32)) (w.setWidth 32)) s

/-- R427: a WRITE of a session is applied whole, or denied whole. -/
def State.mgmtWrite (s : State) : State :=
  match s.mqHead 1 with
  | none => s
  | some r =>
    let s := s.mqPop
    let ws := r.words.drop 1
    match s.sessionOf r with
    | none => s.mgmtStatus r 2
    | some (k, x) => s.inSession r k x (fun t =>
      match ws.find? (fun w => !(t.permits x.perm w)) with
      | some w =>
        let t := t.wr .HST_LAST_DENY 0 (BitVec.ofNat 32 (w.toNat / 2 ^ 32))
        (r.reply r.session 1 [], (t.count .HST_MGMT_DENY_CNT).raise F.HST_EVENT_DENY)
      | none => (r.reply r.session 0 [], t.writeList ws))

/-- MGMT_READ (R423). -/
def execMgmtRead (s : State) : Host.Outcome State Fault Refusal := .next s.mgmtRead

/-- MGMT_WRITE (R427). -/
def execMgmtWrite (s : State) : Host.Outcome State Fault Refusal := .next s.mgmtWrite

/-- REPEAT_CLEAR (R254): OBJ_REP_CTRL.CLEAR. -/
def execRepeatClear (s : State) : Host.Outcome State Fault Refusal := .next s.clearHist

end Sys2Proof.Machine
end

