-- ==== Sys2Proof/Machine/Thm.lean ====
section
/-! DEFINITION. Machine/Thm.lean: the meanings of the commands of heat (spec/18 R514 to R525). -/

namespace Sys2Proof.Machine

/-- R515, R525: THM reads its sensors: in every mode but DARK, and in the DARK of reason THERMAL. -/
def State.thmOn (s : State) : Bool := s.glb.powered && (s.mode != .dark || s.darkFor 8)

/-- R515: the sensors that stand in the fast set, or outside it. -/
def State.fastSet (s : State) (fast : Bool) : List Nat := (List.range 24).filter (fun i => s.bit F.THM_TS_FAST i == fast)

/-- R515: a round samples sensors, in ascending order. -/
def State.sampleRound (s : State) (sensors : List Nat) (codes : List (BitVec 16)) : State :=
  (sensors.zip codes).foldl (fun t e => t.sampleSensor e.1 e.2.toNat) s

/-- R516, R521, R524: what follows a round outside DARK. -/
def State.afterRound (s : State) : State := if s.mode == .dark then s else s.heatStates.shutdownCheck

/-- THM_FAST_ROUND (R515 to R520, R524): `dt` TCLK cycles pass, and the fast round runs, once its 10 µs have passed: the raw
codes of the sensors of the fast set, in ascending order. -/
def execThmFastRound (dt : Nat) (codes : List (BitVec 16)) (s : State) : Host.Outcome State Fault Refusal :=
  let s := s.advance dt
  .next (if s.glb.powered && s.mode != .dark && decide (10000 ≤ s.clk - s.thm.fastAt) then
    let s := { s with thm := { s.thm with fastAt := s.clk } }
    (s.sampleRound (s.fastSet true) codes).afterRound else s)

/-- R517: the board sensors of a slow round; a board without a value has not answered. -/
def State.boardRound (s : State) (boards : List (Option (BitVec 16))) : State :=
  forBelow 8 (fun b t =>
    if t.bit F.THM_BRD_EN b then
      match boards.getD b none with
      | none => t.boardInvalid b
      | some raw => t.boardSample b raw
    else t) s

/-- R515, R536: the rails of a slow round, in mV. -/
def State.railRound (s : State) (rails : List Nat) : State :=
  ((List.range 9).zip rails).foldl (fun t e => t.railSample e.1 e.2) s

/-- THM_SLOW_ROUND (R515 to R520, R524, R536): `dt` TCLK cycles pass, and the slow round runs, once its 2 ms have passed: the raw codes of the sensors outside the fast set, the rails and the board
sensors. In the DARK of THERMAL the slow round reads every sensor (R525, notes/assumptions/45). -/
def execThmSlowRound (dt : Nat) (codes : List (BitVec 16)) (rails : List Nat) (boards : List (Option (BitVec 16)))
    (s : State) : Host.Outcome State Fault Refusal :=
  let s := s.advance dt
  if s.thmOn && decide (2000000 ≤ s.clk - s.thm.slowAt) then
    let s := { s with thm := { s.thm with slowAt := s.clk } }
    let sensors := if s.mode == .dark then List.range 24 else s.fastSet false
    let s := s.sampleRound sensors codes
    let s := forBelow 24 (fun i t => t.learnLofs i) s
    .next ((s.railRound rails).boardRound boards).afterRound
  else .next s

/-- SENSOR_RECOVERED (R518): 1,024 clean samples of a broken sensor. -/
def execSensorRecovered (i : Fin 24) (s : State) : Host.Outcome State Fault Refusal := .next (s.recoverSensor i)

/-- I2C_TIMEOUT (R517): a transaction of an enabled board sensor has not completed within 1 ms. -/
def execI2cTimeout (b : Fin 8) (s : State) : Host.Outcome State Fault Refusal :=
  .next (if s.thmOn && s.bit F.THM_BRD_EN b then s.boardInvalid b else s)

/-- THROTTLE_LEVEL_STEP (R521): `dt` TCLK cycles pass, and STEP_MS ms (0 as 1) have passed since the level changed or its
sources did. -/
def execThrottleLevelStep (dt : Nat) (s : State) : Host.Outcome State Fault Refusal :=
  let s := s.advance dt
  let l := s.fld F.THM_STATUS_LEVEL
  .next (if s.mode == .dark || decide (s.clk - s.thm.stepAt < 1000000 * atLeast1 (s.fld F.THM_THR_CFG_STEP_MS)) then s
    else if s.throttleSource then s.setThrottle (min (l + 1) s.throttleMax)
    else s.setThrottle (l - 1))

/-- THERMAL_DARK_EXIT (R525, R534): the sensors have cooled and no slot write runs. -/
def execThermalDarkExit (s : State) : Host.Outcome State Fault Refusal :=
  .next (if s.glb.powered && s.darkFor 8 && !s.pwr.bothCauses && !s.pwr.curtain && s.pwr.write.isNone && s.cooled then s.loadStart
    else s)

end Sys2Proof.Machine
end

