-- ==== Sys2Proof/Machine/Dispatch.lean ====
section
/-! DEFINITION. Machine/Dispatch.lean: one arm for each command of the table. -/

namespace Sys2Proof.Machine

/-- The effect of a command on everything but the queue. -/
def exec (i : Instr) (s : State) : Host.Outcome State Fault Refusal :=
  match i with
  | .resetNAssert samples => Sys2Proof.Machine.execResetNAssert samples s
  | .resetNRelease samples => Sys2Proof.Machine.execResetNRelease samples s
  | .keepDomainPowerLoss => Sys2Proof.Machine.execKeepDomainPowerLoss s
  | .keepDomainPowerOn => Sys2Proof.Machine.execKeepDomainPowerOn s
  | .imagePass1Done img => Sys2Proof.Machine.execImagePass1Done img s
  | .flashNoAnswer => Sys2Proof.Machine.execFlashNoAnswer s
  | .imagePass2Section hash => Sys2Proof.Machine.execImagePass2Section hash s
  | .identityKeyReady => Sys2Proof.Machine.execIdentityKeyReady s
  | .trainingStepFail fsp rank step => Sys2Proof.Machine.execTrainingStepFail fsp rank step s
  | .loadStallRetry dt => Sys2Proof.Machine.execLoadStallRetry dt s
  | .rollbackFuseBlown => Sys2Proof.Machine.execRollbackFuseBlown s
  | .loadEnd => Sys2Proof.Machine.execLoadEnd s
  | .holdRequest => Sys2Proof.Machine.execHoldRequest s
  | .resumeRequest => Sys2Proof.Machine.execResumeRequest s
  | .standbyRequest => Sys2Proof.Machine.execStandbyRequest s
  | .reloadRequest => Sys2Proof.Machine.execReloadRequest s
  | .rehearsalOwedRequest => Sys2Proof.Machine.execRehearsalOwedRequest s
  | .holdDrainDone => Sys2Proof.Machine.execHoldDrainDone s
  | .autoResume => Sys2Proof.Machine.execAutoResume s
  | .standbyAfterExpiry dt => Sys2Proof.Machine.execStandbyAfterExpiry dt s
  | .standbyWake src => Sys2Proof.Machine.execStandbyWake src s
  | .wakeHoldEntry => Sys2Proof.Machine.execWakeHoldEntry s
  | .rehearsalEnd => Sys2Proof.Machine.execRehearsalEnd s
  | .rehearsalTimeout => Sys2Proof.Machine.execRehearsalTimeout s
  | .verifyEnd => Sys2Proof.Machine.execVerifyEnd s
  | .verifyTimeout => Sys2Proof.Machine.execVerifyTimeout s
  | .thermalDarkExit => Sys2Proof.Machine.execThermalDarkExit s
  | .supplyRestored mv held => Sys2Proof.Machine.execSupplyRestored mv held s
  | .thmFastRound dt codes => Sys2Proof.Machine.execThmFastRound dt codes s
  | .thmSlowRound dt codes rails boards => Sys2Proof.Machine.execThmSlowRound dt codes rails boards s
  | .sensorRecovered k => Sys2Proof.Machine.execSensorRecovered k s
  | .i2cTimeout b => Sys2Proof.Machine.execI2cTimeout b s
  | .throttleLevelStep dt => Sys2Proof.Machine.execThrottleLevelStep dt s
  | .promptBookGroupApply => Sys2Proof.Machine.execPromptBookGroupApply s
  | .checkpointTimer dt => Sys2Proof.Machine.execCheckpointTimer dt s
  | .slotWriteDone micros => Sys2Proof.Machine.execSlotWriteDone micros s
  | .pfailNFall samples => Sys2Proof.Machine.execPfailNFall samples s
  | .vkeepBelowTrip mv held => Sys2Proof.Machine.execVkeepBelowTrip mv held s
  | .powerGoodLoss g held => Sys2Proof.Machine.execPowerGoodLoss g held s
  | .healthPeriod dt => Sys2Proof.Machine.execHealthPeriod dt s
  | .enc0Count dt sa sb => Sys2Proof.Machine.execEnc0Count dt sa sb s
  | .encoderFaultEnd dt => Sys2Proof.Machine.execEncoderFaultEnd dt s
  | .enc0ZEdge sz => Sys2Proof.Machine.execEnc0ZEdge sz s
  | .wireFault c pair => Sys2Proof.Machine.execWireFault c pair s
  | .wireFaultEnd c pair => Sys2Proof.Machine.execWireFaultEnd c pair s
  | .rollerCount dt c sa sb => Sys2Proof.Machine.execRollerCount dt c sa sb s
  | .rollerZEdge dt c sz => Sys2Proof.Machine.execRollerZEdge dt c sz s
  | .indexEdge dt c sz => Sys2Proof.Machine.execIndexEdge dt c sz s
  | .rollerIndexTimeout dt c => Sys2Proof.Machine.execRollerIndexTimeout dt c s
  | .rollerFlagClean dt c => Sys2Proof.Machine.execRollerFlagClean dt c s
  | .speedStop dt => Sys2Proof.Machine.execSpeedStop dt s
  | .qoutStep dt k => Sys2Proof.Machine.execQoutStep dt k s
  | .camPortEnable p => Sys2Proof.Machine.execCamPortEnable p s
  | .camRestart p => Sys2Proof.Machine.execCamRestart p s
  | .camAutoRetry p => Sys2Proof.Machine.execCamAutoRetry p s
  | .alignSearchFail l => Sys2Proof.Machine.execAlignSearchFail l s
  | .camAlignTimeout p => Sys2Proof.Machine.execCamAlignTimeout p s
  | .camDeskewed p => Sys2Proof.Machine.execCamDeskewed p s
  | .alignBlock l seq pos => Sys2Proof.Machine.execAlignBlock l seq pos s
  | .invalidBlock l since hdr => Sys2Proof.Machine.execInvalidBlock l since hdr s
  | .descBlock p idx payload => Sys2Proof.Machine.execDescBlock p idx payload s
  | .descriptorTimeout p => Sys2Proof.Machine.execDescriptorTimeout p s
  | .temperatureStale p => Sys2Proof.Machine.execTemperatureStale p s
  | .cueLaunch dt p => Sys2Proof.Machine.execCueLaunch dt p s
  | .lineFrame p j mrow sid line hdr data bits crc => Sys2Proof.Machine.execLineFrame p j mrow sid line hdr data bits crc s
  | .eolTimeout p => Sys2Proof.Machine.execEolTimeout p s
  | .lineTimeout dt p j => Sys2Proof.Machine.execLineTimeout dt p j s
  | .cameraErrBlock p code j line => Sys2Proof.Machine.execCameraErrBlock p code j line s
  | .prehStart p => Sys2Proof.Machine.execPrehStart p s
  | .prehFail p => Sys2Proof.Machine.execPrehFail p s
  | .lineDelivery p faults => Sys2Proof.Machine.execLineDelivery p faults s
  | .runLabel => Sys2Proof.Machine.execRunLabel s
  | .eolMarkerApply => Sys2Proof.Machine.execEolMarkerApply s
  | .closingEvaluation => Sys2Proof.Machine.execClosingEvaluation s
  | .componentRelease => Sys2Proof.Machine.execComponentRelease s
  | .stripBoundary stage h line => Sys2Proof.Machine.execStripBoundary stage h line s
  | .exposureLoopRun p => Sys2Proof.Machine.execExposureLoopRun p s
  | .ffRunComplete h => Sys2Proof.Machine.execFfRunComplete h s
  | .ffTableWriteDone h => Sys2Proof.Machine.execFfTableWriteDone h s
  | .ffRetryExpiry h => Sys2Proof.Machine.execFfRetryExpiry h s
  | .seamEstimateDone k => Sys2Proof.Machine.execSeamEstimateDone k s
  | .xdevStreamTimeout dt => Sys2Proof.Machine.execXdevStreamTimeout dt s
  | .markRequest => Sys2Proof.Machine.execMarkRequest s
  | .markCompare m dt => Sys2Proof.Machine.execMarkCompare m dt s
  | .burstLineStart m dt => Sys2Proof.Machine.execBurstLineStart m dt s
  | .latchFall m dt => Sys2Proof.Machine.execLatchFall m dt s
  | .strobeFall m dt => Sys2Proof.Machine.execStrobeFall m dt s
  | .strobeWatchdog m dt => Sys2Proof.Machine.execStrobeWatchdog m dt s
  | .statMeasurement m dt p h => Sys2Proof.Machine.execStatMeasurement m dt p h s
  | .statTimeout m dt => Sys2Proof.Machine.execStatTimeout m dt s
  | .statRecovery m dt => Sys2Proof.Machine.execStatRecovery m dt s
  | .markRestart m => Sys2Proof.Machine.execMarkRestart m s
  | .archiveRowComplete h => Sys2Proof.Machine.execArchiveRowComplete h s
  | .blockWriteError => Sys2Proof.Machine.execBlockWriteError s
  | .hostJobRequest => Sys2Proof.Machine.execHostJobRequest s
  | .jobStart => Sys2Proof.Machine.execJobStart s
  | .jobWaitTimeout => Sys2Proof.Machine.execJobWaitTimeout s
  | .jobDone => Sys2Proof.Machine.execJobDone s
  | .dmaArm c => Sys2Proof.Machine.execDmaArm c s
  | .dmaGrant => Sys2Proof.Machine.execDmaGrant s
  | .dmaEntryComplete => Sys2Proof.Machine.execDmaEntryComplete s
  | .dmaBeatError => Sys2Proof.Machine.execDmaBeatError s
  | .dmaTimeout => Sys2Proof.Machine.execDmaTimeout s
  | .dmaListFetchFail => Sys2Proof.Machine.execDmaListFetchFail s
  | .dmaTransferComplete => Sys2Proof.Machine.execDmaTransferComplete s
  | .dmaErrlogPop => Sys2Proof.Machine.execDmaErrlogPop s
  | .memBandPoll bands => Sys2Proof.Machine.execMemBandPoll bands s
  | .refreshTick rank => Sys2Proof.Machine.execRefreshTick rank s
  | .memReadComplete sc dt out => Sys2Proof.Machine.execMemReadComplete sc dt out s
  | .writeCrcAlert sc => Sys2Proof.Machine.execWriteCrcAlert sc s
  | .patrolScrub rank line out => Sys2Proof.Machine.execPatrolScrub rank line out s
  | .migrationPageCopy ue => Sys2Proof.Machine.execMigrationPageCopy ue s
  | .migrationFloor => Sys2Proof.Machine.execMigrationFloor s
  | .fspRequest target => Sys2Proof.Machine.execFspRequest target s
  | .fspChangeDone => Sys2Proof.Machine.execFspChangeDone s
  | .trainingPeriod => Sys2Proof.Machine.execTrainingPeriod s
  | .trainingSliceForce last => Sys2Proof.Machine.execTrainingSliceForce last s
  | .laneAcqDone l ctle gain dfe => Sys2Proof.Machine.execLaneAcqDone l ctle gain dfe s
  | .laneLockLoss l signal => Sys2Proof.Machine.execLaneLockLoss l signal s
  | .refclkWindow host count => Sys2Proof.Machine.execRefclkWindow host count s
  | .laneRetrain l => Sys2Proof.Machine.execLaneRetrain l s
  | .laneSlip l => Sys2Proof.Machine.execLaneSlip l s
  | .laneDeep l deep => Sys2Proof.Machine.execLaneDeep l deep s
  | .laneTestRequest l value => Sys2Proof.Machine.execLaneTestRequest l value s
  | .berCfgWrite value => Sys2Proof.Machine.execBerCfgWrite value s
  | .prbsCheckerLock l => Sys2Proof.Machine.execPrbsCheckerLock l s
  | .prbsCheckerLoss l mismatches => Sys2Proof.Machine.execPrbsCheckerLoss l mismatches s
  | .berWindowEnd l mismatches => Sys2Proof.Machine.execBerWindowEnd l mismatches s
  | .adaptationStep dt l setting up => Sys2Proof.Machine.execAdaptationStep dt l setting up s
  | .keepBlockSend l => Sys2Proof.Machine.execKeepBlockSend l s
  | .keepBlockRx l addr mode => Sys2Proof.Machine.execKeepBlockRx l addr mode s
  | .keepaliveLost l => Sys2Proof.Machine.execKeepaliveLost l s
  | .wakeBlockRx l => Sys2Proof.Machine.execWakeBlockRx l s
  | .fabWakePin samples => Sys2Proof.Machine.execFabWakePin samples s
  | .fabLinkAligned f => Sys2Proof.Machine.execFabLinkAligned f s
  | .fabLstateRx f addr port => Sys2Proof.Machine.execFabLstateRx f addr port s
  | .fabPacketRx f pkt lseq crc => Sys2Proof.Machine.execFabPacketRx f pkt lseq crc s
  | .fabAckRx f lseq nak => Sys2Proof.Machine.execFabAckRx f lseq nak s
  | .fabCreditRx f vc n => Sys2Proof.Machine.execFabCreditRx f vc n s
  | .fabAckTimer f => Sys2Proof.Machine.execFabAckTimer f s
  | .fabReplayTimeout dt f => Sys2Proof.Machine.execFabReplayTimeout dt f s
  | .fabRecordPacket f => Sys2Proof.Machine.execFabRecordPacket f s
  | .fabWingPacket f => Sys2Proof.Machine.execFabWingPacket f s
  | .fabFrontierPacket f => Sys2Proof.Machine.execFabFrontierPacket f s
  | .fabComponentPacket f => Sys2Proof.Machine.execFabComponentPacket f s
  | .fabJobPacket f => Sys2Proof.Machine.execFabJobPacket f s
  | .fabCackPacket f => Sys2Proof.Machine.execFabCackPacket f s
  | .cackTimeout dt oid => Sys2Proof.Machine.execCackTimeout dt oid s
  | .discHelloTimer => Sys2Proof.Machine.execDiscHelloTimer s
  | .discHello f => Sys2Proof.Machine.execDiscHello f s
  | .discSettled dt => Sys2Proof.Machine.execDiscSettled dt s
  | .discReport f => Sys2Proof.Machine.execDiscReport f s
  | .discAssign f => Sys2Proof.Machine.execDiscAssign f s
  | .discMap f => Sys2Proof.Machine.execDiscMap f s
  | .discLinkev f => Sys2Proof.Machine.execDiscLinkev f s
  | .discoveryTimeout => Sys2Proof.Machine.execDiscoveryTimeout s
  | .fabSyncTimer => Sys2Proof.Machine.execFabSyncTimer s
  | .timeSyncRx f seq t => Sys2Proof.Machine.execTimeSyncRx f seq t s
  | .timeDreqRx f seq t => Sys2Proof.Machine.execTimeDreqRx f seq t s
  | .timeDrespRx f seq t => Sys2Proof.Machine.execTimeDrespRx f seq t s
  | .hostIfUp j => Sys2Proof.Machine.execHostIfUp j s
  | .hostIfDown j remoteFault => Sys2Proof.Machine.execHostIfDown j remoteFault s
  | .failover dt => Sys2Proof.Machine.execFailover dt s
  | .hostFrameStart j => Sys2Proof.Machine.execHostFrameStart j s
  | .frameFlush cls => Sys2Proof.Machine.execFrameFlush cls s
  | .hostFrameRx j bytes corrected bad => Sys2Proof.Machine.execHostFrameRx j bytes corrected bad s
  | .arpRequest j => Sys2Proof.Machine.execArpRequest j s
  | .icmpEchoRequest j => Sys2Proof.Machine.execIcmpEchoRequest j s
  | .mgmtRead => Sys2Proof.Machine.execMgmtRead s
  | .mgmtWrite => Sys2Proof.Machine.execMgmtWrite s
  | .mgmtChallenge => Sys2Proof.Machine.execMgmtChallenge s
  | .mgmtOpen => Sys2Proof.Machine.execMgmtOpen s
  | .mgmtOpenVerified sigOk => Sys2Proof.Machine.execMgmtOpenVerified sigOk s
  | .mgmtClose => Sys2Proof.Machine.execMgmtClose s
  | .mgmtMalformed => Sys2Proof.Machine.execMgmtMalformed s
  | .sessionExpiry dt k => Sys2Proof.Machine.execSessionExpiry dt k s
  | .nonceExpiry dt ip port => Sys2Proof.Machine.execNonceExpiry dt ip port s
  | .ptpSync m => Sys2Proof.Machine.execPtpSync m s
  | .ptpFollowUp m => Sys2Proof.Machine.execPtpFollowUp m s
  | .ptpDelayResp m => Sys2Proof.Machine.execPtpDelayResp m s
  | .ptpPdelayReq m => Sys2Proof.Machine.execPtpPdelayReq m s
  | .servoOffset => Sys2Proof.Machine.execServoOffset s
  | .holdoverEntry dt => Sys2Proof.Machine.execHoldoverEntry dt s
  | .secondRollover => Sys2Proof.Machine.execSecondRollover s
  | .timeSet => Sys2Proof.Machine.execTimeSet s
  | .timeNowRead q => Sys2Proof.Machine.execTimeNowRead q s
  | .cqPush k value => Sys2Proof.Machine.execCqPush k value s
  | .cqEntryDue k => Sys2Proof.Machine.execCqEntryDue k s
  | .evtPinEdge k level held => Sys2Proof.Machine.execEvtPinEdge k level held s
  | .pinStuck dt k => Sys2Proof.Machine.execPinStuck dt k s
  | .pinPulseEnd dt k => Sys2Proof.Machine.execPinPulseEnd dt k s
  | .evtChannelDelivery c => Sys2Proof.Machine.execEvtChannelDelivery c s
  | .loopReenable c => Sys2Proof.Machine.execLoopReenable c s
  | .softwareFire task => Sys2Proof.Machine.execSoftwareFire task s
  | .pmcWindowEnd => Sys2Proof.Machine.execPmcWindowEnd s
  | .pmcCounterWrap k => Sys2Proof.Machine.execPmcCounterWrap k s
  | .repeatClear => Sys2Proof.Machine.execRepeatClear s
  | .attestRequest => Sys2Proof.Machine.execAttestRequest s
  | .attestDone => Sys2Proof.Machine.execAttestDone s
  | .pairLowRead q addr => Sys2Proof.Machine.execPairLowRead q addr s
  | .pairHighWrite q addr value => Sys2Proof.Machine.execPairHighWrite q addr value s
  | .pairLowWrite q addr value => Sys2Proof.Machine.execPairLowWrite q addr value s
  | .rcRead q addr => Sys2Proof.Machine.execRcRead q addr s
  | .registerWrite q addr value => Sys2Proof.Machine.execRegisterWrite q addr value s
  | .blockLock l => Sys2Proof.Machine.execBlockLock l s
  | .alignMissing l => Sys2Proof.Machine.execAlignMissing l s
  | .fabPacketStart f => Sys2Proof.Machine.execFabPacketStart f s
  | .dramCommandIssue sc dt last => Sys2Proof.Machine.execDramCommandIssue sc dt last s
  | .memWriteComplete sc dt => Sys2Proof.Machine.execMemWriteComplete sc dt s
  | .dramTrainingDone spareOk => Sys2Proof.Machine.execDramTrainingDone spareOk s
  | .ptpDelayReqSend seqId => Sys2Proof.Machine.execPtpDelayReqSend seqId s
  | .cellFilterPass dt k => Sys2Proof.Machine.execCellFilterPass dt k s

end Sys2Proof.Machine
end

