-- ==== Sys2Proof/Safety.lean ====
section
/-! DEFINITION. Safety.lean: what the statements call a state in good order, and what no command may do to the state. -/

namespace Sys2Proof.Machine

/-- The DRAM lists its bytes in the one canonical form: addresses strictly rising, no entry 0, what an unlisted byte reads
as (notes/assumptions/1). -/
abbrev Memory.wf (m : List Host.Cell) : Bool := spWf (fun _ => 0) m

/-- Every sparse part of the state is in its canonical form: registers and working values by rising key; snapshots, stages,
table words, DRAM bytes, fuse words and firings by rising key with no entry equal to what an unlisted key reads as. -/
def State.canonical (s : State) : Bool :=
  spAbove none s.regs && spAbove none s.work && spWf (fun _ => 0) s.snaps && spWf (fun _ => 0) s.stages &&
    spWf tabDefault s.tables && Memory.wf s.dram && spWf (fun _ => 0) s.sec.fuses && spWf (fun _ => 0) s.evt.fired

/-- Bit `b` of fuse word `k` is blown (R497). -/
def State.fuseBlown (s : State) (k b : Nat) : Bool := (spGet 0 s.sec.fuses k).getLsbD b

/-- The parts of the state, as a statement about what a command leaves alone names them: its fields, some fields of those by
a name of their own, and each register. -/
inductive Part where
  | clk | free | wire | busData | work | snaps | stages | tables | dram | seqs | stripLen | crossed | glb | sec | evt | pmc
  | thm | pwr | tim | hst | fab | gaps | cam | cor | awf | seg | sti | lne | pos | mem | arc | dma | mrk
  | glbTrans | glbPend | glbPowered | memOps | memDone | memChange | dmaRun | arcRun | pwrMirror | pwrSlots | pwrWrite
  | pwrIdKey | secFuses
  | reg (r : Reg)
deriving DecidableEq

/-- A part is the same in two states. Storage is compared by what reading it gives: every instance of a register, every
working value, every word of a table window and every byte of DRAM. -/
def Part.same (p : Part) (s t : State) : Prop :=
  match p with
  | .clk => t.clk = s.clk
  | .free => t.free = s.free
  | .wire => t.wire = s.wire
  | .busData => t.busData = s.busData
  | .work => ∀ r i, t.rdWork r i = s.rdWork r i
  | .snaps => t.snaps = s.snaps
  | .stages => t.stages = s.stages
  | .tables => ∀ a, t.tab a = s.tab a
  | .dram => ∀ a, t.dramByte a = s.dramByte a
  | .seqs => t.seqs = s.seqs
  | .stripLen => t.stripLen = s.stripLen
  | .crossed => t.crossed = s.crossed
  | .glb => t.glb = s.glb
  | .sec => t.sec = s.sec
  | .evt => t.evt = s.evt
  | .pmc => t.pmc = s.pmc
  | .thm => t.thm = s.thm
  | .pwr => t.pwr = s.pwr
  | .tim => t.tim = s.tim
  | .hst => t.hst = s.hst
  | .fab => t.fab = s.fab
  | .gaps => t.gaps = s.gaps
  | .cam => t.cam = s.cam
  | .cor => t.cor = s.cor
  | .awf => t.awf = s.awf
  | .seg => t.seg = s.seg
  | .sti => t.sti = s.sti
  | .lne => t.lne = s.lne
  | .pos => t.pos = s.pos
  | .mem => t.mem = s.mem
  | .arc => t.arc = s.arc
  | .dma => t.dma = s.dma
  | .mrk => t.mrk = s.mrk
  | .glbTrans => t.glb.trans = s.glb.trans
  | .glbPend => t.glb.pend = s.glb.pend
  | .glbPowered => t.glb.powered = s.glb.powered
  | .memOps => t.mem.ops = s.mem.ops
  | .memDone => t.mem.done = s.mem.done
  | .memChange => t.mem.change = s.mem.change
  | .dmaRun => t.dma.run = s.dma.run
  | .arcRun => t.arc.run = s.arc.run
  | .pwrMirror => t.pwr.mirror = s.pwr.mirror
  | .pwrSlots => t.pwr.slots = s.pwr.slots
  | .pwrWrite => t.pwr.write = s.pwr.write
  | .pwrIdKey => t.pwr.idKey = s.pwr.idKey
  | .secFuses => t.sec.fuses = s.sec.fuses
  | .reg r => ∀ i, t.rd r i = s.rd r i

/-- Between two states only the named parts have changed; the queue has not. -/
def ChangesOnly (ps : List Part) (s t : State) : Prop := t.pending = s.pending ∧ ∀ p, p ∉ ps → p.same s t

/-- The parts that raising any event changes besides its EVENT register: the producer's firings and the performance counters
that count them (R468, R481). -/
def eventParts : List Part := [.evt, .reg .PMC_CNT_LO, .reg .PMC_CNT_HI, .reg .PMC_EVENT]

/-- The command completes: it answers a next state, with a property. -/
def Completes (c : Instr) (s : State) (post : State → Prop) : Prop := ∃ t, exec c s = .next t ∧ post t

/-- R45: a counter that fills its register has counted `n` more, and stops at its maximum. -/
def Counted (s t : State) (r : Reg) (i : Nat := 0) (n : Nat := 1) : Prop :=
  t.rd r i = BitVec.ofNat 32 (min ((s.rd r i).toNat + n) 0xFFFFFFFF)

end Sys2Proof.Machine
end

