-- ==== Sys2Proof/Machine/Frames.lean ====
section
/-! DEFINITION. Machine/Frames.lean: for each command, the parts of the state that it may change. -/

namespace Sys2Proof.Machine

/-- Every register of the map. -/
def allRegParts : List Part :=
  (regsGLB ++ regsCAM ++ regsCOR ++ regsAWF ++ regsSTI ++ regsSEG ++ regsOBJ ++ regsPOS ++ regsMRK ++ regsARC ++ regsMEM ++
    regsLNE ++ regsHST ++ regsFAB ++ regsTIM ++ regsEVT ++ regsSEC ++ regsPWR ++ regsTHM ++ regsPMC ++ regsDMA).map Part.reg

/-- The parts that forming and queuing a GAP record (R62, R66, R464) may change. -/
def recordParts : List Part :=
  eventParts ++
    [.seqs, .hst, .fab, .reg .FAB_EVENT, .reg .FAB_NOROUTE_CNT, .reg .HST_DROP_BULK_CNT, .reg .HST_DROP_CUE_CNT,
     .reg .HST_DROP_ROUTINE_CNT, .reg .HST_EVENT]

/-- The parts that applying a link event of the labels (R188 to R194) may change. -/
def labelParts : List Part :=
  recordParts ++
    [.tables, .tim, .seg, .sti, .reg .FAB_NBR, .reg .FAB_PSTAT, .reg .FAB_REDISC_CNT, .reg .FAB_STATUS,
     .reg .OBJ_ACC_OVF_CNT, .reg .OBJ_CLASS_CNT, .reg .OBJ_CLOSE_CNT, .reg .OBJ_EVENT, .reg .OBJ_MARK_DROP_CNT,
     .reg .OBJ_SMALL_CNT, .reg .OBJ_SNIP_DROP_CNT, .reg .SEAM_STATUS, .reg .STI_EVENT, .reg .STI_STATE0,
     .reg .STI_STATE1, .reg .STI_UNMERGED_CNT, .reg .TIM_MPD]

/-- The parts that entering DARK with a fault (R486, R529, R539) may change. -/
def darkParts : List Part :=
  recordParts ++ allRegParts ++
    [.wire, .busData, .work, .snaps, .stages, .tables, .crossed, .glb, .sec, .pmc, .thm, .pwr, .tim, .gaps, .cam,
     .cor, .awf, .seg, .sti, .lne, .pos, .mem, .arc, .dma, .mrk, .glbTrans, .glbPend, .glbPowered, .memOps, .memDone] ++
    [.memChange, .dmaRun, .arcRun, .pwrMirror]

/-- The parts that leaving HOLD (R504 to R507) may change. -/
def leaveHoldParts : List Part :=
  recordParts ++
    [.free, .wire, .work, .tables, .glb, .sec, .pwr, .tim, .gaps, .cam, .cor, .awf, .seg, .sti, .lne, .pos, .mem,
     .arc, .mrk, .glbTrans, .memChange, .pwrMirror, .reg .ARC_EVENT, .reg .ARC_LIMIT_CNT, .reg .ARC_PARTIAL_CNT,
     .reg .ARC_REFUSE_CNT, .reg .ARC_SHED_CNT, .reg .CAM_EVENT, .reg .CAM_PREH_FAIL_CNT, .reg .CAM_STATUS] ++
    [.reg .COR_EVENT, .reg .COR_EXP_STATE, .reg .COR_FF_LAST, .reg .COR_FF_STATE, .reg .FAB_DOWN_CNT, .reg .FAB_POUT,
     .reg .FAB_PSTAT, .reg .FAB_STATUS, .reg .GLB_EVENT, .reg .GLB_MODE, .reg .GLB_STATUS, .reg .GLB_STBY_CNT,
     .reg .HST_IF_STATUS, .reg .HST_STATUS, .reg .LNE_STATE, .reg .LNE_TSTAT, .reg .MEM_DEBT0, .reg .MEM_DEBT1,
     .reg .MEM_STATUS, .reg .MEM_TRN_STATUS, .reg .MRK_EVENT, .reg .MRK_NOTPL_CNT, .reg .MRK_PLACED_CNT,
     .reg .MRK_PSTAT, .reg .MRK_REQ_CNT, .reg .MRK_SCHED, .reg .OBJ_ACC_OVF_CNT, .reg .OBJ_BUDGET_OVF_CNT,
     .reg .OBJ_CLASS_CNT, .reg .OBJ_CLOSE_CNT] ++
    [.reg .OBJ_CTX_STATUS, .reg .OBJ_EVENT, .reg .OBJ_HEAD_CFG, .reg .OBJ_JOIN_STATUS, .reg .OBJ_LAST_REP,
     .reg .OBJ_LATE_CNT, .reg .OBJ_MARK_DROP_CNT, .reg .OBJ_OID_H, .reg .OBJ_OID_L, .reg .OBJ_OPEN_CNT,
     .reg .OBJ_REPEAT_CNT, .reg .OBJ_SMALL_CNT, .reg .OBJ_SNIP_DROP_CNT, .reg .OBJ_SPILL_CNT, .reg .OBJ_TRUNC_CNT,
     .reg .OBJ_UPDATE_CNT, .reg .SEC_STATUS, .reg .SEG_CLUSTER_CNT, .reg .SEG_EVENT, .reg .SEG_HEAD_CFG,
     .reg .SEG_LAST_OVF, .reg .SEG_LBL_PEAK, .reg .SEG_MERGE_CNT, .reg .SEG_OVF_CTX_CNT, .reg .SEG_OVF_ENTER_CNT,
     .reg .SEG_OVF_FIFO_CNT, .reg .SEG_OVF_LBL_CNT, .reg .SEG_OVF_LINE_CNT, .reg .SEG_OVF_STATE, .reg .STI_EVENT] ++
    [.reg .STI_MERGE_CNT, .reg .STI_MLIMIT_CNT, .reg .STI_UNMERGED_CNT]

/-- The parts that the loss of a camera lane (R96, R102) may change. -/
def cameraLossParts : List Part :=
  recordParts ++
    [.wire, .work, .tables, .crossed, .pwr, .gaps, .cam, .cor, .awf, .seg, .sti, .mem, .arc, .memOps, .memDone,
     .pwrMirror, .reg .ARC_BLK_CNT_H, .reg .ARC_BLK_CNT_L, .reg .ARC_CODEC_FAULT_CNT, .reg .ARC_EVENT,
     .reg .ARC_OVER_CNT, .reg .ARC_RETRY_CNT, .reg .AWF_CHANGE_CNT, .reg .AWF_CLIP_CNT, .reg .AWF_EVENT,
     .reg .AWF_HEAD_CFG, .reg .AWF_HEAD_STATE, .reg .AWF_INV_OUT_CNT, .reg .AWF_REJ, .reg .AWF_REJ_CNT] ++
    [.reg .CAM_CAL_REPAIR, .reg .CAM_CAL_SERIAL_HI, .reg .CAM_CAL_SERIAL_LO, .reg .CAM_EVENT, .reg .CAM_PREH_FAIL_CNT,
     .reg .CAM_STATUS, .reg .COR_BAL_B, .reg .COR_BAL_RG, .reg .COR_BANK, .reg .COR_CLIP_CNT, .reg .COR_EVENT,
     .reg .COR_EXP_STATE, .reg .COR_FF_LAST, .reg .COR_FF_STATE, .reg .COR_HEAD_CFG, .reg .COR_OFS_OLD,
     .reg .COR_REPLACED_CNT, .reg .COR_STALE, .reg .MEM_MIGR_RD_CNT, .reg .MEM_PANIC_CNT, .reg .MEM_PSTAT,
     .reg .OBJ_ACC_OVF_CNT, .reg .OBJ_BUDGET_OVF_CNT, .reg .OBJ_CTX_STATUS, .reg .OBJ_EVENT, .reg .OBJ_HEAD_CFG,
     .reg .OBJ_JOIN_STATUS, .reg .OBJ_LATE_CNT, .reg .OBJ_OID_H, .reg .OBJ_OID_L] ++
    [.reg .OBJ_OPEN_CNT, .reg .OBJ_SPILL_CNT, .reg .OBJ_TRUNC_CNT, .reg .OBJ_UPDATE_CNT, .reg .PWR_CB_STATUS,
     .reg .SEAM_DELAY, .reg .SEAM_OFS, .reg .SEAM_SCALE, .reg .SEAM_STATUS, .reg .SEAM_YOFS, .reg .SEG_BACKSTOP_CNT,
     .reg .SEG_BG_CFG, .reg .SEG_BG_LIM, .reg .SEG_CLUSTER_CNT, .reg .SEG_EVENT, .reg .SEG_FIFO_STATUS,
     .reg .SEG_FREEZE_REL_CNT, .reg .SEG_HEAD_CFG, .reg .SEG_LAST_OVF, .reg .SEG_LBL_PEAK, .reg .SEG_MERGE_CNT,
     .reg .SEG_OVF_CTX_CNT, .reg .SEG_OVF_ENTER_CNT, .reg .SEG_OVF_FIFO_CNT, .reg .SEG_OVF_LBL_CNT,
     .reg .SEG_OVF_LINE_CNT, .reg .SEG_OVF_STATE, .reg .SEG_RUN_CNT_H, .reg .SEG_RUN_CNT_L, .reg .SEG_THR] ++
    [.reg .SEG_WARM_CNT, .reg .SEG_WARM_STATE, .reg .STI_WBUF_INV_CNT]

/-- The parts that a write of one register by the bus, which may start whatever a register starts (R43, R44) may change. -/
def writeParts : List Part :=
  cameraLossParts ++ leaveHoldParts ++ darkParts ++ labelParts ++
    [.pwrWrite, .reg .CAM_RETRY_CNT, .reg .DMA_ACTRL, .reg .DMA_ADST_H, .reg .DMA_ADST_L, .reg .DMA_ASRC_H,
     .reg .DMA_ASRC_L, .reg .DMA_ERRLOG, .reg .DMA_SCTRL, .reg .DMA_STATUS, .reg .EVT_EVENT, .reg .EVT_LOOPED,
     .reg .EVT_OVR, .reg .EVT_PINSTAT, .reg .EVT_TCAP0_HI, .reg .EVT_TCAP0_LO, .reg .EVT_TCAP1_HI, .reg .EVT_TCAP1_LO,
     .reg .EVT_YCAP_H, .reg .EVT_YCAP_L, .reg .GLB_ACC_ERR_CNT, .reg .GLB_LOAD_STATUS, .reg .GLB_REFUSE_CNT,
     .reg .HST_CQ_REFUSE_CNT, .reg .LNE_CTL, .reg .LNE_EVENT, .reg .LNE_LAST, .reg .LNE_LOCKLOSS_CNT,
     .reg .LNE_RETRAIN_CNT, .reg .LNE_TXEQ] ++
    [.reg .MEM_EVENT, .reg .MEM_FSP_REFUSE_CNT, .reg .PMC_CTRL, .reg .PMC_RES_HI, .reg .PMC_RES_LO, .reg .POS_SPEED,
     .reg .SEC_ATT_BUSY_CNT, .reg .SEC_EVENT, .reg .SEC_ROLLBACK, .reg .SEC_SERIAL_HI, .reg .SEC_SERIAL_LO,
     .reg .TIM_EVENT, .reg .TIM_STATUS, .reg .TIM_STEP_CNT]

/-- The parts of the state that a command may change; everything else, and the queue, it leaves alone. -/
def frameParts (c : Instr) : List Part :=
  match c with
  | .resetNAssert _ => allRegParts ++
      [.wire, .busData, .work, .snaps, .stages, .tables, .seqs, .crossed, .glb, .sec, .evt, .pmc, .thm, .pwr, .tim,
       .hst, .fab, .gaps, .cam, .cor, .awf, .seg, .sti, .lne, .pos, .mem, .arc, .dma, .mrk, .glbTrans] ++
      [.glbPend, .glbPowered, .memOps, .memDone, .memChange, .dmaRun, .arcRun, .pwrMirror, .pwrWrite]
  | .resetNRelease _ => darkParts ++ [.pwrWrite]
  | .keepDomainPowerLoss =>
      [.pwr, .pwrMirror, .pwrWrite, .reg .PWR_CB_STATUS, .reg .PWR_CURTAIN_CNT, .reg .PWR_SAVE_HI, .reg .PWR_SAVE_LO,
       .reg .PWR_STATUS, .reg .SEC_DARK, .reg .THM_SHUT_CNT, .reg .THM_TS]
  | .keepDomainPowerOn =>
      [.pwr, .pwrMirror, .pwrWrite, .reg .PWR_CB_STATUS, .reg .PWR_CURTAIN_CNT, .reg .PWR_SAVE_HI, .reg .PWR_SAVE_LO,
       .reg .PWR_STATUS, .reg .SEC_DARK, .reg .THM_SHUT_CNT, .reg .THM_TS]
  | .imagePass1Done _ => darkParts
  | .flashNoAnswer => darkParts
  | .imagePass2Section _ => writeParts
  | .identityKeyReady => eventParts ++ [.free, .sec, .pwr, .pwrIdKey, .reg .SEC_EVENT, .reg .SEC_STATUS]
  | .trainingStepFail _ _ _ => eventParts ++
      [.glb, .mem, .reg .GLB_LOAD_STATUS, .reg .GLB_STATUS, .reg .MEM_EVENT, .reg .MEM_STATUS, .reg .MEM_TRN_STATUS]
  | .loadStallRetry _ => eventParts ++
      [.clk, .glb, .pmc, .tim, .reg .GLB_LOAD_STATUS, .reg .MEM_STATUS, .reg .MEM_TRN_STATUS, .reg .TIM_EVENT]
  | .rollbackFuseBlown => [.sec, .secFuses, .reg .GLB_LOAD_STATUS, .reg .SEC_ROLLBACK]
  | .loadEnd => recordParts ++
      [.wire, .work, .tables, .dram, .glb, .pwr, .sti, .pos, .mem, .arc, .memChange, .reg .EVT_PINSTAT,
       .reg .GLB_EVENT, .reg .GLB_HOLD_CNT, .reg .GLB_LOAD_STATUS, .reg .GLB_LOAD_TIME, .reg .GLB_MODE,
       .reg .GLB_STATUS, .reg .HST_STATUS, .reg .MEM_STATUS, .reg .MEM_TRN_STATUS, .reg .POS_EVENT, .reg .POS_LINE_H,
       .reg .POS_LINE_L, .reg .POS_ROLL, .reg .POS_STATUS, .reg .SEAM_DELAY, .reg .SEAM_OFS, .reg .SEAM_SCALE,
       .reg .SEAM_STATUS] ++
      [.reg .SEAM_YOFS, .reg .STI_EVENT, .reg .STI_STATE0, .reg .STI_STATE1]
  | .holdRequest => leaveHoldParts ++ [.glbPend, .reg .EVT_EVENT, .reg .EVT_OVR, .reg .GLB_REFUSE_CNT, .reg .POS_SPEED]
  | .resumeRequest => leaveHoldParts ++
      [.glbPend, .reg .EVT_EVENT, .reg .EVT_OVR, .reg .GLB_REFUSE_CNT, .reg .POS_SPEED]
  | .standbyRequest => leaveHoldParts ++
      [.glbPend, .reg .EVT_EVENT, .reg .EVT_OVR, .reg .GLB_REFUSE_CNT, .reg .POS_SPEED]
  | .reloadRequest => darkParts ++ [.pwrWrite]
  | .rehearsalOwedRequest => [.reg .GLB_STATUS]
  | .holdDrainDone => cameraLossParts ++ leaveHoldParts ++
      [.glbPend, .reg .GLB_HOLD_CNT, .reg .GLB_REFUSE_CNT, .reg .POS_SPEED]
  | .autoResume => leaveHoldParts
  | .standbyAfterExpiry _ => leaveHoldParts ++ [.clk, .pmc, .reg .TIM_EVENT]
  | .standbyWake _ =>
      [.wire, .glb, .cam, .lne, .pos, .mem, .glbTrans, .reg .CAM_STATUS, .reg .FAB_PSTAT, .reg .GLB_STATUS,
       .reg .LNE_STATE, .reg .LNE_TSTAT, .reg .MEM_DEBT0, .reg .MEM_DEBT1, .reg .MEM_STATUS, .reg .POS_SPEED]
  | .wakeHoldEntry => leaveHoldParts ++ [.glbPend, .reg .GLB_HOLD_CNT, .reg .GLB_REFUSE_CNT, .reg .POS_SPEED]
  | .rehearsalEnd => eventParts ++
      [.wire, .glb, .pwr, .cam, .cor, .reg .CAM_CAL_REPAIR, .reg .CAM_CAL_SERIAL_HI, .reg .CAM_CAL_SERIAL_LO,
       .reg .CAM_EVENT, .reg .CAM_STATUS, .reg .COR_EVENT, .reg .COR_EXP_STATE, .reg .COR_FF_LAST, .reg .COR_FF_STATE,
       .reg .COR_STALE, .reg .GLB_EVENT, .reg .GLB_MODE, .reg .GLB_STATUS]
  | .rehearsalTimeout => eventParts ++
      [.wire, .glb, .pwr, .cam, .cor, .reg .CAM_CAL_REPAIR, .reg .CAM_CAL_SERIAL_HI, .reg .CAM_CAL_SERIAL_LO,
       .reg .CAM_EVENT, .reg .CAM_STATUS, .reg .COR_EVENT, .reg .COR_EXP_STATE, .reg .COR_FF_LAST, .reg .COR_FF_STATE,
       .reg .COR_STALE, .reg .GLB_EVENT, .reg .GLB_MODE, .reg .GLB_STATUS]
  | .verifyEnd => eventParts ++ [.glb, .pwr, .reg .GLB_EVENT, .reg .GLB_MODE, .reg .GLB_STATUS]
  | .verifyTimeout => eventParts ++ [.glb, .pwr, .reg .GLB_EVENT, .reg .GLB_MODE, .reg .GLB_STATUS]
  | .thermalDarkExit => darkParts ++ [.pwrWrite]
  | .supplyRestored _ _ => darkParts ++ [.pwrWrite]
  | .thmFastRound _ _ => darkParts ++ [.clk, .pwrSlots, .pwrWrite]
  | .thmSlowRound _ _ _ _ => darkParts ++ [.clk, .pwrSlots, .pwrWrite]
  | .sensorRecovered _ => [.reg .THM_BROKEN, .reg .THM_TS]
  | .i2cTimeout _ => [.thm, .reg .THM_BRDT, .reg .THM_I2C_ERR_CNT]
  | .throttleLevelStep _ => eventParts ++
      [.clk, .pmc, .thm, .pwr, .tim, .pwrMirror, .reg .PWR_CB_STATUS, .reg .THM_EVENT, .reg .THM_STATUS,
       .reg .THM_THR_CNT, .reg .TIM_EVENT]
  | .promptBookGroupApply => [.pwr, .pwrMirror]
  | .checkpointTimer _ => eventParts ++
      [.clk, .pmc, .pwr, .tim, .pwrMirror, .pwrSlots, .pwrWrite, .reg .PWR_SAVE_HI, .reg .PWR_SAVE_LO,
       .reg .PWR_STATUS, .reg .TIM_EVENT]
  | .slotWriteDone _ => eventParts ++ allRegParts ++
      [.wire, .busData, .work, .snaps, .stages, .tables, .seqs, .crossed, .glb, .sec, .pmc, .thm, .pwr, .tim, .hst,
       .fab, .gaps, .cam, .cor, .awf, .seg, .sti, .lne, .pos, .mem, .arc, .dma, .mrk, .glbTrans, .glbPend] ++
      [.glbPowered, .memOps, .memDone, .memChange, .dmaRun, .arcRun, .pwrMirror, .pwrSlots, .pwrWrite]
  | .pfailNFall _ => darkParts ++ [.pwrSlots, .pwrWrite]
  | .vkeepBelowTrip _ _ => darkParts ++ [.pwrSlots, .pwrWrite]
  | .powerGoodLoss _ _ => darkParts ++ [.pwrSlots, .pwrWrite]
  | .healthPeriod _ => recordParts ++ [.clk, .pmc, .pwr, .tim, .reg .TIM_EVENT]
  | .enc0Count _ _ _ => recordParts ++
      [.clk, .wire, .glb, .pmc, .pwr, .tim, .cam, .pos, .pwrMirror, .reg .POS_CUE_CNT_H, .reg .POS_CUE_CNT_L,
       .reg .POS_EMU_OVF_CNT, .reg .POS_ENCFLT_CNT, .reg .POS_EVENT, .reg .POS_LINE_H, .reg .POS_LINE_L,
       .reg .POS_QERR_CNT, .reg .POS_REV_CNT, .reg .POS_SKIP_CNT, .reg .POS_SPEED, .reg .POS_STATUS,
       .reg .PWR_CB_STATUS, .reg .TIM_EVENT]
  | .encoderFaultEnd _ => eventParts ++ [.clk, .pmc, .tim, .pos, .reg .POS_EVENT, .reg .POS_STATUS, .reg .TIM_EVENT]
  | .enc0ZEdge _ => recordParts ++
      [.glb, .pos, .reg .GLB_STATUS, .reg .POS_EVENT, .reg .POS_STATUS, .reg .POS_ZERR, .reg .POS_ZLATCH_H,
       .reg .POS_ZLATCH_L, .reg .POS_ZSLIP_CNT]
  | .wireFault _ _ => recordParts ++
      [.pwr, .pos, .pwrMirror, .reg .POS_ENCFLT_CNT, .reg .POS_EVENT, .reg .POS_ROLL, .reg .POS_STATUS,
       .reg .POS_WIRE_CNT, .reg .PWR_CB_STATUS]
  | .wireFaultEnd _ _ => [.pos, .reg .POS_STATUS]
  | .rollerCount _ _ _ _ => eventParts ++
      [.clk, .pmc, .tim, .pos, .reg .POS_EVENT, .reg .POS_QERR_CNT, .reg .POS_ROLL, .reg .POS_STATUS, .reg .TIM_EVENT]
  | .rollerZEdge _ _ _ => eventParts ++
      [.clk, .pmc, .tim, .pos, .reg .POS_ROLL, .reg .POS_STATUS, .reg .POS_ZSLIP_CNT, .reg .TIM_EVENT]
  | .indexEdge _ _ _ => eventParts ++
      [.clk, .pmc, .tim, .pos, .reg .POS_IDX_REJ_CNT, .reg .POS_ROLL, .reg .POS_STATUS, .reg .TIM_EVENT]
  | .rollerIndexTimeout _ _ => eventParts ++
      [.clk, .pmc, .tim, .pos, .reg .POS_EVENT, .reg .POS_ROLL, .reg .POS_STATUS, .reg .TIM_EVENT]
  | .rollerFlagClean _ _ => eventParts ++ [.clk, .pmc, .tim, .pos, .reg .POS_ROLL, .reg .POS_STATUS, .reg .TIM_EVENT]
  | .speedStop _ => recordParts ++
      [.clk, .glb, .pmc, .tim, .gaps, .pos, .glbTrans, .reg .GLB_STATUS, .reg .POS_EVENT, .reg .POS_SPEED,
       .reg .TIM_EVENT]
  | .qoutStep _ _ => eventParts ++ [.clk, .wire, .pmc, .tim, .pos, .reg .TIM_EVENT]
  | .camPortEnable _ => [.cam, .lne, .reg .CAM_STATUS]
  | .camRestart _ => [.cam, .lne, .reg .CAM_RETRY_CNT, .reg .CAM_STATUS]
  | .camAutoRetry _ => [.cam, .lne, .reg .CAM_RETRY_CNT, .reg .CAM_STATUS]
  | .alignSearchFail _ => cameraLossParts
  | .camAlignTimeout _ => cameraLossParts
  | .camDeskewed _ => [.wire, .cam, .reg .CAM_STATUS]
  | .alignBlock _ _ _ => cameraLossParts ++ labelParts ++
      [.lne, .reg .FAB_DOWN_CNT, .reg .FAB_POUT, .reg .HST_IF_STATUS, .reg .HST_STATUS, .reg .LNE_EVENT,
       .reg .LNE_LAST, .reg .LNE_LOCKLOSS_CNT, .reg .LNE_RETRAIN_CNT, .reg .LNE_STATE]
  | .invalidBlock _ _ _ => cameraLossParts ++ labelParts ++
      [.lne, .reg .FAB_DOWN_CNT, .reg .FAB_POUT, .reg .HST_IF_STATUS, .reg .HST_STATUS, .reg .LNE_EVENT,
       .reg .LNE_HDR_ERR_CNT, .reg .LNE_LAST, .reg .LNE_LOCKLOSS_CNT, .reg .LNE_RETRAIN_CNT, .reg .LNE_STATE]
  | .descBlock _ _ _ => cameraLossParts ++
      [.free, .reg .CAM_DESC_ERR_CNT, .reg .CAM_DESC_GEOM, .reg .CAM_DESC_ID, .reg .CAM_DESC_PIXELS,
       .reg .CAM_DESC_TIMING, .reg .CAM_SERIAL_HI, .reg .CAM_SERIAL_LO, .reg .CAM_TEMP]
  | .descriptorTimeout _ => cameraLossParts ++ [.reg .CAM_DESC_ERR_CNT]
  | .temperatureStale _ => [.reg .CAM_TEMP]
  | .cueLaunch _ _ => writeParts ++ [.clk]
  | .lineFrame _ _ _ _ _ _ _ _ _ => writeParts
  | .eolTimeout _ => [.reg .CAM_EOL_TMO_CNT]
  | .lineTimeout _ _ _ => writeParts ++ [.clk]
  | .cameraErrBlock _ _ _ _ => writeParts
  | .prehStart _ => eventParts ++
      [.wire, .cam, .cor, .sti, .reg .CAM_STATUS, .reg .COR_EVENT, .reg .COR_EXP_STATE, .reg .COR_FF_LAST,
       .reg .COR_FF_STATE]
  | .prehFail _ => eventParts ++
      [.wire, .cam, .cor, .reg .CAM_EVENT, .reg .CAM_PREH_FAIL_CNT, .reg .CAM_STATUS, .reg .COR_EVENT,
       .reg .COR_EXP_STATE, .reg .COR_FF_LAST, .reg .COR_FF_STATE]
  | .lineDelivery _ _ => writeParts
  | .runLabel => recordParts ++
      [.work, .pwr, .gaps, .seg, .sti, .pwrMirror, .reg .OBJ_ACC_OVF_CNT, .reg .OBJ_BUDGET_OVF_CNT,
       .reg .OBJ_CTX_STATUS, .reg .OBJ_EVENT, .reg .OBJ_HEAD_CFG, .reg .OBJ_JOIN_STATUS, .reg .OBJ_LATE_CNT,
       .reg .OBJ_OID_H, .reg .OBJ_OID_L, .reg .OBJ_OPEN_CNT, .reg .OBJ_SPILL_CNT, .reg .OBJ_TRUNC_CNT,
       .reg .OBJ_UPDATE_CNT, .reg .SEG_CLUSTER_CNT, .reg .SEG_EVENT, .reg .SEG_HEAD_CFG, .reg .SEG_LAST_OVF,
       .reg .SEG_LBL_PEAK, .reg .SEG_MERGE_CNT, .reg .SEG_OVF_CTX_CNT, .reg .SEG_OVF_ENTER_CNT,
       .reg .SEG_OVF_FIFO_CNT, .reg .SEG_OVF_LBL_CNT, .reg .SEG_OVF_LINE_CNT] ++
      [.reg .SEG_OVF_STATE]
  | .eolMarkerApply => recordParts ++
      [.work, .pwr, .gaps, .seg, .sti, .pwrMirror, .reg .OBJ_ACC_OVF_CNT, .reg .OBJ_BUDGET_OVF_CNT,
       .reg .OBJ_CTX_STATUS, .reg .OBJ_EVENT, .reg .OBJ_HEAD_CFG, .reg .OBJ_JOIN_STATUS, .reg .OBJ_LATE_CNT,
       .reg .OBJ_OID_H, .reg .OBJ_OID_L, .reg .OBJ_OPEN_CNT, .reg .OBJ_SPILL_CNT, .reg .OBJ_TRUNC_CNT,
       .reg .OBJ_UPDATE_CNT, .reg .SEG_CLUSTER_CNT, .reg .SEG_EVENT, .reg .SEG_HEAD_CFG, .reg .SEG_LAST_OVF,
       .reg .SEG_LBL_PEAK, .reg .SEG_MERGE_CNT, .reg .SEG_OVF_CTX_CNT, .reg .SEG_OVF_ENTER_CNT,
       .reg .SEG_OVF_FIFO_CNT, .reg .SEG_OVF_LBL_CNT, .reg .SEG_OVF_LINE_CNT] ++
      [.reg .SEG_OVF_STATE]
  | .closingEvaluation => recordParts ++
      [.tables, .seg, .reg .OBJ_CLASS_CNT, .reg .OBJ_CLOSE_CNT, .reg .OBJ_EVENT, .reg .OBJ_LAST_REP,
       .reg .OBJ_MARK_DROP_CNT, .reg .OBJ_REPEAT_CNT, .reg .OBJ_SMALL_CNT, .reg .OBJ_SNIP_DROP_CNT, .reg .STI_EVENT,
       .reg .STI_MERGE_CNT, .reg .STI_MLIMIT_CNT]
  | .componentRelease => recordParts ++
      [.seg, .sti, .reg .OBJ_ACC_OVF_CNT, .reg .OBJ_CLASS_CNT, .reg .OBJ_CLOSE_CNT, .reg .OBJ_EVENT,
       .reg .OBJ_MARK_DROP_CNT, .reg .OBJ_SMALL_CNT, .reg .OBJ_SNIP_DROP_CNT, .reg .STI_EVENT, .reg .STI_UNMERGED_CNT]
  | .stripBoundary _ _ _ => writeParts
  | .exposureLoopRun _ => eventParts ++
      [.wire, .cam, .cor, .reg .COR_EVENT, .reg .COR_EXP_CHANGE_CNT, .reg .COR_EXP_LIMIT_CNT, .reg .COR_EXP_STATE]
  | .ffRunComplete _ => eventParts ++
      [.wire, .tables, .glb, .pwr, .cam, .cor, .reg .COR_EVENT, .reg .COR_EXP_STATE, .reg .COR_FF_ACCEPT_CNT,
       .reg .COR_FF_FAIL_CNT, .reg .COR_FF_LAST, .reg .COR_FF_REJ_CNT, .reg .COR_FF_STATE, .reg .COR_OFS_OLD]
  | .ffTableWriteDone _ => [.tables, .cor, .reg .COR_FF_STATE]
  | .ffRetryExpiry _ => [.cor]
  | .seamEstimateDone _ => recordParts ++
      [.glb, .cam, .seg, .sti, .reg .OBJ_ACC_OVF_CNT, .reg .OBJ_CLASS_CNT, .reg .OBJ_CLOSE_CNT, .reg .OBJ_EVENT,
       .reg .OBJ_MARK_DROP_CNT, .reg .OBJ_SMALL_CNT, .reg .OBJ_SNIP_DROP_CNT, .reg .SEAM_EST, .reg .SEAM_EST2,
       .reg .SEAM_OFS, .reg .SEAM_SCALE, .reg .SEAM_STATUS, .reg .SEAM_YOFS, .reg .STI_ACC_CNT,
       .reg .STI_DISAGREE_CNT, .reg .STI_EVENT, .reg .STI_STATE0, .reg .STI_STATE1, .reg .STI_UNMERGED_CNT,
       .reg .STI_UNUSABLE_CNT]
  | .xdevStreamTimeout _ => recordParts ++
      [.clk, .pmc, .tim, .seg, .sti, .reg .OBJ_ACC_OVF_CNT, .reg .OBJ_CLASS_CNT, .reg .OBJ_CLOSE_CNT, .reg .OBJ_EVENT,
       .reg .OBJ_MARK_DROP_CNT, .reg .OBJ_SMALL_CNT, .reg .OBJ_SNIP_DROP_CNT, .reg .SEAM_STATUS, .reg .STI_EVENT,
       .reg .STI_STATE0, .reg .STI_STATE1, .reg .STI_UNMERGED_CNT, .reg .TIM_EVENT]
  | .markRequest => recordParts ++
      [.wire, .seg, .mrk, .reg .MRK_EVENT, .reg .MRK_NOTPL_CNT, .reg .MRK_PLACED_CNT, .reg .MRK_PSTAT,
       .reg .MRK_REQ_CNT, .reg .MRK_SCHED]
  | .markCompare _ _ => recordParts ++
      [.clk, .free, .wire, .pmc, .tim, .mrk, .reg .MRK_EVENT, .reg .MRK_NOTPL_CNT, .reg .MRK_PLACED_CNT,
       .reg .MRK_PSTAT, .reg .MRK_SCHED, .reg .MRK_SPLIT_CNT, .reg .MRK_STRETCH_CNT, .reg .MRK_SUPP_LINE_CNT,
       .reg .TIM_EVENT]
  | .burstLineStart _ _ => recordParts ++
      [.clk, .wire, .pmc, .tim, .mrk, .reg .MRK_EVENT, .reg .MRK_NOTPL_CNT, .reg .MRK_PLACED_CNT, .reg .MRK_PSTAT,
       .reg .MRK_SCHED, .reg .MRK_SPLIT_CNT, .reg .MRK_SUPP_LINE_CNT, .reg .TIM_EVENT]
  | .latchFall _ _ => eventParts ++ [.clk, .wire, .pmc, .tim, .mrk, .reg .TIM_EVENT]
  | .strobeFall _ _ => eventParts ++ [.clk, .wire, .pmc, .tim, .mrk, .reg .TIM_EVENT]
  | .strobeWatchdog _ _ => recordParts ++
      [.clk, .wire, .pmc, .pwr, .tim, .mrk, .pwrMirror, .reg .MRK_EVENT, .reg .MRK_NOTPL_CNT, .reg .MRK_PLACED_CNT,
       .reg .MRK_PSTAT, .reg .MRK_SCHED, .reg .MRK_WD_CNT, .reg .PWR_CB_STATUS, .reg .TIM_EVENT]
  | .statMeasurement _ _ _ _ => eventParts ++
      [.clk, .wire, .pmc, .tim, .mrk, .reg .MRK_EVENT, .reg .MRK_PSTAT, .reg .MRK_STAT_ERR_CNT, .reg .TIM_EVENT]
  | .statTimeout _ _ => recordParts ++
      [.clk, .wire, .pmc, .pwr, .tim, .mrk, .pwrMirror, .reg .MRK_EVENT, .reg .MRK_NOTPL_CNT, .reg .MRK_PLACED_CNT,
       .reg .MRK_PSTAT, .reg .MRK_SCHED, .reg .PWR_CB_STATUS, .reg .TIM_EVENT]
  | .statRecovery _ _ => eventParts ++ [.clk, .pmc, .tim, .reg .MRK_PSTAT, .reg .TIM_EVENT]
  | .markRestart _ => [.reg .MRK_PSTAT]
  | .archiveRowComplete _ => writeParts
  | .blockWriteError => writeParts
  | .hostJobRequest => eventParts ++
      [.free, .seqs, .hst, .fab, .arc, .reg .ARC_EVENT, .reg .ARC_LIMIT_CNT, .reg .ARC_PARTIAL_CNT,
       .reg .ARC_REFUSE_CNT, .reg .ARC_SHED_CNT, .reg .FAB_EVENT, .reg .FAB_NOROUTE_CNT]
  | .jobStart => writeParts
  | .jobWaitTimeout => writeParts
  | .jobDone => leaveHoldParts ++ [.glbPend, .arcRun, .reg .ARC_JOB_CNT, .reg .GLB_REFUSE_CNT, .reg .POS_SPEED]
  | .dmaArm _ =>
      [.dma, .reg .DMA_ACTRL, .reg .DMA_ADST_H, .reg .DMA_ADST_L, .reg .DMA_ASRC_H, .reg .DMA_ASRC_L, .reg .DMA_SCTRL,
       .reg .DMA_STATUS]
  | .dmaGrant => writeParts
  | .dmaEntryComplete => writeParts
  | .dmaBeatError => writeParts
  | .dmaTimeout => writeParts
  | .dmaListFetchFail => writeParts
  | .dmaTransferComplete => writeParts
  | .dmaErrlogPop => [.dma, .reg .DMA_ERRLOG]
  | .memBandPoll _ => eventParts ++
      [.wire, .thm, .pwr, .mem, .pwrMirror, .reg .MEM_BAND, .reg .MEM_DEBT0, .reg .MEM_DEBT1, .reg .MEM_EVENT,
       .reg .MEM_PULLIN_CNT, .reg .PWR_CB_STATUS, .reg .THM_EVENT, .reg .THM_STATUS, .reg .THM_THR_CNT]
  | .refreshTick _ => eventParts ++ [.wire, .mem, .reg .MEM_DEBT0, .reg .MEM_DEBT1]
  | .memReadComplete _ _ _ => writeParts ++ [.clk]
  | .writeCrcAlert _ => writeParts
  | .patrolScrub _ _ _ => writeParts
  | .migrationPageCopy _ => writeParts
  | .migrationFloor => [.mem]
  | .fspRequest _ => leaveHoldParts ++
      [.glbPend, .reg .GLB_REFUSE_CNT, .reg .MEM_EVENT, .reg .MEM_FSP_CTRL, .reg .MEM_FSP_REFUSE_CNT, .reg .POS_SPEED]
  | .fspChangeDone => leaveHoldParts ++
      [.glbPend, .reg .GLB_REFUSE_CNT, .reg .MEM_EVENT, .reg .MEM_FSP_CNT, .reg .POS_SPEED]
  | .trainingPeriod => [.mem, .reg .MEM_STATUS, .reg .MEM_TRN_STATUS]
  | .trainingSliceForce _ => [.wire, .mem, .reg .MEM_STATUS, .reg .MEM_TRN_STATUS]
  | .laneAcqDone _ _ _ _ => eventParts ++ [.lne, .reg .LNE_EVENT, .reg .LNE_RXEQ, .reg .LNE_STATE, .reg .LNE_TSTAT]
  | .laneLockLoss _ _ => cameraLossParts ++ labelParts ++
      [.lne, .reg .FAB_DOWN_CNT, .reg .FAB_POUT, .reg .HST_IF_STATUS, .reg .HST_STATUS, .reg .LNE_EVENT,
       .reg .LNE_LAST, .reg .LNE_LOCKLOSS_CNT, .reg .LNE_RETRAIN_CNT, .reg .LNE_STATE]
  | .refclkWindow _ _ => cameraLossParts ++ labelParts ++
      [.lne, .reg .FAB_DOWN_CNT, .reg .FAB_POUT, .reg .HST_IF_STATUS, .reg .HST_STATUS, .reg .LNE_EVENT,
       .reg .LNE_LAST, .reg .LNE_LOCKLOSS_CNT, .reg .LNE_RETRAIN_CNT, .reg .LNE_STATE, .reg .LNE_STATUS,
       .reg .LNE_TSTAT]
  | .laneRetrain _ => cameraLossParts ++ labelParts ++
      [.lne, .reg .FAB_DOWN_CNT, .reg .FAB_POUT, .reg .HST_IF_STATUS, .reg .HST_STATUS, .reg .LNE_EVENT,
       .reg .LNE_LAST, .reg .LNE_LOCKLOSS_CNT, .reg .LNE_RETRAIN_CNT, .reg .LNE_STATE]
  | .laneSlip _ => [.lne, .reg .LNE_STATE]
  | .laneDeep _ _ => cameraLossParts ++ labelParts ++
      [.lne, .reg .FAB_DOWN_CNT, .reg .FAB_POUT, .reg .HST_IF_STATUS, .reg .HST_STATUS, .reg .LNE_CTL,
       .reg .LNE_EVENT, .reg .LNE_LAST, .reg .LNE_LOCKLOSS_CNT, .reg .LNE_RETRAIN_CNT, .reg .LNE_STATE,
       .reg .LNE_TSTAT]
  | .laneTestRequest _ _ => eventParts ++ [.lne, .reg .LNE_EVENT, .reg .LNE_STATE, .reg .LNE_TEST, .reg .LNE_TSTAT]
  | .berCfgWrite _ => [.reg .LNE_BER_CFG, .reg .LNE_TSTAT]
  | .prbsCheckerLock _ => [.lne, .reg .LNE_TSTAT]
  | .prbsCheckerLoss _ _ => [.lne, .reg .LNE_PRBS_ERR, .reg .LNE_TSTAT]
  | .berWindowEnd _ _ => eventParts ++ [.reg .LNE_BER_RES, .reg .LNE_EVENT, .reg .LNE_PRBS_ERR, .reg .LNE_TSTAT]
  | .adaptationStep _ _ _ _ => eventParts ++ [.clk, .pmc, .tim, .lne, .reg .LNE_RXEQ, .reg .TIM_EVENT]
  | .keepBlockSend _ => [.wire]
  | .keepBlockRx _ _ _ => [.reg .LNE_STATE]
  | .keepaliveLost _ => eventParts ++ [.reg .LNE_EVENT, .reg .LNE_LAST, .reg .LNE_STATE]
  | .wakeBlockRx _ => eventParts ++
      [.wire, .glb, .cam, .lne, .pos, .mem, .glbTrans, .reg .CAM_STATUS, .reg .FAB_PSTAT, .reg .GLB_STATUS,
       .reg .LNE_EVENT, .reg .LNE_STATE, .reg .LNE_TSTAT, .reg .MEM_DEBT0, .reg .MEM_DEBT1, .reg .MEM_STATUS,
       .reg .POS_SPEED]
  | .fabWakePin _ => eventParts ++
      [.wire, .glb, .fab, .cam, .lne, .pos, .mem, .glbTrans, .reg .CAM_STATUS, .reg .FAB_EVENT, .reg .FAB_PSTAT,
       .reg .GLB_STATUS, .reg .LNE_STATE, .reg .LNE_TSTAT, .reg .MEM_DEBT0, .reg .MEM_DEBT1, .reg .MEM_STATUS,
       .reg .POS_SPEED]
  | .fabLinkAligned _ => [.wire, .fab, .reg .FAB_PSTAT]
  | .fabLstateRx _ _ _ => labelParts ++ [.reg .FAB_POUT]
  | .fabPacketRx _ _ _ _ => eventParts ++
      [.wire, .fab, .reg .FAB_BADPKT_CNT, .reg .FAB_CRC_CNT, .reg .FAB_EVENT, .reg .FAB_NOROUTE_CNT,
       .reg .FAB_RELAY_CNT]
  | .fabAckRx _ _ _ => labelParts ++
      [.wire, .pwr, .lne, .pwrMirror, .reg .FAB_CUE_LATE_CNT, .reg .FAB_DOWN_CNT, .reg .FAB_POUT,
       .reg .FAB_REPLAY_CNT, .reg .LNE_EVENT, .reg .LNE_LAST, .reg .LNE_LOCKLOSS_CNT, .reg .LNE_RETRAIN_CNT,
       .reg .LNE_STATE, .reg .PWR_CB_STATUS]
  | .fabCreditRx _ _ _ => [.fab]
  | .fabAckTimer _ => [.wire, .fab]
  | .fabReplayTimeout _ _ => labelParts ++
      [.clk, .wire, .pmc, .pwr, .lne, .pwrMirror, .reg .FAB_CUE_LATE_CNT, .reg .FAB_DOWN_CNT, .reg .FAB_POUT,
       .reg .FAB_REPLAY_CNT, .reg .LNE_EVENT, .reg .LNE_LAST, .reg .LNE_LOCKLOSS_CNT, .reg .LNE_RETRAIN_CNT,
       .reg .LNE_STATE, .reg .PWR_CB_STATUS, .reg .TIM_EVENT]
  | .fabRecordPacket _ => eventParts ++
      [.wire, .hst, .fab, .reg .FAB_EVENT, .reg .FAB_NOROUTE_CNT, .reg .HST_DROP_BULK_CNT, .reg .HST_DROP_CUE_CNT,
       .reg .HST_DROP_ROUTINE_CNT, .reg .HST_EVENT]
  | .fabWingPacket _ => eventParts ++
      [.wire, .fab, .sti, .mem, .memOps, .memDone, .reg .MEM_MIGR_RD_CNT, .reg .MEM_PANIC_CNT, .reg .MEM_PSTAT,
       .reg .STI_WBUF_INV_CNT]
  | .fabFrontierPacket _ => eventParts ++
      [.wire, .fab, .sti, .mem, .memOps, .memDone, .reg .MEM_MIGR_RD_CNT, .reg .MEM_PANIC_CNT, .reg .MEM_PSTAT,
       .reg .STI_WBUF_INV_CNT]
  | .fabComponentPacket _ => eventParts ++
      [.free, .wire, .fab, .seg, .sti, .reg .FAB_EVENT, .reg .FAB_NOROUTE_CNT, .reg .STI_EVENT, .reg .STI_MERGE_CNT,
       .reg .STI_MLIMIT_CNT]
  | .fabJobPacket _ => eventParts ++ [.wire, .hst, .fab, .reg .FAB_EVENT, .reg .FAB_NOROUTE_CNT]
  | .fabCackPacket _ => [.wire, .fab, .sti]
  | .cackTimeout _ _ => recordParts ++
      [.clk, .pmc, .tim, .seg, .sti, .reg .OBJ_ACC_OVF_CNT, .reg .OBJ_CLASS_CNT, .reg .OBJ_CLOSE_CNT, .reg .OBJ_EVENT,
       .reg .OBJ_MARK_DROP_CNT, .reg .OBJ_SMALL_CNT, .reg .OBJ_SNIP_DROP_CNT, .reg .STI_EVENT, .reg .STI_UNMERGED_CNT,
       .reg .TIM_EVENT]
  | .discHelloTimer => [.fab]
  | .discHello _ => [.wire, .fab, .reg .FAB_NSER_HI, .reg .FAB_NSER_LO, .reg .FAB_PSTAT]
  | .discSettled _ => labelParts ++
      [.clk, .pmc, .reg .FAB_DISC_CNT, .reg .FAB_READDR_CNT, .reg .FAB_ROOT_HI, .reg .FAB_ROOT_LO, .reg .TIM_EVENT]
  | .discReport _ => labelParts ++
      [.wire, .reg .FAB_DISC_CNT, .reg .FAB_READDR_CNT, .reg .FAB_ROOT_HI, .reg .FAB_ROOT_LO]
  | .discAssign _ => labelParts ++ [.wire, .reg .FAB_READDR_CNT, .reg .FAB_ROOT_HI, .reg .FAB_ROOT_LO]
  | .discMap _ => labelParts ++ [.wire, .reg .FAB_DISC_CNT]
  | .discLinkev _ => labelParts ++ [.wire]
  | .discoveryTimeout => labelParts ++
      [.glb, .reg .FAB_DISC_CNT, .reg .FAB_READDR_CNT, .reg .FAB_ROOT_HI, .reg .FAB_ROOT_LO]
  | .fabSyncTimer => [.wire, .fab]
  | .timeSyncRx _ _ _ => [.wire, .fab]
  | .timeDreqRx _ _ _ => [.wire]
  | .timeDrespRx _ _ _ => eventParts ++ [.tim, .reg .TIM_EVENT, .reg .TIM_MPD, .reg .TIM_REJ_CNT]
  | .hostIfUp _ => eventParts ++
      [.hst, .fab, .reg .FAB_EVENT, .reg .FAB_NOROUTE_CNT, .reg .FAB_STATUS, .reg .HST_EVENT, .reg .HST_IF_STATUS,
       .reg .HST_STATUS]
  | .hostIfDown _ _ => recordParts ++
      [.pwr, .pwrMirror, .reg .FAB_STATUS, .reg .HST_IF_STATUS, .reg .HST_STATUS, .reg .PWR_CB_STATUS]
  | .failover _ => eventParts ++
      [.clk, .pmc, .tim, .reg .HST_EVENT, .reg .HST_FAILOVER_CNT, .reg .HST_STATUS, .reg .TIM_EVENT]
  | .hostFrameStart _ => eventParts ++
      [.wire, .hst, .reg .HST_CQ_LATE_CNT, .reg .HST_CQ_TS_HI, .reg .HST_CQ_TS_LO, .reg .HST_EVENT,
       .reg .HST_TX_FRAME_CNT]
  | .frameFlush _ => [.hst]
  | .hostFrameRx _ _ _ _ =>
      [.hst, .reg .HST_FEC_CORR_CNT, .reg .HST_FEC_UNCORR_CNT, .reg .HST_MGMT_OVF_CNT, .reg .HST_RX_DROP_CNT,
       .reg .HST_RX_FRAME_CNT]
  | .arpRequest _ => [.hst, .reg .HST_ARP_CNT]
  | .icmpEchoRequest _ => [.hst, .reg .HST_ICMP_CNT, .reg .HST_RX_DROP_CNT]
  | .mgmtRead => allRegParts ++ [.free, .snaps, .tim, .hst, .seg]
  | .mgmtWrite => writeParts
  | .mgmtChallenge => [.free, .hst, .reg .HST_MGMT_REQ_CNT]
  | .mgmtOpen => [.hst]
  | .mgmtOpenVerified _ => eventParts ++
      [.hst, .reg .HST_EVENT, .reg .HST_MGMT_REQ_CNT, .reg .HST_STATUS, .reg .HST_TOKEN_FAIL_CNT]
  | .mgmtClose => [.hst, .reg .HST_MGMT_REQ_CNT, .reg .HST_STALE_CNT, .reg .HST_STATUS]
  | .mgmtMalformed => [.hst]
  | .sessionExpiry _ _ => eventParts ++ [.clk, .pmc, .tim, .hst, .reg .HST_STATUS, .reg .TIM_EVENT]
  | .nonceExpiry _ _ _ => eventParts ++ [.clk, .pmc, .tim, .hst, .reg .TIM_EVENT]
  | .ptpSync _ => [.tim]
  | .ptpFollowUp _ => eventParts ++ [.tim, .reg .TIM_EVENT, .reg .TIM_MPD, .reg .TIM_REJ_CNT]
  | .ptpDelayResp _ => eventParts ++ [.tim, .reg .TIM_EVENT, .reg .TIM_MPD, .reg .TIM_REJ_CNT]
  | .ptpPdelayReq _ => [.wire, .reg .HST_TX_FRAME_CNT]
  | .servoOffset => eventParts ++
      [.tim, .reg .TIM_ADJ_H, .reg .TIM_ADJ_L, .reg .TIM_EVENT, .reg .TIM_INTEG_H, .reg .TIM_INTEG_L,
       .reg .TIM_OFS_CNT, .reg .TIM_OFS_HI, .reg .TIM_OFS_LO, .reg .TIM_REJ_CNT, .reg .TIM_STATUS, .reg .TIM_STEP_CNT]
  | .holdoverEntry _ => eventParts ++
      [.clk, .pmc, .tim, .reg .TIM_ADJ_H, .reg .TIM_ADJ_L, .reg .TIM_EVENT, .reg .TIM_HOLD_CNT, .reg .TIM_STATUS]
  | .secondRollover => eventParts ++ [.clk, .pmc, .tim, .reg .TIM_EVENT]
  | .timeSet => eventParts ++ [.tim, .reg .TIM_EVENT, .reg .TIM_STATUS, .reg .TIM_STEP_CNT]
  | .timeNowRead _ => [.busData, .tim]
  | .cqPush _ _ => eventParts ++ [.hst, .reg .HST_CQ_REFUSE_CNT, .reg .HST_EVENT]
  | .cqEntryDue _ => eventParts ++
      [.clk, .wire, .pmc, .tim, .hst, .reg .HST_CQ_DROP_CNT, .reg .HST_CQ_LATE_CNT, .reg .HST_CQ_TS_HI,
       .reg .HST_CQ_TS_LO, .reg .HST_EVENT, .reg .HST_TX_FRAME_CNT, .reg .TIM_EVENT]
  | .evtPinEdge _ _ _ => eventParts ++ [.reg .EVT_PINSTAT]
  | .pinStuck _ _ => eventParts ++ [.clk, .pmc, .tim, .reg .EVT_EVENT, .reg .EVT_PINSTAT, .reg .TIM_EVENT]
  | .pinPulseEnd _ _ => eventParts ++ [.clk, .wire, .pmc, .tim, .reg .EVT_PINSTAT, .reg .TIM_EVENT]
  | .evtChannelDelivery _ => leaveHoldParts ++
      [.pmc, .glbPend, .reg .EVT_DROP_CNT, .reg .EVT_EVENT, .reg .EVT_LOOPED, .reg .EVT_LOOP_CNT, .reg .EVT_OVR,
       .reg .EVT_PINSTAT, .reg .EVT_TCAP0_HI, .reg .EVT_TCAP0_LO, .reg .EVT_TCAP1_HI, .reg .EVT_TCAP1_LO,
       .reg .EVT_YCAP_H, .reg .EVT_YCAP_L, .reg .GLB_REFUSE_CNT, .reg .PMC_CTRL, .reg .PMC_RES_HI, .reg .PMC_RES_LO,
       .reg .POS_SPEED, .reg .PWR_CB_STATUS]
  | .loopReenable _ => [.evt, .reg .EVT_LOOPED]
  | .softwareFire _ => leaveHoldParts ++
      [.pmc, .glbPend, .reg .EVT_EVENT, .reg .EVT_OVR, .reg .EVT_PINSTAT, .reg .EVT_TCAP0_HI, .reg .EVT_TCAP0_LO,
       .reg .EVT_TCAP1_HI, .reg .EVT_TCAP1_LO, .reg .EVT_YCAP_H, .reg .EVT_YCAP_L, .reg .GLB_REFUSE_CNT,
       .reg .PMC_CTRL, .reg .PMC_RES_HI, .reg .PMC_RES_LO, .reg .POS_SPEED]
  | .pmcWindowEnd => eventParts ++ [.clk, .pmc, .tim, .reg .PMC_RES_HI, .reg .PMC_RES_LO, .reg .TIM_EVENT]
  | .pmcCounterWrap _ => eventParts
  | .repeatClear => [.tables]
  | .attestRequest => eventParts ++ [.sec, .reg .SEC_ATT_BUSY_CNT, .reg .SEC_EVENT, .reg .SEC_STATUS]
  | .attestDone => recordParts ++ [.free, .reg .SEC_ATT_CNT, .reg .SEC_EVENT, .reg .SEC_STATUS]
  | .pairLowRead _ _ => allRegParts ++ [.free, .busData, .snaps, .tim, .seg]
  | .pairHighWrite _ _ _ => writeParts
  | .pairLowWrite _ _ _ => writeParts
  | .rcRead _ _ => allRegParts ++ [.free, .busData, .snaps, .tim, .seg]
  | .registerWrite _ _ _ => writeParts
  | .blockLock _ => [.reg .LNE_STATE]
  | .alignMissing _ => cameraLossParts ++ labelParts ++
      [.lne, .reg .FAB_DOWN_CNT, .reg .FAB_POUT, .reg .HST_IF_STATUS, .reg .HST_STATUS, .reg .LNE_EVENT,
       .reg .LNE_LAST, .reg .LNE_LOCKLOSS_CNT, .reg .LNE_RETRAIN_CNT, .reg .LNE_STATE]
  | .fabPacketStart _ => [.wire, .fab, .reg .FAB_POUT]
  | .dramCommandIssue _ _ _ => writeParts ++ [.clk]
  | .memWriteComplete _ _ => writeParts ++ [.clk, .dram]
  | .dramTrainingDone _ => eventParts ++
      [.mem, .memOps, .memDone, .reg .GLB_STATUS, .reg .MEM_EVENT, .reg .MEM_MIGR_RD_CNT, .reg .MEM_MIG_PTR_H,
       .reg .MEM_MIG_PTR_L, .reg .MEM_PANIC_CNT, .reg .MEM_PSTAT, .reg .MEM_RMAP, .reg .MEM_STATUS,
       .reg .MEM_TRN_STATUS]
  | .ptpDelayReqSend _ => [.wire, .tim, .reg .HST_TX_FRAME_CNT]
  | .cellFilterPass _ _ => eventParts ++ [.clk, .pmc, .tim, .reg .TIM_EVENT]

end Sys2Proof.Machine
end

