-- ==== Sys2Proof/Certificates/Slice0/Obligations.lean ====
section
/-! DEFINITION. Certificates/Slice0/Obligations.lean: the statements about the model that the provers are given. -/

namespace Sys2Proof.Machine

/-- A command that may change a checkpoint slot (R530 to R532). -/
def writesSlot (c : Instr) : Bool :=
  match c with
  | .checkpointTimer .. | .slotWriteDone .. | .pfailNFall .. | .powerGoodLoss .. | .vkeepBelowTrip .. | .thmFastRound ..
  | .thmSlowRound .. => true
  | _ => false

/-- A command that may change a byte of DRAM: a write that ends, and the end of LOAD, which clears the archive's index. -/
def writesDram (c : Instr) : Bool :=
  match c with
  | .memWriteComplete .. | .loadEnd => true
  | _ => false

/-- The registers whose writes start something besides what R43, R44 and R565 store (spec/03 to spec/15), EVT_LOOPED, which
clears by channel (R480), and a seam's staged values, which self-registration may take first (R172). -/
def actsOnWrite : List Reg :=
  [.GLB_CTRL, .CAM_CTRL, .OBJ_REP_CTRL, .MRK_CTRL, .MRK_PCTL, .ARC_HREQ_GO, .DMA_ERRPOP, .DMA_SCTRL, .MEM_FSP_CTRL, .LNE_CFG,
    .LNE_TXEQ, .LNE_CTL, .LNE_TEST, .LNE_BER_CFG, .HST_PCFG, .HST_CQ_PUSH, .TIM_SET_GO, .FAB_CTRL, .FAB_PORT_EN, .EVT_SWFIRE,
    .EVT_LOOPED, .PMC_CTRL, .PMC_WIN, .SEC_ATT_CTRL,
    .SEAM_OFS, .SEAM_SCALE, .SEAM_YOFS]

/-- A running transfer that issues nothing more: nothing supplied waits to be taken, and it has stopped or both of its lists and
all that they name have been issued. -/
def DmaRun.quiet (r : DmaRun) : Bool :=
  r.beats.isEmpty && (r.stop || (r.src.ended && r.dst.ended && r.src.current.isNone && r.dst.current.isNone && r.hold.isEmpty))

/-- The word that DMA_ERRLOG shows of an error. -/
def dmaLogWord (chan : Nat) (dst : Bool) (kind index : Nat) : Word :=
  BitVec.ofNat 32 (2 ^ 31 + chan * 2 ^ 27 + b2n dst * 2 ^ 26 + kind * 2 ^ 23 + index % 65536)

/-- An error has been logged, or counted when the log is full (R351). -/
def DmaLogged (s t : State) (w : Word) : Prop :=
  if s.dma.log.length < 8 then t.dma.log = s.dma.log ++ [w] ∧ t.rd .DMA_ERRLOG_OVF_CNT = s.rd .DMA_ERRLOG_OVF_CNT
  else t.dma.log = s.dma.log ∧ Counted s t .DMA_ERRLOG_OVF_CNT

end Sys2Proof.Machine

open Sys2Proof Sys2Proof.Machine

set_option linter.unusedVariables false

/-- A step with a command at the front of the queue is that command's `exec` on the state with the queue's rest. -/
def Obligations.StepRunsFrontCommand : Prop :=
  ∀ (c : Instr) (rest : List Instr) (s : State), step { s with pending := c :: rest } = exec c { s with pending := rest }

/-- The model's choice (notes/assumptions/6), not a rule of the spec: on an empty queue a step lets one TCLK cycle pass and answers the memory
accesses that have ended, and nothing else: with none ended and no mode change under way, only the clock and what it stamps
changes. -/
def Obligations.StepOnEmptyQueue : Prop :=
  (∀ s : State, s.pending = [] → ∃ t, step s = .next t ∧ s.clk < t.clk ∧ t.pending = []) ∧
  (∀ s : State, s.pending = [] → s.mem.done = [] → s.glb.trans = none → s.glb.pend = none →
    step s = .next (s.advance 1))

/-- Every command answers a next state on every state, and so does every step: no command stops the block, and none touches the
queue of the commands that wait. -/
def Obligations.EveryCommandAnswers : Prop :=
  (∀ (c : Instr) (s : State), ∃ t, exec c s = .next t ∧ t.pending = s.pending) ∧
  (∀ s : State, ∃ t, step s = .next t ∧ t.pending = s.pending.tail)

/-- The state after reset is in canonical form. -/
def Obligations.CanonicalAtReset : Prop := State.reset.canonical = true

/-- Every step, from every state whose storage is in canonical form, answers a state whose storage is in canonical form: registers, working values,
snapshots, stages, table words, DRAM bytes, fuse words and firings stay sorted by their key with nothing listed that an
unlisted key reads as, so that equal contents are equal data. -/
def Obligations.StepKeepsCanonical : Prop :=
  ∀ s t : State, s.canonical = true → step s = .next t → t.canonical = true

/-- What no step undoes: a blown fuse stays blown (R497, R498), the clock does not run back, and what has left the
device stays the beginning of what has left it. -/
def Obligations.OneWayState : Prop :=
  ∀ s t : State, s.canonical = true → step s = .next t →
    (∀ k b, s.fuseBlown k b = true → t.fuseBlown k b = true) ∧ s.clk ≤ t.clk ∧ ∃ w, t.wire = s.wire ++ w

/-- Every command, in every state whose storage is in canonical form, changes nothing but the parts that its frame names: every
other register keeps its value in every instance, every byte of DRAM and every table word outside those parts reads as before,
and the queue is left alone. -/
def Obligations.CommandFrames : Prop :=
  ∀ (c : Instr) (s t : State), s.canonical = true → exec c s = .next t → ChangesOnly (frameParts c) s t

/-- Who may write what outlives a power cycle, and DRAM: no command but ROLLBACK_FUSE_BLOWN changes a fuse word (R497, R498); none
but IDENTITY_KEY_READY changes the identity key (R499); none but the checkpoint timer, the end of a slot write, a supply
curtain and a thermal shutdown changes a slot (R530 to R532); none but a write that ends, and the end of LOAD,
changes a byte of DRAM; and none changes the strip length. -/
def Obligations.PersistentWriters : Prop :=
  ∀ (c : Instr) (s t : State), s.canonical = true → exec c s = .next t →
    (c ≠ .rollbackFuseBlown → t.sec.fuses = s.sec.fuses) ∧
    (c ≠ .identityKeyReady → t.pwr.idKey = s.pwr.idKey) ∧
    (writesSlot c = false → t.pwr.slots = s.pwr.slots) ∧
    (writesDram c = false → ∀ a, t.dramByte a = s.dramByte a) ∧
    t.stripLen = s.stripLen

/-- What RESET_N leaves once its low level is accepted (R266, R485): every register outside the keep domain and outside what shows the keep domain reads the reset value
of its map in every instance (where the spec gives none, the value of notes/assumptions/8); the keep domain's own registers
and the learned sensor offsets keep their values. -/
def Obligations.ResetValues : Prop :=
  ∀ (s : State) (x : BitVec 4), s.canonical = true → filter3of4 true x = false → Completes (.resetNAssert x) s (fun t =>
    (∀ r i, r ∉ [Reg.SEC_DARK, .THM_SHUT_CNT, .PWR_CURTAIN_CNT, .PWR_CB_STATUS, .PWR_STATUS, .PWR_SAVE_LO,
      .PWR_SAVE_HI, .THM_TS] → t.rd r i = r.resetWord i) ∧
    (∀ r ∈ [Reg.SEC_DARK, .THM_SHUT_CNT, .PWR_CURTAIN_CNT, .PWR_CB_STATUS], ∀ i, t.rd r i = s.rd r i) ∧
    ∀ i, i < 24 → t.fld F.THM_TS_LOFS i = s.fld F.THM_TS_LOFS i)

/-- Reset and reload (R485, R486, R497, R503, R529): a low level of RESET_N that its filter
accepts leaves the device unpowered in LOAD with the mirror frozen, the outputs of marking low, and DRAM, slots, identity key
and fuses as they were; an accepted high level and a reload start LOAD, which stands at step 4 when the fuse
array's CRC matches and ends in DARK with FUSE when it does not; a loss of the keep domain's supply clears the mirror, the DARK
reason and the keep-domain counters. -/
def Obligations.ResetsLeaveKeepDomain : Prop :=
  (∀ (s : State) (x : BitVec 4), s.canonical = true → filter3of4 true x = false → Completes (.resetNAssert x) s (fun t =>
    t.glb.powered = false ∧ t.mode = .load ∧ t.pwr.mirror.frozen = true ∧ t.rd .SEC_DARK = s.rd .SEC_DARK ∧
    (∀ m, m < 4 → (t.mrkPort m).latchHigh = false ∧ (t.mrkPort m).strobeHigh = false ∧
      ((s.mrkPort m).strobeHigh = true → Emission.markPin m false false ∈ t.wire.drop s.wire.length)) ∧
    ∀ p ∈ [Part.clk, .free, .dram, .stripLen, .pwrSlots, .pwrIdKey, .secFuses], p.same s t)) ∧
  (∀ (s : State) (x : BitVec 4), filter3of4 true x = true → Completes (.resetNAssert x) s (fun t => t = s)) ∧
  (∀ (s : State) (x : BitVec 4), s.glb.powered = true ∨ filter3of4 false x = false →
    Completes (.resetNRelease x) s (fun t => t = s)) ∧
  (∀ (s : State) (x : BitVec 4), s.canonical = true → s.glb.powered = false → filter3of4 false x = true →
    Completes (.resetNRelease x) s (fun t =>
    t.glb.powered = true ∧ (if s.fuseGood then t.mode = .load ∧ t.fld F.GLB_LOAD_STATUS_STEP = 4
      else t.mode = .dark ∧ t.fld F.SEC_DARK_REASON = 0xE) ∧
    ∀ p ∈ [Part.clk, .free, .stripLen, .pwrIdKey, .secFuses], p.same s t)) ∧
  (∀ s : State, s.canonical = true → s.glb.powered = true → Completes .reloadRequest s (fun t =>
    t.glb.powered = true ∧ (if s.fuseGood then t.mode = .load ∧ t.fld F.GLB_LOAD_STATUS_STEP = 4
      else t.mode = .dark ∧ t.fld F.SEC_DARK_REASON = 0xE) ∧
    ∀ p ∈ [Part.clk, .free, .stripLen, .pwrIdKey, .secFuses], p.same s t)) ∧
  (∀ s : State, s.canonical = true → ∀ c ∈ [Instr.keepDomainPowerLoss, .keepDomainPowerOn], Completes c s (fun t =>
    t.pwr.mvalid = false ∧ t.pwr.mirror = Book.blank ∧ t.pwr.write = none ∧ t.fld F.SEC_DARK_REASON = 0 ∧
    t.rd .PWR_CB_STATUS = 0 ∧ t.rd .THM_SHUT_CNT = 0 ∧ t.rd .PWR_CURTAIN_CNT = 0 ∧
    (∀ i, i < 24 → t.fld F.THM_TS_LOFS i = 0)))

/-- R47: a read of a pair's low register returns it and, in the same step, leaves the upper bits in the requester's own
snapshot, and clears all 40 bits where the pair is RC; a read of the high register returns that snapshot and changes nothing
else; and after reset every snapshot is 0. -/
def Obligations.PairReads : Prop :=
  (∀ (s : State) (q : Requester) (addr : Word) (lo hi : Reg) (i : Nat), s.canonical = true → addr.toNat < 0x1000000 →
    regAt addr.toNat = some (lo, i) → lo.pairRole = .low hi → Completes (.pairLowRead q addr) s (fun t =>
      t.busData = s.look lo i ∧ spGet 0 t.snaps (pairKey q lo i) = s.look hi i ∧
      (∀ k, k ≠ pairKey q lo i → spGet 0 t.snaps k = spGet 0 s.snaps k) ∧
      t.rd lo i = s.rd lo i &&& ~~~(fieldMask lo.info.fields (fun ty => ty == .RC)) ∧
      t.rd hi i = s.rd hi i &&& ~~~(fieldMask hi.info.fields (fun ty => ty == .RC)))) ∧
  (∀ (s : State) (q : Requester) (addr : Word) (lo hi : Reg) (i : Nat), addr.toNat < 0x1000000 →
    regAt addr.toNat = some (hi, i) → hi.pairRole = .high lo → Completes (.rcRead q addr) s (fun t =>
      t = { s with busData := spGet 0 s.snaps (pairKey q lo i) })) ∧
  (∀ k, spGet 0 State.reset.snaps k = 0)

/-- R48: a write of a pair's high register stages its upper bits for its requester and changes nothing else; a write of the low
register commits the word written together with the staged upper bits in one step, after which the stage holds the committed
upper bits, so that a further write of the low register alone leaves them as they are. For pairs that take writes in the
present mode (R51, R565). -/
def Obligations.PairWrites : Prop :=
  (∀ (s : State) (q : Requester) (addr v : Word) (lo hi : Reg) (i : Nat), s.canonical = true → addr.toNat < 0x1000000 →
    regAt addr.toNat = some (hi, i) → hi.pairRole = .high lo →
    hi.info.fields.any (fun f => f.ty.takes (s.lockedReg hi)) = true →
    writeCounts hi.info.fields (s.lockedReg hi) (s.rd hi i) v = false → Completes (.pairHighWrite q addr v) s (fun t =>
      t.stagedHigh q lo hi i = v &&& fieldMask hi.info.fields (fun _ => true) ∧
      (∀ k, k ≠ pairKey q lo i → spGet 0 t.stages k = spGet 0 s.stages k) ∧ ChangesOnly [.stages] s t)) ∧
  (∀ (s : State) (q : Requester) (addr v : Word) (lo hi : Reg) (i : Nat), s.canonical = true → addr.toNat < 0x1000000 →
    regAt addr.toNat = some (lo, i) → lo.pairRole = .low hi →
    lo.info.fields.any (fun f => f.ty.takes (s.lockedReg lo)) = true →
    writeCounts lo.info.fields (s.lockedReg lo) (s.rd lo i) v = false → Completes (.pairLowWrite q addr v) s (fun t =>
      t.rd lo i = v ∧ t.rd hi i = s.stagedHigh q lo hi i ∧ t.stagedHigh q lo hi i = t.rd hi i ∧
      (∀ r j, (r, j) ≠ (lo, i) → (r, j) ≠ (hi, i) → t.rd r j = s.rd r j) ∧
      ChangesOnly [.stages, .reg lo, .reg hi] s t)) ∧
  (∀ (s t u : State) (q : Requester) (addr v w : Word) (lo hi : Reg) (i : Nat), s.canonical = true →
    addr.toNat < 0x1000000 → regAt addr.toNat = some (lo, i) → lo.pairRole = .low hi →
    lo.info.fields.any (fun f => f.ty.takes (s.lockedReg lo)) = true →
    writeCounts lo.info.fields (s.lockedReg lo) (s.rd lo i) v = false →
    exec (.pairLowWrite q addr v) s = .next t → exec (.pairLowWrite q addr w) t = .next u → u.rd hi i = t.rd hi i)

/-- Reads on the register bus of registers that are no half of a pair (R42, R43): such a read returns the register's value and
clears its RC fields, and a read of an unmapped address returns 0 and is counted. The registers whose reads do more
(TIM_NOW0, TIM_EVENT, OBJ_CTX_STATUS) are not part of this statement. -/
def Obligations.RegisterReads : Prop :=
  (∀ (s : State) (q : Requester) (addr : Word) (r : Reg) (i : Nat), s.canonical = true → addr.toNat < 0x1000000 →
    regAt addr.toNat = some (r, i) → r.pairRole = .none → r ∉ [Reg.TIM_NOW0, .TIM_EVENT, .OBJ_CTX_STATUS] →
    Completes (.rcRead q addr) s (fun t => t.busData = s.look r i ∧
      t.rd r i = s.rd r i &&& ~~~(fieldMask r.info.fields (fun ty => ty == .RC)) ∧
      (∀ r' j, (r', j) ≠ (r, i) → t.rd r' j = s.rd r' j) ∧ t.snaps = s.snaps ∧ t.stages = s.stages)) ∧
  (∀ (s : State) (q : Requester) (addr : Word), s.canonical = true → addr.toNat < 0x1000000 → regAt addr.toNat = none →
    Completes (.rcRead q addr) s (fun t => t.busData = 0 ∧ Counted s t .GLB_ACC_ERR_CNT ∧
      ChangesOnly [.busData, .reg .GLB_ACC_ERR_CNT] s t))

/-- Writes on the register bus of registers that are no half of a pair, and of table windows (R42, R43, R44, R51, R565): a write
of a register sets its RW fields and clears the W1C fields written 1 and nothing else, a write of an unmapped address or a
protected table is ignored and counted, and a table word takes the bits that its entry holds. A write of
a seam's staged value is remembered for the prompt book, and is lost to self-registration in the same cycle (R171, R172).
`actsOnWrite` names the
registers whose writes start something besides. -/
def Obligations.RegisterWrites : Prop :=
  (∀ (s : State) (q : Requester) (addr v : Word) (r : Reg) (i : Nat), s.canonical = true → addr.toNat < 0x1000000 →
    regAt addr.toNat = some (r, i) → r.pairRole = .none → r ∉ actsOnWrite →
    writeCounts r.info.fields (s.lockedReg r) (s.rd r i) v = false → Completes (.registerWrite q addr v) s (fun t =>
      t.rd r i = writeWord r.info.fields (s.lockedReg r) (s.rd r i) v ∧ ChangesOnly [.reg r] s t ∧
      (∀ j, j ≠ i → t.rd r j = s.rd r j))) ∧
  (∀ (s : State) (q : Requester) (addr v : Word) (r : Reg) (i : Nat), s.canonical = true → addr.toNat < 0x1000000 →
    regAt addr.toNat = some (r, i) → r = .SEAM_OFS ∨ r = .SEAM_SCALE ∨ r = .SEAM_YOFS →
    Completes (.registerWrite q addr v) s (fun t =>
      if (s.seam i).selfAt = some s.clk then t = s
      else t.rd r i = writeWord r.info.fields false (s.rd r i) v ∧ ChangesOnly [.reg r, .sti] s t ∧
        (i < s.sti.seams.length → (t.seam i).byWrite = true))) ∧
  (∀ (s : State) (q : Requester) (addr v : Word), s.canonical = true →
    (if addr.toNat < 0x1000000 then regAt addr.toNat = none else winAt addr.toNat = none) →
    Completes (.registerWrite q addr v) s (fun t => Counted s t .GLB_ACC_ERR_CNT ∧
      ChangesOnly [.reg .GLB_ACC_ERR_CNT] s t)) ∧
  (∀ (s : State) (q : Requester) (addr v : Word) (w : Win), s.canonical = true → 0x1000000 ≤ addr.toNat →
    winAt addr.toNat = some w → Completes (.registerWrite q addr v) s (fun t =>
      if s.winWritable q w then t.tab addr.toNat = v &&& winMask w addr.toNat ∧ (∀ a, a ≠ addr.toNat → t.tab a = s.tab a) ∧
        ChangesOnly [.tables] s t
      else Counted s t .GLB_ACC_ERR_CNT ∧ ChangesOnly [.reg .GLB_ACC_ERR_CNT] s t)) ∧
  (∀ s : State, s.canonical = true → Completes .repeatClear s (fun t => ChangesOnly [.tables] s t ∧
    (∀ a, 0x11000000 ≤ a → a < 0x110E0000 → t.tab a = tabDefault a) ∧
    (∀ a, ¬(0x11000000 ≤ a ∧ a < 0x110E0000) → t.tab a = s.tab a)))

/-- Requests for a mode (R503, R504, R505): a HOLD request while inspecting begins the drain, a RESUME request in HOLD enters REHEARSE
when a rehearsal is owed or VERIFY stands and PERFORM otherwise, a STANDBY request in HOLD with nothing to wait for enters
STANDBY, a rehearsal is owed on request; a request during a transition is held, and one that the mode does not list is refused
and counted. -/
def Obligations.ModeRequestsStart : Prop :=
  (∀ s : State, s.canonical = true → s.glb.trans = none → s.inspecting = true →
    Completes .holdRequest s (fun t => t.glb.trans = some (.toHold true) ∧ t.fld F.GLB_STATUS_TRANSITION = 1 ∧
      ChangesOnly [.glb, .glbTrans, .reg .GLB_STATUS] s t)) ∧
  (∀ s : State, s.canonical = true → s.glb.trans = none → s.mode = .hold → s.mem.change = none →
    s.fld F.MEM_STATUS_FSP = 0 → Completes .resumeRequest s (fun t => t.glb.trans = none ∧
      t.mode = (if s.bit F.GLB_STATUS_REH_OWED || s.bit F.GLB_STATUS_VERIFY then .rehearse else .perform))) ∧
  (∀ s : State, s.canonical = true → s.glb.trans = none → s.mode = .hold → s.mem.change = none →
    s.fld F.MEM_STATUS_FSP = 0 → s.arc.run = none → s.dma.run = none → s.mem.ops = [] →
    Completes .standbyRequest s (fun t => t.mode = .standby)) ∧
  (∀ s : State, s.canonical = true → Completes .rehearsalOwedRequest s (fun t => t.fld F.GLB_STATUS_REH_OWED = 1 ∧
    ChangesOnly [.reg .GLB_STATUS] s t)) ∧
  (∀ s : State, s.canonical = true → s.glb.trans ≠ none → s.glb.pend = none → Completes .standbyRequest s (fun t =>
    t.glb.pend = some .standby ∧ t.fld F.GLB_STATUS_PENDING = 1 ∧ ChangesOnly [.glb, .glbPend, .reg .GLB_STATUS] s t)) ∧
  (∀ s : State, s.canonical = true → s.glb.trans = none → s.mode = .standby →
    ∀ c ∈ [Instr.holdRequest, .resumeRequest, .standbyRequest], Completes c s (fun t => t.mode = .standby ∧
      Counted s t .GLB_REFUSE_CNT ∧ t.fld F.GLB_EVENT_REFUSED = 1 ∧
      ChangesOnly (eventParts ++ [.reg .GLB_REFUSE_CNT, .reg .GLB_EVENT]) s t))

/-- What ends a transition of mode and what starts one by itself (R503, R504, R505, R507, R508). HOLD is entered with its
counter and HELD_BY_REQ; a request held meanwhile is not part of this statement. -/
def Obligations.ModeTransitionsEnd : Prop :=
  (∀ (s : State) (byReq : Bool), s.canonical = true → s.glb.trans = some (.toHold byReq) → s.glb.pend = none →
    s.drained = true → Completes .holdDrainDone s (fun t => t.mode = .hold ∧ t.glb.trans = none ∧
      t.fld F.GLB_STATUS_TRANSITION = 0 ∧ t.bit F.GLB_STATUS_HELD_BY_REQ = byReq ∧ Counted s t .GLB_HOLD_CNT)) ∧
  (∀ s : State, s.canonical = true → s.glb.trans = some .wakeUp → s.glb.pend = none →
    Completes .wakeHoldEntry s (fun t => t.mode = .hold ∧ t.glb.trans = none ∧ t.fld F.GLB_STATUS_TRANSITION = 0 ∧
      t.fld F.GLB_STATUS_HELD_BY_REQ = 0 ∧ t.fld F.GLB_STATUS_VERIFY = s.fld F.GLB_STATUS_VERIFY ∧
      Counted s t .GLB_HOLD_CNT)) ∧
  (∀ (s : State) (src : WakeSource), s.canonical = true → s.mode = .standby → s.glb.trans = none →
    s.wakeEnabled src = true → Completes (.standbyWake src) s (fun t => t.glb.trans = some .wakeUp ∧ t.mode = .standby ∧
      t.fld F.GLB_STATUS_VERIFY = 1 ∧ t.fld F.GLB_STATUS_VFAIL_REG = 0 ∧ t.fld F.GLB_STATUS_VFAIL_POS = 0 ∧
      t.fld F.GLB_STATUS_VFAIL_TIME = 0)) ∧
  (∀ (s : State) (x : BitVec 4), s.canonical = true → s.mode = .standby → s.glb.trans = none →
    s.wakeEnabled .pin = true → s.fab.wake = false → filter3of4 false x = true →
    Completes (.fabWakePin x) s (fun t => t.fld F.FAB_EVENT_WAKE_PIN = 1 ∧ t.glb.trans = some .wakeUp ∧
      t.fld F.GLB_STATUS_VERIFY = 1)) ∧
  (∀ (s : State) (x : BitVec 4), s.fab.wake = true ∨ filter3of4 false x = false →
    Completes (.fabWakePin x) s (fun t => t.fab.wake = filter3of4 s.fab.wake x ∧ ChangesOnly [.fab] s t)) ∧
  (∀ s : State, s.canonical = true → s.mode = .hold → s.glb.trans = none → s.mem.change = none →
    s.fld F.MEM_STATUS_FSP = 0 → s.runSpeed = true → s.bit F.GLB_RUN_CFG_AUTO_RESUME = true →
    s.bit F.GLB_STATUS_HELD_BY_REQ = false → Completes .autoResume s (fun t => t.glb.trans = none ∧
      t.mode = (if s.bit F.GLB_STATUS_REH_OWED || s.bit F.GLB_STATUS_VERIFY then .rehearse else .perform))) ∧
  (∀ (s u : State) (dt : Nat), s.canonical = true → u = s.advance dt → u.mode = .hold → u.glb.trans = none →
    u.mem.change = none → u.fld F.MEM_STATUS_FSP = 0 → u.arc.run = none → u.dma.run = none → u.mem.ops = [] →
    u.fld F.GLB_WAKE_CFG_STBY_AFTER ≠ 0 → 1000000000 * u.fld F.GLB_WAKE_CFG_STBY_AFTER ≤ u.clk - u.glb.modeAt →
    Completes (.standbyAfterExpiry dt) s (fun t => t.mode = .standby)) ∧
  (∀ (s u : State) (dt : Nat), s.canonical = true → u = s.advance dt → u.mode = .hold → u.glb.trans = none →
    u.fld F.GLB_WAKE_CFG_STBY_AFTER = 0 ∨ u.clk - u.glb.modeAt < 1000000000 * u.fld F.GLB_WAKE_CFG_STBY_AFTER →
    Completes (.standbyAfterExpiry dt) s (fun t => t = u))

/-- The ends of a rehearsal and of the return checks, at a strip boundary (R506, R509): a full rehearsal ends once the minimum
number of strips has passed and every head and seam is accepted, or at the
maximum, where an acceptance still wins (R55); the return checks end when none is open,
or at their timeout with each open check failed. All four end into PERFORM. -/
def Obligations.RehearsalsEnd : Prop :=
  (∀ s : State, s.canonical = true → s.atRehBoundary = true → s.bit F.GLB_STATUS_VERIFY = false →
    s.minStrips ≤ s.stripsPassed → s.rehAccepted = true → Completes .rehearsalEnd s (fun t => t.mode = .perform ∧
      t.fld F.GLB_STATUS_REH_OWED = 0 ∧ t.fld F.GLB_EVENT_REH_DONE = 1 ∧ t.glb.performFrom = s.pos.nextLine - 1 ∧
      t.pwr.groups.length = s.pwr.groups.length + 1)) ∧
  (∀ s : State, s.canonical = true → s.atRehBoundary = true → s.bit F.GLB_STATUS_VERIFY = false →
    s.maxStrips ≤ s.stripsPassed → Completes .rehearsalTimeout s (fun t => t.mode = .perform ∧
      t.fld F.GLB_STATUS_REH_OWED = 0 ∧ t.fld F.GLB_EVENT_REH_DONE = 1 ∧
      t.fld F.GLB_EVENT_REH_TIMEOUT = (if s.rehAccepted then s.fld F.GLB_EVENT_REH_TIMEOUT else 1) ∧
      t.glb.performFrom = s.pos.nextLine - 1)) ∧
  (∀ s : State, s.canonical = true → s.atRehBoundary = true → s.bit F.GLB_STATUS_VERIFY = true → 1 ≤ s.stripsPassed →
    s.openChecks = (false, false, false) → Completes .verifyEnd s (fun t => t.mode = .perform ∧
      t.fld F.GLB_STATUS_VERIFY = 0 ∧ t.fld F.GLB_EVENT_VERIFY_DONE = 1 ∧ t.glb.performFrom = s.pos.nextLine - 1 ∧
      t.fld F.GLB_STATUS_VFAIL_REG = s.fld F.GLB_STATUS_VFAIL_REG ∧
      t.fld F.GLB_STATUS_VFAIL_POS = s.fld F.GLB_STATUS_VFAIL_POS ∧
      t.fld F.GLB_STATUS_VFAIL_TIME = s.fld F.GLB_STATUS_VFAIL_TIME)) ∧
  (∀ s : State, s.canonical = true → s.atRehBoundary = true → s.bit F.GLB_STATUS_VERIFY = true →
    atLeast1 (s.fld F.GLB_VERIFY_CFG_TMO) ≤ s.stripsPassed → Completes .verifyTimeout s (fun t => t.mode = .perform ∧
      t.fld F.GLB_STATUS_VERIFY = 0 ∧ t.fld F.GLB_EVENT_VERIFY_DONE = 1 ∧
      t.fld F.GLB_STATUS_VFAIL_REG = (if s.openChecks.1 then 1 else s.fld F.GLB_STATUS_VFAIL_REG) ∧
      t.fld F.GLB_STATUS_VFAIL_POS = (if s.openChecks.2.1 then 1 else s.fld F.GLB_STATUS_VFAIL_POS) ∧
      t.fld F.GLB_STATUS_VFAIL_TIME = (if s.openChecks.2.2 then 1 else s.fld F.GLB_STATUS_VFAIL_TIME)))

/-- The reading of an image (R488 to R493): pass 1 takes a slot that passes every check and goes on to step 5, with the image's
rollback count and version and the working image in SEC; a slot that fails a check is counted and recorded with its reason,
slot 0 giving way to slot 1 and slot 1 to DARK with its own reason, or with slot 0's where slot 1 is blank; a flash that does
not answer fails as a blank slot; pass 2 takes a section whose hash matches its digest and ends in DARK with CHANGED at the
first that does not; the last section restores and thaws the prompt book, releases the resets of the DRAM and starts the training of step 7 (R558). -/
def Obligations.ImageLoading : Prop :=
  (∀ (s : State) (img : ImageRead), s.canonical = true → s.inPass1 = true → s.pass1Reason img = none →
    Completes (.imagePass1Done img) s (fun t => t.fld F.GLB_LOAD_STATUS_STEP = 5 ∧
      t.fld F.GLB_LOAD_STATUS_SLOT = s.sec.slot % 2 ∧ t.fld F.SEC_ROLLBACK_IMG = imgRollback img ∧
      (t.rd .GLB_IMG_VER).toNat = bitsOf (playWord img 2) 32 32 ∧ t.fld F.SEC_STATUS_KEY_OK = 1 ∧
      t.bit F.SEC_STATUS_CUE_OK = bitAt (playWord img 1) 1 ∧
      t.fld F.SEC_STATUS_ID_READY = (if s.pwr.idKey.isSome then 1 else s.fld F.SEC_STATUS_ID_READY) ∧
      t.sec = { s.sec with img := some img, nextSec := 0, imgDigest := img.signedHash } ∧
      ChangesOnly [.sec, .reg .GLB_LOAD_STATUS, .reg .SEC_ROLLBACK, .reg .GLB_IMG_VER, .reg .SEC_STATUS] s t)) ∧
  (∀ (s : State) (img : ImageRead) (r : Nat), s.canonical = true → s.inPass1 = true → s.pass1Reason img = some r →
    s.sec.slot = 0 → Completes (.imagePass1Done img) s (fun t => t.mode = .load ∧
      t.sec = { s.sec with slot := 1, slot0Blank := imgBlank img, fail0 := r } ∧
      t.fld F.GLB_LOAD_STATUS_STEP = 4 ∧ t.fld F.GLB_LOAD_STATUS_FAIL0 = r ∧ t.fld F.GLB_LOAD_STATUS_SLOT0_BAD = 1 ∧
      Counted s t .SEC_SIGFAIL_CNT ∧ t.fld F.SEC_EVENT_SLOT_FAIL = 1 ∧
      t.fld F.SEC_STATUS_KEY_OK = b2n (s.keyFits img))) ∧
  (∀ (s : State) (img : ImageRead) (r : Nat), s.canonical = true → s.inPass1 = true → s.pass1Reason img = some r →
    s.sec.slot ≠ 0 → s.sec.fail0 < 16 → Completes (.imagePass1Done img) s (fun t => t.mode = .dark ∧
      t.fld F.SEC_DARK_REASON = (if imgBlank img then s.sec.fail0 else r))) ∧
  (∀ s : State, s.canonical = true → s.inPass1 = true → s.sec.slot = 0 → Completes .flashNoAnswer s (fun t =>
      t.mode = .load ∧ t.sec = { s.sec with slot := 1, slot0Blank := true, fail0 := 0xF } ∧
      t.fld F.GLB_LOAD_STATUS_FAIL0 = 0xF ∧ Counted s t .SEC_SIGFAIL_CNT)) ∧
  (∀ s : State, s.canonical = true → s.inPass1 = true → s.sec.slot ≠ 0 → s.sec.fail0 < 16 →
    Completes .flashNoAnswer s (fun t => t.mode = .dark ∧ t.fld F.SEC_DARK_REASON = s.sec.fail0)) ∧
  (∀ s : State, s.canonical = true → s.inPass2 = true →
    Completes .flashNoAnswer s (fun t => t.mode = .dark ∧ t.fld F.SEC_DARK_REASON = 0xD)) ∧
  (∀ (s : State) (img : ImageRead) (x : Section) (hash : BitVec 512), s.canonical = true → s.inPass2 = true →
    s.sec.img = some img → img.sections[s.sec.nextSec]? = some x → hash ≠ x.digest →
    Completes (.imagePass2Section hash) s (fun t => t.mode = .dark ∧ t.fld F.SEC_DARK_REASON = 0xD)) ∧
  (∀ (s : State) (img : ImageRead) (x : Section), s.canonical = true → s.inPass2 = true → s.sec.img = some img →
    img.sections[s.sec.nextSec]? = some x → s.sec.nextSec + 1 < img.sections.length → x.kind = 4 →
    Completes (.imagePass2Section x.digest) s (fun t =>
      t.sec = { s.sec with nextSec := s.sec.nextSec + 1, opkey := some x.data } ∧ t.fld F.SEC_STATUS_OPKEY = 1 ∧
      ChangesOnly [.sec, .reg .SEC_STATUS] s t)) ∧
  (∀ (s : State) (img : ImageRead) (x : Section), s.canonical = true → s.inPass2 = true → s.sec.img = some img →
    img.sections[s.sec.nextSec]? = some x → s.sec.nextSec + 1 < img.sections.length → x.kind = 5 →
    Completes (.imagePass2Section x.digest) s (fun t =>
      t.sec = { s.sec with nextSec := s.sec.nextSec + 1, calinit := some (Calib.ofBytes x.data) } ∧
      ChangesOnly [.sec] s t)) ∧
  (∀ (s : State) (img : ImageRead) (x : Section), s.canonical = true → s.inPass2 = true → s.sec.img = some img →
    img.sections[s.sec.nextSec]? = some x → s.sec.nextSec + 1 = img.sections.length → x.kind = 4 ∨ x.kind = 5 →
    Completes (.imagePass2Section x.digest) s (fun t => t.mode = .load ∧ t.fld F.GLB_LOAD_STATUS_STEP = 7 ∧
      t.mem.resetN = true ∧ t.fld F.MEM_STATUS_TRAINING = 1 ∧ t.pwr.mvalid = true ∧ t.pwr.mirror.frozen = false ∧
      t.pwr.restored = (s.restoreSource.map (fun y => y.1.pos)).or s.pwr.restored)) ∧
  (∀ (s : State) (img : ImageRead) (hash : BitVec 512),
    (s.inPass1 = false → Completes (.imagePass1Done img) s (fun t => t = s)) ∧
    (s.inPass2 = false → Completes (.imagePass2Section hash) s (fun t => t = s)) ∧
    (s.inPass1 = false → s.inPass2 = false → Completes .flashNoAnswer s (fun t => t = s)))

/-- Steps 7 to 9 of LOAD (R372, R382, R495, R498): a training step that fails on a mapped rank is recorded and retrained
up to three times and then stalls LOAD, which a retry every second takes up again; the understudy's failure only takes it out
of service; the end of training lets the memory serve; a rollback bit is blown, the lowest unblown one, and counted; and LOAD
ends at the saved position or the image's. -/
def Obligations.LoadEnds : Prop :=
  (∀ (s : State) (fsp : Fin 2) (rank : Fin 17) (step : Fin 16), s.canonical = true → s.inStep7 = true →
    s.bit F.MEM_STATUS_TRAINING = true → s.rankFitted rank = true → 1 ≤ step.val → step.val ≤ 5 →
    fsp.val = s.fld F.MEM_TRN_STATUS_TFSP → Completes (.trainingStepFail fsp rank step) s (fun t =>
      t.fld F.MEM_TRN_STATUS_FAIL = 1 ∧ t.fld F.MEM_TRN_STATUS_FAIL_RANK = rank ∧
      t.fld F.MEM_TRN_STATUS_FAIL_STEP = step ∧ t.fld F.MEM_EVENT_TRN_FAIL = 1 ∧
      (if s.memSpare && rank.val == s.understudy then
          t.fld F.MEM_STATUS_SPARE_OK = 0 ∧ t.mem = { s.mem with spareUsed := true } ∧
            t.fld F.MEM_STATUS_TRAINING = 1 ∧ t.fld F.GLB_STATUS_LOAD_STALL = s.fld F.GLB_STATUS_LOAD_STALL
        else if s.glb.trainTries < 3 then
          t.glb = { s.glb with trainTries := s.glb.trainTries + 1 } ∧ t.fld F.MEM_TRN_STATUS_STEP = 1 ∧
            t.fld F.GLB_LOAD_STATUS_TRIES = min (s.fld F.GLB_LOAD_STATUS_TRIES + 1) 255 ∧
            t.fld F.MEM_STATUS_TRAINING = 1
        else t.fld F.GLB_STATUS_LOAD_STALL = 1 ∧ t.fld F.GLB_STATUS_STS = 5 ∧ t.fld F.MEM_STATUS_TRAINING = 0) ∧
      ChangesOnly (eventParts ++ [.mem, .glb, .reg .MEM_STATUS, .reg .MEM_TRN_STATUS, .reg .MEM_EVENT,
        .reg .GLB_STATUS, .reg .GLB_LOAD_STATUS]) s t)) ∧
  (∀ (s : State) (rank : Fin 17) (step : Fin 16), s.canonical = true → s.inStep7 = true →
    s.bit F.MEM_STATUS_TRAINING = true → s.rankFitted rank = true → 1 ≤ step.val → step.val ≤ 5 →
    s.fld F.MEM_TRN_STATUS_TFSP = 1 → (s.memSpare && rank.val == s.understudy) = false →
    Completes (.trainingStepFail 0 rank step) s (fun t => t.fld F.MEM_TRN_STATUS_TFSP = 0 ∧
      t.fld F.MEM_TRN_STATUS_TRAINED = s.fld F.MEM_TRN_STATUS_TRAINED ||| 2 ∧ t.glb.trainTries = 1)) ∧
  (∀ (s : State) (fsp : Fin 2) (rank : Fin 17) (step : Fin 16), s.inStep7 = false ∨ s.rankFitted rank = false ∨
    5 < step.val → Completes (.trainingStepFail fsp rank step) s (fun t => t = s)) ∧
  (∀ (s u : State) (dt : Nat), s.canonical = true → u = s.advance dt → u.bit F.GLB_STATUS_LOAD_STALL = true →
    u.bit F.MEM_STATUS_TRAINING = false → 1000000000 ≤ u.clk - u.glb.stallAt →
    Completes (.loadStallRetry dt) s (fun t => t.fld F.MEM_STATUS_TRAINING = 1 ∧ t.fld F.MEM_TRN_STATUS_STEP = 1 ∧
      t.fld F.GLB_LOAD_STATUS_TRIES = min (u.fld F.GLB_LOAD_STATUS_TRIES + 1) 255 ∧
      t.glb = { u.glb with stallAt := u.clk } ∧
      ChangesOnly [.glb, .reg .MEM_STATUS, .reg .MEM_TRN_STATUS, .reg .GLB_LOAD_STATUS] u t)) ∧
  (∀ (s u : State) (dt : Nat), u = s.advance dt → u.bit F.GLB_STATUS_LOAD_STALL = false ∨
    u.bit F.MEM_STATUS_TRAINING = true ∨ u.clk - u.glb.stallAt < 1000000000 →
    Completes (.loadStallRetry dt) s (fun t => t = u)) ∧
  (∀ (s : State) (spareOk : Bool), s.canonical = true → s.inStep7 = true → s.bit F.MEM_STATUS_TRAINING = true →
    s.fld F.MEM_STATUS_MIG ≠ 1 → Completes (.dramTrainingDone spareOk) s (fun t =>
      t.fld F.MEM_STATUS_TRAINING = 0 ∧ t.fld F.MEM_STATUS_READY = 1 ∧ t.fld F.MEM_STATUS_INSERV = s.serviceMask ∧
      t.bit F.MEM_STATUS_SPARE_OK = (spareOk && s.memSpare && !s.mem.spareUsed) ∧
      t.fld F.MEM_TRN_STATUS_TRAINED = (if s.bit F.MEM_FSP_CFG_FSP1_EN then 3 else 1) ∧
      t.fld F.GLB_STATUS_LOAD_STALL = 0 ∧ t.fld F.GLB_STATUS_STS = 0 ∧
      ChangesOnly [.reg .MEM_STATUS, .reg .MEM_TRN_STATUS, .reg .GLB_STATUS] s t)) ∧
  (∀ (s : State) (i : Nat), s.canonical = true → s.step7Over = true → s.burnOwed = true → i < 64 →
    (∀ j < i, s.fuseBlown (16 + j / 32) (j % 32) = true) → s.fuseBlown (16 + i / 32) (i % 32) = false →
    Completes .rollbackFuseBlown s (fun t =>
      (∀ k b, t.fuseBlown k b = (s.fuseBlown k b || (k == 16 + i / 32 && b == i % 32))) ∧
      t.rollback = s.rollback + 1 ∧ t.fld F.SEC_ROLLBACK_FUSE = s.rollback + 1 ∧ t.fld F.GLB_LOAD_STATUS_STEP = 8 ∧
      ChangesOnly [.sec, .secFuses, .reg .SEC_ROLLBACK, .reg .GLB_LOAD_STATUS] s t)) ∧
  (∀ s : State, s.step7Over = false ∨ s.burnOwed = false → Completes .rollbackFuseBlown s (fun t => t = s)) ∧
  (∀ s : State, s.canonical = true → s.step7Over = true → s.burnOwed = false → Completes .loadEnd s (fun t =>
      t.fld F.GLB_LOAD_STATUS_STEP = 0 ∧ t.fld F.GLB_EVENT_LOAD_DONE = 1 ∧ t.pwr.restored = none ∧ t.pos.zv = false ∧
      (s.runSpeed = false → Counted s t .GLB_HOLD_CNT) ∧
      (∀ b, s.pwr.restored = some b → t.pos.nextLine = b.line ∧ t.pos.c = b.c ∧ t.pos.h = b.h) ∧
      (s.pwr.restored = none →
        t.pos.nextLine = BitVec.ofNat 40 (s.getPair .POS_LINE0_L .POS_LINE0_H)))) ∧
  (∀ s : State, s.step7Over = false ∨ s.burnOwed = true → Completes .loadEnd s (fun t => t = s))

/-- R502: LOAD ends into REHEARSE when the speed is valid and at least VMIN, and otherwise into HOLD with a rehearsal owed and
HELD_BY_REQ 0. -/
def Obligations.LoadEndMode : Prop :=
  (∀ s : State, s.canonical = true → s.step7Over = true → s.burnOwed = false → s.speedValid = true →
    atLeast1 (s.fld F.GLB_RUN_CFG_VMIN) ≤ s.speed → Completes .loadEnd s (fun t => t.mode = .rehearse)) ∧
  (∀ s : State, s.canonical = true → s.step7Over = true → s.burnOwed = false →
    s.speedValid = false ∨ s.speed < atLeast1 (s.fld F.GLB_RUN_CFG_VMIN) →
    Completes .loadEnd s (fun t => t.mode = .hold ∧ t.fld F.GLB_STATUS_REH_OWED = 1 ∧
      t.fld F.GLB_STATUS_HELD_BY_REQ = 0))

/-- Identity and attestation (R499 to R501): the identity key that a LOAD owes is sealed once, with the status and the event
that tell it; a request is taken with the nonce and the identifier as they stand, held until a key is ready, and refused while
another runs; the end of signing sends three ROUTINE records consecutive in SEQ, PART 0 with the attested values, and counts
one attestation. -/
def Obligations.IdentityAndAttestation : Prop :=
  (∀ s : State, s.canonical = true → s.keyOwed = true → Completes .identityKeyReady s (fun t =>
      (∃ key, t.pwr = { s.pwr with idKey := some key } ∧ key.length = 128) ∧
      t.sec = { s.sec with attHeld := false } ∧ t.fld F.SEC_STATUS_ID_READY = 1 ∧ t.fld F.SEC_STATUS_ID_NEW = 1 ∧
      t.fld F.SEC_EVENT_ID_DONE = 1 ∧
      ChangesOnly (eventParts ++ [.free, .pwr, .pwrIdKey, .sec, .reg .SEC_STATUS, .reg .SEC_EVENT]) s t)) ∧
  (∀ s : State, s.keyOwed = false → Completes .identityKeyReady s (fun t => t = s)) ∧
  (∀ s : State, s.canonical = true → s.bit F.SEC_STATUS_ATT_BUSY = false → Completes .attestRequest s (fun t =>
      t.fld F.SEC_STATUS_ATT_BUSY = 1 ∧ t.sec = { s.sec with
        attHeld := !s.bit F.SEC_STATUS_ID_READY
        attNonce := BitVec.ofNat 64 (s.getPair .SEC_ATT_NONCE_LO .SEC_ATT_NONCE_HI)
        attAid := s.rd .SEC_ATT_ID } ∧ ChangesOnly [.sec, .reg .SEC_STATUS] s t)) ∧
  (∀ s : State, s.canonical = true → s.bit F.SEC_STATUS_ATT_BUSY = true → Completes .attestRequest s (fun t =>
      Counted s t .SEC_ATT_BUSY_CNT ∧ t.fld F.SEC_EVENT_ATT_BUSY = 1 ∧
      ChangesOnly (eventParts ++ [.reg .SEC_EVENT, .reg .SEC_ATT_BUSY_CNT]) s t)) ∧
  (∀ s : State, s.canonical = true → s.bit F.SEC_STATUS_ATT_BUSY = true → s.sec.attHeld = false →
    s.sink = 0 ∨ s.sink = s.fabAddr → s.hst.routineQ.length + 3 ≤ 7680 → s.seqs.length = 3 →
    Completes .attestDone s (fun t => t.fld F.SEC_STATUS_ATT_BUSY = 0 ∧ t.fld F.SEC_EVENT_ATT_DONE = 1 ∧
      Counted s t .SEC_ATT_CNT ∧
      ∃ a b c : Record, t.hst.routineQ = s.hst.routineQ ++ [a, b, c] ∧
        a.seq = s.seqs.getD 1 0 ∧ b.seq = s.seqs.getD 1 0 + 1 ∧ c.seq = s.seqs.getD 1 0 + 2 ∧
        (∀ r ∈ [a, b, c], r.typ = 0x60 ∧ r.cls = .routine ∧ r.words.getD 0 0 = s.tick) ∧
        (∀ r ∈ [b, c], r.words.length = 34) ∧ a.words.length = 25 ∧ a.words.drop 2 = s.attestBody ∧
        a.words.getD 1 0 = packWord [(56, 0), (48, 3), (0, s.sec.attAid.toNat)] ∧
        b.words.getD 1 0 = packWord [(56, 1), (48, 3), (0, s.sec.attAid.toNat)] ∧
        c.words.getD 1 0 = packWord [(56, 2), (48, 3), (0, s.sec.attAid.toNat)])) ∧
  (∀ s : State, s.bit F.SEC_STATUS_ATT_BUSY = false ∨ s.sec.attHeld = true →
    Completes .attestDone s (fun t => t = s))

/-- The states of a camera port and its descriptor (R73, R91, R93, R101, R104): an enabled port goes to ALIGN, a faulted one on a
retry that is counted, a lane that fails in ALIGN faults the port with class LINK, four deskewed lanes take it to DESC and ask
for the descriptor, at once when no SET block waits for a slot of the back-channel (R83), whose blocks are taken in order and
whose failures are counted, the third as a fault; temperatures go stale. -/
def Obligations.CameraPorts : Prop :=
  (∀ (s : State) (p : Fin 16), s.canonical = true → s.mode = .perform → s.pwr.curtain = false →
    s.bit F.CAM_CTRL_EN p = true → s.camSt p = 0 → Completes (.camPortEnable p) s (fun t => t.camSt p = 1 ∧
      ChangesOnly [.cam, .lne, .reg .CAM_STATUS] s t)) ∧
  (∀ (s : State) (p : Fin 16), s.bit F.CAM_CTRL_EN p = false ∨ s.camSt p ≠ 0 →
    Completes (.camPortEnable p) s (fun t => t = s)) ∧
  (∀ (s : State) (p : Fin 16), s.canonical = true → s.camSt p = 5 → s.bit F.CAM_CTRL_EN p = true → s.mode ≠ .standby →
    s.mode ≠ .dark → Completes (.camRestart p) s (fun t => t.camSt p = 1 ∧ Counted s t .CAM_RETRY_CNT p) ∧
      (s.bit F.CAM_CTRL_AUTO_RETRY p = true → Completes (.camAutoRetry p) s (fun t => t.camSt p = 1 ∧
        Counted s t .CAM_RETRY_CNT p))) ∧
  (∀ (s : State) (p : Fin 16), s.camSt p ≠ 5 → Completes (.camRestart p) s (fun t => t = s) ∧
    Completes (.camAutoRetry p) s (fun t => t = s)) ∧
  (∀ (s : State) (p : Fin 16), s.bit F.CAM_CTRL_AUTO_RETRY p = false → Completes (.camAutoRetry p) s (fun t => t = s)) ∧
  (∀ (s : State) (l : Fin 64), s.canonical = true → s.camSt (l.val / 4) = 1 → s.bit F.LNE_STATE_HDR_OK l = false →
    Completes (.alignSearchFail l) s (fun t => t.camSt (l.val / 4) = 5 ∧ t.fld F.CAM_STATUS_FCLASS (l.val / 4) = 1 ∧
      t.fld F.CAM_EVENT_LOCK_LOST (l.val / 4) = 1 ∧ t.fld F.CAM_EVENT_FAULT (l.val / 4) = 1)) ∧
  (∀ (s : State) (p : Fin 16), s.canonical = true → s.camSt p = 1 →
    (List.range 4).any (fun i => s.laneSt (4 * p.val + i) != .up) = true → Completes (.camAlignTimeout p) s (fun t =>
      t.camSt p = 5 ∧ t.fld F.CAM_STATUS_FCLASS p = 1 ∧ t.fld F.CAM_EVENT_LOCK_LOST p = 1)) ∧
  (∀ (s : State) (p : Fin 16), s.camSt p ≠ 1 → Completes (.camAlignTimeout p) s (fun t => t = s) ∧
    Completes (.camDeskewed p) s (fun t => t = s)) ∧
  (∀ (s : State) (p : Fin 16), s.canonical = true → s.camSt p = 1 → s.quadAligned (4 * p.val) = true →
    Completes (.camDeskewed p) s (fun t => t.camSt p = 2 ∧ ChangesOnly [.cam, .wire, .reg .CAM_STATUS] s t ∧
      ((s.camPort p).backQ = [] → t.wire = s.wire ++ [.camBlock p 0xAA 0]))) ∧
  (∀ (s : State) (p : Fin 16) (payload : Nat), s.camSt p = 2 → (s.camPort p).descNext < 6 →
    Completes (.descBlock p (s.camPort p).descNext payload) s (fun t =>
      t.cam = s.cam.set p { s.camPort p with
        descNext := (s.camPort p).descNext + 1
        desc := (s.camPort p).desc ++ [payload % 2 ^ 48] } ∧ ChangesOnly [.cam] s t)) ∧
  (∀ (s : State) (p : Fin 16) (idx payload : Nat), s.canonical = true → s.camSt p = 2 → (s.camPort p).descNext ≠ 0 →
    idx ≠ (s.camPort p).descNext → (s.camPort p).attempts + 1 < 3 → (s.camPort p).backQ = [] → Completes (.descBlock p idx payload) s (fun t =>
      Counted s t .CAM_DESC_ERR_CNT p ∧ t.camSt p = 2 ∧ t.wire = s.wire ++ [.camBlock p 0xAA 0])) ∧
  (∀ (s : State) (p : Fin 16), s.canonical = true → s.camSt p = 2 →
    ((s.camPort p).attempts + 1 < 3 → (s.camPort p).backQ = [] → Completes (.descriptorTimeout p) s (fun t => Counted s t .CAM_DESC_ERR_CNT p ∧
      t.camSt p = 2 ∧ t.wire = s.wire ++ [.camBlock p 0xAA 0])) ∧
    (3 ≤ (s.camPort p).attempts + 1 → Completes (.descriptorTimeout p) s (fun t => Counted s t .CAM_DESC_ERR_CNT p ∧
      t.camSt p = 5 ∧ t.fld F.CAM_STATUS_FCLASS p = 8 ∧ t.fld F.CAM_EVENT_DESC_ERR p = 1))) ∧
  (∀ (s : State) (p : Fin 16), s.camSt p ≠ 2 → Completes (.descriptorTimeout p) s (fun t => t = s)) ∧
  (∀ (s : State) (p : Fin 16), s.canonical = true → Completes (.temperatureStale p) s (fun t =>
    t.fld F.CAM_TEMP_VALID0 p = 0 ∧ t.fld F.CAM_TEMP_VALID1 p = 0 ∧ ChangesOnly [.reg .CAM_TEMP] s t ∧
    t.fld F.CAM_TEMP_TEMP0 p = s.fld F.CAM_TEMP_TEMP0 p))

/-- Cues of a camera port and the end of a frame without its EOL (R82, R83, R95, R98): the cue in front is launched as a CUE block
with the SID in force and its launch is noted; a frame whose EOL does not come is counted in RUN. The clause on launches names
states in which no access to memory waits to be answered. -/
def Obligations.CueLaunches : Prop :=
  (∀ (s u : State) (dt : Nat) (p : Fin 16) (n : LineNo) (rest : List LineNo), s.canonical = true → u = s.advance dt →
    (u.camPort p).cueQ = n :: rest → u.camSt p = 4 → u.mem.done = [] → u.glb.trans = none → u.glb.pend = none →
    Completes (.cueLaunch dt p) s (fun t =>
      t.wire = u.wire ++ [.camBlock p 0x78 (n.toNat * 2 ^ 16 + u.sidNow p * 2 ^ 8)] ∧
      t.cam = u.cam.set p { u.camPort p with
        cueQ := rest
        launches := ⟨n, u.tick, u.sidNow p, u.clk⟩ :: (u.camPort p).launches
        slotAt := u.clk
        setCue := if (u.camPort p).sids.isEmpty then none else some ((u.camPort p).setCue.getD n) })) ∧
  (∀ (s : State) (p : Fin 16), s.canonical = true → s.camSt p = 4 → Completes (.eolTimeout p) s (fun t =>
    Counted s t .CAM_EOL_TMO_CNT p ∧ ChangesOnly [.reg .CAM_EOL_TMO_CNT] s t)) ∧
  (∀ (s : State) (p : Fin 16), s.camSt p ≠ 4 → Completes (.eolTimeout p) s (fun t => t = s))

/-- Lines of a camera port (R95, R96, R99): an undamaged frame of the line that comes next is accepted and enters the FIFO, a damaged
one is counted, and a line that does not come within its time is replaced and counted. The clauses name states in which no
access to memory waits to be answered. -/
def Obligations.CameraLines : Prop :=
  (∀ (s : State) (p : Fin 16) (j : Fin 2) (mrow sid : Nat) (line : LineNo) (hdr : DWord) (data : List DWord) (bits : Nat)
      (crc : Word), s.canonical = true → s.camSt p = 4 → j.val < s.portHeads p → frameCrcOk hdr data crc = true →
    line = s.lastLine p j + 1 → (s.camHead p j).missing = [] →
    pixelCount (8 + 2 * min (s.headDepth (headOf p j)) 4) bits data = s.headPixels (headOf p j) →
    (s.camPort p).fifo.length < 8 → p.val < s.cam.length → s.mem.done = [] → s.glb.trans = none → s.glb.pend = none →
    Completes (.lineFrame p j mrow sid line hdr data bits crc) s (fun t => t.lastLine p j = line ∧
      (t.camPort p).fifo.length = (s.camPort p).fifo.length + 1 ∧ t.fld F.CAM_MALF_RUN_RUN p = 0 ∧
      t.rd .CAM_CRC_CNT p = s.rd .CAM_CRC_CNT p)) ∧
  (∀ (s : State) (p : Fin 16) (j : Fin 2) (mrow sid : Nat) (line : LineNo) (hdr : DWord) (data : List DWord) (bits : Nat)
      (crc : Word), s.canonical = true → s.camSt p = 4 → j.val < s.portHeads p → frameCrcOk hdr data crc = false →
    line ≠ s.lastLine p j + 1 → (s.camHead p j).missing = [] → s.fld F.CAM_MALF_RUN_RUN p < 15 → s.mem.done = [] →
    s.glb.trans = none → s.glb.pend = none → Completes (.lineFrame p j mrow sid line hdr data bits crc) s (fun t =>
      Counted s t .CAM_CRC_CNT p ∧ t.fld F.CAM_MALF_RUN_RUN p = s.fld F.CAM_MALF_RUN_RUN p + 1 ∧
      (t.camPort p).fifo = (s.camPort p).fifo ∧ t.lastLine p j = s.lastLine p j ∧ t.camSt p = 4)) ∧
  (∀ (s u : State) (dt : Nat) (p : Fin 16) (j : Fin 2), s.canonical = true → u = s.advance dt → u.camSt p = 4 →
    j.val < u.portHeads p → (u.camPort p).launches.any (fun l => l.line == u.lastLine p j + 1 &&
      decide (l.at_ + 100 * max (u.fld F.CAM_TIMING_LINE_TMO p) 1 < u.clk)) = true → (u.camHead p j).missing = [] →
    u.fld F.CAM_MALF_RUN_RUN p < 15 → u.mem.done = [] → u.glb.trans = none → u.glb.pend = none →
    Completes (.lineTimeout dt p j) s (fun t => Counted u t .CAM_MISSING_CNT p ∧
      t.lastLine p j = u.lastLine p j + 1 ∧ t.camSt p = 4 ∧
      t.fld F.CAM_MALF_RUN_RUN p = u.fld F.CAM_MALF_RUN_RUN p + 1))

/-- ERR blocks and the rehearsal of one port (R94, R106, R108): an ERR block is counted and logged in every state from DESC on, FAULT
with it; the rehearsal of a stale camera's port starts in PERFORM, giving up armed runs of its heads, and fails with its event
and its count. -/
def Obligations.PortRehearsals : Prop :=
  (∀ (s : State) (p : Fin 16) (j : Nat) (line : LineNo), s.canonical = true → 2 ≤ s.camSt p →
    s.mem.done = [] → s.glb.trans = none → s.glb.pend = none → Completes (.cameraErrBlock p 2 j line) s (fun t =>
      Counted s t .CAM_CAMERR_CNT p ∧ t.fld F.CAM_LAST_ERR_CODE p = 2 ∧ t.fld F.CAM_EVENT_CAM_WARN p = 1 ∧
      t.camSt p = s.camSt p)) ∧
  (∀ (s : State) (p : Fin 16) (code j : Nat) (line : LineNo), s.camSt p < 2 → s.mem.done = [] →
    s.glb.trans = none → s.glb.pend = none → Completes (.cameraErrBlock p code j line) s (fun t => t = s)) ∧
  (∀ (s : State) (p : Fin 16), s.canonical = true → s.mode = .perform → s.camSt p = 4 →
    s.bit F.CAM_STATUS_STALE p = true → s.bit F.CAM_STATUS_PREH p = false → Completes (.prehStart p) s (fun t =>
      t.fld F.CAM_STATUS_PREH p = 1 ∧ t.sti.rehearsal = s.sti.rehearsal + 1 ∧
      ∀ j < s.portHeads p, (t.corHead (headOf p j)).armed = none)) ∧
  (∀ (s : State) (p : Fin 16), s.bit F.CAM_STATUS_STALE p = false → Completes (.prehStart p) s (fun t => t = s)) ∧
  (∀ (s : State) (p : Fin 16), s.canonical = true → s.bit F.CAM_STATUS_PREH p = true → (s.camPort p).swap = 0 →
    Completes (.prehFail p) s (fun t => t.fld F.CAM_STATUS_PREH p = 0 ∧ t.fld F.CAM_EVENT_PREH_FAIL p = 1 ∧
      Counted s t .CAM_PREH_FAIL_CNT p)) ∧
  (∀ (s : State) (p : Fin 16), s.bit F.CAM_STATUS_PREH p = false ∨ (s.camPort p).swap ≠ 0 → Completes (.prehFail p) s (fun t => t = s))

/-- Lines and strip boundaries (R18, R22, R23, R172, R317): the front line of a port's FIFO goes through correction, unless the archive
has no room for it; a boundary line latches what it is to latch when its first word enters a stage. The statements name states
in which no access to memory ends at once. -/
def Obligations.LinesAndBoundaries : Prop :=
  (∀ (s : State) (p : Fin 16) (faults : List (Nat × Bool)) (j : Nat) (raw : RawLine) (rest : List (Nat × RawLine))
    (h : Nat), s.canonical = true → s.canDeliver p = true → (s.camPort p).fifo = (j, raw) :: rest → h = headOf p j →
    h < s.cor.heads.length → s.due .cor h raw.line = false → (s.deliver p faults).mem.done = [] → s.glb.trans = none →
    s.glb.pend = none → Completes (.lineDelivery p faults) s (fun t => (t.camPort p).fifo = rest ∧
      (t.corHead h).last = (s.correct h raw (s.corHead h).last (s.corHead h).writing :: (s.corHead h).last).take 3 ∧
      (t.corHead h).held = s.headColour h)) ∧
  (∀ (s : State) (p : Fin 16) (faults : List (Nat × Bool)), s.canDeliver p = false →
    Completes (.lineDelivery p faults) s (fun t => t = s)) ∧
  (∀ (s : State) (x : Stage) (h : Fin 32) (n : LineNo), s.canonical = true → s.due x h n = true →
    s.atStage x h n = true → (s.stageBoundary x h n).mem.done = [] → s.glb.trans = none → s.glb.pend = none →
    Completes (.stripBoundary x h n) s (fun t =>
      (x = .cor → t.rdWork .COR_HEAD_CFG h = s.rd .COR_HEAD_CFG h ∧ t.rdWork .COR_BAL_RG h = s.rd .COR_BAL_RG h ∧
        t.rdWork .COR_BAL_B h = s.rd .COR_BAL_B h) ∧
      (x = .seg → t.rdWork .SEG_BG_CFG h = s.rd .SEG_BG_CFG h ∧ t.rdWork .SEG_BG_LIM h = s.rd .SEG_BG_LIM h ∧
        ∀ k < 18, t.rdWork .SEG_THR (h * 18 + k) = s.rd .SEG_THR (h * 18 + k)) ∧
      (x = .arc → s.arcOn h = true → ∃ o, t.mem.ops = s.mem.ops ++ [o] ∧ o.owner = .arcIndex h ∧ o.write = true ∧
        o.addr = s.entryAddr h (s.stripLine n)))) ∧
  (∀ (s : State) (x : Stage) (h : Fin 32) (n : LineNo), s.due x h n = false ∨ s.atStage x h n = false →
    Completes (.stripBoundary x h n) s (fun t => t = s))

/-- The exposure loop (R132, R133): it waits for the echo of its SID, or commits a new exposure under the SID after its own; a clamp
that acts shows also when the exposure stays as it is; a loop that is switched off does nothing. -/
def Obligations.ExposureLoop : Prop :=
  (∀ (s : State) (p : Fin 16) (least : Nat), s.canonical = true → s.bit F.COR_EXP_CFG_EN p = true → s.portHeads p ≠ 0 →
    least = (List.range (s.portHeads p)).foldl (fun m j => min m (s.corHead (headOf p j)).closed)
      (s.corHead (headOf p 0)).closed → (s.corPort p).ran < least →
    s.echoedAll p (s.fld F.COR_EXP_STATE_SID p) = false → Completes (.exposureLoopRun p) s (fun t =>
      t.fld F.COR_EXP_STATE_WAIT p = 1 ∧ t.fld F.COR_EXP_STATE_EXPOSURE p = s.fld F.COR_EXP_STATE_EXPOSURE p ∧
      ChangesOnly [.cor, .reg .COR_EXP_STATE] s t)) ∧
  (∀ (s : State) (p : Fin 16) (least k now m : Nat) (heads : List CorHead), s.canonical = true →
    s.bit F.COR_EXP_CFG_EN p = true → s.portHeads p ≠ 0 →
    least = (List.range (s.portHeads p)).foldl (fun m j => min m (s.corHead (headOf p j)).closed)
      (s.corHead (headOf p 0)).closed → (s.corPort p).ran < least → k = s.fld F.COR_EXP_STATE_SID p →
    now = s.fld F.COR_EXP_STATE_EXPOSURE p → heads = (List.range (s.portHeads p)).map (fun j => s.corHead (headOf p j)) →
    s.echoedAll p k = true →
    (∀ c ∈ heads, s.fld F.COR_EXP_STEP_MIN_LINES p ≤ sumN ((c.spansOf k).map (fun sp => sp.lines))) →
    m = heads.foldl (fun a c => (c.spansOf k).foldl (fun b sp => max b (spanLevel (s.expPct p) sp)) a) 0 → m ≠ 0 →
    s.fld F.COR_EXP_STEP_DEADBAND p * m ≤ absN ((s.fld F.COR_EXP_CFG_TARGET p : Int) - m) * 200 →
    (s.expStep p m now).1 ≠ now → Completes (.exposureLoopRun p) s (fun t => t.fld F.COR_EXP_STATE_WAIT p = 0 ∧
      t.fld F.COR_EXP_STATE_EXPOSURE p = (s.expStep p m now).1 ∧ t.fld F.COR_EXP_STATE_SID p = nextSid k ∧
      t.fld F.COR_EXP_STATE_LIMIT p = b2n (s.expStep p m now).2 ∧ Counted s t .COR_EXP_CHANGE_CNT ∧
      ((s.expStep p m now).2 = true → Counted s t .COR_EXP_LIMIT_CNT))) ∧
  (∀ (s : State) (p : Fin 16) (least k now m : Nat) (heads : List CorHead), s.canonical = true →
    s.bit F.COR_EXP_CFG_EN p = true → s.portHeads p ≠ 0 →
    least = (List.range (s.portHeads p)).foldl (fun m j => min m (s.corHead (headOf p j)).closed)
      (s.corHead (headOf p 0)).closed → (s.corPort p).ran < least → k = s.fld F.COR_EXP_STATE_SID p →
    now = s.fld F.COR_EXP_STATE_EXPOSURE p → heads = (List.range (s.portHeads p)).map (fun j => s.corHead (headOf p j)) →
    s.echoedAll p k = true →
    (∀ c ∈ heads, s.fld F.COR_EXP_STEP_MIN_LINES p ≤ sumN ((c.spansOf k).map (fun sp => sp.lines))) →
    m = heads.foldl (fun a c => (c.spansOf k).foldl (fun b sp => max b (spanLevel (s.expPct p) sp)) a) 0 → m ≠ 0 →
    s.fld F.COR_EXP_STEP_DEADBAND p * m ≤ absN ((s.fld F.COR_EXP_CFG_TARGET p : Int) - m) * 200 →
    s.expStep p m now = (now, true) → Completes (.exposureLoopRun p) s (fun t => t.fld F.COR_EXP_STATE_WAIT p = 0 ∧
      t.fld F.COR_EXP_STATE_EXPOSURE p = now ∧ t.fld F.COR_EXP_STATE_SID p = k ∧ t.fld F.COR_EXP_STATE_LIMIT p = 1 ∧
      t.fld F.COR_EVENT_EXP_LIMIT = 1 ∧ Counted s t .COR_EXP_LIMIT_CNT ∧
      t.rd .COR_EXP_CHANGE_CNT = s.rd .COR_EXP_CHANGE_CNT)) ∧
  (∀ (s : State) (p : Fin 16), s.bit F.COR_EXP_CFG_EN p = false → Completes (.exposureLoopRun p) s (fun t => t = s))

/-- Flat-field runs (R137 to R139, R142): a run is accepted or fails by its rules, its result is written into the head's table, and the
head's wait ends when RETRY strips have passed, and not before. -/
def Obligations.FlatFieldRuns : Prop :=
  (∀ (s : State) (h : Fin 32) (r : FfRun), s.canonical = true → (s.corHead h).run = some r → r.done = true →
    s.ffDisagree h r = 0 → (r.dark = false →
      s.ffRejected h r * 1000 ≤ F.COR_FF_TOL_REJ_MAX.get r.tol * s.headPixels h) → Completes (.ffRunComplete h) s (fun t =>
      t.ffState h = 3 ∧ Counted s t .COR_FF_ACCEPT_CNT ∧ t.rd .COR_FF_FAIL_CNT = s.rd .COR_FF_FAIL_CNT ∧
      t.fld F.COR_EVENT_FF_ACCEPT = 1 ∧ t.fld F.COR_FF_LAST_HEAD = h ∧ t.fld F.COR_FF_LAST_RESULT = b2n r.dark ∧
      (r.dark = false → Counted s t .COR_FF_REJ_CNT 0 (s.ffRejected h r)))) ∧
  (∀ (s : State) (h : Fin 32) (r : FfRun), s.canonical = true → (s.corHead h).run = some r → r.done = true →
    s.ffDisagree h r ≠ 0 ∨ r.dark = false ∧ F.COR_FF_TOL_REJ_MAX.get r.tol * s.headPixels h < s.ffRejected h r * 1000 →
    Completes (.ffRunComplete h) s (fun t => t.ffState h = 0 ∧ (t.corHead h).run = none ∧ Counted s t .COR_FF_FAIL_CNT ∧
      t.rd .COR_FF_ACCEPT_CNT = s.rd .COR_FF_ACCEPT_CNT ∧ t.fld F.COR_EVENT_FF_FAIL = 1 ∧
      t.fld F.COR_FF_LAST_HEAD = h ∧ (r.trigger = .temperature → (t.corHead h).retry = some r.pause))) ∧
  (∀ (s : State) (h : Fin 32), (s.corHead h).run = none → Completes (.ffRunComplete h) s (fun t => t = s) ∧
    Completes (.ffTableWriteDone h) s (fun t => t = s)) ∧
  (∀ (s : State) (h : Fin 32) (r : FfRun), s.canonical = true → (s.corHead h).run = some r →
    (s.corHead h).writing = true → r.dark = true → Completes (.ffTableWriteDone h) s (fun t => t.ffState h = 0 ∧
      t.cor = { s.cor with heads := s.cor.heads.set h { s.corHead h with run := none, writing := false } } ∧
      (∀ c x, c < s.headPixels h → r.res.getD c none = some x → t.pixOffset h c = signedOf 16 (wrapTo 16 x) ∧
        t.pixGain h c = s.pixGain h c) ∧
      (∀ c, c < s.headPixels h → r.res.getD c none = none → t.pixOffset h c = s.pixOffset h c) ∧
      ChangesOnly [.tables, .cor, .reg .COR_FF_STATE] s t)) ∧
  (∀ (s : State) (h : Fin 32), (s.corHead h).retry ≠ some 0 → Completes (.ffRetryExpiry h) s (fun t => t = s)) ∧
  (∀ (s : State) (h : Fin 32), (s.corHead h).retry = some 0 → Completes (.ffRetryExpiry h) s (fun t =>
      (t.corHead h).retry = none ∧ (t.corHead h).armed = (if s.mode = .perform ∧ s.bit F.COR_CTRL_FF_TEMP_EN = true ∧
        s.bit F.COR_CTRL_FF_EN = true ∧ (s.corHead h).run = none ∧ s.throttled 4 = false ∧ s.tempTrigger h = true
        then some .temperature else (s.corHead h).armed) ∧ ChangesOnly [.cor] s t))

/-- Pins and the coding of blocks (R69 to R72, R83, R101, R266, R558): the descrambler gives back what the scrambler took; data
blocks are never invalid, a control block of a type that cameras send is not, and a block with sync header 00 or 11 always is;
a pin's level changes only when 3 of its 4 samples show the other level; an accepted low of RESET_N ends the reference outputs
and the back-channels and drives the resets of the DRAM low; and a write of CAM_CTRL with REFOUT_EN 0 ends the port's reference
output. -/
def Obligations.PinsAndCoding : Prop :=
  (∀ (r : BitVec 58) (bits : List Bool), descramble r (scramble r bits) = bits) ∧
  (∀ (r : BitVec 58) (bits : List Bool), (scramble r bits).length = bits.length) ∧
  (∀ w : BitVec 64, blockInvalid (syncHeader false) w = false ∧ blockInvalid 0 w = true ∧ blockInvalid 3 w = true) ∧
  (∀ typ fields : Nat, typ ∈ cameraTypes → blockInvalid (syncHeader true) (controlBlock typ fields) = false) ∧
  (∀ (held : Bool) (x : BitVec 4), filter3of4 held x ≠ held ↔ 3 ≤ countBelow 4 (fun i => x.getLsbD i != held)) ∧
  (∀ (s : State) (x : BitVec 4), s.canonical = true → filter3of4 true x = false →
    Completes (.resetNAssert x) s (fun t => t.mem.resetN = false ∧
      ∀ p, p < 16 → t.camRefOut p = false ∧ t.backNext p = none)) ∧
  (∀ (s : State) (q : Requester) (addr v : Word) (p : Nat), s.canonical = true → addr.toNat < 0x1000000 →
    regAt addr.toNat = some (.CAM_CTRL, p) → F.CAM_CTRL_REFOUT_EN.get v = 0 →
    Completes (.registerWrite q addr v) s (fun t => t.camRefOut p = false))

/-- Labelling, closings, components and seam estimates (R180, R182, R187, R188, R194, R214 to R218, R227, R240, R243): a run starts an object when it
connects with none, joins the one it connects with, and merges two; a head in overflow aggregates it; the end-of-line marker retires old labels and moves the
frontier; the closing queued first leaves the head's objects, alone or for a component; a component that no counterpart can join any more is released, or sent to
the right neighbour; an estimate that agrees with the one before it is accepted as the seam's staged values, one that does not is counted. -/
def Obligations.RunsAndObjects : Prop :=
  (∀ (s u : State) (r : Run) (rest : List FifoEntry), s.canonical = true → s.seg.fifo = .run r :: rest →
    u = { s with seg := { s.seg with fifo := rest } } → s.boundaryLine r.info.line = false →
    s.inOvf r.info.head = false → (s.segHead r.info.head).lblArm = false → u.connectedObjs r = [] → u.ctxFree ≠ 0 →
    Completes .runLabel s (fun t => t.seg.fifo = rest ∧ t.seg.objs.length = s.seg.objs.length + 1 ∧
      t.seg.labels = s.seg.labels ++ [⟨r.info.head, r.info.line, r.info.ord, r.a, r.b,
        BitVec.ofNat 40 (s.getPair .OBJ_OID_L .OBJ_OID_H), BitVec.ofNat 40 (s.getPair .OBJ_OID_L .OBJ_OID_H)⟩] ∧
      t.getPair .OBJ_OID_L .OBJ_OID_H = (s.getPair .OBJ_OID_L .OBJ_OID_H + 1) % 2 ^ 40)) ∧
  (∀ (s u : State) (r : Run) (rest : List FifoEntry) (o : Obj), s.canonical = true → s.seg.fifo = .run r :: rest →
    u = { s with seg := { s.seg with fifo := rest } } → s.boundaryLine r.info.line = false →
    s.inOvf r.info.head = false → (s.segHead r.info.head).lblArm = false → u.connectedObjs r = [o] →
    Completes .runLabel s (fun t => t.seg.fifo = rest ∧ t.seg.objs.length = s.seg.objs.length ∧
      t.seg.labels = s.seg.labels ++ [⟨r.info.head, r.info.line, r.info.ord, r.a, r.b, o.oid, o.oid⟩] ∧
      t.rd .SEG_MERGE_CNT = s.rd .SEG_MERGE_CNT)) ∧
  (∀ (s u : State) (r : Run) (rest : List FifoEntry) (a b : Obj), s.canonical = true → s.seg.fifo = .run r :: rest →
    u = { s with seg := { s.seg with fifo := rest } } → s.boundaryLine r.info.line = false →
    s.inOvf r.info.head = false → (s.segHead r.info.head).lblArm = false → u.connectedObjs r = [a, b] → a.oid ≠ b.oid →
    Completes .runLabel s (fun t => t.seg.fifo = rest ∧ t.objOf b.oid = none ∧ Counted s t .SEG_MERGE_CNT ∧
      t.seg.labels = s.seg.labels.map (fun (l : Label) => if l.oid == b.oid then { l with oid := a.oid } else l) ++
        [⟨r.info.head, r.info.line, r.info.ord, r.a, r.b, a.oid, a.oid⟩])) ∧
  (∀ (s : State) (r : Run) (rest : List FifoEntry), s.seg.fifo = .run r :: rest → s.boundaryLine r.info.line = false →
    s.inOvf r.info.head = true → Completes .runLabel s (fun t => t.seg.fifo = rest ∧ t.seg.labels = s.seg.labels ∧
      t.seg.objs = s.seg.objs ∧ ChangesOnly [.seg] s t)) ∧
  (∀ (s : State) (i : LineInfo) (rest : List FifoEntry), s.seg.fifo = .marker i :: rest →
    Completes .runLabel s (fun t => t = s)) ∧
  (∀ (s : State) (i : LineInfo) (rest : List FifoEntry), s.canonical = true → s.seg.fifo = .marker i :: rest →
    s.boundaryLine i.line = false → i.head < s.seg.heads.length → Completes .eolMarkerApply s (fun t =>
      t.seg.fifo = rest ∧ (t.segHead i.head).lastInfo = some i ∧
      (∀ l ∈ t.seg.labels, l.head ≠ i.head ∨ i.ord - l.ord < s.bridgeY i.head + 1) ∧
      (if s.inOvf i.head then Counted s t .SEG_OVF_LINE_CNT else t.rd .SEG_OVF_LINE_CNT = s.rd .SEG_OVF_LINE_CNT))) ∧
  (∀ (s : State) (r : Run) (rest : List FifoEntry), s.seg.fifo = .run r :: rest →
    Completes .eolMarkerApply s (fun t => t = s)) ∧
  (∀ s : State, s.seg.fifo = [] → Completes .runLabel s (fun t => t = s) ∧ Completes .eolMarkerApply s (fun t => t = s)) ∧
  (∀ (s : State) (oid : Oid) (rest : List Oid) (o : Obj), s.canonical = true → s.seg.closeQ = oid :: rest →
    s.objOf oid = some o → o.contacts = [] → Completes .closingEvaluation s (fun t => t.seg.closeQ = rest ∧
      t.seg.objs = s.seg.objs.filter (fun x => x.oid != oid) ∧
      (if o.opened || o.joins.any (fun x => x.opened) then Counted s t .OBJ_CLOSE_CNT ∧
          Counted s t .OBJ_CLASS_CNT (s.classify o).1
        else Counted s t .OBJ_SMALL_CNT))) ∧
  (∀ (s : State) (oid : Oid) (rest : List Oid) (o : Obj), s.canonical = true → s.seg.closeQ = oid :: rest →
    s.objOf oid = some o → o.contacts ≠ [] → Completes .closingEvaluation s (fun t => t.seg.closeQ = rest ∧
      t.seg.objs = s.seg.objs.filter (fun x => x.oid != oid) ∧
      ∃ c, t.seg.comps.getLast? = some c ∧ { o with st := .pending } ∈ c.members)) ∧
  (∀ s : State, s.seg.closeQ = [] → Completes .closingEvaluation s (fun t => t = s)) ∧
  (∀ (s : State) (c : Comp), s.canonical = true → s.seg.comps.find? s.compReady = some c →
    c.members.any (fun m => m.contacts.any (fun x => x.seam == 32)) = false → c.members.any (fun m => m.opened) = true →
    Completes .componentRelease s (fun t => t.seg.comps = s.seg.comps.filter (fun x => !(x == c)) ∧
      Counted s t .OBJ_CLOSE_CNT ∧ t.rd .STI_UNMERGED_CNT = s.rd .STI_UNMERGED_CNT)) ∧
  (∀ (s : State) (c : Comp), s.canonical = true → s.seg.comps.find? s.compReady = some c →
    c.members.any (fun m => m.contacts.any (fun x => x.seam == 32)) = true → Completes .componentRelease s (fun t =>
      t.seg.comps = s.seg.comps.filter (fun x => !(x == c)) ∧
      (if s.rightNbr = 0 then Counted s t .STI_UNMERGED_CNT
        else t.sti.sent = s.sti.sent ++ [⟨(c.members.head?.map (fun x => x.oid)).getD 0, c, s.clk⟩]))) ∧
  (∀ s : State, s.seg.comps.find? s.compReady = none → Completes .componentRelease s (fun t => t = s)) ∧
  (∀ (s : State) (k : Fin 32) (w : Window), s.canonical = true → (s.seam k).closed = some w →
    Completes (.seamEstimateDone k) s (fun t => (t.seam k).closed = none ∧
      (∀ n : Nat, (s.estimate k w).2 = .reason n → (t.seam k).last = none ∧ Counted s t .STI_UNUSABLE_CNT ∧
        t.rd .SEAM_OFS k = s.rd .SEAM_OFS k ∧
        (n = 6 → s.seamState k ≠ 0 → s.seamState k ≠ 3 → t.seamState k = 3 ∧ t.fld F.SEAM_STATUS_REASON k = 6)) ∧
      (∀ e : Estimate, (s.estimate k w).2 = .usable e → (t.seam k).last = some (e, w.started) ∧
        ((s.seam k).last = none → t.rd .STI_DISAGREE_CNT = s.rd .STI_DISAGREE_CNT ∧ t.rd .STI_ACC_CNT = s.rd .STI_ACC_CNT ∧
          t.rd .SEAM_OFS k = s.rd .SEAM_OFS k ∧ t.rd .SEAM_SCALE k = s.rd .SEAM_SCALE k) ∧
        (∀ q ∈ (s.seam k).last,
          if agree q.1 e = true ∧ s.regAllowed k (newReg (s.seamWing k) q.1 e) = true then
            t.fld F.SEAM_OFS_OFS k = wrapTo 24 (newReg (s.seamWing k) q.1 e).ofs ∧
            t.fld F.SEAM_SCALE_SDEV k = wrapTo 24 (newReg (s.seamWing k) q.1 e).sdev ∧
            t.fld F.SEAM_YOFS_YOFS k = wrapTo 16 (newReg (s.seamWing k) q.1 e).yofs ∧ Counted s t .STI_ACC_CNT ∧
            t.fld F.STI_EVENT_ACCEPT = 1 ∧ t.seamState k = 2 ∧ t.fld F.SEAM_STATUS_HELD_STRIPS k = 0 ∧
            t.fld F.SEAM_STATUS_REASON k = 0
          else Counted s t .STI_DISAGREE_CNT ∧ t.rd .STI_ACC_CNT = s.rd .STI_ACC_CNT ∧
            t.rd .SEAM_OFS k = s.rd .SEAM_OFS k ∧ t.rd .SEAM_SCALE k = s.rd .SEAM_SCALE k ∧
            (agree q.1 e = true → t.fld F.STI_EVENT_LIMIT = 1))))) ∧
  (∀ (s : State) (k : Fin 32), (s.seam k).closed = none → Completes (.seamEstimateDone k) s (fun t => t = s))

/-- Counts of ENC0 (R266 to R271, R275 to R279): A and B are the levels that at least three of the last four samples show; a
valid transition moves C by one and P by the scale, H follows the largest P; before the next cue point nothing is cued; at it,
with cues on, the next line is cued and Q advances by the pitch, or, too soon after the last cue, the point is skipped and
counted; an illegal transition is counted and moves nothing; while POS is off, or while the levels stand, only time passes. -/
def Obligations.WebPosition : Prop :=
  (∀ (s u : State) (dt : Nat) (sa sb : BitVec 4) (a b back : Bool) (p : BitVec 72), s.canonical = true →
    u = s.advance dt → u.posOn = true → u.chMode 0 = 1 → a = filter3of4 (u.ench 0).a sa → b = filter3of4 (u.ench 0).b sb →
    quadDecode (u.bit F.POS_CHCFG_DIR 0) (u.ench 0).a (u.ench 0).b a b = .count back →
    p = (if back then u.pos.p - BitVec.ofNat 72 u.posScale else u.pos.p + BitVec.ofNat 72 u.posScale) →
    sdiff p u.pos.q < 0 → Completes (.enc0Count dt sa sb) s (fun t => t.clk = s.clk + dt ∧
      t.pos.c = (if back then u.pos.c - 1 else u.pos.c + 1) ∧ t.pos.p = p ∧ t.pos.h = later p u.pos.h ∧
      t.pos.q = u.pos.q ∧ t.pos.nextLine = u.pos.nextLine ∧ t.rd .POS_SKIP_CNT = u.rd .POS_SKIP_CNT ∧
      t.pos.chans = u.pos.chans.set 0 { u.ench 0 with a := a, b := b } ∧
      t.fld F.POS_SPEED_DIR = b2n back ∧ t.fld F.POS_SPEED_STOPPED = 0)) ∧
  (∀ (s u : State) (dt : Nat) (sa sb : BitVec 4) (a b back : Bool) (p : BitVec 72), s.canonical = true →
    u = s.advance dt → u.posOn = true → u.chMode 0 = 1 → a = filter3of4 (u.ench 0).a sa → b = filter3of4 (u.ench 0).b sb →
    quadDecode (u.bit F.POS_CHCFG_DIR 0) (u.ench 0).a (u.ench 0).b a b = .count back →
    p = (if back then u.pos.p - BitVec.ofNat 72 u.posScale else u.pos.p + BitVec.ofNat 72 u.posScale) →
    0 ≤ sdiff p u.pos.q → u.cuesOn = true →
    (∀ t0, u.pos.lastCue = some t0 → t0 + u.fld F.POS_CUE_MIN_CUE_MIN ≤ u.clk) →
    Completes (.enc0Count dt sa sb) s (fun t => t.pos.p = p ∧
      t.pos.q = u.pos.q + BitVec.ofNat 72 (u.pitchY * 65536) ∧ t.pos.nextLine = u.pos.nextLine + 1 ∧
      t.getPair .POS_LINE_L .POS_LINE_H = u.pos.nextLine.toNat ∧ t.pos.lastCue = some (s.clk + dt) ∧
      t.rd .POS_SKIP_CNT = u.rd .POS_SKIP_CNT)) ∧
  (∀ (s u : State) (dt : Nat) (sa sb : BitVec 4) (a b back : Bool) (p : BitVec 72) (t0 : Nat), s.canonical = true →
    u = s.advance dt → u.posOn = true → u.chMode 0 = 1 → a = filter3of4 (u.ench 0).a sa → b = filter3of4 (u.ench 0).b sb →
    quadDecode (u.bit F.POS_CHCFG_DIR 0) (u.ench 0).a (u.ench 0).b a b = .count back →
    p = (if back then u.pos.p - BitVec.ofNat 72 u.posScale else u.pos.p + BitVec.ofNat 72 u.posScale) →
    0 ≤ sdiff p u.pos.q → u.cuesOn = true → u.pos.lastCue = some t0 →
    u.clk < t0 + u.fld F.POS_CUE_MIN_CUE_MIN → Completes (.enc0Count dt sa sb) s (fun t => t.pos.p = p ∧
      t.pos.q = u.pos.q + BitVec.ofNat 72 (u.pitchY * 65536) ∧ t.pos.nextLine = u.pos.nextLine ∧
      Counted u t .POS_SKIP_CNT ∧ t.fld F.POS_EVENT_OVERSPEED = 1)) ∧
  (∀ (s u : State) (dt : Nat) (sa sb : BitVec 4) (a b : Bool), s.canonical = true → u = s.advance dt → u.posOn = true →
    u.chMode 0 = 1 → a = filter3of4 (u.ench 0).a sa → b = filter3of4 (u.ench 0).b sb →
    quadDecode (u.bit F.POS_CHCFG_DIR 0) (u.ench 0).a (u.ench 0).b a b = .illegal → Completes (.enc0Count dt sa sb) s
      (fun t => t.pos.c = u.pos.c ∧ t.pos.p = u.pos.p ∧ t.pos.q = u.pos.q ∧ Counted u t .POS_QERR_CNT)) ∧
  (∀ (s u : State) (dt : Nat) (sa sb : BitVec 4), u = s.advance dt → u.posOn = true → u.chMode 0 = 1 →
    filter3of4 (u.ench 0).a sa = (u.ench 0).a → filter3of4 (u.ench 0).b sb = (u.ench 0).b →
    Completes (.enc0Count dt sa sb) s (fun t => t = u)) ∧
  (∀ (s u : State) (dt : Nat) (sa sb : BitVec 4), u = s.advance dt → u.posOn = false →
    Completes (.enc0Count dt sa sb) s (fun t => t = u))

/-- Encoder and wire faults and the index of ENC0 (R266, R268, R272 to R274): a wire fault of ENC0 enters encoder fault, with
its flags, event and count, and one of a roller only flags its channel; one that goes on, or of an unchecked pair, does nothing;
a wire fault ends pair by pair; an encoder fault ends after its clean samples, and not before, or waits for the Z that
re-references it; the first Z sets the reference, a later one shows its error and is a slip beyond the tolerance, or, in a
fault with ZREF, moves C and P back by the error; a Z whose filtered level does not rise does nothing but set the level. -/
def Obligations.EncoderFaults : Prop :=
  (∀ (s : State) (pair : Fin 3), s.canonical = true → s.posOn = true → s.wireChecked 0 pair = true →
    bitAt (s.ench 0).wires pair = false → s.bit F.POS_STATUS_ENC_FAULT = false → Completes (.wireFault 0 pair) s (fun t =>
      t.bit ⟨.POS_STATUS, 8, 1⟩ = true ∧ t.fld F.POS_STATUS_ENC_FAULT = 1 ∧ t.fld F.POS_STATUS_UNCERTAIN = 1 ∧
      t.fld F.POS_STATUS_ZREFD = 0 ∧ t.fld F.POS_EVENT_ENC_FAULT = 1 ∧ t.fld F.POS_EVENT_WIRE = 1 ∧
      Counted s t .POS_ENCFLT_CNT ∧ Counted s t .POS_WIRE_CNT)) ∧
  (∀ (s : State) (c : Fin 8) (pair : Fin 3), s.canonical = true → s.posOn = true → s.wireChecked c pair = true →
    bitAt (s.ench c).wires pair = false → c.val ≠ 0 → Completes (.wireFault c pair) s (fun t =>
      t.pos.chans = s.pos.chans.set c { s.ench c with wires := (s.ench c).wires ||| 2 ^ pair.val } ∧
      t.bit ⟨.POS_STATUS, 8 + c.val, 1⟩ = true ∧ t.fld F.POS_STATUS_ENC_FAULT = s.fld F.POS_STATUS_ENC_FAULT ∧
      Counted s t .POS_WIRE_CNT)) ∧
  (∀ (s : State) (c : Fin 8) (pair : Fin 3), s.wireChecked c pair = false ∨ bitAt (s.ench c).wires pair = true →
    Completes (.wireFault c pair) s (fun t => t = s)) ∧
  (∀ (s : State) (c : Fin 8) (pair : Fin 3), s.canonical = true → s.posOn = true →
    bitAt (s.ench c).wires pair = true → Completes (.wireFaultEnd c pair) s (fun t =>
      t.pos.chans = s.pos.chans.set c { s.ench c with wires := (s.ench c).wires - 2 ^ pair.val, dirty := s.sample } ∧
      t.bit ⟨.POS_STATUS, 8 + c.val, 1⟩ =
        (if (s.ench c).wires - 2 ^ pair.val = 0 then false else s.bit ⟨.POS_STATUS, 8 + c.val, 1⟩))) ∧
  (∀ (s u : State) (dt : Nat), s.canonical = true → u = s.advance dt → u.posOn = true →
    u.bit F.POS_STATUS_ENC_FAULT = true → u.cleanRun 0 = true → u.zrefNeeded = false →
    Completes (.encoderFaultEnd dt) s (fun t => t.fld F.POS_STATUS_ENC_FAULT = 0 ∧ t.fld F.POS_EVENT_ENC_CLEAR = 1 ∧
      t.fld F.POS_STATUS_UNCERTAIN = u.fld F.POS_STATUS_UNCERTAIN ∧ t.pos.uncEnding = true ∧ t.pos.c = u.pos.c)) ∧
  (∀ (s u : State) (dt : Nat), u = s.advance dt → u.posOn = true → u.bit F.POS_STATUS_ENC_FAULT = true →
    u.cleanRun 0 = true → u.zrefNeeded = true →
    Completes (.encoderFaultEnd dt) s (fun t => t.pos = { u.pos with clean := true } ∧ ChangesOnly [.pos] u t)) ∧
  (∀ (s u : State) (dt : Nat), u = s.advance dt → u.cleanRun 0 = false →
    Completes (.encoderFaultEnd dt) s (fun t => t = u)) ∧
  (∀ (s : State) (sz : BitVec 4), s.canonical = true → s.posOn = true → s.zRises 0 sz = true → s.chMode 0 = 1 →
    s.bit F.POS_CHCFG_Z_EN 0 = true → s.pos.zv = false → Completes (.enc0ZEdge sz) s (fun t =>
      t.pos.zref = s.pos.c ∧ t.pos.zv = true ∧ t.pos.c = s.pos.c ∧
      t.getPair .POS_ZLATCH_L .POS_ZLATCH_H = s.pos.c.toNat)) ∧
  (∀ (s : State) (sz : BitVec 4), s.canonical = true → s.posOn = true → s.zRises 0 sz = true → s.chMode 0 = 1 →
    s.bit F.POS_CHCFG_Z_EN 0 = true → s.pos.zv = true → s.fld F.POS_ZCFG_ZPERIOD ≠ 0 → s.bit F.GLB_STATUS_VERIFY = false →
    s.bit F.POS_STATUS_ENC_FAULT = false → s.fld F.POS_ZCFG_ZTOL < s.zError.natAbs →
    Completes (.enc0ZEdge sz) s (fun t => t.fld F.POS_ZERR_E = wrapTo 24 s.zError ∧ t.pos.c = s.pos.c ∧
      t.pos.p = s.pos.p ∧ t.fld F.POS_EVENT_ZSLIP = 1 ∧ Counted s t .POS_ZSLIP_CNT)) ∧
  (∀ (s : State) (sz : BitVec 4), s.canonical = true → s.posOn = true → s.zRises 0 sz = true → s.chMode 0 = 1 →
    s.bit F.POS_CHCFG_Z_EN 0 = true → s.pos.zv = true → s.fld F.POS_ZCFG_ZPERIOD ≠ 0 →
    s.bit F.POS_STATUS_ENC_FAULT = true → s.bit F.POS_CTRL_ZREF = true → Completes (.enc0ZEdge sz) s (fun t =>
      t.pos.c = s.pos.c - BitVec.ofInt 40 s.zError ∧
      t.pos.p = s.pos.p - BitVec.ofInt 72 (s.zError * s.posScale) ∧ t.fld F.POS_STATUS_ZREFD = 1 ∧
      t.fld F.POS_STATUS_ENC_FAULT = (if s.pos.clean then 0 else 1))) ∧
  (∀ (s : State) (sz : BitVec 4), s.posOn = true → s.zRises 0 sz = false → Completes (.enc0ZEdge sz) s (fun t =>
    t.pos = { s.pos with chans := s.pos.chans.set 0 { s.ench 0 with z := filter3of4 (s.ench 0).z sz } } ∧
    ChangesOnly [.pos] s t))

/-- Rollers, speed and the emulated outputs (R266, R281 to R292): a roller's count moves modulo CPR and its phase follows; a Z
references the count, and is a slip when it was referenced and not 0; an index edge closer than PMIN is rejected, another
references the phase; an index is overdue after the smaller of two periods and PMAX, and sets the fault flag; a flag clears
when no cause is left and 65,536 clean samples have passed; after STOP_TMO without a count a stop clears the speed's flags and,
with AUTO_HOLD, starts HOLD entry; an output that owes a step takes it once 40 ns have passed since its last, and shows it where
it is driven. -/
def Obligations.RollersAndSpeed : Prop :=
  (∀ (s u : State) (dt : Nat) (c : Fin 7) (sa sb : BitVec 4) (a b back : Bool) (k cpr : Nat), s.canonical = true →
    u = s.advance dt → u.posOn = true → u.chMode (c.val + 1) = 1 → a = filter3of4 (u.ench (c.val + 1)).a sa →
    b = filter3of4 (u.ench (c.val + 1)).b sb → quadDecode (u.bit F.POS_CHCFG_DIR (c.val + 1)) (u.ench (c.val + 1)).a
      (u.ench (c.val + 1)).b a b = .count back → cpr = atLeast1 (u.fld F.POS_CPR_CPR c) →
    k = (if back then ((u.ench (c.val + 1)).count + cpr - 1) % cpr else ((u.ench (c.val + 1)).count + 1) % cpr) →
    c.val + 1 < u.pos.chans.length → Completes (.rollerCount dt c sa sb) s (fun t =>
      t.pos.chans = u.pos.chans.set (c.val + 1) { u.ench (c.val + 1) with a := a, b := b, count := k } ∧
      t.fld F.POS_ROLL_PHASE c = k * 65536 / cpr % 65536 ∧ ChangesOnly [.pos, .reg .POS_ROLL] u t)) ∧
  (∀ (s u : State) (dt : Nat) (c : Fin 7) (sz : BitVec 4), s.canonical = true → u = s.advance dt → u.posOn = true →
    u.zRises (c.val + 1) sz = true → u.chMode (c.val + 1) = 1 → u.bit F.POS_CHCFG_Z_EN (c.val + 1) = true →
    c.val + 1 < u.pos.chans.length → Completes (.rollerZEdge dt c sz) s (fun t =>
      t.pos.chans = u.pos.chans.set (c.val + 1) { u.ench (c.val + 1) with count := 0, z := true } ∧
      t.fld F.POS_ROLL_REF c = 1 ∧ t.fld F.POS_ROLL_PHASE c = 0 ∧
      (if u.bit F.POS_ROLL_REF c = true ∧ (u.ench (c.val + 1)).count ≠ 0 then Counted u t .POS_ZSLIP_CNT
        else t.rd .POS_ZSLIP_CNT = u.rd .POS_ZSLIP_CNT))) ∧
  (∀ (s u : State) (dt : Nat) (c : Fin 7) (sz : BitVec 4), u = s.advance dt → u.posOn = true →
    u.zRises (c.val + 1) sz = false → Completes (.rollerZEdge dt c sz) s (fun t => t = u.takeZ (c.val + 1) sz) ∧
    Completes (.indexEdge dt c sz) s (fun t => t = u.takeZ (c.val + 1) sz)) ∧
  (∀ (s u : State) (dt : Nat) (c : Fin 7) (sz : BitVec 4) (t0 : Nat), s.canonical = true → u = s.advance dt →
    u.posOn = true → u.zRises (c.val + 1) sz = true → u.chMode (c.val + 1) = 2 → (u.ench (c.val + 1)).tz = some t0 →
    u.clk - t0 < atLeast1 (u.fld F.POS_IDX_PMIN c) * 100000 → Completes (.indexEdge dt c sz) s (fun t =>
      t.pos.chans = (u.takeZ (c.val + 1) sz).pos.chans ∧ Counted u t .POS_IDX_REJ_CNT)) ∧
  (∀ (s u : State) (dt : Nat) (c : Fin 7) (sz : BitVec 4) (t0 : Nat), s.canonical = true → u = s.advance dt →
    u.posOn = true → u.zRises (c.val + 1) sz = true → u.chMode (c.val + 1) = 2 → (u.ench (c.val + 1)).tz = some t0 →
    c.val + 1 < u.pos.chans.length → atLeast1 (u.fld F.POS_IDX_PMIN c) * 100000 ≤ u.clk - t0 →
    u.clk - t0 ≤ atLeast1 (u.fld F.POS_IDX_PMAX c) * 100000 → Completes (.indexEdge dt c sz) s (fun t =>
      t.pos.chans = u.pos.chans.set (c.val + 1) { u.ench (c.val + 1) with
        tz := some u.clk, period := some (u.clk - t0), good := (u.ench (c.val + 1)).good + 1, late := false, z := true } ∧
      t.fld F.POS_ROLL_REF c = 1 ∧ t.fld F.POS_ROLL_PHASE c = 0 ∧ t.rd .POS_IDX_REJ_CNT = u.rd .POS_IDX_REJ_CNT)) ∧
  (∀ (s u : State) (dt : Nat) (c : Fin 7) (t0 p : Nat), s.canonical = true → u = s.advance dt → u.posOn = true →
    u.chMode (c.val + 1) = 2 → c.val + 1 < u.pos.chans.length → u.bit F.POS_ROLL_FLT c = false →
    (u.ench (c.val + 1)).tz = some t0 → (u.ench (c.val + 1)).period = some p →
    min (2 * p) (atLeast1 (u.fld F.POS_IDX_PMAX c) * 100000) < u.clk - t0 →
    Completes (.rollerIndexTimeout dt c) s (fun t =>
      (t.ench (c.val + 1)).late = true ∧ (t.ench (c.val + 1)).good = 0 ∧ t.fld F.POS_ROLL_FLT c = 1 ∧
      t.bit ⟨.POS_STATUS, 17 + c.val, 1⟩ = true ∧ t.fld F.POS_EVENT_RFLT = 1)) ∧
  (∀ (s u : State) (dt : Nat) (c : Fin 7) (t0 p : Nat), u = s.advance dt → (u.ench (c.val + 1)).tz = some t0 →
    (u.ench (c.val + 1)).period = some p →
    u.clk - t0 ≤ min (2 * p) (atLeast1 (u.fld F.POS_IDX_PMAX c) * 100000) →
    Completes (.rollerIndexTimeout dt c) s (fun t => t = u)) ∧
  (∀ (s u : State) (dt : Nat) (c : Fin 7), s.canonical = true → u = s.advance dt → u.posOn = true →
    u.chMode (c.val + 1) = 1 → u.bit F.POS_CHCFG_Z_EN (c.val + 1) = false → u.cleanRun (c.val + 1) = true →
    (u.ench (c.val + 1)).late = false → c.val + 1 < u.pos.chans.length → Completes (.rollerFlagClean dt c) s (fun t =>
      (t.ench (c.val + 1)).illegal = [] ∧ t.fld F.POS_ROLL_FLT c = 0 ∧
      t.bit ⟨.POS_STATUS, 17 + c.val, 1⟩ = false)) ∧
  (∀ (s u : State) (dt : Nat), s.canonical = true → u = s.advance dt → u.posOn = true →
    u.bit F.POS_SPEED_STOPPED = false → u.standstill = true →
    Completes (.speedStop dt) s (fun t => t.fld F.POS_SPEED_STOPPED = 1 ∧ t.fld F.POS_SPEED_VALID = 0 ∧
      t.fld F.POS_SPEED_STARTING = 0 ∧ t.pos.recent = u.pos.recent ∧ t.pos.tp = none ∧ t.pos.skip = none ∧
      t.fld F.POS_EVENT_STOP = 1 ∧ t.glb.trans = (if u.bit F.GLB_RUN_CFG_AUTO_HOLD && u.inspecting && u.glb.trans.isNone
        then some (.toHold false) else u.glb.trans))) ∧
  (∀ (s u : State) (dt : Nat), u = s.advance dt → u.bit F.POS_SPEED_STOPPED = true ∨ u.standstill = false →
    Completes (.speedStop dt) s (fun t => t = u)) ∧
  (∀ (s u : State) (dt : Nat) (k : Fin 2) (pos : Int), s.canonical = true → u = s.advance dt → u.posOn = true →
    (∀ t0, (u.emu k).lastStep = some t0 → t0 + 40 ≤ u.clk) → 0 < (u.emu k).owed → pos = (u.emu k).pos + 1 →
    Completes (.qoutStep dt k) s (fun t =>
      t.pos.emus = u.pos.emus.set k { u.emu k with
        owed := (u.emu k).owed - 1, pos := pos, lastStep := some u.clk } ∧
      t.wire = (if u.emuDriven k then u.wire ++ [.qout k (pos % 4).toNat ((u.emu k).zdiv != 0 && pos % (u.emu k).zdiv == 0)]
        else u.wire))) ∧
  (∀ (s u : State) (dt : Nat) (k : Fin 2) (t0 : Nat), u = s.advance dt →
    (u.emu k).owed = 0 ∨ (u.emu k).lastStep = some t0 ∧ u.clk < t0 + 40 →
    Completes (.qoutStep dt k) s (fun t => t = u))

/-- The mark schedule (R298 to R303): a request that one enabled port takes joins the schedule, a refused one and one that no
port can mark are counted as not placed, and a due mark starts a burst at its target and joins it at its first line. -/
def Obligations.MarkSchedule : Prop :=
  (∀ (s : State) (r : MarkReq) (rest : List MarkReq) (m : Fin 4), s.canonical = true → s.seg.markQ = r :: rest →
    s.mrkOn m = true → (∀ k, k < 4 → k ≠ m.val → s.mrkOn k = false) → s.markSelection m r ≠ [] →
    s.markRefusal (s.markFor m r (s.markSelection m r)) = 0 → Completes .markRequest s (fun t =>
      t.mrk.marks = s.mrk.marks ++ [s.markFor m r (s.markSelection m r)] ∧ t.seg.markQ = rest ∧
      t.fld F.MRK_SCHED_USED = s.mrk.marks.length + 1 ∧ Counted s t .MRK_REQ_CNT ∧
      t.rd .MRK_NOTPL_CNT = s.rd .MRK_NOTPL_CNT)) ∧
  (∀ (s : State) (r : MarkReq) (rest : List MarkReq) (m : Fin 4), s.canonical = true → s.seg.markQ = r :: rest →
    s.mrkOn m = true → (∀ k, k < 4 → k ≠ m.val → s.mrkOn k = false) → s.markSelection m r ≠ [] →
    s.markRefusal (s.markFor m r (s.markSelection m r)) ≠ 0 → Completes .markRequest s (fun t =>
      t.mrk.marks = s.mrk.marks ∧ t.seg.markQ = rest ∧ t.fld F.MRK_EVENT_NOT_PLACED = 1 ∧
      Counted s t .MRK_REQ_CNT ∧ Counted s t .MRK_NOTPL_CNT)) ∧
  (∀ (s : State) (r : MarkReq) (rest : List MarkReq), s.canonical = true → s.seg.markQ = r :: rest →
    (∀ k, k < 4 → s.mrkOn k = false) → Completes .markRequest s (fun t => t.mrk = s.mrk ∧ t.seg.markQ = rest ∧
      Counted s t .MRK_REQ_CNT ∧ Counted s t .MRK_NOTPL_CNT)) ∧
  (∀ s : State, s.seg.markQ = [] → Completes .markRequest s (fun t => t = s)) ∧
  (∀ (s u : State) (m : Fin 4) (dt : Nat) (x : Mark), s.canonical = true → u = s.advance dt → u.mrk.marks = [x] →
    x.port = m.val → x.join = none → (u.mrkPort m).burst = none → u.speedValid = true → u.markDue x.target = true →
    m.val < u.mrk.ports.length → Completes (.markCompare m dt) s (fun t =>
      t.mrk.marks.map (fun y => (y.oid, y.join, y.bursts)) = [(x.oid, some x.offset, x.bursts + 1)] ∧
      (t.mrkPort m).burst.map (fun b => (b.g, b.posMode, b.next, b.start)) = some (x.target, false, 0, s.clk + dt))) ∧
  (∀ (s u : State) (m : Fin 4) (dt : Nat), u = s.advance dt → (u.mrkPort m).burst = none →
    (∀ x ∈ u.mrk.marks, x.port = m.val → x.join = none → u.markDue x.target = false) →
    Completes (.markCompare m dt) s (fun t => t = u))

/-- Lines of a burst and the head's pins (R294, R301 to R308): at its time the next line of a timed burst raises LATCH, or is
suppressed and counted while the head is hot; LATCH_W later LATCH falls, the next line's data shift, each nozzle in its place on
its data line, unless the head is hot or they have been shifted, and STROBE rises 20 ns later; its width after that STROBE falls;
nothing happens before its time. -/
def Obligations.MarkLines : Prop :=
  (∀ (s u : State) (m : Fin 4) (dt : Nat) (b : Burst), s.canonical = true → u = s.advance dt →
    (u.mrkPort m).burst = some b → b.posMode = false → b.start + b.next * b.tau ≤ u.clk → m.val < u.mrk.ports.length →
    u.bit F.MRK_PSTAT_HOT m = false → Completes (.burstLineStart m dt) s (fun t => t.clk = s.clk + dt ∧
      (t.mrkPort m).latchHigh = true ∧ (t.mrkPort m).latchAt = u.clk + 1 ∧
      (t.mrkPort m).width = 10 * u.strobeW m (u.bandOf m (signedOf 12 (u.fld F.MRK_PSTAT_TEMP m))) ∧
      (∃ more, t.wire = u.wire ++ .markPin m true false :: more) ∧ t.rd .MRK_SUPP_LINE_CNT = u.rd .MRK_SUPP_LINE_CNT)) ∧
  (∀ (s u : State) (m : Fin 4) (dt : Nat) (b : Burst), s.canonical = true → u = s.advance dt →
    (u.mrkPort m).burst = some b → b.posMode = false → b.start + b.next * b.tau ≤ u.clk → m.val < u.mrk.ports.length →
    u.bit F.MRK_PSTAT_HOT m = true → Completes (.burstLineStart m dt) s (fun t =>
      (t.mrkPort m).latchHigh = (u.mrkPort m).latchHigh ∧ t.wire = u.wire ∧ Counted u t .MRK_SUPP_LINE_CNT)) ∧
  (∀ (s u : State) (m : Fin 4) (dt : Nat) (b : Burst), u = s.advance dt → (u.mrkPort m).burst = some b →
    u.clk < b.start + b.next * b.tau → Completes (.burstLineStart m dt) s (fun t => t = u)) ∧
  (∀ (s u : State) (m : Fin 4) (dt : Nat) (p : MrkPort), s.canonical = true → u = s.advance dt → u.mrkPort m = p →
    p.latchHigh = true → p.latchAt + max (u.fld F.MRK_LATCH_LATCH_W m) 10 ≤ u.clk →
    (p.burst = none → Completes (.latchFall m dt) s (fun t =>
      t.mrk.ports = u.mrk.ports.set m { p with latchHigh := false, strobeHigh := true, strobeAt := u.clk + 20 } ∧
      t.mrk.marks = u.mrk.marks ∧ t.wire = u.wire ++ [.markPin m false false, .markPin m false true])) ∧
    (∀ b, p.burst = some b → u.bit F.MRK_PSTAT_HOT m = true ∨ p.loaded = some (u.lineNozzles m b.next) →
      Completes (.latchFall m dt) s (fun t =>
      t.mrk.ports = u.mrk.ports.set m { p with latchHigh := false, strobeHigh := true, strobeAt := u.clk + 20 } ∧
      t.mrk.marks = u.mrk.marks ∧ t.wire = u.wire ++ [.markPin m false false, .markPin m false true])) ∧
    (∀ b, p.burst = some b → u.bit F.MRK_PSTAT_HOT m = false → p.loaded ≠ some (u.lineNozzles m b.next) →
      Completes (.latchFall m dt) s (fun t =>
      t.mrk.ports = u.mrk.ports.set m { p with
        latchHigh := false, strobeHigh := true, strobeAt := u.clk + 20, loaded := some (u.lineNozzles m b.next) } ∧
      t.mrk.marks = u.mrk.marks ∧ ∃ lines, lines.length = 8 ∧ t.wire = u.wire ++
        [.markPin m false false, .markLine m lines, .markPin m false true] ∧
      ∀ n, n < 1280 → ((lines.getD (4 * (n % 2) + n / 2 % 4) []).getD (159 - n / 8) false = true ↔
        n ∈ u.lineNozzles m b.next)))) ∧
  (∀ (s u : State) (m : Fin 4) (dt : Nat), u = s.advance dt →
    (u.mrkPort m).latchHigh = false ∨ u.clk < (u.mrkPort m).latchAt + u.latchW m →
    Completes (.latchFall m dt) s (fun t => t = u)) ∧
  (∀ (s u : State) (m : Fin 4) (dt : Nat) (p : MrkPort), s.canonical = true → u = s.advance dt → u.mrkPort m = p →
    p.strobeHigh = true → p.strobeAt + p.width ≤ u.clk →
    Completes (.strobeFall m dt) s (fun t => t.wire = u.wire ++ [.markPin m false false] ∧
      t.mrk.ports = u.mrk.ports.set m { p with strobeHigh := false } ∧ t.mrk.marks = u.mrk.marks)) ∧
  (∀ (s u : State) (m : Fin 4) (dt : Nat), u = s.advance dt →
    (u.mrkPort m).strobeHigh = false ∨ u.clk < (u.mrkPort m).strobeAt + (u.mrkPort m).width →
    Completes (.strobeFall m dt) s (fun t => t = u))

/-- The heads' supervision (R297, R307 to R310): a strobe that is high for its limit takes its port to FAULT with nothing
scheduled and its outputs low, unless its fall is due in the same cycle; an accepted measurement becomes the temperature and one
out of range is counted, a head that has had no measurement for 1 ms is faulted, and the two faults end each by its own
command. -/
def Obligations.MarkHeads : Prop :=
  (∀ (s u : State) (m : Fin 4) (dt : Nat) (p : MrkPort), s.canonical = true → u = s.advance dt → u.mrkPort m = p →
    p.strobeHigh = true → p.strobeAt + 40 * min 498 (atLeast1 (u.fld F.MRK_TLIM_WD m)) ≤ u.clk → p.strobeAt + p.width ≠ u.clk →
    Completes (.strobeWatchdog m dt) s (fun t => t.fld F.MRK_PSTAT_STATE m = 2 ∧ t.fld F.MRK_PSTAT_FREASON m = 2 ∧
      t.mrk.marks.filter (fun x => x.port == m.val) = [] ∧ (t.mrkPort m).burst = none ∧
      (t.mrkPort m).strobeHigh = false ∧ t.fld F.MRK_EVENT_WATCHDOG = 1 ∧ Counted u t .MRK_WD_CNT)) ∧
  (∀ (s u : State) (m : Fin 4) (dt : Nat) (p : MrkPort), u = s.advance dt → u.mrkPort m = p → p.strobeHigh = true →
    p.strobeAt + u.strobeLimit m ≤ u.clk → p.strobeAt + p.width = u.clk → Completes (.strobeWatchdog m dt) s (fun t =>
      t = (u.setMrkPort m { p with strobeHigh := false }).emit (.markPin m false false))) ∧
  (∀ (s u : State) (m : Fin 4) (dt : Nat), u = s.advance dt →
    (u.mrkPort m).strobeHigh = false ∨ u.clk < (u.mrkPort m).strobeAt + u.strobeLimit m →
    Completes (.strobeWatchdog m dt) s (fun t => t = u)) ∧
  (∀ (s u : State) (m : Fin 4) (dt p h : Nat), s.canonical = true → u = s.advance dt → 16000 ≤ p → p ≤ 24000 →
    p ≤ 20 * h → 20 * h ≤ 19 * p → Completes (.statMeasurement m dt p h) s (fun t => t.fld F.MRK_PSTAT_TVALID m = 1 ∧
      t.fld F.MRK_PSTAT_TEMP m = wrapTo 12 (Int.fdiv (1600 * h) p - 400) ∧
      t.rd .MRK_STAT_ERR_CNT = u.rd .MRK_STAT_ERR_CNT)) ∧
  (∀ (s u : State) (m : Fin 4) (dt p h : Nat), s.canonical = true → u = s.advance dt →
    (p < 16000 ∨ 24000 < p ∨ 20 * h < p ∨ 19 * p < 20 * h) →
    Completes (.statMeasurement m dt p h) s (fun t => Counted u t .MRK_STAT_ERR_CNT ∧ t.mrk = u.mrk ∧
      t.rd .MRK_PSTAT m = u.rd .MRK_PSTAT m)) ∧
  (∀ (s u : State) (m : Fin 4) (dt : Nat), s.canonical = true → u = s.advance dt → u.fld F.MRK_PSTAT_STATE m = 1 →
    (∀ c, (u.mrkPort m).lastAccept = some c → 1000000 ≤ u.clk - c) → Completes (.statTimeout m dt) s (fun t =>
      t.fld F.MRK_PSTAT_TVALID m = 0 ∧ t.fld F.MRK_PSTAT_STATE m = 2 ∧ t.fld F.MRK_PSTAT_FREASON m = 1 ∧
      t.fld F.MRK_EVENT_STAT_FAULT = 1 ∧ t.mrk.marks.filter (fun x => x.port == m.val) = [])) ∧
  (∀ (s u : State) (m : Fin 4) (dt : Nat), s.canonical = true → u = s.advance dt → u.fld F.MRK_PSTAT_STATE m ≠ 1 →
    u.statLate m = true → Completes (.statTimeout m dt) s (fun t =>
      t.fld F.MRK_PSTAT_TVALID m = 0 ∧ t.fld F.MRK_PSTAT_STATE m = u.fld F.MRK_PSTAT_STATE m ∧
      ChangesOnly [.reg .MRK_PSTAT] u t)) ∧
  (∀ (s u : State) (m : Fin 4) (dt c : Nat), u = s.advance dt → (u.mrkPort m).lastAccept = some c →
    u.clk - c < 1000000 → Completes (.statTimeout m dt) s (fun t => t = u)) ∧
  (∀ (s u : State) (m : Fin 4) (dt c : Nat), s.canonical = true → u = s.advance dt → u.fld F.MRK_PSTAT_STATE m = 2 →
    u.fld F.MRK_PSTAT_FREASON m = 1 → (u.mrkPort m).lastAccept = some c → u.clk - c < 1000000 →
    (10000000 ≤ u.clk - (u.mrkPort m).runSince → Completes (.statRecovery m dt) s (fun t => t.fld F.MRK_PSTAT_STATE m = 1 ∧
      t.fld F.MRK_PSTAT_FREASON m = 0 ∧ ChangesOnly [.reg .MRK_PSTAT] u t)) ∧
    (u.clk - (u.mrkPort m).runSince < 10000000 → Completes (.statRecovery m dt) s (fun t => t = u))) ∧
  (∀ (s : State) (m : Fin 4), s.canonical = true → s.fld F.MRK_PSTAT_STATE m = 2 →
    (s.fld F.MRK_PSTAT_FREASON m = 1 → Completes (.markRestart m) s (fun t => t = s)) ∧
    (s.fld F.MRK_PSTAT_FREASON m = 2 → (s.mrkPort m).tripAt ≠ some s.clk →
      Completes (.markRestart m) s (fun t => t.fld F.MRK_PSTAT_STATE m = 1 ∧
      t.fld F.MRK_PSTAT_FREASON m = 0 ∧ ChangesOnly [.reg .MRK_PSTAT] s t)) ∧
    (s.fld F.MRK_PSTAT_FREASON m = 2 → (s.mrkPort m).tripAt = some s.clk → Completes (.markRestart m) s (fun t => t = s)))

/-- Rows and jobs of the archive (R317, R331, R335, R337, R339 to R341): a row whose blocks have all been written has its entry written with V = 1; a
block write that fails is written once more, and marks its row BADROW when it fails again; a host request joins its queue or is answered REFUSED; the
next job starts when its tiles are ready, or PARTIAL when it has waited too long, or ends at once when it is refused; a job whose blocks have come sends
its records and ends. -/
def Obligations.ArchiveJobs : Prop :=
  (∀ (s : State) (h : Fin 32) (r : ArcRow), s.canonical = true → s.rowReady h = some r →
    s.entryAddr h r.strip + 64 ≤ s.memCapacity → s.mem.done = [] → s.glb.trans = none → s.glb.pend = none →
    Completes (.archiveRowComplete h) s (fun t =>
      (∃ o, t.mem.ops = s.mem.ops ++ [o] ∧ o.owner = .arcIndex h ∧ o.write = true ∧ o.addr = s.entryAddr h r.strip ∧
        o.data = dwordBytes (r.words true)) ∧
      (t.arcHead h).rows = (s.arcHead h).rows.filter (fun x => x.strip != r.strip) ∧
      (t.arcHead h).done = r.strip ∧ (t.arcHead h).doneAny = true)) ∧
  (∀ (s : State) (h : Fin 32), s.rowReady h = none → Completes (.archiveRowComplete h) s (fun t => t = s)) ∧
  (∀ (s : State) (o : MemOp) (rest : List MemOp) (h : Nat) (row line : LineNo), s.canonical = true →
    s.arc.werr = o :: rest → o.owner = .arcBlock h row line false → o.data ≠ [] →
    o.addr + o.data.length ≤ s.memCapacity → s.mem.done = [] → s.glb.trans = none → s.glb.pend = none →
    Completes .blockWriteError s (fun t => t.arc = { s.arc with werr := rest } ∧
      ∃ x, t.mem.ops = s.mem.ops ++ [x] ∧ x.owner = .arcBlock h row line true ∧ x.write = true ∧ x.addr = o.addr ∧
        x.data = o.data)) ∧
  (∀ (s : State) (o : MemOp) (rest : List MemOp) (h : Nat) (row line : LineNo) (r : ArcRow), s.canonical = true →
    s.arc.werr = o :: rest → o.owner = .arcBlock h row line true →
    (s.arcHead h).rows.find? (fun x => x.strip == row) = some r → (s.arcHead h).pend = [] → s.mem.done = [] → s.glb.trans = none →
    s.glb.pend = none → Completes .blockWriteError s (fun t => t.arc.werr = rest ∧ Counted s t .ARC_WERR_CNT ∧
      Counted s t .ARC_BADROW_CNT ∧ t.fld F.ARC_EVENT_BAD_ROW = 1 ∧ t.mem.ops = s.mem.ops ∧
      (t.arcHead h).rows = (s.arcHead h).rows.map (fun x => if x.strip == row then { r with badRow := true } else x))) ∧
  (∀ s : State, s.arc.werr = [] → Completes .blockWriteError s (fun t => t = s)) ∧
  (∀ s : State, s.arc.hostQ.length < 16 → Completes .hostJobRequest s (fun t => ∃ j : ArcJob,
      t = { s with arc := { s.arc with hostQ := s.arc.hostQ ++ [j] } } ∧ j.strip = s.bit F.ARC_HREQ_CTRL_KIND ∧
      j.job = s.rd .ARC_HREQ_JOB ∧ j.xlo.toNat = s.getPair .ARC_HREQ_XLO_L .ARC_HREQ_XLO_H % 2 ^ 40 ∧
      j.xhi.toNat = s.getPair .ARC_HREQ_XHI_L .ARC_HREQ_XHI_H % 2 ^ 40 ∧
      j.ylo.toNat = s.getPair .ARC_HREQ_YLO_L .ARC_HREQ_YLO_H % 2 ^ 40 ∧
      j.yhi.toNat = s.getPair .ARC_HREQ_YHI_L .ARC_HREQ_YHI_H % 2 ^ 40)) ∧
  (∀ s : State, s.canonical = true → 16 ≤ s.arc.hostQ.length → Completes .hostJobRequest s (fun t => t.arc = s.arc ∧
      Counted s t .ARC_REFUSE_CNT ∧ t.fld F.ARC_EVENT_JOB_FAIL = 1 ∧ t.fld F.ARC_EVENT_JOB_DONE = 1 ∧
      (s.bit F.ARC_CTRL_RELAY = false → ∃ r, t.hst.jobQ ++ t.hst.jobWait = s.hst.jobQ ++ s.hst.jobWait ++ [r] ∧
        r.typ = (if s.bit F.ARC_HREQ_CTRL_KIND then 0x31 else 0x30)))) ∧
  (∀ (s x : State) (j : ArcJob) (tiles : List Tile) (r : ArcRow) (ys : List YPos) (pitch : Nat), s.canonical = true →
    s.nextJob = some (j, x) → s.jobFree = true → x.jobRefusal j = 0 →
    x.jobPlan j (!x.jobReady j) = some (tiles, r, ys, pitch) →
    (∀ late, (x.jobBegin j late).mem.done = []) → s.glb.trans = none → s.glb.pend = none →
    (x.jobReady j = true → Completes .jobStart s (fun t => t.arc.hostQ = x.arc.hostQ ∧ t.arc.stripQ = x.arc.stripQ ∧
      t.seg.snipQ = x.seg.snipQ ∧ ∃ q, t.arc.run = some q ∧ q.job = j ∧ q.partialJob = false ∧ q.tiles = tiles ∧
        q.rows = ys.length ∧ q.pitch = pitch)) ∧
    Completes .jobWaitTimeout s (fun t => t.arc.hostQ = x.arc.hostQ ∧ t.arc.stripQ = x.arc.stripQ ∧
      t.seg.snipQ = x.seg.snipQ ∧ ∃ q, t.arc.run = some q ∧ q.job = j ∧ q.partialJob = !x.jobReady j ∧ q.tiles = tiles ∧
        q.rows = ys.length ∧ q.pitch = pitch)) ∧
  (∀ (s x : State) (j : ArcJob), s.canonical = true → s.nextJob = some (j, x) → s.jobFree = true → x.jobRefusal j = 3 →
    s.mem.done = [] → s.glb.trans = none → s.glb.pend = none → Completes .jobStart s (fun t => t.arc = x.arc ∧
      t.seg.snipQ = x.seg.snipQ ∧ Counted s t .ARC_REFUSE_CNT ∧ t.fld F.ARC_EVENT_JOB_DONE = 1)) ∧
  (∀ s : State, s.nextJob = none ∨ s.jobFree = false → Completes .jobStart s (fun t => t = s) ∧
    Completes .jobWaitTimeout s (fun t => t = s)) ∧
  (∀ (s x : State) (j : ArcJob), s.nextJob = some (j, x) → x.jobReady j = false →
    Completes .jobStart s (fun t => t = s)) ∧
  (∀ (s : State) (r : ArcRun), s.canonical = true → s.arc.run = some r → r.blocks.all (fun b => b.data.isSome) = true →
    s.glb.trans = none → s.glb.pend = none → Completes .jobDone s (fun t => t.arc.run = none ∧ Counted s t .ARC_JOB_CNT ∧
      t.fld F.ARC_EVENT_JOB_DONE = 1 ∧ (s.bit F.ARC_CTRL_RELAY = false →
        ∃ rs, rs ≠ [] ∧ t.hst.jobQ ++ t.hst.jobWait = s.hst.jobQ ++ s.hst.jobWait ++ rs ∧ rs.all (fun x => x.typ == (if r.job.strip then 0x31 else 0x30))))) ∧
  (∀ (s : State) (r : ArcRun), s.arc.run = some r → r.blocks.all (fun b => b.data.isSome) = false →
    Completes .jobDone s (fun t => t = s)) ∧
  (∀ s : State, s.arc.run = none → Completes .jobDone s (fun t => t = s))

/-- Transfers of the DMA engine (R345, R347, R349 to R354): arming hands the shadow over to an empty active set and waits otherwise; a grant takes the
picked channel and fetches the first entries of both its lists; an entry that completes raises its event; an error makes its entry bad, logged and counted
once; an access without response ends with TIMEOUT and its later response is dropped; a list that cannot be fetched stops the transfer; a transfer that is over leaves
its result, its events and the next armed set. -/
def Obligations.DmaTransfers : Prop :=
  (∀ (s : State) (c : Fin 16), s.canonical = true → s.dmaState c = 0 → Completes (.dmaArm c) s (fun t =>
      t.dmaState c = 1 ∧ t.getPair .DMA_ASRC_L .DMA_ASRC_H c = s.getPair .DMA_SSRC_L .DMA_SSRC_H c % 2 ^ 40 ∧
      t.getPair .DMA_ADST_L .DMA_ADST_H c = s.getPair .DMA_SDST_L .DMA_SDST_H c % 2 ^ 40 ∧
      t.fld F.DMA_ACTRL_PRIO c = s.fld F.DMA_SCTRL_PRIO c ∧ t.fld F.DMA_ACTRL_SRC_W c = s.fld F.DMA_SCTRL_SRC_W c ∧
      t.fld F.DMA_ACTRL_DST_W c = s.fld F.DMA_SCTRL_DST_W c ∧
      t.fld F.DMA_ACTRL_DST_KIND c = s.fld F.DMA_SCTRL_DST_KIND c ∧ t.fld F.DMA_SCTRL_ARMED c = 0 ∧
      bitAt (t.fld F.DMA_STATUS_LOADED) c = true ∧
      ChangesOnly [.dma, .reg .DMA_ACTRL, .reg .DMA_ASRC_L, .reg .DMA_ASRC_H, .reg .DMA_ADST_L, .reg .DMA_ADST_H,
        .reg .DMA_SCTRL, .reg .DMA_STATUS] s t)) ∧
  (∀ (s : State) (c : Fin 16), s.canonical = true → s.dmaState c ≠ 0 → Completes (.dmaArm c) s (fun t =>
      t.fld F.DMA_SCTRL_ARMED c = 1 ∧ ChangesOnly [.reg .DMA_SCTRL] s t)) ∧
  (∀ (s : State) (c a b : Nat), s.canonical = true → s.dma.run = none → s.mode ≠ .standby → s.mode ≠ .dark →
    s.bit F.DMA_CTRL_EN = true → s.dmaPick = some c → a = s.getPair .DMA_ASRC_L .DMA_ASRC_H c →
    b = s.getPair .DMA_ADST_L .DMA_ADST_H c → a % 8 = 0 → b % 8 = 0 → a + 8 ≤ s.memCapacity → a < 0x2000000000 →
    b + 8 ≤ s.memCapacity → b < 0x2000000000 → s.mem.done = [] → s.glb.trans = none → s.glb.pend = none →
    Completes .dmaGrant s (fun t => t.dma.last = c ∧ t.dmaState c = 2 ∧ t.fld F.DMA_STATUS_BUSY = 1 ∧
      t.fld F.DMA_STATUS_CUR = c ∧
      t.dma.run = some ⟨c, ⟨a, true, false, 0, []⟩, ⟨b, true, false, 0, []⟩, [], [], 0, 0, 0, false⟩ ∧
      t.mem.ops = s.mem.ops ++ [⟨s.mem.nextOp, .dmaList c true, 4, false, a, List.replicate 8 0, 1, none, [], s.clk⟩,
        ⟨s.mem.nextOp + 1, .dmaList c false, 4, false, b, List.replicate 8 0, 1, none, [], s.clk⟩] ∧ t.mem.done = [])) ∧
  (∀ s : State, s.dma.run ≠ none ∨ s.mode = .standby ∨ s.mode = .dark ∨ s.glb.trans = some (.leaveHold true) →
    Completes .dmaGrant s (fun t => t = s)) ∧
  (∀ s : State, s.dma.run = none → s.bit F.DMA_CTRL_EN = false ∨ s.dmaPick = none → s.mem.done = [] →
    s.glb.trans = none → s.glb.pend = none → Completes .dmaGrant s (fun t => t = s) ∧
      Completes .dmaEntryComplete s (fun t => t = s)) ∧
  (∀ (s : State) (r : DmaRun) (i : Nat) (bad : Bool) (rest : List (Nat × Bool)), s.dma.run = some r →
    s.dma.complete = (i, bad) :: rest → Completes .dmaEntryComplete s (fun t =>
      t.dma = { s.dma with
        complete := rest
        desc := if s.dma.descEvt.getD r.chan false && !bad then s.dma.desc.set r.chan (s.dma.desc.getD r.chan 0 + 1)
          else s.dma.desc } ∧ ChangesOnly [.dma] s t)) ∧
  (∀ (s : State) (r : DmaRun) (x : DmaErr) (rest : List DmaErr) (e : DmaEntry), s.canonical = true →
    s.dma.run = some r → r.chan < 16 → r.quiet = true → s.dma.errs = x :: rest → x.source = false →
    r.dst.entries.find? (fun y => y.idx == x.which) = some e → e.bad = none → s.mem.done = [] → s.glb.trans = none →
    s.glb.pend = none → Completes .dmaBeatError s (fun t => t.dma.errs = rest ∧ Counted s t .DMA_BADDESC_CNT ∧
      t.bit ⟨.DMA_EVENT, 16 + r.chan, 1⟩ 0 = true ∧ DmaLogged s t (dmaLogWord r.chan true x.kind x.which) ∧
      ∃ q, t.dma.run = some q ∧ q.badEntries = r.badEntries + 1)) ∧
  (∀ (s : State) (r : DmaRun) (x : DmaErr) (rest : List DmaErr) (e : DmaEntry), s.canonical = true →
    s.dma.run = some r → r.quiet = true → s.dma.errs = x :: rest → x.source = false →
    r.dst.entries.find? (fun y => y.idx == x.which) = some e → e.bad ≠ none → s.mem.done = [] → s.glb.trans = none →
    s.glb.pend = none → Completes .dmaBeatError s (fun t => t.dma.errs = rest ∧ t.dma.log = s.dma.log ∧
      t.rd .DMA_BADDESC_CNT = s.rd .DMA_BADDESC_CNT ∧ ∃ q, t.dma.run = some q ∧ q.badEntries = r.badEntries)) ∧
  (∀ s : State, s.dma.errs = [] → Completes .dmaBeatError s (fun t => t = s)) ∧
  (∀ (s : State) (r : DmaRun) (o : MemOp) (ch serial entry : Nat), s.canonical = true → s.dma.run = some r →
    r.quiet = true → s.mem.ops.find? (fun y => y.ofDma) = some o → o.owner = .dmaWrite ch serial entry →
    s.mem.done = [] → s.glb.trans = none → s.glb.pend = none → Completes .dmaTimeout s (fun t =>
      Counted s t .DMA_TMO_CNT ∧ t.dma.errs = s.dma.errs ++ [⟨false, entry, 3⟩] ∧
      t.mem.ops = s.mem.ops.map (fun y => if y.id == o.id then { y with owner := .dropped } else y))) ∧
  (∀ s : State, s.mem.ops.find? (fun y => y.ofDma) = none → Completes .dmaTimeout s (fun t => t = s)) ∧
  (∀ (s : State) (r : DmaRun) (source : Bool), s.canonical = true → s.dma.run = some r → s.dma.listFail = some source →
    r.stop = false → Completes .dmaListFetchFail s (fun t =>
      DmaLogged s t (dmaLogWord r.chan (!source) 5 (r.side source).count) ∧ t.dmaState r.chan = 3 ∧
      ∃ q, t.dma.run = some q ∧ q.stop = true ∧ q.chan = r.chan ∧ q.badEntries = r.badEntries)) ∧
  (∀ s : State, s.dma.listFail = none ∨ s.dma.run = none → Completes .dmaListFetchFail s (fun t => t = s)) ∧
  (∀ (s : State) (r : DmaRun), s.canonical = true → s.dma.run = some r → r.chan < 16 → s.dmaOver r = true →
    s.glb.trans = none → s.glb.pend = none → Completes .dmaTransferComplete s (fun t => t.dma.run = none ∧
      t.fld F.DMA_ARES_RESULT r.chan = r.finalResult s.dma.listFail.isSome ∧
      t.fld F.DMA_ARES_BAD r.chan = min r.badEntries 65535 ∧ t.fld F.DMA_STATUS_BUSY = 0 ∧
      t.dmaState r.chan = b2n (s.bit F.DMA_SCTRL_ARMED r.chan) ∧
      bitAt (t.fld F.DMA_STATUS_LOADED) r.chan = s.bit F.DMA_SCTRL_ARMED r.chan ∧ Counted s t .DMA_XFER_CNT ∧
      t.bit ⟨.DMA_EVENT, r.chan, 1⟩ 0 = true)) ∧
  (∀ s : State, s.dma.run = none → Completes .dmaTransferComplete s (fun t => t = s)) ∧
  (∀ s : State, s.canonical = true → Completes .dmaErrlogPop s (fun t => t.dma = { s.dma with log := s.dma.log.drop 1 } ∧
    t.rd .DMA_ERRLOG = (s.dma.log.drop 1).headD 0 ∧ ChangesOnly [.dma, .reg .DMA_ERRLOG] s t))

/-- Accesses to memory (R364, R366, R367, R373 to R376): a slot issues the column command of an eligible piece whose row is open,
and opens the row of one whose bank is closed; a write that is done is in memory, byte by byte, and no other byte changes; a
piece of a read returns its bytes; a poisoned line is counted; a write CRC error replays the write. The statements name states
in which no access waits to be answered. -/
def Obligations.MemoryAccesses : Prop :=
  (∀ (s u : State) (sc : Fin 8) (dt : Nat) (last : Bool) (x : MemTx), s.canonical = true → u = s.advance dt →
    s.bit F.MEM_STATUS_READY = true → s.mem.slice = none → s.mem.migForce = false → s.mem.done = [] →
    s.glb.trans = none → s.glb.pend = none → u.firstOf (u.eligible sc) = some x → s.rowHit x = true →
    Completes (.dramCommandIssue sc dt last) s (fun t => t.mem.waiting = s.mem.waiting.erase x ∧
      t.mem.issued = s.mem.issued ++ [x] ∧ t.mem.ops = s.mem.ops ∧ t.wire = s.wire ++ [.dramCommand sc
        (if x.write then DramCmd.wr.code else DramCmd.rd.code) (s.memMap x.addr).2])) ∧
  (∀ (s u : State) (sc : Fin 8) (dt : Nat) (last : Bool) (x : MemTx), s.canonical = true → u = s.advance dt →
    s.bit F.MEM_STATUS_READY = true → s.mem.slice = none → s.mem.migForce = false → s.mem.done = [] →
    s.glb.trans = none → s.glb.pend = none → u.firstOf (u.eligible sc) = some x →
    s.openRow (s.txRank x) (s.bankOf (s.memMap x.addr).2) = none →
    Completes (.dramCommandIssue sc dt last) s (fun t => t.mem.waiting = s.mem.waiting ∧ t.mem.issued = s.mem.issued ∧
      t.rowHit x = true ∧ t.wire = s.wire ++ [.dramCommand sc DramCmd.act.code (s.memMap x.addr).2])) ∧
  (∀ (s : State) (sc : Fin 8) (dt : Nat) (x : MemTx) (o : MemOp), s.canonical = true →
    s.oldestIssued sc true = some x → s.mem.ops.find? (fun y => y.id == x.op) = some o → x.write = true →
    x.addr - o.addr + x.len ≤ o.data.length → Completes (.memWriteComplete sc dt) s (fun t =>
      (∀ k, k < x.len → t.dramByte (x.addr + k) = o.data.getD (x.addr - o.addr + k) 0) ∧
      (∀ a, a < x.addr ∨ x.addr + x.len ≤ a → t.dramByte a = s.dramByte a))) ∧
  (∀ (s : State) (sc : Fin 8) (dt : Nat), s.oldestIssued sc true = none →
    Completes (.memWriteComplete sc dt) s (fun t => t = s.advance dt)) ∧
  (∀ (s : State) (sc : Fin 8) (dt : Nat) (x : MemTx) (o : MemOp), s.canonical = true →
    s.oldestIssued sc false = some x → s.mem.poison.contains (x.addr / 64) = false → x.write = false →
    s.mem.ops.find? (fun y => y.id == x.op) = some o → 2 ≤ o.left → s.mem.done = [] → s.glb.trans = none →
    s.glb.pend = none → Completes (.memReadComplete sc dt .clean) s (fun t =>
      t.mem.issued = s.mem.issued.erase x ∧ t.mem.done = [] ∧
      t.mem.ops = s.mem.ops.map (fun y => if y.id == o.id then { o with
        data := patch o.data (x.addr - o.addr) (s.dramRead x.addr x.len), left := o.left - 1 } else y) ∧
      (∀ a, t.dramByte a = s.dramByte a))) ∧
  (∀ (s : State) (sc : Fin 8) (dt : Nat) (out : ReadOutcome), s.oldestIssued sc false = none →
    Completes (.memReadComplete sc dt out) s (fun t => t = s.advance dt)) ∧
  (∀ (s : State) (sc : Fin 8) (x : MemTx), s.canonical = true → s.oldestIssued sc true = some x → x.crc < 3 →
    s.mem.done = [] → s.glb.trans = none → s.glb.pend = none → Completes (.writeCrcAlert sc) s (fun t =>
      t.mem.waiting = { x with crc := x.crc + 1 } :: s.mem.waiting ∧ t.mem.issued = s.mem.issued.erase x ∧
      Counted s t .MEM_CRC_RETRY_CNT ∧ (∀ a, t.dramByte a = s.dramByte a)))

/-- The upkeep of memory (R367 to R371, R374, R378, R383 to R385): the poll sets the ranks' bands, a tREFI tick adds to a rank's
debt or forces a refresh, the patrol scrub counts what it corrects, the page copy moves its pointer by a page, set points
change on request and complete, and training begins, issues its slices and ends. -/
def Obligations.MemoryUpkeep : Prop :=
  (∀ (s : State) (bands : List (Fin 4)) (r : Fin 16), s.canonical = true → s.bit F.MEM_STATUS_READY = true →
    s.inService r = true → Completes (.memBandPoll bands) s (fun t => t.bandOfRank r = (bands.getD r 0).val ∧
      t.mem.ops = s.mem.ops)) ∧
  (∀ (s : State) (bands : List (Fin 4)), s.bit F.MEM_STATUS_READY = false →
    Completes (.memBandPoll bands) s (fun t => t = s)) ∧
  (∀ (s : State) (rank : Fin 16), s.canonical = true → s.bit F.MEM_STATUS_READY = true →
    rank.val % 2 < s.memRanks → (s.memRank rank).selfRef = false → s.rankRetired rank = false →
    (s.debt rank + 1 < 5 → Completes (.refreshTick rank) s (fun t => t.debt rank = s.debt rank + 1 ∧
      t.wire = s.wire ∧ t.mem = s.mem)) ∧
    (5 ≤ s.debt rank + 1 → Completes (.refreshTick rank) s (fun t => t.debt rank = 4 ∧
      t.wire = s.wire ++ [.dramCommand (rank / 2) DramCmd.ref.code rank] ∧
      t.mem.rows = s.mem.rows.filter (fun e => e.1 / 32 != rank.val)))) ∧
  (∀ (s : State) (rank : Fin 16), (s.memRank rank).selfRef = true ∨ s.rankRetired rank = true →
    Completes (.refreshTick rank) s (fun t => t = s)) ∧
  (∀ (s : State) (rank : Fin 16) (line : Nat), s.canonical = true → s.bit F.MEM_CFG_SCRUB_EN = true →
    s.bit F.MEM_STATUS_READY = true → s.inService rank = true → line < 2 ^ 27 →
    s.mem.poison.contains ((s.memUnmap rank (64 * line)).getD (64 * line) / 64) = false → s.mem.done = [] →
    s.glb.trans = none → s.glb.pend = none → Completes (.patrolScrub rank line .clean) s (fun t => t = s) ∧
      ((∀ x ∈ s.mem.waiting, x.port ≠ 2 ∨ x.write = true) → Completes (.patrolScrub rank line .corrected) s (fun t => Counted s t .MEM_SCRUB_FIX_CNT ∧
        Counted s t .MEM_CE_CNT))) ∧
  (∀ s : State, s.canonical = true → s.copying = true → s.migK + 4096 < 2 ^ 33 → s.mem.done = [] →
    s.glb.trans = none → s.glb.pend = none → Completes (.migrationPageCopy []) s (fun t => t.migK = s.migK + 4096 ∧
      t.mem.migForce = false ∧ t.fld F.MEM_STATUS_MIG = 1 ∧ t.mem.poison = s.mem.poison)) ∧
  (∀ s : State, s.copying = true → s.fld F.MEM_MIG_CFG_FLOOR ≠ 0 → Completes .migrationFloor s (fun t =>
    t.mem = { s.mem with migForce := true } ∧ ChangesOnly [.mem] s t)) ∧
  (∀ s : State, s.copying = false ∨ s.fld F.MEM_MIG_CFG_FLOOR = 0 → Completes .migrationFloor s (fun t => t = s)) ∧
  (∀ s : State, s.copying = false → ∀ ue, Completes (.migrationPageCopy ue) s (fun t => t = s)) ∧
  (∀ (s : State) (fsp : Fin 2), s.canonical = true → s.mode = .hold → s.glb.trans = none → s.glb.pend = none →
    s.mem.change = none → s.fld F.MEM_STATUS_FSP ≠ fsp.val → Completes (.fspRequest fsp) s (fun t =>
      t.mem.change = some (fsp.val, s.mem.nextOp) ∧ t.fld F.MEM_STATUS_CHANGING = 1 ∧ t.fld F.MEM_STATUS_READY = 0 ∧
      t.rd .MEM_FSP_REFUSE_CNT = s.rd .MEM_FSP_REFUSE_CNT)) ∧
  (∀ (s : State) (fsp : Fin 2), s.canonical = true → s.mode ≠ .hold → s.glb.trans = none → s.glb.pend = none →
    Completes (.fspRequest fsp) s (fun t => t.mem = s.mem ∧ t.fld F.MEM_EVENT_FSP_REFUSED = 1 ∧
      Counted s t .MEM_FSP_REFUSE_CNT)) ∧
  (∀ (s : State) (f : Nat) (first : Nat), s.canonical = true → s.mem.change = some (f, first) → f < 2 →
    s.mem.held = none → (∀ o ∈ s.mem.ops, first ≤ o.id) → s.glb.trans = none → s.glb.pend = none →
    Completes .fspChangeDone s (fun t => t.mem.change = none ∧ t.fld F.MEM_STATUS_FSP = f ∧
      t.fld F.MEM_STATUS_CHANGING = 0 ∧ t.fld F.MEM_STATUS_READY = 1 ∧ t.fld F.MEM_EVENT_FSP_DONE = 1 ∧
      Counted s t .MEM_FSP_CNT)) ∧
  (∀ (s : State) (r : Nat), s.canonical = true → s.bit F.MEM_STATUS_READY = true → s.fld F.MEM_TRN_CFG_PERIOD ≠ 0 →
    s.mem.slice = none → ((List.range 16).map (fun i => (s.mem.trainRank + i) % 16)).find? s.inService = some r →
    Completes .trainingPeriod s (fun t => t.mem.slice = some (r, false) ∧ t.mem.trainRank = (r + 1) % 16 ∧
      t.fld F.MEM_STATUS_TRAINING = 1)) ∧
  (∀ (s : State) (last forced : Bool) (r : Nat), s.canonical = true → s.bit F.MEM_STATUS_READY = true →
    s.mem.slice = some (r, forced) → Completes (.trainingSliceForce last) s (fun t =>
      t.wire = s.wire ++ [.dramCommand (r / 2) DramCmd.slice.code r] ∧
      t.mem.slice = (if last then none else some (r, false)) ∧
      t.fld F.MEM_STATUS_TRAINING = (if last then 0 else s.fld F.MEM_STATUS_TRAINING)))

/-- The states of a serial lane (R391 to R395, R400): a lane that has locked and adapted goes from ACQ to UP, or to LOW at one eighth of the rate, or
straight to a requested test; a lane that loses lock in UP retrains, is counted and named, and its owner loses it (a camera port in ALIGN
only a lane that had locked); a loss in the cycle of a RETRAIN only gives its cause and count; a second bad window sends every lane of the reference to ACQ; a
slip moves the boundary; DEEP stops a lane; nothing of this touches a lane that is not in the state the rule names. -/
def Obligations.LaneStates : Prop :=
  (∀ (s : State) (l : Fin 104) (ctle : Fin 16) (gain : Fin 64) (dfe : List Byte), s.canonical = true → s.laneSt l = .acq →
    s.refOk l = true → Completes (.laneAcqDone l ctle gain dfe) s (fun t =>
      t.laneSt l = (if (s.lane l).eighth then .low
        else if s.bit F.LNE_TEST_EN l && s.laneReleased l then .test else .up) ∧
      t.fld F.LNE_STATE_PLL_LOCK l = 1 ∧ t.fld F.LNE_STATE_CDR_LOCK l = 1 ∧ t.fld F.LNE_STATE_RETRAINING l = 0 ∧
      t.fld F.LNE_STATE_SLIP_POS l = 0 ∧ t.fld F.LNE_STATE_HDR_RUN l = 0 ∧
      t.rd .LNE_RETRAIN_CNT l = s.rd .LNE_RETRAIN_CNT l ∧
      (l.val < s.lne.lanes.length → (t.lane l).ctle = ctle ∧ (t.lane l).gain = gain ∧
        t.fld F.LNE_RXEQ_CTLE l = ctle ∧ t.fld F.LNE_RXEQ_GAIN l = gain))) ∧
  (∀ (s : State) (l : Fin 104) (ctle : Fin 16) (gain : Fin 64) (dfe : List Byte),
    s.laneSt l ≠ .acq ∨ s.refOk l = false → Completes (.laneAcqDone l ctle gain dfe) s (fun t => t = s)) ∧
  (∀ (s : State) (l : Fin 104) (signal : Bool), s.canonical = true → s.laneSt l = .up →
    Completes (.laneLockLoss l signal) s (fun t => t.laneSt l = .acq ∧ t.fld F.LNE_STATE_RETRAINING l = 1 ∧
      t.fld F.LNE_STATE_HDR_OK l = 0 ∧ Counted s t .LNE_RETRAIN_CNT l ∧ Counted s t .LNE_LOCKLOSS_CNT l ∧
      t.fld F.LNE_EVENT_RETRAIN = 1 ∧ t.fld F.LNE_EVENT_LOCK_LOSS = 1 ∧
      (isCamLane l = true → t.fld F.LNE_LAST_LANE = l ∧ t.fld F.LNE_LAST_CAUSE = (if signal then 2 else 1) ∧
        (s.camSt (l.val / 4) ≠ 0 → s.camSt (l.val / 4) ≠ 1 ∨ s.bit F.LNE_STATE_HDR_OK l = true →
          t.camSt (l.val / 4) = 5)) ∧
      (isFabLane l = true → s.fabSt ((l.val - 64) / 4) = .up ∨ s.fabSt ((l.val - 64) / 4) = .hello →
        t.fabSt ((l.val - 64) / 4) = .link ∧ Counted s t .FAB_DOWN_CNT ((l.val - 64) / 4)))) ∧
  (∀ (s : State) (l : Fin 104), s.canonical = true → s.laneSt l = .up →
    Completes (.laneRetrain l) s (fun t => t.laneSt l = .acq ∧ t.fld F.LNE_STATE_RETRAINING l = 1 ∧
      Counted s t .LNE_RETRAIN_CNT l ∧ t.rd .LNE_LOCKLOSS_CNT l = s.rd .LNE_LOCKLOSS_CNT l ∧
      t.fld F.LNE_EVENT_RETRAIN = 1 ∧ (isCamLane l = true → t.fld F.LNE_LAST_LANE = l ∧ t.fld F.LNE_LAST_CAUSE = 4))) ∧
  (∀ (s : State) (l : Fin 104) (signal : Bool), s.laneSt l ≠ .up → Completes (.laneRetrain l) s (fun t => t = s) ∧
    (s.retrainedNow l = false → Completes (.laneLockLoss l signal) s (fun t => t = s)) ∧
    (s.retrainedNow l = true → s.canonical = true → Completes (.laneLockLoss l signal) s (fun t =>
      t.laneSt l = .acq ∧ t.fld F.LNE_LAST_CAUSE = (if signal then 2 else 1) ∧ Counted s t .LNE_LOCKLOSS_CNT l ∧
      t.fld F.LNE_EVENT_LOCK_LOSS = 1 ∧ t.rd .LNE_RETRAIN_CNT l = s.rd .LNE_RETRAIN_CNT l))) ∧
  (∀ (s : State) (host : Bool) (count : Nat), s.canonical = true → count < 1552 ∨ 1566 < count →
    s.lne.refBad.getD (b2n host) 0 = 1 → Completes (.refclkWindow host count) s (fun t =>
      t.fld (if host then F.LNE_STATUS_REF_HOST_OK else F.LNE_STATUS_REF_CAM_OK) = 0 ∧
      t.fld (if host then F.LNE_EVENT_REF_HOST_LOSS else F.LNE_EVENT_REF_CAM_LOSS) = 1 ∧
      ∀ l < 104, isHostLane l = host → s.laneSt l = .up ∨ s.laneSt l = .low ∨ s.laneSt l = .test → t.laneSt l = .acq)) ∧
  (∀ (s : State) (host : Bool) (count : Nat), count < 1552 ∨ 1566 < count → s.lne.refBad.getD (b2n host) 0 ≠ 1 →
    Completes (.refclkWindow host count) s (fun t =>
      t.lne = { s.lne with
        refBad := s.lne.refBad.set (b2n host) (min (s.lne.refBad.getD (b2n host) 0 + 1) 2)
        refGood := s.lne.refGood.set (b2n host) 0 } ∧ ChangesOnly [.lne] s t)) ∧
  (∀ (s : State) (host : Bool) (count : Nat), s.canonical = true → 1552 ≤ count → count ≤ 1566 →
    Completes (.refclkWindow host count) s (fun t =>
      t.lne = { s.lne with
        refBad := s.lne.refBad.set (b2n host) 0
        refGood := s.lne.refGood.set (b2n host) (min (s.lne.refGood.getD (b2n host) 0 + 1) 10) } ∧
      t.fld (if host then F.LNE_STATUS_REF_HOST_OK else F.LNE_STATUS_REF_CAM_OK) =
        (if 9 ≤ s.lne.refGood.getD (b2n host) 0 then 1
          else s.fld (if host then F.LNE_STATUS_REF_HOST_OK else F.LNE_STATUS_REF_CAM_OK)) ∧
      ChangesOnly [.lne, .reg .LNE_STATUS] s t)) ∧
  (∀ (s : State) (l : Fin 104), s.canonical = true → isHostLane l = false → s.laneSt l = .up →
    Completes (.laneSlip l) s (fun t => t.fld F.LNE_STATE_SLIP_POS l = (s.fld F.LNE_STATE_SLIP_POS l + 1) % 66 ∧
      t.fld F.LNE_STATE_HDR_RUN l = 0 ∧ t.fld F.LNE_STATE_HDR_OK l = 0 ∧ t.laneSt l = .up ∧
      ChangesOnly [.lne, .reg .LNE_STATE] s t)) ∧
  (∀ (s : State) (l : Fin 104), isHostLane l = true ∨ s.laneSt l ≠ .up → Completes (.laneSlip l) s (fun t => t = s)) ∧
  (∀ (s : State) (l : Fin 104), s.canonical = true →
    s.laneSt l = .up ∨ s.laneSt l = .acq ∧ (s.lane l).eighth = false → Completes (.laneDeep l true) s (fun t =>
      t.laneSt l = .deep ∧ t.fld F.LNE_CTL_DEEP l = 1 ∧ t.fld F.LNE_STATE_PLL_LOCK l = 0 ∧
      t.rd .LNE_RETRAIN_CNT l = s.rd .LNE_RETRAIN_CNT l)) ∧
  (∀ (s : State) (l : Fin 104), s.canonical = true → s.laneSt l = .deep → Completes (.laneDeep l false) s (fun t =>
      t.laneSt l = (if s.mode = .standby then .deep else .acq) ∧ t.fld F.LNE_CTL_DEEP l = 0 ∧
      t.fld F.LNE_STATE_RETRAINING l = (if s.mode = .standby then s.fld F.LNE_STATE_RETRAINING l else 0)))

/-- Test patterns and adaptation of a lane (R398, R404 to R406): a test request is granted in UP when the owner has released the lane and refused
when it has not, and its end returns the lane to ACQ; a new window length abandons the windows that run; the checker locks, counts what it is told, and ends a
window with its result, its number and an event, or loses lock and abandons it; adaptation moves one setting by one step, at most once in 40 µs. -/
def Obligations.LaneTests : Prop :=
  (∀ (s : State) (l : Fin 104) (v : Word), s.canonical = true → v.getLsbD 0 = true → s.laneSt l = .test →
    Completes (.laneTestRequest l v) s (fun t => t.rd .LNE_TEST l = v &&& 0x7F ∧ t.laneSt l = .test ∧
      t.fld F.LNE_TSTAT_TSTATE l = s.fld F.LNE_TSTAT_TSTATE l ∧ ChangesOnly [.lne, .reg .LNE_TEST, .reg .LNE_TSTAT] s t)) ∧
  (∀ (s : State) (l : Fin 104) (v : Word), s.canonical = true → v.getLsbD 0 = true → s.laneSt l ≠ .test →
    s.laneReleased l = true → Completes (.laneTestRequest l v) s (fun t => t.rd .LNE_TEST l = v &&& 0x7F ∧
      t.laneSt l = (if s.laneSt l = .up then .test else s.laneSt l) ∧
      t.fld F.LNE_TSTAT_TSTATE l = (if s.laneSt l = .up then 1 else 0) ∧
      ChangesOnly [.lne, .reg .LNE_TEST, .reg .LNE_STATE, .reg .LNE_TSTAT] s t)) ∧
  (∀ (s : State) (l : Fin 104) (v : Word), s.canonical = true → v.getLsbD 0 = true → s.laneSt l ≠ .test →
    s.laneReleased l = false → Completes (.laneTestRequest l v) s (fun t => t.rd .LNE_TEST l = v &&& 0x7F ∧
      t.laneSt l = s.laneSt l ∧ t.fld F.LNE_TSTAT_TSTATE l = 2 ∧ t.fld F.LNE_EVENT_TEST_REFUSED = 1)) ∧
  (∀ (s : State) (l : Fin 104) (v : Word), s.canonical = true → v.getLsbD 0 = false →
    Completes (.laneTestRequest l v) s (fun t => t.rd .LNE_TEST l = v &&& 0x7F ∧
      t.laneSt l = (if s.laneSt l = .test then .acq else s.laneSt l) ∧ t.fld F.LNE_TSTAT_TSTATE l = 0)) ∧
  (∀ (s : State) (v : Word), s.canonical = true → Completes (.berCfgWrite v) s (fun t =>
      t.rd .LNE_BER_CFG = v &&& 0x1F ∧
      (∀ l < 104, t.fld F.LNE_TSTAT_ABANDON l = (if (s.lane l).window then 1 else s.fld F.LNE_TSTAT_ABANDON l)) ∧
      ChangesOnly [.reg .LNE_BER_CFG, .reg .LNE_TSTAT] s t)) ∧
  (∀ (s : State) (l : Fin 104), s.canonical = true → s.laneSt l = .test → s.bit F.LNE_TEST_CHK l = true →
    s.bit F.LNE_TSTAT_LOCKED l = false → Completes (.prbsCheckerLock l) s (fun t =>
      t.fld F.LNE_TSTAT_LOCKED l = 1 ∧ t.lne = { s.lne with lanes := s.lne.lanes.set l { s.lane l with window := true } } ∧
      ChangesOnly [.lne, .reg .LNE_TSTAT] s t)) ∧
  (∀ (s : State) (l : Fin 104) (n : Nat), s.canonical = true → s.laneSt l = .test → s.bit F.LNE_TEST_CHK l = true →
    s.bit F.LNE_TSTAT_LOCKED l = true → Completes (.prbsCheckerLoss l n) s (fun t =>
      Counted s t .LNE_PRBS_ERR l n ∧ t.fld F.LNE_TSTAT_LOCKED l = 0 ∧
      t.fld F.LNE_TSTAT_LOSS_CNT l = (s.fld F.LNE_TSTAT_LOSS_CNT l + 1) % 256 ∧
      t.fld F.LNE_TSTAT_ABANDON l = (if (s.lane l).window then 1 else s.fld F.LNE_TSTAT_ABANDON l) ∧
      t.lne = { s.lne with lanes := s.lne.lanes.set l { s.lane l with window := false } } ∧
      ChangesOnly [.lne, .reg .LNE_PRBS_ERR, .reg .LNE_TSTAT] s t)) ∧
  (∀ (s : State) (l : Fin 104) (n : Nat), s.canonical = true → s.laneSt l = .test → s.bit F.LNE_TEST_CHK l = true →
    s.bit F.LNE_TSTAT_LOCKED l = true → (s.lane l).window = true → Completes (.berWindowEnd l n) s (fun t =>
      Counted s t .LNE_PRBS_ERR l n ∧ (t.rd .LNE_BER_RES l).toNat = min n 0xFFFFFFFF ∧
      t.fld F.LNE_TSTAT_WSEQ l = (s.fld F.LNE_TSTAT_WSEQ l + 1) % 256 ∧ t.fld F.LNE_TSTAT_ABANDON l = 0 ∧
      t.fld F.LNE_TSTAT_LOCKED l = 1 ∧ t.fld F.LNE_EVENT_BER_DONE = 1 ∧
      ChangesOnly (eventParts ++ [.reg .LNE_PRBS_ERR, .reg .LNE_BER_RES, .reg .LNE_TSTAT, .reg .LNE_EVENT]) s t)) ∧
  (∀ (s : State) (l : Fin 104) (n : Nat), s.laneSt l ≠ .test ∨ s.bit F.LNE_TEST_CHK l = false →
    Completes (.prbsCheckerLock l) s (fun t => t = s) ∧ Completes (.prbsCheckerLoss l n) s (fun t => t = s) ∧
      Completes (.berWindowEnd l n) s (fun t => t = s)) ∧
  (∀ (s u : State) (dt : Nat) (l : Fin 104) (up : Bool), s.canonical = true → u = s.advance dt → u.laneSt l = .up →
    u.bit F.LNE_CFG_ADAPT l = true → (u.lane l).stepAt = 0 ∨ (u.lane l).stepAt + 40000 ≤ u.clk + 1 →
    Completes (.adaptationStep dt l 0 up) s (fun t => t.lne = { u.lne with lanes := u.lne.lanes.set l { u.lane l with
        ctle := if up then min ((u.lane l).ctle + 1) 15 else (u.lane l).ctle - 1, stepAt := u.clk + 1 } } ∧
        ChangesOnly [.lne, .reg .LNE_RXEQ] u t) ∧
      Completes (.adaptationStep dt l 1 up) s (fun t => t.lne = { u.lne with lanes := u.lne.lanes.set l { u.lane l with
        gain := if up then min ((u.lane l).gain + 1) 63 else (u.lane l).gain - 1, stepAt := u.clk + 1 } } ∧
        ChangesOnly [.lne, .reg .LNE_RXEQ] u t) ∧
      (∀ k : Fin 12, 2 ≤ k.val → Completes (.adaptationStep dt l k up) s (fun t =>
        t.lne = { u.lne with lanes := u.lne.lanes.set l { u.lane l with
          dfe := (u.lane l).dfe.set (k.val - 2) (BitVec.ofInt 8 (clampI (-128) 127
            (((u.lane l).dfe.getD (k.val - 2) 0).toInt + (if up then 1 else -1)))), stepAt := u.clk + 1 } } ∧
        ChangesOnly [.lne, .reg .LNE_RXEQ] u t))) ∧
  (∀ (s u : State) (dt : Nat) (l : Fin 104) (k : Fin 12) (up : Bool), u = s.advance dt →
    u.laneSt l ≠ .up ∨ u.bit F.LNE_CFG_ADAPT l = false ∨ (u.lane l).stepAt ≠ 0 ∧ u.clk + 1 < (u.lane l).stepAt + 40000 →
    Completes (.adaptationStep dt l k up) s (fun t => t = u))

/-- Blocks on a lane (R74, R76, R400, R401): a low-rate lane sends KEEP with its address and mode, shows the partner's, drops the sign after 100 µs, and
its WAKE is an event that may end STANDBY; 64 valid headers lock a lane; an invalid block, for its sync header or its type, is counted and, the sixteenth of 64 on a locked lane, loses it; markers
more than 32 blocks apart, or missing twice in a row, lose it as well. -/
def Obligations.LaneBlocks : Prop :=
  (∀ (s : State) (l : Fin 104), s.laneSt l = .low → Completes (.keepBlockSend l) s (fun t =>
      t = { s with wire := s.wire ++ [.laneBlock l 0xB4 (s.fabAddr.toNat * 2 ^ 44 + s.mode.code * 2 ^ 40)] })) ∧
  (∀ (s : State) (l : Fin 104) (a : FabAddr) (m : Fin 16), s.canonical = true → s.laneSt l = .low →
    Completes (.keepBlockRx l a m) s (fun t => t.fld F.LNE_STATE_KA l = 1 ∧ t.laneSt l = .low ∧
      ChangesOnly [.reg .LNE_STATE] s t)) ∧
  (∀ (s : State) (l : Fin 104), s.canonical = true → s.laneSt l = .low → Completes (.keepaliveLost l) s (fun t =>
      t.fld F.LNE_STATE_KA l = 0 ∧ t.fld F.LNE_EVENT_KA_LOST = 1 ∧ t.laneSt l = .low ∧
      ChangesOnly (eventParts ++ [.reg .LNE_STATE, .reg .LNE_EVENT, .reg .LNE_LAST]) s t)) ∧
  (∀ (s : State) (l : Fin 104), s.canonical = true → s.laneSt l = .low → Completes (.wakeBlockRx l) s (fun t =>
      t.fld F.LNE_EVENT_WAKE = 1 ∧
      (if s.mode = .standby ∧ s.glb.trans = none ∧ s.bit F.GLB_WAKE_CFG_LANE = true
        then t.glb.trans = some .wakeUp ∧ t.fld F.GLB_STATUS_VERIFY = 1
        else ChangesOnly (eventParts ++ [.reg .LNE_EVENT]) s t))) ∧
  (∀ (s : State) (l : Fin 104) (a : FabAddr) (m : Fin 16), s.laneSt l ≠ .low →
    Completes (.keepBlockSend l) s (fun t => t = s) ∧ Completes (.keepBlockRx l a m) s (fun t => t = s) ∧
      Completes (.wakeBlockRx l) s (fun t => t = s) ∧
      (s.laneSt l ≠ .acq → Completes (.keepaliveLost l) s (fun t => t = s))) ∧
  (∀ (s : State) (l : Fin 104), s.canonical = true → s.showsBlocks l = true ∨ s.laneSt l = .low →
    Completes (.blockLock l) s (fun t => t.fld F.LNE_STATE_HDR_RUN l = 64 ∧ t.fld F.LNE_STATE_HDR_OK l = 1 ∧
      ChangesOnly [.reg .LNE_STATE] s t)) ∧
  (∀ (s : State) (l : Fin 104) (since : Nat) (hdr : BitVec 2), s.canonical = true →
    s.showsBlocks l = true ∨ s.laneSt l = .low → s.bit F.LNE_STATE_HDR_OK l = false →
    Completes (.invalidBlock l since hdr) s (fun t =>
      (if s.laneSt l = .low ∨ headerBad hdr = true then Counted s t .LNE_HDR_ERR_CNT l
        else t.rd .LNE_HDR_ERR_CNT l = s.rd .LNE_HDR_ERR_CNT l) ∧
      t.fld F.LNE_STATE_HDR_RUN l = (if headerBad hdr then 0 else min (s.fld F.LNE_STATE_HDR_RUN l + since + 1) 64) ∧
      ChangesOnly [.reg .LNE_STATE, .reg .LNE_HDR_ERR_CNT] s t)) ∧
  (∀ (s : State) (l : Fin 104) (since : Nat) (hdr : BitVec 2) (bs : List Bool), s.canonical = true →
    s.showsBlocks l = true ∨ s.laneSt l = .low → s.bit F.LNE_STATE_HDR_OK l = true →
    bs = lastN 64 ((s.lane l).blocks ++ List.replicate (min since 64) true ++ [false]) →
    (bs.filter (fun b => !b)).length < 16 → Completes (.invalidBlock l since hdr) s (fun t =>
      t.lne = { s.lne with lanes := s.lne.lanes.set l { s.lane l with blocks := bs } } ∧ t.laneSt l = s.laneSt l ∧
      t.fld F.LNE_STATE_HDR_OK l = 1 ∧ ChangesOnly [.lne, .reg .LNE_STATE, .reg .LNE_HDR_ERR_CNT] s t)) ∧
  (∀ (s : State) (l : Fin 104) (since : Nat) (hdr : BitVec 2), s.canonical = true → s.bit F.LNE_STATE_HDR_OK l = true →
    16 ≤ ((lastN 64 ((s.lane l).blocks ++ List.replicate (min since 64) true ++ [false])).filter (fun b => !b)).length →
    (s.laneSt l = .low → Completes (.invalidBlock l since hdr) s (fun t => t.fld F.LNE_STATE_HDR_OK l = 0 ∧
      t.fld F.LNE_STATE_HDR_RUN l = 0 ∧ Counted s t .LNE_HDR_ERR_CNT l)) ∧
    (s.laneSt l = .up → isCamLane l = true → s.camSt (l.val / 4) ≠ 0 → Completes (.invalidBlock l since hdr) s
      (fun t => t.camSt (l.val / 4) = 5)) ∧
    (s.laneSt l = .up → isFabLane l = true → s.fabSt ((l.val - 64) / 4) = .up → Completes (.invalidBlock l since hdr) s
      (fun t => t.fabSt ((l.val - 64) / 4) = .link ∧ t.laneSt l = .acq ∧ Counted s t .FAB_DOWN_CNT ((l.val - 64) / 4)))) ∧
  (∀ (s : State) (l : Fin 104) (seq pos : Nat) (u : State), s.showsBlocks l = true →
    s.bit F.LNE_STATE_HDR_OK l = true →
    u = { s with lne := { s.lne with lanes := s.lne.lanes.set l { s.lane l with
      marker := some (seq, pos)
      missed := 0 } } } →
    ((∀ k, u.markerSkew (l.val - l.val % 4) = some k → k ≤ 32) → Completes (.alignBlock l seq pos) s (fun t => t = u)) ∧
    (∀ k, u.markerSkew (l.val - l.val % 4) = some k → 32 < k → isCamLane l = true → s.canonical = true → s.camSt (l.val / 4) ≠ 0 →
      Completes (.alignBlock l seq pos) s (fun t => t.camSt (l.val / 4) = 5))) ∧
  (∀ (s : State) (l : Fin 104), s.showsBlocks l = true → s.bit F.LNE_STATE_HDR_OK l = true →
    ((s.lane l).missed = 0 → Completes (.alignMissing l) s (fun t =>
      t = { s with lne := { s.lne with lanes := s.lne.lanes.set l { s.lane l with missed := 1 } } })) ∧
    ((s.lane l).missed ≠ 0 → isCamLane l = true → s.canonical = true → s.camSt (l.val / 4) ≠ 0 →
      Completes (.alignMissing l) s (fun t => t.camSt (l.val / 4) = 5))) ∧
  (∀ (s : State) (l : Fin 104) (seq pos : Nat), s.showsBlocks l = false ∨ s.bit F.LNE_STATE_HDR_OK l = false →
    Completes (.alignBlock l seq pos) s (fun t => t = s) ∧ Completes (.alignMissing l) s (fun t => t = s))

/-- The host interfaces (R409, R411 to R418, R421, R429): an interface comes up and goes down, transmission fails over to the
other interface, frames start, the flush of a class takes effect, received frames are dropped, counted or queued, and ARP and
echo requests are answered. -/
def Obligations.HostInterfaces : Prop :=
  (∀ (s : State) (j : Fin 16), s.canonical = true → s.ifEnabled j = true → s.ifLanesUp j = true → s.ifUp j = false →
    Completes (.hostIfUp j) s (fun t => t.ifUp j = true ∧ t.fld F.HST_EVENT_LINK_UP = 1 ∧
      (∀ i, i ≠ j.val → t.rd .HST_IF_STATUS i = s.rd .HST_IF_STATUS i))) ∧
  (∀ (s : State) (j : Fin 16) (remote : Bool), s.canonical = true → s.ifUp j = true →
    Completes (.hostIfDown j remote) s (fun t => t.ifUp j = false ∧ t.fld F.HST_EVENT_LINK_DOWN = 1 ∧
      (remote = true → t.fld F.HST_IF_STATUS_RFAULT j = 1) ∧
      (∀ i, i ≠ j.val → t.rd .HST_IF_STATUS i = s.rd .HST_IF_STATUS i))) ∧
  (∀ (s u : State) (dt next : Nat), s.canonical = true → u = s.advance dt →
    next = (if u.activeIf == u.fld F.HST_TX_CFG_PRI then u.fld F.HST_TX_CFG_ALT else u.fld F.HST_TX_CFG_PRI) →
    u.bit F.HST_TX_CFG_ALT_EN = true → u.ifUp u.activeIf = false → u.ifUp next = true →
    ((u.hostIf u.activeIf).downAt + 1000 * atLeast1 (u.fld F.HST_TX_CFG_LINKDN_TMO) ≤ u.clk →
      Completes (.failover dt) s (fun t => t.activeIf = next ∧ t.fld F.HST_STATUS_NOPATH = 0 ∧
        t.fld F.HST_EVENT_FAILOVER = 1 ∧ Counted u t .HST_FAILOVER_CNT)) ∧
    (u.clk < (u.hostIf u.activeIf).downAt + 1000 * atLeast1 (u.fld F.HST_TX_CFG_LINKDN_TMO) →
      Completes (.failover dt) s (fun t => t = u))) ∧
  (∀ (s : State) (j : Fin 16), s.canonical = true → s.ifUp j = true → s.cqHead (j / 4) = none → j.val = s.activeIf →
    s.hst.cueQ ≠ [] → Completes (.hostFrameStart j) s (fun t => (∃ bytes, t.wire = s.wire ++ [.hostFrame j bytes]) ∧
      Counted s t .HST_TX_FRAME_CNT j ∧
      t.hst.cueQ = s.hst.cueQ.drop (fitting (s.payloadWords j - 1) s.hst.cueQ).length)) ∧
  (∀ (s : State) (j : Fin 16), s.canonical = true → s.ifUp j = false → Completes (.hostFrameStart j) s (fun t => t = s)) ∧
  (∀ (s : State), Completes (.frameFlush .cue) s (fun t => t = s) ∧
    Completes (.frameFlush .routine) s (fun t => t.hst.flushRoutine = (s.hst.flushRoutine || !s.hst.routineQ.isEmpty) ∧
      t.hst.flushBulk = s.hst.flushBulk ∧ t.hst.flushJob = s.hst.flushJob) ∧
    Completes (.frameFlush .bulk) s (fun t => t.hst.flushBulk = (s.hst.flushBulk || !s.hst.bulkQ.isEmpty) ∧
      t.hst.flushJob = (s.hst.flushJob || !s.hst.jobQ.isEmpty) ∧ t.hst.flushRoutine = s.hst.flushRoutine)) ∧
  (∀ (s : State) (j : Fin 16) (bytes : List Byte) (fixed bad : Nat), s.canonical = true → s.ifUp j = true →
    Completes (.hostFrameRx j bytes fixed bad) s (fun t =>
      (s.bit F.HST_IF_STATUS_FEC_LOCK j = true → Counted s t .HST_FEC_CORR_CNT j fixed ∧
        Counted s t .HST_FEC_UNCORR_CNT j bad) ∧
      (s.rxKind j bytes = .drop → Counted s t .HST_RX_DROP_CNT j ∧ t.hst = s.hst) ∧
      (s.rxKind j bytes ≠ .drop → Counted s t .HST_RX_FRAME_CNT j ∧ t.rd .HST_RX_DROP_CNT j = s.rd .HST_RX_DROP_CNT j) ∧
      (∀ r, s.rxKind j bytes = .mgmt r → 16 ≤ s.hst.mq.length → Counted s t .HST_MGMT_OVF_CNT ∧ t.hst.mq = s.hst.mq) ∧
      (∀ r, s.rxKind j bytes = .mgmt r → s.hst.mq.length < 16 → t.hst.mq = s.hst.mq ++ [r]))) ∧
  (∀ (s : State) (j : Fin 16) (bytes : List Byte) (fixed bad : Nat), s.ifUp j = false →
    s.bit F.HST_IF_STATUS_FEC_LOCK j = false → Completes (.hostFrameRx j bytes fixed bad) s (fun t => t = s)) ∧
  (∀ (s : State) (j : Fin 16) (sha : BitVec 48) (spa : Word), s.canonical = true →
    (s.hostIf j).rx.find? RxMsg.isArp = some (.arp sha spa) → s.bit F.HST_CTRL_ARP_EN = true →
    j.val < s.hst.ifs.length → Completes (.arpRequest j) s (fun t => Counted s t .HST_ARP_CNT j ∧
      (t.hostIf j).rx = (s.hostIf j).rx.erase (.arp sha spa) ∧
      (t.hostIf j).tx.length = (s.hostIf j).tx.length + 1)) ∧
  (∀ (s : State) (j : Fin 16) (mac : BitVec 48) (ip : Word) (body : List Byte), s.canonical = true →
    (s.hostIf j).rx.find? (fun m => !m.isArp) = some (.icmp mac ip body) → s.bit F.HST_CTRL_ICMP_EN = true →
    body.length ≤ 1476 → j.val < s.hst.ifs.length → Completes (.icmpEchoRequest j) s (fun t =>
      (t.hostIf j).rx = (s.hostIf j).rx.erase (.icmp mac ip body) ∧
      (s.clk < (s.hostIf j).icmpSince + 1000000000 → 1000 ≤ (s.hostIf j).icmpCount →
        Counted s t .HST_RX_DROP_CNT j ∧ (t.hostIf j).tx = (s.hostIf j).tx) ∧
      ((s.hostIf j).icmpCount < 1000 → Counted s t .HST_ICMP_CNT j ∧
        (t.hostIf j).tx.length = (s.hostIf j).tx.length + 1)))

/-- Management sessions (R422, R424, R425): a challenge is answered with a free nonce, an OPEN goes to verification, its token
is refused or its session opens, a CLOSE and an expiry end a session, and a malformed request leaves the queue. -/
def Obligations.ManagementSessions : Prop :=
  (∀ (s : State) (r : MgmtReq), s.canonical = true → s.mqHead 2 = some r → Completes .mgmtChallenge s (fun t =>
    t.hst.mq = s.hst.mq.drop 1 ∧ t.free = s.free + 1 ∧
    t.hst.nonces = s.hst.nonces.filter (fun x => !(x.ip == r.ip && x.port == r.port)) ++
      [⟨r.ip, r.port, Config.freeValue s.free, s.clk⟩] ∧ Counted s t .HST_MGMT_REQ_CNT)) ∧
  (∀ (s : State) (r : MgmtReq), s.mqHead 3 = some r → Completes .mgmtOpen s (fun t =>
    t.hst.mq = s.hst.mq.drop 1 ∧ t.hst.opens = s.hst.opens ++ [r] ∧ ChangesOnly [.hst] s t)) ∧
  (∀ (s : State) (r : MgmtReq) (rest : List MgmtReq) (sigOk : Bool), s.canonical = true → s.hst.opens = r :: rest →
    Completes (.mgmtOpenVerified sigOk) s (fun t => t.hst.opens = rest ∧
      ((sigOk && s.tokenOk r) = false → t.hst.sessions = s.hst.sessions ∧ t.fld F.HST_EVENT_TOKEN_FAIL = 1 ∧
        Counted s t .HST_TOKEN_FAIL_CNT) ∧
      (sigOk = true → s.tokenOk r = true → (∀ k, k < 4 → s.hst.sessions.getD k none ≠ none) →
        t.hst.sessions = s.hst.sessions ∧ t.rd .HST_MGMT_REQ_CNT = s.rd .HST_MGMT_REQ_CNT) ∧
      (sigOk = true → s.tokenOk r = true → s.hst.sessions.getD 0 none = none →
        t.hst.sessCount = nextSession s.hst.sessCount ∧ Counted s t .HST_MGMT_REQ_CNT ∧
        t.hst.sessions = s.hst.sessions.set 0 (some ⟨nextSession s.hst.sessCount, r.ip, r.port, r.words.getD 4 0,
          bitsOf (r.words.getD 3 0).toNat 0 16, none, [], s.clk, s.clk⟩)))) ∧
  (∀ (s : State) (r : MgmtReq) (k : Nat) (x : Session), s.canonical = true → s.mqHead 4 = some r →
    s.mqPop.sessionOf r = some (k, x) → x.order r.rid = .fresh → Completes .mgmtClose s (fun t =>
      t.hst.mq = s.hst.mq.drop 1 ∧ t.hst.sessions = s.hst.sessions.set k none ∧ Counted s t .HST_MGMT_REQ_CNT)) ∧
  (∀ (s : State) (r : MgmtReq) (rest : List MgmtReq), s.canonical = true → s.hst.mq = r :: rest → r.ok = false →
    Completes .mgmtMalformed s (fun t => t.hst.mq = rest ∧ t.hst.sessions = s.hst.sessions ∧
      t.rd .HST_MGMT_REQ_CNT = s.rd .HST_MGMT_REQ_CNT)) ∧
  (∀ (s u : State) (dt : Nat) (k : Fin 4) (x : Session), s.canonical = true → u = s.advance dt →
    u.hst.sessions.getD k none = some x →
    ((x.openedAt + 1000000000 * x.life ≤ u.clk ∨
        x.usedAt + 1000000000 * atLeast1 (u.fld F.HST_MGMT_CFG_IDLE) ≤ u.clk) → Completes (.sessionExpiry dt k) s (fun t =>
      t.hst.sessions = u.hst.sessions.set k none ∧ (u.hst.sessions.length ≤ 4 →
        t.fld F.HST_STATUS_SESS = ((u.hst.sessions.set k none).filter (fun x => x.isSome)).length) ∧
      ChangesOnly [.hst, .reg .HST_STATUS] u t)) ∧
    (u.clk < x.openedAt + 1000000000 * x.life →
      u.clk < x.usedAt + 1000000000 * atLeast1 (u.fld F.HST_MGMT_CFG_IDLE) →
      Completes (.sessionExpiry dt k) s (fun t => t = u))) ∧
  (∀ (s u : State) (dt : Nat) (ip : Word) (port : BitVec 16), u = s.advance dt →
    Completes (.nonceExpiry dt ip port) s (fun t =>
      t.hst.nonces = u.hst.nonces.filter (fun x => !(x.ip == ip && x.port == port && x.since + 10000000000 ≤ u.clk)) ∧
      ChangesOnly [.hst] u t))

/-- Management reads and writes (R423, R427): a READ is refused without a session while READ_AUTH is set, and otherwise reads
every register it names and is answered; a WRITE of a session is denied whole when one of its words is not permitted, which
raises DENY and changes no register it names, and otherwise every word is written in order and the reply is kept with the session. -/
def Obligations.ManagementAccess : Prop :=
  (∀ (s : State) (r : MgmtReq), s.canonical = true → s.mqHead 0 = some r → r.session = 0 →
    s.bit F.HST_CTRL_READ_AUTH = true → Completes .mgmtRead s (fun t => t.hst.mq = s.hst.mq.drop 1 ∧
      ChangesOnly [.hst] s t)) ∧
  (∀ (s : State) (r : MgmtReq), s.canonical = true → s.mqHead 0 = some r → r.session = 0 →
    s.bit F.HST_CTRL_READ_AUTH = false → (r.words.drop 1).any (fun w => isRc (w.setWidth 32)) = false →
    r.iface < s.hst.ifs.length → Completes .mgmtRead s (fun t => t.hst.mq = s.hst.mq.drop 1 ∧
      (∃ frame, (t.hostIf r.iface).tx = (s.hostIf r.iface).tx ++ [frame]) ∧
      Counted (s.mqPop.readList (r.words.drop 1)).2 t .HST_MGMT_REQ_CNT)) ∧
  (∀ (s : State) (r : MgmtReq) (k : Nat) (x : Session) (w : DWord), s.canonical = true → s.mqHead 1 = some r →
    s.mqPop.sessionOf r = some (k, x) → x.order r.rid = .fresh → k < s.hst.sessions.length →
    (r.words.drop 1).find? (fun w => !(s.permits x.perm w)) = some w → Completes .mgmtWrite s (fun t =>
      t.rd .HST_LAST_DENY = BitVec.ofNat 32 (w.toNat / 2 ^ 32) ∧ Counted s t .HST_MGMT_DENY_CNT ∧
      t.fld F.HST_EVENT_DENY = 1 ∧
      ChangesOnly (eventParts ++ [.hst, .reg .HST_LAST_DENY, .reg .HST_MGMT_DENY_CNT, .reg .HST_EVENT]) s t)) ∧
  (∀ (s v : State) (r : MgmtReq) (k : Nat) (x y : Session), s.canonical = true → s.mqHead 1 = some r →
    s.mqPop.sessionOf r = some (k, x) → x.order r.rid = .fresh →
    (r.words.drop 1).all (fun w => s.permits x.perm w) = true → v = s.mqPop.setSession k { x with usedAt := s.clk } →
    (v.writeList (r.words.drop 1)).hst.sessions.getD k none = some y → Completes .mgmtWrite s (fun t =>
      (t.hst.sessions.getD k none).map (fun z => (z.id, z.lastRid, z.reply, z.usedAt)) =
        some (x.id, some r.rid, r.reply r.session 0 [], s.clk) ∧
      Counted (v.writeList (r.words.drop 1)) t .HST_MGMT_REQ_CNT)) ∧
  (∀ (s : State) (r : MgmtReq), s.canonical = true → s.mqHead 1 = some r → s.mqPop.sessionOf r = none →
    Completes .mgmtWrite s (fun t => t.hst.mq = s.hst.mq.drop 1 ∧ ChangesOnly [.hst] s t))

/-- The PTP exchanges (R437 to R439): a Sync of the master gives an offset when it is one-step and is held when it is two-step, a
Follow_Up completes it, a Delay_Resp gives a path delay sample that the filter takes, a Pdelay_Req is answered with the
turnaround, a delay request leaves and its departure is kept; a message of another source changes nothing. -/
def Obligations.PtpExchange : Prop :=
  (∀ (s : State) (m : PtpMsg), s.fromMaster m = true → m.followUp = false → m.twoStep = false →
    Completes (.ptpSync m) s (fun t =>
      t.tim.offsets = s.tim.offsets ++ [sdiff (s.rxStamp m.rx) (m.stamp + BitVec.ofInt 64 m.corr) - s.mpd] ∧
      t.tim.lastSync = some (m.stamp + BitVec.ofInt 64 m.corr, s.rxStamp m.rx) ∧ ChangesOnly [.tim] s t)) ∧
  (∀ (s : State) (m : PtpMsg), s.fromMaster m = true → m.followUp = false → m.twoStep = true →
    Completes (.ptpSync m) s (fun t => t.tim.sync = some { m with rx := s.rxStamp m.rx } ∧
      t.tim.offsets = s.tim.offsets ∧ ChangesOnly [.tim] s t)) ∧
  (∀ (s : State) (m : PtpMsg), s.fromMaster m = false → Completes (.ptpSync m) s (fun t => t = s) ∧
    Completes (.ptpFollowUp m) s (fun t => t = s) ∧ Completes (.ptpDelayResp m) s (fun t => t = s)) ∧
  (∀ (s : State) (m y : PtpMsg), s.fromMaster m = true → m.followUp = true → m.peer = false → s.tim.sync = some y →
    y.seqId = m.seqId → Completes (.ptpFollowUp m) s (fun t =>
      t.tim.offsets = s.tim.offsets ++ [sdiff y.rx (m.stamp + BitVec.ofInt 64 (y.corr + m.corr)) - s.mpd] ∧
      t.tim.sync = none ∧ ChangesOnly [.tim] s t)) ∧
  (∀ (s : State) (m : PtpMsg) (q : BitVec 16) (t3 t1 t2 : Tick) (x : Int), s.canonical = true →
    s.fromMaster m = true → m.followUp = false → m.peer = false → s.bit F.TIM_CTRL_P2P = false →
    s.tim.delaySent = some (q, t3) → m.seqId = q → s.tim.lastSync = some (t1, t2) →
    x = asr (sdiff t2 t1 + (sdiff m.stamp t3 - m.corr)) 1 → 0 ≤ x →
    x ≤ ((s.fld F.TIM_PTP_CFG_MPD_MAX * 65536 : Nat) : Int) → Completes (.ptpDelayResp m) s (fun t =>
      t.rd .TIM_MPD = BitVec.ofInt 32 (if s.tim.mpdValid then s.mpd + asr (x - s.mpd) (s.fld F.TIM_PTP_CFG_MPD_SHIFT)
        else x) ∧ t.tim.mpdValid = true ∧ t.tim.delaySent = none ∧ t.rd .TIM_REJ_CNT = s.rd .TIM_REJ_CNT)) ∧
  (∀ (s : State) (m : PtpMsg), s.canonical = true → m.domain.toNat = s.fld F.TIM_CTRL_DOMAIN →
    s.bit F.TIM_CTRL_TWO_STEP = false → s.bit F.HST_IF_STATUS_UP (s.fld F.TIM_CTRL_PTP_IF) = true →
    Completes (.ptpPdelayReq m) s (fun t => t.wire = s.wire ++ [.ptpMessage (s.fld F.TIM_CTRL_PTP_IF) .pdelayResp
        m.seqId (s.rxStamp m.rx) (m.corr + sdiff (s.txStamp s.tick) (s.rxStamp m.rx))] ∧
      Counted s t .HST_TX_FRAME_CNT (s.fld F.TIM_CTRL_PTP_IF) ∧
      ChangesOnly [.wire, .reg .HST_TX_FRAME_CNT] s t)) ∧
  (∀ (s : State) (seqId : BitVec 16), s.canonical = true → s.timSource = 1 →
    s.bit F.HST_IF_STATUS_UP (s.fld F.TIM_CTRL_PTP_IF) = true → Completes (.ptpDelayReqSend seqId) s (fun t =>
      t.wire = s.wire ++ [.ptpMessage (s.fld F.TIM_CTRL_PTP_IF) (if s.bit F.TIM_CTRL_P2P then .pdelayReq else .delayReq)
        seqId (s.txStamp s.tick) 0] ∧ t.tim.delaySent = some (seqId, s.txStamp s.tick) ∧ t.tim.pdelayResp = none)) ∧
  (∀ (s : State) (seqId : BitVec 16), s.timSource ≠ 1 → Completes (.ptpDelayReqSend seqId) s (fun t => t = s))

/-- The time base and its servo (R431 to R435): without a step threshold an offset drives the integrator and the rate by the
servo's law, beyond it the offset is stepped out, an offset of 2^62 ticks or more is rejected; holdover keeps the integrator's
rate; the clock runs to the carry of a second; a set takes the staged time; a read of the time latches the whole of it. -/
def Obligations.TimeServo : Prop :=
  (∀ (s : State) (theta : Int) (rest : List Int) (i : Int), s.canonical = true → s.tim.offsets = theta :: rest →
    s.timSource ≠ 0 → theta.natAbs < 2 ^ 62 → s.fld F.TIM_STEP_THR_THR = 0 →
    i = clampI (-adjMax) adjMax (s.integ - asr (s.fld F.TIM_SERVO_KI_KI * theta) 16) →
    Completes .servoOffset s (fun t => t.tim.offsets = rest ∧ t.integ = i ∧
      t.adj = clampI (-adjMax) adjMax (i - asr (s.fld F.TIM_SERVO_KP_KP * theta) 16) ∧ Counted s t .TIM_OFS_CNT ∧
      t.fld F.TIM_STATUS_HOLDOVER = 0 ∧ t.tim.base = s.tim.base)) ∧
  (∀ (s : State) (theta : Int) (rest : List Int), s.canonical = true → s.tim.offsets = theta :: rest →
    s.timSource ≠ 0 → theta.natAbs < 2 ^ 62 → s.fld F.TIM_STEP_THR_THR ≠ 0 →
    s.fld F.TIM_STEP_THR_THR * 65536 ≤ theta.natAbs → Completes .servoOffset s (fun t => t.tim.offsets = rest ∧
      t.tim.base = TimeBase.ofCount (((s.tim.base.toCount : Int) + -theta * 2 ^ 32) % (timeModulus : Int)).toNat ∧
      t.integ = s.integ ∧ t.fld F.TIM_STATUS_STEPPED = 1 ∧ t.fld F.TIM_EVENT_STEP = 1 ∧ Counted s t .TIM_STEP_CNT)) ∧
  (∀ (s : State) (theta : Int) (rest : List Int), s.canonical = true → s.tim.offsets = theta :: rest →
    s.timSource ≠ 0 → 2 ^ 62 ≤ theta.natAbs → Completes .servoOffset s (fun t => t.tim.offsets = rest ∧
      t.tim.base = s.tim.base ∧ t.adj = s.adj ∧ t.fld F.TIM_EVENT_OFS_REJ = 1 ∧ Counted s t .TIM_REJ_CNT)) ∧
  (∀ s : State, s.tim.offsets = [] → Completes .servoOffset s (fun t => t = s)) ∧
  (∀ (s u : State) (dt : Nat), s.canonical = true → u = s.advance dt → u.timSource ≠ 0 →
    u.bit F.TIM_STATUS_HOLDOVER = false → u.tim.lastOfs + 1000000 * atLeast1 (u.fld F.TIM_LOCK_CFG_HOLD_TMO) ≤ u.clk →
    Completes (.holdoverEntry dt) s (fun t => t.fld F.TIM_STATUS_HOLDOVER = 1 ∧ t.fld F.TIM_STATUS_LOCKED = 0 ∧
      t.fld F.TIM_STATUS_SRC_OK = 0 ∧ t.rd .TIM_ADJ_L = u.rd .TIM_INTEG_L ∧ t.fld F.TIM_EVENT_HOLDOVER = 1 ∧
      Counted u t .TIM_HOLD_CNT ∧ t.tim.base = u.tim.base)) ∧
  (∀ (s u : State) (dt : Nat), u = s.advance dt → u.timSource = 0 ∨
    u.clk < u.tim.lastOfs + 1000000 * atLeast1 (u.fld F.TIM_LOCK_CFG_HOLD_TMO) →
    Completes (.holdoverEntry dt) s (fun t => t = u)) ∧
  (∀ s : State, s.canonical = true → s.mode ≠ .dark → s.tim.base.ns < 1000000000 →
    Completes .secondRollover s (fun t => t.tim.base.sec = s.tim.base.sec + 1 ∧ t.fld F.TIM_EVENT_SECOND = 1 ∧
      t.clk = s.clk + s.cyclesToSecond)) ∧
  (∀ s : State, s.canonical = true → Completes .timeSet s (fun t =>
    t.tim.base = TimeBase.ofCount (((s.fld F.TIM_SET2_SLO + 2 ^ 32 * s.fld F.TIM_SET3_SHI) * 1000000000 +
      s.fld F.TIM_SET1_NS) * 2 ^ 48 + s.fld F.TIM_SET0_FRAC * 2 ^ 32) ∧ t.fld F.TIM_STATUS_TVALID = 1 ∧
    t.fld F.TIM_STATUS_STEPPED = 1 ∧ t.fld F.TIM_EVENT_STEP = 1 ∧ Counted s t .TIM_STEP_CNT)) ∧
  (∀ (s : State) (q : Requester), Completes (.timeNowRead q) s (fun t => t.tim.latched = s.tim.base ∧
    t.tim.base = s.tim.base ∧ t.busData = BitVec.ofNat 32 (s.tim.base.sub.toNat / 2 ^ 32) ∧
    ChangesOnly [.tim, .busData] s t))

/-- The cue queues of timed launch (R440, R441, R442): an entry is pushed or refused, and the head at its time is discarded on a
sub-link that is down, waits behind a CUE frame, or launches with its frame, time stamp and lateness. -/
def Obligations.TimedLaunch : Prop :=
  (∀ (s : State) (k : Fin 4) (value : Word), s.canonical = true →
    (64 ≤ (s.hst.cq.getD k []).length ∨ F.HST_CQ_PUSH_LEN.get value < 60 ∨ 1514 < F.HST_CQ_PUSH_LEN.get value) →
    Completes (.cqPush k value) s (fun t => t.hst = s.hst ∧ t.fld F.HST_EVENT_CQ_REFUSED = 1 ∧
      Counted s t .HST_CQ_REFUSE_CNT k)) ∧
  (∀ (s : State) (k : Fin 4) (value : Word), s.canonical = true → (s.hst.cq.getD k []).length < 64 →
    60 ≤ F.HST_CQ_PUSH_LEN.get value → F.HST_CQ_PUSH_LEN.get value ≤ 1514 →
    Completes (.cqPush k value) s (fun t => t.hst.cq = s.hst.cq.set k (s.hst.cq.getD k [] ++
        [⟨BitVec.ofNat 64 (s.fld F.HST_CQ_TLO_V k + 2 ^ 32 * s.fld F.HST_CQ_THI_V k), 8 * F.HST_CQ_PUSH_OFS.get value,
          F.HST_CQ_PUSH_LEN.get value, F.HST_CQ_PUSH_SUB.get value, F.HST_CQ_PUSH_TSCAP.get value == 1⟩]) ∧
      t.rd .HST_CQ_REFUSE_CNT k = s.rd .HST_CQ_REFUSE_CNT k ∧ t.wire = s.wire)) ∧
  (∀ (s : State) (k : Fin 4), s.canonical = true → s.cqHead k = none → Completes (.cqEntryDue k) s (fun t => t = s)) ∧
  (∀ (s : State) (k : Fin 4) (e : CqEntry), s.canonical = true → s.cqHead k = some e → s.ifUp (s.cqIf k e) = false →
    Completes (.cqEntryDue k) s (fun t => Counted s t .HST_CQ_DROP_CNT k ∧ t.wire = s.wire ∧
      t.hst.cq = s.hst.cq.set k ((s.hst.cq.getD k []).drop 1))) ∧
  (∀ (s : State) (k : Fin 4) (e : CqEntry), s.canonical = true → s.cqHead k = some e → s.ifUp (s.cqIf k e) = true →
    s.cueFirst (s.cqIf k e) = true → Completes (.cqEntryDue k) s (fun t => t.hst.cq = s.hst.cq ∧ t.wire = s.wire ∧
      t.hst.cqDue = s.hst.cqDue.set k true)) ∧
  (∀ (s : State) (k : Fin 4) (e : CqEntry), s.canonical = true → s.cqHead k = some e → s.ifUp (s.cqIf k e) = true →
    s.cueFirst (s.cqIf k e) = false → Completes (.cqEntryDue k) s (fun t =>
      t.wire = s.wire ++ [.hostFrame (s.cqIf k e) (s.frameMemory k e.ofs e.len)] ∧
      Counted s t .HST_TX_FRAME_CNT (s.cqIf k e) ∧ t.hst.cq = s.hst.cq.set k ((s.hst.cq.getD k []).drop 1) ∧
      (s.hst.cqLate.getD k false = true → Counted s t .HST_CQ_LATE_CNT k ∧ t.fld F.HST_EVENT_CQ_LATE = 1)))

/-- Fabric ports and what carries packets across a link (R449, R450, R453): an aligned port greets with two LSTATE blocks and comes up on the partner's
second; a packet with its CRC and in its turn is taken or relayed, any other is answered with one NAK; acknowledgements empty the replay buffer, credits come back
up to the partner's buffers, silence replays what is unacknowledged and takes the port down after 8; a packet leaves by the priority of its VC against a credit. -/
def Obligations.FabricLinks : Prop :=
  (∀ (s : State) (f : Fin 6), s.canonical = true → s.fabSt f = .link → s.quadAligned (64 + 4 * f.val) = true →
    Completes (.fabLinkAligned f) s (fun t => t.fabSt f = .hello ∧
      t.wire = s.wire ++ [.fabLstate f s.fabAddr, .fabLstate f s.fabAddr] ∧
      t.fab = { s.fab with ports := s.fab.ports.set f { s.fabPort f with lstates := 0 } } ∧
      ChangesOnly [.fab, .wire, .reg .FAB_PSTAT] s t)) ∧
  (∀ (s : State) (f : Fin 6), s.fabSt f ≠ .link ∨ s.quadAligned (64 + 4 * f.val) = false →
    Completes (.fabLinkAligned f) s (fun t => t = s)) ∧
  (∀ (s : State) (f : Fin 6) (a : FabAddr) (n : Fin 8), s.canonical = true → s.fabSt f = .hello →
    Completes (.fabLstateRx f a n) s (fun t => t.fld F.FAB_PSTAT_NADDR f = a.toNat ∧ t.fld F.FAB_PSTAT_NPORT f = n ∧
      (if 1 ≤ (s.fabPort f).lstates then t.fabSt f = .up ∧ t.fld F.FAB_EVENT_LINK_UP = 1
        else t.fabSt f = .hello ∧ t.fab = { s.fab with ports := s.fab.ports.set f { s.fabPort f with
          lstates := (s.fabPort f).lstates + 1 } }))) ∧
  (∀ (s : State) (f : Fin 6) (a : FabAddr) (n : Fin 8), s.fabSt f ≠ .hello → s.fabSt f ≠ .up →
    Completes (.fabLstateRx f a n) s (fun t => t = s)) ∧
  (∀ (s : State) (f : Fin 6) (p : Packet) (n : BitVec 13), s.canonical = true → s.fabSt f = .up →
    f.val < s.fab.ports.length → n = (s.fabPort f).expect → p.ptype < 7 → p.ptype ≠ 4 →
    p.dst = 0xFFF ∨ s.route p.dst = 6 → Completes (.fabPacketRx f p n (packetCrc p n)) s (fun t =>
      (t.fabPort f).rx = (s.fabPort f).rx ++ [p] ∧ (t.fabPort f).expect = n + 1 ∧ (t.fabPort f).naked = false ∧
      (if (s.fabPort f).unacked < 63 then (t.fabPort f).unacked = (s.fabPort f).unacked + 1 ∧ t.wire = s.wire
        else (t.fabPort f).unacked = 0 ∧ t.wire = s.wire ++ [.fabAck f n false]) ∧ ChangesOnly [.fab, .wire] s t)) ∧
  (∀ (s : State) (f g : Fin 6) (p : Packet) (n : BitVec 13), s.canonical = true → s.fabSt f = .up → s.fabSt g = .up →
    f ≠ g → g.val < s.fab.ports.length → p.vc < (s.fabPort g).outq.length → n = (s.fabPort f).expect → p.ptype < 7 →
    p.ptype ≠ 4 → p.dst ≠ 0xFFF → s.route p.dst = g → (s.fabPort f).unacked < 63 →
    Completes (.fabPacketRx f p n (packetCrc p n)) s (fun t => Counted s t .FAB_RELAY_CNT ∧
      t.wire = s.wire ++ [.fabCredit f p.vc 1] ∧ (t.fabPort g).outq.getD p.vc [] =
        (s.fabPort g).outq.getD p.vc [] ++ [⟨p.dst, p.vc, p.ptype, .words p.words⟩] ∧
      ChangesOnly [.fab, .wire, .reg .FAB_RELAY_CNT] s t)) ∧
  (∀ (s : State) (f : Fin 6) (p : Packet) (n : BitVec 13) (crc : Word), s.canonical = true → s.fabSt f = .up →
    crc ≠ packetCrc p n ∨ n ≠ (s.fabPort f).expect → Completes (.fabPacketRx f p n crc) s (fun t =>
      if (s.fabPort f).naked then t = s
      else Counted s t .FAB_CRC_CNT f ∧ t.wire = s.wire ++ [.fabAck f ((t.fabPort f).expect - 1) true] ∧
        (t.fabPort f).rx = (s.fabPort f).rx ∧ ChangesOnly [.fab, .wire, .reg .FAB_CRC_CNT] s t)) ∧
  (∀ (s : State) (f : Fin 6) (p : Packet) (n : BitVec 13) (crc : Word) (nak : Bool) (vc : Fin 5) (k : BitVec 13),
    s.fabSt f ≠ .up → Completes (.fabPacketRx f p n crc) s (fun t => t = s) ∧
      Completes (.fabAckRx f n nak) s (fun t => t = s) ∧ Completes (.fabCreditRx f vc k) s (fun t => t = s) ∧
      Completes (.fabAckTimer f) s (fun t => t = s) ∧
      Completes (.fabPacketStart f) s (fun t => t = s)) ∧
  (∀ (s : State) (f : Fin 6) (n : BitVec 13), s.canonical = true → s.fabSt f = .up → f.val < s.fab.ports.length →
    Completes (.fabAckRx f n false) s (fun t =>
      (t.fabPort f).replay = (s.fabPort f).replay.filter (fun x => after x.lseq n) ∧
      (t.fabPort f).outq = (s.fabPort f).outq ∧ ChangesOnly [.fab, .reg .FAB_POUT] s t)) ∧
  (∀ (s : State) (f : Fin 6) (vc : Fin 5) (k : BitVec 13), s.fabSt f = .up → Completes (.fabCreditRx f vc k) s (fun t =>
      t = { s with fab := { s.fab with ports := s.fab.ports.set f { s.fabPort f with
        credits := (s.fabPort f).credits.set vc
          (min ((s.fabPort f).credits.getD vc 0 + k.toNat) ([64, 256, 1024, 1536, 1216].getD vc 0)) } } })) ∧
  (∀ (s : State) (f : Fin 6), s.fabSt f = .up → (s.fabPort f).unacked ≠ 0 → Completes (.fabAckTimer f) s (fun t =>
      t = { s with
        fab := { s.fab with ports := s.fab.ports.set f { s.fabPort f with unacked := 0 } }
        wire := s.wire ++ [.fabAck f ((s.fabPort f).expect - 1) false] })) ∧
  (∀ (s : State) (f : Fin 6), (s.fabPort f).unacked = 0 → Completes (.fabAckTimer f) s (fun t => t = s)) ∧
  (∀ (s u : State) (dt : Nat) (f : Fin 6), s.canonical = true → u = s.advance dt → u.fabSt f = .up →
    (u.fabPort f).replay ≠ [] → (u.fabPort f).ackAt + 1000 ≤ u.clk →
    ((u.fabPort f).replays < 8 → Completes (.fabReplayTimeout dt f) s (fun t => Counted u t .FAB_REPLAY_CNT f ∧
      t.wire = u.wire ++ (u.fabPort f).replay.map (fun x => .fabPacket f x.lseq x.pkt) ∧ t.fabSt f = .up ∧
      Counted u t .FAB_CUE_LATE_CNT 0 ((u.fabPort f).replay.filter (fun x => x.pkt.vc == 1 && x.resent == 1)).length)) ∧
    (8 ≤ (u.fabPort f).replays → Completes (.fabReplayTimeout dt f) s (fun t => t.fabSt f = .link ∧
      Counted u t .FAB_DOWN_CNT f ∧ t.fld F.FAB_EVENT_LINK_DOWN = 1))) ∧
  (∀ (s u : State) (dt : Nat) (f : Fin 6), u = s.advance dt →
    u.fabSt f ≠ .up ∨ (u.fabPort f).replay = [] ∨ u.clk < (u.fabPort f).ackAt + 1000 →
    Completes (.fabReplayTimeout dt f) s (fun t => t = u)) ∧
  (∀ (s : State) (f : Fin 6) (vc : Nat) (o : OutPkt) (pkt : Packet), s.canonical = true → s.fabSt f = .up →
    f.val < s.fab.ports.length → (s.fabPort f).replay.length < 4096 → (s.fabPort f).nextVc = some vc →
    (s.fabPort f).nextOf vc = some o → pkt = ⟨o.dst, vc, o.ptype, s.bodyWords o.body⟩ →
    Completes (.fabPacketStart f) s (fun t => t.wire = s.wire ++ [.fabPacket f (s.fabPort f).lseq pkt] ∧
      (t.fabPort f).outq = (s.fabPort f).outq.set vc (((s.fabPort f).outq.getD vc []).erase o) ∧
      (t.fabPort f).credits = (s.fabPort f).credits.set vc ((s.fabPort f).credits.getD vc 0 - 1) ∧
      (t.fabPort f).replay = (s.fabPort f).replay ++ [⟨(s.fabPort f).lseq, pkt, 0⟩] ∧
      (t.fabPort f).lseq = (s.fabPort f).lseq + 1 ∧ ChangesOnly [.fab, .wire, .reg .FAB_POUT] s t)) ∧
  (∀ (s : State) (f : Fin 6), (s.fabPort f).nextVc = none ∨ 4096 ≤ (s.fabPort f).replay.length →
    Completes (.fabPacketStart f) s (fun t => t = s))

/-- What the packets of a fabric port do, and what their absence does (R176, R194 to R196, R420, R448, R451, R452, R464): a packet that a port has received is
taken and its buffer given back; a record goes on to the sink's queues, a job record to the job stream, a wing line and a frontier to seam 31, a component to
the merge, a CACK to the component it releases; without a packet of the kind nothing happens. -/
def Obligations.FabricPackets : Prop :=
  (∀ (s : State) (f : Fin 6), (s.takePacket f (fun p => p.ptype == 0) = none →
      Completes (.fabRecordPacket f) s (fun t => t = s)) ∧
    (s.takePacket f (fun p => p.ptype == 1) = none → Completes (.fabWingPacket f) s (fun t => t = s)) ∧
    (s.takePacket f (fun p => p.ptype == 2) = none → Completes (.fabFrontierPacket f) s (fun t => t = s)) ∧
    (s.takePacket f (fun p => p.ptype == 3) = none → Completes (.fabComponentPacket f) s (fun t => t = s)) ∧
    (s.takePacket f (fun p => p.ptype == 5) = none → Completes (.fabJobPacket f) s (fun t => t = s)) ∧
    (s.takePacket f (fun p => p.ptype == 6) = none → Completes (.fabCackPacket f) s (fun t => t = s))) ∧
  (∀ (s u : State) (f : Fin 6) (ws : List DWord) (r : Record), s.canonical = true →
    s.takePacket f (fun p => p.ptype == 0) = some (ws, u) → recordOfWords ws = some r → r.cls = .routine →
    s.sink = 0 ∨ s.sink = s.fabAddr → s.hst.routineQ.length < 7680 → Completes (.fabRecordPacket f) s (fun t =>
      t.hst = { s.hst with routineQ := s.hst.routineQ ++ [r] } ∧ (∃ vc, t.wire = s.wire ++ [.fabCredit f vc 1]) ∧
      ChangesOnly [.fab, .wire, .hst] s t)) ∧
  (∀ (s u : State) (f : Fin 6) (ws : List DWord) (r : Record), s.canonical = true →
    s.takePacket f (fun p => p.ptype == 5) = some (ws, u) → recordOfWords ws = some r →
    s.relaysJobs = false → Completes (.fabJobPacket f) s (fun t => t.hst =
      (if s.hst.jobQ.length < 256 ∧ s.hst.jobWait = [] then { s.hst with jobQ := s.hst.jobQ ++ [r] }
        else { s.hst with jobWait := s.hst.jobWait ++ [r] }) ∧
      (∃ vc, t.wire = s.wire ++ [.fabCredit f vc 1]) ∧ ChangesOnly [.fab, .wire, .hst] s t)) ∧
  (∀ (s u : State) (f : Fin 6) (ws : List DWord) (w : Nat), s.canonical = true →
    s.takePacket f (fun p => p.ptype == 1) = some (ws, u) → w = (ws.getD 0 0).toNat → s.seamInUse 31 = true →
    s.sti.wing31 = [] → 1 < ceilDiv (s.seamWing 31) 248 → Completes (.fabWingPacket f) s (fun t =>
      t.sti.nbrHead = bitsOf w 59 5 ∧ t.sti.wing31 = [(bitsOf w 40 8, ⟨(ws.getD 1 0).setWidth 40, BitVec.ofNat 40 w,
        (ws.drop 2).flatMap (fun v => (List.range 4).map (fun i => bitsOf v.toNat (16 * i) 16)), false, true, 0⟩)] ∧
      ChangesOnly [.fab, .wire, .sti] s t)) ∧
  (∀ (s u : State) (f : Fin 6) (ws : List DWord) (line : LineNo) (step ratio j : Nat), s.canonical = true →
    s.takePacket f (fun p => p.ptype == 1) = some (ws, u) → s.seamInUse 31 = true → s.sti.wing31 = [] →
    ceilDiv (s.seamWing 31) 248 = 1 → line = (ws.getD 1 0).setWidth 40 →
    step = (match s.sti.nbrLine with
      | none => 0
      | some n => (sdiff line n).toNat) →
    ratio = (if step = 0 then s.sti.nbrRatio else step) → j = line.toNat / atLeast1 ratio →
    s.ringAddr 31 j + 2 * s.seamWing 31 ≤ s.memCapacity → Completes (.fabWingPacket f) s (fun t =>
      t.sti.wing31 = [] ∧ t.sti.nbrLine = some line ∧ t.sti.nbrRatio = ratio ∧
      (s.rightLeads 31 (s.seamReg ((s.headAt 0).getD 0) 31) = false →
        ∃ o, t.mem.ops = s.mem.ops ++ [o] ∧ o.owner = .wingWrite 31 j ∧ o.write = true ∧ o.addr = s.ringAddr 31 j))) ∧
  (∀ (s u : State) (f : Fin 6) (ws : List DWord), s.canonical = true →
    s.takePacket f (fun p => p.ptype == 2) = some (ws, u) → s.seamInUse 31 = true →
    Completes (.fabFrontierPacket f) s (fun t => t.sti.nbrY = some ((ws.getD 0 0).setWidth 40) ∧ t.sti.nbrAt = s.clk ∧
      t.sti.nbrHead = bitsOf (ws.getD 0 0).toNat 59 5)) ∧
  (∀ (s u : State) (f : Fin 6) (ws : List DWord), s.canonical = true →
    s.takePacket f (fun p => p.ptype == 3) = some (ws, u) → s.seamInUse 31 = true →
    bitsOf (ws.getD 0 0).toNat 58 6 = 1 → s.sti.arriving = [] → Completes (.fabComponentPacket f) s (fun t =>
      t.sti.arriving = [] ∧ ∃ c, t.seg.comps.getLast? = some c ∧
        ∃ o ∈ c.members, o.oid = (ws.getD 1 0).setWidth 40 ∧ o.st = .pending)) ∧
  (∀ (s u : State) (f : Fin 6) (ws : List DWord) (n : Nat), s.canonical = true →
    s.takePacket f (fun p => p.ptype == 3) = some (ws, u) → s.seamInUse 31 = true →
    n = bitsOf (ws.getD 0 0).toNat 58 6 → 1 < n → s.sti.arriving = [] → Completes (.fabComponentPacket f) s (fun t =>
      t.seg.comps = s.seg.comps ∧ ∃ a, t.sti.arriving = [a] ∧ a.nmem = n ∧ a.oid = (ws.getD 0 0).setWidth 40 ∧
        a.members.length = 1)) ∧
  (∀ (s u : State) (f : Fin 6) (ws : List DWord), s.canonical = true →
    s.takePacket f (fun p => p.ptype == 6) = some (ws, u) → Completes (.fabCackPacket f) s (fun t =>
      t.sti = { s.sti with sent := s.sti.sent.filter (fun x => x.oid != (ws.getD 0 0).setWidth 40) } ∧
      ChangesOnly [.fab, .wire, .sti] s t)) ∧
  (∀ (s u : State) (dt : Nat) (oid : Oid) (x : SentComp), s.canonical = true → u = s.advance dt →
    u.sti.sent.filter (fun y => y.oid == oid) = [x] →
    x.sentAt + 1000 * atLeast1 (u.fld F.STI_MERGE_XDEV_TMO) ≤ u.clk →
    Completes (.cackTimeout dt oid) s (fun t => t.sti.sent = u.sti.sent.filter (fun y => !(y.oid == oid)) ∧
      Counted u t .STI_UNMERGED_CNT ∧ t.fld F.STI_EVENT_UNMERGED = 1)) ∧
  (∀ (s u : State) (dt : Nat) (oid : Oid), u = s.advance dt →
    (∀ x ∈ u.sti.sent, x.oid = oid → u.clk < x.sentAt + 1000 * atLeast1 (u.fld F.STI_MERGE_XDEV_TMO)) →
    Completes (.cackTimeout dt oid) s (fun t => t = u)) ∧
  (∀ (s u : State) (dt : Nat), s.canonical = true → u = s.advance dt → u.seamInUse 31 = true → u.seamState 31 ≠ 0 →
    u.seamState 31 ≠ 3 → u.sti.nbrAt + 1000 * atLeast1 (u.fld F.STI_MERGE_XDEV_TMO) ≤ u.clk →
    Completes (.xdevStreamTimeout dt) s (fun t => t.sti.nbrY = none ∧ t.seamState 31 = 3 ∧
      t.fld F.SEAM_STATUS_REASON 31 = 6 ∧ t.fld F.STI_EVENT_HELD = 1 ∧
      ∀ c ∈ t.seg.comps, c.members.all (fun m => m.contacts.all (fun x => x.seam != 31)) = true)) ∧
  (∀ (s u : State) (dt : Nat), u = s.advance dt → u.seamInUse 31 = false ∨
    u.clk < u.sti.nbrAt + 1000 * atLeast1 (u.fld F.STI_MERGE_XDEV_TMO) →
    Completes (.xdevStreamTimeout dt) s (fun t => t = u))

/-- Discovery, the map and time across the fabric (R454 to R456, R459, R463): HELLOs leave on every port in UP and are kept with their neighbour's serial; a
device whose election has not changed for 200 µs is settled and reports to its parent, or as the root waits for every report and then assigns; an ASSIGN gives this device its address, a MAP completes its
discovery, a LINKEV removes a link, and a flooded packet seen before changes nothing; without the fabric the device is its own root; SYNC, DREQ and DRESP carry
the time down the tree. -/
def Obligations.FabricDiscovery : Prop :=
  (∀ (s : State) (f : Nat), s.canonical = true → s.bit F.FAB_CTRL_EN = true → s.fabSt f = .up → f < 6 →
    f < s.fab.ports.length → 0 < (s.fabPort f).outq.length → Completes .discHelloTimer s (fun t =>
      (t.fabPort f).outq.getD 0 [] = (s.fabPort f).outq.getD 0 [] ++ [⟨0xFFF, 0, 4, .words [s.discWord 0 f
        (s.fab.parent == some f) (min s.fab.hops 255 * 2 ^ 32), s.serial, s.fab.bestRoot]⟩] ∧ ChangesOnly [.fab] s t)) ∧
  (∀ s : State, s.bit F.FAB_CTRL_EN = false → Completes .discHelloTimer s (fun t => t = s)) ∧
  (∀ (s u : State) (dt : Nat), u = s.advance dt → u.bit F.FAB_CTRL_EN = false ∨ u.clk < u.fab.electAt + 200000 →
    Completes (.discSettled dt) s (fun t => t = u)) ∧
  (∀ (s u : State) (f : Fin 6) (ws : List DWord) (w : Nat), s.canonical = true →
    s.takePacket f (isDisc 0) = some (ws, u) → w = (ws.getD 0 0).toNat → Completes (.discHello f) s (fun t =>
      (t.fabPort f).hello = some ⟨bitsOf w 32 8, ws.getD 2 0, ws.getD 1 0, BitVec.ofNat 12 (bitsOf w 48 12),
        bitsOf w 45 3, bitAt w 43⟩ ∧ t.getPair .FAB_NSER_LO .FAB_NSER_HI f = (ws.getD 1 0).toNat ∧
      t.fld F.FAB_PSTAT_NPORT f = bitsOf w 45 3 ∧ t.fabSt f = s.fabSt f ∧
      ChangesOnly [.fab, .wire, .reg .FAB_NSER_LO, .reg .FAB_NSER_HI, .reg .FAB_PSTAT] s t)) ∧
  (∀ (s : State) (f : Fin 6), (s.takePacket f (isDisc 0) = none → Completes (.discHello f) s (fun t => t = s)) ∧
    (s.takePacket f (isDisc 1) = none → Completes (.discReport f) s (fun t => t = s)) ∧
    (s.takePacket f (isDisc 2) = none → Completes (.discAssign f) s (fun t => t = s)) ∧
    (s.takePacket f (isDisc 3) = none → Completes (.discMap f) s (fun t => t = s)) ∧
    (s.takePacket f (isDisc 4) = none → Completes (.discLinkev f) s (fun t => t = s))) ∧
  (∀ (s u : State) (dt f : Nat), s.canonical = true → u = s.advance dt → u.bit F.FAB_CTRL_EN = true →
    u.fab.electAt + 200000 ≤ u.clk → u.fab.settled = false →
    u.fab.bestRoot ≠ 0 → u.fab.parent = some f → u.fabSt f = .up → f < u.fab.ports.length →
    0 < (u.fabPort f).outq.length → Completes (.discSettled dt) s (fun t => t.fab.settled = true ∧
      (t.fabPort f).outq.getD 0 [] = (u.fabPort f).outq.getD 0 [] ++
        [⟨0xFFF, 0, 4, .words (u.discWord 1 f true 0 :: u.ownReport.words)⟩] ∧ ChangesOnly [.fab] u t)) ∧
  (∀ (s u : State) (dt : Nat), s.canonical = true → u = s.advance dt → u.bit F.FAB_CTRL_EN = true →
    u.fab.electAt + 200000 ≤ u.clk → u.fab.settled = false → u.fab.bestRoot = u.serial →
    u.fab.bestRoot ≠ 0 → u.fab.parent = none →
    reportsWhole (u.fab.reports.filter (fun x => x.serial != u.serial) ++ [u.ownReport]) = true →
    Completes (.discSettled dt) s (fun t => t.fld F.FAB_STATUS_DONE = 1 ∧ t.fld F.FAB_STATUS_PARTITION = 0 ∧
      t.fld F.FAB_EVENT_DISC_DONE = 1 ∧ Counted u t .FAB_DISC_CNT)) ∧
  (∀ (s u : State) (f : Fin 6) (ws : List DWord) (g : Nat), s.canonical = true →
    s.takePacket f (isDisc 1) = some (ws, u) → s.fab.parent = some g → s.fabSt g = .up → g < s.fab.ports.length →
    0 < (s.fabPort g).outq.length → Completes (.discReport f) s (fun t => (t.fabPort g).outq.getD 0 [] =
      (s.fabPort g).outq.getD 0 [] ++ [⟨0xFFF, 0, 4, .words ws⟩] ∧ t.fab.reports = s.fab.reports ∧
      ChangesOnly [.fab, .wire] s t)) ∧
  (∀ (s u : State) (f : Fin 6) (ws : List DWord), s.canonical = true → s.takePacket f (isDisc 1) = some (ws, u) →
    s.fab.parent = none → s.fab.bestRoot ≠ s.serial → Completes (.discReport f) s (fun t => t.fab.reports =
      s.fab.reports.filter (fun x => x.serial != ws.getD 1 0) ++ [⟨ws.getD 1 0,
        BitVec.ofNat 12 (bitsOf (ws.getD 0 0).toNat 48 12), (ws.getD 2 0).msb, (ws.getD 2 0).setWidth 40,
        (ws.drop 3).take 6⟩] ∧ ChangesOnly [.fab, .wire] s t)) ∧
  (∀ (s u : State) (f : Fin 6) (ws : List DWord) (w : Nat), s.canonical = true →
    s.takePacket f (isDisc 2) = some (ws, u) → w = (ws.getD 0 0).toNat → ws.getD 1 0 = s.serial →
    s.fab.seen.contains (BitVec.ofNat 12 (bitsOf w 48 12), 2 ^ 16 + (BitVec.ofNat 12 (bitsOf w 28 12)).toNat +
      2 ^ 28 * (ws.getD 1 0).toNat) = false → Completes (.discAssign f) s (fun t =>
      t.fabAddr = BitVec.ofNat 12 (bitsOf w 28 12) ∧ t.fld F.FAB_STATUS_ROOT = 0 ∧
      t.getPair .FAB_ROOT_LO .FAB_ROOT_HI = (ws.getD 2 0).toNat ∧ t.fab.rootAddr = BitVec.ofNat 12 (bitsOf w 48 12) ∧
      (if s.fabAddr ≠ 0 ∧ s.fabAddr ≠ BitVec.ofNat 12 (bitsOf w 28 12) then Counted s t .FAB_READDR_CNT
        else t.rd .FAB_READDR_CNT = s.rd .FAB_READDR_CNT))) ∧
  (∀ (s u : State) (f : Fin 6) (ws : List DWord) (w : Nat), s.takePacket f (isDisc 2) = some (ws, u) →
    w = (ws.getD 0 0).toNat → s.fab.seen.contains (BitVec.ofNat 12 (bitsOf w 48 12), 2 ^ 16 +
      (BitVec.ofNat 12 (bitsOf w 28 12)).toNat + 2 ^ 28 * (ws.getD 1 0).toNat) = true →
    Completes (.discAssign f) s (fun t => t = u)) ∧
  (∀ (s u : State) (f : Fin 6) (ws : List DWord) (w : Nat), s.canonical = true →
    s.takePacket f (isDisc 3) = some (ws, u) → w = (ws.getD 0 0).toNat → s.fabAddr ≠ 0 → ws.length ≤ 63 →
    s.fab.seen.contains (BitVec.ofNat 12 (bitsOf w 48 12), bitsOf w 24 16) = false → Completes (.discMap f) s (fun t =>
      t.fld F.FAB_STATUS_DONE = 1 ∧ t.fld F.FAB_STATUS_PARTITION = 0 ∧ t.fld F.FAB_EVENT_DISC_DONE = 1 ∧
      Counted s t .FAB_DISC_CNT ∧ t.fab.seen = s.fab.seen ++ [(BitVec.ofNat 12 (bitsOf w 48 12), bitsOf w 24 16)])) ∧
  (∀ (s u : State) (f : Fin 6) (ws : List DWord) (w : Nat), s.canonical = true →
    s.takePacket f (isDisc 4) = some (ws, u) → w = (ws.getD 0 0).toNat → bitAt w 23 = false →
    s.fab.seen.contains (BitVec.ofNat 12 (bitsOf w 48 12), bitsOf w 24 16) = false →
    Completes (.discLinkev f) s (fun t =>
      t.fab.links = s.fab.links.filter (fun x => !(x.same (linkOfWord (ws.getD 1 0)))) ∧
      t.fab.seen = s.fab.seen ++ [(BitVec.ofNat 12 (bitsOf w 48 12), bitsOf w 24 16)])) ∧
  (∀ (s u : State) (f : Fin 6) (ws : List DWord) (w : Nat), w = (ws.getD 0 0).toNat →
    s.fab.seen.contains (BitVec.ofNat 12 (bitsOf w 48 12), bitsOf w 24 16) = true →
    (s.takePacket f (isDisc 3) = some (ws, u) → Completes (.discMap f) s (fun t => t = u)) ∧
    (s.takePacket f (isDisc 4) = some (ws, u) → Completes (.discLinkev f) s (fun t => t = u))) ∧
  (∀ s : State, s.canonical = true → s.bit F.FAB_CTRL_EN = false → Completes .discoveryTimeout s (fun t =>
      t.fabAddr = 1 ∧ t.fld F.FAB_STATUS_ROOT = 1 ∧ t.fld F.FAB_STATUS_DONE = 1 ∧
      t.getPair .FAB_ROOT_LO .FAB_ROOT_HI = s.serial.toNat ∧ t.fab.links = [] ∧ Counted s t .FAB_DISC_CNT)) ∧
  (∀ (s : State) (f : Nat), s.canonical = true → s.bit F.FAB_CTRL_EN = true → f < 6 → s.fabSt f = .up →
    (s.fabAddr = 0 → Completes .discoveryTimeout s (fun t => t.fld F.FAB_EVENT_DISC_FAIL = 1 ∧
      t.fld F.FAB_STATUS_DONE = 0 ∧ t.fabAddr = 0)) ∧
    (s.fabAddr ≠ 0 → Completes .discoveryTimeout s (fun t => t = s))) ∧
  (∀ s : State, s.canonical = true → Completes .fabSyncTimer s (fun t => t.fab = { s.fab with syncSeq := s.fab.syncSeq + 1 } ∧
      t.wire = s.wire ++ ((List.range 6).filter (fun f => s.timePort f && s.bit F.FAB_PSTAT_CHILD f)).map
        (fun f => .fabTime f 0 (s.fab.syncSeq + 1) (s.tick.setWidth 48)) ∧ ChangesOnly [.fab, .wire] s t)) ∧
  (∀ (s : State) (f : Fin 6) (q : BitVec 6) (x : BitVec 48), s.timePort f = true → s.fab.treePort = some f.val →
    s.timSource = 2 → Completes (.timeSyncRx f q x) s (fun t => t = { s with
      fab := { s.fab with ports := s.fab.ports.set f { s.fabPort f with
        t1 := s.extendTick x
        t2 := s.tick
        t3 := s.tick
        tseq := q } }
      wire := s.wire ++ [.fabTime f 1 q (s.tick.setWidth 48)] })) ∧
  (∀ (s : State) (f : Fin 6) (q : BitVec 6) (x : BitVec 48),
    s.timePort f = false ∨ s.fab.treePort ≠ some f.val ∨ s.timSource ≠ 2 →
    Completes (.timeSyncRx f q x) s (fun t => t = s) ∧ Completes (.timeDrespRx f q x) s (fun t => t = s)) ∧
  (∀ (s : State) (f : Fin 6) (q : BitVec 6) (x : BitVec 48), Completes (.timeDreqRx f q x) s (fun t =>
      if s.timePort f = true ∧ s.bit F.FAB_PSTAT_CHILD f = true
        then t = { s with wire := s.wire ++ [.fabTime f 2 q (s.tick.setWidth 48)] } else t = s)) ∧
  (∀ (s : State) (f : Fin 6) (q : BitVec 6) (x : BitVec 48) (d : Int), s.canonical = true → s.timePort f = true →
    s.fab.treePort = some f.val → s.timSource = 2 → q = (s.fabPort f).tseq →
    d = asr (sdiff (s.fabPort f).t2 (s.fabPort f).t1 + sdiff (s.extendTick x) (s.fabPort f).t3) 1 → 0 ≤ d →
    d ≤ ((s.fld F.TIM_PTP_CFG_MPD_MAX * 65536 : Nat) : Int) → Completes (.timeDrespRx f q x) s (fun t =>
      t.rd .TIM_MPD = BitVec.ofInt 32 (if s.tim.mpdValid then s.mpd + asr (d - s.mpd) (s.fld F.TIM_PTP_CFG_MPD_SHIFT)
        else d) ∧ t.tim.mpdValid = true ∧
      t.tim.offsets = s.tim.offsets ++ [sdiff (s.fabPort f).t2 (s.fabPort f).t1 - t.mpd] ∧
      ChangesOnly [.tim, .reg .TIM_MPD] s t))

/-- Pins, channels and cells of event routing (R468 to R480): an accepted level of an input shows in EVT_PINSTAT and fires the
pin's producer on the edges that EDGE selects once it has held for FILT cycles and is no edge before, an input is stuck after
STUCK ms and an output's pulse ends after its width, a channel that delivers, a latched channel re-enabled, a software
firing, a PMC_STOP that a PMC_START of the same cycle leaves standing (R475), and a cell's filter, which waits for FILT
cycles (R479). The cycles that a command counts pass first. -/
def Obligations.EventRouting : Prop :=
  (∀ (s : State) (i : Fin 16) (level : Bool) (held : Nat), s.canonical = true → s.bit F.EVT_PIN_DIR i = false →
    s.mode ≠ .dark → (s.pin i).level ≠ level → s.fld F.EVT_PIN_FILT i ≤ held →
    Completes (.evtPinEdge i level held) s (fun t =>
      t.evt.pins = s.evt.pins.set i { s.pin i with level := level, since := s.clk } ∧ t.bit ⟨.EVT_PINSTAT, i, 1⟩ = level ∧
      t.bit ⟨.EVT_PINSTAT, 16 + i, 1⟩ = false ∧
      spGet 0 t.evt.fired i = spGet 0 s.evt.fired i + b2n (s.pinEdge i level))) ∧
  (∀ (s : State) (i : Fin 16) (held : Nat), Completes (.evtPinEdge i (s.pin i).level held) s (fun t => t = s)) ∧
  (∀ (s : State) (i : Fin 16) (level : Bool) (held : Nat), held < s.fld F.EVT_PIN_FILT i →
    Completes (.evtPinEdge i level held) s (fun t => t = s)) ∧
  (∀ (s u : State) (dt : Nat) (i : Fin 16), s.canonical = true → u = s.advance dt → u.mode ≠ .dark →
    u.bit F.EVT_PIN_DIR i = false → u.fld F.EVT_CTRL_STUCK ≠ 0 → u.fld F.EVT_PIN_EDGE i = 1 → (u.pin i).level = true →
    1000000 * u.fld F.EVT_CTRL_STUCK < u.clk - (u.pin i).since → u.bit ⟨.EVT_PINSTAT, 16 + i, 1⟩ = false →
    Completes (.pinStuck dt i) s (fun t =>
      t.bit ⟨.EVT_PINSTAT, 16 + i, 1⟩ = true ∧ t.fld F.EVT_EVENT_PIN_STUCK = 1 ∧ (t.pin i).level = true)) ∧
  (∀ (s u : State) (dt : Nat) (i : Fin 16), u = s.advance dt → u.fld F.EVT_CTRL_STUCK = 0 ∨
    u.clk - (u.pin i).since ≤ 1000000 * u.fld F.EVT_CTRL_STUCK → Completes (.pinStuck dt i) s (fun t => t = u)) ∧
  (∀ (s u : State) (dt : Nat) (i : Fin 16), s.canonical = true → u = s.advance dt → (u.pin i).pulse = true →
    40 * max (u.fld F.EVT_PIN_PW i) 1 ≤ u.clk - (u.pin i).pulseAt → (u.pin i).out ≠ u.bit F.EVT_PIN_POL i →
    i.val < u.evt.pins.length → Completes (.pinPulseEnd dt i) s (fun t => (t.pin i).pulse = false ∧
      (t.pin i).out = u.bit F.EVT_PIN_POL i ∧ t.wire = u.wire ++ [.eventPin i (u.bit F.EVT_PIN_POL i)])) ∧
  (∀ (s u : State) (dt : Nat) (i : Fin 16), u = s.advance dt → (u.pin i).pulse = false ∨
    u.clk - (u.pin i).pulseAt < 40 * max (u.fld F.EVT_PIN_PW i) 1 →
    Completes (.pinPulseEnd dt i) s (fun t => t = u)) ∧
  (∀ (s : State) (c : Fin 64), s.canonical = true → s.chanOn c = true → s.mode ≠ .standby →
    (s.chan c).seen + 1 = s.chanFired c → s.fld F.EVT_CH_TSEL c = 0x53 →
    ((s.chan c).recent.filter s.inGuard).length < s.loopLimit → Completes (.evtChannelDelivery c) s (fun t =>
      t.evt.chans = s.evt.chans.set c ⟨s.chanFired c, s.clk :: (s.chan c).recent.filter s.inGuard⟩ ∧
      t.getPair .EVT_TCAP0_LO .EVT_TCAP0_HI = s.tick.toNat)) ∧
  (∀ (s : State) (c : Fin 64), s.canonical = true → s.chanOn c = true → s.mode ≠ .standby →
    (s.chan c).seen ≠ s.chanFired c → s.fld F.EVT_CH_TSEL c < 0x59 → c.val < s.evt.chans.length →
    s.loopLimit ≤ ((s.chan c).recent.filter s.inGuard).length → Completes (.evtChannelDelivery c) s (fun t =>
      t.bit (loopedBit c) (c / 32) = true ∧ t.fld F.EVT_EVENT_LOOP = 1 ∧ Counted s t .EVT_LOOP_CNT)) ∧
  (∀ (s : State) (c : Fin 64), s.chanOn c = false ∨ (s.chan c).seen = s.chanFired c →
    Completes (.evtChannelDelivery c) s (fun t => t = s)) ∧
  (∀ (s : State) (c : Fin 64), s.canonical = true → s.bit (loopedBit c) (c / 32) = true →
    Completes (.loopReenable c) s (fun t => t.bit (loopedBit c) (c / 32) = false ∧
      t.evt.chans = s.evt.chans.set c ⟨s.chanFired c, []⟩ ∧ ChangesOnly [.evt, .reg .EVT_LOOPED] s t)) ∧
  (∀ (s : State) (task : BitVec 7), s.canonical = true → s.mode ≠ .dark → s.mode ≠ .standby →
    (task = 0x55 → Completes (.softwareFire task) s (fun t =>
      t.getPair .EVT_YCAP_L .EVT_YCAP_H = s.pos.p.toNat / 2 ^ 32 ∧
      ChangesOnly [.reg .EVT_YCAP_L, .reg .EVT_YCAP_H] s t)) ∧
    (task = 0x51 → Completes (.softwareFire task) s (fun t => t.fld F.PMC_CTRL_RUN = 0 ∧
      t.pmc.stopAt = some s.pmc.cyc ∧ ChangesOnly [.pmc, .reg .PMC_CTRL] s t)) ∧
    (task = 0x50 → s.pmc.stopAt = some s.pmc.cyc → Completes (.softwareFire task) s (fun t => t = s)) ∧
    (0x59 ≤ task.toNat → Completes (.softwareFire task) s (fun t => t = s))) ∧
  (∀ (s : State) (task : BitVec 7), s.mode = .dark → Completes (.softwareFire task) s (fun t => t = s)) ∧
  (∀ (s u : State) (dt : Nat) (k : Fin 16), s.canonical = true → u = s.advance dt → u.mode ≠ .standby → u.mode ≠ .dark →
    u.cellTable k { u.cell k with pulses := 0 } ≠ (u.cell k).filt → u.fld F.EVT_CELL_FILT k + (u.cell k).since ≤ (u.cell k).cycle + 1 →
    k.val < u.evt.cells.length → Completes (.cellFilterPass dt k) s (fun t =>
      (t.cell k).filt = u.cellTable k { u.cell k with pulses := 0 } ∧ t.evt.pins = u.evt.pins ∧ t.evt.chans = u.evt.chans)) ∧
  (∀ (s u : State) (dt : Nat) (k : Fin 16), u = s.advance dt → u.mode = .standby ∨ u.mode = .dark ∨
    (u.cell k).cycle + 1 < u.fld F.EVT_CELL_FILT k + (u.cell k).since →
    Completes (.cellFilterPass dt k) s (fun t => t = u))

/-- The performance counters (R481 to R483): the end of a window copies every counter to its result, clears it and starts the next
window under the settings as they stand; a counter at its last value wraps to 0 and sets its overflow bit; without a running
window, or with the counters stopped, nothing changes. -/
def Obligations.PerformanceCounters : Prop :=
  (∀ (s u : State), s.canonical = true → s.pmcWindows = true → u = s.advance (ceilDiv (10 * s.pmc.left) 13) →
    Completes .pmcWindowEnd s (fun t => (∀ i, i < 8 → t.getPair .PMC_RES_LO .PMC_RES_HI i % 2 ^ 48 =
        u.pmcValue i % 2 ^ 48) ∧ t.fld F.PMC_EVENT_WIN_DONE = 1 ∧ t.pmc.ctrl = s.rd .PMC_CTRL ∧
      t.pmc.win = s.rd .PMC_WIN ∧ t.pmc.left = atLeast1 (s.rd .PMC_WIN).toNat)) ∧
  (∀ s : State, s.pmcWindows = false → Completes .pmcWindowEnd s (fun t => t = s)) ∧
  (∀ (s : State) (i : Fin 8), s.canonical = true → F.PMC_CTRL_RUN.get s.pmc.ctrl = 1 → s.pmcValue i = 2 ^ 48 - 1 →
    (∀ j, j < 8 → s.pmcEvent j ≠ 0xBE) → Completes (.pmcCounterWrap i) s (fun t => t.pmcValue i = 0 ∧
      t.bit ⟨.PMC_EVENT, i, 1⟩ = true ∧ spGet 0 t.evt.fired 0xBE = spGet 0 s.evt.fired 0xBE + 1)) ∧
  (∀ (s : State) (i : Fin 8), s.pmcValue i ≠ 2 ^ 48 - 1 → Completes (.pmcCounterWrap i) s (fun t => t = s))

/-- Rounds of the sensors (R515 to R520, R536): a plausible sample of a sensor of the fast set becomes its reading, in 1/16 °C,
and no other reading changes; a slow round takes the rails' readings; nothing is read before a round's 10 µs or 2 ms
have passed, while the device is unpowered, nor by the fast round in DARK; a broken sensor with 1,024 clean samples is valid again and shows its own reading; a board sensor that
does not answer is counted, and its fourth invalid sample in a row clears VALID. -/
def Obligations.HeatSensors : Prop :=
  (∀ (s u v : State) (dt : Nat) (i : Fin 24) (raw : BitVec 16), s.canonical = true → u = s.advance dt →
    u.glb.powered = true → u.mode ≠ .dark → 10000 ≤ u.clk - u.thm.fastAt →
    v = { u with thm := { u.thm with fastAt := u.clk } } → v.fastSet true = [i.val] → v.isBroken i = false →
    (v.testCounts i raw.toNat (v.readingOf i raw.toNat)).brokenCause i (v.readingOf i raw.toNat) = 0 →
    (v.sampleSensor i raw.toNat).heatStates.shutdownCause = none →
    Completes (.thmFastRound dt [raw]) s (fun t => t.temp i = signedOf 16 (wrapTo 16 (v.readingOf i raw.toNat)) ∧
      t.isBroken i = false ∧ t.thm.fastAt = u.clk ∧ ∀ j, j ≠ i.val → t.temp j = v.temp j)) ∧
  (∀ (s u : State) (dt : Nat) (codes : List (BitVec 16)), u = s.advance dt →
    u.glb.powered = false ∨ u.mode = .dark ∨ u.clk - u.thm.fastAt < 10000 →
    Completes (.thmFastRound dt codes) s (fun t => t = u)) ∧
  (∀ (s u v : State) (dt : Nat) (rails : List Nat) (r : Fin 9) (mv : Nat), s.canonical = true → u = s.advance dt →
    u.thmOn = true → u.mode ≠ .dark → 2000000 ≤ u.clk - u.thm.slowAt →
    v = { u with thm := { u.thm with slowAt := u.clk } } →
    v.fastSet false = [] → (∀ b, b < 8 → v.bit F.THM_BRD_EN b = false) → rails[r.val]? = some mv → mv < 65536 →
    ((forBelow 24 (fun i t => t.learnLofs i) v).railRound rails).heatStates.shutdownCause = none →
    Completes (.thmSlowRound dt [] rails []) s (fun t => t.fld F.PWR_RAIL_MV r = mv ∧ t.mode = u.mode ∧
      t.thm.slowAt = u.clk)) ∧
  (∀ (s u : State) (dt : Nat) (codes : List (BitVec 16)) (rails : List Nat) (boards : List (Option (BitVec 16))),
    u = s.advance dt → u.thmOn = false ∨ u.clk - u.thm.slowAt < 2000000 →
    Completes (.thmSlowRound dt codes rails boards) s (fun t => t = u)) ∧
  (∀ (s : State) (i : Fin 24), s.canonical = true → s.isBroken i = true → 1024 ≤ (s.sensor i).clean →
    Completes (.sensorRecovered i) s (fun t => t.isBroken i = false ∧ t.fld F.THM_TS_CAUSE i = 0 ∧
      t.bit ⟨.THM_BROKEN, i, 1⟩ = false ∧ t.temp i = signedOf 16 (wrapTo 16 (s.readingOf i (s.sensor i).raw)) ∧
      ChangesOnly [.reg .THM_TS, .reg .THM_BROKEN] s t)) ∧
  (∀ (s : State) (i : Fin 24), (s.isBroken i = false ∨ (s.sensor i).clean < 1024) →
    Completes (.sensorRecovered i) s (fun t => t = s)) ∧
  (∀ (s : State) (b : Fin 8), s.canonical = true → s.thmOn = true → s.bit F.THM_BRD_EN b = true →
    Completes (.i2cTimeout b) s (fun t => Counted s t .THM_I2C_ERR_CNT ∧
      t.fld F.THM_BRDT_VALID b = (if 3 ≤ (s.board b).bad then 0 else s.fld F.THM_BRDT_VALID b) ∧
      ChangesOnly [.thm, .reg .THM_I2C_ERR_CNT, .reg .THM_BRDT] s t)) ∧
  (∀ (s : State) (b : Fin 8), (s.thmOn = false ∨ s.bit F.THM_BRD_EN b = false) →
    Completes (.i2cTimeout b) s (fun t => t = s))

/-- The responses to heat (R516, R521, R524, R525): a round in which SHUTDOWN asserts enters DARK with reason 8, the mirror frozen
and a slot write running; once STEP_MS has passed since the level or its sources changed, the throttle level rises by 1 to
its maximum while a source holds and falls by 1 otherwise, and a change raises THROTTLE; DARK of reason THERMAL is left for LOAD once the sensors have cooled and no slot write runs. -/
def Obligations.HeatResponse : Prop :=
  (∀ (s u v : State) (dt : Nat) (codes : List (BitVec 16)) (n d : Nat), s.canonical = true → u = s.advance dt →
    u.glb.powered = true → u.mode ≠ .dark → 10000 ≤ u.clk - u.thm.fastAt →
    v = { u with thm := { u.thm with fastAt := u.clk } } →
    (v.sampleRound (v.fastSet true) codes).heatStates.shutdownCause = some (n, d) →
    Completes (.thmFastRound dt codes) s (fun t => t.mode = .dark ∧ t.fld F.SEC_DARK_REASON = 8 ∧
      t.pwr.mirror.frozen = true ∧ t.pwr.write ≠ none ∧ Counted u t .THM_SHUT_CNT)) ∧
  (∀ (s u : State) (dt : Nat), s.canonical = true → u = s.advance dt → u.mode ≠ .dark →
    1000000 * atLeast1 (u.fld F.THM_THR_CFG_STEP_MS) ≤ u.clk - u.thm.stepAt → u.throttleSource = true →
    Completes (.throttleLevelStep dt) s (fun t =>
      t.fld F.THM_STATUS_LEVEL = min (u.fld F.THM_STATUS_LEVEL + 1) u.throttleMax ∧
      (u.fld F.THM_STATUS_LEVEL ≠ min (u.fld F.THM_STATUS_LEVEL + 1) u.throttleMax →
        t.fld F.THM_EVENT_THROTTLE = 1 ∧ t.thm.stepAt = u.clk))) ∧
  (∀ (s u : State) (dt : Nat), s.canonical = true → u = s.advance dt → u.mode ≠ .dark →
    1000000 * atLeast1 (u.fld F.THM_THR_CFG_STEP_MS) ≤ u.clk - u.thm.stepAt → u.throttleSource = false →
    Completes (.throttleLevelStep dt) s (fun t => t.fld F.THM_STATUS_LEVEL = u.fld F.THM_STATUS_LEVEL - 1 ∧
      (u.fld F.THM_STATUS_LEVEL = 0 → t = u))) ∧
  (∀ (s u : State) (dt : Nat), u = s.advance dt →
    u.mode = .dark ∨ u.clk - u.thm.stepAt < 1000000 * atLeast1 (u.fld F.THM_THR_CFG_STEP_MS) →
    Completes (.throttleLevelStep dt) s (fun t => t = u)) ∧
  (∀ s : State, s.canonical = true → s.glb.powered = true → s.darkFor 8 = true → s.pwr.bothCauses = false →
    s.pwr.curtain = false → s.pwr.write = none → s.cooled = true → Completes .thermalDarkExit s (fun t =>
      if s.fuseGood then t.mode = .load ∧ t.fld F.GLB_LOAD_STATUS_STEP = 4
      else t.mode = .dark ∧ t.fld F.SEC_DARK_REASON = 0xE)) ∧
  (∀ s : State, s.cooled = false ∨ s.pwr.write ≠ none → Completes .thermalDarkExit s (fun t => t = s))

/-- The supply-loss curtain and the return of supply (R533 to R535, R540): each trigger freezes the mirror, starts the curtain,
counts it and, outside DARK after step 6 of LOAD, has a slot write running; a trigger that is switched off, or that has
not held for its cycles, only shows the input's new state; the DARK of SUPPLY is left for LOAD when the supply has been restored; a HEALTH period forms one record. -/
def Obligations.SupplyLoss : Prop :=
  (∀ (s : State) (x : BitVec 4), s.canonical = true → filter3of4 (!s.pwr.pfail) x = false → s.glb.powered = true →
    s.pwr.curtain = false → s.mode ≠ .dark → s.pwr.step6 = true → Completes (.pfailNFall x) s (fun t => t.pwr.pfail = true ∧ t.pwr.curtain = true ∧
      t.pwr.curtainTrig = 0xF0 ∧ t.pwr.mirror.frozen = true ∧ t.pwr.write ≠ none ∧ t.fld F.PWR_STATUS_CURTAIN = 1 ∧
      t.fld F.PWR_EVENT_CURTAIN = 1 ∧ Counted s t .PWR_CURTAIN_CNT)) ∧
  (∀ (s : State) (x : BitVec 4), filter3of4 (!s.pwr.pfail) x = false → s.glb.powered = false →
    Completes (.pfailNFall x) s (fun t => t.pwr = { s.pwr with pfail := true } ∧ ChangesOnly [.pwr] s t)) ∧
  (∀ (s : State) (x : BitVec 4), filter3of4 (!s.pwr.pfail) x = true → Completes (.pfailNFall x) s (fun t => t = s)) ∧
  (∀ (s : State) (mv held : Nat), s.canonical = true → s.glb.powered = true → s.bit F.PWR_CFG_VIN_EN = true →
    mv < s.tripLevel → 4 ≤ held → s.pwr.curtain = false → s.mode ≠ .dark → s.pwr.step6 = true →
    Completes (.vkeepBelowTrip mv held) s (fun t => t.pwr.vkeep = mv ∧ t.pwr.curtain = true ∧ t.pwr.curtainTrig = 0xF1 ∧
      t.pwr.mirror.frozen = true ∧ t.pwr.write ≠ none ∧ Counted s t .PWR_CURTAIN_CNT)) ∧
  (∀ (s : State) (mv held : Nat), s.bit F.PWR_CFG_VIN_EN = false ∨ s.tripLevel ≤ mv ∨ held < 4 →
    Completes (.vkeepBelowTrip mv held) s (fun t => t.pwr = { s.pwr with vkeep := mv } ∧ ChangesOnly [.pwr] s t)) ∧
  (∀ (s : State) (g : Fin 4) (held : Nat), s.canonical = true → s.glb.powered = true →
    s.bit F.PWR_CFG_PG_CURTAIN = true → 4 ≤ held → s.pwr.curtain = false → s.mode ≠ .dark → s.pwr.step6 = true →
    Completes (.powerGoodLoss g held) s (fun t =>
      bitAt t.pwr.pg g = false ∧ t.pwr.curtain = true ∧ t.pwr.curtainTrig = 0xF2 + g.val ∧
      t.pwr.mirror.frozen = true ∧ t.pwr.write ≠ none ∧ Counted s t .PWR_CURTAIN_CNT)) ∧
  (∀ (s : State) (g : Fin 4) (held : Nat), s.bit F.PWR_CFG_PG_CURTAIN = false ∨ held < 4 →
    Completes (.powerGoodLoss g held) s (fun t =>
    bitAt t.pwr.pg g = false ∧ t.pwr.curtain = s.pwr.curtain ∧ ChangesOnly [.pwr] s t)) ∧
  (∀ (s : State) (mv held : Nat), s.canonical = true → s.glb.powered = true → s.darkFor 9 = true →
    s.fld F.PWR_VIN_CFG_RESTORE ≤ mv → atLeast1 (s.fld F.PWR_CFG_RESTORE_MS) ≤ held → Completes (.supplyRestored mv held) s (fun t => t.pwr.pfail = false ∧ t.pwr.pg = 15 ∧
      t.pwr.vkeep = mv ∧ (if s.fuseGood then t.mode = .load ∧ t.fld F.GLB_LOAD_STATUS_STEP = 4
        else t.mode = .dark ∧ t.fld F.SEC_DARK_REASON = 0xE))) ∧
  (∀ (s : State) (mv held : Nat), mv < s.fld F.PWR_VIN_CFG_RESTORE ∨ held < atLeast1 (s.fld F.PWR_CFG_RESTORE_MS) →
    Completes (.supplyRestored mv held) s (fun t => t = s)) ∧
  (∀ (s u v : State) (dt : Nat), s.canonical = true → u = s.advance dt → u.mode.periodic = true →
    u.fld F.PWR_CFG_HEALTH ≠ 0 → 1000000000 * u.fld F.PWR_CFG_HEALTH ≤ u.clk - u.pwr.healthAt →
    v = { u with pwr := { u.pwr with healthAt := u.clk } } → v.sink = 0 →
    v.hst.routineQ.length < 7680 → Completes (.healthPeriod dt) s (fun t => t.pwr = v.pwr ∧
      t.hst.routineQ = v.hst.routineQ ++ [⟨none, v.seqs.getD 1 0, .routine, 0x50, v.healthWords 0 0 0 0 0, []⟩] ∧
      t.seqs = v.seqs.set 1 (v.seqs.getD 1 0 + 1))) ∧
  (∀ (s u : State) (dt : Nat), u = s.advance dt → u.fld F.PWR_CFG_HEALTH = 0 ∨ u.mode.periodic = false ∨
    u.clk - u.pwr.healthAt < 1000000000 * u.fld F.PWR_CFG_HEALTH → Completes (.healthPeriod dt) s (fun t => t = u))

/-- The prompt book and its slots (R529 to R532): a closed group at the front is applied to a mirror that is not frozen and
leaves the queue; the checkpoint timer starts a write of KIND 0 in the slot after the newest, which holds nothing valid until
it ends; the end of a write makes its slot valid, with the CRC of its words, and reports it. -/
def Obligations.SlotWrites : Prop :=
  (∀ (s : State) (g : BookGroup) (rest : List BookGroup), s.pwr.groups = g :: rest → g.closed = true →
    Completes .promptBookGroupApply s (fun t => t.pwr.groups = rest ∧
      t.pwr.mirror = (if s.pwr.mirror.frozen then s.pwr.mirror else { s.pwr.mirror with
        calib := g.calib.getD s.pwr.mirror.calib
        settle := g.settle.getD s.pwr.mirror.settle }) ∧ ChangesOnly [.pwr, .pwrMirror] s t)) ∧
  (∀ s : State, s.pwr.groups = [] → Completes .promptBookGroupApply s (fun t => t = s)) ∧
  (∀ (s u : State) (dt : Nat), s.canonical = true → u = s.advance dt → u.mode.periodic = true →
    u.fld F.PWR_CFG_CKPT ≠ 0 → 100000000 * u.fld F.PWR_CFG_CKPT ≤ u.clk - u.pwr.ckptAt → u.pwr.write = none →
    u.pwr.curtain = false → Completes (.checkpointTimer dt) s (fun t => t.pwr.ckptAt = u.clk ∧
      (t.pwr.write.map (fun w => (w.slot, w.kind, w.book.counter))) =
        some ((u.lastCounter + 1) % 8, 0, u.lastCounter + 1) ∧
      t.pwr.slots = u.pwr.slots.set ((u.lastCounter + 1) % 8) .torn ∧ t.fld F.PWR_STATUS_WRITING = 1)) ∧
  (∀ (s u : State) (dt : Nat), u = s.advance dt → u.fld F.PWR_CFG_CKPT = 0 ∨ u.mode.periodic = false ∨
    u.clk - u.pwr.ckptAt < 100000000 * u.fld F.PWR_CFG_CKPT → Completes (.checkpointTimer dt) s (fun t => t = u)) ∧
  (∀ (s : State) (micros : Nat) (w : SlotWrite), s.canonical = true → s.pwr.write = some w → s.pwr.curtain = false →
    Completes (.slotWriteDone micros) s (fun t => t.pwr.write = none ∧
      t.pwr.slots = s.pwr.slots.set w.slot (.whole { w.book with crc := w.book.formCrc }) ∧
      t.fld F.PWR_STATUS_WRITING = 0 ∧ t.fld F.PWR_LAST_SAVE_TIME = min micros 65535 ∧ t.fld F.PWR_LAST_SAVE_OK = 1 ∧
      t.fld F.PWR_EVENT_SAVE_DONE = 1 ∧ (w.kind = 0 → Counted s t .PWR_CKPT_CNT))) ∧
  (∀ (s : State) (micros : Nat), s.pwr.write = none → Completes (.slotWriteDone micros) s (fun t => t = s))
end

