-- ==== Sys2Proof/Laws/Sparse.lean ====
section
/-! SUPPORT. Laws/Sparse.lean: what reading, storing and removing do to the sparse lists, and that they keep the canonical
form. -/

namespace Sys2Proof.Machine

variable {α : Type}

/-- A list that lies above a bound lies above a lower one. -/
theorem spAbove_mono {b c : Nat} {m : List (Nat × α)} (h : spAbove (some c) m = true) (hb : b ≤ c) :
    spAbove (some b) m = true := by
  cases m with
  | nil => rfl
  | cons e r =>
    simp only [spAbove, Bool.and_eq_true, decide_eq_true_eq] at h ⊢
    exact ⟨by omega, h.2⟩

/-- A rising list is rising above no bound. -/
theorem spAbove_none {c : Nat} {m : List (Nat × α)} (h : spAbove (some c) m = true) : spAbove none m = true := by
  cases m with
  | nil => rfl
  | cons e r =>
    simp only [spAbove, Bool.and_eq_true, Bool.true_and] at h ⊢
    exact h.2

/-- The head's key bounds the rest. -/
theorem spAbove_tail {b : Option Nat} {k : Nat} {v : α} {r : List (Nat × α)} (h : spAbove b ((k, v) :: r) = true) :
    spAbove (some k) r = true := by
  simp only [spAbove, Bool.and_eq_true] at h
  exact h.2

/-- A key below every key of the list reads as the default. -/
theorem spGet_of_above (d : α) {a c : Nat} {m : List (Nat × α)} (h : spAbove (some c) m = true) (ha : a ≤ c) :
    spGet d m a = d := by
  cases m with
  | nil => rfl
  | cons e r =>
    simp only [spAbove, Bool.and_eq_true, decide_eq_true_eq] at h
    obtain ⟨k, v⟩ := e
    simp only at h
    simp only [spGet]
    rw [if_neg (by omega), if_pos (by omega)]

theorem spAbove_erase {b : Option Nat} {m : List (Nat × α)} (a : Nat) (h : spAbove b m = true) :
    spAbove b (spErase m a) = true := by
  induction m generalizing b with
  | nil => exact h
  | cons e r ih =>
    obtain ⟨k, v⟩ := e
    simp only [spErase]
    split
    · rename_i ha
      have hr := spAbove_tail h
      cases b with
      | none => exact spAbove_none hr
      | some c =>
        refine spAbove_mono hr ?_
        simp only [spAbove, Bool.and_eq_true, decide_eq_true_eq] at h
        omega
    · split
      · exact h
      · simp only [spAbove, Bool.and_eq_true] at h ⊢
        exact ⟨h.1, ih h.2⟩

theorem spAbove_insert {b : Option Nat} {m : List (Nat × α)} (a : Nat) (x : α) (h : spAbove b m = true)
    (hb : ∀ c, b = some c → c < a) : spAbove b (spInsert m a x) = true := by
  induction m generalizing b with
  | nil =>
    simp only [spInsert, spAbove, Bool.and_true]
    cases b with
    | none => rfl
    | some c => simpa using hb c rfl
  | cons e r ih =>
    obtain ⟨k, v⟩ := e
    simp only [spInsert]
    split
    · rename_i ha
      subst ha
      exact h
    · split
      · rename_i hk
        simp only [spAbove, Bool.and_eq_true, decide_eq_true_eq] at h ⊢
        refine ⟨?_, hk, h.2⟩
        cases b with
        | none => rfl
        | some c => simpa using hb c rfl
      · simp only [spAbove, Bool.and_eq_true] at h ⊢
        refine ⟨h.1, ih h.2 ?_⟩
        intro c hc
        cases hc
        omega

theorem spAbove_set [DecidableEq α] {m : List (Nat × α)} (d : α) (a : Nat) (x : α) (h : spAbove none m = true) :
    spAbove none (spSet d m a x) = true := by
  unfold spSet
  split
  · exact spAbove_erase a h
  · exact spAbove_insert a x h (by intro c hc; cases hc)

theorem spErase_sub {m : List (Nat × α)} {a : Nat} {e : Nat × α} (h : e ∈ spErase m a) : e ∈ m := by
  induction m with
  | nil => exact h
  | cons y r ih =>
    obtain ⟨k, v⟩ := y
    simp only [spErase] at h
    split at h
    · exact List.mem_cons_of_mem _ h
    · split at h
      · exact h
      · rcases List.mem_cons.1 h with h' | h'
        · exact h' ▸ List.mem_cons_self
        · exact List.mem_cons_of_mem _ (ih h')

theorem spInsert_sub {m : List (Nat × α)} {a : Nat} {x : α} {e : Nat × α} (h : e ∈ spInsert m a x) :
    e = (a, x) ∨ e ∈ m := by
  induction m with
  | nil => exact .inl (by simpa [spInsert] using h)
  | cons y r ih =>
    obtain ⟨k, v⟩ := y
    simp only [spInsert] at h
    split at h
    · rcases List.mem_cons.1 h with h' | h'
      · exact .inl h'
      · exact .inr (List.mem_cons_of_mem _ h')
    · split at h
      · rcases List.mem_cons.1 h with h' | h'
        · exact .inl h'
        · exact .inr h'
      · rcases List.mem_cons.1 h with h' | h'
        · exact .inr (h' ▸ List.mem_cons_self)
        · rcases ih h' with h'' | h''
          · exact .inl h''
          · exact .inr (List.mem_cons_of_mem _ h'')

/-- Storing keeps the canonical form. -/
theorem spWf_set [DecidableEq α] {dflt : Nat → α} {m : List (Nat × α)} (a : Nat) (x : α) (h : spWf dflt m = true) :
    spWf dflt (spSet (dflt a) m a x) = true := by
  simp only [spWf, Bool.and_eq_true, List.all_eq_true, decide_eq_true_eq] at h ⊢
  refine ⟨spAbove_set _ a x h.1, fun e he => ?_⟩
  unfold spSet at he
  split at he
  · exact h.2 e (spErase_sub he)
  · rename_i hx
    rcases spInsert_sub he with rfl | he
    · exact hx
    · exact h.2 e he

theorem spAbove_filter {b : Option Nat} {m : List (Nat × α)} (p : Nat × α → Bool) (h : spAbove b m = true) :
    spAbove b (m.filter p) = true := by
  induction m generalizing b with
  | nil => exact h
  | cons e r ih =>
    obtain ⟨k, v⟩ := e
    have hr := spAbove_tail h
    simp only [List.filter]
    split
    · simp only [spAbove, Bool.and_eq_true] at h ⊢
      exact ⟨h.1, ih hr⟩
    · cases b with
      | none => exact ih (spAbove_none hr)
      | some c =>
        refine ih (spAbove_mono hr ?_)
        simp only [spAbove, Bool.and_eq_true, decide_eq_true_eq] at h
        omega

/-- Taking entries out keeps the canonical form. -/
theorem spWf_filter [DecidableEq α] {dflt : Nat → α} {m : List (Nat × α)} (p : Nat × α → Bool) (h : spWf dflt m = true) :
    spWf dflt (m.filter p) = true := by
  simp only [spWf, Bool.and_eq_true, List.all_eq_true, decide_eq_true_eq] at h ⊢
  exact ⟨spAbove_filter p h.1, fun e he => h.2 e (List.mem_filter.1 he).1⟩

theorem spGet_insert_same (d : α) (m : List (Nat × α)) (a : Nat) (x : α) : spGet d (spInsert m a x) a = x := by
  induction m with
  | nil => simp [spInsert, spGet]
  | cons e r ih =>
    obtain ⟨k, v⟩ := e
    simp only [spInsert]
    split
    · simp [spGet]
    · split
      · simp [spGet]
      · rename_i h1 h2
        simp only [spGet]
        rw [if_neg h1, if_neg h2]
        exact ih

theorem spGet_insert_ne (d : α) (m : List (Nat × α)) {a c : Nat} (x : α) (h : c ≠ a) :
    spAbove none m = true → spGet d (spInsert m a x) c = spGet d m c := by
  induction m with
  | nil =>
    intro _
    simp only [spInsert, spGet]
    rw [if_neg h]
    split <;> rfl
  | cons e r ih =>
    obtain ⟨k, v⟩ := e
    intro hs
    have hr := spAbove_tail hs
    simp only [spInsert]
    split
    · rename_i hk
      subst hk
      simp only [spGet]
      rw [if_neg h, if_neg h]
    · split
      · simp only [spGet]
        rw [if_neg h]
        by_cases hc : c < a
        · rw [if_pos hc, if_neg (by omega), if_pos (by omega)]
        · rw [if_neg hc]
      · simp only [spGet]
        split
        · rfl
        · split
          · rfl
          · exact ih (spAbove_none hr)

theorem spGet_erase_same (d : α) {m : List (Nat × α)} (a : Nat) (h : spAbove none m = true) :
    spGet d (spErase m a) a = d := by
  induction m with
  | nil => rfl
  | cons e r ih =>
    obtain ⟨k, v⟩ := e
    have hr := spAbove_tail h
    simp only [spErase]
    split
    · rename_i hk
      exact spGet_of_above d hr (by omega)
    · split
      · rename_i h1 h2
        simp only [spGet]
        rw [if_neg h1, if_pos h2]
      · rename_i h1 h2
        simp only [spGet]
        rw [if_neg h1, if_neg h2]
        exact ih (spAbove_none hr)

theorem spGet_erase_ne (d : α) {m : List (Nat × α)} {a c : Nat} (hc : c ≠ a) (h : spAbove none m = true) :
    spGet d (spErase m a) c = spGet d m c := by
  induction m with
  | nil => rfl
  | cons e r ih =>
    obtain ⟨k, v⟩ := e
    have hr := spAbove_tail h
    simp only [spErase]
    split
    · rename_i hk
      subst hk
      by_cases hlt : c < a
      · rw [spGet_of_above d hr (by omega)]
        simp only [spGet]
        rw [if_neg hc, if_pos hlt]
      · simp only [spGet]
        rw [if_neg hc, if_neg hlt]
    · split
      · rfl
      · simp only [spGet]
        split
        · rfl
        · split
          · rfl
          · exact ih (spAbove_none hr)

/-- A key that has just been stored reads as stored. -/
theorem spGet_set_same [DecidableEq α] (d : α) {m : List (Nat × α)} (a : Nat) (x : α) (h : spAbove none m = true) :
    spGet d (spSet d m a x) a = x := by
  unfold spSet
  split
  · rename_i hx
    rw [spGet_erase_same d a h, hx]
  · exact spGet_insert_same d m a x

/-- Storing under a key leaves every other key alone. -/
theorem spGet_set_ne [DecidableEq α] (d d' : α) {m : List (Nat × α)} {a c : Nat} (x : α) (hc : c ≠ a)
    (h : spAbove none m = true) : spGet d (spSet d' m a x) c = spGet d m c := by
  unfold spSet
  split
  · exact spGet_erase_ne d hc h
  · exact spGet_insert_ne d m x hc h

end Sys2Proof.Machine
end

