-- ==== Sys2Proof/Laws/Keeps.lean ====
section
/-! SUPPORT. Laws/Keeps.lean: what a command keeps and which parts it may change: for the operations that write the parts,
and for the ways in which meanings are put together. Sets of parts are numbers, one bit for each part. -/

namespace Sys2Proof.Machine

/-- The bit of a register in a set of parts. -/
def Reg.part (r : Reg) : Nat := 46 + r.ctorIdx

/-- The bit of a part. -/
def Part.bit (p : Part) : Nat :=
  match p with
  | .clk => 0
  | .free => 1
  | .wire => 2
  | .busData => 3
  | .work => 4
  | .snaps => 5
  | .stages => 6
  | .tables => 7
  | .dram => 8
  | .seqs => 9
  | .stripLen => 10
  | .crossed => 11
  | .glb => 12
  | .sec => 13
  | .evt => 14
  | .pmc => 15
  | .thm => 16
  | .pwr => 17
  | .tim => 18
  | .hst => 19
  | .fab => 20
  | .gaps => 21
  | .cam => 22
  | .cor => 23
  | .awf => 24
  | .seg => 25
  | .sti => 26
  | .lne => 27
  | .pos => 28
  | .mem => 29
  | .arc => 30
  | .dma => 31
  | .mrk => 32
  | .glbTrans => 33
  | .glbPend => 34
  | .glbPowered => 35
  | .memOps => 36
  | .memDone => 37
  | .memChange => 38
  | .dmaRun => 39
  | .arcRun => 40
  | .pwrMirror => 41
  | .pwrSlots => 42
  | .pwrWrite => 43
  | .pwrIdKey => 44
  | .secFuses => 45
  | .reg r => r.part

/-- A set of parts lies within another. -/
def Sub (a m : Nat) : Prop := m &&& a = a

theorem Sub.mono {a b m : Nat} (h : Sub b m) (e : b &&& a = a) : Sub a m := by
  unfold Sub at *
  rw [← e, ← Nat.and_assoc, h]

theorem Sub.rfl (m : Nat) : Sub m m := Nat.and_self m

theorem Sub.bit {a m k : Nat} (h : Sub a m) (e : a.testBit k = true) : m.testBit k = true := by
  rw [← h, Nat.testBit_and, Bool.and_eq_true] at e
  exact e.1

/-- Every register. -/
def allRegs : Nat := 0x7FFFFFFFFFFFFFFFFFFFFFFFFFFFFFFFFFFFFFFFFFFFFFFFFFFFFFFFFFFFFFFFFFFFFFFFFFFFFFFFFFFFFFFFFFFFFFFFFFFFFFFFFFFFFFFFFFFFFFFFFFFFFFFFFFFFFFFFC00000000000

/-- `t` may follow `s` by what a command does that changes no part outside `m`: the queue is left alone, the clock does not
run back, and what has left the device stays; from a canonical state a blown fuse stays blown, the state stays canonical,
and every part outside `m` is the same. -/
structure Keeps (m : Nat) (s t : State) : Prop where
  pending : t.pending = s.pending
  clk : s.clk ≤ t.clk
  wire : ∃ w, t.wire = s.wire ++ w
  fuses : s.canonical = true → ∀ k b, s.fuseBlown k b = true → t.fuseBlown k b = true
  canonical : s.canonical = true → t.canonical = true
  parts : s.canonical = true → ∀ p : Part, m.testBit p.bit = false → p.same s t

variable {m : Nat} {s0 s : State}

theorem Part.same_rfl (p : Part) (s : State) : p.same s s := by
  cases p <;> first | exact Eq.refl _ | exact fun _ => Eq.refl _ | exact fun _ _ => Eq.refl _

theorem Part.same_trans {p : Part} {a b c : State} (h : p.same a b) (k : p.same b c) : p.same a c := by
  cases p <;> first
    | exact Eq.trans k h
    | exact fun i => Eq.trans (k i) (h i)
    | exact fun r i => Eq.trans (k r i) (h r i)

theorem Keeps.rfl (m : Nat) (s : State) : Keeps m s s :=
  ⟨Eq.refl _, Nat.le_refl _, ⟨[], by simp⟩, fun _ _ _ h => h, fun h => h, fun _ p _ => p.same_rfl s⟩

theorem Keeps.trans {a b c : State} (h : Keeps m a b) (k : Keeps m b c) : Keeps m a c := by
  refine ⟨k.pending.trans h.pending, Nat.le_trans h.clk k.clk, ?_, fun hc i b hb => k.fuses (h.canonical hc) i b (h.fuses hc i b hb),
    fun hc => k.canonical (h.canonical hc), fun hc p hp => Part.same_trans (h.parts hc p hp) (k.parts (h.canonical hc) p hp)⟩
  obtain ⟨w, hw⟩ := h.wire
  obtain ⟨v, hv⟩ := k.wire
  exact ⟨w ++ v, by rw [hv, hw, List.append_assoc]⟩

/-- A state that differs only in parts that are plain data. -/
theorem keeps_upd {t : State} (hp : t.pending = s.pending) (hk : t.clk = s.clk) (hw : t.wire = s.wire)
    (h1 : t.regs = s.regs) (h2 : t.work = s.work) (h3 : t.snaps = s.snaps) (h4 : t.stages = s.stages)
    (h5 : t.tables = s.tables) (h6 : t.dram = s.dram) (h7 : t.sec.fuses = s.sec.fuses)
    (hf : spWf (fun _ => 0) s.evt.fired = true → spWf (fun _ => 0) t.evt.fired = true)
    (h8 : ∀ p : Part, m.testBit p.bit = false → p.same s t) (h : Keeps m s0 s) : Keeps m s0 t := by
  refine h.trans ⟨hp, Nat.le_of_eq hk.symm, ⟨[], by rw [hw, List.append_nil]⟩, ?_, ?_, fun _ => h8⟩
  · intro _ k b
    simp only [State.fuseBlown, h7]
    exact fun x => x
  · simp only [State.canonical, h1, h2, h3, h4, h5, h6, h7, Bool.and_eq_true]
    exact fun x => ⟨x.1, hf x.2⟩

/-! ### Parts that are plain data -/

theorem upd_free_keeps {x_free : Nat} (hm : Sub 0x2 m) (h : Keeps m s0 s) :
    Keeps m s0 { s with free := x_free } := by
  refine keeps_upd (s := s) rfl rfl rfl rfl rfl rfl rfl rfl rfl rfl (fun x => x) (fun p hp => ?_) h
  cases p <;> first | exact Eq.refl _ | exact fun _ => Eq.refl _ | exact fun _ _ => Eq.refl _ | exact Bool.noConfusion ((hm.bit rfl).symm.trans hp)

theorem upd_busData_keeps {x_busData : Word} (hm : Sub 0x8 m) (h : Keeps m s0 s) :
    Keeps m s0 { s with busData := x_busData } := by
  refine keeps_upd (s := s) rfl rfl rfl rfl rfl rfl rfl rfl rfl rfl (fun x => x) (fun p hp => ?_) h
  cases p <;> first | exact Eq.refl _ | exact fun _ => Eq.refl _ | exact fun _ _ => Eq.refl _ | exact Bool.noConfusion ((hm.bit rfl).symm.trans hp)

theorem upd_seqs_keeps {x_seqs : List Word} (hm : Sub 0x200 m) (h : Keeps m s0 s) :
    Keeps m s0 { s with seqs := x_seqs } := by
  refine keeps_upd (s := s) rfl rfl rfl rfl rfl rfl rfl rfl rfl rfl (fun x => x) (fun p hp => ?_) h
  cases p <;> first | exact Eq.refl _ | exact fun _ => Eq.refl _ | exact fun _ _ => Eq.refl _ | exact Bool.noConfusion ((hm.bit rfl).symm.trans hp)

theorem upd_crossed_keeps {x_crossed : List (Option LineNo)} (hm : Sub 0x800 m) (h : Keeps m s0 s) :
    Keeps m s0 { s with crossed := x_crossed } := by
  refine keeps_upd (s := s) rfl rfl rfl rfl rfl rfl rfl rfl rfl rfl (fun x => x) (fun p hp => ?_) h
  cases p <;> first | exact Eq.refl _ | exact fun _ => Eq.refl _ | exact fun _ _ => Eq.refl _ | exact Bool.noConfusion ((hm.bit rfl).symm.trans hp)

theorem upd_glb_keeps {x_glb : Glb} (hm : Sub 0x1000 m)
    (h_glbTrans : m.testBit 33 = true ∨ x_glb.trans = s.glb.trans) (h_glbPend : m.testBit 34 = true ∨ x_glb.pend = s.glb.pend) (h_glbPowered : m.testBit 35 = true ∨ x_glb.powered = s.glb.powered) (h : Keeps m s0 s) :
    Keeps m s0 { s with glb := x_glb } := by
  refine keeps_upd (s := s) rfl rfl rfl rfl rfl rfl rfl rfl rfl rfl (fun x => x) (fun p hp => ?_) h
  cases p <;> first | exact Eq.refl _ | exact h_glbTrans.resolve_left (fun e => Bool.noConfusion (e.symm.trans hp)) | exact h_glbPend.resolve_left (fun e => Bool.noConfusion (e.symm.trans hp)) | exact h_glbPowered.resolve_left (fun e => Bool.noConfusion (e.symm.trans hp)) | exact fun _ => Eq.refl _ | exact fun _ _ => Eq.refl _ | exact Bool.noConfusion ((hm.bit rfl).symm.trans hp)

theorem upd_evt_keeps {x_evt : Evt}
    (hf : spWf (fun _ => 0) s.evt.fired = true → spWf (fun _ => 0) x_evt.fired = true) (hm : Sub 0x4000 m) (h : Keeps m s0 s) :
    Keeps m s0 { s with evt := x_evt } := by
  refine keeps_upd (s := s) rfl rfl rfl rfl rfl rfl rfl rfl rfl rfl hf (fun p hp => ?_) h
  cases p <;> first | exact Eq.refl _ | exact fun _ => Eq.refl _ | exact fun _ _ => Eq.refl _ | exact Bool.noConfusion ((hm.bit rfl).symm.trans hp)

theorem upd_pmc_keeps {x_pmc : Pmc} (hm : Sub 0x8000 m) (h : Keeps m s0 s) :
    Keeps m s0 { s with pmc := x_pmc } := by
  refine keeps_upd (s := s) rfl rfl rfl rfl rfl rfl rfl rfl rfl rfl (fun x => x) (fun p hp => ?_) h
  cases p <;> first | exact Eq.refl _ | exact fun _ => Eq.refl _ | exact fun _ _ => Eq.refl _ | exact Bool.noConfusion ((hm.bit rfl).symm.trans hp)

theorem upd_thm_keeps {x_thm : Thm} (hm : Sub 0x10000 m) (h : Keeps m s0 s) :
    Keeps m s0 { s with thm := x_thm } := by
  refine keeps_upd (s := s) rfl rfl rfl rfl rfl rfl rfl rfl rfl rfl (fun x => x) (fun p hp => ?_) h
  cases p <;> first | exact Eq.refl _ | exact fun _ => Eq.refl _ | exact fun _ _ => Eq.refl _ | exact Bool.noConfusion ((hm.bit rfl).symm.trans hp)

theorem upd_pwr_keeps {x_pwr : Pwr} (hm : Sub 0x20000 m)
    (h_pwrMirror : m.testBit 41 = true ∨ x_pwr.mirror = s.pwr.mirror) (h_pwrSlots : m.testBit 42 = true ∨ x_pwr.slots = s.pwr.slots) (h_pwrWrite : m.testBit 43 = true ∨ x_pwr.write = s.pwr.write) (h_pwrIdKey : m.testBit 44 = true ∨ x_pwr.idKey = s.pwr.idKey) (h : Keeps m s0 s) :
    Keeps m s0 { s with pwr := x_pwr } := by
  refine keeps_upd (s := s) rfl rfl rfl rfl rfl rfl rfl rfl rfl rfl (fun x => x) (fun p hp => ?_) h
  cases p <;> first | exact Eq.refl _ | exact h_pwrMirror.resolve_left (fun e => Bool.noConfusion (e.symm.trans hp)) | exact h_pwrSlots.resolve_left (fun e => Bool.noConfusion (e.symm.trans hp)) | exact h_pwrWrite.resolve_left (fun e => Bool.noConfusion (e.symm.trans hp)) | exact h_pwrIdKey.resolve_left (fun e => Bool.noConfusion (e.symm.trans hp)) | exact fun _ => Eq.refl _ | exact fun _ _ => Eq.refl _ | exact Bool.noConfusion ((hm.bit rfl).symm.trans hp)

theorem upd_tim_keeps {x_tim : Tim} (hm : Sub 0x40000 m) (h : Keeps m s0 s) :
    Keeps m s0 { s with tim := x_tim } := by
  refine keeps_upd (s := s) rfl rfl rfl rfl rfl rfl rfl rfl rfl rfl (fun x => x) (fun p hp => ?_) h
  cases p <;> first | exact Eq.refl _ | exact fun _ => Eq.refl _ | exact fun _ _ => Eq.refl _ | exact Bool.noConfusion ((hm.bit rfl).symm.trans hp)

theorem upd_hst_keeps {x_hst : Hst} (hm : Sub 0x80000 m) (h : Keeps m s0 s) :
    Keeps m s0 { s with hst := x_hst } := by
  refine keeps_upd (s := s) rfl rfl rfl rfl rfl rfl rfl rfl rfl rfl (fun x => x) (fun p hp => ?_) h
  cases p <;> first | exact Eq.refl _ | exact fun _ => Eq.refl _ | exact fun _ _ => Eq.refl _ | exact Bool.noConfusion ((hm.bit rfl).symm.trans hp)

theorem upd_fab_keeps {x_fab : Fab} (hm : Sub 0x100000 m) (h : Keeps m s0 s) :
    Keeps m s0 { s with fab := x_fab } := by
  refine keeps_upd (s := s) rfl rfl rfl rfl rfl rfl rfl rfl rfl rfl (fun x => x) (fun p hp => ?_) h
  cases p <;> first | exact Eq.refl _ | exact fun _ => Eq.refl _ | exact fun _ _ => Eq.refl _ | exact Bool.noConfusion ((hm.bit rfl).symm.trans hp)

theorem upd_gaps_keeps {x_gaps : List OpenGap} (hm : Sub 0x200000 m) (h : Keeps m s0 s) :
    Keeps m s0 { s with gaps := x_gaps } := by
  refine keeps_upd (s := s) rfl rfl rfl rfl rfl rfl rfl rfl rfl rfl (fun x => x) (fun p hp => ?_) h
  cases p <;> first | exact Eq.refl _ | exact fun _ => Eq.refl _ | exact fun _ _ => Eq.refl _ | exact Bool.noConfusion ((hm.bit rfl).symm.trans hp)

theorem upd_cam_keeps {x_cam : List CamPort} (hm : Sub 0x400000 m) (h : Keeps m s0 s) :
    Keeps m s0 { s with cam := x_cam } := by
  refine keeps_upd (s := s) rfl rfl rfl rfl rfl rfl rfl rfl rfl rfl (fun x => x) (fun p hp => ?_) h
  cases p <;> first | exact Eq.refl _ | exact fun _ => Eq.refl _ | exact fun _ _ => Eq.refl _ | exact Bool.noConfusion ((hm.bit rfl).symm.trans hp)

theorem upd_cor_keeps {x_cor : Cor} (hm : Sub 0x800000 m) (h : Keeps m s0 s) :
    Keeps m s0 { s with cor := x_cor } := by
  refine keeps_upd (s := s) rfl rfl rfl rfl rfl rfl rfl rfl rfl rfl (fun x => x) (fun p hp => ?_) h
  cases p <;> first | exact Eq.refl _ | exact fun _ => Eq.refl _ | exact fun _ _ => Eq.refl _ | exact Bool.noConfusion ((hm.bit rfl).symm.trans hp)

theorem upd_awf_keeps {x_awf : List AwfHead} (hm : Sub 0x1000000 m) (h : Keeps m s0 s) :
    Keeps m s0 { s with awf := x_awf } := by
  refine keeps_upd (s := s) rfl rfl rfl rfl rfl rfl rfl rfl rfl rfl (fun x => x) (fun p hp => ?_) h
  cases p <;> first | exact Eq.refl _ | exact fun _ => Eq.refl _ | exact fun _ _ => Eq.refl _ | exact Bool.noConfusion ((hm.bit rfl).symm.trans hp)

theorem upd_seg_keeps {x_seg : Seg} (hm : Sub 0x2000000 m) (h : Keeps m s0 s) :
    Keeps m s0 { s with seg := x_seg } := by
  refine keeps_upd (s := s) rfl rfl rfl rfl rfl rfl rfl rfl rfl rfl (fun x => x) (fun p hp => ?_) h
  cases p <;> first | exact Eq.refl _ | exact fun _ => Eq.refl _ | exact fun _ _ => Eq.refl _ | exact Bool.noConfusion ((hm.bit rfl).symm.trans hp)

theorem upd_sti_keeps {x_sti : Sti} (hm : Sub 0x4000000 m) (h : Keeps m s0 s) :
    Keeps m s0 { s with sti := x_sti } := by
  refine keeps_upd (s := s) rfl rfl rfl rfl rfl rfl rfl rfl rfl rfl (fun x => x) (fun p hp => ?_) h
  cases p <;> first | exact Eq.refl _ | exact fun _ => Eq.refl _ | exact fun _ _ => Eq.refl _ | exact Bool.noConfusion ((hm.bit rfl).symm.trans hp)

theorem upd_lne_keeps {x_lne : Lne} (hm : Sub 0x8000000 m) (h : Keeps m s0 s) :
    Keeps m s0 { s with lne := x_lne } := by
  refine keeps_upd (s := s) rfl rfl rfl rfl rfl rfl rfl rfl rfl rfl (fun x => x) (fun p hp => ?_) h
  cases p <;> first | exact Eq.refl _ | exact fun _ => Eq.refl _ | exact fun _ _ => Eq.refl _ | exact Bool.noConfusion ((hm.bit rfl).symm.trans hp)

theorem upd_pos_keeps {x_pos : Pos} (hm : Sub 0x10000000 m) (h : Keeps m s0 s) :
    Keeps m s0 { s with pos := x_pos } := by
  refine keeps_upd (s := s) rfl rfl rfl rfl rfl rfl rfl rfl rfl rfl (fun x => x) (fun p hp => ?_) h
  cases p <;> first | exact Eq.refl _ | exact fun _ => Eq.refl _ | exact fun _ _ => Eq.refl _ | exact Bool.noConfusion ((hm.bit rfl).symm.trans hp)

theorem upd_mem_keeps {x_mem : Mem} (hm : Sub 0x20000000 m)
    (h_memOps : m.testBit 36 = true ∨ x_mem.ops = s.mem.ops) (h_memDone : m.testBit 37 = true ∨ x_mem.done = s.mem.done) (h_memChange : m.testBit 38 = true ∨ x_mem.change = s.mem.change) (h : Keeps m s0 s) :
    Keeps m s0 { s with mem := x_mem } := by
  refine keeps_upd (s := s) rfl rfl rfl rfl rfl rfl rfl rfl rfl rfl (fun x => x) (fun p hp => ?_) h
  cases p <;> first | exact Eq.refl _ | exact h_memOps.resolve_left (fun e => Bool.noConfusion (e.symm.trans hp)) | exact h_memDone.resolve_left (fun e => Bool.noConfusion (e.symm.trans hp)) | exact h_memChange.resolve_left (fun e => Bool.noConfusion (e.symm.trans hp)) | exact fun _ => Eq.refl _ | exact fun _ _ => Eq.refl _ | exact Bool.noConfusion ((hm.bit rfl).symm.trans hp)

theorem upd_arc_keeps {x_arc : Arc} (hm : Sub 0x40000000 m)
    (h_arcRun : m.testBit 40 = true ∨ x_arc.run = s.arc.run) (h : Keeps m s0 s) :
    Keeps m s0 { s with arc := x_arc } := by
  refine keeps_upd (s := s) rfl rfl rfl rfl rfl rfl rfl rfl rfl rfl (fun x => x) (fun p hp => ?_) h
  cases p <;> first | exact Eq.refl _ | exact h_arcRun.resolve_left (fun e => Bool.noConfusion (e.symm.trans hp)) | exact fun _ => Eq.refl _ | exact fun _ _ => Eq.refl _ | exact Bool.noConfusion ((hm.bit rfl).symm.trans hp)

theorem upd_dma_keeps {x_dma : Dma} (hm : Sub 0x80000000 m)
    (h_dmaRun : m.testBit 39 = true ∨ x_dma.run = s.dma.run) (h : Keeps m s0 s) :
    Keeps m s0 { s with dma := x_dma } := by
  refine keeps_upd (s := s) rfl rfl rfl rfl rfl rfl rfl rfl rfl rfl (fun x => x) (fun p hp => ?_) h
  cases p <;> first | exact Eq.refl _ | exact h_dmaRun.resolve_left (fun e => Bool.noConfusion (e.symm.trans hp)) | exact fun _ => Eq.refl _ | exact fun _ _ => Eq.refl _ | exact Bool.noConfusion ((hm.bit rfl).symm.trans hp)

theorem upd_mrk_keeps {x_mrk : Mrk} (hm : Sub 0x100000000 m) (h : Keeps m s0 s) :
    Keeps m s0 { s with mrk := x_mrk } := by
  refine keeps_upd (s := s) rfl rfl rfl rfl rfl rfl rfl rfl rfl rfl (fun x => x) (fun p hp => ?_) h
  cases p <;> first | exact Eq.refl _ | exact fun _ => Eq.refl _ | exact fun _ _ => Eq.refl _ | exact Bool.noConfusion ((hm.bit rfl).symm.trans hp)

theorem upd_sec_keeps {x_sec : Sec} (hf : x_sec.fuses = s.sec.fuses) (hm : Sub 0x2000 m) (h : Keeps m s0 s) :
    Keeps m s0 { s with sec := x_sec } := by
  refine keeps_upd (s := s) rfl rfl rfl rfl rfl rfl rfl rfl rfl hf (fun x => x) (fun p hp => ?_) h
  cases p <;> first | exact Eq.refl _ | exact hf | exact fun _ => Eq.refl _ | exact fun _ _ => Eq.refl _ | exact Bool.noConfusion ((hm.bit rfl).symm.trans hp)

theorem upd_seg_arc_keeps {x_seg : Seg} {x_arc : Arc} (hm : Sub 0x42000000 m)
    (h_arcRun : m.testBit 40 = true ∨ x_arc.run = s.arc.run) (h : Keeps m s0 s) :
    Keeps m s0 { s with seg := x_seg, arc := x_arc } := by
  refine keeps_upd (s := s) rfl rfl rfl rfl rfl rfl rfl rfl rfl rfl (fun x => x) (fun p hp => ?_) h
  cases p <;> first | exact Eq.refl _ | exact h_arcRun.resolve_left (fun e => Bool.noConfusion (e.symm.trans hp)) | exact fun _ => Eq.refl _ | exact fun _ _ => Eq.refl _ | exact Bool.noConfusion ((hm.bit rfl).symm.trans hp)

theorem upd_glb_sti_keeps {x_glb : Glb} {x_sti : Sti} (hm : Sub 0x4001000 m)
    (h_glbTrans : m.testBit 33 = true ∨ x_glb.trans = s.glb.trans) (h_glbPend : m.testBit 34 = true ∨ x_glb.pend = s.glb.pend) (h_glbPowered : m.testBit 35 = true ∨ x_glb.powered = s.glb.powered) (h : Keeps m s0 s) :
    Keeps m s0 { s with glb := x_glb, sti := x_sti } := by
  refine keeps_upd (s := s) rfl rfl rfl rfl rfl rfl rfl rfl rfl rfl (fun x => x) (fun p hp => ?_) h
  cases p <;> first | exact Eq.refl _ | exact h_glbTrans.resolve_left (fun e => Bool.noConfusion (e.symm.trans hp)) | exact h_glbPend.resolve_left (fun e => Bool.noConfusion (e.symm.trans hp)) | exact h_glbPowered.resolve_left (fun e => Bool.noConfusion (e.symm.trans hp)) | exact fun _ => Eq.refl _ | exact fun _ _ => Eq.refl _ | exact Bool.noConfusion ((hm.bit rfl).symm.trans hp)

theorem upd_glb_cam_keeps {x_glb : Glb} {x_cam : List CamPort} (hm : Sub 0x401000 m)
    (h_glbTrans : m.testBit 33 = true ∨ x_glb.trans = s.glb.trans) (h_glbPend : m.testBit 34 = true ∨ x_glb.pend = s.glb.pend) (h_glbPowered : m.testBit 35 = true ∨ x_glb.powered = s.glb.powered) (h : Keeps m s0 s) :
    Keeps m s0 { s with glb := x_glb, cam := x_cam } := by
  refine keeps_upd (s := s) rfl rfl rfl rfl rfl rfl rfl rfl rfl rfl (fun x => x) (fun p hp => ?_) h
  cases p <;> first | exact Eq.refl _ | exact h_glbTrans.resolve_left (fun e => Bool.noConfusion (e.symm.trans hp)) | exact h_glbPend.resolve_left (fun e => Bool.noConfusion (e.symm.trans hp)) | exact h_glbPowered.resolve_left (fun e => Bool.noConfusion (e.symm.trans hp)) | exact fun _ => Eq.refl _ | exact fun _ _ => Eq.refl _ | exact Bool.noConfusion ((hm.bit rfl).symm.trans hp)

theorem upd_pwr_pos_keeps {x_pwr : Pwr} {x_pos : Pos} (hm : Sub 0x10020000 m)
    (h_pwrMirror : m.testBit 41 = true ∨ x_pwr.mirror = s.pwr.mirror) (h_pwrSlots : m.testBit 42 = true ∨ x_pwr.slots = s.pwr.slots) (h_pwrWrite : m.testBit 43 = true ∨ x_pwr.write = s.pwr.write) (h_pwrIdKey : m.testBit 44 = true ∨ x_pwr.idKey = s.pwr.idKey) (h : Keeps m s0 s) :
    Keeps m s0 { s with pwr := x_pwr, pos := x_pos } := by
  refine keeps_upd (s := s) rfl rfl rfl rfl rfl rfl rfl rfl rfl rfl (fun x => x) (fun p hp => ?_) h
  cases p <;> first | exact Eq.refl _ | exact h_pwrMirror.resolve_left (fun e => Bool.noConfusion (e.symm.trans hp)) | exact h_pwrSlots.resolve_left (fun e => Bool.noConfusion (e.symm.trans hp)) | exact h_pwrWrite.resolve_left (fun e => Bool.noConfusion (e.symm.trans hp)) | exact h_pwrIdKey.resolve_left (fun e => Bool.noConfusion (e.symm.trans hp)) | exact fun _ => Eq.refl _ | exact fun _ _ => Eq.refl _ | exact Bool.noConfusion ((hm.bit rfl).symm.trans hp)

theorem upd_seqs_glb_pwr_keeps {x_seqs : List Word} {x_glb : Glb} {x_pwr : Pwr} (hm : Sub 0x21200 m)
    (h_glbTrans : m.testBit 33 = true ∨ x_glb.trans = s.glb.trans) (h_glbPend : m.testBit 34 = true ∨ x_glb.pend = s.glb.pend) (h_glbPowered : m.testBit 35 = true ∨ x_glb.powered = s.glb.powered) (h_pwrMirror : m.testBit 41 = true ∨ x_pwr.mirror = s.pwr.mirror) (h_pwrSlots : m.testBit 42 = true ∨ x_pwr.slots = s.pwr.slots) (h_pwrWrite : m.testBit 43 = true ∨ x_pwr.write = s.pwr.write) (h_pwrIdKey : m.testBit 44 = true ∨ x_pwr.idKey = s.pwr.idKey) (h : Keeps m s0 s) :
    Keeps m s0 { s with seqs := x_seqs, glb := x_glb, pwr := x_pwr } := by
  refine keeps_upd (s := s) rfl rfl rfl rfl rfl rfl rfl rfl rfl rfl (fun x => x) (fun p hp => ?_) h
  cases p <;> first | exact Eq.refl _ | exact h_glbTrans.resolve_left (fun e => Bool.noConfusion (e.symm.trans hp)) | exact h_glbPend.resolve_left (fun e => Bool.noConfusion (e.symm.trans hp)) | exact h_glbPowered.resolve_left (fun e => Bool.noConfusion (e.symm.trans hp)) | exact h_pwrMirror.resolve_left (fun e => Bool.noConfusion (e.symm.trans hp)) | exact h_pwrSlots.resolve_left (fun e => Bool.noConfusion (e.symm.trans hp)) | exact h_pwrWrite.resolve_left (fun e => Bool.noConfusion (e.symm.trans hp)) | exact h_pwrIdKey.resolve_left (fun e => Bool.noConfusion (e.symm.trans hp)) | exact fun _ => Eq.refl _ | exact fun _ _ => Eq.refl _ | exact Bool.noConfusion ((hm.bit rfl).symm.trans hp)

theorem upd_busData_tim_keeps {x_busData : Word} {x_tim : Tim} (hm : Sub 0x40008 m) (h : Keeps m s0 s) :
    Keeps m s0 { s with busData := x_busData, tim := x_tim } := by
  refine keeps_upd (s := s) rfl rfl rfl rfl rfl rfl rfl rfl rfl rfl (fun x => x) (fun p hp => ?_) h
  cases p <;> first | exact Eq.refl _ | exact fun _ => Eq.refl _ | exact fun _ _ => Eq.refl _ | exact Bool.noConfusion ((hm.bit rfl).symm.trans hp)

theorem upd_sec_pwr_keeps {x_sec : Sec} {x_pwr : Pwr} (hf : x_sec.fuses = s.sec.fuses) (hm : Sub 0x22000 m)
    (h_pwrMirror : m.testBit 41 = true ∨ x_pwr.mirror = s.pwr.mirror) (h_pwrSlots : m.testBit 42 = true ∨ x_pwr.slots = s.pwr.slots) (h_pwrWrite : m.testBit 43 = true ∨ x_pwr.write = s.pwr.write) (h_pwrIdKey : m.testBit 44 = true ∨ x_pwr.idKey = s.pwr.idKey) (h : Keeps m s0 s) :
    Keeps m s0 { s with sec := x_sec, pwr := x_pwr } := by
  refine keeps_upd (s := s) rfl rfl rfl rfl rfl rfl rfl rfl rfl hf (fun x => x) (fun p hp => ?_) h
  cases p <;> first | exact Eq.refl _ | exact hf | exact h_pwrMirror.resolve_left (fun e => Bool.noConfusion (e.symm.trans hp)) | exact h_pwrSlots.resolve_left (fun e => Bool.noConfusion (e.symm.trans hp)) | exact h_pwrWrite.resolve_left (fun e => Bool.noConfusion (e.symm.trans hp)) | exact h_pwrIdKey.resolve_left (fun e => Bool.noConfusion (e.symm.trans hp)) | exact fun _ => Eq.refl _ | exact fun _ _ => Eq.refl _ | exact Bool.noConfusion ((hm.bit rfl).symm.trans hp)

theorem upd_tim_hst_cor_awf_seg_sti_keeps {x_tim : Tim} {x_hst : Hst} {x_cor : Cor} {x_awf : List AwfHead} {x_seg : Seg} {x_sti : Sti} (hm : Sub 0x78C0000 m) (h : Keeps m s0 s) :
    Keeps m s0 { s with tim := x_tim, hst := x_hst, cor := x_cor, awf := x_awf, seg := x_seg, sti := x_sti } := by
  refine keeps_upd (s := s) rfl rfl rfl rfl rfl rfl rfl rfl rfl rfl (fun x => x) (fun p hp => ?_) h
  cases p <;> first | exact Eq.refl _ | exact fun _ => Eq.refl _ | exact fun _ _ => Eq.refl _ | exact Bool.noConfusion ((hm.bit rfl).symm.trans hp)

/-! ### How meanings are put together -/

/-- What Keeps says of an outcome: it holds of the next state, if there is one. -/
def KeepsOut (m : Nat) (s : State) (o : Host.Outcome State Fault Refusal) : Prop := ∀ t, o = .next t → Keeps m s t

theorem keepsOut_next (h : Keeps m s0 s) : KeepsOut m s0 (.next s) := by
  intro t ht
  cases ht
  exact h

theorem keepsOut_ite {c : Prop} [Decidable c] {a b : Host.Outcome State Fault Refusal} (ha : KeepsOut m s0 a)
    (hb : KeepsOut m s0 b) : KeepsOut m s0 (if c then a else b) := by
  split
  · exact ha
  · exact hb

theorem keeps_ite {c : Prop} [Decidable c] {a b : State} (ha : Keeps m s0 a) (hb : Keeps m s0 b) :
    Keeps m s0 (if c then a else b) := by
  split
  · exact ha
  · exact hb

theorem keeps_ite_fst {c : Prop} [Decidable c] {α : Type} {a b : State × α} (ha : Keeps m s0 a.1) (hb : Keeps m s0 b.1) :
    Keeps m s0 (if c then a else b).1 := by
  split
  · exact ha
  · exact hb

theorem keeps_ite_snd {c : Prop} [Decidable c] {α : Type} {a b : α × State} (ha : Keeps m s0 a.2) (hb : Keeps m s0 b.2) :
    Keeps m s0 (if c then a else b).2 := by
  split
  · exact ha
  · exact hb

theorem keeps_foldl {β : Type} {f : State → β → State} {xs : List β} (hf : ∀ t x, Keeps m s0 t → Keeps m s0 (f t x))
    (h : Keeps m s0 s) : Keeps m s0 (xs.foldl f s) := by
  induction xs generalizing s with
  | nil => exact h
  | cons x r ih => exact ih (hf s x h)

theorem keeps_foldl_fst {α β : Type} {f : State × α → β → State × α} {xs : List β} {a : State × α}
    (hf : ∀ t x, Keeps m s0 t.1 → Keeps m s0 (f t x).1) (h : Keeps m s0 a.1) : Keeps m s0 (xs.foldl f a).1 := by
  induction xs generalizing a with
  | nil => exact h
  | cons x r ih => exact ih (hf a x h)

theorem keeps_foldl_snd {α β : Type} {f : α × State → β → α × State} {xs : List β} {a : α × State}
    (hf : ∀ t x, Keeps m s0 t.2 → Keeps m s0 (f t x).2) (h : Keeps m s0 a.2) : Keeps m s0 (xs.foldl f a).2 := by
  induction xs generalizing a with
  | nil => exact h
  | cons x r ih => exact ih (hf a x h)

theorem keeps_forBelow {n : Nat} {f : Nat → State → State} (hf : ∀ i t, Keeps m s0 t → Keeps m s0 (f i t))
    (h : Keeps m s0 s) : Keeps m s0 (forBelow n f s) :=
  keeps_foldl (fun t x ht => hf x t ht) h

theorem keeps_when {c : Bool} {f : State → State} (hf : ∀ t, Keeps m s0 t → Keeps m s0 (f t)) (h : Keeps m s0 s) :
    Keeps m s0 (when c f s) := by
  unfold when
  exact keeps_ite (hf s h) h

/-! ### The canonical form, part by part -/

theorem State.canonical_iff : s.canonical = true ↔ spAbove none s.regs = true ∧ spAbove none s.work = true ∧
    spWf (fun _ => 0) s.snaps = true ∧ spWf (fun _ => 0) s.stages = true ∧ spWf tabDefault s.tables = true ∧
    Memory.wf s.dram = true ∧ spWf (fun _ => 0) s.sec.fuses = true ∧ spWf (fun _ => 0) s.evt.fired = true := by
  simp only [State.canonical, Bool.and_eq_true, and_assoc]

theorem State.canonical_regs (h : s.canonical = true) : spAbove none s.regs = true := (State.canonical_iff.1 h).1

/-! ### Reading after writing -/

theorem Reg.ctorIdx_lt (r : Reg) : r.ctorIdx < 1024 := by
  cases r <;> exact of_decide_eq_true rfl

theorem Reg.key_ne {r r' : Reg} (h : r.part ≠ r'.part) (i j : Nat) : r.key i ≠ r'.key j := by
  have h1 := r.ctorIdx_lt
  have h2 := r'.ctorIdx_lt
  unfold Reg.part at h
  unfold Reg.key
  omega

theorem Reg.key_index_ne (r : Reg) {i j : Nat} (h : i ≠ j) : r.key i ≠ r.key j := by
  unfold Reg.key
  omega

@[simp] theorem rd_wr_same (r : Reg) (i : Nat) (w : Word) (h : s.canonical = true) : (s.wr r i w).rd r i = w :=
  spGet_set_same _ _ _ (State.canonical_regs h)

theorem rd_wr_ne {r r' : Reg} {i j : Nat} (w : Word) (hk : r'.key j ≠ r.key i) (h : s.canonical = true) :
    (s.wr r i w).rd r' j = s.rd r' j :=
  spGet_set_ne _ _ _ hk (State.canonical_regs h)

theorem canonical_wr (r : Reg) (i : Nat) (w : Word) (h : s.canonical = true) : (s.wr r i w).canonical = true := by
  have hc := State.canonical_iff.1 h
  exact State.canonical_iff.2 ⟨spAbove_set _ _ _ hc.1, hc.2⟩

/-! ### The operations that write the parts -/

theorem part_ne {p q : Nat} (hp : m.testBit p = true) (hq : m.testBit q = false) : p ≠ q := by
  intro e
  rw [e, hq] at hp
  cases hp

theorem wr_keeps {r : Reg} {i : Nat} {w : Word} (hr : m.testBit r.part = true) (h : Keeps m s0 s) :
    Keeps m s0 (s.wr r i w) := by
  refine h.trans ⟨Eq.refl _, Nat.le_refl _, ⟨[], by simp [State.wr]⟩, fun _ _ _ x => x, canonical_wr r i w, fun hc p hp => ?_⟩
  cases p with
  | reg r' => exact fun j => rd_wr_ne w (Reg.key_ne (part_ne hr hp).symm j i) hc
  | _ => first | exact Eq.refl _ | exact fun _ => Eq.refl _ | exact fun _ _ => Eq.refl _

theorem latch_keeps {r : Reg} {i : Nat} (hm : Sub 0x10 m) (h : Keeps m s0 s) : Keeps m s0 (s.latch r i) := by
  refine h.trans ⟨Eq.refl _, Nat.le_refl _, ⟨[], by simp [State.latch]⟩, fun _ _ _ x => x, fun hc => ?_, fun hc p hp => ?_⟩
  · obtain ⟨h1, h2, h3⟩ := State.canonical_iff.1 hc
    exact State.canonical_iff.2 ⟨h1, spAbove_set _ _ _ h2, h3⟩
  · cases p <;> first | exact Eq.refl _ | exact Bool.noConfusion ((hm.bit rfl).symm.trans hp) | exact fun _ => Eq.refl _ | exact fun _ _ => Eq.refl _

theorem clearTabs_keeps {p : Nat → Bool} (hm : Sub 0x80 m) (h : Keeps m s0 s) : Keeps m s0 (s.clearTabs p) := by
  refine h.trans ⟨Eq.refl _, Nat.le_refl _, ⟨[], by simp [State.clearTabs]⟩, fun _ _ _ x => x, fun hc => ?_, fun hc p hp => ?_⟩
  · obtain ⟨h1, h2, h3, h4, h5, h6⟩ := State.canonical_iff.1 hc
    exact State.canonical_iff.2 ⟨h1, h2, h3, h4, spWf_filter _ h5, h6⟩
  · cases p <;> first | exact Eq.refl _ | exact Bool.noConfusion ((hm.bit rfl).symm.trans hp) | exact fun _ => Eq.refl _ | exact fun _ _ => Eq.refl _

theorem setTab_keeps {a : Nat} {w : Word} (hm : Sub 0x80 m) (h : Keeps m s0 s) : Keeps m s0 (s.setTab a w) := by
  refine h.trans ⟨Eq.refl _, Nat.le_refl _, ⟨[], by simp [State.setTab]⟩, fun _ _ _ x => x, fun hc => ?_, fun hc p hp => ?_⟩
  · obtain ⟨h1, h2, h3, h4, h5, h6⟩ := State.canonical_iff.1 hc
    exact State.canonical_iff.2 ⟨h1, h2, h3, h4, spWf_set a w h5, h6⟩
  · cases p <;> first | exact Eq.refl _ | exact Bool.noConfusion ((hm.bit rfl).symm.trans hp) | exact fun _ => Eq.refl _ | exact fun _ _ => Eq.refl _

theorem setSnap_keeps {a : Nat} {w : Word} (hm : Sub 0x20 m) (h : Keeps m s0 s) : Keeps m s0 (s.setSnap a w) := by
  refine h.trans ⟨Eq.refl _, Nat.le_refl _, ⟨[], by simp [State.setSnap]⟩, fun _ _ _ x => x, fun hc => ?_, fun hc p hp => ?_⟩
  · obtain ⟨h1, h2, h3, h4⟩ := State.canonical_iff.1 hc
    exact State.canonical_iff.2 ⟨h1, h2, spWf_set a w h3, h4⟩
  · cases p <;> first | exact Eq.refl _ | exact Bool.noConfusion ((hm.bit rfl).symm.trans hp) | exact fun _ => Eq.refl _ | exact fun _ _ => Eq.refl _

theorem setStage_keeps {a : Nat} {w : Word} (hm : Sub 0x40 m) (h : Keeps m s0 s) : Keeps m s0 (s.setStage a w) := by
  refine h.trans ⟨Eq.refl _, Nat.le_refl _, ⟨[], by simp [State.setStage]⟩, fun _ _ _ x => x, fun hc => ?_, fun hc p hp => ?_⟩
  · obtain ⟨h1, h2, h3, h4, h5⟩ := State.canonical_iff.1 hc
    exact State.canonical_iff.2 ⟨h1, h2, h3, spWf_set a w h4, h5⟩
  · cases p <;> first | exact Eq.refl _ | exact Bool.noConfusion ((hm.bit rfl).symm.trans hp) | exact fun _ => Eq.refl _ | exact fun _ _ => Eq.refl _

/-- Storing bytes keeps the DRAM's canonical form. -/
theorem dramPut_wf {m : List Host.Cell} (a : Nat) (bs : List Byte) (h : Memory.wf m = true) :
    Memory.wf (dramPut m a bs) = true := by
  induction bs generalizing m a with
  | nil => exact h
  | cons b r ih => exact ih (a + 1) (spWf_set (dflt := fun _ => 0) a b h)

theorem dramWrite_keeps {a : Nat} {bs : List Byte} (hm : Sub 0x100 m) (h : Keeps m s0 s) : Keeps m s0 (s.dramWrite a bs) := by
  refine h.trans ⟨Eq.refl _, Nat.le_refl _, ⟨[], by simp [State.dramWrite]⟩, fun _ _ _ x => x, fun hc => ?_, fun hc p hp => ?_⟩
  · obtain ⟨h1, h2, h3, h4, h5, h6, h7⟩ := State.canonical_iff.1 hc
    exact State.canonical_iff.2 ⟨h1, h2, h3, h4, h5, dramPut_wf a bs h6, h7⟩
  · cases p <;> first | exact Eq.refl _ | exact Bool.noConfusion ((hm.bit rfl).symm.trans hp) | exact fun _ => Eq.refl _ | exact fun _ _ => Eq.refl _

theorem clearDram_keeps {p : Nat → Bool} (hm : Sub 0x100 m) (h : Keeps m s0 s) : Keeps m s0 (s.clearDram p) := by
  refine h.trans ⟨Eq.refl _, Nat.le_refl _, ⟨[], by simp [State.clearDram]⟩, fun _ _ _ x => x, fun hc => ?_, fun hc p hp => ?_⟩
  · obtain ⟨h1, h2, h3, h4, h5, h6, h7⟩ := State.canonical_iff.1 hc
    exact State.canonical_iff.2 ⟨h1, h2, h3, h4, h5, spWf_filter _ h6, h7⟩
  · cases p <;> first | exact Eq.refl _ | exact Bool.noConfusion ((hm.bit rfl).symm.trans hp) | exact fun _ => Eq.refl _ | exact fun _ _ => Eq.refl _

theorem emit_keeps {e : Emission} (hm : Sub 0x4 m) (h : Keeps m s0 s) : Keeps m s0 (s.emit e) := by
  refine h.trans ⟨Eq.refl _, Nat.le_refl _, ⟨[e], Eq.refl _⟩, fun _ _ _ x => x, fun hc => ?_, fun hc p hp => ?_⟩
  · exact hc
  · cases p <;> first | exact Eq.refl _ | exact Bool.noConfusion ((hm.bit rfl).symm.trans hp) | exact fun _ => Eq.refl _ | exact fun _ _ => Eq.refl _

theorem passClock_keeps {n k : Nat} (hm : Sub 0x8001 m) (h : Keeps m s0 s) : Keeps m s0 (s.passClock n k) := by
  refine h.trans ⟨Eq.refl _, Nat.le_add_right _ _, ⟨[], by simp [State.passClock]⟩, fun _ _ _ x => x, fun hc => hc,
    fun hc p hp => ?_⟩
  cases p <;> first
    | exact Eq.refl _
    | exact Bool.noConfusion ((hm.bit rfl).symm.trans hp)
    | exact fun _ => Eq.refl _ | exact fun _ _ => Eq.refl _

/-- R497: a fuse word takes more blown bits and loses none. -/
theorem blowBits_keeps {k : Nat} {w : Word} (hm : Sub 0x200000002000 m) (h : Keeps m s0 s) : Keeps m s0 (s.blowBits k w) := by
  refine h.trans ⟨Eq.refl _, Nat.le_refl _, ⟨[], by simp [State.blowBits]⟩, fun hc i b hb => ?_, fun hc => ?_,
    fun hc p hp => ?_⟩
  · have hf := (State.canonical_iff.1 hc).2.2.2.2.2.2.1
    simp only [spWf, Bool.and_eq_true] at hf
    simp only [State.fuseBlown, State.blowBits] at hb ⊢
    by_cases hi : i = k
    · subst hi
      rw [spGet_set_same 0 i _ hf.1, BitVec.getLsbD_or, hb, Bool.true_or]
    · rw [spGet_set_ne 0 0 _ hi hf.1]
      exact hb
  · obtain ⟨h1, h2, h3, h4, h5, h6, h7, h8⟩ := State.canonical_iff.1 hc
    exact State.canonical_iff.2 ⟨h1, h2, h3, h4, h5, h6, spWf_set (dflt := fun _ => 0) k _ h7, h8⟩
  · cases p <;> first
      | exact Eq.refl _
      | exact Bool.noConfusion ((hm.bit rfl).symm.trans hp)
      | exact fun _ => Eq.refl _ | exact fun _ _ => Eq.refl _

theorem put_keeps {f : Fld} {i v : Nat} (hr : m.testBit f.reg.part = true) (hs : Keeps m s0 s) :
    Keeps m s0 (s.put f i v) :=
  wr_keeps hr hs

theorem putB_keeps {f : Fld} {i : Nat} {b : Bool} (hr : m.testBit f.reg.part = true) (hs : Keeps m s0 s) :
    Keeps m s0 (s.putB f i b) :=
  put_keeps hr hs

theorem count_keeps {r : Reg} {i n : Nat} (hr : m.testBit r.part = true) (hs : Keeps m s0 s) :
    Keeps m s0 (s.count r i n) :=
  wr_keeps hr hs

theorem countFld_keeps {f : Fld} {i n : Nat} (hr : m.testBit f.reg.part = true) (hs : Keeps m s0 s) :
    Keeps m s0 (s.countFld f i n) :=
  put_keeps hr hs

theorem setPair_keeps {lo hi : Reg} {i w v : Nat} (hl : m.testBit lo.part = true) (hh : m.testBit hi.part = true)
    (hs : Keeps m s0 s) : Keeps m s0 (s.setPair lo hi i w v) :=
  wr_keeps hh (wr_keeps hl hs)

theorem countPair_keeps {lo hi : Reg} {i n : Nat} (hl : m.testBit lo.part = true) (hh : m.testBit hi.part = true)
    (hs : Keeps m s0 s) : Keeps m s0 (s.countPair lo hi i n) :=
  setPair_keeps hl hh hs

theorem wrBoth_keeps {r : Reg} {i : Nat} {w : Word} (hr : m.testBit r.part = true) (hm : Sub 0x10 m)
    (hs : Keeps m s0 s) : Keeps m s0 (s.wrBoth r i w) :=
  latch_keeps hm (wr_keeps hr hs)

theorem allRegs_part (r : Reg) : allRegs.testBit r.part = true := by
  cases r <;> rfl

theorem Sub.at {a : Nat} (h : Sub a m) (r : Reg) (e : a.testBit r.part = true) : m.testBit r.part = true := h.bit e

theorem Sub.reg {a : Nat} (h : Sub a m) (e : a &&& allRegs = allRegs) (r : Reg) : m.testBit r.part = true :=
  (h.mono e).bit (allRegs_part r)

end Sys2Proof.Machine
end

