-- ==== Sys2Proof/Laws/KeepsCore.lean ====
section
/-! SUPPORT. Laws/KeepsCore.lean: what every operation of registers, events, records, clock, position, gaps and keeping does, said once as Keeps (Safety.lean). -/

namespace Sys2Proof.Machine

variable {s0 : State} {M : Nat}

theorem pmcBump_keeps {s : State} {i : Nat} {n : Nat} (hm : Sub
    0x18400000000000000000000000000000000000000000000000000000000000000000000000000000000000000000000000000000000000000000000000000000000000000 M) (hs : Keeps M s0 s) :
    Keeps M s0 (State.pmcBump s i n).1 := by
  unfold State.pmcBump
  extract_lets +onlyGivenNames x1
  clear_value x1
  extract_lets +onlyGivenNames x2
  have hx2 : Keeps M s0 x2 := by
    subst x2
    refine setPair_keeps (hm.at .PMC_CNT_LO (by rfl)) (hm.at .PMC_CNT_HI (by rfl)) ?_
    exact hs
  clear_value x2
  apply keeps_ite_fst
  · exact hx2
  · dsimp only
    refine put_keeps (hm.at .PMC_EVENT (by rfl)) ?_
    exact hx2

theorem pmcPass_keeps {s : State} {ev : Nat} {n : Nat} (hm : Sub
    0x18400000000000000000000000000000000000000000000000000000000000000000000000000000000000000000000000000000000000000000000000000000000000000 M) (hs : Keeps M s0 s) :
    Keeps M s0 (State.pmcPass s ev n).1 := by
  unfold State.pmcPass
  apply keeps_foldl_fst
  · intro x1 x2 h3
    apply keeps_ite_fst
    · extract_lets +onlyGivenNames x4
      have hx4 : Keeps M s0 x4.1 := by
        subst x4
        refine pmcBump_keeps (hm.mono (by rfl)) ?_
        exact h3
      clear_value x4
      exact hx4
    · exact h3
  · exact hs

theorem noteFiring_keeps {s : State} {p : Nat} (hm : Sub 0x4000 M) (hs : Keeps M s0 s) :
    Keeps M s0 (State.noteFiring s p) := by
  unfold State.noteFiring
  refine upd_evt_keeps (fun x => spWf_set (dflt := fun _ => 0) p (spGet 0 s.evt.fired p + 1) x) (hm.mono (by rfl)) ?_
  exact hs

theorem pmcCount_keeps {s : State} {ev : Nat} {n : Nat} (hm : Sub
    0x18400000000000000000000000000000000000000000000000000000000000000000000000000000000000000000000000000000000000000000000000000000000004000 M) (hs : Keeps M s0 s) :
    Keeps M s0 (State.pmcCount s ev n) := by
  unfold State.pmcCount
  apply keeps_ite
  · extract_lets +onlyGivenNames x1
    have hx1 : Keeps M s0 x1.1 := by
      subst x1
      refine pmcPass_keeps (hm.mono (by rfl)) ?_
      exact hs
    clear_value x1
    apply keeps_ite
    · exact hx1
    · refine pmcPass_keeps (hm.mono (by rfl)) ?_
      refine noteFiring_keeps (hm.mono (by rfl)) ?_
      exact hx1
  · exact hs

theorem fire_keeps {s : State} {p : Nat} (hm : Sub
    0x18400000000000000000000000000000000000000000000000000000000000000000000000000000000000000000000000000000000000000000000000000000000004000 M) (hs : Keeps M s0 s) :
    Keeps M s0 (State.fire s p) := by
  unfold State.fire
  refine pmcCount_keeps (hm.mono (by rfl)) ?_
  refine noteFiring_keeps (hm.mono (by rfl)) ?_
  exact hs

theorem raise_keeps {s : State} {f : Fld} {i : Nat} (hm : Sub
    0x18400000000000000000000000000000000000000000000000000000000000000000000000000000000000000000000000000000000000000000000000000000000004000 M) (hr : M.testBit f.reg.part = true) (hs : Keeps M s0 s) :
    Keeps M s0 (State.raise s f i) := by
  unfold State.raise
  extract_lets +onlyGivenNames t
  have ht : Keeps M s0 t := put_keeps hr hs
  clear_value t
  split
  · exact ht
  · exact fire_keeps (hm.mono (by rfl)) ht

theorem setFabPort_keeps {s : State} {f : Nat} {p : FabPort} (hm : Sub 0x100000 M) (hs : Keeps M s0 s) :
    Keeps M s0 (State.setFabPort s f p) := by
  unfold State.setFabPort
  refine upd_fab_keeps (hm.mono (by rfl)) ?_
  exact hs

theorem fabQueue_keeps {s : State} {f : Nat} {o : OutPkt} (hm : Sub 0x100000 M) (hs : Keeps M s0 s) :
    Keeps M s0 (State.fabQueue s f o) := by
  unfold State.fabQueue
  extract_lets +onlyGivenNames x1
  clear_value x1
  refine setFabPort_keeps (hm.mono (by rfl)) ?_
  exact hs

theorem fabSend_keeps {s : State} {o : OutPkt} (hm : Sub
    0x18400000080010000000000000000000000000000000000000000000000000000000000000000000000000000000000000000000000000000000000000000000000104000 M) (hs : Keeps M s0 s) :
    Keeps M s0 (State.fabSend s o) := by
  unfold State.fabSend
  extract_lets +onlyGivenNames x1
  clear_value x1
  apply keeps_ite
  · refine fabQueue_keeps (hm.mono (by rfl)) ?_
    exact hs
  · refine raise_keeps (hm.mono (by rfl)) (hm.at .FAB_EVENT (by rfl)) ?_
    refine count_keeps (hm.at .FAB_NOROUTE_CNT (by rfl)) ?_
    exact hs

theorem hostEnqueue_keeps {s : State} {r : Record} (hm : Sub
    0x18400000000000000000000000003800200000000000000000000000000000000000000000000000000000000000000000000000000000000000000000000000000084000 M) (hs : Keeps M s0 s) :
    Keeps M s0 (State.hostEnqueue s r) := by
  unfold State.hostEnqueue
  split
  · apply keeps_ite
    · refine upd_hst_keeps (hm.mono (by rfl)) ?_
      exact hs
    · refine raise_keeps (hm.mono (by rfl)) (hm.at .HST_EVENT (by rfl)) ?_
      refine count_keeps (hm.at .HST_DROP_CUE_CNT (by rfl)) ?_
      exact hs
  · apply keeps_ite
    · refine upd_hst_keeps (hm.mono (by rfl)) ?_
      exact hs
    · refine raise_keeps (hm.mono (by rfl)) (hm.at .HST_EVENT (by rfl)) ?_
      refine count_keeps (hm.at .HST_DROP_ROUTINE_CNT (by rfl)) ?_
      exact hs
  · apply keeps_ite
    · refine upd_hst_keeps (hm.mono (by rfl)) ?_
      exact hs
    · refine raise_keeps (hm.mono (by rfl)) (hm.at .HST_EVENT (by rfl)) ?_
      refine count_keeps (hm.at .HST_DROP_BULK_CNT (by rfl)) ?_
      exact hs

theorem enqueue_keeps {s : State} {r : Record} (hm : Sub
    0x18400000080010000000000000003800200000000000000000000000000000000000000000000000000000000000000000000000000000000000000000000000000184000 M) (hs : Keeps M s0 s) :
    Keeps M s0 (State.enqueue s r) := by
  unfold State.enqueue
  apply keeps_ite
  · refine fabSend_keeps (hm.mono (by rfl)) ?_
    exact hs
  · refine hostEnqueue_keeps (hm.mono (by rfl)) ?_
    exact hs

theorem formRecord_keeps {s : State} {cls : LClass} {typ : Nat} {words : List DWord} {self : List (Nat × Nat)} (hm : Sub
    0x18400000080010000000000000003800200000000000000000000000000000000000000000000000000000000000000000000000000000000000000000000000000184200 M) (hs : Keeps M s0 s) :
    Keeps M s0 (State.formRecord s cls typ words self) := by
  unfold State.formRecord
  extract_lets +onlyGivenNames x1
  clear_value x1
  extract_lets +onlyGivenNames x2
  clear_value x2
  extract_lets +onlyGivenNames x3
  have hx3 : Keeps M s0 x3 := by
    subst x3
    refine upd_seqs_keeps (hm.mono (by rfl)) ?_
    exact hs
  clear_value x3
  refine enqueue_keeps (hm.mono (by rfl)) ?_
  refine pmcCount_keeps (hm.mono (by rfl)) ?_
  exact hx3

theorem drawFree_keeps {s : State} (hm : Sub 0x2 M) (hs : Keeps M s0 s) :
    Keeps M s0 (State.drawFree s).2 := by
  unfold State.drawFree
  dsimp only
  refine upd_free_keeps (hm.mono (by rfl)) ?_
  exact hs

theorem setCamPort_keeps {s : State} {p : Nat} {x : CamPort} (hm : Sub 0x400000 M) (hs : Keeps M s0 s) :
    Keeps M s0 (State.setCamPort s p x) := by
  unfold State.setCamPort
  refine upd_cam_keeps (hm.mono (by rfl)) ?_
  exact hs

theorem formGap_keeps {s : State} {h : Nat} {g : GapReason} {l0 : LineNo} {l1 : LineNo} {y0 : YPos} {y1 : YPos} (hm : Sub
    0x18400000080010000000000000003800200000000000000000000000000000000000000000000000000000000000000000000000000000000000000000000000000184200 M) (hs : Keeps M s0 s) :
    Keeps M s0 (State.formGap s h g l0 l1 y0 y1) := by
  unfold State.formGap
  refine formRecord_keeps (hm.mono (by rfl)) ?_
  exact hs

theorem closeGap_keeps {s : State} {o : OpenGap} (hm : Sub
    0x18400000080010000000000000003800200000000000000000000000000000000000000000000000000000000000000000000000000000000000000000000000000384200 M) (hs : Keeps M s0 s) :
    Keeps M s0 (State.closeGap s o) := by
  unfold State.closeGap
  refine formGap_keeps (hm.mono (by rfl)) ?_
  refine upd_gaps_keeps (hm.mono (by rfl)) ?_
  exact hs

theorem closeGaps_keeps {s : State} {p : OpenGap → Bool} (hm : Sub
    0x18400000080010000000000000003800200000000000000000000000000000000000000000000000000000000000000000000000000000000000000000000000000384200 M) (hs : Keeps M s0 s) :
    Keeps M s0 (State.closeGaps s p) := by
  unfold State.closeGaps
  apply keeps_foldl
  · intro t1 x2 h3
    refine closeGap_keeps (hm.mono (by rfl)) ?_
    exact h3
  · exact hs

theorem gapClean_keeps {s : State} {h : Nat} {g : GapReason} {src : Nat} (hm : Sub
    0x18400000080010000000000000003800200000000000000000000000000000000000000000000000000000000000000000000000000000000000000000000000000384200 M) (hs : Keeps M s0 s) :
    Keeps M s0 (State.gapClean s h g src) := by
  unfold State.gapClean
  refine closeGaps_keeps (hm.mono (by rfl)) ?_
  exact hs

theorem gapSpan_keeps {s : State} {h : Nat} {g : GapReason} {src : Nat} {n : LineNo} {m : LineNo} {y0 : YPos} {y1 : YPos}
    (hm : Sub
    0x18400000080010000000000000003800200000000000000000000000000000000000000000000000000000000000000000000000000000000000000000000000000384200 M) (hs : Keeps M s0 s) :
    Keeps M s0 (State.gapSpan s h g src n m y0 y1) := by
  unfold State.gapSpan
  split
  · apply keeps_ite
    · refine upd_gaps_keeps (hm.mono (by rfl)) ?_
      exact hs
    · extract_lets +onlyGivenNames x1
      have hx1 : Keeps M s0 x1 := by
        subst x1
        refine closeGap_keeps (hm.mono (by rfl)) ?_
        exact hs
      clear_value x1
      refine upd_gaps_keeps (hm.mono (by rfl)) ?_
      exact hx1
  · refine upd_gaps_keeps (hm.mono (by rfl)) ?_
    exact hs

theorem gapLine_keeps {s : State} {h : Nat} {g : GapReason} {src : Nat} {n : LineNo} (hm : Sub
    0x18400000080010000000000000003800200000000000000000000000000000000000000000000000000000000000000000000000000000000000000000000000000384200 M) (hs : Keeps M s0 s) :
    Keeps M s0 (State.gapLine s h g src n) := by
  unfold State.gapLine
  refine gapSpan_keeps (hm.mono (by rfl)) ?_
  exact hs

theorem gapBoundary_keeps {s : State} {h : Nat} {src : Nat} (hm : Sub
    0x18400000080010000000000000003800200000000000000000000000000000000000000000000000000000000000000000000000000000000000000000000000000384200 M) (hs : Keeps M s0 s) :
    Keeps M s0 (State.gapBoundary s h src) := by
  unfold State.gapBoundary
  refine closeGaps_keeps (hm.mono (by rfl)) ?_
  exact hs

theorem gapIf_keeps {s : State} {c : Bool} {h : Nat} {g : GapReason} {src : Nat} {n : LineNo} (hm : Sub
    0x18400000080010000000000000003800200000000000000000000000000000000000000000000000000000000000000000000000000000000000000000000000000384200 M) (hs : Keeps M s0 s) :
    Keeps M s0 (State.gapIf s c h g src n) := by
  unfold State.gapIf
  apply keeps_ite
  · refine gapLine_keeps (hm.mono (by rfl)) ?_
    exact hs
  · refine gapClean_keeps (hm.mono (by rfl)) ?_
    exact hs

theorem calibGroup_keeps {s : State} {f : Calib → Calib} (hm : Sub 0x20000 M) (hs : Keeps M s0 s) :
    Keeps M s0 (State.calibGroup s f) := by
  unfold State.calibGroup
  extract_lets +onlyGivenNames x1
  clear_value x1
  refine upd_pwr_keeps (hm.mono (by rfl)) (.inr rfl) (.inr rfl) (.inr rfl) (.inr rfl) ?_
  exact hs

theorem callboard_keeps {s : State} {cls : Nat} {unit : Nat} {detail : Nat} {arg : Nat} (hm : Sub
    0x20000000000000000000000000000000000000000000000000000000000000000000000000000000000000000000000000000000000000000000000000000000000020000020000 M) (hs : Keeps M s0 s) :
    Keeps M s0 (State.callboard s cls unit detail arg) := by
  unfold State.callboard
  extract_lets +onlyGivenNames x1
  clear_value x1
  extract_lets +onlyGivenNames x2
  clear_value x2
  extract_lets +onlyGivenNames x3
  clear_value x3
  extract_lets +onlyGivenNames x4
  clear_value x4
  extract_lets +onlyGivenNames x5
  subst x5
  extract_lets +onlyGivenNames x6
  clear_value x6
  extract_lets +onlyGivenNames x7
  have hx7 : Keeps M s0 x7 := by
    subst x7
    refine upd_pwr_keeps (hm.mono (by rfl)) (.inl (hm.bit (by rfl))) (.inr rfl) (.inr rfl) (.inr rfl) ?_
    exact hs
  clear_value x7
  refine count_keeps (hm.at .PWR_CB_STATUS (by rfl)) ?_
  exact hx7

theorem health_keeps {s : State} {kind : Nat} {cls : Nat} {unit : Nat} {detail : Nat} {arg : Nat} (hm : Sub
    0x18400000080010000000000000003800200000000000000000000000000000000000000000000000000000000000000000000000000000000000000000000000000184200 M) (hs : Keeps M s0 s) :
    Keeps M s0 (State.health s kind cls unit detail arg) := by
  unfold State.health
  refine formRecord_keeps (hm.mono (by rfl)) ?_
  exact hs

theorem fault_keeps {s : State} {c : FaultClass} {unit : Nat} {detail : Nat} {arg : Nat} (hm : Sub
    0x200000184000000800100000000000000038002000000000000000000000000000000000000000000000000000000000000000000000000000000000000000000000200001A4200 M) (hs : Keeps M s0 s) :
    Keeps M s0 (State.fault s c unit detail arg) := by
  unfold State.fault
  extract_lets +onlyGivenNames x1
  have hx1 : Keeps M s0 x1 := by
    subst x1
    refine callboard_keeps (hm.mono (by rfl)) ?_
    exact hs
  clear_value x1
  apply keeps_ite
  · exact hx1
  · refine health_keeps (hm.mono (by rfl)) ?_
    exact hx1

theorem setTabs_keeps {s : State} {addr : Nat} {ws : List Word} (hm : Sub 0x80 M) (hs : Keeps M s0 s) :
    Keeps M s0 (State.setTabs s addr ws) := by
  unfold State.setTabs
  split
  · exact hs
  · refine setTabs_keeps (hm.mono (by rfl)) ?_
    refine setTab_keeps (hm.mono (by rfl)) ?_
    exact hs

theorem uncertainHead_keeps {s : State} {h : Nat} (hm : Sub
    0x18400000080010000000000000003800200000000000000000000000000000000000000000000000000000000000000000000000000000000000000000000000000184200 M) (hs : Keeps M s0 s) :
    Keeps M s0 (State.uncertainHead s h) := by
  unfold State.uncertainHead
  extract_lets +onlyGivenNames x1
  have hx1 : Keeps M s0 x1 := by
    subst x1
    split
    · exact hs
    · refine formGap_keeps (hm.mono (by rfl)) ?_
      exact hs
  clear_value x1
  split
  · exact hx1
  · extract_lets +onlyGivenNames x2
    clear_value x2
    refine formGap_keeps (hm.mono (by rfl)) ?_
    exact hx1

theorem accessError_keeps {s : State} (hm : Sub 0x800000000000000 M) (hs : Keeps M s0 s) :
    Keeps M s0 (State.accessError s) := by
  unfold State.accessError
  refine count_keeps (hm.at .GLB_ACC_ERR_CNT (by rfl)) ?_
  exact hs

theorem jobEnqueue_keeps {s : State} {r : Record} (hm : Sub 0x80000 M) (hs : Keeps M s0 s) :
    Keeps M s0 (State.jobEnqueue s r) := by
  unfold State.jobEnqueue
  apply keeps_ite
  · refine upd_hst_keeps (hm.mono (by rfl)) ?_
    exact hs
  · refine upd_hst_keeps (hm.mono (by rfl)) ?_
    exact hs

theorem jobSend_keeps {s : State} {r : Record} (hm : Sub
    0x18400000080010000000000000000000000000000000000000000000000000000000000000000000000000000000000000000000000000000000000000000000000184000 M) (hs : Keeps M s0 s) :
    Keeps M s0 (State.jobSend s r) := by
  unfold State.jobSend
  apply keeps_ite
  · refine fabSend_keeps (hm.mono (by rfl)) ?_
    exact hs
  · refine jobEnqueue_keeps (hm.mono (by rfl)) ?_
    exact hs

theorem addTime_keeps {s : State} {d : Int} (hm : Sub 0x40000 M) (hs : Keeps M s0 s) :
    Keeps M s0 (State.addTime s d) := by
  unfold State.addTime
  extract_lets +onlyGivenNames x1
  clear_value x1
  refine upd_tim_keeps (hm.mono (by rfl)) ?_
  exact hs

theorem quadCycles_keeps {s : State} {n : Nat} (hm : Sub
    0x1840000000000000000000000000000000000000000000000000000000000000000000000000000000000000000000000000000000000000000000000000000000000C000 M) (hs : Keeps M s0 s) :
    Keeps M s0 (State.quadCycles s n) := by
  unfold State.quadCycles
  extract_lets +onlyGivenNames x1
  clear_value x1
  extract_lets +onlyGivenNames x2
  clear_value x2
  extract_lets +onlyGivenNames x3
  have hx3 : Keeps M s0 x3 := by
    subst x3
    refine upd_pmc_keeps (hm.mono (by rfl)) ?_
    exact hs
  clear_value x3
  extract_lets +onlyGivenNames x4
  have hx4 : Keeps M s0 x4 := by
    subst x4
    apply keeps_forBelow
    · intro x5 t6 h7
      extract_lets +onlyGivenNames x8
      clear_value x8
      refine pmcCount_keeps (hm.mono (by rfl)) ?_
      refine pmcCount_keeps (hm.mono (by rfl)) ?_
      exact h7
    · exact hx3
  clear_value x4
  refine pmcCount_keeps (hm.mono (by rfl)) ?_
  refine pmcCount_keeps (hm.mono (by rfl)) ?_
  exact hx4

theorem pixCycles_keeps {s : State} {n : Nat} (hm : Sub
    0x1840000000000000000000000000000000000000000000000000000000000000000000000000000000000000000000000000000000000000000000000000000000000C000 M) (hs : Keeps M s0 s) :
    Keeps M s0 (State.pixCycles s n) := by
  unfold State.pixCycles
  extract_lets +onlyGivenNames x1
  have hx1 : Keeps M s0 x1 := by
    subst x1
    refine pmcCount_keeps (hm.mono (by rfl)) ?_
    refine quadCycles_keeps (hm.mono (by rfl)) ?_
    exact hs
  clear_value x1
  extract_lets +onlyGivenNames x2
  clear_value x2
  refine upd_pmc_keeps (hm.mono (by rfl)) ?_
  exact hx1

theorem setCell_keeps {s : State} {k : Nat} {c : Cell} (hm : Sub 0x4000 M) (hs : Keeps M s0 s) :
    Keeps M s0 (State.setCell s k c) := by
  unfold State.setCell
  refine upd_evt_keeps (fun x => x) (hm.mono (by rfl)) ?_
  exact hs

theorem cellCheck_keeps {s : State} {k : Nat} (hm : Sub
    0x18400000000000000000000000000000000000000000000000000000000000000000000000000000000000000000000000000000000000000000000000000000000004000 M) (hs : Keeps M s0 s) :
    Keeps M s0 (State.cellCheck s k) := by
  unfold State.cellCheck
  extract_lets +onlyGivenNames x1
  clear_value x1
  apply keeps_ite
  · refine fire_keeps (hm.mono (by rfl)) ?_
    refine setCell_keeps (hm.mono (by rfl)) ?_
    exact hs
  · refine setCell_keeps (hm.mono (by rfl)) ?_
    exact hs

theorem cellNext_keeps {s : State} {k : Nat} (hm : Sub
    0x18400000000000000000000000000000000000000000000000000000000000000000000000000000000000000000000000000000000000000000000000000000000004000 M) (hs : Keeps M s0 s) :
    Keeps M s0 (State.cellNext s k) := by
  unfold State.cellNext
  extract_lets +onlyGivenNames x1
  clear_value x1
  extract_lets +onlyGivenNames x2
  clear_value x2
  extract_lets +onlyGivenNames x3
  clear_value x3
  refine cellCheck_keeps (hm.mono (by rfl)) ?_
  refine setCell_keeps (hm.mono (by rfl)) ?_
  exact hs

theorem cellRun_keeps {s : State} {k : Nat} (hm : Sub
    0x18400000000000000000000000000000000000000000000000000000000000000000000000000000000000000000000000000000000000000000000000000000000004000 M) (hs : Keeps M s0 s) :
    Keeps M s0 (State.cellRun s k) := by
  unfold State.cellRun
  extract_lets +onlyGivenNames x1
  clear_value x1
  extract_lets +onlyGivenNames x2
  have hx2 : Keeps M s0 x2 := by
    subst x2
    apply keeps_forBelow
    · intro x3 t4 h5
      refine cellNext_keeps (hm.mono (by rfl)) ?_
      exact h5
    · exact hs
  clear_value x2
  extract_lets +onlyGivenNames x6
  clear_value x6
  extract_lets +onlyGivenNames x7
  clear_value x7
  extract_lets +onlyGivenNames x8
  have hx8 : Keeps M s0 x8 := by
    subst x8
    refine setCell_keeps (hm.mono (by rfl)) ?_
    exact hx2
  clear_value x8
  apply keeps_ite
  · refine pmcCount_keeps (hm.mono (by rfl)) ?_
    refine upd_evt_keeps (fun x => spWf_set (dflt := fun _ => 0) (0x10 + k) (spGet 0 _ (0x10 + k) + _) x) (hm.mono (by rfl)) ?_
    exact hx8
  · exact hx8

theorem cellCycles_keeps {s : State} (hm : Sub
    0x18400000000000000000000000000000000000000000000000000000000000000000000000000000000000000000000000000000000000000000000000000000000004000 M) (hs : Keeps M s0 s) :
    Keeps M s0 (State.cellCycles s) := by
  unfold State.cellCycles
  apply keeps_forBelow
  · intro x1 t2 h3
    apply keeps_ite
    · exact h3
    · refine cellRun_keeps (hm.mono (by rfl)) ?_
      exact h3
  · exact hs

theorem advance_keeps {s : State} {n : Nat} (hm : Sub
    0x1840000000000000000080000000000000000000000000000000000000000000000000000000000000000000000000000000000000000000000000000000000000004C001 M) (hs : Keeps M s0 s) :
    Keeps M s0 (State.advance s n) := by
  unfold State.advance
  apply keeps_ite
  · exact hs
  · extract_lets +onlyGivenNames x1
    clear_value x1
    extract_lets +onlyGivenNames x2
    clear_value x2
    extract_lets +onlyGivenNames x3
    have hx3 : Keeps M s0 x3 := by
      subst x3
      refine passClock_keeps (hm.mono (by rfl)) ?_
      exact hs
    clear_value x3
    apply keeps_ite
    · exact hx3
    · extract_lets +onlyGivenNames x4
      clear_value x4
      extract_lets +onlyGivenNames x5
      have hx5 : Keeps M s0 x5 := by
        subst x5
        refine addTime_keeps (hm.mono (by rfl)) ?_
        apply keeps_ite
        · exact hx3
        · refine pixCycles_keeps (hm.mono (by rfl)) ?_
          exact hx3
      clear_value x5
      extract_lets +onlyGivenNames x6
      have hx6 : Keeps M s0 x6 := by
        subst x6
        apply keeps_ite
        · refine raise_keeps (hm.mono (by rfl)) (hm.at .TIM_EVENT (by rfl)) ?_
          exact hx5
        · exact hx5
      clear_value x6
      apply keeps_ite
      · exact hx6
      · refine cellCycles_keeps (hm.mono (by rfl)) ?_
        exact hx6

theorem setMirror_keeps {s : State} {b : Book} (hm : Sub 0x20000020000 M) (hs : Keeps M s0 s) :
    Keeps M s0 (State.setMirror s b) := by
  unfold State.setMirror
  refine upd_pwr_keeps (hm.mono (by rfl)) (.inl (hm.bit (by rfl))) (.inr rfl) (.inr rfl) (.inr rfl) ?_
  exact hs

theorem freeze_keeps {s : State} {kind : Nat} (hm : Sub 0x20000020000 M) (hs : Keeps M s0 s) :
    Keeps M s0 (State.freeze s kind) := by
  unfold State.freeze
  apply keeps_ite
  · exact hs
  · extract_lets +onlyGivenNames x1
    clear_value x1
    extract_lets +onlyGivenNames x2
    have hx2 : Keeps M s0 x2 := by
      subst x2
      refine setMirror_keeps (hm.mono (by rfl)) ?_
      exact hs
    clear_value x2
    refine upd_pwr_keeps (hm.mono (by rfl)) (.inr rfl) (.inr rfl) (.inr rfl) (.inr rfl) ?_
    exact hx2

theorem showSlots_keeps {s : State} (hm : Sub
    0xC8000000000000000000000000000000000000000000000000000000000000000000000000000000000000000000000000000000000000000000000000000000000000000000000 M) (hs : Keeps M s0 s) :
    Keeps M s0 (State.showSlots s) := by
  unfold State.showSlots
  split
  · refine put_keeps (hm.at .PWR_STATUS (by rfl)) ?_
    refine put_keeps (hm.at .PWR_STATUS (by rfl)) ?_
    exact hs
  · extract_lets +onlyGivenNames x1
    have hx1 : Keeps M s0 x1 := by
      subst x1
      refine put_keeps (hm.at .PWR_STATUS (by rfl)) ?_
      refine put_keeps (hm.at .PWR_STATUS (by rfl)) ?_
      exact hs
    clear_value x1
    refine setPair_keeps (hm.at .PWR_SAVE_LO (by rfl)) (hm.at .PWR_SAVE_HI (by rfl)) ?_
    exact hx1

theorem cellsInit_keeps {s : State} (hm : Sub 0x4000 M) (hs : Keeps M s0 s) :
    Keeps M s0 (State.cellsInit s) := by
  unfold State.cellsInit
  refine upd_evt_keeps (fun x => x) (hm.mono (by rfl)) ?_
  exact hs

theorem startWriteAt_keeps {s : State} {slot : Nat} {counter : Nat} {kind : Nat} (hm : Sub
    0xC80000000000000000000000000000000000000000000000000000000000000000000000000000000000000000000000000000000000000000000000000000000000E0000020000 M) (hs : Keeps M s0 s) :
    Keeps M s0 (State.startWriteAt s slot counter kind) := by
  unfold State.startWriteAt
  extract_lets +onlyGivenNames x1
  clear_value x1
  extract_lets +onlyGivenNames x2
  clear_value x2
  extract_lets +onlyGivenNames x3
  clear_value x3
  extract_lets +onlyGivenNames x4
  clear_value x4
  extract_lets +onlyGivenNames x5
  clear_value x5
  extract_lets +onlyGivenNames x6
  subst x6
  extract_lets +onlyGivenNames x7
  have hx7 : Keeps M s0 x7 := by
    subst x7
    refine upd_pwr_keeps (hm.mono (by rfl)) (.inl (hm.bit (by rfl))) (.inl (hm.bit (by rfl))) (.inl (hm.bit (by rfl))) (.inr rfl) ?_
    exact hs
  clear_value x7
  refine showSlots_keeps (hm.mono (by rfl)) ?_
  refine put_keeps (hm.at .PWR_STATUS (by rfl)) ?_
  exact hx7

theorem startWrite_keeps {s : State} {kind : Nat} (hm : Sub
    0xC80000000000000000000000000000000000000000000000000000000000000000000000000000000000000000000000000000000000000000000000000000000000E0000020000 M) (hs : Keeps M s0 s) :
    Keeps M s0 (State.startWrite s kind) := by
  unfold State.startWrite
  extract_lets +onlyGivenNames x1
  clear_value x1
  refine startWriteAt_keeps (hm.mono (by rfl)) ?_
  exact hs

theorem urgentWrite_keeps {s : State} {kind : Nat} (hm : Sub
    0xC80000000000000000000000000000000000000000000000000000000000000000000000000000000000000000000000000000000000000000000000000000000000E0000020000 M) (hs : Keeps M s0 s) :
    Keeps M s0 (State.urgentWrite s kind) := by
  unfold State.urgentWrite
  split
  · refine startWrite_keeps (hm.mono (by rfl)) ?_
    exact hs
  · apply keeps_ite
    · refine startWriteAt_keeps (hm.mono (by rfl)) ?_
      exact hs
    · exact hs

theorem cutWrite_keeps {s : State} (hm : Sub
    0x8000000000000000000000000000000000000000000000000000000000000000000000000000000000000000000000000000000000000000000000000000000000080000020000 M) (hs : Keeps M s0 s) :
    Keeps M s0 (State.cutWrite s) := by
  unfold State.cutWrite
  split
  · exact hs
  · refine put_keeps (hm.at .PWR_STATUS (by rfl)) ?_
    refine upd_pwr_keeps (hm.mono (by rfl)) (.inr rfl) (.inr rfl) (.inl (hm.bit (by rfl))) (.inr rfl) ?_
    exact hs

theorem overrun_keeps {s : State} {task : Nat} {n : Nat} (hm : Sub
    0x18420004000000000000000000000000000000000000000000000000000000000000000000000000000000000000000000000000000000000000000000000000000004000 M) (hs : Keeps M s0 s) :
    Keeps M s0 (State.overrun s task n) := by
  unfold State.overrun
  apply keeps_ite
  · exact hs
  · refine raise_keeps (hm.mono (by rfl)) (hm.at .EVT_EVENT (by rfl)) ?_
    refine countFld_keeps (hm.at .EVT_OVR (by rfl)) ?_
    exact hs

theorem gapAllRun_keeps {s : State} {g : GapReason} {l0 : LineNo} {l1 : LineNo} {y0 : YPos} {y1 : YPos} (hm : Sub
    0x18400000080010000000000000003800200000000000000000000000000000000000000000000000000000000000000000000000000000000000000000000000000184200 M) (hs : Keeps M s0 s) :
    Keeps M s0 (State.gapAllRun s g l0 l1 y0 y1) := by
  unfold State.gapAllRun
  apply keeps_forBelow
  · intro x1 t2 h3
    apply keeps_ite
    · refine formGap_keeps (hm.mono (by rfl)) ?_
      exact h3
    · exact h3
  · exact hs

theorem cutUncertain_keeps {s : State} (hm : Sub
    0x18400000080010000000000000003800200000000000000000000000000000000000000000000000000000000000000000000000000000000000000000000000010184200 M) (hs : Keeps M s0 s) :
    Keeps M s0 (State.cutUncertain s) := by
  unfold State.cutUncertain
  split
  · exact hs
  · extract_lets +onlyGivenNames x1
    clear_value x1
    extract_lets +onlyGivenNames x2
    have hx2 : Keeps M s0 x2 := by
      subst x2
      refine gapAllRun_keeps (hm.mono (by rfl)) ?_
      exact hs
    clear_value x2
    refine upd_pos_keeps (hm.mono (by rfl)) ?_
    exact hx2

theorem closeSkip_keeps {s : State} (hm : Sub
    0x18400000080010000000000000003800200000000000000000000000000000000000000000000000000000000000000000000000000000000000000000000000010184200 M) (hs : Keeps M s0 s) :
    Keeps M s0 (State.closeSkip s) := by
  unfold State.closeSkip
  split
  · exact hs
  · extract_lets +onlyGivenNames x1
    have hx1 : Keeps M s0 x1 := by
      subst x1
      refine gapAllRun_keeps (hm.mono (by rfl)) ?_
      exact hs
    clear_value x1
    refine upd_pos_keeps (hm.mono (by rfl)) ?_
    exact hx1

theorem closeLineGaps_keeps {s : State} (hm : Sub
    0x18400000080010000000000000003800200000000000000000000000000000000000000000000000000000000000000000000000000000000000000000000000010384200 M) (hs : Keeps M s0 s) :
    Keeps M s0 (State.closeLineGaps s) := by
  unfold State.closeLineGaps
  refine closeGaps_keeps (hm.mono (by rfl)) ?_
  refine cutUncertain_keeps (hm.mono (by rfl)) ?_
  refine closeSkip_keeps (hm.mono (by rfl)) ?_
  exact hs

theorem cellTask_keeps {s : State} {k : Nat} {i : Nat} (hm : Sub
    0x18400000000000000000000000000000000000000000000000000000000000000000000000000000000000000000000000000000000000000000000000000000000004000 M) (hs : Keeps M s0 s) :
    Keeps M s0 (State.cellTask s k i) := by
  unfold State.cellTask
  extract_lets +onlyGivenNames x1
  clear_value x1
  refine cellCheck_keeps (hm.mono (by rfl)) ?_
  refine setCell_keeps (hm.mono (by rfl)) ?_
  exact hs

theorem cellsNow_keeps {s : State} (hm : Sub
    0x18400000000000000000000000000000000000000000000000000000000000000000000000000000000000000000000000000000000000000000000000000000000004000 M) (hs : Keeps M s0 s) :
    Keeps M s0 (State.cellsNow s) := by
  unfold State.cellsNow
  apply keeps_forBelow
  · intro x1 t2 h3
    refine cellCheck_keeps (hm.mono (by rfl)) ?_
    exact h3
  · exact hs

theorem applyGroup_keeps {s : State} (hm : Sub 0x20000020000 M) (hs : Keeps M s0 s) :
    Keeps M s0 (State.applyGroup s) := by
  unfold State.applyGroup
  split
  · exact hs
  · apply keeps_ite
    · extract_lets +onlyGivenNames x1
      clear_value x1
      extract_lets +onlyGivenNames x2
      clear_value x2
      refine upd_pwr_keeps (hm.mono (by rfl)) (.inl (hm.bit (by rfl))) (.inr rfl) (.inr rfl) (.inr rfl) ?_
      exact hs
    · exact hs

theorem calibNote_keeps {s : State} {f : Calib → Calib} (hm : Sub 0x20000 M) (hs : Keeps M s0 s) :
    Keeps M s0 (State.calibNote s f) := by
  unfold State.calibNote
  refine upd_pwr_keeps (hm.mono (by rfl)) (.inr rfl) (.inr rfl) (.inr rfl) (.inr rfl) ?_
  exact hs

theorem cellPass_keeps {s : State} {k : Nat} (hm : Sub
    0x18400000000000000000000000000000000000000000000000000000000000000000000000000000000000000000000000000000000000000000000000000000000004000 M) (hs : Keeps M s0 s) :
    Keeps M s0 (State.cellPass s k) := by
  unfold State.cellPass
  extract_lets +onlyGivenNames x1
  clear_value x1
  extract_lets +onlyGivenNames x2
  clear_value x2
  apply keeps_ite
  · refine cellCheck_keeps (hm.mono (by rfl)) ?_
    refine setCell_keeps (hm.mono (by rfl)) ?_
    exact hs
  · exact hs

theorem cellsResume_keeps {s : State} (hm : Sub 0x4000 M) (hs : Keeps M s0 s) :
    Keeps M s0 (State.cellsResume s) := by
  unfold State.cellsResume
  refine upd_evt_keeps (fun x => x) (hm.mono (by rfl)) ?_
  exact hs

theorem uncertainOver_keeps {s : State} (hm : Sub 0x10000000000000000000000000000000000000000000000000010000000 M) (hs :
    Keeps M s0 s) :
    Keeps M s0 (State.uncertainOver s) := by
  unfold State.uncertainOver
  refine put_keeps (hm.at .POS_STATUS (by rfl)) ?_
  refine upd_pos_keeps (hm.mono (by rfl)) ?_
  exact hs

theorem closeUncertain_keeps {s : State} {bound : LineNo} {y : YPos} (hm : Sub
    0x18400000080010000000000000003800200000000000000000000000000000000000000000000010000000000000000000000000000000000000000000000000010184200 M) (hs : Keeps M s0 s) :
    Keeps M s0 (State.closeUncertain s bound y) := by
  unfold State.closeUncertain
  split
  · exact hs
  · extract_lets +onlyGivenNames x1
    have hx1 : Keeps M s0 x1 := by
      subst x1
      refine gapAllRun_keeps (hm.mono (by rfl)) ?_
      exact hs
    clear_value x1
    apply keeps_ite
    · refine uncertainOver_keeps (hm.mono (by rfl)) ?_
      exact hx1
    · refine upd_pos_keeps (hm.mono (by rfl)) ?_
      exact hx1

theorem countCue_keeps {s : State} (hm : Sub 0x3000000000000000000000000000000000000000000000000000000000000000000 M) (hs :
    Keeps M s0 s) :
    Keeps M s0 (State.countCue s) := by
  unfold State.countCue
  refine setPair_keeps (hm.at .POS_CUE_CNT_L (by rfl)) (hm.at .POS_CUE_CNT_H (by rfl)) ?_
  exact hs

theorem issueCue_keeps {s : State} (hm : Sub
    0x1840000008001000000000000000380020000000000000000000000000000000000000300000C010000000000000000000000000000000000000000000000000010184200 M) (hs : Keeps M s0 s) :
    Keeps M s0 (State.issueCue s) := by
  unfold State.issueCue
  extract_lets +onlyGivenNames x1
  clear_value x1
  extract_lets +onlyGivenNames x2
  clear_value x2
  extract_lets +onlyGivenNames x3
  clear_value x3
  extract_lets +onlyGivenNames x4
  clear_value x4
  extract_lets +onlyGivenNames x5
  clear_value x5
  extract_lets +onlyGivenNames x6
  clear_value x6
  extract_lets +onlyGivenNames x7
  clear_value x7
  extract_lets +onlyGivenNames x8
  clear_value x8
  extract_lets +onlyGivenNames x9
  clear_value x9
  extract_lets +onlyGivenNames x10
  clear_value x10
  extract_lets +onlyGivenNames x11
  have hx11 : Keeps M s0 x11 := by
    subst x11
    split
    · refine upd_pos_keeps (hm.mono (by rfl)) ?_
      exact hs
    · refine upd_pos_keeps (hm.mono (by rfl)) ?_
      exact hs
    · refine closeSkip_keeps (hm.mono (by rfl)) ?_
      exact hs
    · exact hs
  clear_value x11
  extract_lets +onlyGivenNames x12
  have hx12 : Keeps M s0 x12 := by
    subst x12
    apply keeps_ite
    · refine closeSkip_keeps (hm.mono (by rfl)) ?_
      exact hx11
    · exact hx11
  clear_value x12
  extract_lets +onlyGivenNames x13
  clear_value x13
  extract_lets +onlyGivenNames x14
  have hx14 : Keeps M s0 x14 := by
    subst x14
    apply keeps_ite
    · apply keeps_ite
      · refine uncertainOver_keeps (hm.mono (by rfl)) ?_
        exact hx12
      · refine upd_pos_keeps (hm.mono (by rfl)) ?_
        exact hx12
    · exact hx12
  clear_value x14
  extract_lets +onlyGivenNames x15
  have hx15 : Keeps M s0 x15 := by
    subst x15
    apply keeps_ite
    · refine closeUncertain_keeps (hm.mono (by rfl)) ?_
      exact hx14
    · exact hx14
  clear_value x15
  extract_lets +onlyGivenNames x16
  clear_value x16
  extract_lets +onlyGivenNames x17
  have hx17 : Keeps M s0 x17 := by
    subst x17
    refine upd_pos_keeps (hm.mono (by rfl)) ?_
    exact hx15
  clear_value x17
  extract_lets +onlyGivenNames x18
  have hx18 : Keeps M s0 x18 := by
    subst x18
    refine setPair_keeps (hm.at .POS_LINE_L (by rfl)) (hm.at .POS_LINE_H (by rfl)) ?_
    exact hx17
  clear_value x18
  extract_lets +onlyGivenNames x19
  have hx19 : Keeps M s0 x19 := by
    subst x19
    refine countCue_keeps (hm.mono (by rfl)) ?_
    exact hx18
  clear_value x19
  extract_lets +onlyGivenNames x20
  have hx20 : Keeps M s0 x20 := by
    subst x20
    refine fire_keeps (hm.mono (by rfl)) ?_
    exact hx19
  clear_value x20
  apply keeps_ite
  · refine fire_keeps (hm.mono (by rfl)) ?_
    exact hx20
  · exact hx20

theorem cuePoint_keeps {s : State} (hm : Sub
    0x1840000008001000000000000000380020000000000000000000000000000000000000308000C030000000000000000000000000000000000000000000000000010184200 M) (hs : Keeps M s0 s) :
    Keeps M s0 (State.cuePoint s).1 := by
  unfold State.cuePoint
  extract_lets +onlyGivenNames x1
  clear_value x1
  extract_lets +onlyGivenNames x2
  clear_value x2
  extract_lets +onlyGivenNames x3
  clear_value x3
  extract_lets +onlyGivenNames x4
  have hx4 : Keeps M s0 x4.1 := by
    subst x4
    apply keeps_ite_fst
    · apply keeps_ite_fst
      · dsimp only
        refine raise_keeps (hm.mono (by rfl)) (hm.at .POS_EVENT (by rfl)) ?_
        refine count_keeps (hm.at .POS_SKIP_CNT (by rfl)) ?_
        refine upd_pos_keeps (hm.mono (by rfl)) ?_
        exact hs
      · dsimp only
        refine issueCue_keeps (hm.mono (by rfl)) ?_
        exact hs
    · exact hs
  clear_value x4
  dsimp only
  refine upd_pos_keeps (hm.mono (by rfl)) ?_
  exact hx4

theorem quadLine_keeps {s : State} {h : Nat} (hm : Sub 0x8000 M) (hs : Keeps M s0 s) :
    Keeps M s0 (State.quadLine s h) := by
  unfold State.quadLine
  extract_lets +onlyGivenNames x1
  clear_value x1
  extract_lets +onlyGivenNames x2
  clear_value x2
  refine upd_pmc_keeps (hm.mono (by rfl)) ?_
  exact hs

theorem setEmu_keeps {s : State} {k : Nat} {x : Emu} (hm : Sub 0x10000000 M) (hs : Keeps M s0 s) :
    Keeps M s0 (State.setEmu s k x) := by
  unfold State.setEmu
  refine upd_pos_keeps (hm.mono (by rfl)) ?_
  exact hs

theorem emuCount_keeps {s : State} {k : Nat} {back : Bool} (hm : Sub
    0x18400000000000000000000000000000000000000000000000000000000000000000000800000020000000000000000000000000000000000000000000000000010004000 M) (hs : Keeps M s0 s) :
    Keeps M s0 (State.emuCount s k back) := by
  unfold State.emuCount
  extract_lets +onlyGivenNames x1
  clear_value x1
  extract_lets +onlyGivenNames x2
  have hx2 : Keeps M s0 x2 := by
    subst x2
    refine setEmu_keeps (hm.mono (by rfl)) ?_
    exact hs
  clear_value x2
  extract_lets +onlyGivenNames x3
  clear_value x3
  extract_lets +onlyGivenNames x4
  clear_value x4
  extract_lets +onlyGivenNames x5
  clear_value x5
  extract_lets +onlyGivenNames x6
  clear_value x6
  apply keeps_ite
  · refine raise_keeps (hm.mono (by rfl)) (hm.at .POS_EVENT (by rfl)) ?_
    refine count_keeps (hm.at .POS_EMU_OVF_CNT (by rfl)) ?_
    exact hx2
  · refine setEmu_keeps (hm.mono (by rfl)) ?_
    exact hx2

theorem emuStep_keeps {s : State} {k : Nat} (hm : Sub 0x10000004 M) (hs : Keeps M s0 s) :
    Keeps M s0 (State.emuStep s k) := by
  unfold State.emuStep
  extract_lets +onlyGivenNames x1
  clear_value x1
  extract_lets +onlyGivenNames x2
  clear_value x2
  apply keeps_ite
  · extract_lets +onlyGivenNames x3
    clear_value x3
    extract_lets +onlyGivenNames x4
    clear_value x4
    extract_lets +onlyGivenNames x5
    have hx5 : Keeps M s0 x5 := by
      subst x5
      refine setEmu_keeps (hm.mono (by rfl)) ?_
      exact hs
    clear_value x5
    apply keeps_ite
    · refine emit_keeps (hm.mono (by rfl)) ?_
      exact hx5
    · exact hx5
  · exact hs

theorem encFaultEnd_keeps {s : State} (hm : Sub
    0x18400000000000000000000000000000000000000000000000000000000000000000000000000030000000000000000000000000000000000000000000000000010004000 M) (hs : Keeps M s0 s) :
    Keeps M s0 (State.encFaultEnd s) := by
  unfold State.encFaultEnd
  extract_lets +onlyGivenNames x1
  have hx1 : Keeps M s0 x1 := by
    subst x1
    refine raise_keeps (hm.mono (by rfl)) (hm.at .POS_EVENT (by rfl)) ?_
    refine put_keeps (hm.at .POS_STATUS (by rfl)) ?_
    exact hs
  clear_value x1
  refine upd_pos_keeps (hm.mono (by rfl)) ?_
  exact hx1

theorem encFaultEntry_keeps {s : State} {detail : Nat} (hm : Sub
    0x200000184000000800100000000000000038002000000000000000000000000000000000000000400000300000000000000000000000000000000000000000000000200101A4200 M) (hs : Keeps M s0 s) :
    Keeps M s0 (State.encFaultEntry s detail) := by
  unfold State.encFaultEntry
  apply keeps_ite
  · refine upd_pos_keeps (hm.mono (by rfl)) ?_
    exact hs
  · extract_lets +onlyGivenNames x1
    have hx1 : Keeps M s0 x1 := by
      subst x1
      refine put_keeps (hm.at .POS_STATUS (by rfl)) ?_
      refine put_keeps (hm.at .POS_STATUS (by rfl)) ?_
      exact hs
    clear_value x1
    extract_lets +onlyGivenNames x2
    have hx2 : Keeps M s0 x2 := by
      subst x2
      refine count_keeps (hm.at .POS_ENCFLT_CNT (by rfl)) ?_
      refine raise_keeps (hm.mono (by rfl)) (hm.at .POS_EVENT (by rfl)) ?_
      exact hx1
    clear_value x2
    extract_lets +onlyGivenNames x3
    have hx3 : Keeps M s0 x3 := by
      subst x3
      refine put_keeps (hm.at .POS_STATUS (by rfl)) ?_
      exact hx2
    clear_value x3
    extract_lets +onlyGivenNames x4
    clear_value x4
    extract_lets +onlyGivenNames x5
    have hx5 : Keeps M s0 x5 := by
      subst x5
      refine upd_pos_keeps (hm.mono (by rfl)) ?_
      exact hx3
    clear_value x5
    refine fault_keeps (hm.mono (by rfl)) ?_
    exact hx5

theorem rollerCheck_keeps {s : State} {c : Nat} (hm : Sub
    0x18400000000000000000000000000000000000000000000000000000000000000000000001000030000000000000000000000000000000000000000000000000000004000 M) (hs : Keeps M s0 s) :
    Keeps M s0 (State.rollerCheck s c) := by
  unfold State.rollerCheck
  apply keeps_ite
  · refine raise_keeps (hm.mono (by rfl)) (hm.at .POS_EVENT (by rfl)) ?_
    refine put_keeps (hm.at .POS_STATUS (by rfl)) ?_
    refine put_keeps (hm.at .POS_ROLL (by rfl)) ?_
    exact hs
  · exact hs

theorem moveCount_keeps {s : State} {back : Bool} (hm : Sub
    0x18400000000000000000000000000000000000000000000000000000000000000000000100000020000000000000000000000000000000000000000000000000010004000 M) (hs : Keeps M s0 s) :
    Keeps M s0 (State.moveCount s back) := by
  unfold State.moveCount
  extract_lets +onlyGivenNames x1
  clear_value x1
  extract_lets +onlyGivenNames x2
  clear_value x2
  extract_lets +onlyGivenNames x3
  clear_value x3
  extract_lets +onlyGivenNames x4
  clear_value x4
  extract_lets +onlyGivenNames x5
  clear_value x5
  extract_lets +onlyGivenNames x6
  clear_value x6
  extract_lets +onlyGivenNames x7
  clear_value x7
  extract_lets +onlyGivenNames x8
  have hx8 : Keeps M s0 x8 := by
    subst x8
    refine upd_pos_keeps (hm.mono (by rfl)) ?_
    exact hs
  clear_value x8
  apply keeps_ite
  · refine raise_keeps (hm.mono (by rfl)) (hm.at .POS_EVENT (by rfl)) ?_
    refine count_keeps (hm.at .POS_REV_CNT (by rfl)) ?_
    exact hx8
  · exact hx8

theorem speedCount_keeps {s : State} {back : Bool} (hm : Sub
    0x184000000000000000000000000000000000000000000000000000000000000000000000000000A0000000000000000000000000000000000000000000000000010004000 M) (hs : Keeps M s0 s) :
    Keeps M s0 (State.speedCount s back) := by
  unfold State.speedCount
  extract_lets +onlyGivenNames x1
  clear_value x1
  extract_lets +onlyGivenNames x2
  clear_value x2
  extract_lets +onlyGivenNames x3
  clear_value x3
  extract_lets +onlyGivenNames x4
  clear_value x4
  extract_lets +onlyGivenNames x5
  clear_value x5
  extract_lets +onlyGivenNames x6
  clear_value x6
  extract_lets +onlyGivenNames x7
  have hx7 : Keeps M s0 x7 := by
    subst x7
    refine upd_pos_keeps (hm.mono (by rfl)) ?_
    exact hs
  clear_value x7
  extract_lets +onlyGivenNames x8
  have hx8 : Keeps M s0 x8 := by
    subst x8
    refine putB_keeps (hm.at .POS_SPEED (by rfl)) ?_
    exact hx7
  clear_value x8
  extract_lets +onlyGivenNames x9
  have hx9 : Keeps M s0 x9 := by
    subst x9
    refine put_keeps (hm.at .POS_SPEED (by rfl)) ?_
    exact hx8
  clear_value x9
  extract_lets +onlyGivenNames x10
  have hx10 : Keeps M s0 x10 := by
    subst x10
    refine putB_keeps (hm.at .POS_SPEED (by rfl)) ?_
    exact hx9
  clear_value x10
  extract_lets +onlyGivenNames x11
  have hx11 : Keeps M s0 x11 := by
    subst x11
    refine putB_keeps (hm.at .POS_SPEED (by rfl)) ?_
    exact hx10
  clear_value x11
  apply keeps_ite
  · refine raise_keeps (hm.mono (by rfl)) (hm.at .POS_EVENT (by rfl)) ?_
    exact hx11
  · exact hx11

theorem masterCount_keeps {s : State} {back : Bool} (hm : Sub
    0x1840000008001000000000000000380020000000000000000000000000000000000000398000C0B0000000000000000000000000000000000000000000000000010184200 M) (hs : Keeps M s0 s) :
    Keeps M s0 (State.masterCount s back).1 := by
  unfold State.masterCount
  extract_lets +onlyGivenNames x1
  have hx1 : Keeps M s0 x1 := by
    subst x1
    refine moveCount_keeps (hm.mono (by rfl)) ?_
    exact hs
  clear_value x1
  extract_lets +onlyGivenNames x2
  have hx2 : Keeps M s0 x2.1 := by
    subst x2
    apply keeps_ite_fst
    · refine cuePoint_keeps (hm.mono (by rfl)) ?_
      exact hx1
    · exact hx1
  clear_value x2
  extract_lets +onlyGivenNames x3
  have hx3 : Keeps M s0 x3 := by
    subst x3
    refine speedCount_keeps (hm.mono (by rfl)) ?_
    exact hx2
  clear_value x3
  dsimp only
  refine emuCount_keeps (hm.mono (by rfl)) ?_
  refine emuCount_keeps (hm.mono (by rfl)) ?_
  exact hx3

theorem setEnch_keeps {s : State} {c : Nat} {x : EncCh} (hm : Sub 0x10000000 M) (hs : Keeps M s0 s) :
    Keeps M s0 (State.setEnch s c x) := by
  unfold State.setEnch
  refine upd_pos_keeps (hm.mono (by rfl)) ?_
  exact hs

theorem noteIllegal_keeps {s : State} {c : Nat} {a : Bool} {b : Bool} (hm : Sub
    0x10000000000000000000000000000000000000000000000000000000010000000 M) (hs : Keeps M s0 s) :
    Keeps M s0 (State.noteIllegal s c a b) := by
  unfold State.noteIllegal
  extract_lets +onlyGivenNames x1
  clear_value x1
  refine count_keeps (hm.at .POS_QERR_CNT (by rfl)) ?_
  refine setEnch_keeps (hm.mono (by rfl)) ?_
  exact hs

theorem thaw_keeps {s : State} (hm : Sub
    0x8000000000000000000000000000000000000000000000000000000000000000000000000000000000000000000000000000000000000000000000000000000000020000020000 M) (hs : Keeps M s0 s) :
    Keeps M s0 (State.thaw s) := by
  unfold State.thaw
  extract_lets +onlyGivenNames x1
  clear_value x1
  extract_lets +onlyGivenNames x2
  subst x2
  extract_lets +onlyGivenNames x3
  have hx3 : Keeps M s0 x3 := by
    subst x3
    refine upd_pwr_keeps (hm.mono (by rfl)) (.inl (hm.bit (by rfl))) (.inr rfl) (.inr rfl) (.inr rfl) ?_
    exact hs
  clear_value x3
  refine put_keeps (hm.at .PWR_STATUS (by rfl)) ?_
  exact hx3

theorem pmcWindowEnd_keeps {s : State} (hm : Sub
    0x7840000000000000000000000000000000000000000000000000000000000000000000000000000000000000000000000000000000000000000000000000000000000C000 M) (hs : Keeps M s0 s) :
    Keeps M s0 (State.pmcWindowEnd s) := by
  unfold State.pmcWindowEnd
  extract_lets +onlyGivenNames x1
  have hx1 : Keeps M s0 x1 := by
    subst x1
    apply keeps_forBelow
    · intro x2 t3 h4
      extract_lets +onlyGivenNames x5
      clear_value x5
      refine setPair_keeps (hm.at .PMC_CNT_LO (by rfl)) (hm.at .PMC_CNT_HI (by rfl)) ?_
      refine setPair_keeps (hm.at .PMC_RES_LO (by rfl)) (hm.at .PMC_RES_HI (by rfl)) ?_
      exact h4
    · exact hs
  clear_value x1
  extract_lets +onlyGivenNames x6
  have hx6 : Keeps M s0 x6 := by
    subst x6
    refine raise_keeps (hm.mono (by rfl)) (hm.at .PMC_EVENT (by rfl)) ?_
    exact hx1
  clear_value x6
  extract_lets +onlyGivenNames x7
  clear_value x7
  refine upd_pmc_keeps (hm.mono (by rfl)) ?_
  exact hx6

theorem rollerClear_keeps {s : State} {c : Nat} (hm : Sub
    0x1000010000000000000000000000000000000000000000000000000000000000 M) (hs : Keeps M s0 s) :
    Keeps M s0 (State.rollerClear s c) := by
  unfold State.rollerClear
  apply keeps_ite
  · exact hs
  · refine put_keeps (hm.at .POS_STATUS (by rfl)) ?_
    refine put_keeps (hm.at .POS_ROLL (by rfl)) ?_
    exact hs

theorem takeZ_keeps {s : State} {c : Nat} {z : BitVec 4} (hm : Sub 0x10000000 M) (hs : Keeps M s0 s) :
    Keeps M s0 (State.takeZ s c z) := by
  unfold State.takeZ
  refine setEnch_keeps (hm.mono (by rfl)) ?_
  exact hs

theorem writeDone_keeps {s : State} {micros : Nat} (hm : Sub
    0x4DA0000184000000000000000000000000000000000000000000000000000000000000000000000000000000000000000000000000000000000000000000000000000E0000024000 M) (hs : Keeps M s0 s) :
    Keeps M s0 (State.writeDone s micros) := by
  unfold State.writeDone
  split
  · exact hs
  · extract_lets +onlyGivenNames x1
    clear_value x1
    extract_lets +onlyGivenNames x2
    clear_value x2
    extract_lets +onlyGivenNames x3
    clear_value x3
    extract_lets +onlyGivenNames x4
    clear_value x4
    extract_lets +onlyGivenNames x5
    clear_value x5
    extract_lets +onlyGivenNames x6
    subst x6
    extract_lets +onlyGivenNames x7
    have hx7 : Keeps M s0 x7 := by
      subst x7
      refine upd_pwr_keeps (hm.mono (by rfl)) (.inl (hm.bit (by rfl))) (.inl (hm.bit (by rfl))) (.inl (hm.bit (by rfl))) (.inr rfl) ?_
      exact hs
    clear_value x7
    extract_lets +onlyGivenNames x8
    have hx8 : Keeps M s0 x8 := by
      subst x8
      refine showSlots_keeps (hm.mono (by rfl)) ?_
      refine put_keeps (hm.at .PWR_STATUS (by rfl)) ?_
      exact hx7
    clear_value x8
    extract_lets +onlyGivenNames x9
    have hx9 : Keeps M s0 x9 := by
      subst x9
      refine put_keeps (hm.at .PWR_LAST_SAVE (by rfl)) ?_
      refine put_keeps (hm.at .PWR_LAST_SAVE (by rfl)) ?_
      exact hx8
    clear_value x9
    extract_lets +onlyGivenNames x10
    have hx10 : Keeps M s0 x10 := by
      subst x10
      refine put_keeps (hm.at .PWR_LAST_SAVE (by rfl)) ?_
      refine put_keeps (hm.at .PWR_LAST_SAVE (by rfl)) ?_
      exact hx9
    clear_value x10
    extract_lets +onlyGivenNames x11
    have hx11 : Keeps M s0 x11 := by
      subst x11
      refine raise_keeps (hm.mono (by rfl)) (hm.at .PWR_EVENT (by rfl)) ?_
      exact hx10
    clear_value x11
    extract_lets +onlyGivenNames x12
    have hx12 : Keeps M s0 x12 := by
      subst x12
      apply keeps_ite
      · refine count_keeps (hm.at .PWR_CKPT_CNT (by rfl)) ?_
        exact hx11
      · exact hx11
    clear_value x12
    apply keeps_ite
    · refine raise_keeps (hm.mono (by rfl)) (hm.at .PWR_EVENT (by rfl)) ?_
      exact hx12
    · exact hx12

theorem zSubtract_keeps {s : State} {e : Int} (hm : Sub 0x10000000 M) (hs : Keeps M s0 s) :
    Keeps M s0 (State.zSubtract s e) := by
  unfold State.zSubtract
  extract_lets +onlyGivenNames x1
  clear_value x1
  refine upd_pos_keeps (hm.mono (by rfl)) ?_
  exact hs

theorem zReference_keeps {s : State} {e : Int} (hm : Sub
    0x18400000000000000000000000000000000000000000000000000000000000000000000000000030000000000000000000000000000000000000000000000000010004000 M) (hs : Keeps M s0 s) :
    Keeps M s0 (State.zReference s e) := by
  unfold State.zReference
  extract_lets +onlyGivenNames x1
  have hx1 : Keeps M s0 x1 := by
    subst x1
    refine put_keeps (hm.at .POS_STATUS (by rfl)) ?_
    refine zSubtract_keeps (hm.mono (by rfl)) ?_
    exact hs
  clear_value x1
  apply keeps_ite
  · refine encFaultEnd_keeps (hm.mono (by rfl)) ?_
    exact hx1
  · exact hx1

end Sys2Proof.Machine
end

