-- ==== Sys2Proof/Laws/KeepsSys.lean ====
section
/-! SUPPORT. Laws/KeepsSys.lean: the same for temperature, lanes, resets, the fabric map and time, said once as Keeps (Safety.lean). -/

namespace Sys2Proof.Machine

variable {s0 : State} {M : Nat}

theorem setLane_keeps {s : State} {l : Nat} {x : Lane} (hm : Sub 0x8000000 M) (hs : Keeps M s0 s) :
    Keeps M s0 (State.setLane s l x) := by
  unfold State.setLane
  refine upd_lne_keeps (hm.mono (by rfl)) ?_
  exact hs

theorem laneLoseBlocks_keeps {s : State} {l : Nat} (hm : Sub
    0x100000000000000000000000000000000000000000000000000000000000000000000000000000000000000000000008000000 M) (hs : Keeps
    M s0 s) :
    Keeps M s0 (State.laneLoseBlocks s l) := by
  unfold State.laneLoseBlocks
  extract_lets +onlyGivenNames x1
  have hx1 : Keeps M s0 x1 := by
    subst x1
    refine put_keeps (hm.at .LNE_STATE (by rfl)) ?_
    exact hs
  clear_value x1
  extract_lets +onlyGivenNames x2
  have hx2 : Keeps M s0 x2 := by
    subst x2
    refine put_keeps (hm.at .LNE_STATE (by rfl)) ?_
    exact hx1
  clear_value x2
  refine setLane_keeps (hm.mono (by rfl)) ?_
  exact hx2

theorem putLaneSt_keeps {s : State} {l : Nat} {t : LaneSt} (hm : Sub
    0x100000000000000000000000000000000000000000000000000000000000000000000000000000000000000000000000000000 M) (hs : Keeps
    M s0 s) :
    Keeps M s0 (State.putLaneSt s l t) := by
  unfold State.putLaneSt
  refine put_keeps (hm.at .LNE_STATE (by rfl)) ?_
  exact hs

theorem laneRetrain_keeps {s : State} {l : Nat} {c : LaneCause} (hm : Sub
    0x1840000000000000000000000000000000C112000000000000000000000000000000000000000000000000000000000000000000000000000000000000000000008004000 M) (hs : Keeps M s0 s) :
    Keeps M s0 (State.laneRetrain s l c) := by
  unfold State.laneRetrain
  extract_lets +onlyGivenNames x1
  have hx1 : Keeps M s0 x1 := by
    subst x1
    refine laneLoseBlocks_keeps (hm.mono (by rfl)) ?_
    exact hs
  clear_value x1
  extract_lets +onlyGivenNames x2
  clear_value x2
  extract_lets +onlyGivenNames x3
  have hx3 : Keeps M s0 x3 := by
    subst x3
    refine setLane_keeps (hm.mono (by rfl)) ?_
    exact hx1
  clear_value x3
  extract_lets +onlyGivenNames x4
  have hx4 : Keeps M s0 x4 := by
    subst x4
    refine put_keeps (hm.at .LNE_STATE (by rfl)) ?_
    exact hx3
  clear_value x4
  extract_lets +onlyGivenNames x5
  have hx5 : Keeps M s0 x5 := by
    subst x5
    refine put_keeps (hm.at .LNE_STATE (by rfl)) ?_
    exact hx4
  clear_value x5
  extract_lets +onlyGivenNames x6
  have hx6 : Keeps M s0 x6 := by
    subst x6
    refine putLaneSt_keeps (hm.mono (by rfl)) ?_
    exact hx5
  clear_value x6
  extract_lets +onlyGivenNames x7
  have hx7 : Keeps M s0 x7 := by
    subst x7
    refine count_keeps (hm.at .LNE_RETRAIN_CNT (by rfl)) ?_
    exact hx6
  clear_value x7
  extract_lets +onlyGivenNames x8
  have hx8 : Keeps M s0 x8 := by
    subst x8
    refine put_keeps (hm.at .LNE_LAST (by rfl)) ?_
    exact hx7
  clear_value x8
  extract_lets +onlyGivenNames x9
  have hx9 : Keeps M s0 x9 := by
    subst x9
    refine put_keeps (hm.at .LNE_LAST (by rfl)) ?_
    exact hx8
  clear_value x9
  extract_lets +onlyGivenNames x10
  have hx10 : Keeps M s0 x10 := by
    subst x10
    refine raise_keeps (hm.mono (by rfl)) (hm.at .LNE_EVENT (by rfl)) ?_
    exact hx9
  clear_value x10
  split
  · refine raise_keeps (hm.mono (by rfl)) (hm.at .LNE_EVENT (by rfl)) ?_
    refine count_keeps (hm.at .LNE_LOCKLOSS_CNT (by rfl)) ?_
    exact hx10
  · refine raise_keeps (hm.mono (by rfl)) (hm.at .LNE_EVENT (by rfl)) ?_
    refine count_keeps (hm.at .LNE_LOCKLOSS_CNT (by rfl)) ?_
    refine put_keeps (hm.at .LNE_STATE (by rfl)) ?_
    exact hx10
  · exact hx10

theorem writeRoutes_keeps {s : State} (hm : Sub 0x80 M) (hs : Keeps M s0 s) :
    Keeps M s0 (State.writeRoutes s) := by
  unfold State.writeRoutes
  extract_lets +onlyGivenNames x1
  have hx1 : Keeps M s0 x1 := by
    subst x1
    refine clearTabs_keeps (hm.mono (by rfl)) ?_
    exact hs
  clear_value x1
  apply keeps_foldl
  · intro t2 x3 h4
    refine setTab_keeps (hm.mono (by rfl)) ?_
    exact h4
  · exact hx1

theorem topologyCheck_keeps {s : State} (hm : Sub
    0x18400000000050000000000000000000000000000000000000000000000000000000000000000000000000000000000000000000000000000000000000000000000004000 M) (hs : Keeps M s0 s) :
    Keeps M s0 (State.topologyCheck s) := by
  unfold State.topologyCheck
  extract_lets +onlyGivenNames x1
  clear_value x1
  apply keeps_ite
  · refine raise_keeps (hm.mono (by rfl)) (hm.at .FAB_EVENT (by rfl)) ?_
    refine put_keeps (hm.at .FAB_STATUS (by rfl)) ?_
    exact hs
  · refine put_keeps (hm.at .FAB_STATUS (by rfl)) ?_
    exact hs

theorem flushJobs_keeps {s : State} (hm : Sub
    0x18400000080010000000000000000000000000000000000000000000000000000000000000000000000000000000000000000000000000000000000000000000000184000 M) (hs : Keeps M s0 s) :
    Keeps M s0 (State.flushJobs s) := by
  unfold State.flushJobs
  apply keeps_ite
  · extract_lets +onlyGivenNames x1
    clear_value x1
    extract_lets +onlyGivenNames x2
    have hx2 : Keeps M s0 x2 := by
      subst x2
      refine upd_hst_keeps (hm.mono (by rfl)) ?_
      exact hs
    clear_value x2
    apply keeps_foldl
    · intro t3 x4 h5
      refine jobSend_keeps (hm.mono (by rfl)) ?_
      exact h5
    · exact hx2
  · exact hs

theorem flushToSink_keeps {s : State} (hm : Sub
    0x18400000080010000000000000000000000000000000000000000000000000000000000000000000000000000000000000000000000000000000000000000000000184000 M) (hs : Keeps M s0 s) :
    Keeps M s0 (State.flushToSink s) := by
  unfold State.flushToSink
  apply keeps_ite
  · extract_lets +onlyGivenNames x1
    clear_value x1
    extract_lets +onlyGivenNames x2
    clear_value x2
    extract_lets +onlyGivenNames x3
    have hx3 : Keeps M s0 x3 := by
      subst x3
      refine upd_hst_keeps (hm.mono (by rfl)) ?_
      exact hs
    clear_value x3
    apply keeps_foldl
    · intro t4 x5 h6
      refine fabSend_keeps (hm.mono (by rfl)) ?_
      exact h6
    · exact hx3
  · exact hs

theorem updateSink_keeps {s : State} (hm : Sub
    0x18400000080050000000000000000000000000000000000000000000000000000000000000000000000000000000000000000000000000000000000000000000000184000 M) (hs : Keeps M s0 s) :
    Keeps M s0 (State.updateSink s) := by
  unfold State.updateSink
  extract_lets +onlyGivenNames x1
  clear_value x1
  extract_lets +onlyGivenNames x2
  clear_value x2
  extract_lets +onlyGivenNames x3
  subst x3
  extract_lets +onlyGivenNames x4
  have hx4 : Keeps M s0 x4 := by
    subst x4
    refine put_keeps (hm.at .FAB_STATUS (by rfl)) ?_
    refine put_keeps (hm.at .FAB_STATUS (by rfl)) ?_
    exact hs
  clear_value x4
  extract_lets +onlyGivenNames x5
  have hx5 : Keeps M s0 x5 := by
    subst x5
    apply keeps_ite
    · refine raise_keeps (hm.mono (by rfl)) (hm.at .FAB_EVENT (by rfl)) ?_
      exact hx4
    · exact hx4
  clear_value x5
  extract_lets +onlyGivenNames x6
  have hx6 : Keeps M s0 x6 := by
    subst x6
    apply keeps_ite
    · refine raise_keeps (hm.mono (by rfl)) (hm.at .FAB_EVENT (by rfl)) ?_
      exact hx5
    · exact hx5
  clear_value x6
  refine flushJobs_keeps (hm.mono (by rfl)) ?_
  refine flushToSink_keeps (hm.mono (by rfl)) ?_
  exact hx6

theorem recomputeMap_keeps {s : State} (hm : Sub
    0x18400000080A50000000000000000000000000000000000000000000000000000000000000000000000000000000000000000000000000000000000000000000000184080 M) (hs : Keeps M s0 s) :
    Keeps M s0 (State.recomputeMap s) := by
  unfold State.recomputeMap
  extract_lets +onlyGivenNames x1
  clear_value x1
  extract_lets +onlyGivenNames x2
  have hx2 : Keeps M s0 x2 := by
    subst x2
    refine writeRoutes_keeps (hm.mono (by rfl)) ?_
    exact hs
  clear_value x2
  extract_lets +onlyGivenNames x3
  clear_value x3
  extract_lets +onlyGivenNames x4
  clear_value x4
  extract_lets +onlyGivenNames x5
  clear_value x5
  extract_lets +onlyGivenNames x6
  clear_value x6
  extract_lets +onlyGivenNames x7
  clear_value x7
  extract_lets +onlyGivenNames x8
  have hx8 : Keeps M s0 x8 := by
    subst x8
    refine upd_fab_keeps (hm.mono (by rfl)) ?_
    exact hx2
  clear_value x8
  extract_lets +onlyGivenNames x9
  have hx9 : Keeps M s0 x9 := by
    subst x9
    apply keeps_forBelow
    · intro x10 t11 h12
      refine putB_keeps (hm.at .FAB_PSTAT (by rfl)) ?_
      refine putB_keeps (hm.at .FAB_PSTAT (by rfl)) ?_
      exact h12
    · exact hx8
  clear_value x9
  extract_lets +onlyGivenNames x13
  clear_value x13
  extract_lets +onlyGivenNames x14
  have hx14 : Keeps M s0 x14 := by
    subst x14
    refine wr_keeps (hm.at .FAB_NBR (by rfl)) ?_
    exact hx9
  clear_value x14
  refine topologyCheck_keeps (hm.mono (by rfl)) ?_
  refine updateSink_keeps (hm.mono (by rfl)) ?_
  exact hx14

theorem timReacquire_keeps {s : State} (hm : Sub
    0x10000000000000000000000000000000000000000000000000000000000000000000000000000000000000000000000000000000000000000000040000 M) (hs : Keeps M s0 s) :
    Keeps M s0 (State.timReacquire s) := by
  unfold State.timReacquire
  refine wr_keeps (hm.at .TIM_MPD (by rfl)) ?_
  refine upd_tim_keeps (hm.mono (by rfl)) ?_
  exact hs

theorem setMrkPort_keeps {s : State} {m : Nat} {x : MrkPort} (hm : Sub 0x100000000 M) (hs : Keeps M s0 s) :
    Keeps M s0 (State.setMrkPort s m x) := by
  unfold State.setMrkPort
  refine upd_mrk_keeps (hm.mono (by rfl)) ?_
  exact hs

theorem mrkQuiet_keeps {s : State} {m : Nat} (hm : Sub 0x100000004 M) (hs : Keeps M s0 s) :
    Keeps M s0 (State.mrkQuiet s m) := by
  unfold State.mrkQuiet
  extract_lets +onlyGivenNames x1
  clear_value x1
  extract_lets +onlyGivenNames x2
  have hx2 : Keeps M s0 x2 := by
    subst x2
    apply keeps_ite
    · refine emit_keeps (hm.mono (by rfl)) ?_
      exact hs
    · exact hs
  clear_value x2
  refine setMrkPort_keeps (hm.mono (by rfl)) ?_
  exact hx2

theorem showKeep_keeps {s : State} (hm : Sub
    0xC8000000000000000000000000000000000000000000000000000000000000000000000000000000000000000000000000000000000000000000000000000000000000000000000 M) (hs : Keeps M s0 s) :
    Keeps M s0 (State.showKeep s) := by
  unfold State.showKeep
  extract_lets +onlyGivenNames x1
  have hx1 : Keeps M s0 x1 := by
    subst x1
    refine putB_keeps (hm.at .PWR_STATUS (by rfl)) ?_
    refine putB_keeps (hm.at .PWR_STATUS (by rfl)) ?_
    exact hs
  clear_value x1
  refine showSlots_keeps (hm.mono (by rfl)) ?_
  refine putB_keeps (hm.at .PWR_STATUS (by rfl)) ?_
  exact hx1

/-- Resetting the blocks keeps the fuses, the clock, the queue, the DRAM and what has left the device. -/
theorem blocksReset_keeps {s : State} {heat power : Bool} (hm : Sub 0x7FFFFFFFFFFFFFFFFFFFFFFFFFFFFFFFFFFFFFFFFFFFFFFFFFFFFFFFFFFFFFFFFFFFFFFFFFFFFFFFFFFFFFFFFFFFFFFFFFFFFFFFFFFFFFFFFFFFFFFFFFFFFFFFFFFFFFFFC1FFFFFFFAFC M) (hs : Keeps M s0 s) :
    Keeps M s0 (s.blocksReset heat power) := by
  unfold State.blocksReset
  extract_lets +onlyGivenNames q r g1 g2 g3 g4 t t'
  have hs : Keeps M s0 q := keeps_forBelow (fun _ _ h => mrkQuiet_keeps (hm.mono (by rfl)) h) hs
  clear_value q
  have ht : Keeps M s0 t := by
    refine hs.trans ⟨rfl, Nat.le_refl _, ⟨[], by simp [t]⟩, fun _ _ _ x => x, fun hc => ?_, fun _ p hp => ?_⟩
    · obtain ⟨h1, h2, h3, h4, h5, h6, h7, _⟩ := State.canonical_iff.1 hc
      exact State.canonical_iff.2 ⟨spAbove_filter _ h1, rfl, rfl, rfl, rfl, h6, h7, rfl⟩
    · cases p with
      | reg r => exact Bool.noConfusion ((hm.reg (by rfl) r).symm.trans hp)
      | _ => first | exact Eq.refl _ | exact fun _ => Eq.refl _ | exact Bool.noConfusion ((hm.bit rfl).symm.trans hp)
  clear_value t
  refine showKeep_keeps (hm.mono (by rfl)) ?_
  refine cellsInit_keeps (hm.mono (by rfl)) ?_
  apply keeps_ite
  · exact ht
  · exact keeps_forBelow (fun _ _ h => put_keeps (hm.at .THM_TS (by rfl)) h) ht

theorem showSts_keeps {s : State} (hm : Sub 0x2000000000000 M) (hs : Keeps M s0 s) :
    Keeps M s0 (State.showSts s) := by
  unfold State.showSts
  extract_lets +onlyGivenNames x1
  clear_value x1
  refine put_keeps (hm.at .GLB_STATUS (by rfl)) ?_
  exact hs

theorem modeTimes_keeps {s : State} {m : Mode} (hm : Sub 0x21000 M) (hs : Keeps M s0 s) :
    Keeps M s0 (State.modeTimes s m) := by
  unfold State.modeTimes
  extract_lets +onlyGivenNames x1
  subst x1
  extract_lets +onlyGivenNames x2
  have hx2 : Keeps M s0 x2 := by
    subst x2
    refine upd_glb_keeps (hm.mono (by rfl)) (.inr rfl) (.inr rfl) (.inr rfl) ?_
    exact hs
  clear_value x2
  apply keeps_ite
  · exact hx2
  · refine upd_pwr_keeps (hm.mono (by rfl)) (.inr rfl) (.inr rfl) (.inr rfl) (.inr rfl) ?_
    exact hx2

theorem setMode_keeps {s : State} {m : Mode} (hm : Sub
    0x18400000000000000000000000000000000000000000000000000000000000000000000000000000000000000000000000000000000000000000000000006800000025000 M) (hs : Keeps M s0 s) :
    Keeps M s0 (State.setMode s m) := by
  unfold State.setMode
  apply keeps_ite
  · refine showSts_keeps (hm.mono (by rfl)) ?_
    exact hs
  · refine showSts_keeps (hm.mono (by rfl)) ?_
    refine raise_keeps (hm.mono (by rfl)) (hm.at .GLB_EVENT (by rfl)) ?_
    refine put_keeps (hm.at .GLB_MODE (by rfl)) ?_
    refine modeTimes_keeps (hm.mono (by rfl)) ?_
    exact hs

theorem enterDark_keeps {s : State} {reason : Nat} (hm : Sub
    0x7FFFFFFFFFFFFFFFFFFFFFFFFFFFFFFFFFFFFFFFFFFFFFFFFFFFFFFFFFFFFFFFFFFFFFFFFFFFFFFFFFFFFFFFFFFFFFFFFFFFFFFFFFFFFFFFFFFFFFFFFFFFFFFFFFFFFFFFC3FFFFFFFAFC M) (hs : Keeps M s0 s) :
    Keeps M s0 (State.enterDark s reason) := by
  unfold State.enterDark
  extract_lets +onlyGivenNames x1
  have hx1 : Keeps M s0 x1 := by
    subst x1
    refine blocksReset_keeps (hm.mono (by rfl)) ?_
    refine freeze_keeps (hm.mono (by rfl)) ?_
    exact hs
  clear_value x1
  refine setMode_keeps (hm.mono (by rfl)) ?_
  refine put_keeps (hm.at .SEC_DARK (by rfl)) ?_
  exact hx1

theorem sourceNote_keeps {s : State} (hm : Sub 0x10000 M) (hs : Keeps M s0 s) :
    Keeps M s0 (State.sourceNote s) := by
  unfold State.sourceNote
  apply keeps_ite
  · exact hs
  · refine upd_thm_keeps (hm.mono (by rfl)) ?_
    exact hs

theorem setThrottle_keeps {s : State} {l : Nat} (hm : Sub
    0x20081418400000000000000000000000000000000000000000000000000000000000000000000000000000000000000000000000000000000000000000000000000020000034000 M) (hs : Keeps M s0 s) :
    Keeps M s0 (State.setThrottle s l) := by
  unfold State.setThrottle
  extract_lets +onlyGivenNames x1
  clear_value x1
  apply keeps_ite
  · exact hs
  · extract_lets +onlyGivenNames x2
    have hx2 : Keeps M s0 x2 := by
      subst x2
      refine put_keeps (hm.at .THM_STATUS (by rfl)) ?_
      exact hs
    clear_value x2
    extract_lets +onlyGivenNames x3
    clear_value x3
    extract_lets +onlyGivenNames x4
    have hx4 : Keeps M s0 x4 := by
      subst x4
      refine upd_thm_keeps (hm.mono (by rfl)) ?_
      exact hx2
    clear_value x4
    extract_lets +onlyGivenNames x5
    have hx5 : Keeps M s0 x5 := by
      subst x5
      apply keeps_ite
      · refine count_keeps (hm.at .THM_THR_CNT (by rfl)) ?_
        exact hx4
      · exact hx4
    clear_value x5
    refine callboard_keeps (hm.mono (by rfl)) ?_
    refine raise_keeps (hm.mono (by rfl)) (hm.at .THM_EVENT (by rfl)) ?_
    exact hx5

theorem throttleStart_keeps {s : State} (hm : Sub
    0x20081418400000000000000000000000000000000000000000000000000000000000000000000000000000000000000000000000000000000000000000000000000020000034000 M) (hs : Keeps M s0 s) :
    Keeps M s0 (State.throttleStart s) := by
  unfold State.throttleStart
  extract_lets +onlyGivenNames x1
  have hx1 : Keeps M s0 x1 := by
    subst x1
    refine sourceNote_keeps (hm.mono (by rfl)) ?_
    exact hs
  clear_value x1
  apply keeps_ite
  · refine setThrottle_keeps (hm.mono (by rfl)) ?_
    exact hx1
  · exact hx1

theorem showHottest_keeps {s : State} (hm : Sub
    0x1000000000000000000000000000000000000000000000000000000000000000000000000000000000000000000000000000000000000000000000000000000000000000000 M) (hs : Keeps M s0 s) :
    Keeps M s0 (State.showHottest s) := by
  unfold State.showHottest
  extract_lets +onlyGivenNames x1
  clear_value x1
  extract_lets +onlyGivenNames x2
  clear_value x2
  refine put_keeps (hm.at .THM_STATUS (by rfl)) ?_
  refine put_keeps (hm.at .THM_STATUS (by rfl)) ?_
  exact hs

theorem heatStates_keeps {s : State} (hm : Sub
    0x200C1418400000000000000000000000000000000000000000000000000000000000000000000000000000000000000000000000000000000000000000000000000020000034000 M) (hs : Keeps M s0 s) :
    Keeps M s0 (State.heatStates s) := by
  unfold State.heatStates
  extract_lets +onlyGivenNames x1
  clear_value x1
  extract_lets +onlyGivenNames x2
  clear_value x2
  extract_lets +onlyGivenNames x3
  clear_value x3
  extract_lets +onlyGivenNames x4
  clear_value x4
  extract_lets +onlyGivenNames x5
  have hx5 : Keeps M s0 x5 := by
    subst x5
    refine putB_keeps (hm.at .THM_STATUS (by rfl)) ?_
    refine putB_keeps (hm.at .THM_STATUS (by rfl)) ?_
    exact hs
  clear_value x5
  extract_lets +onlyGivenNames x6
  have hx6 : Keeps M s0 x6 := by
    subst x6
    apply keeps_ite
    · refine count_keeps (hm.at .THM_WARN_CNT (by rfl)) ?_
      refine raise_keeps (hm.mono (by rfl)) (hm.at .THM_EVENT (by rfl)) ?_
      exact hx5
    · exact hx5
  clear_value x6
  extract_lets +onlyGivenNames x7
  have hx7 : Keeps M s0 x7 := by
    subst x7
    apply keeps_ite
    · refine raise_keeps (hm.mono (by rfl)) (hm.at .THM_EVENT (by rfl)) ?_
      exact hx6
    · exact hx6
  clear_value x7
  refine throttleStart_keeps (hm.mono (by rfl)) ?_
  refine showHottest_keeps (hm.mono (by rfl)) ?_
  exact hx7

theorem readFuses_keeps {s : State} (hm : Sub
    0x7FFFFFFFFFFFFFFFFFFFFFFFFFFFFFFFFFFFFFFFFFFFFFFFFFFFFFFFFFFFFFFFFFFFFFFFFFFFFFFFFFFFFFFFFFFFFFFFFFFFFFFFFFFFFFFFFFFFFFFFFFFFFFFFFFFFFFFFC3FFFFFFFAFC M) (hs : Keeps M s0 s) :
    Keeps M s0 (State.readFuses s) := by
  unfold State.readFuses
  apply keeps_ite
  · extract_lets +onlyGivenNames x1
    have hx1 : Keeps M s0 x1 := by
      subst x1
      refine wr_keeps (hm.at .SEC_SERIAL_HI (by rfl)) ?_
      refine wr_keeps (hm.at .SEC_SERIAL_LO (by rfl)) ?_
      exact hs
    clear_value x1
    extract_lets +onlyGivenNames x2
    have hx2 : Keeps M s0 x2 := by
      subst x2
      refine put_keeps (hm.at .SEC_ROLLBACK (by rfl)) ?_
      exact hx1
    clear_value x2
    extract_lets +onlyGivenNames x3
    have hx3 : Keeps M s0 x3 := by
      subst x3
      refine putB_keeps (hm.at .SEC_STATUS (by rfl)) ?_
      exact hx2
    clear_value x3
    refine put_keeps (hm.at .GLB_LOAD_STATUS (by rfl)) ?_
    exact hx3
  · refine enterDark_keeps (hm.mono (by rfl)) ?_
    refine fault_keeps (hm.mono (by rfl)) ?_
    exact hs

theorem loadStart_keeps {s : State} (hm : Sub
    0x7FFFFFFFFFFFFFFFFFFFFFFFFFFFFFFFFFFFFFFFFFFFFFFFFFFFFFFFFFFFFFFFFFFFFFFFFFFFFFFFFFFFFFFFFFFFFFFFFFFFFFFFFFFFFFFFFFFFFFFFFFFFFFFFFFFFFFFFCBFFFFFFFAFC M) (hs : Keeps M s0 s) :
    Keeps M s0 (State.loadStart s) := by
  unfold State.loadStart
  extract_lets +onlyGivenNames x1
  have hx1 : Keeps M s0 x1 := by
    subst x1
    refine cutWrite_keeps (hm.mono (by rfl)) ?_
    exact hs
  clear_value x1
  extract_lets +onlyGivenNames x2
  subst x2
  extract_lets +onlyGivenNames x3
  have hx3 : Keeps M s0 x3 := by
    subst x3
    refine upd_pwr_keeps (hm.mono (by rfl)) (.inr rfl) (.inr rfl) (.inr rfl) (.inr rfl) ?_
    exact hx1
  clear_value x3
  extract_lets +onlyGivenNames x4
  have hx4 : Keeps M s0 x4 := by
    subst x4
    refine blocksReset_keeps (hm.mono (by rfl)) ?_
    exact hx3
  clear_value x4
  refine readFuses_keeps (hm.mono (by rfl)) ?_
  refine showSts_keeps (hm.mono (by rfl)) ?_
  refine put_keeps (hm.at .GLB_MODE (by rfl)) ?_
  refine upd_glb_keeps (hm.mono (by rfl)) (.inr rfl) (.inr rfl) (.inr rfl) ?_
  exact hx4

theorem laneDown_keeps {s : State} {l : Nat} {t : LaneSt} (hm : Sub
    0x500000000000000000000000000000000000000000000000000000000000000000000000000000000000000000000008000000 M) (hs : Keeps
    M s0 s) :
    Keeps M s0 (State.laneDown s l t) := by
  unfold State.laneDown
  extract_lets +onlyGivenNames x1
  have hx1 : Keeps M s0 x1 := by
    subst x1
    refine laneLoseBlocks_keeps (hm.mono (by rfl)) ?_
    exact hs
  clear_value x1
  extract_lets +onlyGivenNames x2
  have hx2 : Keeps M s0 x2 := by
    subst x2
    refine put_keeps (hm.at .LNE_STATE (by rfl)) ?_
    exact hx1
  clear_value x2
  extract_lets +onlyGivenNames x3
  have hx3 : Keeps M s0 x3 := by
    subst x3
    refine put_keeps (hm.at .LNE_STATE (by rfl)) ?_
    exact hx2
  clear_value x3
  extract_lets +onlyGivenNames x4
  have hx4 : Keeps M s0 x4 := by
    subst x4
    refine put_keeps (hm.at .LNE_STATE (by rfl)) ?_
    exact hx3
  clear_value x4
  extract_lets +onlyGivenNames x5
  have hx5 : Keeps M s0 x5 := by
    subst x5
    refine put_keeps (hm.at .LNE_TSTAT (by rfl)) ?_
    exact hx4
  clear_value x5
  extract_lets +onlyGivenNames x6
  have hx6 : Keeps M s0 x6 := by
    subst x6
    refine put_keeps (hm.at .LNE_TSTAT (by rfl)) ?_
    exact hx5
  clear_value x6
  extract_lets +onlyGivenNames x7
  clear_value x7
  extract_lets +onlyGivenNames x8
  have hx8 : Keeps M s0 x8 := by
    subst x8
    refine setLane_keeps (hm.mono (by rfl)) ?_
    exact hx6
  clear_value x8
  refine putLaneSt_keeps (hm.mono (by rfl)) ?_
  exact hx8

theorem lanesToStandby_keeps {s : State} (hm : Sub
    0x500000000000000000000000000000000000000000000000000000000000000000000000000000000000000000000008000000 M) (hs : Keeps
    M s0 s) :
    Keeps M s0 (State.lanesToStandby s) := by
  unfold State.lanesToStandby
  apply keeps_forBelow
  · intro x1 t2 h3
    apply keeps_ite
    · apply keeps_ite
      · extract_lets +onlyGivenNames x4
        have hx4 : Keeps M s0 x4 := by
          subst x4
          refine laneDown_keeps (hm.mono (by rfl)) ?_
          exact h3
        clear_value x4
        refine setLane_keeps (hm.mono (by rfl)) ?_
        exact hx4
      · refine laneDown_keeps (hm.mono (by rfl)) ?_
        exact h3
    · exact h3
  · exact hs

theorem sendWakes_keeps {s : State} (hm : Sub 0x4 M) (hs : Keeps M s0 s) :
    Keeps M s0 (State.sendWakes s) := by
  unfold State.sendWakes
  apply keeps_forBelow
  · intro x1 t2 h3
    apply keeps_ite
    · refine emit_keeps (hm.mono (by rfl)) ?_
      exact h3
    · exact h3
  · exact hs

theorem lanesFromStandby_keeps {s : State} (hm : Sub
    0x500000000000000000000000000000000000000000000000000000000000000000000000000000000000000000000008000000 M) (hs : Keeps
    M s0 s) :
    Keeps M s0 (State.lanesFromStandby s) := by
  unfold State.lanesFromStandby
  apply keeps_forBelow
  · intro x1 t2 h3
    split
    · apply keeps_ite
      · exact h3
      · refine laneDown_keeps (hm.mono (by rfl)) ?_
        exact h3
    · refine laneDown_keeps (hm.mono (by rfl)) ?_
      refine put_keeps (hm.at .LNE_STATE (by rfl)) ?_
      exact h3
    · refine setLane_keeps (hm.mono (by rfl)) ?_
      exact h3
    · exact h3
  · exact hs

theorem checkerFollow_keeps {s : State} {l : Nat} (hm : Sub
    0x400000000000000000000000000000000000000000000000000000000000000000000000000000000000000000000008000000 M) (hs : Keeps
    M s0 s) :
    Keeps M s0 (State.checkerFollow s l) := by
  unfold State.checkerFollow
  apply keeps_ite
  · exact hs
  · refine setLane_keeps (hm.mono (by rfl)) ?_
    refine put_keeps (hm.at .LNE_TSTAT (by rfl)) ?_
    exact hs

theorem laneTestTry_keeps {s : State} {l : Nat} (hm : Sub
    0x18400000000000000000000000000000000502000000000000000000000000000000000000000000000000000000000000000000000000000000000000000000008004000 M) (hs : Keeps M s0 s) :
    Keeps M s0 (State.laneTestTry s l) := by
  unfold State.laneTestTry
  apply keeps_ite
  · apply keeps_ite
    · refine checkerFollow_keeps (hm.mono (by rfl)) ?_
      exact hs
    · apply keeps_ite
      · apply keeps_ite
        · refine laneLoseBlocks_keeps (hm.mono (by rfl)) ?_
          refine put_keeps (hm.at .LNE_TSTAT (by rfl)) ?_
          refine putLaneSt_keeps (hm.mono (by rfl)) ?_
          exact hs
        · refine put_keeps (hm.at .LNE_TSTAT (by rfl)) ?_
          exact hs
      · refine raise_keeps (hm.mono (by rfl)) (hm.at .LNE_EVENT (by rfl)) ?_
        refine put_keeps (hm.at .LNE_TSTAT (by rfl)) ?_
        exact hs
  · apply keeps_ite
    · refine put_keeps (hm.at .LNE_STATE (by rfl)) ?_
      refine laneDown_keeps (hm.mono (by rfl)) ?_
      exact hs
    · refine put_keeps (hm.at .LNE_TSTAT (by rfl)) ?_
      exact hs

theorem quadReleased_keeps {s : State} {first : Nat} (hm : Sub
    0x18400000000000000000000000000000000502000000000000000000000000000000000000000000000000000000000000000000000000000000000000000000008004000 M) (hs : Keeps M s0 s) :
    Keeps M s0 (State.quadReleased s first) := by
  unfold State.quadReleased
  apply keeps_forBelow
  · intro x1 t2 h3
    apply keeps_ite
    · refine laneTestTry_keeps (hm.mono (by rfl)) ?_
      exact h3
    · exact h3
  · exact hs

theorem laneEnable_keeps {s : State} {l : Nat} (hm : Sub
    0x500000000000000000000000000000000000000000000000000000000000000000000000000000000000000000000008000000 M) (hs : Keeps
    M s0 s) :
    Keeps M s0 (State.laneEnable s l) := by
  unfold State.laneEnable
  apply keeps_ite
  · apply keeps_ite
    · refine putLaneSt_keeps (hm.mono (by rfl)) ?_
      exact hs
    · exact hs
  · refine laneDown_keeps (hm.mono (by rfl)) ?_
    exact hs

theorem laneTxEq_keeps {s : State} {l : Nat} (hm : Sub
    0x140000000000000000000000000000000000000000000000000000000000000000000000000000000000000000000000000000 M) (hs : Keeps
    M s0 s) :
    Keeps M s0 (State.laneTxEq s l) := by
  unfold State.laneTxEq
  extract_lets +onlyGivenNames x1
  clear_value x1
  extract_lets +onlyGivenNames x2
  clear_value x2
  extract_lets +onlyGivenNames x3
  clear_value x3
  refine putB_keeps (hm.at .LNE_STATE (by rfl)) ?_
  refine put_keeps (hm.at .LNE_TXEQ (by rfl)) ?_
  exact hs

theorem stepped_keeps {s : State} (hm : Sub
    0x18400000000000200000C00000000000000000000000000000000000000000000000000000000000000000000000000000000000000000000000000000000000000004000 M) (hs : Keeps M s0 s) :
    Keeps M s0 (State.stepped s) := by
  unfold State.stepped
  extract_lets +onlyGivenNames x1
  have hx1 : Keeps M s0 x1 := by
    subst x1
    refine put_keeps (hm.at .TIM_STATUS (by rfl)) ?_
    exact hs
  clear_value x1
  extract_lets +onlyGivenNames x2
  have hx2 : Keeps M s0 x2 := by
    subst x2
    refine put_keeps (hm.at .TIM_STATUS (by rfl)) ?_
    exact hx1
  clear_value x2
  refine count_keeps (hm.at .TIM_STEP_CNT (by rfl)) ?_
  refine raise_keeps (hm.mono (by rfl)) (hm.at .TIM_EVENT (by rfl)) ?_
  exact hx2

theorem timeSet_keeps {s : State} (hm : Sub
    0x18400000000000200000C00000000000000000000000000000000000000000000000000000000000000000000000000000000000000000000000000000000000000044000 M) (hs : Keeps M s0 s) :
    Keeps M s0 (State.timeSet s) := by
  unfold State.timeSet
  extract_lets +onlyGivenNames x1
  clear_value x1
  extract_lets +onlyGivenNames x2
  clear_value x2
  refine stepped_keeps (hm.mono (by rfl)) ?_
  refine upd_tim_keeps (hm.mono (by rfl)) ?_
  exact hs

theorem setBoard_keeps {s : State} {b : Nat} {x : Board} (hm : Sub 0x10000 M) (hs : Keeps M s0 s) :
    Keeps M s0 (State.setBoard s b x) := by
  unfold State.setBoard
  refine upd_thm_keeps (hm.mono (by rfl)) ?_
  exact hs

theorem boardInvalid_keeps {s : State} {b : Nat} (hm : Sub
    0x220000000000000000000000000000000000000000000000000000000000000000000000000000000000000000000000000000000000000000000000000000000000000010000 M) (hs : Keeps M s0 s) :
    Keeps M s0 (State.boardInvalid s b) := by
  unfold State.boardInvalid
  extract_lets +onlyGivenNames x1
  clear_value x1
  extract_lets +onlyGivenNames x2
  have hx2 : Keeps M s0 x2 := by
    subst x2
    refine count_keeps (hm.at .THM_I2C_ERR_CNT (by rfl)) ?_
    refine setBoard_keeps (hm.mono (by rfl)) ?_
    exact hs
  clear_value x2
  apply keeps_ite
  · refine put_keeps (hm.at .THM_BRDT (by rfl)) ?_
    exact hx2
  · exact hx2

theorem boardSample_keeps {s : State} {b : Nat} {raw : BitVec 16} (hm : Sub
    0x20000000000000000000000000000000000000000000000000000000000000000000000000000000000000000000000000000000000000000000000000000000000000010000 M) (hs : Keeps M s0 s) :
    Keeps M s0 (State.boardSample s b raw) := by
  unfold State.boardSample
  extract_lets +onlyGivenNames x1
  clear_value x1
  extract_lets +onlyGivenNames x2
  clear_value x2
  extract_lets +onlyGivenNames x3
  clear_value x3
  extract_lets +onlyGivenNames x4
  have hx4 : Keeps M s0 x4 := by
    subst x4
    refine setBoard_keeps (hm.mono (by rfl)) ?_
    exact hs
  clear_value x4
  refine put_keeps (hm.at .THM_BRDT (by rfl)) ?_
  refine put_keeps (hm.at .THM_BRDT (by rfl)) ?_
  exact hx4

theorem setSensor_keeps {s : State} {i : Nat} {x : Sensor} (hm : Sub 0x10000 M) (hs : Keeps M s0 s) :
    Keeps M s0 (State.setSensor s i x) := by
  unfold State.setSensor
  refine upd_thm_keeps (hm.mono (by rfl)) ?_
  exact hs

theorem breakSensor_keeps {s : State} {i : Nat} {cause : Nat} (hm : Sub
    0x10A418400000000000000000000000000000000000000000000000000000000000000000000000000000000000000000000000000000000000000000000000000000000014000 M) (hs : Keeps M s0 s) :
    Keeps M s0 (State.breakSensor s i cause) := by
  unfold State.breakSensor
  extract_lets +onlyGivenNames x1
  clear_value x1
  extract_lets +onlyGivenNames x2
  have hx2 : Keeps M s0 x2 := by
    subst x2
    refine setSensor_keeps (hm.mono (by rfl)) ?_
    exact hs
  clear_value x2
  extract_lets +onlyGivenNames x3
  have hx3 : Keeps M s0 x3 := by
    subst x3
    refine put_keeps (hm.at .THM_TS (by rfl)) ?_
    refine put_keeps (hm.at .THM_TS (by rfl)) ?_
    exact hx2
  clear_value x3
  refine count_keeps (hm.at .THM_BROKEN_CNT (by rfl)) ?_
  refine raise_keeps (hm.mono (by rfl)) (hm.at .THM_EVENT (by rfl)) ?_
  refine put_keeps (hm.at .THM_BROKEN (by rfl)) ?_
  exact hx3

theorem lanesOff_keeps {s : State} (hm : Sub
    0x500000000000000000000000000000000000000000000000000000000000000000000000000000000000000000000008000000 M) (hs : Keeps
    M s0 s) :
    Keeps M s0 (State.lanesOff s) := by
  unfold State.lanesOff
  apply keeps_forBelow
  · intro x1 t2 h3
    refine laneDown_keeps (hm.mono (by rfl)) ?_
    exact h3
  · exact hs

theorem timReject_keeps {s : State} (hm : Sub
    0x18400000000000400000800000000000000000000000000000000000000000000000000000000000000000000000000000000000000000000000000000000000000004000 M) (hs : Keeps M s0 s) :
    Keeps M s0 (State.timReject s) := by
  unfold State.timReject
  refine raise_keeps (hm.mono (by rfl)) (hm.at .TIM_EVENT (by rfl)) ?_
  refine count_keeps (hm.at .TIM_REJ_CNT (by rfl)) ?_
  exact hs

theorem delaySample_keeps {s : State} {x : Int} (hm : Sub
    0x18400000000000410000800000000000000000000000000000000000000000000000000000000000000000000000000000000000000000000000000000000000000044000 M) (hs : Keeps M s0 s) :
    Keeps M s0 (State.delaySample s x) := by
  unfold State.delaySample
  apply keeps_ite
  · refine timReject_keeps (hm.mono (by rfl)) ?_
    exact hs
  · extract_lets +onlyGivenNames x1
    clear_value x1
    extract_lets +onlyGivenNames x2
    clear_value x2
    extract_lets +onlyGivenNames x3
    have hx3 : Keeps M s0 x3 := by
      subst x3
      refine upd_tim_keeps (hm.mono (by rfl)) ?_
      exact hs
    clear_value x3
    refine wr_keeps (hm.at .TIM_MPD (by rfl)) ?_
    exact hx3

theorem queueOffset_keeps {s : State} {theta : Int} (hm : Sub 0x40000 M) (hs : Keeps M s0 s) :
    Keeps M s0 (State.queueOffset s theta) := by
  unfold State.queueOffset
  refine upd_tim_keeps (hm.mono (by rfl)) ?_
  exact hs

theorem fastStep_keeps {s : State} {i : Nat} {v : Int} (hm : Sub
    0xC000000000000000000000000000000000000000000000000000000000000000000000000000000000000000000000000000000000000000000000000000000000000010000 M) (hs : Keeps M s0 s) :
    Keeps M s0 (State.fastStep s i v) := by
  unfold State.fastStep
  apply keeps_ite
  · exact hs
  · extract_lets +onlyGivenNames x1
    clear_value x1
    extract_lets +onlyGivenNames x2
    clear_value x2
    extract_lets +onlyGivenNames x3
    have hx3 : Keeps M s0 x3 := by
      subst x3
      refine setSensor_keeps (hm.mono (by rfl)) ?_
      exact hs
    clear_value x3
    apply keeps_ite
    · refine put_keeps (hm.at .THM_FAST (by rfl)) ?_
      refine put_keeps (hm.at .THM_TS (by rfl)) ?_
      exact hx3
    · apply keeps_ite
      · refine put_keeps (hm.at .THM_FAST (by rfl)) ?_
        refine put_keeps (hm.at .THM_TS (by rfl)) ?_
        exact hx3
      · exact hx3

theorem flagsStep_keeps {s : State} {i : Nat} {v : Int} (hm : Sub 0x10000 M) (hs : Keeps M s0 s) :
    Keeps M s0 (State.flagsStep s i v) := by
  unfold State.flagsStep
  extract_lets +onlyGivenNames x1
  clear_value x1
  extract_lets +onlyGivenNames x2
  clear_value x2
  refine setSensor_keeps (hm.mono (by rfl)) ?_
  exact hs

theorem setAdj_keeps {s : State} {a : Int} (hm : Sub
    0xC00000000000000000000000000000000000000000000000000000000000000000000000000000000000000000000000000000000000000000000000 M) (hs : Keeps M s0 s) :
    Keeps M s0 (State.setAdj s a) := by
  unfold State.setAdj
  refine setPair_keeps (hm.at .TIM_ADJ_L (by rfl)) (hm.at .TIM_ADJ_H (by rfl)) ?_
  exact hs

theorem holdover_keeps {s : State} (hm : Sub
    0x18400000000000800C00C00000000000000000000000000000000000000000000000000000000000000000000000000000000000000000000000000000000000000044000 M) (hs : Keeps M s0 s) :
    Keeps M s0 (State.holdover s) := by
  unfold State.holdover
  apply keeps_ite
  · exact hs
  · extract_lets +onlyGivenNames x1
    have hx1 : Keeps M s0 x1 := by
      subst x1
      refine setAdj_keeps (hm.mono (by rfl)) ?_
      exact hs
    clear_value x1
    extract_lets +onlyGivenNames x2
    have hx2 : Keeps M s0 x2 := by
      subst x2
      refine put_keeps (hm.at .TIM_STATUS (by rfl)) ?_
      exact hx1
    clear_value x2
    extract_lets +onlyGivenNames x3
    have hx3 : Keeps M s0 x3 := by
      subst x3
      refine put_keeps (hm.at .TIM_STATUS (by rfl)) ?_
      exact hx2
    clear_value x3
    extract_lets +onlyGivenNames x4
    have hx4 : Keeps M s0 x4 := by
      subst x4
      refine put_keeps (hm.at .TIM_STATUS (by rfl)) ?_
      exact hx3
    clear_value x4
    extract_lets +onlyGivenNames x5
    clear_value x5
    extract_lets +onlyGivenNames x6
    have hx6 : Keeps M s0 x6 := by
      subst x6
      refine upd_tim_keeps (hm.mono (by rfl)) ?_
      exact hx4
    clear_value x6
    refine count_keeps (hm.at .TIM_HOLD_CNT (by rfl)) ?_
    refine raise_keeps (hm.mono (by rfl)) (hm.at .TIM_EVENT (by rfl)) ?_
    exact hx6

theorem keepReset_keeps {s : State} (hm : Sub
    0x802E84080000000000000000000000000000000000000000000000000000000000000000000000000000000000000000000000000000000000000000000000000000000A0000020000 M) (hs : Keeps M s0 s) :
    Keeps M s0 (State.keepReset s) := by
  unfold State.keepReset
  extract_lets +onlyGivenNames x1
  have hx1 : Keeps M s0 x1 := by
    subst x1
    refine cutWrite_keeps (hm.mono (by rfl)) ?_
    exact hs
  clear_value x1
  extract_lets +onlyGivenNames x2
  subst x2
  extract_lets +onlyGivenNames x3
  have hx3 : Keeps M s0 x3 := by
    subst x3
    refine upd_pwr_keeps (hm.mono (by rfl)) (.inl (hm.bit (by rfl))) (.inr rfl) (.inr rfl) (.inr rfl) ?_
    exact hx1
  clear_value x3
  extract_lets +onlyGivenNames x4
  have hx4 : Keeps M s0 x4 := by
    subst x4
    refine wr_keeps (hm.at .PWR_CB_STATUS (by rfl)) ?_
    refine put_keeps (hm.at .SEC_DARK (by rfl)) ?_
    exact hx3
  clear_value x4
  extract_lets +onlyGivenNames x5
  have hx5 : Keeps M s0 x5 := by
    subst x5
    refine wr_keeps (hm.at .PWR_CURTAIN_CNT (by rfl)) ?_
    refine wr_keeps (hm.at .THM_SHUT_CNT (by rfl)) ?_
    exact hx4
  clear_value x5
  refine showKeep_keeps (hm.mono (by rfl)) ?_
  apply keeps_forBelow
  · intro x6 t7 h8
    refine put_keeps (hm.at .THM_TS (by rfl)) ?_
    exact h8
  · exact hx5

theorem learnLofs_keeps {s : State} {i : Nat} (hm : Sub
    0x8000000000000000000000000000000000000000000000000000000000000000000000000000000000000000000000000000000000000000000000000000000000000000000 M) (hs : Keeps M s0 s) :
    Keeps M s0 (State.learnLofs s i) := by
  unfold State.learnLofs
  extract_lets +onlyGivenNames x1
  clear_value x1
  apply keeps_ite
  · exact hs
  · extract_lets +onlyGivenNames x2
    clear_value x2
    extract_lets +onlyGivenNames x3
    clear_value x3
    refine put_keeps (hm.at .THM_TS (by rfl)) ?_
    exact hs

theorem lockStep_keeps {s : State} {theta : Int} (hm : Sub
    0x18400000000000000000C00000000000000000000000000000000000000000000000000000000000000000000000000000000000000000000000000000000000000044000 M) (hs : Keeps M s0 s) :
    Keeps M s0 (State.lockStep s theta) := by
  unfold State.lockStep
  apply keeps_ite
  · extract_lets +onlyGivenNames x1
    clear_value x1
    extract_lets +onlyGivenNames x2
    clear_value x2
    extract_lets +onlyGivenNames x3
    have hx3 : Keeps M s0 x3 := by
      subst x3
      refine upd_tim_keeps (hm.mono (by rfl)) ?_
      exact hs
    clear_value x3
    apply keeps_ite
    · refine raise_keeps (hm.mono (by rfl)) (hm.at .TIM_EVENT (by rfl)) ?_
      refine put_keeps (hm.at .TIM_STATUS (by rfl)) ?_
      exact hx3
    · exact hx3
  · extract_lets +onlyGivenNames x4
    clear_value x4
    extract_lets +onlyGivenNames x5
    have hx5 : Keeps M s0 x5 := by
      subst x5
      refine upd_tim_keeps (hm.mono (by rfl)) ?_
      exact hs
    clear_value x5
    apply keeps_ite
    · refine raise_keeps (hm.mono (by rfl)) (hm.at .TIM_EVENT (by rfl)) ?_
      refine put_keeps (hm.at .TIM_STATUS (by rfl)) ?_
      exact hx5
    · exact hx5

theorem noteDramCrit_keeps {s : State} (hm : Sub
    0x1000000000000000000000000000000000000000000000000000000000000000000000000000000000000000000000000000000000000000000000000000000000000000000 M) (hs : Keeps M s0 s) :
    Keeps M s0 (State.noteDramCrit s) := by
  unfold State.noteDramCrit
  refine putB_keeps (hm.at .THM_STATUS (by rfl)) ?_
  exact hs

theorem peerSample_keeps {s : State} {t1 : Tick} {t4 : Tick} {turn : Int} (hm : Sub
    0x18400000000000410000800000000000000000000000000000000000000000000000000000000000000000000000000000000000000000000000000000000000000044000 M) (hs : Keeps M s0 s) :
    Keeps M s0 (State.peerSample s t1 t4 turn) := by
  unfold State.peerSample
  extract_lets +onlyGivenNames x1
  clear_value x1
  extract_lets +onlyGivenNames x2
  have hx2 : Keeps M s0 x2 := by
    subst x2
    refine upd_tim_keeps (hm.mono (by rfl)) ?_
    exact hs
  clear_value x2
  refine delaySample_keeps (hm.mono (by rfl)) ?_
  exact hx2

theorem sendPtp_keeps {s : State} {kind : PtpKind} {seq : BitVec 16} {stamp : Tick} {corr : Int} (hm : Sub
    0x100000000000000000000000000000000000000000000000000000000000000000000000000000000000000000000000000000000000000004 M)
    (hs : Keeps M s0 s) :
    Keeps M s0 (State.sendPtp s kind seq stamp corr) := by
  unfold State.sendPtp
  extract_lets +onlyGivenNames x1
  clear_value x1
  apply keeps_ite
  · refine count_keeps (hm.at .HST_TX_FRAME_CNT (by rfl)) ?_
    refine emit_keeps (hm.mono (by rfl)) ?_
    exact hs
  · exact hs

theorem ptpDelayReqSend_keeps {s : State} {seqId : BitVec 16} (hm : Sub
    0x100000000000000000000000000000000000000000000000000000000000000000000000000000000000000000000000000000000000040004 M)
    (hs : Keeps M s0 s) :
    Keeps M s0 (State.ptpDelayReqSend s seqId) := by
  unfold State.ptpDelayReqSend
  apply keeps_ite
  · extract_lets +onlyGivenNames x1
    clear_value x1
    extract_lets +onlyGivenNames x2
    have hx2 : Keeps M s0 x2 := by
      subst x2
      refine sendPtp_keeps (hm.mono (by rfl)) ?_
      exact hs
    clear_value x2
    refine upd_tim_keeps (hm.mono (by rfl)) ?_
    exact hx2
  · exact hs

theorem ptpDelayResp_keeps {s : State} {m : PtpMsg} (hm : Sub
    0x18400000000000410000800000000000000000000000000000000000000000000000000000000000000000000000000000000000000000000000000000000000000044000 M) (hs : Keeps M s0 s) :
    Keeps M s0 (State.ptpDelayResp s m) := by
  unfold State.ptpDelayResp
  split
  · exact hs
  · apply keeps_ite
    · apply keeps_ite
      · apply keeps_ite
        · refine upd_tim_keeps (hm.mono (by rfl)) ?_
          exact hs
        · refine peerSample_keeps (hm.mono (by rfl)) ?_
          exact hs
      · split
        · exact hs
        · extract_lets +onlyGivenNames x1
          clear_value x1
          extract_lets +onlyGivenNames x2
          have hx2 : Keeps M s0 x2 := by
            subst x2
            refine upd_tim_keeps (hm.mono (by rfl)) ?_
            exact hs
          clear_value x2
          refine delaySample_keeps (hm.mono (by rfl)) ?_
          exact hx2
    · exact hs

theorem syncComplete_keeps {s : State} {t1 : Tick} {corr : Int} {t2 : Tick} (hm : Sub 0x40000 M) (hs : Keeps M s0 s) :
    Keeps M s0 (State.syncComplete s t1 corr t2) := by
  unfold State.syncComplete
  extract_lets +onlyGivenNames x1
  clear_value x1
  extract_lets +onlyGivenNames x2
  clear_value x2
  extract_lets +onlyGivenNames x3
  have hx3 : Keeps M s0 x3 := by
    subst x3
    refine upd_tim_keeps (hm.mono (by rfl)) ?_
    exact hs
  clear_value x3
  refine queueOffset_keeps (hm.mono (by rfl)) ?_
  exact hx3

theorem ptpFollowUp_keeps {s : State} {m : PtpMsg} (hm : Sub
    0x18400000000000410000800000000000000000000000000000000000000000000000000000000000000000000000000000000000000000000000000000000000000044000 M) (hs : Keeps M s0 s) :
    Keeps M s0 (State.ptpFollowUp s m) := by
  unfold State.ptpFollowUp
  apply keeps_ite
  · apply keeps_ite
    · split
      · apply keeps_ite
        · refine peerSample_keeps (hm.mono (by rfl)) ?_
          exact hs
        · exact hs
      · exact hs
    · split
      · exact hs
      · apply keeps_ite
        · refine syncComplete_keeps (hm.mono (by rfl)) ?_
          exact hs
        · exact hs
  · exact hs

theorem ptpPdelayReq_keeps {s : State} {m : PtpMsg} (hm : Sub
    0x100000000000000000000000000000000000000000000000000000000000000000000000000000000000000000000000000000000000000004 M)
    (hs : Keeps M s0 s) :
    Keeps M s0 (State.ptpPdelayReq s m) := by
  unfold State.ptpPdelayReq
  apply keeps_ite
  · extract_lets +onlyGivenNames x1
    clear_value x1
    extract_lets +onlyGivenNames x2
    clear_value x2
    apply keeps_ite
    · refine sendPtp_keeps (hm.mono (by rfl)) ?_
      refine sendPtp_keeps (hm.mono (by rfl)) ?_
      exact hs
    · refine sendPtp_keeps (hm.mono (by rfl)) ?_
      exact hs
  · exact hs

theorem ptpSync_keeps {s : State} {m : PtpMsg} (hm : Sub 0x40000 M) (hs : Keeps M s0 s) :
    Keeps M s0 (State.ptpSync s m) := by
  unfold State.ptpSync
  apply keeps_ite
  · apply keeps_ite
    · refine upd_tim_keeps (hm.mono (by rfl)) ?_
      exact hs
    · refine syncComplete_keeps (hm.mono (by rfl)) ?_
      exact hs
  · exact hs

theorem railSample_keeps {s : State} {r : Nat} {mv : Nat} (hm : Sub
    0x92A0000184000000800100000000000000038002000000000000000000000000000000000000000000000000000000000000000000000000000000000000000000000200001B4200 M) (hs : Keeps M s0 s) :
    Keeps M s0 (State.railSample s r mv) := by
  unfold State.railSample
  extract_lets +onlyGivenNames x1
  clear_value x1
  extract_lets +onlyGivenNames x2
  clear_value x2
  extract_lets +onlyGivenNames x3
  clear_value x3
  extract_lets +onlyGivenNames x4
  clear_value x4
  extract_lets +onlyGivenNames x5
  clear_value x5
  extract_lets +onlyGivenNames x6
  have hx6 : Keeps M s0 x6 := by
    subst x6
    refine upd_thm_keeps (hm.mono (by rfl)) ?_
    exact hs
  clear_value x6
  extract_lets +onlyGivenNames x7
  have hx7 : Keeps M s0 x7 := by
    subst x7
    refine put_keeps (hm.at .PWR_RAIL (by rfl)) ?_
    exact hx6
  clear_value x7
  extract_lets +onlyGivenNames x8
  subst x8
  extract_lets +onlyGivenNames x9
  have hx9 : Keeps M s0 x9 := by
    subst x9
    apply keeps_ite
    · refine put_keeps (hm.at .PWR_STATUS (by rfl)) ?_
      refine upd_pwr_keeps (hm.mono (by rfl)) (.inr rfl) (.inr rfl) (.inr rfl) (.inr rfl) ?_
      exact hx7
    · exact hx7
  clear_value x9
  apply keeps_ite
  · refine fault_keeps (hm.mono (by rfl)) ?_
    refine count_keeps (hm.at .PWR_RAIL_CNT (by rfl)) ?_
    refine raise_keeps (hm.mono (by rfl)) (hm.at .PWR_EVENT (by rfl)) ?_
    refine put_keeps (hm.at .PWR_RAIL (by rfl)) ?_
    exact hx9
  · apply keeps_ite
    · refine put_keeps (hm.at .PWR_RAIL (by rfl)) ?_
      exact hx9
    · exact hx9

theorem recoverSensor_keeps {s : State} {i : Nat} (hm : Sub
    0xA000000000000000000000000000000000000000000000000000000000000000000000000000000000000000000000000000000000000000000000000000000000000000000 M) (hs : Keeps M s0 s) :
    Keeps M s0 (State.recoverSensor s i) := by
  unfold State.recoverSensor
  apply keeps_ite
  · extract_lets +onlyGivenNames x1
    have hx1 : Keeps M s0 x1 := by
      subst x1
      refine put_keeps (hm.at .THM_TS (by rfl)) ?_
      refine put_keeps (hm.at .THM_TS (by rfl)) ?_
      exact hs
    clear_value x1
    extract_lets +onlyGivenNames x2
    have hx2 : Keeps M s0 x2 := by
      subst x2
      refine put_keeps (hm.at .THM_BROKEN (by rfl)) ?_
      exact hx1
    clear_value x2
    refine put_keeps (hm.at .THM_TS (by rfl)) ?_
    exact hx2
  · exact hs

theorem resetLow_keeps {s : State} (hm : Sub
    0x7FFFFFFFFFFFFFFFFFFFFFFFFFFFFFFFFFFFFFFFFFFFFFFFFFFFFFFFFFFFFFFFFFFFFFFFFFFFFFFFFFFFFFFFFFFFFFFFFFFFFFFFFFFFFFFFFFFFFFFFFFFFFFFFFFFFFFFFCBFFFFFFFAFC M) (hs : Keeps M s0 s) :
    Keeps M s0 (State.resetLow s) := by
  unfold State.resetLow
  extract_lets +onlyGivenNames x1
  have hx1 : Keeps M s0 x1 := by
    subst x1
    refine cutWrite_keeps (hm.mono (by rfl)) ?_
    refine freeze_keeps (hm.mono (by rfl)) ?_
    exact hs
  clear_value x1
  extract_lets +onlyGivenNames x2
  subst x2
  extract_lets +onlyGivenNames x3
  have hx3 : Keeps M s0 x3 := by
    subst x3
    refine upd_pwr_keeps (hm.mono (by rfl)) (.inr rfl) (.inr rfl) (.inr rfl) (.inr rfl) ?_
    exact hx1
  clear_value x3
  refine blocksReset_keeps (hm.mono (by rfl)) ?_
  exact hx3

theorem testCounts_keeps {s : State} {i : Nat} {raw : Nat} {t : Int} (hm : Sub 0x10000 M) (hs : Keeps M s0 s) :
    Keeps M s0 (State.testCounts s i raw t) := by
  unfold State.testCounts
  extract_lets +onlyGivenNames x1
  clear_value x1
  extract_lets +onlyGivenNames x2
  clear_value x2
  extract_lets +onlyGivenNames x3
  clear_value x3
  extract_lets +onlyGivenNames x4
  clear_value x4
  refine setSensor_keeps (hm.mono (by rfl)) ?_
  exact hs

theorem sampleSensor_keeps {s : State} {i : Nat} {raw : Nat} (hm : Sub
    0x10E418400000000000000000000000000000000000000000000000000000000000000000000000000000000000000000000000000000000000000000000000000000000014000 M) (hs : Keeps M s0 s) :
    Keeps M s0 (State.sampleSensor s i raw) := by
  unfold State.sampleSensor
  extract_lets +onlyGivenNames x1
  clear_value x1
  extract_lets +onlyGivenNames x2
  have hx2 : Keeps M s0 x2 := by
    subst x2
    refine testCounts_keeps (hm.mono (by rfl)) ?_
    exact hs
  clear_value x2
  extract_lets +onlyGivenNames x3
  clear_value x3
  extract_lets +onlyGivenNames x4
  clear_value x4
  extract_lets +onlyGivenNames x5
  have hx5 : Keeps M s0 x5 := by
    subst x5
    apply keeps_ite
    · refine breakSensor_keeps (hm.mono (by rfl)) ?_
      exact hx2
    · apply keeps_ite
      · refine setSensor_keeps (hm.mono (by rfl)) ?_
        exact hx2
      · exact hx2
  clear_value x5
  extract_lets +onlyGivenNames x6
  clear_value x6
  extract_lets +onlyGivenNames x7
  have hx7 : Keeps M s0 x7 := by
    subst x7
    apply keeps_ite
    · refine put_keeps (hm.at .THM_TS (by rfl)) ?_
      exact hx5
    · exact hx5
  clear_value x7
  extract_lets +onlyGivenNames x8
  have hx8 : Keeps M s0 x8 := by
    subst x8
    refine put_keeps (hm.at .THM_TS (by rfl)) ?_
    exact hx7
  clear_value x8
  refine fastStep_keeps (hm.mono (by rfl)) ?_
  refine flagsStep_keeps (hm.mono (by rfl)) ?_
  exact hx8

theorem stepTime_keeps {s : State} {d : Int} (hm : Sub
    0x18400000000000200000C00000000000000000000000000000000000000000000000000000000000000000000000000000000000000000000000000000000000000044000 M) (hs : Keeps M s0 s) :
    Keeps M s0 (State.stepTime s d) := by
  unfold State.stepTime
  refine stepped_keeps (hm.mono (by rfl)) ?_
  refine addTime_keeps (hm.mono (by rfl)) ?_
  exact hs

theorem setInteg_keeps {s : State} {a : Int} (hm : Sub
    0x3000000000000000000000000000000000000000000000000000000000000000000000000000000000000000000000000000000000000000000000000 M) (hs : Keeps M s0 s) :
    Keeps M s0 (State.setInteg s a) := by
  unfold State.setInteg
  refine setPair_keeps (hm.at .TIM_INTEG_L (by rfl)) (hm.at .TIM_INTEG_H (by rfl)) ?_
  exact hs

theorem servo_keeps {s : State} {theta : Int} (hm : Sub
    0x18400000000000203C00C00000000000000000000000000000000000000000000000000000000000000000000000000000000000000000000000000000000000000044000 M) (hs : Keeps M s0 s) :
    Keeps M s0 (State.servo s theta) := by
  unfold State.servo
  extract_lets +onlyGivenNames x1
  clear_value x1
  apply keeps_ite
  · extract_lets +onlyGivenNames x2
    have hx2 : Keeps M s0 x2 := by
      subst x2
      refine stepTime_keeps (hm.mono (by rfl)) ?_
      exact hs
    clear_value x2
    refine setAdj_keeps (hm.mono (by rfl)) ?_
    exact hx2
  · extract_lets +onlyGivenNames x3
    clear_value x3
    extract_lets +onlyGivenNames x4
    clear_value x4
    refine setAdj_keeps (hm.mono (by rfl)) ?_
    refine setInteg_keeps (hm.mono (by rfl)) ?_
    exact hs

theorem takeOffset_keeps {s : State} {theta : Int} (hm : Sub
    0x1840000000000070FC00C00000000000000000000000000000000000000000000000000000000000000000000000000000000000000000000000000000000000000044000 M) (hs : Keeps M s0 s) :
    Keeps M s0 (State.takeOffset s theta) := by
  unfold State.takeOffset
  apply keeps_ite
  · refine timReject_keeps (hm.mono (by rfl)) ?_
    exact hs
  · extract_lets +onlyGivenNames x1
    clear_value x1
    extract_lets +onlyGivenNames x2
    have hx2 : Keeps M s0 x2 := by
      subst x2
      refine upd_tim_keeps (hm.mono (by rfl)) ?_
      exact hs
    clear_value x2
    extract_lets +onlyGivenNames x3
    have hx3 : Keeps M s0 x3 := by
      subst x3
      refine count_keeps (hm.at .TIM_OFS_CNT (by rfl)) ?_
      exact hx2
    clear_value x3
    extract_lets +onlyGivenNames x4
    clear_value x4
    extract_lets +onlyGivenNames x5
    have hx5 : Keeps M s0 x5 := by
      subst x5
      refine wr_keeps (hm.at .TIM_OFS_HI (by rfl)) ?_
      refine wr_keeps (hm.at .TIM_OFS_LO (by rfl)) ?_
      exact hx3
    clear_value x5
    extract_lets +onlyGivenNames x6
    have hx6 : Keeps M s0 x6 := by
      subst x6
      refine put_keeps (hm.at .TIM_STATUS (by rfl)) ?_
      exact hx5
    clear_value x6
    extract_lets +onlyGivenNames x7
    have hx7 : Keeps M s0 x7 := by
      subst x7
      refine put_keeps (hm.at .TIM_STATUS (by rfl)) ?_
      exact hx6
    clear_value x7
    refine servo_keeps (hm.mono (by rfl)) ?_
    refine lockStep_keeps (hm.mono (by rfl)) ?_
    exact hx7

theorem servoOffset_keeps {s : State} (hm : Sub
    0x1840000000000070FC00C00000000000000000000000000000000000000000000000000000000000000000000000000000000000000000000000000000000000000044000 M) (hs : Keeps M s0 s) :
    Keeps M s0 (State.servoOffset s) := by
  unfold State.servoOffset
  split
  · exact hs
  · extract_lets +onlyGivenNames x1
    clear_value x1
    extract_lets +onlyGivenNames x2
    have hx2 : Keeps M s0 x2 := by
      subst x2
      refine upd_tim_keeps (hm.mono (by rfl)) ?_
      exact hs
    clear_value x2
    apply keeps_ite
    · exact hx2
    · refine takeOffset_keeps (hm.mono (by rfl)) ?_
      exact hx2

end Sys2Proof.Machine
end

