-- ==== Sys2Proof/Laws/State.lean ====
section
/-! SUPPORT. Laws/State.lean: what the operations that store leave of every other field of the state, and reading a register
or a field after a write. -/

namespace Sys2Proof.Machine

variable {s : State}

/-! ### One lemma for each field and each operation that stores -/

@[simp] theorem wr_clk (r : Reg) (i : Nat) (w : Word) : (s.wr r i w).clk = s.clk := rfl
@[simp] theorem wr_free (r : Reg) (i : Nat) (w : Word) : (s.wr r i w).free = s.free := rfl
@[simp] theorem wr_pending (r : Reg) (i : Nat) (w : Word) : (s.wr r i w).pending = s.pending := rfl
@[simp] theorem wr_wire (r : Reg) (i : Nat) (w : Word) : (s.wr r i w).wire = s.wire := rfl
@[simp] theorem wr_busData (r : Reg) (i : Nat) (w : Word) : (s.wr r i w).busData = s.busData := rfl
@[simp] theorem wr_work (r : Reg) (i : Nat) (w : Word) : (s.wr r i w).work = s.work := rfl
@[simp] theorem wr_snaps (r : Reg) (i : Nat) (w : Word) : (s.wr r i w).snaps = s.snaps := rfl
@[simp] theorem wr_stages (r : Reg) (i : Nat) (w : Word) : (s.wr r i w).stages = s.stages := rfl
@[simp] theorem wr_tables (r : Reg) (i : Nat) (w : Word) : (s.wr r i w).tables = s.tables := rfl
@[simp] theorem wr_dram (r : Reg) (i : Nat) (w : Word) : (s.wr r i w).dram = s.dram := rfl
@[simp] theorem wr_seqs (r : Reg) (i : Nat) (w : Word) : (s.wr r i w).seqs = s.seqs := rfl
@[simp] theorem wr_stripLen (r : Reg) (i : Nat) (w : Word) : (s.wr r i w).stripLen = s.stripLen := rfl
@[simp] theorem wr_crossed (r : Reg) (i : Nat) (w : Word) : (s.wr r i w).crossed = s.crossed := rfl
@[simp] theorem wr_glb (r : Reg) (i : Nat) (w : Word) : (s.wr r i w).glb = s.glb := rfl
@[simp] theorem wr_sec (r : Reg) (i : Nat) (w : Word) : (s.wr r i w).sec = s.sec := rfl
@[simp] theorem wr_evt (r : Reg) (i : Nat) (w : Word) : (s.wr r i w).evt = s.evt := rfl
@[simp] theorem wr_pmc (r : Reg) (i : Nat) (w : Word) : (s.wr r i w).pmc = s.pmc := rfl
@[simp] theorem wr_thm (r : Reg) (i : Nat) (w : Word) : (s.wr r i w).thm = s.thm := rfl
@[simp] theorem wr_pwr (r : Reg) (i : Nat) (w : Word) : (s.wr r i w).pwr = s.pwr := rfl
@[simp] theorem wr_tim (r : Reg) (i : Nat) (w : Word) : (s.wr r i w).tim = s.tim := rfl
@[simp] theorem wr_hst (r : Reg) (i : Nat) (w : Word) : (s.wr r i w).hst = s.hst := rfl
@[simp] theorem wr_fab (r : Reg) (i : Nat) (w : Word) : (s.wr r i w).fab = s.fab := rfl
@[simp] theorem wr_gaps (r : Reg) (i : Nat) (w : Word) : (s.wr r i w).gaps = s.gaps := rfl
@[simp] theorem wr_cam (r : Reg) (i : Nat) (w : Word) : (s.wr r i w).cam = s.cam := rfl
@[simp] theorem wr_cor (r : Reg) (i : Nat) (w : Word) : (s.wr r i w).cor = s.cor := rfl
@[simp] theorem wr_awf (r : Reg) (i : Nat) (w : Word) : (s.wr r i w).awf = s.awf := rfl
@[simp] theorem wr_seg (r : Reg) (i : Nat) (w : Word) : (s.wr r i w).seg = s.seg := rfl
@[simp] theorem wr_sti (r : Reg) (i : Nat) (w : Word) : (s.wr r i w).sti = s.sti := rfl
@[simp] theorem wr_lne (r : Reg) (i : Nat) (w : Word) : (s.wr r i w).lne = s.lne := rfl
@[simp] theorem wr_pos (r : Reg) (i : Nat) (w : Word) : (s.wr r i w).pos = s.pos := rfl
@[simp] theorem wr_mem (r : Reg) (i : Nat) (w : Word) : (s.wr r i w).mem = s.mem := rfl
@[simp] theorem wr_arc (r : Reg) (i : Nat) (w : Word) : (s.wr r i w).arc = s.arc := rfl
@[simp] theorem wr_dma (r : Reg) (i : Nat) (w : Word) : (s.wr r i w).dma = s.dma := rfl
@[simp] theorem wr_mrk (r : Reg) (i : Nat) (w : Word) : (s.wr r i w).mrk = s.mrk := rfl

@[simp] theorem put_clk (f : Fld) (i v : Nat) : (s.put f i v).clk = s.clk := rfl
@[simp] theorem put_free (f : Fld) (i v : Nat) : (s.put f i v).free = s.free := rfl
@[simp] theorem put_pending (f : Fld) (i v : Nat) : (s.put f i v).pending = s.pending := rfl
@[simp] theorem put_wire (f : Fld) (i v : Nat) : (s.put f i v).wire = s.wire := rfl
@[simp] theorem put_busData (f : Fld) (i v : Nat) : (s.put f i v).busData = s.busData := rfl
@[simp] theorem put_work (f : Fld) (i v : Nat) : (s.put f i v).work = s.work := rfl
@[simp] theorem put_snaps (f : Fld) (i v : Nat) : (s.put f i v).snaps = s.snaps := rfl
@[simp] theorem put_stages (f : Fld) (i v : Nat) : (s.put f i v).stages = s.stages := rfl
@[simp] theorem put_tables (f : Fld) (i v : Nat) : (s.put f i v).tables = s.tables := rfl
@[simp] theorem put_dram (f : Fld) (i v : Nat) : (s.put f i v).dram = s.dram := rfl
@[simp] theorem put_seqs (f : Fld) (i v : Nat) : (s.put f i v).seqs = s.seqs := rfl
@[simp] theorem put_stripLen (f : Fld) (i v : Nat) : (s.put f i v).stripLen = s.stripLen := rfl
@[simp] theorem put_crossed (f : Fld) (i v : Nat) : (s.put f i v).crossed = s.crossed := rfl
@[simp] theorem put_glb (f : Fld) (i v : Nat) : (s.put f i v).glb = s.glb := rfl
@[simp] theorem put_sec (f : Fld) (i v : Nat) : (s.put f i v).sec = s.sec := rfl
@[simp] theorem put_evt (f : Fld) (i v : Nat) : (s.put f i v).evt = s.evt := rfl
@[simp] theorem put_pmc (f : Fld) (i v : Nat) : (s.put f i v).pmc = s.pmc := rfl
@[simp] theorem put_thm (f : Fld) (i v : Nat) : (s.put f i v).thm = s.thm := rfl
@[simp] theorem put_pwr (f : Fld) (i v : Nat) : (s.put f i v).pwr = s.pwr := rfl
@[simp] theorem put_tim (f : Fld) (i v : Nat) : (s.put f i v).tim = s.tim := rfl
@[simp] theorem put_hst (f : Fld) (i v : Nat) : (s.put f i v).hst = s.hst := rfl
@[simp] theorem put_fab (f : Fld) (i v : Nat) : (s.put f i v).fab = s.fab := rfl
@[simp] theorem put_gaps (f : Fld) (i v : Nat) : (s.put f i v).gaps = s.gaps := rfl
@[simp] theorem put_cam (f : Fld) (i v : Nat) : (s.put f i v).cam = s.cam := rfl
@[simp] theorem put_cor (f : Fld) (i v : Nat) : (s.put f i v).cor = s.cor := rfl
@[simp] theorem put_awf (f : Fld) (i v : Nat) : (s.put f i v).awf = s.awf := rfl
@[simp] theorem put_seg (f : Fld) (i v : Nat) : (s.put f i v).seg = s.seg := rfl
@[simp] theorem put_sti (f : Fld) (i v : Nat) : (s.put f i v).sti = s.sti := rfl
@[simp] theorem put_lne (f : Fld) (i v : Nat) : (s.put f i v).lne = s.lne := rfl
@[simp] theorem put_pos (f : Fld) (i v : Nat) : (s.put f i v).pos = s.pos := rfl
@[simp] theorem put_mem (f : Fld) (i v : Nat) : (s.put f i v).mem = s.mem := rfl
@[simp] theorem put_arc (f : Fld) (i v : Nat) : (s.put f i v).arc = s.arc := rfl
@[simp] theorem put_dma (f : Fld) (i v : Nat) : (s.put f i v).dma = s.dma := rfl
@[simp] theorem put_mrk (f : Fld) (i v : Nat) : (s.put f i v).mrk = s.mrk := rfl

@[simp] theorem putB_clk (f : Fld) (i : Nat) (b : Bool) : (s.putB f i b).clk = s.clk := rfl
@[simp] theorem putB_free (f : Fld) (i : Nat) (b : Bool) : (s.putB f i b).free = s.free := rfl
@[simp] theorem putB_pending (f : Fld) (i : Nat) (b : Bool) : (s.putB f i b).pending = s.pending := rfl
@[simp] theorem putB_wire (f : Fld) (i : Nat) (b : Bool) : (s.putB f i b).wire = s.wire := rfl
@[simp] theorem putB_busData (f : Fld) (i : Nat) (b : Bool) : (s.putB f i b).busData = s.busData := rfl
@[simp] theorem putB_work (f : Fld) (i : Nat) (b : Bool) : (s.putB f i b).work = s.work := rfl
@[simp] theorem putB_snaps (f : Fld) (i : Nat) (b : Bool) : (s.putB f i b).snaps = s.snaps := rfl
@[simp] theorem putB_stages (f : Fld) (i : Nat) (b : Bool) : (s.putB f i b).stages = s.stages := rfl
@[simp] theorem putB_tables (f : Fld) (i : Nat) (b : Bool) : (s.putB f i b).tables = s.tables := rfl
@[simp] theorem putB_dram (f : Fld) (i : Nat) (b : Bool) : (s.putB f i b).dram = s.dram := rfl
@[simp] theorem putB_seqs (f : Fld) (i : Nat) (b : Bool) : (s.putB f i b).seqs = s.seqs := rfl
@[simp] theorem putB_stripLen (f : Fld) (i : Nat) (b : Bool) : (s.putB f i b).stripLen = s.stripLen := rfl
@[simp] theorem putB_crossed (f : Fld) (i : Nat) (b : Bool) : (s.putB f i b).crossed = s.crossed := rfl
@[simp] theorem putB_glb (f : Fld) (i : Nat) (b : Bool) : (s.putB f i b).glb = s.glb := rfl
@[simp] theorem putB_sec (f : Fld) (i : Nat) (b : Bool) : (s.putB f i b).sec = s.sec := rfl
@[simp] theorem putB_evt (f : Fld) (i : Nat) (b : Bool) : (s.putB f i b).evt = s.evt := rfl
@[simp] theorem putB_pmc (f : Fld) (i : Nat) (b : Bool) : (s.putB f i b).pmc = s.pmc := rfl
@[simp] theorem putB_thm (f : Fld) (i : Nat) (b : Bool) : (s.putB f i b).thm = s.thm := rfl
@[simp] theorem putB_pwr (f : Fld) (i : Nat) (b : Bool) : (s.putB f i b).pwr = s.pwr := rfl
@[simp] theorem putB_tim (f : Fld) (i : Nat) (b : Bool) : (s.putB f i b).tim = s.tim := rfl
@[simp] theorem putB_hst (f : Fld) (i : Nat) (b : Bool) : (s.putB f i b).hst = s.hst := rfl
@[simp] theorem putB_fab (f : Fld) (i : Nat) (b : Bool) : (s.putB f i b).fab = s.fab := rfl
@[simp] theorem putB_gaps (f : Fld) (i : Nat) (b : Bool) : (s.putB f i b).gaps = s.gaps := rfl
@[simp] theorem putB_cam (f : Fld) (i : Nat) (b : Bool) : (s.putB f i b).cam = s.cam := rfl
@[simp] theorem putB_cor (f : Fld) (i : Nat) (b : Bool) : (s.putB f i b).cor = s.cor := rfl
@[simp] theorem putB_awf (f : Fld) (i : Nat) (b : Bool) : (s.putB f i b).awf = s.awf := rfl
@[simp] theorem putB_seg (f : Fld) (i : Nat) (b : Bool) : (s.putB f i b).seg = s.seg := rfl
@[simp] theorem putB_sti (f : Fld) (i : Nat) (b : Bool) : (s.putB f i b).sti = s.sti := rfl
@[simp] theorem putB_lne (f : Fld) (i : Nat) (b : Bool) : (s.putB f i b).lne = s.lne := rfl
@[simp] theorem putB_pos (f : Fld) (i : Nat) (b : Bool) : (s.putB f i b).pos = s.pos := rfl
@[simp] theorem putB_mem (f : Fld) (i : Nat) (b : Bool) : (s.putB f i b).mem = s.mem := rfl
@[simp] theorem putB_arc (f : Fld) (i : Nat) (b : Bool) : (s.putB f i b).arc = s.arc := rfl
@[simp] theorem putB_dma (f : Fld) (i : Nat) (b : Bool) : (s.putB f i b).dma = s.dma := rfl
@[simp] theorem putB_mrk (f : Fld) (i : Nat) (b : Bool) : (s.putB f i b).mrk = s.mrk := rfl

@[simp] theorem count_clk (r : Reg) (i n : Nat) : (s.count r i n).clk = s.clk := rfl
@[simp] theorem count_free (r : Reg) (i n : Nat) : (s.count r i n).free = s.free := rfl
@[simp] theorem count_pending (r : Reg) (i n : Nat) : (s.count r i n).pending = s.pending := rfl
@[simp] theorem count_wire (r : Reg) (i n : Nat) : (s.count r i n).wire = s.wire := rfl
@[simp] theorem count_busData (r : Reg) (i n : Nat) : (s.count r i n).busData = s.busData := rfl
@[simp] theorem count_work (r : Reg) (i n : Nat) : (s.count r i n).work = s.work := rfl
@[simp] theorem count_snaps (r : Reg) (i n : Nat) : (s.count r i n).snaps = s.snaps := rfl
@[simp] theorem count_stages (r : Reg) (i n : Nat) : (s.count r i n).stages = s.stages := rfl
@[simp] theorem count_tables (r : Reg) (i n : Nat) : (s.count r i n).tables = s.tables := rfl
@[simp] theorem count_dram (r : Reg) (i n : Nat) : (s.count r i n).dram = s.dram := rfl
@[simp] theorem count_seqs (r : Reg) (i n : Nat) : (s.count r i n).seqs = s.seqs := rfl
@[simp] theorem count_stripLen (r : Reg) (i n : Nat) : (s.count r i n).stripLen = s.stripLen := rfl
@[simp] theorem count_crossed (r : Reg) (i n : Nat) : (s.count r i n).crossed = s.crossed := rfl
@[simp] theorem count_glb (r : Reg) (i n : Nat) : (s.count r i n).glb = s.glb := rfl
@[simp] theorem count_sec (r : Reg) (i n : Nat) : (s.count r i n).sec = s.sec := rfl
@[simp] theorem count_evt (r : Reg) (i n : Nat) : (s.count r i n).evt = s.evt := rfl
@[simp] theorem count_pmc (r : Reg) (i n : Nat) : (s.count r i n).pmc = s.pmc := rfl
@[simp] theorem count_thm (r : Reg) (i n : Nat) : (s.count r i n).thm = s.thm := rfl
@[simp] theorem count_pwr (r : Reg) (i n : Nat) : (s.count r i n).pwr = s.pwr := rfl
@[simp] theorem count_tim (r : Reg) (i n : Nat) : (s.count r i n).tim = s.tim := rfl
@[simp] theorem count_hst (r : Reg) (i n : Nat) : (s.count r i n).hst = s.hst := rfl
@[simp] theorem count_fab (r : Reg) (i n : Nat) : (s.count r i n).fab = s.fab := rfl
@[simp] theorem count_gaps (r : Reg) (i n : Nat) : (s.count r i n).gaps = s.gaps := rfl
@[simp] theorem count_cam (r : Reg) (i n : Nat) : (s.count r i n).cam = s.cam := rfl
@[simp] theorem count_cor (r : Reg) (i n : Nat) : (s.count r i n).cor = s.cor := rfl
@[simp] theorem count_awf (r : Reg) (i n : Nat) : (s.count r i n).awf = s.awf := rfl
@[simp] theorem count_seg (r : Reg) (i n : Nat) : (s.count r i n).seg = s.seg := rfl
@[simp] theorem count_sti (r : Reg) (i n : Nat) : (s.count r i n).sti = s.sti := rfl
@[simp] theorem count_lne (r : Reg) (i n : Nat) : (s.count r i n).lne = s.lne := rfl
@[simp] theorem count_pos (r : Reg) (i n : Nat) : (s.count r i n).pos = s.pos := rfl
@[simp] theorem count_mem (r : Reg) (i n : Nat) : (s.count r i n).mem = s.mem := rfl
@[simp] theorem count_arc (r : Reg) (i n : Nat) : (s.count r i n).arc = s.arc := rfl
@[simp] theorem count_dma (r : Reg) (i n : Nat) : (s.count r i n).dma = s.dma := rfl
@[simp] theorem count_mrk (r : Reg) (i n : Nat) : (s.count r i n).mrk = s.mrk := rfl

@[simp] theorem setPair_clk (lo hi : Reg) (i w v : Nat) : (s.setPair lo hi i w v).clk = s.clk := rfl
@[simp] theorem setPair_free (lo hi : Reg) (i w v : Nat) : (s.setPair lo hi i w v).free = s.free := rfl
@[simp] theorem setPair_pending (lo hi : Reg) (i w v : Nat) : (s.setPair lo hi i w v).pending = s.pending := rfl
@[simp] theorem setPair_wire (lo hi : Reg) (i w v : Nat) : (s.setPair lo hi i w v).wire = s.wire := rfl
@[simp] theorem setPair_busData (lo hi : Reg) (i w v : Nat) : (s.setPair lo hi i w v).busData = s.busData := rfl
@[simp] theorem setPair_work (lo hi : Reg) (i w v : Nat) : (s.setPair lo hi i w v).work = s.work := rfl
@[simp] theorem setPair_snaps (lo hi : Reg) (i w v : Nat) : (s.setPair lo hi i w v).snaps = s.snaps := rfl
@[simp] theorem setPair_stages (lo hi : Reg) (i w v : Nat) : (s.setPair lo hi i w v).stages = s.stages := rfl
@[simp] theorem setPair_tables (lo hi : Reg) (i w v : Nat) : (s.setPair lo hi i w v).tables = s.tables := rfl
@[simp] theorem setPair_dram (lo hi : Reg) (i w v : Nat) : (s.setPair lo hi i w v).dram = s.dram := rfl
@[simp] theorem setPair_seqs (lo hi : Reg) (i w v : Nat) : (s.setPair lo hi i w v).seqs = s.seqs := rfl
@[simp] theorem setPair_stripLen (lo hi : Reg) (i w v : Nat) : (s.setPair lo hi i w v).stripLen = s.stripLen := rfl
@[simp] theorem setPair_crossed (lo hi : Reg) (i w v : Nat) : (s.setPair lo hi i w v).crossed = s.crossed := rfl
@[simp] theorem setPair_glb (lo hi : Reg) (i w v : Nat) : (s.setPair lo hi i w v).glb = s.glb := rfl
@[simp] theorem setPair_sec (lo hi : Reg) (i w v : Nat) : (s.setPair lo hi i w v).sec = s.sec := rfl
@[simp] theorem setPair_evt (lo hi : Reg) (i w v : Nat) : (s.setPair lo hi i w v).evt = s.evt := rfl
@[simp] theorem setPair_pmc (lo hi : Reg) (i w v : Nat) : (s.setPair lo hi i w v).pmc = s.pmc := rfl
@[simp] theorem setPair_thm (lo hi : Reg) (i w v : Nat) : (s.setPair lo hi i w v).thm = s.thm := rfl
@[simp] theorem setPair_pwr (lo hi : Reg) (i w v : Nat) : (s.setPair lo hi i w v).pwr = s.pwr := rfl
@[simp] theorem setPair_tim (lo hi : Reg) (i w v : Nat) : (s.setPair lo hi i w v).tim = s.tim := rfl
@[simp] theorem setPair_hst (lo hi : Reg) (i w v : Nat) : (s.setPair lo hi i w v).hst = s.hst := rfl
@[simp] theorem setPair_fab (lo hi : Reg) (i w v : Nat) : (s.setPair lo hi i w v).fab = s.fab := rfl
@[simp] theorem setPair_gaps (lo hi : Reg) (i w v : Nat) : (s.setPair lo hi i w v).gaps = s.gaps := rfl
@[simp] theorem setPair_cam (lo hi : Reg) (i w v : Nat) : (s.setPair lo hi i w v).cam = s.cam := rfl
@[simp] theorem setPair_cor (lo hi : Reg) (i w v : Nat) : (s.setPair lo hi i w v).cor = s.cor := rfl
@[simp] theorem setPair_awf (lo hi : Reg) (i w v : Nat) : (s.setPair lo hi i w v).awf = s.awf := rfl
@[simp] theorem setPair_seg (lo hi : Reg) (i w v : Nat) : (s.setPair lo hi i w v).seg = s.seg := rfl
@[simp] theorem setPair_sti (lo hi : Reg) (i w v : Nat) : (s.setPair lo hi i w v).sti = s.sti := rfl
@[simp] theorem setPair_lne (lo hi : Reg) (i w v : Nat) : (s.setPair lo hi i w v).lne = s.lne := rfl
@[simp] theorem setPair_pos (lo hi : Reg) (i w v : Nat) : (s.setPair lo hi i w v).pos = s.pos := rfl
@[simp] theorem setPair_mem (lo hi : Reg) (i w v : Nat) : (s.setPair lo hi i w v).mem = s.mem := rfl
@[simp] theorem setPair_arc (lo hi : Reg) (i w v : Nat) : (s.setPair lo hi i w v).arc = s.arc := rfl
@[simp] theorem setPair_dma (lo hi : Reg) (i w v : Nat) : (s.setPair lo hi i w v).dma = s.dma := rfl
@[simp] theorem setPair_mrk (lo hi : Reg) (i w v : Nat) : (s.setPair lo hi i w v).mrk = s.mrk := rfl

@[simp] theorem latch_clk (r : Reg) (i : Nat) : (s.latch r i).clk = s.clk := rfl
@[simp] theorem latch_free (r : Reg) (i : Nat) : (s.latch r i).free = s.free := rfl
@[simp] theorem latch_pending (r : Reg) (i : Nat) : (s.latch r i).pending = s.pending := rfl
@[simp] theorem latch_wire (r : Reg) (i : Nat) : (s.latch r i).wire = s.wire := rfl
@[simp] theorem latch_busData (r : Reg) (i : Nat) : (s.latch r i).busData = s.busData := rfl
@[simp] theorem latch_regs (r : Reg) (i : Nat) : (s.latch r i).regs = s.regs := rfl
@[simp] theorem latch_snaps (r : Reg) (i : Nat) : (s.latch r i).snaps = s.snaps := rfl
@[simp] theorem latch_stages (r : Reg) (i : Nat) : (s.latch r i).stages = s.stages := rfl
@[simp] theorem latch_tables (r : Reg) (i : Nat) : (s.latch r i).tables = s.tables := rfl
@[simp] theorem latch_dram (r : Reg) (i : Nat) : (s.latch r i).dram = s.dram := rfl
@[simp] theorem latch_seqs (r : Reg) (i : Nat) : (s.latch r i).seqs = s.seqs := rfl
@[simp] theorem latch_stripLen (r : Reg) (i : Nat) : (s.latch r i).stripLen = s.stripLen := rfl
@[simp] theorem latch_crossed (r : Reg) (i : Nat) : (s.latch r i).crossed = s.crossed := rfl
@[simp] theorem latch_glb (r : Reg) (i : Nat) : (s.latch r i).glb = s.glb := rfl
@[simp] theorem latch_sec (r : Reg) (i : Nat) : (s.latch r i).sec = s.sec := rfl
@[simp] theorem latch_evt (r : Reg) (i : Nat) : (s.latch r i).evt = s.evt := rfl
@[simp] theorem latch_pmc (r : Reg) (i : Nat) : (s.latch r i).pmc = s.pmc := rfl
@[simp] theorem latch_thm (r : Reg) (i : Nat) : (s.latch r i).thm = s.thm := rfl
@[simp] theorem latch_pwr (r : Reg) (i : Nat) : (s.latch r i).pwr = s.pwr := rfl
@[simp] theorem latch_tim (r : Reg) (i : Nat) : (s.latch r i).tim = s.tim := rfl
@[simp] theorem latch_hst (r : Reg) (i : Nat) : (s.latch r i).hst = s.hst := rfl
@[simp] theorem latch_fab (r : Reg) (i : Nat) : (s.latch r i).fab = s.fab := rfl
@[simp] theorem latch_gaps (r : Reg) (i : Nat) : (s.latch r i).gaps = s.gaps := rfl
@[simp] theorem latch_cam (r : Reg) (i : Nat) : (s.latch r i).cam = s.cam := rfl
@[simp] theorem latch_cor (r : Reg) (i : Nat) : (s.latch r i).cor = s.cor := rfl
@[simp] theorem latch_awf (r : Reg) (i : Nat) : (s.latch r i).awf = s.awf := rfl
@[simp] theorem latch_seg (r : Reg) (i : Nat) : (s.latch r i).seg = s.seg := rfl
@[simp] theorem latch_sti (r : Reg) (i : Nat) : (s.latch r i).sti = s.sti := rfl
@[simp] theorem latch_lne (r : Reg) (i : Nat) : (s.latch r i).lne = s.lne := rfl
@[simp] theorem latch_pos (r : Reg) (i : Nat) : (s.latch r i).pos = s.pos := rfl
@[simp] theorem latch_mem (r : Reg) (i : Nat) : (s.latch r i).mem = s.mem := rfl
@[simp] theorem latch_arc (r : Reg) (i : Nat) : (s.latch r i).arc = s.arc := rfl
@[simp] theorem latch_dma (r : Reg) (i : Nat) : (s.latch r i).dma = s.dma := rfl
@[simp] theorem latch_mrk (r : Reg) (i : Nat) : (s.latch r i).mrk = s.mrk := rfl

@[simp] theorem setTab_clk (a : Nat) (w : Word) : (s.setTab a w).clk = s.clk := rfl
@[simp] theorem setTab_free (a : Nat) (w : Word) : (s.setTab a w).free = s.free := rfl
@[simp] theorem setTab_pending (a : Nat) (w : Word) : (s.setTab a w).pending = s.pending := rfl
@[simp] theorem setTab_wire (a : Nat) (w : Word) : (s.setTab a w).wire = s.wire := rfl
@[simp] theorem setTab_busData (a : Nat) (w : Word) : (s.setTab a w).busData = s.busData := rfl
@[simp] theorem setTab_regs (a : Nat) (w : Word) : (s.setTab a w).regs = s.regs := rfl
@[simp] theorem setTab_work (a : Nat) (w : Word) : (s.setTab a w).work = s.work := rfl
@[simp] theorem setTab_snaps (a : Nat) (w : Word) : (s.setTab a w).snaps = s.snaps := rfl
@[simp] theorem setTab_stages (a : Nat) (w : Word) : (s.setTab a w).stages = s.stages := rfl
@[simp] theorem setTab_dram (a : Nat) (w : Word) : (s.setTab a w).dram = s.dram := rfl
@[simp] theorem setTab_seqs (a : Nat) (w : Word) : (s.setTab a w).seqs = s.seqs := rfl
@[simp] theorem setTab_stripLen (a : Nat) (w : Word) : (s.setTab a w).stripLen = s.stripLen := rfl
@[simp] theorem setTab_crossed (a : Nat) (w : Word) : (s.setTab a w).crossed = s.crossed := rfl
@[simp] theorem setTab_glb (a : Nat) (w : Word) : (s.setTab a w).glb = s.glb := rfl
@[simp] theorem setTab_sec (a : Nat) (w : Word) : (s.setTab a w).sec = s.sec := rfl
@[simp] theorem setTab_evt (a : Nat) (w : Word) : (s.setTab a w).evt = s.evt := rfl
@[simp] theorem setTab_pmc (a : Nat) (w : Word) : (s.setTab a w).pmc = s.pmc := rfl
@[simp] theorem setTab_thm (a : Nat) (w : Word) : (s.setTab a w).thm = s.thm := rfl
@[simp] theorem setTab_pwr (a : Nat) (w : Word) : (s.setTab a w).pwr = s.pwr := rfl
@[simp] theorem setTab_tim (a : Nat) (w : Word) : (s.setTab a w).tim = s.tim := rfl
@[simp] theorem setTab_hst (a : Nat) (w : Word) : (s.setTab a w).hst = s.hst := rfl
@[simp] theorem setTab_fab (a : Nat) (w : Word) : (s.setTab a w).fab = s.fab := rfl
@[simp] theorem setTab_gaps (a : Nat) (w : Word) : (s.setTab a w).gaps = s.gaps := rfl
@[simp] theorem setTab_cam (a : Nat) (w : Word) : (s.setTab a w).cam = s.cam := rfl
@[simp] theorem setTab_cor (a : Nat) (w : Word) : (s.setTab a w).cor = s.cor := rfl
@[simp] theorem setTab_awf (a : Nat) (w : Word) : (s.setTab a w).awf = s.awf := rfl
@[simp] theorem setTab_seg (a : Nat) (w : Word) : (s.setTab a w).seg = s.seg := rfl
@[simp] theorem setTab_sti (a : Nat) (w : Word) : (s.setTab a w).sti = s.sti := rfl
@[simp] theorem setTab_lne (a : Nat) (w : Word) : (s.setTab a w).lne = s.lne := rfl
@[simp] theorem setTab_pos (a : Nat) (w : Word) : (s.setTab a w).pos = s.pos := rfl
@[simp] theorem setTab_mem (a : Nat) (w : Word) : (s.setTab a w).mem = s.mem := rfl
@[simp] theorem setTab_arc (a : Nat) (w : Word) : (s.setTab a w).arc = s.arc := rfl
@[simp] theorem setTab_dma (a : Nat) (w : Word) : (s.setTab a w).dma = s.dma := rfl
@[simp] theorem setTab_mrk (a : Nat) (w : Word) : (s.setTab a w).mrk = s.mrk := rfl

@[simp] theorem dramWrite_clk (a : Nat) (bs : List Byte) : (s.dramWrite a bs).clk = s.clk := rfl
@[simp] theorem dramWrite_free (a : Nat) (bs : List Byte) : (s.dramWrite a bs).free = s.free := rfl
@[simp] theorem dramWrite_pending (a : Nat) (bs : List Byte) : (s.dramWrite a bs).pending = s.pending := rfl
@[simp] theorem dramWrite_wire (a : Nat) (bs : List Byte) : (s.dramWrite a bs).wire = s.wire := rfl
@[simp] theorem dramWrite_busData (a : Nat) (bs : List Byte) : (s.dramWrite a bs).busData = s.busData := rfl
@[simp] theorem dramWrite_regs (a : Nat) (bs : List Byte) : (s.dramWrite a bs).regs = s.regs := rfl
@[simp] theorem dramWrite_work (a : Nat) (bs : List Byte) : (s.dramWrite a bs).work = s.work := rfl
@[simp] theorem dramWrite_snaps (a : Nat) (bs : List Byte) : (s.dramWrite a bs).snaps = s.snaps := rfl
@[simp] theorem dramWrite_stages (a : Nat) (bs : List Byte) : (s.dramWrite a bs).stages = s.stages := rfl
@[simp] theorem dramWrite_tables (a : Nat) (bs : List Byte) : (s.dramWrite a bs).tables = s.tables := rfl
@[simp] theorem dramWrite_seqs (a : Nat) (bs : List Byte) : (s.dramWrite a bs).seqs = s.seqs := rfl
@[simp] theorem dramWrite_stripLen (a : Nat) (bs : List Byte) : (s.dramWrite a bs).stripLen = s.stripLen := rfl
@[simp] theorem dramWrite_crossed (a : Nat) (bs : List Byte) : (s.dramWrite a bs).crossed = s.crossed := rfl
@[simp] theorem dramWrite_glb (a : Nat) (bs : List Byte) : (s.dramWrite a bs).glb = s.glb := rfl
@[simp] theorem dramWrite_sec (a : Nat) (bs : List Byte) : (s.dramWrite a bs).sec = s.sec := rfl
@[simp] theorem dramWrite_evt (a : Nat) (bs : List Byte) : (s.dramWrite a bs).evt = s.evt := rfl
@[simp] theorem dramWrite_pmc (a : Nat) (bs : List Byte) : (s.dramWrite a bs).pmc = s.pmc := rfl
@[simp] theorem dramWrite_thm (a : Nat) (bs : List Byte) : (s.dramWrite a bs).thm = s.thm := rfl
@[simp] theorem dramWrite_pwr (a : Nat) (bs : List Byte) : (s.dramWrite a bs).pwr = s.pwr := rfl
@[simp] theorem dramWrite_tim (a : Nat) (bs : List Byte) : (s.dramWrite a bs).tim = s.tim := rfl
@[simp] theorem dramWrite_hst (a : Nat) (bs : List Byte) : (s.dramWrite a bs).hst = s.hst := rfl
@[simp] theorem dramWrite_fab (a : Nat) (bs : List Byte) : (s.dramWrite a bs).fab = s.fab := rfl
@[simp] theorem dramWrite_gaps (a : Nat) (bs : List Byte) : (s.dramWrite a bs).gaps = s.gaps := rfl
@[simp] theorem dramWrite_cam (a : Nat) (bs : List Byte) : (s.dramWrite a bs).cam = s.cam := rfl
@[simp] theorem dramWrite_cor (a : Nat) (bs : List Byte) : (s.dramWrite a bs).cor = s.cor := rfl
@[simp] theorem dramWrite_awf (a : Nat) (bs : List Byte) : (s.dramWrite a bs).awf = s.awf := rfl
@[simp] theorem dramWrite_seg (a : Nat) (bs : List Byte) : (s.dramWrite a bs).seg = s.seg := rfl
@[simp] theorem dramWrite_sti (a : Nat) (bs : List Byte) : (s.dramWrite a bs).sti = s.sti := rfl
@[simp] theorem dramWrite_lne (a : Nat) (bs : List Byte) : (s.dramWrite a bs).lne = s.lne := rfl
@[simp] theorem dramWrite_pos (a : Nat) (bs : List Byte) : (s.dramWrite a bs).pos = s.pos := rfl
@[simp] theorem dramWrite_mem (a : Nat) (bs : List Byte) : (s.dramWrite a bs).mem = s.mem := rfl
@[simp] theorem dramWrite_arc (a : Nat) (bs : List Byte) : (s.dramWrite a bs).arc = s.arc := rfl
@[simp] theorem dramWrite_dma (a : Nat) (bs : List Byte) : (s.dramWrite a bs).dma = s.dma := rfl
@[simp] theorem dramWrite_mrk (a : Nat) (bs : List Byte) : (s.dramWrite a bs).mrk = s.mrk := rfl

@[simp] theorem emit_clk (e : Emission) : (s.emit e).clk = s.clk := rfl
@[simp] theorem emit_free (e : Emission) : (s.emit e).free = s.free := rfl
@[simp] theorem emit_pending (e : Emission) : (s.emit e).pending = s.pending := rfl
@[simp] theorem emit_busData (e : Emission) : (s.emit e).busData = s.busData := rfl
@[simp] theorem emit_regs (e : Emission) : (s.emit e).regs = s.regs := rfl
@[simp] theorem emit_work (e : Emission) : (s.emit e).work = s.work := rfl
@[simp] theorem emit_snaps (e : Emission) : (s.emit e).snaps = s.snaps := rfl
@[simp] theorem emit_stages (e : Emission) : (s.emit e).stages = s.stages := rfl
@[simp] theorem emit_tables (e : Emission) : (s.emit e).tables = s.tables := rfl
@[simp] theorem emit_dram (e : Emission) : (s.emit e).dram = s.dram := rfl
@[simp] theorem emit_seqs (e : Emission) : (s.emit e).seqs = s.seqs := rfl
@[simp] theorem emit_stripLen (e : Emission) : (s.emit e).stripLen = s.stripLen := rfl
@[simp] theorem emit_crossed (e : Emission) : (s.emit e).crossed = s.crossed := rfl
@[simp] theorem emit_glb (e : Emission) : (s.emit e).glb = s.glb := rfl
@[simp] theorem emit_sec (e : Emission) : (s.emit e).sec = s.sec := rfl
@[simp] theorem emit_evt (e : Emission) : (s.emit e).evt = s.evt := rfl
@[simp] theorem emit_pmc (e : Emission) : (s.emit e).pmc = s.pmc := rfl
@[simp] theorem emit_thm (e : Emission) : (s.emit e).thm = s.thm := rfl
@[simp] theorem emit_pwr (e : Emission) : (s.emit e).pwr = s.pwr := rfl
@[simp] theorem emit_tim (e : Emission) : (s.emit e).tim = s.tim := rfl
@[simp] theorem emit_hst (e : Emission) : (s.emit e).hst = s.hst := rfl
@[simp] theorem emit_fab (e : Emission) : (s.emit e).fab = s.fab := rfl
@[simp] theorem emit_gaps (e : Emission) : (s.emit e).gaps = s.gaps := rfl
@[simp] theorem emit_cam (e : Emission) : (s.emit e).cam = s.cam := rfl
@[simp] theorem emit_cor (e : Emission) : (s.emit e).cor = s.cor := rfl
@[simp] theorem emit_awf (e : Emission) : (s.emit e).awf = s.awf := rfl
@[simp] theorem emit_seg (e : Emission) : (s.emit e).seg = s.seg := rfl
@[simp] theorem emit_sti (e : Emission) : (s.emit e).sti = s.sti := rfl
@[simp] theorem emit_lne (e : Emission) : (s.emit e).lne = s.lne := rfl
@[simp] theorem emit_pos (e : Emission) : (s.emit e).pos = s.pos := rfl
@[simp] theorem emit_mem (e : Emission) : (s.emit e).mem = s.mem := rfl
@[simp] theorem emit_arc (e : Emission) : (s.emit e).arc = s.arc := rfl
@[simp] theorem emit_dma (e : Emission) : (s.emit e).dma = s.dma := rfl
@[simp] theorem emit_mrk (e : Emission) : (s.emit e).mrk = s.mrk := rfl

/-! ### Fields of a word -/

theorem bitsOf_testBit (n lo w j : Nat) : (bitsOf n lo w).testBit j = (decide (j < w) && n.testBit (lo + j)) := by
  unfold bitsOf
  rw [Nat.testBit_mod_two_pow, Nat.testBit_div_two_pow, Nat.add_comm]

theorem Fld.mask_bit (f : Fld) (k : Nat) :
    f.mask.getLsbD k = (decide (k < 32) && decide (f.lo ≤ k) && decide (k < f.lo + f.width)) := by
  unfold Fld.mask
  rw [BitVec.getLsbD_ofNat, Nat.testBit_mul_two_pow, Nat.testBit_two_pow_sub_one]
  by_cases h1 : k < 32 <;> by_cases h2 : f.lo ≤ k <;> simp [h1, h2]
  omega

theorem Fld.put_bit (f : Fld) (w : Word) (v k : Nat) (hk : k < 32) :
    (f.put w v).getLsbD k = if f.lo ≤ k ∧ k < f.lo + f.width then v.testBit (k - f.lo) else w.getLsbD k := by
  unfold Fld.put
  rw [BitVec.getLsbD_or, BitVec.getLsbD_and, BitVec.getLsbD_and, BitVec.getLsbD_not, f.mask_bit, BitVec.getLsbD_ofNat,
    Nat.testBit_mul_two_pow]
  by_cases h1 : f.lo ≤ k <;> by_cases h2 : k < f.lo + f.width <;> simp [hk, h1, h2]

theorem Fld.get_put_same (f : Fld) (w : Word) (v : Nat) (h : f.lo + f.width ≤ 32) :
    f.get (f.put w v) = v % 2 ^ f.width := by
  apply Nat.eq_of_testBit_eq
  intro j
  unfold Fld.get
  rw [bitsOf_testBit, Nat.testBit_mod_two_pow]
  by_cases hj : j < f.width
  · rw [BitVec.testBit_toNat, f.put_bit w v _ (by omega), if_pos (by omega)]
    simp [hj]
  · simp [hj]

/-- Two fields that share no bit, or lie in different registers. -/
def Fld.apart (f g : Fld) : Bool :=
  decide (g.reg.part ≠ f.reg.part) || decide (f.lo + f.width ≤ g.lo) || decide (g.lo + g.width ≤ f.lo)

theorem Fld.get_put_apart (f g : Fld) (w : Word) (v : Nat) (h : f.lo + f.width ≤ g.lo ∨ g.lo + g.width ≤ f.lo) :
    g.get (f.put w v) = g.get w := by
  apply Nat.eq_of_testBit_eq
  intro j
  unfold Fld.get
  rw [bitsOf_testBit, bitsOf_testBit]
  by_cases hj : j < g.width
  · rw [BitVec.testBit_toNat, BitVec.testBit_toNat]
    by_cases hk : g.lo + j < 32
    · rw [f.put_bit w v _ hk, if_neg (by omega)]
    · rw [BitVec.getLsbD_of_ge _ _ (by omega), BitVec.getLsbD_of_ge _ _ (by omega)]
  · simp [hj]

theorem Reg.part_inj {r q : Reg} (h : r.part = q.part) : r = q := by
  unfold Reg.part at h
  rw [← Reg.ofNat_ctorIdx r, Nat.add_left_cancel h, Reg.ofNat_ctorIdx]

theorem fld_put_same (f : Fld) (i v : Nat) (hw : f.lo + f.width ≤ 32) (hc : s.canonical = true) :
    (s.put f i v).fld f i = v % 2 ^ f.width := by
  unfold State.fld State.put
  rw [rd_wr_same _ _ _ hc, f.get_put_same _ _ hw]

theorem fld_put_apart (f g : Fld) (i j v : Nat) (h : f.apart g = true) (hc : s.canonical = true) :
    (s.put f i v).fld g j = s.fld g j := by
  unfold State.fld State.put
  simp only [Fld.apart, Bool.or_eq_true, decide_eq_true_eq] at h
  by_cases hr : g.reg.part = f.reg.part
  · have hr' : g.reg = f.reg := Reg.part_inj hr
    by_cases hi : j = i
    · subst hi
      rw [hr', rd_wr_same _ _ _ hc, f.get_put_apart g _ _ (by omega)]
    · rw [hr', rd_wr_ne _ (Reg.key_index_ne _ hi) hc]
  · rw [rd_wr_ne _ (Reg.key_ne hr _ _) hc]

theorem fld_put_index (f g : Fld) {i j : Nat} (v : Nat) (h : j ≠ i) (hc : s.canonical = true) :
    (s.put f i v).fld g j = s.fld g j := by
  unfold State.fld State.put
  by_cases hr : g.reg.part = f.reg.part
  · rw [Reg.part_inj hr, rd_wr_ne _ (Reg.key_index_ne _ h) hc]
  · rw [rd_wr_ne _ (Reg.key_ne hr _ _) hc]

theorem bit_put_same (f : Fld) (i v : Nat) (hw : f.lo + f.width ≤ 32) (hc : s.canonical = true) :
    (s.put f i v).bit f i = (v % 2 ^ f.width != 0) := by
  unfold State.bit
  rw [fld_put_same f i v hw hc]

theorem bit_put_apart (f g : Fld) (i j v : Nat) (h : f.apart g = true) (hc : s.canonical = true) :
    (s.put f i v).bit g j = s.bit g j := by
  unfold State.bit
  rw [fld_put_apart f g i j v h hc]

theorem canonical_put (f : Fld) (i v : Nat) (hc : s.canonical = true) : (s.put f i v).canonical = true :=
  canonical_wr _ _ _ hc

theorem canonical_putB (f : Fld) (i : Nat) (b : Bool) (hc : s.canonical = true) : (s.putB f i b).canonical = true :=
  canonical_wr _ _ _ hc

theorem canonical_count (r : Reg) (i n : Nat) (hc : s.canonical = true) : (s.count r i n).canonical = true :=
  canonical_wr _ _ _ hc

theorem rd_count_same (r : Reg) (i n : Nat) (hc : s.canonical = true) :
    (s.count r i n).rd r i = BitVec.ofNat 32 (min ((s.rd r i).toNat + n) 0xFFFFFFFF) :=
  rd_wr_same _ _ _ hc

/-! ### What Keeps says of one register, field or part -/

theorem Keeps.rd {M : Nat} {t : State} (h : Keeps M s t) (hc : s.canonical = true) (r : Reg) (i : Nat)
    (hr : M.testBit r.part = false) : t.rd r i = s.rd r i :=
  h.parts hc (.reg r) hr i

theorem Keeps.fld {M : Nat} {t : State} (h : Keeps M s t) (hc : s.canonical = true) (f : Fld) (i : Nat)
    (hr : M.testBit f.reg.part = false) : t.fld f i = s.fld f i := by
  unfold State.fld
  rw [h.rd hc f.reg i hr]

theorem Keeps.bit {M : Nat} {t : State} (h : Keeps M s t) (hc : s.canonical = true) (f : Fld) (i : Nat)
    (hr : M.testBit f.reg.part = false) : t.bit f i = s.bit f i := by
  unfold State.bit
  rw [h.fld hc f i hr]

theorem Keeps.part {M : Nat} {t : State} (h : Keeps M s t) (hc : s.canonical = true) (p : Part)
    (hp : M.testBit p.bit = false) : p.same s t :=
  h.parts hc p hp

/-- The set of parts that a list names. -/
def footOf (ps : List Part) : Nat := ps.foldl (fun m p => m ||| 2 ^ p.bit) 0

/-- The part of a bit. -/
def Part.ofBit (n : Nat) : Part :=
  if 46 ≤ n then .reg (Reg.ofNat (n - 46))
  else ([.clk, .free, .wire, .busData, .work, .snaps, .stages, .tables, .dram, .seqs, .stripLen, .crossed, .glb, .sec, .evt, .pmc,
    .thm, .pwr, .tim, .hst, .fab, .gaps, .cam, .cor, .awf, .seg, .sti, .lne, .pos, .mem, .arc, .dma,
    .mrk, .glbTrans, .glbPend, .glbPowered, .memOps, .memDone, .memChange, .dmaRun, .arcRun, .pwrMirror, .pwrSlots, .pwrWrite, .pwrIdKey, .secFuses] : List Part).getD n .clk

theorem Part.ofBit_bit (p : Part) : Part.ofBit p.bit = p := by
  cases p with
  | reg r =>
    unfold Part.ofBit Part.bit Reg.part
    rw [if_pos (Nat.le_add_right _ _), Nat.add_sub_cancel_left, Reg.ofNat_ctorIdx]
  | _ => rfl

theorem Part.bit_inj {p q : Part} (h : p.bit = q.bit) : p = q := by
  rw [← p.ofBit_bit, h, q.ofBit_bit]

theorem foldl_or_testBit (ps : List Part) (m : Nat) (p : Part) :
    (ps.foldl (fun m p => m ||| 2 ^ p.bit) m).testBit p.bit = (m.testBit p.bit || decide (p ∈ ps)) := by
  induction ps generalizing m with
  | nil => simp
  | cons q r ih =>
    rw [List.foldl_cons, ih, Nat.testBit_or, Nat.testBit_two_pow]
    by_cases h : p = q
    · subst h
      simp
    · have : ¬ q.bit = p.bit := fun e => h (Part.bit_inj e.symm)
      simp [h, this]

theorem footOf_testBit (ps : List Part) (p : Part) : (footOf ps).testBit p.bit = decide (p ∈ ps) := by
  unfold footOf
  rw [foldl_or_testBit]
  simp

/-- What changes no part outside a list changes only what the list names. -/
theorem Keeps.changesOnly {M : Nat} {t : State} (h : Keeps M s t) (hc : s.canonical = true) (ps : List Part)
    (hs : M &&& footOf ps = M) : ChangesOnly ps s t := by
  refine ⟨h.pending, fun p hp => h.parts hc p ?_⟩
  rw [← hs, Nat.testBit_and, footOf_testBit]
  simp [hp]

end Sys2Proof.Machine
end

