-- ==== Sys2Proof/Laws/Events.lean ====
section
/-! SUPPORT. Laws/Events.lean: what raising an event, counting and changing the mode leave of other registers. -/

namespace Sys2Proof.Machine

variable {s : State}

/-- What a firing changes. -/
def fireMask : Nat := 0x18400000000000000000000000000000000000000000000000000000000000000000000000000000000000000000000000000000000000000000000000000000000004000

theorem fire_keeps' (p : Nat) : Keeps fireMask s (s.fire p) := fire_keeps (Sub.rfl _) (Keeps.rfl _ s)

theorem canonical_raise (f : Fld) (i : Nat) (hc : s.canonical = true) : (s.raise f i).canonical = true :=
  (raise_keeps (M := allRegs ||| fireMask) ((Sub.rfl (allRegs ||| fireMask)).mono (by rfl))
    ((Sub.rfl (allRegs ||| fireMask)).reg (by rfl) _) (Keeps.rfl _ s)).canonical hc

theorem rd_raise (f : Fld) (i : Nat) (r : Reg) (j : Nat) (h : fireMask.testBit r.part = false) (hc : s.canonical = true) :
    (s.raise f i).rd r j = (s.put f i 1).rd r j := by
  unfold State.raise
  dsimp only
  split
  · rfl
  · exact (fire_keeps' _).rd (canonical_put _ _ _ hc) r j h

theorem fld_raise (f g : Fld) (i j : Nat) (h : fireMask.testBit g.reg.part = false) (hc : s.canonical = true) :
    (s.raise f i).fld g j = (s.put f i 1).fld g j := by
  unfold State.fld
  rw [rd_raise f i _ _ h hc]

theorem fld_raise_apart (f g : Fld) (i j : Nat) (h : fireMask.testBit g.reg.part = false) (ha : f.apart g = true)
    (hc : s.canonical = true) : (s.raise f i).fld g j = s.fld g j := by
  rw [fld_raise f g i j h hc, fld_put_apart f g i j 1 ha hc]

theorem bit_raise_apart (f g : Fld) (i j : Nat) (h : fireMask.testBit g.reg.part = false) (ha : f.apart g = true)
    (hc : s.canonical = true) : (s.raise f i).bit g j = s.bit g j := by
  unfold State.bit
  rw [fld_raise_apart f g i j h ha hc]

/-- R468: the bit of the EVENT register is set. -/
theorem bit_raise_same (f : Fld) (i : Nat) (h : fireMask.testBit f.reg.part = false) (hw : f.lo + f.width ≤ 32)
    (hp : f.width = 1) (hc : s.canonical = true) : (s.raise f i).bit f i = true := by
  unfold State.bit
  rw [fld_raise f f i i h hc, fld_put_same f i 1 hw hc, hp]
  rfl

theorem fld_count (r : Reg) (i n : Nat) (g : Fld) (j : Nat) (h : g.reg.part ≠ r.part) (hc : s.canonical = true) :
    (s.count r i n).fld g j = s.fld g j := by
  unfold State.fld State.count
  rw [rd_wr_ne _ (Reg.key_ne h _ _) hc]

theorem rd_put_ne (f : Fld) (i v : Nat) (r : Reg) (j : Nat) (h : r.part ≠ f.reg.part) (hc : s.canonical = true) :
    (s.put f i v).rd r j = s.rd r j :=
  rd_wr_ne _ (Reg.key_ne h _ _) hc

theorem rd_count_ne (q : Reg) (i n : Nat) (r : Reg) (j : Nat) (h : r.part ≠ q.part) (hc : s.canonical = true) :
    (s.count q i n).rd r j = s.rd r j :=
  rd_wr_ne _ (Reg.key_ne h _ _) hc

/-! ### The mode -/

theorem mode_ofCode_code (m : Mode) : Mode.ofCode m.code = m := by
  cases m <;> rfl

theorem mode_eq {t : State} (h : t.fld F.GLB_MODE_MODE = s.fld F.GLB_MODE_MODE) : t.mode = s.mode := by
  unfold State.mode
  rw [h]

theorem mode_showSts (hc : s.canonical = true) : s.showSts.mode = s.mode := by
  unfold State.showSts
  exact mode_eq (fld_put_apart _ _ _ _ _ rfl hc)

/-- Noting the times of a mode change touches no list of the state. -/
theorem canonical_modeTimes (m : Mode) (hc : s.canonical = true) : (s.modeTimes m).canonical = true := by
  unfold State.modeTimes
  dsimp only
  split <;> exact hc

/-- R503: after a mode change the device is in that mode. -/
theorem mode_setMode (m : Mode) (hc : s.canonical = true) : (s.setMode m).mode = m := by
  unfold State.setMode
  split
  · rename_i h
    rw [mode_showSts hc]
    exact eq_of_beq h
  · have ht := canonical_modeTimes m hc
    rw [mode_showSts (canonical_raise _ _ (canonical_put _ _ _ ht))]
    unfold State.mode
    rw [fld_raise_apart _ _ _ _ rfl rfl (canonical_put _ _ _ ht), fld_put_same _ _ _ (by decide) ht]
    cases m <;> rfl

end Sys2Proof.Machine
end

