-- ==== Sys2Proof/Laws/KeepsPix.lean ====
section
/-! SUPPORT. Laws/KeepsPix.lean: the same for correction, the along-web filter and segmentation, said once as Keeps (Safety.lean). -/

namespace Sys2Proof.Machine

variable {s0 : State} {M : Nat}

theorem setCorPort_keeps {s : State} {p : Nat} {x : CorPort} (hm : Sub 0x800000 M) (hs : Keeps M s0 s) :
    Keeps M s0 (State.setCorPort s p x) := by
  unfold State.setCorPort
  refine upd_cor_keeps (hm.mono (by rfl)) ?_
  exact hs

theorem expTimeout_keeps {s : State} {p : Nat} (hm : Sub 0x200000000000000000000000000002 M) (hs : Keeps M s0 s) :
    Keeps M s0 (State.expTimeout s p) := by
  unfold State.expTimeout
  split
  · exact hs
  · extract_lets +onlyGivenNames x1
    have hx1 : Keeps M s0 x1 := by
      subst x1
      refine put_keeps (hm.at .COR_EXP_STATE (by rfl)) ?_
      exact hs
    clear_value x1
    split
    · refine put_keeps (hm.at .COR_EXP_STATE (by rfl)) ?_
      exact hx1
    · extract_lets +onlyGivenNames x2
      have hx2 : Keeps M s0 x2.2 := by
        subst x2
        refine drawFree_keeps (hm.mono (by rfl)) ?_
        exact hx1
      clear_value x2
      refine put_keeps (hm.at .COR_EXP_STATE (by rfl)) ?_
      exact hx2

theorem backSend_keeps {s : State} {p : Nat} (hm : Sub 0x400004 M) (hs : Keeps M s0 s) :
    Keeps M s0 (State.backSend s p) := by
  unfold State.backSend
  extract_lets +onlyGivenNames x1
  clear_value x1
  split
  · extract_lets +onlyGivenNames x2
    clear_value x2
    refine emit_keeps (hm.mono (by rfl)) ?_
    refine setCamPort_keeps (hm.mono (by rfl)) ?_
    exact hs
  · exact hs

theorem backDrain_keeps {s : State} {p : Nat} (hm : Sub 0x400004 M) (hs : Keeps M s0 s) :
    Keeps M s0 (State.backDrain s p) := by
  unfold State.backDrain
  extract_lets +onlyGivenNames x1
  clear_value x1
  apply keeps_forBelow
  · intro x2 t3 h4
    refine backSend_keeps (hm.mono (by rfl)) ?_
    exact h4
  · refine setCamPort_keeps (hm.mono (by rfl)) ?_
    exact hs

theorem backQueue_keeps {s : State} {p : Nat} {blocks : List BackBlock} (hm : Sub 0x400004 M) (hs : Keeps M s0 s) :
    Keeps M s0 (State.backQueue s p blocks) := by
  unfold State.backQueue
  extract_lets +onlyGivenNames x1
  have hx1 : Keeps M s0 x1 := by
    subst x1
    refine backDrain_keeps (hm.mono (by rfl)) ?_
    exact hs
  clear_value x1
  extract_lets +onlyGivenNames x2
  clear_value x2
  extract_lets +onlyGivenNames x3
  clear_value x3
  refine setCamPort_keeps (hm.mono (by rfl)) ?_
  exact hx1

theorem commitSet_keeps {s : State} {p : Nat} {k : Nat} {vals : List Nat} (hm : Sub 0xC00004 M) (hs : Keeps M s0 s) :
    Keeps M s0 (State.commitSet s p k vals) := by
  unfold State.commitSet
  extract_lets +onlyGivenNames x1
  clear_value x1
  extract_lets +onlyGivenNames x2
  clear_value x2
  extract_lets +onlyGivenNames x3
  have hx3 : Keeps M s0 x3 := by
    subst x3
    refine backQueue_keeps (hm.mono (by rfl)) ?_
    exact hs
  clear_value x3
  extract_lets +onlyGivenNames x4
  clear_value x4
  refine setCorPort_keeps (hm.mono (by rfl)) ?_
  exact hx3

theorem commitExposure_keeps {s : State} {p : Nat} {k : Nat} {t : Nat} (hm : Sub 0x200000000000000000000000C00004 M) (hs :
    Keeps M s0 s) :
    Keeps M s0 (State.commitExposure s p k t) := by
  unfold State.commitExposure
  extract_lets +onlyGivenNames x1
  have hx1 : Keeps M s0 x1 := by
    subst x1
    refine commitSet_keeps (hm.mono (by rfl)) ?_
    exact hs
  clear_value x1
  extract_lets +onlyGivenNames x2
  have hx2 : Keeps M s0 x2 := by
    subst x2
    refine put_keeps (hm.at .COR_EXP_STATE (by rfl)) ?_
    refine put_keeps (hm.at .COR_EXP_STATE (by rfl)) ?_
    exact hx1
  clear_value x2
  extract_lets +onlyGivenNames x3
  clear_value x3
  refine setCorPort_keeps (hm.mono (by rfl)) ?_
  exact hx2

theorem darkEnd_keeps {s : State} {p : Nat} (hm : Sub 0x200000000000000000000000C00004 M) (hs : Keeps M s0 s) :
    Keeps M s0 (State.darkEnd s p) := by
  unfold State.darkEnd
  extract_lets +onlyGivenNames x1
  clear_value x1
  apply keeps_ite
  · extract_lets +onlyGivenNames x2
    clear_value x2
    extract_lets +onlyGivenNames x3
    have hx3 : Keeps M s0 x3 := by
      subst x3
      refine setCorPort_keeps (hm.mono (by rfl)) ?_
      exact hs
    clear_value x3
    refine commitExposure_keeps (hm.mono (by rfl)) ?_
    exact hx3
  · exact hs

theorem putFfState_keeps {s : State} {h : Nat} {code : Nat} (hm : Sub 0x800000000000000000000000000 M) (hs : Keeps M s0 s) :
    Keeps M s0 (State.putFfState s h code) := by
  unfold State.putFfState
  refine put_keeps (hm.at .COR_FF_STATE (by rfl)) ?_
  exact hs

theorem setCorHead_keeps {s : State} {h : Nat} {x : CorHead} (hm : Sub 0x800000 M) (hs : Keeps M s0 s) :
    Keeps M s0 (State.setCorHead s h x) := by
  unfold State.setCorHead
  refine upd_cor_keeps (hm.mono (by rfl)) ?_
  exact hs

theorem ffDrop_keeps {s : State} {h : Nat} (hm : Sub 0x200800000000000000000000C00004 M) (hs : Keeps M s0 s) :
    Keeps M s0 (State.ffDrop s h) := by
  unfold State.ffDrop
  extract_lets +onlyGivenNames x1
  clear_value x1
  refine darkEnd_keeps (hm.mono (by rfl)) ?_
  refine putFfState_keeps (hm.mono (by rfl)) ?_
  refine setCorHead_keeps (hm.mono (by rfl)) ?_
  exact hs

theorem ffAbandon_keeps {s : State} {h : Nat} {event : Bool} (hm : Sub
    0x18400000000000000000000000000000000000000000000000000000000000000000000000000000000000000000000000000000000200D00000000000000000000C04004 M) (hs : Keeps M s0 s) :
    Keeps M s0 (State.ffAbandon s h event) := by
  unfold State.ffAbandon
  split
  · exact hs
  · apply keeps_ite
    · exact hs
    · extract_lets +onlyGivenNames x1
      have hx1 : Keeps M s0 x1 := by
        subst x1
        refine ffDrop_keeps (hm.mono (by rfl)) ?_
        exact hs
      clear_value x1
      apply keeps_ite
      · refine raise_keeps (hm.mono (by rfl)) (hm.at .COR_EVENT (by rfl)) ?_
        refine wr_keeps (hm.at .COR_FF_LAST (by rfl)) ?_
        exact hx1
      · exact hx1

theorem emitStats_keeps {s : State} {h : Nat} {sp : Span} (hm : Sub
    0x18400000080010000000000000003800200000000000000000000000000000000000000000000000000000000000000000000000000000000000000000000000000184200 M) (hs : Keeps M s0 s) :
    Keeps M s0 (State.emitStats s h sp) := by
  unfold State.emitStats
  apply keeps_ite
  · apply keeps_forBelow
    · intro x1 t2 h3
      refine formRecord_keeps (hm.mono (by rfl)) ?_
      exact h3
    · exact hs
  · exact hs

theorem closeSpan_keeps {s : State} {h : Nat} (hm : Sub
    0x18400000080010000000000000003800200000000000000000000000000000000000000000000000000000000000000000000000000000000000000000000000000984200 M) (hs : Keeps M s0 s) :
    Keeps M s0 (State.closeSpan s h) := by
  unfold State.closeSpan
  extract_lets +onlyGivenNames x1
  clear_value x1
  split
  · exact hs
  · refine emitStats_keeps (hm.mono (by rfl)) ?_
    refine setCorHead_keeps (hm.mono (by rfl)) ?_
    exact hs

theorem ffWindowEnd_keeps {s : State} {h : Nat} {r : FfRun} (hm : Sub 0x200800000000000000000000C00004 M) (hs : Keeps M s0
    s) :
    Keeps M s0 (State.ffWindowEnd s h r) := by
  unfold State.ffWindowEnd
  extract_lets +onlyGivenNames x1
  clear_value x1
  extract_lets +onlyGivenNames x2
  clear_value x2
  extract_lets +onlyGivenNames x3
  clear_value x3
  apply keeps_ite
  · refine putFfState_keeps (hm.mono (by rfl)) ?_
    refine setCorHead_keeps (hm.mono (by rfl)) ?_
    exact hs
  · refine darkEnd_keeps (hm.mono (by rfl)) ?_
    refine setCorHead_keeps (hm.mono (by rfl)) ?_
    exact hs

theorem ffTempCheck_keeps {s : State} {h : Nat} (hm : Sub 0x800000 M) (hs : Keeps M s0 s) :
    Keeps M s0 (State.ffTempCheck s h) := by
  unfold State.ffTempCheck
  extract_lets +onlyGivenNames x1
  clear_value x1
  apply keeps_ite
  · refine setCorHead_keeps (hm.mono (by rfl)) ?_
    exact hs
  · exact hs

theorem ffStart_keeps {s : State} {h : Nat} {dark : Bool} {tr : FfTrigger} (hm : Sub
    0x18400000000000000000000000000000000000000000000000000000000000000000000000000000000000000000000000000000000000900000000000000000000C04004 M) (hs : Keeps M s0 s) :
    Keeps M s0 (State.ffStart s h dark tr) := by
  unfold State.ffStart
  extract_lets +onlyGivenNames x1
  clear_value x1
  extract_lets +onlyGivenNames x2
  clear_value x2
  extract_lets +onlyGivenNames x3
  clear_value x3
  extract_lets +onlyGivenNames x4
  clear_value x4
  extract_lets +onlyGivenNames x5
  have hx5 : Keeps M s0 x5 := by
    subst x5
    refine commitSet_keeps (hm.mono (by rfl)) ?_
    exact hs
  clear_value x5
  extract_lets +onlyGivenNames x6
  clear_value x6
  extract_lets +onlyGivenNames x7
  have hx7 : Keeps M s0 x7 := by
    subst x7
    apply keeps_ite
    · refine setCorPort_keeps (hm.mono (by rfl)) ?_
      exact hx5
    · exact hs
  clear_value x7
  extract_lets +onlyGivenNames x8
  clear_value x8
  extract_lets +onlyGivenNames x9
  have hx9 : Keeps M s0 x9 := by
    subst x9
    refine setCorHead_keeps (hm.mono (by rfl)) ?_
    exact hx7
  clear_value x9
  refine raise_keeps (hm.mono (by rfl)) (hm.at .COR_EVENT (by rfl)) ?_
  refine putFfState_keeps (hm.mono (by rfl)) ?_
  exact hx9

theorem ffTurn_keeps {s : State} {h : Nat} (hm : Sub
    0x18400000000000000000000000000000000000000000000000000000000000000000000000000000000000000000000000000000000200900000000000000000000C04004 M) (hs : Keeps M s0 s) :
    Keeps M s0 (State.ffTurn s h) := by
  unfold State.ffTurn
  extract_lets +onlyGivenNames x1
  clear_value x1
  extract_lets +onlyGivenNames x2
  have hx2 : Keeps M s0 x2 := by
    subst x2
    refine setCorHead_keeps (hm.mono (by rfl)) ?_
    exact hs
  clear_value x2
  extract_lets +onlyGivenNames x3
  clear_value x3
  extract_lets +onlyGivenNames x4
  have hx4 : Keeps M s0 x4 := by
    subst x4
    split
    · exact hx2
    · apply keeps_ite
      · exact hx2
      · apply keeps_ite
        · refine ffWindowEnd_keeps (hm.mono (by rfl)) ?_
          exact hx2
        · refine setCorHead_keeps (hm.mono (by rfl)) ?_
          exact hx2
  clear_value x4
  extract_lets +onlyGivenNames x5
  have hx5 : Keeps M s0 x5 := by
    subst x5
    refine ffTempCheck_keeps (hm.mono (by rfl)) ?_
    exact hx4
  clear_value x5
  apply keeps_ite
  · exact hx5
  · split
    · exact hx5
    · refine ffStart_keeps (hm.mono (by rfl)) ?_
      exact hx5

theorem corTurn_keeps {s : State} {h : Nat} (hm : Sub
    0x18400000080010000000000000003800200000000000000000000000000000000000000000000000000000000000000000000000000200900000000000000000000D84204 M) (hs : Keeps M s0 s) :
    Keeps M s0 (State.corTurn s h) := by
  unfold State.corTurn
  apply keeps_ite
  · extract_lets +onlyGivenNames x1
    have hx1 : Keeps M s0 x1 := by
      subst x1
      refine closeSpan_keeps (hm.mono (by rfl)) ?_
      exact hs
    clear_value x1
    extract_lets +onlyGivenNames x2
    clear_value x2
    extract_lets +onlyGivenNames x3
    have hx3 : Keeps M s0 x3 := by
      subst x3
      refine setCorHead_keeps (hm.mono (by rfl)) ?_
      exact hx1
    clear_value x3
    refine ffTurn_keeps (hm.mono (by rfl)) ?_
    exact hx3
  · exact hs

theorem ffLine_keeps {s : State} {h : Nat} {l : CorLine} {px : List Pix} (hm : Sub 0x200800000000000000000000C00004 M) (hs
    : Keeps M s0 s) :
    Keeps M s0 (State.ffLine s h l px) := by
  unfold State.ffLine
  extract_lets +onlyGivenNames x1
  clear_value x1
  split
  · exact hs
  · apply keeps_ite
    · exact hs
    · apply keeps_ite
      · apply keeps_ite
        · exact hs
        · apply keeps_ite
          · extract_lets +onlyGivenNames x2
            subst x2
            extract_lets +onlyGivenNames x3
            clear_value x3
            apply keeps_ite
            · refine ffWindowEnd_keeps (hm.mono (by rfl)) ?_
              exact hs
            · refine setCorHead_keeps (hm.mono (by rfl)) ?_
              exact hs
          · extract_lets +onlyGivenNames x4
            clear_value x4
            refine setCorHead_keeps (hm.mono (by rfl)) ?_
            exact hs
      · extract_lets +onlyGivenNames x5
        subst x5
        refine setCorHead_keeps (hm.mono (by rfl)) ?_
        exact hs

theorem statLine_keeps {s : State} {h : Nat} {l : CorLine} {px : List Pix} (hm : Sub
    0x18400000080010000000000000003800200000000000000000000000000000000000000000000000000000000000000000000000000000000000000000000000000984200 M) (hs : Keeps M s0 s) :
    Keeps M s0 (State.statLine s h l px) := by
  unfold State.statLine
  apply keeps_ite
  · exact hs
  · extract_lets +onlyGivenNames x1
    have hx1 : Keeps M s0 x1 := by
      subst x1
      split
      · apply keeps_ite
        · exact hs
        · refine closeSpan_keeps (hm.mono (by rfl)) ?_
          exact hs
      · exact hs
    clear_value x1
    extract_lets +onlyGivenNames x2
    clear_value x2
    extract_lets +onlyGivenNames x3
    clear_value x3
    extract_lets +onlyGivenNames x4
    clear_value x4
    refine setCorHead_keeps (hm.mono (by rfl)) ?_
    exact hx1

theorem swapBank_keeps {s : State} {h : Nat} (hm : Sub 0x4000000000000000000000000000 M) (hs : Keeps M s0 s) :
    Keeps M s0 (State.swapBank s h) := by
  unfold State.swapBank
  refine putB_keeps (hm.at .COR_BANK (by rfl)) ?_
  exact hs

theorem ffApply_keeps {s : State} {h : Nat} (hm : Sub 0x4800000000000000000000800000 M) (hs : Keeps M s0 s) :
    Keeps M s0 (State.ffApply s h) := by
  unfold State.ffApply
  extract_lets +onlyGivenNames x1
  clear_value x1
  split
  · exact hs
  · apply keeps_ite
    · split
      · refine setCorHead_keeps (hm.mono (by rfl)) ?_
        exact hs
      · refine putFfState_keeps (hm.mono (by rfl)) ?_
        refine setCorHead_keeps (hm.mono (by rfl)) ?_
        refine swapBank_keeps (hm.mono (by rfl)) ?_
        exact hs
      · exact hs
    · exact hs

theorem cameraSwap_keeps {s : State} {h : Nat} (hm : Sub
    0x184000000000000000000000000000000000000000000000000000000000000000000000000000000000000000000000000000000000078000000E0180000000000C24000 M) (hs : Keeps M s0 s) :
    Keeps M s0 (State.cameraSwap s h) := by
  unfold State.cameraSwap
  extract_lets +onlyGivenNames x1
  clear_value x1
  extract_lets +onlyGivenNames x2
  clear_value x2
  apply keeps_ite
  · extract_lets +onlyGivenNames x3
    clear_value x3
    extract_lets +onlyGivenNames x4
    have hx4 : Keeps M s0 x4 := by
      subst x4
      refine setCamPort_keeps (hm.mono (by rfl)) ?_
      exact hs
    clear_value x4
    extract_lets +onlyGivenNames x5
    have hx5 : Keeps M s0 x5 := by
      subst x5
      refine putB_keeps (hm.at .COR_OFS_OLD (by rfl)) ?_
      refine swapBank_keeps (hm.mono (by rfl)) ?_
      exact hx4
    clear_value x5
    extract_lets +onlyGivenNames x6
    clear_value x6
    extract_lets +onlyGivenNames x7
    have hx7 : Keeps M s0 x7 := by
      subst x7
      apply keeps_ite
      · refine putFfState_keeps (hm.mono (by rfl)) ?_
        refine setCorHead_keeps (hm.mono (by rfl)) ?_
        exact hx5
      · exact hx4
    clear_value x7
    extract_lets +onlyGivenNames x8
    have hx8 : Keeps M s0 x8 := by
      subst x8
      refine putB_keeps (hm.at .COR_STALE (by rfl)) ?_
      exact hx7
    clear_value x8
    apply keeps_ite
    · extract_lets +onlyGivenNames x9
      have hx9 : Keeps M s0 x9 := by
        subst x9
        refine put_keeps (hm.at .CAM_STATUS (by rfl)) ?_
        exact hx8
      clear_value x9
      extract_lets +onlyGivenNames x10
      have hx10 : Keeps M s0 x10 := by
        subst x10
        refine wr_keeps (hm.at .CAM_CAL_SERIAL_HI (by rfl)) ?_
        refine wr_keeps (hm.at .CAM_CAL_SERIAL_LO (by rfl)) ?_
        exact hx9
      clear_value x10
      extract_lets +onlyGivenNames x11
      have hx11 : Keeps M s0 x11 := by
        subst x11
        refine put_keeps (hm.at .CAM_CAL_REPAIR (by rfl)) ?_
        exact hx10
      clear_value x11
      extract_lets +onlyGivenNames x12
      have hx12 : Keeps M s0 x12 := by
        subst x12
        refine put_keeps (hm.at .CAM_STATUS (by rfl)) ?_
        exact hx11
      clear_value x12
      extract_lets +onlyGivenNames x13
      clear_value x13
      extract_lets +onlyGivenNames x14
      have hx14 : Keeps M s0 x14 := by
        subst x14
        refine calibGroup_keeps (hm.mono (by rfl)) ?_
        exact hx12
      clear_value x14
      refine raise_keeps (hm.mono (by rfl)) (hm.at .CAM_EVENT (by rfl)) ?_
      exact hx14
    · exact hx8
  · exact hs

theorem corLatch_keeps {s : State} {h : Nat} (hm : Sub
    0x1840000000000000000000000000000000000000000000000000000000000000000000000000000000000000000000000000000000003F8000000E0180000000000C24010 M) (hs : Keeps M s0 s) :
    Keeps M s0 (State.corLatch s h) := by
  unfold State.corLatch
  extract_lets +onlyGivenNames x1
  have hx1 : Keeps M s0 x1 := by
    subst x1
    refine latch_keeps (hm.mono (by rfl)) ?_
    refine latch_keeps (hm.mono (by rfl)) ?_
    refine latch_keeps (hm.mono (by rfl)) ?_
    exact hs
  clear_value x1
  extract_lets +onlyGivenNames x2
  have hx2 : Keeps M s0 x2 := by
    subst x2
    refine ffApply_keeps (hm.mono (by rfl)) ?_
    refine cameraSwap_keeps (hm.mono (by rfl)) ?_
    exact hx1
  clear_value x2
  refine setCorHead_keeps (hm.mono (by rfl)) ?_
  exact hx2

theorem setAwfHead_keeps {s : State} {h : Nat} {x : AwfHead} (hm : Sub 0x1000000 M) (hs : Keeps M s0 s) :
    Keeps M s0 (State.setAwfHead s h x) := by
  unfold State.setAwfHead
  refine upd_awf_keeps (hm.mono (by rfl)) ?_
  exact hs

theorem awfRestart_keeps {s : State} {h : Nat} {n : LineNo} (hm : Sub
    0x18400000000000000000000000000000000000000000000000000000000000000000000000000000000000000000000000000000020000000000000000000000001004000 M) (hs : Keeps M s0 s) :
    Keeps M s0 (State.awfRestart s h n) := by
  unfold State.awfRestart
  refine raise_keeps (hm.mono (by rfl)) (hm.at .AWF_EVENT (by rfl)) ?_
  refine setAwfHead_keeps (hm.mono (by rfl)) ?_
  exact hs

theorem awfShow_keeps {s : State} {h : Nat} (hm : Sub 0x200000000000000000000000000000000 M) (hs : Keeps M s0 s) :
    Keeps M s0 (State.awfShow s h) := by
  unfold State.awfShow
  extract_lets +onlyGivenNames x1
  clear_value x1
  refine put_keeps (hm.at .AWF_HEAD_STATE (by rfl)) ?_
  refine put_keeps (hm.at .AWF_HEAD_STATE (by rfl)) ?_
  refine put_keeps (hm.at .AWF_HEAD_STATE (by rfl)) ?_
  exact hs

theorem awfStaged_keeps {s : State} {h : Nat} {n : LineNo} (hm : Sub
    0x184000000000000000000000000000000000000000000000000000000000000000000000000000000000000000000000000000033A0000000000000000000000001004010 M) (hs : Keeps M s0 s) :
    Keeps M s0 (State.awfStaged s h n) := by
  unfold State.awfStaged
  extract_lets +onlyGivenNames x1
  clear_value x1
  extract_lets +onlyGivenNames x2
  clear_value x2
  apply keeps_ite
  · exact hs
  · apply keeps_ite
    · extract_lets +onlyGivenNames x3
      have hx3 : Keeps M s0 x3 := by
        subst x3
        refine awfRestart_keeps (hm.mono (by rfl)) ?_
        refine awfShow_keeps (hm.mono (by rfl)) ?_
        refine latch_keeps (hm.mono (by rfl)) ?_
        exact hs
      clear_value x3
      refine count_keeps (hm.at .AWF_CHANGE_CNT (by rfl)) ?_
      refine raise_keeps (hm.mono (by rfl)) (hm.at .AWF_EVENT (by rfl)) ?_
      exact hx3
    · extract_lets +onlyGivenNames x4
      have hx4 : Keeps M s0 x4 := by
        subst x4
        refine wr_keeps (hm.at .AWF_REJ (by rfl)) ?_
        exact hs
      clear_value x4
      refine count_keeps (hm.at .AWF_REJ_CNT (by rfl)) ?_
      refine raise_keeps (hm.mono (by rfl)) (hm.at .AWF_EVENT (by rfl)) ?_
      exact hx4

theorem awfBoundary_keeps {s : State} {h : Nat} {n : LineNo} (hm : Sub
    0x184000000800100000000000000038002000000000000000000000000000000000000000000000000000000000000000000000033A0000000000000000000000001384210 M) (hs : Keeps M s0 s) :
    Keeps M s0 (State.awfBoundary s h n) := by
  unfold State.awfBoundary
  extract_lets +onlyGivenNames x1
  have hx1 : Keeps M s0 x1 := by
    subst x1
    refine awfStaged_keeps (hm.mono (by rfl)) ?_
    refine gapBoundary_keeps (hm.mono (by rfl)) ?_
    exact hs
  clear_value x1
  extract_lets +onlyGivenNames x2
  clear_value x2
  extract_lets +onlyGivenNames x3
  clear_value x3
  apply keeps_ite
  · exact hx1
  · extract_lets +onlyGivenNames x4
    have hx4 : Keeps M s0 x4 := by
      subst x4
      refine awfRestart_keeps (hm.mono (by rfl)) ?_
      refine awfShow_keeps (hm.mono (by rfl)) ?_
      refine setAwfHead_keeps (hm.mono (by rfl)) ?_
      exact hx1
    clear_value x4
    apply keeps_ite
    · exact hx4
    · refine gapClean_keeps (hm.mono (by rfl)) ?_
      exact hx4

theorem setSegHead_keeps {s : State} {h : Nat} {x : SegHead} (hm : Sub 0x2000000 M) (hs : Keeps M s0 s) :
    Keeps M s0 (State.setSegHead s h x) := by
  unfold State.setSegHead
  refine upd_seg_keeps (hm.mono (by rfl)) ?_
  exact hs

theorem segBoundary_keeps {s : State} {h : Nat} {n : LineNo} (hm : Sub
    0x18400000000000000000000000000000000000000000000000000000000000000000000000000000000000000200190400000000000000000000000000000000002004010 M) (hs : Keeps M s0 s) :
    Keeps M s0 (State.segBoundary s h n) := by
  unfold State.segBoundary
  extract_lets +onlyGivenNames x1
  have hx1 : Keeps M s0 x1 := by
    subst x1
    refine latch_keeps (hm.mono (by rfl)) ?_
    refine latch_keeps (hm.mono (by rfl)) ?_
    exact hs
  clear_value x1
  extract_lets +onlyGivenNames x2
  have hx2 : Keeps M s0 x2 := by
    subst x2
    apply keeps_forBelow
    · intro x3 t4 h5
      refine latch_keeps (hm.mono (by rfl)) ?_
      exact h5
    · exact hx1
  clear_value x2
  split
  · exact hx2
  · apply keeps_ite
    · extract_lets +onlyGivenNames x6
      clear_value x6
      extract_lets +onlyGivenNames x7
      have hx7 : Keeps M s0 x7 := by
        subst x7
        refine setSegHead_keeps (hm.mono (by rfl)) ?_
        exact hx2
      clear_value x7
      refine raise_keeps (hm.mono (by rfl)) (hm.at .SEG_EVENT (by rfl)) ?_
      refine putB_keeps (hm.at .SEG_WARM_STATE (by rfl)) ?_
      exact hx7
    · exact hx2

theorem awfLost_keeps {s : State} {h : Nat} {n : LineNo} (hm : Sub
    0x18400000080010000000000000003800200000000000000000000000000000000000000000000000000000000000000000000000000000000000000000000000000384200 M) (hs : Keeps M s0 s) :
    Keeps M s0 (State.awfLost s h n) := by
  unfold State.awfLost
  split
  · exact hs
  · extract_lets +onlyGivenNames x1
    clear_value x1
    apply keeps_ite
    · exact hs
    · extract_lets +onlyGivenNames x2
      clear_value x2
      refine gapClean_keeps (hm.mono (by rfl)) ?_
      apply keeps_foldl
      · intro t3 x4 h5
        refine gapLine_keeps (hm.mono (by rfl)) ?_
        exact h5
      · exact hs

theorem awfGap_keeps {s : State} {h : Nat} {g : GapReason} {reached : Bool} {first : LineNo} {d : Nat} {named : LineNo →
    Bool} (hm : Sub
    0x18400000080010000000000000003800200000000000000000000000000000000000000000000000000000000000000000000000000000000000000000000000000384200 M) (hs : Keeps M s0 s) :
    Keeps M s0 (State.awfGap s h g reached first d named) := by
  unfold State.awfGap
  apply keeps_ite
  · apply keeps_forBelow
    · intro x1 t2 h3
      extract_lets +onlyGivenNames x4
      clear_value x4
      apply keeps_ite
      · refine gapClean_keeps (hm.mono (by rfl)) ?_
        exact h3
      · refine gapLine_keeps (hm.mono (by rfl)) ?_
        exact h3
    · exact hs
  · refine gapClean_keeps (hm.mono (by rfl)) ?_
    exact hs

theorem awfOutput_keeps {s : State} {h : Nat} {e : LineNo} (hm : Sub
    0x18400000080010000000000000003800200000000000000000000000000000000000000000000000000000000000000000000000C00000000000000000000000000384200 M) (hs : Keeps M s0 s) :
    Keeps M s0 (State.awfOutput s h e).1 := by
  unfold State.awfOutput
  extract_lets +onlyGivenNames x1
  clear_value x1
  extract_lets +onlyGivenNames x2
  clear_value x2
  extract_lets +onlyGivenNames x3
  clear_value x3
  extract_lets +onlyGivenNames x4
  clear_value x4
  extract_lets +onlyGivenNames x5
  clear_value x5
  extract_lets +onlyGivenNames x6
  clear_value x6
  extract_lets +onlyGivenNames x7
  clear_value x7
  extract_lets +onlyGivenNames x8
  clear_value x8
  extract_lets +onlyGivenNames x9
  clear_value x9
  extract_lets +onlyGivenNames x10
  have hx10 : Keeps M s0 x10 := by
    subst x10
    refine count_keeps (hm.at .AWF_CLIP_CNT (by rfl)) ?_
    exact hs
  clear_value x10
  extract_lets +onlyGivenNames x11
  have hx11 : Keeps M s0 x11 := by
    subst x11
    apply keeps_ite
    · refine count_keeps (hm.at .AWF_INV_OUT_CNT (by rfl)) ?_
      exact hx10
    · exact hx10
  clear_value x11
  extract_lets +onlyGivenNames x12
  clear_value x12
  extract_lets +onlyGivenNames x13
  subst x13
  extract_lets +onlyGivenNames x14
  have hx14 : Keeps M s0 x14 := by
    subst x14
    refine awfGap_keeps (hm.mono (by rfl)) ?_
    exact hx11
  clear_value x14
  extract_lets +onlyGivenNames x15
  have hx15 : Keeps M s0 x15 := by
    subst x15
    refine awfGap_keeps (hm.mono (by rfl)) ?_
    exact hx14
  clear_value x15
  exact hx15

theorem awfTake_keeps {s : State} {h : Nat} {l : AwfLine} (hm : Sub
    0x18400000080010000000000000003800200000000000000000000000000000000000000000000000000000000000000000000000C20000000000000000000000001384200 M) (hs : Keeps M s0 s) :
    Keeps M s0 (State.awfTake s h l).1 := by
  unfold State.awfTake
  extract_lets +onlyGivenNames x1
  have hx1 : Keeps M s0 x1 := by
    subst x1
    apply keeps_ite
    · refine awfRestart_keeps (hm.mono (by rfl)) ?_
      exact hs
    · exact hs
  clear_value x1
  extract_lets +onlyGivenNames x2
  clear_value x2
  extract_lets +onlyGivenNames x3
  have hx3 : Keeps M s0 x3 := by
    subst x3
    refine setAwfHead_keeps (hm.mono (by rfl)) ?_
    exact hx1
  clear_value x3
  extract_lets +onlyGivenNames x4
  have hx4 : Keeps M s0 x4 := by
    subst x4
    apply keeps_ite
    · refine gapLine_keeps (hm.mono (by rfl)) ?_
      exact hx3
    · exact hx3
  clear_value x4
  apply keeps_ite_fst
  · extract_lets +onlyGivenNames x5
    have hx5 : Keeps M s0 x5.1 := by
      subst x5
      refine awfOutput_keeps (hm.mono (by rfl)) ?_
      exact hx4
    clear_value x5
    exact hx5
  · exact hx4

theorem awfUntagged_keeps {s : State} {h : Nat} {n : LineNo} (hm : Sub
    0x18400000080010000000000000003800200000000000000000000000000000000000000000000000000000000000000000000000000000000000000000000000000384200 M) (hs : Keeps M s0 s) :
    Keeps M s0 (State.awfUntagged s h n) := by
  unfold State.awfUntagged
  refine gapClean_keeps (hm.mono (by rfl)) ?_
  refine gapLine_keeps (hm.mono (by rfl)) ?_
  exact hs

theorem awfIn_keeps {s : State} {h : Nat} {l : AwfLine} (hm : Sub
    0x18400000080010000000000000003800200000000000000000000000000000000000000000000000000000000000000000000000C20000000000000000000000001384200 M) (hs : Keeps M s0 s) :
    Keeps M s0 (State.awfIn s h l).1 := by
  unfold State.awfIn
  apply keeps_ite_fst
  · refine awfTake_keeps (hm.mono (by rfl)) ?_
    exact hs
  · dsimp only
    refine awfUntagged_keeps (hm.mono (by rfl)) ?_
    exact hs

theorem warmStart_keeps {s : State} {h : Nat} {n : LineNo} (hm : Sub 0x80010000000000000000000000000000000000002000080 M)
    (hs : Keeps M s0 s) :
    Keeps M s0 (State.warmStart s h n) := by
  unfold State.warmStart
  extract_lets +onlyGivenNames x1
  clear_value x1
  extract_lets +onlyGivenNames x2
  have hx2 : Keeps M s0 x2 := by
    subst x2
    apply keeps_forBelow
    · intro x3 t4 h5
      apply keeps_forBelow
      · intro x6 t7 h8
        extract_lets +onlyGivenNames x9
        clear_value x9
        refine setTab_keeps (hm.mono (by rfl)) ?_
        exact h8
      · exact h5
    · exact hs
  clear_value x2
  extract_lets +onlyGivenNames x10
  clear_value x10
  extract_lets +onlyGivenNames x11
  have hx11 : Keeps M s0 x11 := by
    subst x11
    refine setSegHead_keeps (hm.mono (by rfl)) ?_
    exact hx2
  clear_value x11
  refine count_keeps (hm.at .SEG_WARM_CNT (by rfl)) ?_
  refine putB_keeps (hm.at .SEG_WARM_STATE (by rfl)) ?_
  exact hx11

theorem putBg_keeps {s : State} {h : Nat} {c : Nat} {axis : Nat} {init : Bool} {mu : Int} {a : Nat} {fg : Nat} (hm : Sub
    0x80 M) (hs : Keeps M s0 s) :
    Keeps M s0 (State.putBg s h c axis init mu a fg) := by
  unfold State.putBg
  extract_lets +onlyGivenNames x1
  clear_value x1
  refine setTab_keeps (hm.mono (by rfl)) ?_
  refine setTab_keeps (hm.mono (by rfl)) ?_
  exact hs

theorem bgColumn_keeps {s : State} {h : Nat} {c : Nat} {colour : Bool} {warm : Bool} {x : Pix} (hm : Sub
    0x18400000000000000000000000000000000000000000000000000000000000000000000000000000000000000040000400000000000000000000000000000000000004080 M) (hs : Keeps M s0 s) :
    Keeps M s0 (State.bgColumn s h c colour warm x).1 := by
  unfold State.bgColumn
  apply keeps_ite_fst
  · exact hs
  · extract_lets +onlyGivenNames x1
    clear_value x1
    extract_lets +onlyGivenNames x2
    clear_value x2
    extract_lets +onlyGivenNames x3
    clear_value x3
    apply keeps_ite_fst
    · extract_lets +onlyGivenNames x4
      clear_value x4
      dsimp only
      apply keeps_forBelow
      · intro x5 t6 h7
        refine putBg_keeps (hm.mono (by rfl)) ?_
        exact h7
      · exact hs
    · extract_lets +onlyGivenNames x8
      subst x8
      extract_lets +onlyGivenNames x9
      subst x9
      extract_lets +onlyGivenNames x10
      clear_value x10
      extract_lets +onlyGivenNames x11
      clear_value x11
      extract_lets +onlyGivenNames x12
      clear_value x12
      extract_lets +onlyGivenNames x13
      clear_value x13
      extract_lets +onlyGivenNames x14
      clear_value x14
      extract_lets +onlyGivenNames x15
      clear_value x15
      extract_lets +onlyGivenNames x16
      clear_value x16
      extract_lets +onlyGivenNames x17
      clear_value x17
      extract_lets +onlyGivenNames x18
      clear_value x18
      extract_lets +onlyGivenNames x19
      clear_value x19
      extract_lets +onlyGivenNames x20
      have hx20 : Keeps M s0 x20 := by
        subst x20
        apply keeps_forBelow
        · intro x21 t22 h23
          extract_lets +onlyGivenNames x24
          clear_value x24
          extract_lets +onlyGivenNames x25
          clear_value x25
          extract_lets +onlyGivenNames x26
          clear_value x26
          apply keeps_ite
          · refine putBg_keeps (hm.mono (by rfl)) ?_
            exact h23
          · extract_lets +onlyGivenNames x27
            clear_value x27
            refine putBg_keeps (hm.mono (by rfl)) ?_
            exact h23
        · exact hs
      clear_value x20
      extract_lets +onlyGivenNames x28
      have hx28 : Keeps M s0 x28 := by
        subst x28
        apply keeps_ite
        · refine raise_keeps (hm.mono (by rfl)) (hm.at .SEG_EVENT (by rfl)) ?_
          refine count_keeps (hm.at .SEG_FREEZE_REL_CNT (by rfl)) ?_
          exact hx20
        · exact hx20
      clear_value x28
      exact hx28

theorem fifoPush_keeps {s : State} {e : FifoEntry} (hm : Sub 0x1000000000000000000000000000000000002000000 M) (hs : Keeps M
    s0 s) :
    Keeps M s0 (State.fifoPush s e) := by
  unfold State.fifoPush
  extract_lets +onlyGivenNames x1
  clear_value x1
  extract_lets +onlyGivenNames x2
  have hx2 : Keeps M s0 x2 := by
    subst x2
    refine upd_seg_keeps (hm.mono (by rfl)) ?_
    exact hs
  clear_value x2
  refine put_keeps (hm.at .SEG_FIFO_STATUS (by rfl)) ?_
  exact hx2

theorem aggregate_keeps {s : State} {h : Nat} {r : Run} {direct : Bool} (hm : Sub 0x2000000 M) (hs : Keeps M s0 s) :
    Keeps M s0 (State.aggregate s h r direct) := by
  unfold State.aggregate
  extract_lets +onlyGivenNames x1
  clear_value x1
  extract_lets +onlyGivenNames x2
  clear_value x2
  extract_lets +onlyGivenNames x3
  clear_value x3
  extract_lets +onlyGivenNames x4
  clear_value x4
  extract_lets +onlyGivenNames x5
  clear_value x5
  extract_lets +onlyGivenNames x6
  clear_value x6
  refine setSegHead_keeps (hm.mono (by rfl)) ?_
  exact hs

theorem armLevels_keeps {s : State} {h : Nat} {m : Nat} (hm : Sub 0x2000000 M) (hs : Keeps M s0 s) :
    Keeps M s0 (State.armLevels s h m) := by
  unfold State.armLevels
  extract_lets +onlyGivenNames x1
  clear_value x1
  extract_lets +onlyGivenNames x2
  clear_value x2
  refine setSegHead_keeps (hm.mono (by rfl)) ?_
  exact hs

theorem levelCauses_keeps {s : State} (hm : Sub 0x2000000 M) (hs : Keeps M s0 s) :
    Keeps M s0 (State.levelCauses s) := by
  unfold State.levelCauses
  apply keeps_ite
  · apply keeps_forBelow
    · intro x1 t2 h3
      apply keeps_ite
      · exact h3
      · refine armLevels_keeps (hm.mono (by rfl)) ?_
        exact h3
    · exact hs
  · exact hs

theorem offerRun_keeps {s : State} {r : Run} (hm : Sub
    0x18400000000000000000000000000000000000000000000000000000000000000000000000000000000000000100601400000000000000000000000000000000002004000 M) (hs : Keeps M s0 s) :
    Keeps M s0 (State.offerRun s r) := by
  unfold State.offerRun
  extract_lets +onlyGivenNames x1
  clear_value x1
  extract_lets +onlyGivenNames x2
  have hx2 : Keeps M s0 x2 := by
    subst x2
    refine setPair_keeps (hm.at .SEG_RUN_CNT_L (by rfl)) (hm.at .SEG_RUN_CNT_H (by rfl)) ?_
    exact hs
  clear_value x2
  extract_lets +onlyGivenNames x3
  clear_value x3
  extract_lets +onlyGivenNames x4
  clear_value x4
  apply keeps_ite
  · extract_lets +onlyGivenNames x5
    have hx5 : Keeps M s0 x5 := by
      subst x5
      refine raise_keeps (hm.mono (by rfl)) (hm.at .SEG_EVENT (by rfl)) ?_
      refine count_keeps (hm.at .SEG_BACKSTOP_CNT (by rfl)) ?_
      exact hx2
    clear_value x5
    extract_lets +onlyGivenNames x6
    have hx6 : Keeps M s0 x6 := by
      subst x6
      apply keeps_ite
      · exact hx5
      · refine fifoPush_keeps (hm.mono (by rfl)) ?_
        refine setSegHead_keeps (hm.mono (by rfl)) ?_
        exact hx5
    clear_value x6
    refine aggregate_keeps (hm.mono (by rfl)) ?_
    exact hx6
  · extract_lets +onlyGivenNames x7
    have hx7 : Keeps M s0 x7 := by
      subst x7
      apply keeps_ite
      · refine fifoPush_keeps (hm.mono (by rfl)) ?_
        refine setSegHead_keeps (hm.mono (by rfl)) ?_
        exact hx2
      · exact hx2
    clear_value x7
    refine levelCauses_keeps (hm.mono (by rfl)) ?_
    refine fifoPush_keeps (hm.mono (by rfl)) ?_
    exact hx7

theorem segLine_keeps {s : State} {h : Nat} {o : OutLine} (hm : Sub
    0x184000000800100000000000000038002000000000000000000000000000000000000000000000000000000001C0611400000000000000000000000000000000002384280 M) (hs : Keeps M s0 s) :
    Keeps M s0 (State.segLine s h o).1 := by
  unfold State.segLine
  extract_lets +onlyGivenNames x1
  clear_value x1
  extract_lets +onlyGivenNames x2
  clear_value x2
  extract_lets +onlyGivenNames x3
  have hx3 : Keeps M s0 x3 := by
    subst x3
    refine setSegHead_keeps (hm.mono (by rfl)) ?_
    exact hs
  clear_value x3
  extract_lets +onlyGivenNames x4
  have hx4 : Keeps M s0 x4 := by
    subst x4
    apply keeps_ite
    · refine warmStart_keeps (hm.mono (by rfl)) ?_
      exact hx3
    · exact hx3
  clear_value x4
  extract_lets +onlyGivenNames x5
  clear_value x5
  extract_lets +onlyGivenNames x6
  have hx6 : Keeps M s0 x6 := by
    subst x6
    apply keeps_ite
    · refine gapSpan_keeps (hm.mono (by rfl)) ?_
      exact hx4
    · refine gapClean_keeps (hm.mono (by rfl)) ?_
      exact hx4
  clear_value x6
  extract_lets +onlyGivenNames x7
  have hx7 : Keeps M s0 x7.1 := by
    subst x7
    apply keeps_foldl_fst
    · intro x8 x9 h10
      extract_lets +onlyGivenNames x11
      have hx11 : Keeps M s0 x11.1 := by
        subst x11
        refine bgColumn_keeps (hm.mono (by rfl)) ?_
        exact h10
      clear_value x11
      exact hx11
    · exact hx6
  clear_value x7
  extract_lets +onlyGivenNames x12
  have hx12 : Keeps M s0 x12 := by
    subst x12
    exact hx7
  clear_value x12
  extract_lets +onlyGivenNames x13
  clear_value x13
  extract_lets +onlyGivenNames x14
  clear_value x14
  extract_lets +onlyGivenNames x15
  clear_value x15
  extract_lets +onlyGivenNames x16
  subst x16
  extract_lets +onlyGivenNames x17
  clear_value x17
  extract_lets +onlyGivenNames x18
  have hx18 : Keeps M s0 x18 := by
    subst x18
    apply keeps_foldl
    · intro t19 x20 h21
      refine offerRun_keeps (hm.mono (by rfl)) ?_
      exact h21
    · exact hx12
  clear_value x18
  dsimp only
  refine levelCauses_keeps (hm.mono (by rfl)) ?_
  refine fifoPush_keeps (hm.mono (by rfl)) ?_
  exact hx18

theorem flushAggs_keeps {s : State} {h : Nat} {upTo : Option LineNo} (hm : Sub
    0x18400000080010000000000000003800200000000000000000000000000000000000000000000000000000000010000000000000000000000000000000000000002184200 M) (hs : Keeps M s0 s) :
    Keeps M s0 (State.flushAggs s h upTo) := by
  unfold State.flushAggs
  extract_lets +onlyGivenNames x1
  clear_value x1
  extract_lets +onlyGivenNames x2
  subst x2
  extract_lets +onlyGivenNames x3
  have hx3 : Keeps M s0 x3 := by
    subst x3
    refine setSegHead_keeps (hm.mono (by rfl)) ?_
    exact hs
  clear_value x3
  apply keeps_foldl
  · intro t4 x5 h6
    apply keeps_ite
    · exact h6
    · refine count_keeps (hm.at .SEG_CLUSTER_CNT (by rfl)) ?_
      refine formRecord_keeps (hm.mono (by rfl)) ?_
      exact h6
  · exact hx3

theorem gapOutEnd_keeps {s : State} {h : Nat} {g : GapReason} {i : LineInfo} (hm : Sub
    0x18400000080010000000000000003800200000000000000000000000000000000000000000000000000000000000000000000000000000000000000000000000000384200 M) (hs : Keeps M s0 s) :
    Keeps M s0 (State.gapOutEnd s h g i) := by
  unfold State.gapOutEnd
  split
  · exact hs
  · extract_lets +onlyGivenNames x1
    clear_value x1
    refine gapClean_keeps (hm.mono (by rfl)) ?_
    refine upd_gaps_keeps (hm.mono (by rfl)) ?_
    exact hs

theorem gapOut_keeps {s : State} {h : Nat} {g : GapReason} {i : LineInfo} (hm : Sub
    0x18400000080010000000000000003800200000000000000000000000000000000000000000000000000000000000000000000000000000000000000000000000000384200 M) (hs : Keeps M s0 s) :
    Keeps M s0 (State.gapOut s h g i) := by
  unfold State.gapOut
  refine gapSpan_keeps (hm.mono (by rfl)) ?_
  exact hs

theorem awfDiscard_keeps {s : State} {h : Nat} (hm : Sub
    0x18400000080010000000000000003800200000000000000000000000000000000000000000000000000000000000000000000000020000000000000000000000001384200 M) (hs : Keeps M s0 s) :
    Keeps M s0 (State.awfDiscard s h) := by
  unfold State.awfDiscard
  extract_lets +onlyGivenNames x1
  clear_value x1
  extract_lets +onlyGivenNames x2
  have hx2 : Keeps M s0 x2 := by
    subst x2
    refine gapBoundary_keeps (hm.mono (by rfl)) ?_
    exact hs
  clear_value x2
  split
  · exact hx2
  · extract_lets +onlyGivenNames x3
    clear_value x3
    extract_lets +onlyGivenNames x4
    have hx4 : Keeps M s0 x4 := by
      subst x4
      refine formGap_keeps (hm.mono (by rfl)) ?_
      exact hx2
    clear_value x4
    refine raise_keeps (hm.mono (by rfl)) (hm.at .AWF_EVENT (by rfl)) ?_
    refine setAwfHead_keeps (hm.mono (by rfl)) ?_
    exact hx4

theorem initialSet_keeps {s : State} {p : Nat} (hm : Sub 0x200000000000000000000000C00006 M) (hs : Keeps M s0 s) :
    Keeps M s0 (State.initialSet s p) := by
  unfold State.initialSet
  apply keeps_ite
  · exact hs
  · extract_lets +onlyGivenNames x1
    have hx1 : Keeps M s0 x1.2 := by
      subst x1
      refine drawFree_keeps (hm.mono (by rfl)) ?_
      exact hs
    clear_value x1
    extract_lets +onlyGivenNames x2
    have hx2 : Keeps M s0 x2 := by
      subst x2
      refine commitExposure_keeps (hm.mono (by rfl)) ?_
      exact hx1
    clear_value x2
    refine setCorPort_keeps (hm.mono (by rfl)) ?_
    exact hx2

theorem exposureRun_keeps {s : State} {p : Nat} (hm : Sub
    0x18400000000000000000000000000000000000000000000000000000000000000000000000000000000000000000000000000000018200100000000000000000000C04004 M) (hs : Keeps M s0 s) :
    Keeps M s0 (State.exposureRun s p) := by
  unfold State.exposureRun
  extract_lets +onlyGivenNames x1
  clear_value x1
  extract_lets +onlyGivenNames x2
  clear_value x2
  extract_lets +onlyGivenNames x3
  clear_value x3
  extract_lets +onlyGivenNames x4
  clear_value x4
  apply keeps_ite
  · refine put_keeps (hm.at .COR_EXP_STATE (by rfl)) ?_
    exact hs
  · extract_lets +onlyGivenNames x5
    have hx5 : Keeps M s0 x5 := by
      subst x5
      refine put_keeps (hm.at .COR_EXP_STATE (by rfl)) ?_
      exact hs
    clear_value x5
    extract_lets +onlyGivenNames x6
    clear_value x6
    extract_lets +onlyGivenNames x7
    clear_value x7
    apply keeps_ite
    · exact hx5
    · extract_lets +onlyGivenNames x8
      clear_value x8
      extract_lets +onlyGivenNames x9
      have hx9 : Keeps M s0 x9 := by
        subst x9
        apply keeps_ite
        · refine raise_keeps (hm.mono (by rfl)) (hm.at .COR_EVENT (by rfl)) ?_
          refine count_keeps (hm.at .COR_EXP_LIMIT_CNT (by rfl)) ?_
          refine put_keeps (hm.at .COR_EXP_STATE (by rfl)) ?_
          exact hx5
        · exact hx5
      clear_value x9
      apply keeps_ite
      · exact hx9
      · extract_lets +onlyGivenNames x10
        have hx10 : Keeps M s0 x10 := by
          subst x10
          refine count_keeps (hm.at .COR_EXP_CHANGE_CNT (by rfl)) ?_
          refine commitExposure_keeps (hm.mono (by rfl)) ?_
          exact hx9
        clear_value x10
        refine putB_keeps (hm.at .COR_EXP_STATE (by rfl)) ?_
        exact hx10

theorem fillBank_keeps {s : State} {h : Nat} {res : List (Option Int)} (hm : Sub 0x80 M) (hs : Keeps M s0 s) :
    Keeps M s0 (State.fillBank s h res) := by
  unfold State.fillBank
  extract_lets +onlyGivenNames x1
  clear_value x1
  extract_lets +onlyGivenNames x2
  clear_value x2
  apply keeps_forBelow
  · intro x3 t4 h5
    extract_lets +onlyGivenNames x6
    clear_value x6
    extract_lets +onlyGivenNames x7
    clear_value x7
    extract_lets +onlyGivenNames x8
    clear_value x8
    extract_lets +onlyGivenNames x9
    clear_value x9
    refine setTab_keeps (hm.mono (by rfl)) ?_
    exact h5
  · exact hs

theorem ffComplete_keeps {s : State} {h : Nat} (hm : Sub
    0x18400000000000000000000000000000000000000000000000000000000000000000000000000000000000000000000000000000007202D00000000000000000000C25084 M) (hs : Keeps M s0 s) :
    Keeps M s0 (State.ffComplete s h) := by
  unfold State.ffComplete
  extract_lets +onlyGivenNames x1
  clear_value x1
  split
  · exact hs
  · apply keeps_ite
    · exact hs
    · extract_lets +onlyGivenNames x2
      clear_value x2
      extract_lets +onlyGivenNames x3
      clear_value x3
      extract_lets +onlyGivenNames x4
      clear_value x4
      extract_lets +onlyGivenNames x5
      have hx5 : Keeps M s0 x5 := by
        subst x5
        apply keeps_ite
        · exact hs
        · refine count_keeps (hm.at .COR_FF_REJ_CNT (by rfl)) ?_
          exact hs
      clear_value x5
      extract_lets +onlyGivenNames x6
      clear_value x6
      extract_lets +onlyGivenNames x7
      have hx7 : Keeps M s0 x7 := by
        subst x7
        refine wr_keeps (hm.at .COR_FF_LAST (by rfl)) ?_
        exact hx5
      clear_value x7
      apply keeps_ite
      · extract_lets +onlyGivenNames x8
        have hx8 : Keeps M s0 x8 := by
          subst x8
          refine raise_keeps (hm.mono (by rfl)) (hm.at .COR_EVENT (by rfl)) ?_
          refine count_keeps (hm.at .COR_FF_FAIL_CNT (by rfl)) ?_
          exact hx7
        clear_value x8
        extract_lets +onlyGivenNames x9
        have hx9 : Keeps M s0 x9 := by
          subst x9
          refine ffDrop_keeps (hm.mono (by rfl)) ?_
          exact hx8
        clear_value x9
        apply keeps_ite
        · refine setCorHead_keeps (hm.mono (by rfl)) ?_
          exact hx9
        · exact hx9
      · extract_lets +onlyGivenNames x10
        clear_value x10
        extract_lets +onlyGivenNames x11
        have hx11 : Keeps M s0 x11 := by
          subst x11
          refine raise_keeps (hm.mono (by rfl)) (hm.at .COR_EVENT (by rfl)) ?_
          refine count_keeps (hm.at .COR_FF_ACCEPT_CNT (by rfl)) ?_
          exact hx7
        clear_value x11
        extract_lets +onlyGivenNames x12
        have hx12 : Keeps M s0 x12 := by
          subst x12
          refine putFfState_keeps (hm.mono (by rfl)) ?_
          refine setCorHead_keeps (hm.mono (by rfl)) ?_
          exact hx11
        clear_value x12
        apply keeps_ite
        · extract_lets +onlyGivenNames x13
          have hx13 : Keeps M s0 x13 := by
            subst x13
            refine putB_keeps (hm.at .COR_OFS_OLD (by rfl)) ?_
            exact hx12
          clear_value x13
          extract_lets +onlyGivenNames x14
          subst x14
          extract_lets +onlyGivenNames x15
          have hx15 : Keeps M s0 x15 := by
            subst x15
            apply keeps_ite
            · refine upd_glb_keeps (hm.mono (by rfl)) (.inr rfl) (.inr rfl) (.inr rfl) ?_
              exact hx13
            · exact hx13
          clear_value x15
          refine calibGroup_keeps (hm.mono (by rfl)) ?_
          exact hx15
        · extract_lets +onlyGivenNames x16
          clear_value x16
          extract_lets +onlyGivenNames x17
          have hx17 : Keeps M s0 x17 := by
            subst x17
            refine setCorHead_keeps (hm.mono (by rfl)) ?_
            exact hx12
          clear_value x17
          extract_lets +onlyGivenNames x18
          subst x18
          extract_lets +onlyGivenNames x19
          have hx19 : Keeps M s0 x19 := by
            subst x19
            apply keeps_ite
            · refine upd_glb_keeps (hm.mono (by rfl)) (.inr rfl) (.inr rfl) (.inr rfl) ?_
              exact hx17
            · refine fillBank_keeps (hm.mono (by rfl)) ?_
              exact hx17
          clear_value x19
          extract_lets +onlyGivenNames x20
          clear_value x20
          extract_lets +onlyGivenNames x21
          have hx21 : Keeps M s0 x21 := by
            subst x21
            apply keeps_ite
            · refine setCamPort_keeps (hm.mono (by rfl)) ?_
              exact hx19
            · exact hx19
          clear_value x21
          extract_lets +onlyGivenNames x22
          clear_value x22
          refine calibGroup_keeps (hm.mono (by rfl)) ?_
          exact hx21

theorem writeResult_keeps {s : State} {h : Nat} {r : FfRun} (hm : Sub 0x80 M) (hs : Keeps M s0 s) :
    Keeps M s0 (State.writeResult s h r) := by
  unfold State.writeResult
  apply keeps_forBelow
  · intro x1 t2 h3
    extract_lets +onlyGivenNames x4
    clear_value x4
    extract_lets +onlyGivenNames x5
    clear_value x5
    extract_lets +onlyGivenNames x6
    have hx6 : Keeps M s0 x6 := by
      subst x6
      split
      · exact h3
      · apply keeps_ite
        · refine setTab_keeps (hm.mono (by rfl)) ?_
          exact h3
        · refine setTab_keeps (hm.mono (by rfl)) ?_
          exact h3
    clear_value x6
    apply keeps_ite
    · exact hx6
    · refine setTab_keeps (hm.mono (by rfl)) ?_
      exact hx6
  · exact hs

theorem ffWriteDone_keeps {s : State} {h : Nat} (hm : Sub 0x800000000000000000000800080 M) (hs : Keeps M s0 s) :
    Keeps M s0 (State.ffWriteDone s h) := by
  unfold State.ffWriteDone
  extract_lets +onlyGivenNames x1
  clear_value x1
  split
  · exact hs
  · apply keeps_ite
    · refine putFfState_keeps (hm.mono (by rfl)) ?_
      refine setCorHead_keeps (hm.mono (by rfl)) ?_
      refine writeResult_keeps (hm.mono (by rfl)) ?_
      exact hs
    · exact hs

end Sys2Proof.Machine
end

