-- ==== Sys2Proof/Laws/KeepsLabel.lean ====
section
/-! SUPPORT. Laws/KeepsLabel.lean: the same for the labeler and its records, said once as Keeps (Safety.lean). -/

namespace Sys2Proof.Machine

variable {s0 : State} {M : Nat}

theorem retire_keeps {s : State} {keep : Label → Bool} (hm : Sub 0x2000000 M) (hs : Keeps M s0 s) :
    Keeps M s0 (State.retire s keep) := by
  unfold State.retire
  extract_lets +onlyGivenNames x1
  clear_value x1
  refine upd_seg_keeps (hm.mono (by rfl)) ?_
  exact hs

theorem accOvf_keeps {s : State} {ovf : Bool} (hm : Sub
    0x18400000000000000000000000000000000000000000000000000000000000000000000000000000001000008000000000000000000000000000000000000000000004000 M) (hs : Keeps M s0 s) :
    Keeps M s0 (State.accOvf s ovf) := by
  unfold State.accOvf
  apply keeps_ite
  · refine raise_keeps (hm.mono (by rfl)) (hm.at .OBJ_EVENT (by rfl)) ?_
    refine count_keeps (hm.at .OBJ_ACC_OVF_CNT (by rfl)) ?_
    exact hs
  · exact hs

theorem setObj_keeps {s : State} {o : Obj} (hm : Sub 0x2000000 M) (hs : Keeps M s0 s) :
    Keeps M s0 (State.setObj s o) := by
  unfold State.setObj
  refine upd_seg_keeps (hm.mono (by rfl)) ?_
  exact hs

theorem spill_keeps {s : State} {o : Obj} {j : Join} (hm : Sub
    0x18400000080010000000000000003800200000000000000000000000000000000000000000000000000800008000000000000000000000000000000000000000000184200 M) (hs : Keeps M s0 s) :
    Keeps M s0 (State.spill s o j) := by
  unfold State.spill
  extract_lets +onlyGivenNames x1
  clear_value x1
  extract_lets +onlyGivenNames x2
  clear_value x2
  extract_lets +onlyGivenNames x3
  have hx3 : Keeps M s0 x3 := by
    subst x3
    refine formRecord_keeps (hm.mono (by rfl)) ?_
    exact hs
  clear_value x3
  refine raise_keeps (hm.mono (by rfl)) (hm.at .OBJ_EVENT (by rfl)) ?_
  refine count_keeps (hm.at .OBJ_SPILL_CNT (by rfl)) ?_
  exact hx3

theorem ctxPeaks_keeps {s : State} (hm : Sub 0x60000000000000000000000000000000000000000002000000 M) (hs : Keeps M s0 s) :
    Keeps M s0 (State.ctxPeaks s) := by
  unfold State.ctxPeaks
  extract_lets +onlyGivenNames x1
  clear_value x1
  extract_lets +onlyGivenNames x2
  clear_value x2
  extract_lets +onlyGivenNames x3
  have hx3 : Keeps M s0 x3 := by
    subst x3
    refine upd_seg_keeps (hm.mono (by rfl)) ?_
    exact hs
  clear_value x3
  refine put_keeps (hm.at .OBJ_JOIN_STATUS (by rfl)) ?_
  refine put_keeps (hm.at .OBJ_CTX_STATUS (by rfl)) ?_
  exact hx3

theorem absorb_keeps {s : State} {a : Obj} {b : Obj} (hm : Sub
    0x18400000080010000000000000003800200000000000000000000000000000000000000000000000001800068020000000000000000000000000000000000000002184200 M) (hs : Keeps M s0 s) :
    Keeps M s0 (State.absorb s a b) := by
  unfold State.absorb
  extract_lets +onlyGivenNames x1
  clear_value x1
  extract_lets +onlyGivenNames x2
  clear_value x2
  extract_lets +onlyGivenNames x3
  clear_value x3
  extract_lets +onlyGivenNames x4
  clear_value x4
  extract_lets +onlyGivenNames x5
  clear_value x5
  extract_lets +onlyGivenNames x6
  clear_value x6
  extract_lets +onlyGivenNames x7
  clear_value x7
  extract_lets +onlyGivenNames x8
  have hx8 : Keeps M s0 x8 := by
    subst x8
    refine retire_keeps (hm.mono (by rfl)) ?_
    refine upd_seg_keeps (hm.mono (by rfl)) ?_
    exact hs
  clear_value x8
  extract_lets +onlyGivenNames x9
  have hx9 : Keeps M s0 x9 := by
    subst x9
    refine accOvf_keeps (hm.mono (by rfl)) ?_
    refine setObj_keeps (hm.mono (by rfl)) ?_
    exact hx8
  clear_value x9
  extract_lets +onlyGivenNames x10
  have hx10 : Keeps M s0 x10 := by
    subst x10
    split
    · apply keeps_ite
      · refine spill_keeps (hm.mono (by rfl)) ?_
        exact hx9
      · exact hx9
    · exact hx9
  clear_value x10
  refine ctxPeaks_keeps (hm.mono (by rfl)) ?_
  refine count_keeps (hm.at .SEG_MERGE_CNT (by rfl)) ?_
  exact hx10

theorem overflowExit_keeps {s : State} {h : Nat} (hm : Sub
    0x18400000000000000000000000000000000000000000000000000000000000000000000000000000000000000000008400000000000000000000000000000000002004000 M) (hs : Keeps M s0 s) :
    Keeps M s0 (State.overflowExit s h) := by
  unfold State.overflowExit
  extract_lets +onlyGivenNames x1
  clear_value x1
  extract_lets +onlyGivenNames x2
  have hx2 : Keeps M s0 x2 := by
    subst x2
    refine setSegHead_keeps (hm.mono (by rfl)) ?_
    exact hs
  clear_value x2
  refine raise_keeps (hm.mono (by rfl)) (hm.at .SEG_EVENT (by rfl)) ?_
  refine putB_keeps (hm.at .SEG_OVF_STATE (by rfl)) ?_
  exact hx2

theorem crossLabel_keeps {s : State} {i : LineInfo} (hm : Sub
    0x18400000080010000000000000003800200000000000000000000000000000000000000000000000000000000010048400000000000000000000000000000000002384210 M) (hs : Keeps M s0 s) :
    Keeps M s0 (State.crossLabel s i) := by
  unfold State.crossLabel
  extract_lets +onlyGivenNames x1
  clear_value x1
  apply keeps_ite
  · extract_lets +onlyGivenNames x2
    clear_value x2
    extract_lets +onlyGivenNames x3
    have hx3 : Keeps M s0 x3 := by
      subst x3
      refine setSegHead_keeps (hm.mono (by rfl)) ?_
      exact hs
    clear_value x3
    extract_lets +onlyGivenNames x4
    clear_value x4
    extract_lets +onlyGivenNames x5
    have hx5 : Keeps M s0 x5 := by
      subst x5
      refine flushAggs_keeps (hm.mono (by rfl)) ?_
      exact hx3
    clear_value x5
    extract_lets +onlyGivenNames x6
    have hx6 : Keeps M s0 x6 := by
      subst x6
      refine gapOutEnd_keeps (hm.mono (by rfl)) ?_
      exact hx5
    clear_value x6
    extract_lets +onlyGivenNames x7
    have hx7 : Keeps M s0 x7 := by
      subst x7
      refine latch_keeps (hm.mono (by rfl)) ?_
      exact hx6
    clear_value x7
    extract_lets +onlyGivenNames x8
    have hx8 : Keeps M s0 x8 := by
      subst x8
      refine retire_keeps (hm.mono (by rfl)) ?_
      exact hx7
    clear_value x8
    refine levelCauses_keeps (hm.mono (by rfl)) ?_
    apply keeps_ite
    · refine overflowExit_keeps (hm.mono (by rfl)) ?_
      exact hx8
    · exact hx8
  · exact hs

theorem queueClose_keeps {s : State} {oid : Oid} (hm : Sub 0x2000000 M) (hs : Keeps M s0 s) :
    Keeps M s0 (State.queueClose s oid) := by
  unfold State.queueClose
  split
  · exact hs
  · extract_lets +onlyGivenNames x1
    have hx1 : Keeps M s0 x1 := by
      subst x1
      refine setObj_keeps (hm.mono (by rfl)) ?_
      exact hs
    clear_value x1
    refine retire_keeps (hm.mono (by rfl)) ?_
    refine upd_seg_keeps (hm.mono (by rfl)) ?_
    exact hx1

theorem closeHeadTrunc_keeps {s : State} {h : Nat} (hm : Sub
    0x18400000000000000000000000000000000000000000000000000000000000000000000000000000003000008000000000000000000000000000000000000000002004000 M) (hs : Keeps M s0 s) :
    Keeps M s0 (State.closeHeadTrunc s h) := by
  unfold State.closeHeadTrunc
  apply keeps_foldl
  · intro t1 x2 h3
    extract_lets +onlyGivenNames x4
    clear_value x4
    extract_lets +onlyGivenNames x5
    clear_value x5
    extract_lets +onlyGivenNames x6
    clear_value x6
    extract_lets +onlyGivenNames x7
    clear_value x7
    extract_lets +onlyGivenNames x8
    clear_value x8
    extract_lets +onlyGivenNames x9
    clear_value x9
    refine count_keeps (hm.at .OBJ_TRUNC_CNT (by rfl)) ?_
    refine queueClose_keeps (hm.mono (by rfl)) ?_
    refine accOvf_keeps (hm.mono (by rfl)) ?_
    refine setObj_keeps (hm.mono (by rfl)) ?_
    exact h3
  · exact hs

theorem overflowPoint_keeps {s : State} {i : LineInfo} {cause : Nat} (hm : Sub
    0x18400000000000000000000000000000000000000000000000000000000000000000000000000000003000008007828400000000000000000000000000000000002004000 M) (hs : Keeps M s0 s) :
    Keeps M s0 (State.overflowPoint s i cause) := by
  unfold State.overflowPoint
  extract_lets +onlyGivenNames x1
  clear_value x1
  apply keeps_ite
  · exact hs
  · extract_lets +onlyGivenNames x2
    have hx2 : Keeps M s0 x2 := by
      subst x2
      refine retire_keeps (hm.mono (by rfl)) ?_
      refine closeHeadTrunc_keeps (hm.mono (by rfl)) ?_
      exact hs
    clear_value x2
    extract_lets +onlyGivenNames x3
    clear_value x3
    extract_lets +onlyGivenNames x4
    have hx4 : Keeps M s0 x4 := by
      subst x4
      refine setSegHead_keeps (hm.mono (by rfl)) ?_
      exact hx2
    clear_value x4
    extract_lets +onlyGivenNames x5
    have hx5 : Keeps M s0 x5 := by
      subst x5
      refine putB_keeps (hm.at .SEG_OVF_STATE (by rfl)) ?_
      exact hx4
    clear_value x5
    extract_lets +onlyGivenNames x6
    have hx6 : Keeps M s0 x6 := by
      subst x6
      refine wr_keeps (hm.at .SEG_LAST_OVF (by rfl)) ?_
      exact hx5
    clear_value x6
    extract_lets +onlyGivenNames x7
    have hx7 : Keeps M s0 x7 := by
      subst x7
      refine count_keeps (hm.at .SEG_OVF_ENTER_CNT (by rfl)) ?_
      exact hx6
    clear_value x7
    extract_lets +onlyGivenNames x8
    have hx8 : Keeps M s0 x8 := by
      subst x8
      apply keeps_ite
      · refine count_keeps (hm.at .SEG_OVF_FIFO_CNT (by rfl)) ?_
        exact hx7
      · exact hx7
    clear_value x8
    extract_lets +onlyGivenNames x9
    have hx9 : Keeps M s0 x9 := by
      subst x9
      apply keeps_ite
      · refine count_keeps (hm.at .SEG_OVF_LBL_CNT (by rfl)) ?_
        exact hx8
      · exact hx8
    clear_value x9
    extract_lets +onlyGivenNames x10
    have hx10 : Keeps M s0 x10 := by
      subst x10
      apply keeps_ite
      · refine count_keeps (hm.at .SEG_OVF_CTX_CNT (by rfl)) ?_
        exact hx9
      · exact hx9
    clear_value x10
    refine raise_keeps (hm.mono (by rfl)) (hm.at .SEG_EVENT (by rfl)) ?_
    exact hx10

theorem allocObj_keeps {s : State} {r : Run} (hm : Sub 0x660000000000000000000000000000000000000000002000000 M) (hs : Keeps
    M s0 s) :
    Keeps M s0 (State.allocObj s r).1 := by
  unfold State.allocObj
  extract_lets +onlyGivenNames x1
  clear_value x1
  extract_lets +onlyGivenNames x2
  have hx2 : Keeps M s0 x2 := by
    subst x2
    refine setPair_keeps (hm.at .OBJ_OID_L (by rfl)) (hm.at .OBJ_OID_H (by rfl)) ?_
    exact hs
  clear_value x2
  extract_lets +onlyGivenNames x3
  clear_value x3
  dsimp only
  refine ctxPeaks_keeps (hm.mono (by rfl)) ?_
  refine upd_seg_keeps (hm.mono (by rfl)) ?_
  exact hx2

theorem addLabel_keeps {s : State} {r : Run} {oid : Oid} (hm : Sub 0x4000000000000000000000000000000000002000000 M) (hs :
    Keeps M s0 s) :
    Keeps M s0 (State.addLabel s r oid) := by
  unfold State.addLabel
  extract_lets +onlyGivenNames x1
  clear_value x1
  extract_lets +onlyGivenNames x2
  have hx2 : Keeps M s0 x2 := by
    subst x2
    refine upd_seg_keeps (hm.mono (by rfl)) ?_
    exact hs
  clear_value x2
  refine put_keeps (hm.at .SEG_LBL_PEAK (by rfl)) ?_
  exact hx2

theorem runIntoObj_keeps {s : State} {o : Obj} {r : Run} (hm : Sub
    0x18400000000000000000000000000000000000000000000000000000000000000000000000000000001000008000000000000000000000000000000000000000002004000 M) (hs : Keeps M s0 s) :
    Keeps M s0 (State.runIntoObj s o r) := by
  unfold State.runIntoObj
  extract_lets +onlyGivenNames x1
  clear_value x1
  extract_lets +onlyGivenNames x2
  clear_value x2
  extract_lets +onlyGivenNames x3
  clear_value x3
  extract_lets +onlyGivenNames x4
  clear_value x4
  extract_lets +onlyGivenNames x5
  clear_value x5
  extract_lets +onlyGivenNames x6
  clear_value x6
  extract_lets +onlyGivenNames x7
  clear_value x7
  refine accOvf_keeps (hm.mono (by rfl)) ?_
  refine setObj_keeps (hm.mono (by rfl)) ?_
  exact hs

theorem takeRun_keeps {s : State} {r : Run} (hm : Sub
    0x1840000008001000000000000000380020000000000000000000000000000000000000000000000000380066802782C400000000000000000000000000000000002184200 M) (hs : Keeps M s0 s) :
    Keeps M s0 (State.takeRun s r) := by
  unfold State.takeRun
  extract_lets +onlyGivenNames x1
  clear_value x1
  apply keeps_ite
  · refine aggregate_keeps (hm.mono (by rfl)) ?_
    exact hs
  · apply keeps_ite
    · refine aggregate_keeps (hm.mono (by rfl)) ?_
      refine overflowPoint_keeps (hm.mono (by rfl)) ?_
      exact hs
    · split
      · apply keeps_ite
        · refine aggregate_keeps (hm.mono (by rfl)) ?_
          refine overflowPoint_keeps (hm.mono (by rfl)) ?_
          exact hs
        · extract_lets +onlyGivenNames x2
          have hx2 : Keeps M s0 x2.1 := by
            subst x2
            refine allocObj_keeps (hm.mono (by rfl)) ?_
            exact hs
          clear_value x2
          split
          · exact hx2
          · refine addLabel_keeps (hm.mono (by rfl)) ?_
            refine runIntoObj_keeps (hm.mono (by rfl)) ?_
            exact hx2
      · extract_lets +onlyGivenNames x3
        have hx3 : Keeps M s0 x3 := by
          subst x3
          apply keeps_foldl
          · intro t4 x5 h6
            split
            · refine absorb_keeps (hm.mono (by rfl)) ?_
              exact h6
            · exact h6
          · exact hs
        clear_value x3
        split
        · exact hx3
        · refine addLabel_keeps (hm.mono (by rfl)) ?_
          refine runIntoObj_keeps (hm.mono (by rfl)) ?_
          exact hx3

theorem takeBudget_keeps {s : State} {w : Nat} (hm : Sub 0x2000000 M) (hs : Keeps M s0 s) :
    Keeps M s0 (State.takeBudget s w) := by
  unfold State.takeBudget
  extract_lets +onlyGivenNames x1
  clear_value x1
  refine upd_seg_keeps (hm.mono (by rfl)) ?_
  exact hs

theorem queueMark_keeps {s : State} {m : MarkReq} (hm : Sub 0x2000000 M) (hs : Keeps M s0 s) :
    Keeps M s0 (State.queueMark s m) := by
  unfold State.queueMark
  refine upd_seg_keeps (hm.mono (by rfl)) ?_
  exact hs

theorem openObj_keeps {s : State} {o : Obj} {p : Nat} {rule : Nat} (hm : Sub
    0x184000000800100000000000000038002000000000000000000000000000000000000000000000000000C4008000000000000000000000000000000000000000002184200 M) (hs : Keeps M s0 s) :
    Keeps M s0 (State.openObj s o p rule) := by
  unfold State.openObj
  extract_lets +onlyGivenNames x1
  clear_value x1
  extract_lets +onlyGivenNames x2
  clear_value x2
  extract_lets +onlyGivenNames x3
  clear_value x3
  extract_lets +onlyGivenNames x4
  clear_value x4
  extract_lets +onlyGivenNames x5
  clear_value x5
  extract_lets +onlyGivenNames x6
  have hx6 : Keeps M s0 x6 := by
    subst x6
    apply keeps_ite
    · refine raise_keeps (hm.mono (by rfl)) (hm.at .OBJ_EVENT (by rfl)) ?_
      refine count_keeps (hm.at .OBJ_LATE_CNT (by rfl)) ?_
      exact hs
    · exact hs
  clear_value x6
  extract_lets +onlyGivenNames x7
  have hx7 : Keeps M s0 x7 := by
    subst x7
    apply keeps_ite
    · refine raise_keeps (hm.mono (by rfl)) (hm.at .OBJ_EVENT (by rfl)) ?_
      refine count_keeps (hm.at .OBJ_BUDGET_OVF_CNT (by rfl)) ?_
      exact hx6
    · exact hx6
  clear_value x7
  extract_lets +onlyGivenNames x8
  have hx8 : Keeps M s0 x8 := by
    subst x8
    apply keeps_ite
    · refine takeBudget_keeps (hm.mono (by rfl)) ?_
      exact hx7
    · exact hx7
  clear_value x8
  extract_lets +onlyGivenNames x9
  clear_value x9
  extract_lets +onlyGivenNames x10
  clear_value x10
  extract_lets +onlyGivenNames x11
  clear_value x11
  extract_lets +onlyGivenNames x12
  clear_value x12
  extract_lets +onlyGivenNames x13
  clear_value x13
  extract_lets +onlyGivenNames x14
  have hx14 : Keeps M s0 x14 := by
    subst x14
    refine setObj_keeps (hm.mono (by rfl)) ?_
    exact hx8
  clear_value x14
  extract_lets +onlyGivenNames x15
  have hx15 : Keeps M s0 x15 := by
    subst x15
    refine formRecord_keeps (hm.mono (by rfl)) ?_
    exact hx14
  clear_value x15
  extract_lets +onlyGivenNames x16
  have hx16 : Keeps M s0 x16 := by
    subst x16
    refine count_keeps (hm.at .OBJ_OPEN_CNT (by rfl)) ?_
    exact hx15
  clear_value x16
  apply keeps_ite
  · refine queueMark_keeps (hm.mono (by rfl)) ?_
    exact hx16
  · exact hx16

theorem evalOpen_keeps {s : State} {o : Obj} (hm : Sub
    0x184000000800100000000000000038002000000000000000000000000000000000000000000000000000C4008000000000000000000000000000000000000000002184200 M) (hs : Keeps M s0 s) :
    Keeps M s0 (State.evalOpen s o) := by
  unfold State.evalOpen
  extract_lets +onlyGivenNames x1
  clear_value x1
  apply keeps_ite
  · refine openObj_keeps (hm.mono (by rfl)) ?_
    exact hs
  · exact hs

theorem streakEnd_keeps {s : State} {o : Obj} (hm : Sub
    0x18400000080010000000000000003800200000000000000000000000000000000000000000000000000010000000000000000000000000000000000000000000002184200 M) (hs : Keeps M s0 s) :
    Keeps M s0 (State.streakEnd s o) := by
  unfold State.streakEnd
  extract_lets +onlyGivenNames x1
  clear_value x1
  extract_lets +onlyGivenNames x2
  subst x2
  apply keeps_ite
  · extract_lets +onlyGivenNames x3
    clear_value x3
    extract_lets +onlyGivenNames x4
    have hx4 : Keeps M s0 x4 := by
      subst x4
      refine formRecord_keeps (hm.mono (by rfl)) ?_
      exact hs
    clear_value x4
    refine setObj_keeps (hm.mono (by rfl)) ?_
    refine count_keeps (hm.at .OBJ_UPDATE_CNT (by rfl)) ?_
    exact hx4
  · refine setObj_keeps (hm.mono (by rfl)) ?_
    exact hs

theorem objAtEol_keeps {s : State} {oid : Oid} {n : LineNo} (hm : Sub
    0x184000000800100000000000000038002000000000000000000000000000000000000000000000000010D4008000000000000000000000000000000000000000002184200 M) (hs : Keeps M s0 s) :
    Keeps M s0 (State.objAtEol s oid n) := by
  unfold State.objAtEol
  split
  · exact hs
  · extract_lets +onlyGivenNames x1
    clear_value x1
    extract_lets +onlyGivenNames x2
    clear_value x2
    extract_lets +onlyGivenNames x3
    clear_value x3
    extract_lets +onlyGivenNames x4
    clear_value x4
    extract_lets +onlyGivenNames x5
    clear_value x5
    extract_lets +onlyGivenNames x6
    have hx6 : Keeps M s0 x6 := by
      subst x6
      refine accOvf_keeps (hm.mono (by rfl)) ?_
      refine setObj_keeps (hm.mono (by rfl)) ?_
      exact hs
    clear_value x6
    extract_lets +onlyGivenNames x7
    have hx7 : Keeps M s0 x7 := by
      subst x7
      apply keeps_ite
      · refine evalOpen_keeps (hm.mono (by rfl)) ?_
        exact hx6
      · exact hx6
    clear_value x7
    extract_lets +onlyGivenNames x8
    clear_value x8
    apply keeps_ite
    · apply keeps_ite
      · refine streakEnd_keeps (hm.mono (by rfl)) ?_
        exact hx7
      · exact hx7
    · extract_lets +onlyGivenNames x9
      clear_value x9
      apply keeps_ite
      · refine queueClose_keeps (hm.mono (by rfl)) ?_
        exact hx7
      · exact hx7

theorem bookNext_keeps {s : State} (hm : Sub 0x4020000 M) (hs : Keeps M s0 s) :
    Keeps M s0 (State.bookNext s) := by
  unfold State.bookNext
  split
  · exact hs
  · apply keeps_ite
    · extract_lets +onlyGivenNames x1
      clear_value x1
      extract_lets +onlyGivenNames x2
      have hx2 : Keeps M s0 x2 := by
        subst x2
        refine upd_sti_keeps (hm.mono (by rfl)) ?_
        exact hs
      clear_value x2
      extract_lets +onlyGivenNames x3
      have hx3 : Keeps M s0 x3 := by
        subst x3
        apply keeps_foldl
        · intro t4 x5 h6
          refine calibGroup_keeps (hm.mono (by rfl)) ?_
          exact h6
        · exact hx2
      clear_value x3
      apply keeps_ite
      · exact hx3
      · refine calibGroup_keeps (hm.mono (by rfl)) ?_
        exact hx3
    · exact hs

theorem bookCross_keeps {s : State} (hm : Sub 0x4020000 M) (hs : Keeps M s0 s) :
    Keeps M s0 (State.bookCross s) := by
  unfold State.bookCross
  apply keeps_forBelow
  · intro x1 t2 h3
    refine bookNext_keeps (hm.mono (by rfl)) ?_
    exact h3
  · exact hs

theorem sendFrontier_keeps {s : State} {h : Nat} (hm : Sub
    0x18400000080010000000000000000000000000000000000000000000000000000000000000000000000000000000000000000000000000000000000000000000000104000 M) (hs : Keeps M s0 s) :
    Keeps M s0 (State.sendFrontier s h) := by
  unfold State.sendFrontier
  split
  · apply keeps_ite
    · refine fabSend_keeps (hm.mono (by rfl)) ?_
      exact hs
    · exact hs
  · exact hs

theorem bookSettle_keeps {s : State} {h : Nat} {next : LineNo × YPos} (hm : Sub 0x20000020000 M) (hs : Keeps M s0 s) :
    Keeps M s0 (State.bookSettle s h next) := by
  unfold State.bookSettle
  extract_lets +onlyGivenNames x1
  clear_value x1
  apply keeps_ite
  · exact hs
  · extract_lets +onlyGivenNames x2
    clear_value x2
    refine upd_pwr_keeps (hm.mono (by rfl)) (.inl (hm.bit (by rfl))) (.inr rfl) (.inr rfl) (.inr rfl) ?_
    exact hs

theorem applyMarker_keeps {s : State} {i : LineInfo} (hm : Sub
    0x184000000800100000000000000038002000000000000000000000000000000000000000000000000010D50080080000000000000000000000000000000000200063A4210 M) (hs : Keeps M s0 s) :
    Keeps M s0 (State.applyMarker s i) := by
  unfold State.applyMarker
  extract_lets +onlyGivenNames x1
  clear_value x1
  extract_lets +onlyGivenNames x2
  clear_value x2
  extract_lets +onlyGivenNames x3
  have hx3 : Keeps M s0 x3 := by
    subst x3
    apply keeps_ite
    · refine latch_keeps (hm.mono (by rfl)) ?_
      exact hs
    · exact hs
  clear_value x3
  extract_lets +onlyGivenNames x4
  clear_value x4
  extract_lets +onlyGivenNames x5
  have hx5 : Keeps M s0 x5 := by
    subst x5
    apply keeps_foldl
    · intro t6 x7 h8
      refine objAtEol_keeps (hm.mono (by rfl)) ?_
      exact h8
    · exact hx3
  clear_value x5
  extract_lets +onlyGivenNames x9
  have hx9 : Keeps M s0 x9 := by
    subst x9
    refine retire_keeps (hm.mono (by rfl)) ?_
    exact hx5
  clear_value x9
  extract_lets +onlyGivenNames x10
  have hx10 : Keeps M s0 x10 := by
    subst x10
    apply keeps_ite
    · refine count_keeps (hm.at .SEG_OVF_LINE_CNT (by rfl)) ?_
      refine gapOut_keeps (hm.mono (by rfl)) ?_
      exact hx9
    · exact hx9
  clear_value x10
  extract_lets +onlyGivenNames x11
  clear_value x11
  extract_lets +onlyGivenNames x12
  have hx12 : Keeps M s0 x12 := by
    subst x12
    refine setSegHead_keeps (hm.mono (by rfl)) ?_
    exact hx10
  clear_value x12
  refine bookCross_keeps (hm.mono (by rfl)) ?_
  refine sendFrontier_keeps (hm.mono (by rfl)) ?_
  refine bookSettle_keeps (hm.mono (by rfl)) ?_
  exact hx12

theorem takeFront_keeps {s : State} (hm : Sub
    0x184000000800100000000000000038002000000000000000000000000000000000000000000000000038D566803F86C4000000000000000000000000000000200063A4210 M) (hs : Keeps M s0 s) :
    Keeps M s0 (State.takeFront s) := by
  unfold State.takeFront
  split
  · exact hs
  · extract_lets +onlyGivenNames x1
    have hx1 : Keeps M s0 x1 := by
      subst x1
      refine crossLabel_keeps (hm.mono (by rfl)) ?_
      exact hs
    clear_value x1
    extract_lets +onlyGivenNames x2
    clear_value x2
    extract_lets +onlyGivenNames x3
    have hx3 : Keeps M s0 x3 := by
      subst x3
      refine upd_seg_keeps (hm.mono (by rfl)) ?_
      exact hx1
    clear_value x3
    extract_lets +onlyGivenNames x4
    have hx4 : Keeps M s0 x4 := by
      subst x4
      split
      · refine takeRun_keeps (hm.mono (by rfl)) ?_
        exact hx3
      · refine applyMarker_keeps (hm.mono (by rfl)) ?_
        exact hx3
      · refine overflowPoint_keeps (hm.mono (by rfl)) ?_
        exact hx3
    clear_value x4
    refine levelCauses_keeps (hm.mono (by rfl)) ?_
    exact hx4

theorem drainFifo_keeps {s : State} (hm : Sub
    0x184000000800100000000000000038002000000000000000000000000000000000000000000000000038D566803F86C4000000000000000000000000000000200063A4210 M) (hs : Keeps M s0 s) :
    Keeps M s0 (State.drainFifo s) := by
  unfold State.drainFifo
  apply keeps_forBelow
  · intro x1 t2 h3
    refine takeFront_keeps (hm.mono (by rfl)) ?_
    exact h3
  · exact hs

theorem overflowDrain_keeps {s : State} {h : Nat} (hm : Sub
    0x18400000080010000000000000003800200000000000000000000000000000000000000000000000000000000010008400000000000000000000000000000000002384200 M) (hs : Keeps M s0 s) :
    Keeps M s0 (State.overflowDrain s h) := by
  unfold State.overflowDrain
  apply keeps_ite
  · refine overflowExit_keeps (hm.mono (by rfl)) ?_
    refine gapClean_keeps (hm.mono (by rfl)) ?_
    refine flushAggs_keeps (hm.mono (by rfl)) ?_
    exact hs
  · refine flushAggs_keeps (hm.mono (by rfl)) ?_
    exact hs

theorem segStop_keeps {s : State} {h : Nat} (hm : Sub
    0x184000000800100000000000000038002000000000000000000000000000000000000000000000000038D566803F86C4000000000000000000000000000000200063A4210 M) (hs : Keeps M s0 s) :
    Keeps M s0 (State.segStop s h) := by
  unfold State.segStop
  extract_lets +onlyGivenNames x1
  have hx1 : Keeps M s0 x1 := by
    subst x1
    refine drainFifo_keeps (hm.mono (by rfl)) ?_
    exact hs
  clear_value x1
  refine overflowDrain_keeps (hm.mono (by rfl)) ?_
  refine retire_keeps (hm.mono (by rfl)) ?_
  refine closeHeadTrunc_keeps (hm.mono (by rfl)) ?_
  exact hx1

theorem requestSnip_keeps {s : State} {o : Obj} {c : Nat} (hm : Sub
    0x18400000000000000000000000000000000000000000000000000000000000000000000000000000000200008000000000000000000000000000000000000000002004000 M) (hs : Keeps M s0 s) :
    Keeps M s0 (State.requestSnip s o c).1 := by
  unfold State.requestSnip
  extract_lets +onlyGivenNames x1
  clear_value x1
  extract_lets +onlyGivenNames x2
  clear_value x2
  apply keeps_ite_fst
  · dsimp only
    refine upd_seg_keeps (hm.mono (by rfl)) ?_
    exact hs
  · dsimp only
    refine raise_keeps (hm.mono (by rfl)) (hm.at .OBJ_EVENT (by rfl)) ?_
    refine count_keeps (hm.at .OBJ_SNIP_DROP_CNT (by rfl)) ?_
    exact hs

theorem requestMark_keeps {s : State} {o : Obj} {c : Nat} (hm : Sub
    0x18400000000000000000000000000000000000000000000000000000000000000000000000000000000400008000000000000000000000000000000000000000002004000 M) (hs : Keeps M s0 s) :
    Keeps M s0 (State.requestMark s o c).1 := by
  unfold State.requestMark
  apply keeps_ite_fst
  · dsimp only
    refine queueMark_keeps (hm.mono (by rfl)) ?_
    exact hs
  · dsimp only
    refine raise_keeps (hm.mono (by rfl)) (hm.at .OBJ_EVENT (by rfl)) ?_
    refine count_keeps (hm.at .OBJ_MARK_DROP_CNT (by rfl)) ?_
    exact hs

theorem continuations_keeps {s : State} {o : Obj} {l : LClass} {cls : Nat} {rule : Nat} {flags : Nat} {js : List Join} {n :
    Nat} (hm : Sub
    0x18400000080010000000000000003800200000000000000000000000000000000000000000000000000000000000000000000000000000000000000000000000000184200 M) (hs : Keeps M s0 s) :
    Keeps M s0 (State.continuations s o l cls rule flags js n) := by
  unfold State.continuations
  split
  · exact hs
  · apply keeps_ite
    · exact hs
    · extract_lets +onlyGivenNames x1
      clear_value x1
      extract_lets +onlyGivenNames x2
      clear_value x2
      extract_lets +onlyGivenNames x3
      clear_value x3
      extract_lets +onlyGivenNames x4
      clear_value x4
      refine continuations_keeps (hm.mono (by rfl)) ?_
      refine formRecord_keeps (hm.mono (by rfl)) ?_
      exact hs

theorem formClose_keeps {s : State} {o : Obj} {l : LClass} {cls : Nat} {rule : Nat} {flags : Nat} {js : List Join} (hm :
    Sub
    0x18400000080010000000000000003800200000000000000000000000000000000000000000000000000000000000000000000000000000000000000000000000000184200 M) (hs : Keeps M s0 s) :
    Keeps M s0 (State.formClose s o l cls rule flags js) := by
  unfold State.formClose
  extract_lets +onlyGivenNames x1
  clear_value x1
  extract_lets +onlyGivenNames x2
  clear_value x2
  extract_lets +onlyGivenNames x3
  clear_value x3
  extract_lets +onlyGivenNames x4
  have hx4 : Keeps M s0 x4 := by
    subst x4
    refine formRecord_keeps (hm.mono (by rfl)) ?_
    exact hs
  clear_value x4
  refine continuations_keeps (hm.mono (by rfl)) ?_
  exact hx4

theorem finishClose_keeps {s : State} {o : Obj} {merged : Bool} {c : Nat} {rule : Nat} {js : List Join} (hm : Sub
    0x18400000080010000000000000003800200000000000000000000000000000000000000000000000004628008000000000000000000000000000000000000000002184200 M) (hs : Keeps M s0 s) :
    Keeps M s0 (State.finishClose s o merged c rule js) := by
  unfold State.finishClose
  extract_lets +onlyGivenNames x1
  clear_value x1
  extract_lets +onlyGivenNames x2
  clear_value x2
  apply keeps_ite
  · refine count_keeps (hm.at .OBJ_SMALL_CNT (by rfl)) ?_
    exact hs
  · extract_lets +onlyGivenNames x3
    have hx3 : Keeps M s0 x3.1 := by
      subst x3
      refine requestSnip_keeps (hm.mono (by rfl)) ?_
      exact hs
    clear_value x3
    extract_lets +onlyGivenNames x4
    have hx4 : Keeps M s0 x4.1 := by
      subst x4
      apply keeps_ite_fst
      · exact hx3
      · exact hs
    clear_value x4
    extract_lets +onlyGivenNames x5
    have hx5 : Keeps M s0 x5.1 := by
      subst x5
      refine requestMark_keeps (hm.mono (by rfl)) ?_
      exact hx4
    clear_value x5
    extract_lets +onlyGivenNames x6
    have hx6 : Keeps M s0 x6.1 := by
      subst x6
      apply keeps_ite_fst
      · exact hx5
      · exact hx4
    clear_value x6
    extract_lets +onlyGivenNames x7
    clear_value x7
    extract_lets +onlyGivenNames x8
    have hx8 : Keeps M s0 x8 := by
      subst x8
      refine formClose_keeps (hm.mono (by rfl)) ?_
      exact hx6
    clear_value x8
    refine count_keeps (hm.at .OBJ_CLASS_CNT (by rfl)) ?_
    refine count_keeps (hm.at .OBJ_CLOSE_CNT (by rfl)) ?_
    exact hx8

theorem emitComp_keeps {s : State} {c : Comp} {unmerged : Bool} (hm : Sub
    0x18400000080010000000000000003800200000000000000000000000000000000000000000000000005628008000000040000020000000000000000000000000002184200 M) (hs : Keeps M s0 s) :
    Keeps M s0 (State.emitComp s c unmerged) := by
  unfold State.emitComp
  extract_lets +onlyGivenNames x1
  have hx1 : Keeps M s0 x1 := by
    subst x1
    apply keeps_ite
    · refine count_keeps (hm.at .STI_UNMERGED_CNT (by rfl)) ?_
      refine raise_keeps (hm.mono (by rfl)) (hm.at .STI_EVENT (by rfl)) ?_
      exact hs
    · exact hs
  clear_value x1
  split
  · exact hx1
  · extract_lets +onlyGivenNames x2
    clear_value x2
    refine finishClose_keeps (hm.mono (by rfl)) ?_
    refine accOvf_keeps (hm.mono (by rfl)) ?_
    exact hx1

theorem dropComp_keeps {s : State} {c : Comp} (hm : Sub 0x2000000 M) (hs : Keeps M s0 s) :
    Keeps M s0 (State.dropComp s c) := by
  unfold State.dropComp
  refine upd_seg_keeps (hm.mono (by rfl)) ?_
  exact hs

theorem releaseSeam_keeps {s : State} {k : Nat} (hm : Sub
    0x18400000080010000000000000003800200000000000000000000000000000000000000000000000005628008000000040000020000000000000000000000000002184200 M) (hs : Keeps M s0 s) :
    Keeps M s0 (State.releaseSeam s k) := by
  unfold State.releaseSeam
  apply keeps_foldl
  · intro t1 x2 h3
    refine emitComp_keeps (hm.mono (by rfl)) ?_
    refine dropComp_keeps (hm.mono (by rfl)) ?_
    exact h3
  · exact hs

theorem putHistRevs_keeps {s : State} {a : Nat} {rs : List Nat} (hm : Sub 0x80 M) (hs : Keeps M s0 s) :
    Keeps M s0 (State.putHistRevs s a rs) := by
  unfold State.putHistRevs
  apply keeps_forBelow
  · intro x1 t2 h3
    refine setTab_keeps (hm.mono (by rfl)) ?_
    exact h3
  · exact hs

theorem repeatHit_keeps {s : State} {o : Obj} {c : Nat} {r : Nat} (hm : Sub
    0x18400000080010000000000000003800200000000000000000000000000000000000000000000000000100108000000000000000000000000000000000000000000184280 M) (hs : Keeps M s0 s) :
    Keeps M s0 (State.repeatHit s o c r) := by
  unfold State.repeatHit
  extract_lets +onlyGivenNames x1
  clear_value x1
  extract_lets +onlyGivenNames x2
  clear_value x2
  extract_lets +onlyGivenNames x3
  clear_value x3
  extract_lets +onlyGivenNames x4
  clear_value x4
  extract_lets +onlyGivenNames x5
  clear_value x5
  extract_lets +onlyGivenNames x6
  have hx6 : Keeps M s0 x6 := by
    subst x6
    refine setTab_keeps (hm.mono (by rfl)) ?_
    exact hs
  clear_value x6
  extract_lets +onlyGivenNames x7
  clear_value x7
  extract_lets +onlyGivenNames x8
  have hx8 : Keeps M s0 x8 := by
    subst x8
    apply keeps_ite
    · exact hx6
    · refine putHistRevs_keeps (hm.mono (by rfl)) ?_
      exact hx6
  clear_value x8
  extract_lets +onlyGivenNames x9
  clear_value x9
  extract_lets +onlyGivenNames x10
  clear_value x10
  apply keeps_ite
  · extract_lets +onlyGivenNames x11
    subst x11
    extract_lets +onlyGivenNames x12
    clear_value x12
    extract_lets +onlyGivenNames x13
    clear_value x13
    extract_lets +onlyGivenNames x14
    clear_value x14
    extract_lets +onlyGivenNames x15
    have hx15 : Keeps M s0 x15 := by
      subst x15
      refine formRecord_keeps (hm.mono (by rfl)) ?_
      exact hx8
    clear_value x15
    extract_lets +onlyGivenNames x16
    have hx16 : Keeps M s0 x16 := by
      subst x16
      apply keeps_foldl
      · intro t17 x18 h19
        refine putHistRevs_keeps (hm.mono (by rfl)) ?_
        exact h19
      · exact hx15
    clear_value x16
    extract_lets +onlyGivenNames x20
    have hx20 : Keeps M s0 x20 := by
      subst x20
      refine count_keeps (hm.at .OBJ_REPEAT_CNT (by rfl)) ?_
      refine raise_keeps (hm.mono (by rfl)) (hm.at .OBJ_EVENT (by rfl)) ?_
      exact hx16
    clear_value x20
    refine wr_keeps (hm.at .OBJ_LAST_REP (by rfl)) ?_
    exact hx20
  · exact hx8

theorem repeatHits_keeps {s : State} {o : Obj} {c : Nat} (hm : Sub
    0x18400000080010000000000000003800200000000000000000000000000000000000000000000000000100108000000000000000000000000000000000000000000184280 M) (hs : Keeps M s0 s) :
    Keeps M s0 (State.repeatHits s o c) := by
  unfold State.repeatHits
  apply keeps_ite
  · apply keeps_forBelow
    · intro x1 t2 h3
      apply keeps_ite
      · refine repeatHit_keeps (hm.mono (by rfl)) ?_
        exact h3
      · exact h3
    · exact hs
  · exact hs

theorem joinComps_keeps {s : State} {o : Comp} (hm : Sub
    0x184000000000000000000000000000000000000000000000000000000000000000000000000000000000000000000000A0000020000000000000000000000000002004000 M) (hs : Keeps M s0 s) :
    Keeps M s0 (State.joinComps s o) := by
  unfold State.joinComps
  extract_lets +onlyGivenNames x1
  subst x1
  extract_lets +onlyGivenNames x2
  clear_value x2
  extract_lets +onlyGivenNames x3
  have hx3 : Keeps M s0 x3 := by
    subst x3
    refine upd_seg_keeps (hm.mono (by rfl)) ?_
    exact hs
  clear_value x3
  extract_lets +onlyGivenNames x4
  have hx4 : Keeps M s0 x4.1 := by
    subst x4
    apply keeps_foldl_fst
    · intro x5 x6 h7
      apply keeps_ite_fst
      · dsimp only
        refine count_keeps (hm.at .STI_MERGE_CNT (by rfl)) ?_
        exact h7
      · extract_lets +onlyGivenNames x8
        have hx8 : Keeps M s0 x8 := by
          subst x8
          refine count_keeps (hm.at .STI_MLIMIT_CNT (by rfl)) ?_
          refine raise_keeps (hm.mono (by rfl)) (hm.at .STI_EVENT (by rfl)) ?_
          exact h7
        clear_value x8
        dsimp only
        refine upd_seg_keeps (hm.mono (by rfl)) ?_
        exact hx8
    · exact hx3
  clear_value x4
  extract_lets +onlyGivenNames x9
  have hx9 : Keeps M s0 x9 := by
    subst x9
    exact hx4
  clear_value x9
  refine upd_seg_keeps (hm.mono (by rfl)) ?_
  exact hx9

theorem evalClosing_keeps {s : State} (hm : Sub
    0x184000000800100000000000000038002000000000000000000000000000000000000000000000000047281080000000A0000020000000000000000000000000002184280 M) (hs : Keeps M s0 s) :
    Keeps M s0 (State.evalClosing s) := by
  unfold State.evalClosing
  split
  · exact hs
  · extract_lets +onlyGivenNames x1
    clear_value x1
    extract_lets +onlyGivenNames x2
    have hx2 : Keeps M s0 x2 := by
      subst x2
      refine upd_seg_keeps (hm.mono (by rfl)) ?_
      exact hs
    clear_value x2
    split
    · exact hx2
    · extract_lets +onlyGivenNames x3
      clear_value x3
      extract_lets +onlyGivenNames x4
      have hx4 : Keeps M s0 x4 := by
        subst x4
        refine repeatHits_keeps (hm.mono (by rfl)) ?_
        exact hx2
      clear_value x4
      extract_lets +onlyGivenNames x5
      clear_value x5
      extract_lets +onlyGivenNames x6
      have hx6 : Keeps M s0 x6 := by
        subst x6
        refine upd_seg_keeps (hm.mono (by rfl)) ?_
        exact hx4
      clear_value x6
      apply keeps_ite
      · refine finishClose_keeps (hm.mono (by rfl)) ?_
        exact hx6
      · refine joinComps_keeps (hm.mono (by rfl)) ?_
        exact hx6

theorem drainClosings_keeps {s : State} (hm : Sub
    0x184000000800100000000000000038002000000000000000000000000000000000000000000000000047281080000000A0000020000000000000000000000000002184280 M) (hs : Keeps M s0 s) :
    Keeps M s0 (State.drainClosings s) := by
  unfold State.drainClosings
  apply keeps_forBelow
  · intro x1 t2 h3
    refine evalClosing_keeps (hm.mono (by rfl)) ?_
    exact h3
  · exact hs

theorem clearHist_keeps {s : State} (hm : Sub 0x80 M) (hs : Keeps M s0 s) :
    Keeps M s0 (State.clearHist s) := by
  unfold State.clearHist
  refine clearTabs_keeps (hm.mono (by rfl)) ?_
  exact hs

theorem sendComp_keeps {s : State} {c : Comp} (hm : Sub
    0x18400000080010000000000000000000000000000000000000000000000000000000000000000000000000000000000000000000000000000000000000000000004104000 M) (hs : Keeps M s0 s) :
    Keeps M s0 (State.sendComp s c) := by
  unfold State.sendComp
  extract_lets +onlyGivenNames x1
  clear_value x1
  extract_lets +onlyGivenNames x2
  have hx2 : Keeps M s0 x2 := by
    subst x2
    apply keeps_forBelow
    · intro x3 t4 h5
      split
      · exact h5
      · refine fabSend_keeps (hm.mono (by rfl)) ?_
        exact h5
    · exact hs
  clear_value x2
  refine upd_sti_keeps (hm.mono (by rfl)) ?_
  exact hx2

theorem releaseComp_keeps {s : State} {c : Comp} (hm : Sub
    0x18400000080010000000000000003800200000000000000000000000000000000000000000000000005628008000000040000020000000000000000000000000006184200 M) (hs : Keeps M s0 s) :
    Keeps M s0 (State.releaseComp s c) := by
  unfold State.releaseComp
  extract_lets +onlyGivenNames x1
  have hx1 : Keeps M s0 x1 := by
    subst x1
    refine dropComp_keeps (hm.mono (by rfl)) ?_
    exact hs
  clear_value x1
  apply keeps_ite
  · apply keeps_ite
    · refine emitComp_keeps (hm.mono (by rfl)) ?_
      exact hx1
    · refine sendComp_keeps (hm.mono (by rfl)) ?_
      exact hx1
  · refine emitComp_keeps (hm.mono (by rfl)) ?_
    exact hx1

end Sys2Proof.Machine
end

