-- ==== Sys2Proof/Laws/KeepsMem.lean ====
section
/-! SUPPORT. Laws/KeepsMem.lean: the same for the memory, the seams, the archive heads and the path of a line, said once as Keeps (Safety.lean). -/

namespace Sys2Proof.Machine

variable {s0 : State} {M : Nat}

theorem noteCross_keeps {s : State} {x : Stage} {h : Nat} {n : LineNo} (hm : Sub 0x800 M) (hs : Keeps M s0 s) :
    Keeps M s0 (State.noteCross s x h n) := by
  unfold State.noteCross
  refine upd_crossed_keeps (hm.mono (by rfl)) ?_
  exact hs

theorem prehBoundary_keeps {s : State} {h : Nat} (hm : Sub 0x400000 M) (hs : Keeps M s0 s) :
    Keeps M s0 (State.prehBoundary s h) := by
  unfold State.prehBoundary
  extract_lets +onlyGivenNames x1
  clear_value x1
  apply keeps_ite
  · extract_lets +onlyGivenNames x2
    clear_value x2
    extract_lets +onlyGivenNames x3
    have hx3 : Keeps M s0 x3 := by
      subst x3
      apply keeps_ite
      · refine setCamPort_keeps (hm.mono (by rfl)) ?_
        exact hs
      · exact hs
    clear_value x3
    apply keeps_ite
    · refine setCamPort_keeps (hm.mono (by rfl)) ?_
      exact hx3
    · exact hx3
  · exact hs

theorem setArcHead_keeps {s : State} {h : Nat} {x : ArcHead} (hm : Sub 0x40000000 M) (hs : Keeps M s0 s) :
    Keeps M s0 (State.setArcHead s h x) := by
  unfold State.setArcHead
  refine upd_arc_keeps (hm.mono (by rfl)) (.inr rfl) ?_
  exact hs

theorem arcEndRow_keeps {s : State} {h : Nat} (hm : Sub 0x40000000 M) (hs : Keeps M s0 s) :
    Keeps M s0 (State.arcEndRow s h) := by
  unfold State.arcEndRow
  split
  · exact hs
  · extract_lets +onlyGivenNames x1
    clear_value x1
    refine setArcHead_keeps (hm.mono (by rfl)) ?_
    exact hs

theorem memFail_keeps {s : State} {o : MemOp} {e : MemErr} (hm : Sub 0x2020000000 M) (hs : Keeps M s0 s) :
    Keeps M s0 (State.memFail s o e) := by
  unfold State.memFail
  refine upd_mem_keeps (hm.mono (by rfl)) (.inr rfl) (.inl (hm.bit (by rfl))) (.inr rfl) ?_
  exact hs

theorem panicCheck_keeps {s : State} (hm : Sub
    0x400400000000000000000000000000000000000000000000000000000000000000000000000000000000000000000000000 M) (hs : Keeps M
    s0 s) :
    Keeps M s0 (State.panicCheck s) := by
  unfold State.panicCheck
  apply keeps_forBelow
  · intro x1 t2 h3
    extract_lets +onlyGivenNames x4
    clear_value x4
    extract_lets +onlyGivenNames x5
    clear_value x5
    extract_lets +onlyGivenNames x6
    clear_value x6
    apply keeps_ite
    · apply keeps_ite
      · refine put_keeps (hm.at .MEM_PSTAT (by rfl)) ?_
        exact h3
      · exact h3
    · apply keeps_ite
      · refine count_keeps (hm.at .MEM_PANIC_CNT (by rfl)) ?_
        refine put_keeps (hm.at .MEM_PSTAT (by rfl)) ?_
        exact h3
      · exact h3
  · exact hs

theorem noteLatency_keeps {s : State} {o : MemOp} (hm : Sub
    0x400000000000000000000000000000000000000000000000000000000000000000000000000000000000000000000000 M) (hs : Keeps M s0
    s) :
    Keeps M s0 (State.noteLatency s o) := by
  unfold State.noteLatency
  refine put_keeps (hm.at .MEM_PSTAT (by rfl)) ?_
  exact hs

theorem pieceEnd_keeps {s : State} {x : MemTx} {e : Option MemErr} (hm : Sub
    0x18400000000000000000000000000000000000400400000000000000000000000000000000000000000000000000000000000000000000000000000000000003020004000 M) (hs : Keeps M s0 s) :
    Keeps M s0 (State.pieceEnd s x e) := by
  unfold State.pieceEnd
  split
  · exact hs
  · extract_lets +onlyGivenNames x1
    have hx1 : Keeps M s0 x1 := by
      subst x1
      apply keeps_ite
      · refine pmcCount_keeps (hm.mono (by rfl)) ?_
        exact hs
      · refine pmcCount_keeps (hm.mono (by rfl)) ?_
        exact hs
    clear_value x1
    extract_lets +onlyGivenNames x2
    clear_value x2
    extract_lets +onlyGivenNames x3
    clear_value x3
    extract_lets +onlyGivenNames x4
    clear_value x4
    apply keeps_ite
    · extract_lets +onlyGivenNames x5
      have hx5 : Keeps M s0 x5 := by
        subst x5
        refine noteLatency_keeps (hm.mono (by rfl)) ?_
        exact hx1
      clear_value x5
      refine panicCheck_keeps (hm.mono (by rfl)) ?_
      refine upd_mem_keeps (hm.mono (by rfl)) (.inl (hm.bit (by rfl))) (.inl (hm.bit (by rfl))) (.inr rfl) ?_
      exact hx5
    · refine upd_mem_keeps (hm.mono (by rfl)) (.inl (hm.bit (by rfl))) (.inr rfl) (.inr rfl) ?_
      exact hx1

theorem wingMigr_keeps {s : State} (hm : Sub
    0x18400000000000000000000000000000000000420400000000000000000000000000000000000000000000000000000000000000000000000000000000000003020004000 M) (hs : Keeps M s0 s) :
    Keeps M s0 (State.wingMigr s) := by
  unfold State.wingMigr
  apply keeps_ite
  · extract_lets +onlyGivenNames x1
    clear_value x1
    extract_lets +onlyGivenNames x2
    subst x2
    extract_lets +onlyGivenNames x3
    have hx3 : Keeps M s0 x3 := by
      subst x3
      refine upd_mem_keeps (hm.mono (by rfl)) (.inr rfl) (.inr rfl) (.inr rfl) ?_
      exact hs
    clear_value x3
    apply keeps_foldl
    · intro t4 x5 h6
      refine pieceEnd_keeps (hm.mono (by rfl)) ?_
      refine count_keeps (hm.at .MEM_MIGR_RD_CNT (by rfl)) ?_
      exact h6
    · exact hx3
  · exact hs

theorem memAccess_keeps {s : State} {owner : TxOwner} {port : Nat} {write : Bool} {addr : Nat} {data : List Byte} (hm : Sub
    0x18400000000000000000000000000000000000420400000000000000000000000000000000000000000000000000000000000000000000000000000000000003020004000 M) (hs : Keeps M s0 s) :
    Keeps M s0 (State.memAccess s owner port write addr data) := by
  unfold State.memAccess
  extract_lets +onlyGivenNames x1
  clear_value x1
  extract_lets +onlyGivenNames x2
  subst x2
  extract_lets +onlyGivenNames x3
  have hx3 : Keeps M s0 x3 := by
    subst x3
    refine upd_mem_keeps (hm.mono (by rfl)) (.inr rfl) (.inr rfl) (.inr rfl) ?_
    exact hs
  clear_value x3
  extract_lets +onlyGivenNames x4
  clear_value x4
  extract_lets +onlyGivenNames x5
  clear_value x5
  apply keeps_ite
  · refine memFail_keeps (hm.mono (by rfl)) ?_
    exact hx3
  · apply keeps_ite
    · refine upd_mem_keeps (hm.mono (by rfl)) (.inr rfl) (.inl (hm.bit (by rfl))) (.inr rfl) ?_
      exact hx3
    · extract_lets +onlyGivenNames x6
      subst x6
      extract_lets +onlyGivenNames x7
      have hx7 : Keeps M s0 x7 := by
        subst x7
        refine upd_mem_keeps (hm.mono (by rfl)) (.inl (hm.bit (by rfl))) (.inr rfl) (.inr rfl) ?_
        exact hx3
      clear_value x7
      refine panicCheck_keeps (hm.mono (by rfl)) ?_
      apply keeps_ite
      · refine wingMigr_keeps (hm.mono (by rfl)) ?_
        exact hx7
      · exact hx7

theorem memWrite_keeps {s : State} {owner : TxOwner} {port : Nat} {addr : Nat} {data : List Byte} (hm : Sub
    0x18400000000000000000000000000000000000420400000000000000000000000000000000000000000000000000000000000000000000000000000000000003020004000 M) (hs : Keeps M s0 s) :
    Keeps M s0 (State.memWrite s owner port addr data) := by
  unfold State.memWrite
  refine memAccess_keeps (hm.mono (by rfl)) ?_
  exact hs

theorem writeEntry_keeps {s : State} {h : Nat} {r : ArcRow} {v : Bool} (hm : Sub
    0x18400000000000000000000000000000000000420400000000000000000000000000000000000000000000000000000000000000000000000000000000000003020004000 M) (hs : Keeps M s0 s) :
    Keeps M s0 (State.writeEntry s h r v) := by
  unfold State.writeEntry
  refine memWrite_keeps (hm.mono (by rfl)) ?_
  exact hs

theorem arcStartRow_keeps {s : State} {h : Nat} {n : LineNo} (hm : Sub
    0x18400000000000000000000000000000000000420400000000000000000000000000000000000000000000000000000000000000000000000000000000000003060004000 M) (hs : Keeps M s0 s) :
    Keeps M s0 (State.arcStartRow s h n) := by
  unfold State.arcStartRow
  extract_lets +onlyGivenNames x1
  have hx1 : Keeps M s0 x1 := by
    subst x1
    refine arcEndRow_keeps (hm.mono (by rfl)) ?_
    exact hs
  clear_value x1
  extract_lets +onlyGivenNames x2
  clear_value x2
  extract_lets +onlyGivenNames x3
  clear_value x3
  extract_lets +onlyGivenNames x4
  clear_value x4
  extract_lets +onlyGivenNames x5
  clear_value x5
  extract_lets +onlyGivenNames x6
  clear_value x6
  extract_lets +onlyGivenNames x7
  clear_value x7
  extract_lets +onlyGivenNames x8
  have hx8 : Keeps M s0 x8 := by
    subst x8
    refine setArcHead_keeps (hm.mono (by rfl)) ?_
    exact hx1
  clear_value x8
  refine writeEntry_keeps (hm.mono (by rfl)) ?_
  exact hx8

theorem arcBoundary_keeps {s : State} {h : Nat} {n : LineNo} (hm : Sub
    0x18400000000000000000000000000000000000420400000000000000000000000000000000000000000000000000000000000000000000000000000000000003060004000 M) (hs : Keeps M s0 s) :
    Keeps M s0 (State.arcBoundary s h n) := by
  unfold State.arcBoundary
  apply keeps_ite
  · refine arcStartRow_keeps (hm.mono (by rfl)) ?_
    exact hs
  · exact hs

theorem setSeam_keeps {s : State} {k : Nat} {x : SeamSt} (hm : Sub 0x4000000 M) (hs : Keeps M s0 s) :
    Keeps M s0 (State.setSeam s k x) := by
  unfold State.setSeam
  refine upd_sti_keeps (hm.mono (by rfl)) ?_
  exact hs

theorem windowTurn_keeps {s : State} {h : Nat} {k : Nat} {n : LineNo} (hm : Sub 0x400000000000000000000000000000004000000
    M) (hs : Keeps M s0 s) :
    Keeps M s0 (State.windowTurn s h k n) := by
  unfold State.windowTurn
  extract_lets +onlyGivenNames x1
  clear_value x1
  extract_lets +onlyGivenNames x2
  clear_value x2
  extract_lets +onlyGivenNames x3
  have hx3 : Keeps M s0 x3 := by
    subst x3
    apply keeps_ite
    · refine countFld_keeps (hm.at .SEAM_STATUS (by rfl)) ?_
      exact hs
    · exact hs
  clear_value x3
  refine setSeam_keeps (hm.mono (by rfl)) ?_
  exact hx3

theorem showDelay_keeps {s : State} {k : Nat} (hm : Sub 0x2000000000000000000000000000000000000000 M) (hs : Keeps M s0 s) :
    Keeps M s0 (State.showDelay s k) := by
  unfold State.showDelay
  refine put_keeps (hm.at .SEAM_DELAY (by rfl)) ?_
  refine putB_keeps (hm.at .SEAM_DELAY (by rfl)) ?_
  exact hs

theorem regLatch_keeps {s : State} {n : LineNo} (hm : Sub 0x2380000000000000000000000000000004000010 M) (hs : Keeps M s0 s)
    :
    Keeps M s0 (State.regLatch s n) := by
  unfold State.regLatch
  apply keeps_ite
  · exact hs
  · extract_lets +onlyGivenNames x1
    clear_value x1
    extract_lets +onlyGivenNames x2
    subst x2
    extract_lets +onlyGivenNames x3
    clear_value x3
    extract_lets +onlyGivenNames x4
    clear_value x4
    extract_lets +onlyGivenNames x5
    have hx5 : Keeps M s0 x5 := by
      subst x5
      refine upd_sti_keeps (hm.mono (by rfl)) ?_
      exact hs
    clear_value x5
    extract_lets +onlyGivenNames x6
    have hx6 : Keeps M s0 x6 := by
      subst x6
      apply keeps_foldl
      · intro t7 x8 h9
        refine latch_keeps (hm.mono (by rfl)) ?_
        refine latch_keeps (hm.mono (by rfl)) ?_
        refine latch_keeps (hm.mono (by rfl)) ?_
        exact h9
      · exact hx5
    clear_value x6
    apply keeps_forBelow
    · intro x10 t11 h12
      apply keeps_ite
      · refine showDelay_keeps (hm.mono (by rfl)) ?_
        exact h12
      · exact h12
    · exact hx6

theorem noteEdges_keeps {s : State} {h : Nat} {n : LineNo} {old : BitVec 40 × BitVec 40} {new : BitVec 40 × BitVec 40} (hm
    : Sub 0x4000000 M) (hs : Keeps M s0 s) :
    Keeps M s0 (State.noteEdges s h n old new) := by
  unfold State.noteEdges
  apply keeps_ite
  · exact hs
  · extract_lets +onlyGivenNames x1
    clear_value x1
    extract_lets +onlyGivenNames x2
    clear_value x2
    refine upd_sti_keeps (hm.mono (by rfl)) ?_
    exact hs

theorem seamReport_keeps {s : State} {k : Nat} {event : Nat} {line : LineNo} {r : SeamReg} (hm : Sub
    0x18400000080010000000000000003800200000000000000000000000000000000000000000000000000000000000000000000000000000000000000000000000000184200 M) (hs : Keeps M s0 s) :
    Keeps M s0 (State.seamReport s k event line r) := by
  unfold State.seamReport
  apply keeps_ite
  · extract_lets +onlyGivenNames x1
    clear_value x1
    extract_lets +onlyGivenNames x2
    clear_value x2
    extract_lets +onlyGivenNames x3
    clear_value x3
    refine formRecord_keeps (hm.mono (by rfl)) ?_
    exact hs
  · exact hs

theorem windowReport_keeps {s : State} {k : Nat} {n : LineNo} (hm : Sub
    0x18400000080010000000000000003800200000000000000000000000000000000000000000000000000000000000000000000000000000000000000000000000004184200 M) (hs : Keeps M s0 s) :
    Keeps M s0 (State.windowReport s k n) := by
  unfold State.windowReport
  extract_lets +onlyGivenNames x1
  clear_value x1
  apply keeps_ite
  · refine seamReport_keeps (hm.mono (by rfl)) ?_
    refine setSeam_keeps (hm.mono (by rfl)) ?_
    exact hs
  · exact hs

theorem stiBoundary_keeps {s : State} {h : Nat} {n : LineNo} (hm : Sub
    0x18400000080010000000000000003800200000000000000000000000000000000000000000000000000000000000000002780000000000000000000000000000004184210 M) (hs : Keeps M s0 s) :
    Keeps M s0 (State.stiBoundary s h n) := by
  unfold State.stiBoundary
  extract_lets +onlyGivenNames x1
  clear_value x1
  extract_lets +onlyGivenNames x2
  have hx2 : Keeps M s0 x2 := by
    subst x2
    apply keeps_foldl
    · intro t3 x4 h5
      refine windowTurn_keeps (hm.mono (by rfl)) ?_
      exact h5
    · exact hs
  clear_value x2
  extract_lets +onlyGivenNames x6
  have hx6 : Keeps M s0 x6 := by
    subst x6
    refine regLatch_keeps (hm.mono (by rfl)) ?_
    exact hx2
  clear_value x6
  extract_lets +onlyGivenNames x7
  clear_value x7
  extract_lets +onlyGivenNames x8
  clear_value x8
  extract_lets +onlyGivenNames x9
  have hx9 : Keeps M s0 x9 := by
    subst x9
    refine upd_sti_keeps (hm.mono (by rfl)) ?_
    exact hx6
  clear_value x9
  extract_lets +onlyGivenNames x10
  have hx10 : Keeps M s0 x10 := by
    subst x10
    refine noteEdges_keeps (hm.mono (by rfl)) ?_
    exact hx9
  clear_value x10
  apply keeps_foldl
  · intro t11 x12 h13
    refine windowReport_keeps (hm.mono (by rfl)) ?_
    exact h13
  · exact hx10

theorem stageBoundary_keeps {s : State} {x : Stage} {h : Nat} {n : LineNo} (hm : Sub
    0x184000000800100000000000000038002000004204000000000000000000000000000000000000000000000002001904027800033A023F9000000E0180000003067FA4A14 M) (hs : Keeps M s0 s) :
    Keeps M s0 (State.stageBoundary s x h n) := by
  unfold State.stageBoundary
  extract_lets +onlyGivenNames x1
  have hx1 : Keeps M s0 x1 := by
    subst x1
    refine noteCross_keeps (hm.mono (by rfl)) ?_
    exact hs
  clear_value x1
  split
  · extract_lets +onlyGivenNames x2
    have hx2 : Keeps M s0 x2 := by
      subst x2
      refine corLatch_keeps (hm.mono (by rfl)) ?_
      refine prehBoundary_keeps (hm.mono (by rfl)) ?_
      exact hx1
    clear_value x2
    apply keeps_ite
    · exact hx2
    · refine corTurn_keeps (hm.mono (by rfl)) ?_
      exact hx2
  · refine awfBoundary_keeps (hm.mono (by rfl)) ?_
    exact hx1
  · refine segBoundary_keeps (hm.mono (by rfl)) ?_
    exact hx1
  · refine arcBoundary_keeps (hm.mono (by rfl)) ?_
    exact hx1
  · refine stiBoundary_keeps (hm.mono (by rfl)) ?_
    exact hx1

theorem crossIf_keeps {s : State} {x : Stage} {h : Nat} {n : LineNo} (hm : Sub
    0x184000000800100000000000000038002000004204000000000000000000000000000000000000000000000002001904027800033A023F9000000E0180000003067FA4A14 M) (hs : Keeps M s0 s) :
    Keeps M s0 (State.crossIf s x h n) := by
  unfold State.crossIf
  apply keeps_ite
  · refine stageBoundary_keeps (hm.mono (by rfl)) ?_
    exact hs
  · exact hs

theorem arcBlock_keeps {s : State} {h : Nat} {i : Nat} {line : LineNo} {r : ArcRow} {b : BlockIn} {fault : Option Bool} (hm
    : Sub
    0x20000018400000080010000000000000003800200000420400000000000007C000004000000000000000000000000000000000000000000000000000000000000000230601A4200 M) (hs : Keeps M s0 s) :
    Keeps M s0 (State.arcBlock s h i line r b fault).1 := by
  unfold State.arcBlock
  extract_lets +onlyGivenNames x1
  subst x1
  extract_lets +onlyGivenNames x2
  have hx2 : Keeps M s0 x2 := by
    subst x2
    split
    · exact hs
    · refine raise_keeps (hm.mono (by rfl)) (hm.at .ARC_EVENT (by rfl)) ?_
      refine count_keeps (hm.at .ARC_RETRY_CNT (by rfl)) ?_
      exact hs
  clear_value x2
  extract_lets +onlyGivenNames x3
  clear_value x3
  extract_lets +onlyGivenNames x4
  have hx4 : Keeps M s0 x4 := by
    subst x4
    apply keeps_ite
    · refine fault_keeps (hm.mono (by rfl)) ?_
      refine raise_keeps (hm.mono (by rfl)) (hm.at .ARC_EVENT (by rfl)) ?_
      refine count_keeps (hm.at .ARC_CODEC_FAULT_CNT (by rfl)) ?_
      exact hx2
    · exact hx2
  clear_value x4
  extract_lets +onlyGivenNames x5
  clear_value x5
  extract_lets +onlyGivenNames x6
  have hx6 : Keeps M s0 x6 := by
    subst x6
    apply keeps_ite
    · refine count_keeps (hm.at .ARC_OVER_CNT (by rfl)) ?_
      exact hx4
    · exact hx4
  clear_value x6
  extract_lets +onlyGivenNames x7
  clear_value x7
  extract_lets +onlyGivenNames x8
  clear_value x8
  extract_lets +onlyGivenNames x9
  have hx9 : Keeps M s0 x9 := by
    subst x9
    refine pmcCount_keeps (hm.mono (by rfl)) ?_
    refine setPair_keeps (hm.at .ARC_BLK_CNT_L (by rfl)) (hm.at .ARC_BLK_CNT_H (by rfl)) ?_
    exact hx6
  clear_value x9
  extract_lets +onlyGivenNames x10
  have hx10 : Keeps M s0 x10 := by
    subst x10
    refine memWrite_keeps (hm.mono (by rfl)) ?_
    exact hx9
  clear_value x10
  extract_lets +onlyGivenNames x11
  clear_value x11
  extract_lets +onlyGivenNames x12
  have hx12 : Keeps M s0 x12 := by
    subst x12
    refine setArcHead_keeps (hm.mono (by rfl)) ?_
    exact hx10
  clear_value x12
  exact hx12

theorem setWinBytes_keeps {s : State} {addr : Nat} {bs : List Byte} (hm : Sub 0x80 M) (hs : Keeps M s0 s) :
    Keeps M s0 (State.setWinBytes s addr bs) := by
  unfold State.setWinBytes
  refine setTabs_keeps (hm.mono (by rfl)) ?_
  exact hs

theorem ctxPixels_keeps {s : State} {n : Nat} {i : Nat} {ws : List Nat} (hm : Sub 0x80 M) (hs : Keeps M s0 s) :
    Keeps M s0 (State.ctxPixels s n i ws) := by
  unfold State.ctxPixels
  refine setWinBytes_keeps (hm.mono (by rfl)) ?_
  exact hs

theorem setRow_keeps {s : State} {h : Nat} {r : ArcRow} (hm : Sub 0x40000000 M) (hs : Keeps M s0 s) :
    Keeps M s0 (State.setRow s h r) := by
  unfold State.setRow
  extract_lets +onlyGivenNames x1
  clear_value x1
  refine setArcHead_keeps (hm.mono (by rfl)) ?_
  exact hs

theorem ctxHead_keeps {s : State} {n : Nat} {h : Nat} {line : LineNo} {cols : Nat} {firstCol : Nat} {dyn : Option (List
    Nat)} (hm : Sub 0x80 M) (hs : Keeps M s0 s) :
    Keeps M s0 (State.ctxHead s n h line cols firstCol dyn) := by
  unfold State.ctxHead
  refine setWinBytes_keeps (hm.mono (by rfl)) ?_
  exact hs

theorem arcNext_keeps {s : State} {h : Nat} (hm : Sub
    0x20000018400000080010000000000000003800200000420400000000000007C000004000000000000000000000000000000000000000000000000000000000000000230601A4280 M) (hs : Keeps M s0 s) :
    Keeps M s0 (State.arcNext s h) := by
  unfold State.arcNext
  split
  · exact hs
  · split
    · refine setArcHead_keeps (hm.mono (by rfl)) ?_
      exact hs
    · apply keeps_ite
      · exact hs
      · extract_lets +onlyGivenNames x1
        clear_value x1
        extract_lets +onlyGivenNames x2
        clear_value x2
        extract_lets +onlyGivenNames x3
        clear_value x3
        extract_lets +onlyGivenNames x4
        clear_value x4
        extract_lets +onlyGivenNames x5
        clear_value x5
        extract_lets +onlyGivenNames x6
        clear_value x6
        extract_lets +onlyGivenNames x7
        clear_value x7
        extract_lets +onlyGivenNames x8
        clear_value x8
        extract_lets +onlyGivenNames x9
        have hx9 : Keeps M s0 x9 := by
          subst x9
          apply keeps_ite
          · refine setArcHead_keeps (hm.mono (by rfl)) ?_
            exact hs
          · exact hs
        clear_value x9
        extract_lets +onlyGivenNames x10
        have hx10 : Keeps M s0 x10.1 := by
          subst x10
          refine arcBlock_keeps (hm.mono (by rfl)) ?_
          exact hx9
        clear_value x10
        extract_lets +onlyGivenNames x11
        have hx11 : Keeps M s0 x11 := by
          subst x11
          refine ctxPixels_keeps (hm.mono (by rfl)) ?_
          exact hx10
        clear_value x11
        extract_lets +onlyGivenNames x12
        clear_value x12
        apply keeps_ite
        · refine setRow_keeps (hm.mono (by rfl)) ?_
          refine setArcHead_keeps (hm.mono (by rfl)) ?_
          exact hx11
        · extract_lets +onlyGivenNames x13
          have hx13 : Keeps M s0 x13 := by
            subst x13
            refine ctxHead_keeps (hm.mono (by rfl)) ?_
            exact hx11
          clear_value x13
          extract_lets +onlyGivenNames x14
          have hx14 : Keeps M s0 x14 := by
            subst x14
            refine setArcHead_keeps (hm.mono (by rfl)) ?_
            exact hx13
          clear_value x14
          refine setRow_keeps (hm.mono (by rfl)) ?_
          exact hx14

theorem arcPump_keeps {s : State} {h : Nat} (hm : Sub
    0x20000018400000080010000000000000003800200000420400000000000007C000004000000000000000000000000000000000000000000000000000000000000000230601A4280 M) (hs : Keeps M s0 s) :
    Keeps M s0 (State.arcPump s h) := by
  unfold State.arcPump
  apply keeps_forBelow
  · intro x1 t2 h3
    refine arcNext_keeps (hm.mono (by rfl)) ?_
    exact h3
  · exact hs

theorem arcLine_keeps {s : State} {h : Nat} {o : OutLine} {faults : List (Nat × Bool)} (hm : Sub
    0x20000018400000080010000000000000003800200000420400000000000007C000004000000000000000000000000000000000000000000000000000000000000000230601A4280 M) (hs : Keeps M s0 s) :
    Keeps M s0 (State.arcLine s h o faults) := by
  unfold State.arcLine
  apply keeps_ite
  · exact hs
  · extract_lets +onlyGivenNames x1
    have hx1 : Keeps M s0 x1 := by
      subst x1
      apply keeps_ite
      · exact hs
      · refine arcStartRow_keeps (hm.mono (by rfl)) ?_
        exact hs
    clear_value x1
    split
    · exact hx1
    · extract_lets +onlyGivenNames x2
      clear_value x2
      refine arcPump_keeps (hm.mono (by rfl)) ?_
      refine setArcHead_keeps (hm.mono (by rfl)) ?_
      exact hx1

theorem ringWrite_keeps {s : State} {k : Nat} {j : Nat} {samples : List Nat} (hm : Sub
    0x18400000000000000000000000000000000000420400000000000000000000000000000000000000000000000000000000000000000000000000000000000003020004000 M) (hs : Keeps M s0 s) :
    Keeps M s0 (State.ringWrite s k j samples) := by
  unfold State.ringWrite
  refine memWrite_keeps (hm.mono (by rfl)) ?_
  exact hs

theorem wingPair_keeps {s : State} {k : Nat} {line : LineNo} {left : Bool} {trail : List Nat} {lead : List Nat} (hm : Sub
    0x4000000 M) (hs : Keeps M s0 s) :
    Keeps M s0 (State.wingPair s k line left trail lead) := by
  unfold State.wingPair
  extract_lets +onlyGivenNames x1
  clear_value x1
  extract_lets +onlyGivenNames x2
  clear_value x2
  extract_lets +onlyGivenNames x3
  have hx3 : Keeps M s0 x3 := by
    subst x3
    apply keeps_ite
    · refine setSeam_keeps (hm.mono (by rfl)) ?_
      exact hs
    · exact hs
  clear_value x3
  split
  · apply keeps_ite
    · refine setSeam_keeps (hm.mono (by rfl)) ?_
      exact hs
    · exact hx3
  · exact hx3

theorem trailDone_keeps {s : State} {k : Nat} {t : WingLine} {lead : List Nat} (hm : Sub 0x4000000 M) (hs : Keeps M s0 s) :
    Keeps M s0 (State.trailDone s k t lead) := by
  unfold State.trailDone
  extract_lets +onlyGivenNames x1
  clear_value x1
  refine wingPair_keeps (hm.mono (by rfl)) ?_
  refine setSeam_keeps (hm.mono (by rfl)) ?_
  exact hs

theorem trailInvalid_keeps {s : State} {k : Nat} {t : WingLine} (hm : Sub 0x100000000000000000000000000000000004000000 M)
    (hs : Keeps M s0 s) :
    Keeps M s0 (State.trailInvalid s k t) := by
  unfold State.trailInvalid
  refine trailDone_keeps (hm.mono (by rfl)) ?_
  refine count_keeps (hm.at .STI_WBUF_INV_CNT (by rfl)) ?_
  exact hs

theorem memRead_keeps {s : State} {owner : TxOwner} {port : Nat} {addr : Nat} {len : Nat} (hm : Sub
    0x18400000000000000000000000000000000000420400000000000000000000000000000000000000000000000000000000000000000000000000000000000003020004000 M) (hs : Keeps M s0 s) :
    Keeps M s0 (State.memRead s owner port addr len) := by
  unfold State.memRead
  refine memAccess_keeps (hm.mono (by rfl)) ?_
  exact hs

theorem tryTrail_keeps {s : State} {k : Nat} (hm : Sub
    0x18400000000000000000000000000000000000420400000000000000000000000000000000000000000000000000000100000000000000000000000000000003024004000 M) (hs : Keeps M s0 s) :
    Keeps M s0 (State.tryTrail s k) := by
  unfold State.tryTrail
  apply keeps_foldl
  · intro t1 x2 h3
    apply keeps_ite
    · exact h3
    · extract_lets +onlyGivenNames x4
      clear_value x4
      extract_lets +onlyGivenNames x5
      clear_value x5
      split
      · apply keeps_ite
        · exact h3
        · refine trailInvalid_keeps (hm.mono (by rfl)) ?_
          exact h3
      · refine trailInvalid_keeps (hm.mono (by rfl)) ?_
        exact h3
      · extract_lets +onlyGivenNames x6
        clear_value x6
        apply keeps_ite
        · extract_lets +onlyGivenNames x7
          have hx7 : Keeps M s0 x7 := by
            subst x7
            refine setSeam_keeps (hm.mono (by rfl)) ?_
            exact h3
          clear_value x7
          refine memRead_keeps (hm.mono (by rfl)) ?_
          exact hx7
        · refine trailInvalid_keeps (hm.mono (by rfl)) ?_
          exact h3
  · exact hs

theorem wingGoes_keeps {s : State} {k : Nat} {line : LineNo} {y : YPos} {w : List Nat} {left : Bool} {rightLeads : Bool}
    {ratio : Nat} (hm : Sub
    0x18400000000000000000000000000000000000420400000000000000000000000000000000000000000000000000000100000000000000000000000000000003024004000 M) (hs : Keeps M s0 s) :
    Keeps M s0 (State.wingGoes s k line y w left rightLeads ratio) := by
  unfold State.wingGoes
  extract_lets +onlyGivenNames x1
  clear_value x1
  apply keeps_ite
  · extract_lets +onlyGivenNames x2
    clear_value x2
    extract_lets +onlyGivenNames x3
    clear_value x3
    extract_lets +onlyGivenNames x4
    have hx4 : Keeps M s0 x4 := by
      subst x4
      refine setSeam_keeps (hm.mono (by rfl)) ?_
      exact hs
    clear_value x4
    refine ringWrite_keeps (hm.mono (by rfl)) ?_
    exact hx4
  · extract_lets +onlyGivenNames x5
    clear_value x5
    extract_lets +onlyGivenNames x6
    clear_value x6
    refine tryTrail_keeps (hm.mono (by rfl)) ?_
    refine setSeam_keeps (hm.mono (by rfl)) ?_
    exact hs

theorem wingLine_keeps {s : State} {h : Nat} {k : Nat} {left : Bool} {o : OutLine} {y : YPos} (hm : Sub
    0x18400000000000000000000000000000000000420400000000000000000000000000000000000000000000000000000100000000000000000000000000000003024004000 M) (hs : Keeps M s0 s) :
    Keeps M s0 (State.wingLine s h k left o y) := by
  unfold State.wingLine
  refine wingGoes_keeps (hm.mono (by rfl)) ?_
  exact hs

theorem sendWing_keeps {s : State} {h : Nat} {o : OutLine} {y : YPos} (hm : Sub
    0x18400000080010000000000000000000000000000000000000000000000000000000000000000000000000000000000000000000000000000000000000000000000104000 M) (hs : Keeps M s0 s) :
    Keeps M s0 (State.sendWing s h o y) := by
  unfold State.sendWing
  apply keeps_ite
  · exact hs
  · extract_lets +onlyGivenNames x1
    clear_value x1
    apply keeps_forBelow
    · intro x2 t3 h4
      extract_lets +onlyGivenNames x5
      clear_value x5
      extract_lets +onlyGivenNames x6
      clear_value x6
      refine fabSend_keeps (hm.mono (by rfl)) ?_
      exact h4
    · exact hs

theorem stiLine_keeps {s : State} {h : Nat} {o : OutLine} (hm : Sub
    0x18400000080010000000000000000000000000420400000000000000000000000000000000000000000000000000000100000000000000000000000000000003024104000 M) (hs : Keeps M s0 s) :
    Keeps M s0 (State.stiLine s h o) := by
  unfold State.stiLine
  extract_lets +onlyGivenNames x1
  clear_value x1
  extract_lets +onlyGivenNames x2
  have hx2 : Keeps M s0 x2 := by
    subst x2
    split
    · apply keeps_ite
      · refine wingLine_keeps (hm.mono (by rfl)) ?_
        exact hs
      · exact hs
    · exact hs
  clear_value x2
  split
  · apply keeps_ite
    · refine wingLine_keeps (hm.mono (by rfl)) ?_
      exact hx2
    · exact hx2
  · apply keeps_ite
    · refine sendWing_keeps (hm.mono (by rfl)) ?_
      exact hx2
    · exact hx2

theorem lineOut_keeps {s : State} {h : Nat} {o : OutLine} {faults : List (Nat × Bool)} (hm : Sub
    0x20000018400000080010000000000000003800200000420400000000000007C000004000000000000000000000000003C07915027800033A023F9000000E0180000023067FA4A94 M) (hs : Keeps M s0 s) :
    Keeps M s0 (State.lineOut s h o faults) := by
  unfold State.lineOut
  extract_lets +onlyGivenNames x1
  have hx1 : Keeps M s0 x1 := by
    subst x1
    refine crossIf_keeps (hm.mono (by rfl)) ?_
    refine crossIf_keeps (hm.mono (by rfl)) ?_
    refine crossIf_keeps (hm.mono (by rfl)) ?_
    exact hs
  clear_value x1
  extract_lets +onlyGivenNames x2
  have hx2 : Keeps M s0 x2.1 := by
    subst x2
    refine segLine_keeps (hm.mono (by rfl)) ?_
    exact hx1
  clear_value x2
  refine arcLine_keeps (hm.mono (by rfl)) ?_
  refine stiLine_keeps (hm.mono (by rfl)) ?_
  exact hx2

theorem corOut_keeps {s : State} {h : Nat} {l : CorLine} {up : Option CorLine} {dn : Option CorLine} {faults : List (Nat ×
    Bool)} (hm : Sub
    0x20000018400000080010000000000000003800200000420400000000000007C000004000000000000000000000000003C0791502780003FA0E3F9000000E0180000023067FA4A94 M) (hs : Keeps M s0 s) :
    Keeps M s0 (State.corOut s h l up dn faults) := by
  unfold State.corOut
  extract_lets +onlyGivenNames x1
  clear_value x1
  extract_lets +onlyGivenNames x2
  clear_value x2
  extract_lets +onlyGivenNames x3
  have hx3 : Keeps M s0 x3 := by
    subst x3
    refine count_keeps (hm.at .COR_CLIP_CNT (by rfl)) ?_
    refine count_keeps (hm.at .COR_REPLACED_CNT (by rfl)) ?_
    exact hs
  clear_value x3
  extract_lets +onlyGivenNames x4
  have hx4 : Keeps M s0 x4 := by
    subst x4
    refine ffLine_keeps (hm.mono (by rfl)) ?_
    refine statLine_keeps (hm.mono (by rfl)) ?_
    exact hx3
  clear_value x4
  extract_lets +onlyGivenNames x5
  clear_value x5
  extract_lets +onlyGivenNames x6
  have hx6 : Keeps M s0 x6 := by
    subst x6
    refine gapIf_keeps (hm.mono (by rfl)) ?_
    refine gapIf_keeps (hm.mono (by rfl)) ?_
    exact hx4
  clear_value x6
  extract_lets +onlyGivenNames x7
  have hx7 : Keeps M s0 x7 := by
    subst x7
    refine crossIf_keeps (hm.mono (by rfl)) ?_
    refine awfLost_keeps (hm.mono (by rfl)) ?_
    exact hx6
  clear_value x7
  extract_lets +onlyGivenNames x8
  have hx8 : Keeps M s0 x8.1 := by
    subst x8
    refine awfIn_keeps (hm.mono (by rfl)) ?_
    exact hx7
  clear_value x8
  split
  · exact hx8
  · refine lineOut_keeps (hm.mono (by rfl)) ?_
    exact hx8

theorem corFlush_keeps {s : State} {h : Nat} {faults : List (Nat × Bool)} (hm : Sub
    0x20000018400000080010000000000000003800200000420400000000000007C000004000000000000000000000000003C0791502780003FA0E3F9000000E0180000023067FA4A94 M) (hs : Keeps M s0 s) :
    Keeps M s0 (State.corFlush s h faults) := by
  unfold State.corFlush
  extract_lets +onlyGivenNames x1
  clear_value x1
  split
  · refine corTurn_keeps (hm.mono (by rfl)) ?_
    refine corOut_keeps (hm.mono (by rfl)) ?_
    refine setCorHead_keeps (hm.mono (by rfl)) ?_
    exact hs
  · exact hs

theorem putSeamState_keeps {s : State} {k : Nat} {code : Nat} (hm : Sub 0x406000000000000000000000000000000000000 M) (hs :
    Keeps M s0 s) :
    Keeps M s0 (State.putSeamState s k code) := by
  unfold State.putSeamState
  refine put_keeps ?_ (put_keeps (hm.at .SEAM_STATUS (by rfl)) hs)
  dsimp only
  split
  · exact hm.at .STI_STATE0 (by rfl)
  · exact hm.at .STI_STATE1 (by rfl)

theorem seamChange_keeps {s : State} {k : Nat} {code : Nat} {reason : Nat} (hm : Sub
    0x18400000080010000000000000003800200000000000000000000000000000000000000000000000000000000000000000406020000000000000000000000000000184200 M) (hs : Keeps M s0 s) :
    Keeps M s0 (State.seamChange s k code reason) := by
  unfold State.seamChange
  extract_lets +onlyGivenNames x1
  clear_value x1
  extract_lets +onlyGivenNames x2
  have hx2 : Keeps M s0 x2 := by
    subst x2
    refine put_keeps (hm.at .SEAM_STATUS (by rfl)) ?_
    exact hs
  clear_value x2
  apply keeps_ite
  · exact hx2
  · extract_lets +onlyGivenNames x3
    have hx3 : Keeps M s0 x3 := by
      subst x3
      refine putSeamState_keeps (hm.mono (by rfl)) ?_
      exact hx2
    clear_value x3
    extract_lets +onlyGivenNames x4
    have hx4 : Keeps M s0 x4 := by
      subst x4
      apply keeps_ite
      · refine raise_keeps (hm.mono (by rfl)) (hm.at .STI_EVENT (by rfl)) ?_
        exact hx3
      · exact hx3
    clear_value x4
    extract_lets +onlyGivenNames x5
    have hx5 : Keeps M s0 x5 := by
      subst x5
      apply keeps_ite
      · refine raise_keeps (hm.mono (by rfl)) (hm.at .STI_EVENT (by rfl)) ?_
        exact hx4
      · exact hx4
    clear_value x5
    refine seamReport_keeps (hm.mono (by rfl)) ?_
    exact hx5

theorem seam31Lost_keeps {s : State} (hm : Sub
    0x18400000080010000000000000003800200000000000000000000000000000000000000000000000005628008000000040406020000000000000000000000000006184200 M) (hs : Keeps M s0 s) :
    Keeps M s0 (State.seam31Lost s) := by
  unfold State.seam31Lost
  apply keeps_ite
  · extract_lets +onlyGivenNames x1
    clear_value x1
    extract_lets +onlyGivenNames x2
    have hx2 : Keeps M s0 x2 := by
      subst x2
      refine upd_sti_keeps (hm.mono (by rfl)) ?_
      exact hs
    clear_value x2
    extract_lets +onlyGivenNames x3
    clear_value x3
    apply keeps_ite
    · refine releaseSeam_keeps (hm.mono (by rfl)) ?_
      exact hx2
    · refine releaseSeam_keeps (hm.mono (by rfl)) ?_
      refine seamChange_keeps (hm.mono (by rfl)) ?_
      exact hx2
  · exact hs

theorem frontAdvance_keeps {s : State} {h : Nat} {n : Nat} (hm : Sub
    0x300000000000000000000000000000000000000000000000000000000000000000000000040000000 M) (hs : Keeps M s0 s) :
    Keeps M s0 (State.frontAdvance s h n) := by
  unfold State.frontAdvance
  split
  · exact hs
  · extract_lets +onlyGivenNames x1
    clear_value x1
    split
    · refine frontAdvance_keeps (hm.mono (by rfl)) ?_
      refine setPair_keeps (hm.at .ARC_FRONT_L (by rfl)) (hm.at .ARC_FRONT_H (by rfl)) ?_
      refine setArcHead_keeps (hm.mono (by rfl)) ?_
      exact hs
    · exact hs

theorem blockReturned_keeps {s : State} {h : Nat} {line : LineNo} (hm : Sub
    0x20000018400000080010000000000000003800200000420400000000000007F000004000000000000000000000000000000000000000000000000000000000000000230601A4280 M) (hs : Keeps M s0 s) :
    Keeps M s0 (State.blockReturned s h line) := by
  unfold State.blockReturned
  extract_lets +onlyGivenNames x1
  clear_value x1
  extract_lets +onlyGivenNames x2
  have hx2 : Keeps M s0 x2 := by
    subst x2
    refine setArcHead_keeps (hm.mono (by rfl)) ?_
    exact hs
  clear_value x2
  refine arcPump_keeps (hm.mono (by rfl)) ?_
  refine frontAdvance_keeps (hm.mono (by rfl)) ?_
  exact hx2

theorem ctxDrop_keeps {s : State} {n : Nat} (hm : Sub 0x80 M) (hs : Keeps M s0 s) :
    Keeps M s0 (State.ctxDrop s n) := by
  unfold State.ctxDrop
  refine setWinBytes_keeps (hm.mono (by rfl)) ?_
  exact hs

theorem ringWritten_keeps {s : State} {k : Nat} {j : Nat} {ok : Bool} (hm : Sub
    0x18400000000000000000000000000000000000420400000000000000000000000000000000000000000000000000000100000000000000000000000000000003024004000 M) (hs : Keeps M s0 s) :
    Keeps M s0 (State.ringWritten s k j ok) := by
  unfold State.ringWritten
  extract_lets +onlyGivenNames x1
  clear_value x1
  extract_lets +onlyGivenNames x2
  clear_value x2
  extract_lets +onlyGivenNames x3
  clear_value x3
  extract_lets +onlyGivenNames x4
  have hx4 : Keeps M s0 x4 := by
    subst x4
    refine setSeam_keeps (hm.mono (by rfl)) ?_
    exact hs
  clear_value x4
  refine tryTrail_keeps (hm.mono (by rfl)) ?_
  exact hx4

theorem ringRead_keeps {s : State} {k : Nat} {line : Nat} {data : List Byte} {bad : List (Nat × Nat × MemErr)} (hm : Sub
    0x18400000000000000000000000000000000000000000000000000000000000000000000000000000000000000000000100000020000000000000000000000000004004000 M) (hs : Keeps M s0 s) :
    Keeps M s0 (State.ringRead s k line data bad) := by
  unfold State.ringRead
  split
  · exact hs
  · extract_lets +onlyGivenNames x1
    subst x1
    extract_lets +onlyGivenNames x2
    clear_value x2
    extract_lets +onlyGivenNames x3
    have hx3 : Keeps M s0 x3 := by
      subst x3
      apply keeps_ite
      · refine raise_keeps (hm.mono (by rfl)) (hm.at .STI_EVENT (by rfl)) ?_
        exact hs
      · exact hs
    clear_value x3
    extract_lets +onlyGivenNames x4
    have hx4 : Keeps M s0 x4 := by
      subst x4
      refine count_keeps (hm.at .STI_WBUF_INV_CNT (by rfl)) ?_
      exact hx3
    clear_value x4
    refine trailDone_keeps (hm.mono (by rfl)) ?_
    exact hx4

theorem seamWritten_keeps {s : State} {k : Nat} (hm : Sub 0x4000000 M) (hs : Keeps M s0 s) :
    Keeps M s0 (State.seamWritten s k) := by
  unfold State.seamWritten
  refine setSeam_keeps (hm.mono (by rfl)) ?_
  exact hs

theorem putDebt_keeps {s : State} {r : Nat} {d : Int} (hm : Sub
    0x300000000000000000000000000000000000000000000000000000000000000000000000000000000000000000000 M) (hs : Keeps M s0 s) :
    Keeps M s0 (State.putDebt s r d) := by
  unfold State.putDebt
  refine put_keeps ?_ hs
  unfold debtFld
  dsimp only
  split
  · exact hm.at .MEM_DEBT0 (by rfl)
  · exact hm.at .MEM_DEBT1 (by rfl)

theorem dramStamp_keeps {s : State} {rank : Nat} {bank : Nat} {c : DramCmd} (hm : Sub 0x20000000 M) (hs : Keeps M s0 s) :
    Keeps M s0 (State.dramStamp s rank bank c) := by
  unfold State.dramStamp
  extract_lets +onlyGivenNames x1
  clear_value x1
  refine upd_mem_keeps (hm.mono (by rfl)) (.inr rfl) (.inr rfl) (.inr rfl) ?_
  exact hs

theorem refreshRank_keeps {s : State} {r : Nat} (hm : Sub
    0x18400000000000000000000000000000000000000000000000000000000000000000000000000000000000000000000000000000000000000000000000000000020004004 M) (hs : Keeps M s0 s) :
    Keeps M s0 (State.refreshRank s r) := by
  unfold State.refreshRank
  extract_lets +onlyGivenNames x1
  have hx1 : Keeps M s0 x1 := by
    subst x1
    refine dramStamp_keeps (hm.mono (by rfl)) ?_
    refine pmcCount_keeps (hm.mono (by rfl)) ?_
    refine emit_keeps (hm.mono (by rfl)) ?_
    exact hs
  clear_value x1
  refine upd_mem_keeps (hm.mono (by rfl)) (.inr rfl) (.inr rfl) (.inr rfl) ?_
  exact hx1

theorem setMemRank_keeps {s : State} {r : Nat} {x : MemRank} (hm : Sub 0x20000000 M) (hs : Keeps M s0 s) :
    Keeps M s0 (State.setMemRank s r x) := by
  unfold State.setMemRank
  refine upd_mem_keeps (hm.mono (by rfl)) (.inr rfl) (.inr rfl) (.inr rfl) ?_
  exact hs

theorem memStandby_keeps {s : State} (hm : Sub
    0x18400000000000000000000000000000000000000000300400000000000000000000000000000000000000000000000000000000000000000000000000000000020004004 M) (hs : Keeps M s0 s) :
    Keeps M s0 (State.memStandby s) := by
  unfold State.memStandby
  extract_lets +onlyGivenNames x1
  have hx1 : Keeps M s0 x1 := by
    subst x1
    apply keeps_forBelow
    · intro x2 t3 h4
      apply keeps_ite
      · refine putDebt_keeps (hm.mono (by rfl)) ?_
        apply keeps_forBelow
        · intro x5 t6 h7
          refine refreshRank_keeps (hm.mono (by rfl)) ?_
          exact h7
        · exact h4
      · exact h4
    · exact hs
  clear_value x1
  extract_lets +onlyGivenNames x8
  have hx8 : Keeps M s0 x8 := by
    subst x8
    apply keeps_forBelow
    · intro x9 t10 h11
      apply keeps_ite
      · refine setMemRank_keeps (hm.mono (by rfl)) ?_
        exact h11
      · exact h11
    · exact hx1
  clear_value x8
  extract_lets +onlyGivenNames x12
  subst x12
  extract_lets +onlyGivenNames x13
  have hx13 : Keeps M s0 x13 := by
    subst x13
    refine upd_mem_keeps (hm.mono (by rfl)) (.inr rfl) (.inr rfl) (.inr rfl) ?_
    exact hx8
  clear_value x13
  refine put_keeps (hm.at .MEM_STATUS (by rfl)) ?_
  exact hx13

theorem trainSlice_keeps {s : State} {last : Bool} (hm : Sub
    0x2000400000000000000000000000000000000000000000000000000000000000000000000000000000000020000004 M) (hs : Keeps M s0 s)
    :
    Keeps M s0 (State.trainSlice s last) := by
  unfold State.trainSlice
  split
  · exact hs
  · extract_lets +onlyGivenNames x1
    have hx1 : Keeps M s0 x1 := by
      subst x1
      refine emit_keeps (hm.mono (by rfl)) ?_
      exact hs
    clear_value x1
    apply keeps_ite
    · extract_lets +onlyGivenNames x2
      subst x2
      extract_lets +onlyGivenNames x3
      have hx3 : Keeps M s0 x3 := by
        subst x3
        refine upd_mem_keeps (hm.mono (by rfl)) (.inr rfl) (.inr rfl) (.inr rfl) ?_
        exact hx1
      clear_value x3
      refine put_keeps (hm.at .MEM_TRN_STATUS (by rfl)) ?_
      refine put_keeps (hm.at .MEM_STATUS (by rfl)) ?_
      exact hx3
    · refine upd_mem_keeps (hm.mono (by rfl)) (.inr rfl) (.inr rfl) (.inr rfl) ?_
      exact hx1

theorem fspTo_keeps {s : State} {f : Nat} (hm : Sub
    0x2000400000000000000000000000000000000000000000000000000000000000000000000000000000004020000004 M) (hs : Keeps M s0 s)
    :
    Keeps M s0 (State.fspTo s f) := by
  unfold State.fspTo
  split
  · refine upd_mem_keeps (hm.mono (by rfl)) (.inr rfl) (.inr rfl) (.inr rfl) ?_
    exact hs
  · apply keeps_ite
    · exact hs
    · extract_lets +onlyGivenNames x1
      have hx1 : Keeps M s0 x1 := by
        subst x1
        refine trainSlice_keeps (hm.mono (by rfl)) ?_
        exact hs
      clear_value x1
      extract_lets +onlyGivenNames x2
      subst x2
      extract_lets +onlyGivenNames x3
      have hx3 : Keeps M s0 x3 := by
        subst x3
        refine upd_mem_keeps (hm.mono (by rfl)) (.inr rfl) (.inr rfl) (.inl (hm.bit (by rfl))) ?_
        exact hx1
      clear_value x3
      extract_lets +onlyGivenNames x4
      have hx4 : Keeps M s0 x4 := by
        subst x4
        refine put_keeps (hm.at .MEM_STATUS (by rfl)) ?_
        refine put_keeps (hm.at .MEM_STATUS (by rfl)) ?_
        exact hx3
      clear_value x4
      refine put_keeps (hm.at .MEM_TRN_STATUS (by rfl)) ?_
      refine put_keeps (hm.at .MEM_STATUS (by rfl)) ?_
      exact hx4

theorem clearDebts_keeps {s : State} (hm : Sub
    0x300000000000000000000000000000000000000000000000000000000000000000000000000000000000000000000 M) (hs : Keeps M s0 s) :
    Keeps M s0 (State.clearDebts s) := by
  unfold State.clearDebts
  apply keeps_forBelow
  · intro x1 t2 h3
    refine putDebt_keeps (hm.mono (by rfl)) ?_
    exact h3
  · exact hs

theorem memWake_keeps {s : State} (hm : Sub
    0x300400000000000000000000000000000000000000000000000000000000000000000000000000000000020000000 M) (hs : Keeps M s0 s) :
    Keeps M s0 (State.memWake s) := by
  unfold State.memWake
  extract_lets +onlyGivenNames x1
  have hx1 : Keeps M s0 x1 := by
    subst x1
    apply keeps_forBelow
    · intro x2 t3 h4
      apply keeps_ite
      · refine setMemRank_keeps (hm.mono (by rfl)) ?_
        exact h4
      · exact h4
    · exact hs
  clear_value x1
  extract_lets +onlyGivenNames x5
  subst x5
  extract_lets +onlyGivenNames x6
  have hx6 : Keeps M s0 x6 := by
    subst x6
    refine upd_mem_keeps (hm.mono (by rfl)) (.inr rfl) (.inr rfl) (.inr rfl) ?_
    exact hx1
  clear_value x6
  refine put_keeps (hm.at .MEM_STATUS (by rfl)) ?_
  refine clearDebts_keeps (hm.mono (by rfl)) ?_
  exact hx6

theorem fspRequest_keeps {s : State} {f : Nat} (hm : Sub
    0x18400000000000000000000000000000000000080002000C00000000000000000000000000000000000000000000000000000000000000000000000000000004020004004 M) (hs : Keeps M s0 s) :
    Keeps M s0 (State.fspRequest s f) := by
  unfold State.fspRequest
  apply keeps_ite
  · refine fspTo_keeps (hm.mono (by rfl)) ?_
    exact hs
  · refine raise_keeps (hm.mono (by rfl)) (hm.at .MEM_EVENT (by rfl)) ?_
    refine count_keeps (hm.at .MEM_FSP_REFUSE_CNT (by rfl)) ?_
    exact hs

theorem arcClear_keeps {s : State} (hm : Sub 0x40000100 M) (hs : Keeps M s0 s) :
    Keeps M s0 (State.arcClear s) := by
  unfold State.arcClear
  extract_lets +onlyGivenNames x1
  subst x1
  extract_lets +onlyGivenNames x2
  have hx2 : Keeps M s0 x2 := by
    subst x2
    refine clearDram_keeps (hm.mono (by rfl)) ?_
    exact hs
  clear_value x2
  refine upd_arc_keeps (hm.mono (by rfl)) (.inr rfl) ?_
  exact hx2

theorem markBadRow_keeps {s : State} {h : Nat} {strip : LineNo} (hm : Sub
    0x18400000000000000000000000000000000000420400000000000010000000400000000000000000000000000000000000000000000000000000000000000003060004000 M) (hs : Keeps M s0 s) :
    Keeps M s0 (State.markBadRow s h strip) := by
  unfold State.markBadRow
  extract_lets +onlyGivenNames x1
  have hx1 : Keeps M s0 x1 := by
    subst x1
    refine raise_keeps (hm.mono (by rfl)) (hm.at .ARC_EVENT (by rfl)) ?_
    refine count_keeps (hm.at .ARC_BADROW_CNT (by rfl)) ?_
    exact hs
  clear_value x1
  split
  · refine setRow_keeps (hm.mono (by rfl)) ?_
    exact hx1
  · extract_lets +onlyGivenNames x2
    clear_value x2
    refine memWrite_keeps (hm.mono (by rfl)) ?_
    exact hx1

theorem arcPoison_keeps {s : State} {l : Nat} (hm : Sub
    0x18400000000000000000000000000000000000420400000000000010000000400000000000000000000000000000000000000000000000000000000000000003060004000 M) (hs : Keeps M s0 s) :
    Keeps M s0 (State.arcPoison s l) := by
  unfold State.arcPoison
  apply keeps_forBelow
  · intro x1 t2 h3
    apply keeps_ite
    · apply keeps_foldl
      · intro t4 x5 h6
        refine markBadRow_keeps (hm.mono (by rfl)) ?_
        exact h6
      · exact h3
    · exact h3
  · exact hs

theorem arcRunEntry_keeps {s : State} {h : Nat} (hm : Sub 0x40000000 M) (hs : Keeps M s0 s) :
    Keeps M s0 (State.arcRunEntry s h) := by
  unfold State.arcRunEntry
  refine setArcHead_keeps (hm.mono (by rfl)) ?_
  exact hs

theorem pullIn_keeps {s : State} {sc : Nat} (hm : Sub
    0x18400000000000000000000000000000000000000000300000000000000000000000000000000000000000000000000000000000000000000000000000000000020004004 M) (hs : Keeps M s0 s) :
    Keeps M s0 (State.pullIn s sc) := by
  unfold State.pullIn
  apply keeps_ite
  · split
    · refine putDebt_keeps (hm.mono (by rfl)) ?_
      refine refreshRank_keeps (hm.mono (by rfl)) ?_
      exact hs
    · exact hs
  · exact hs

theorem background_keeps {s : State} {sc : Nat} {last : Bool} (hm : Sub
    0x18400000000000000000000000000000000000000002300400000000000000000000000000000000000000000000000000000000000000000000000000000000020004004 M) (hs : Keeps M s0 s) :
    Keeps M s0 (State.background s sc last) := by
  unfold State.background
  split
  · apply keeps_ite
    · refine trainSlice_keeps (hm.mono (by rfl)) ?_
      exact hs
    · refine pullIn_keeps (hm.mono (by rfl)) ?_
      exact hs
  · apply keeps_ite
    · refine emit_keeps (hm.mono (by rfl)) ?_
      exact hs
    · refine pullIn_keeps (hm.mono (by rfl)) ?_
      exact hs

theorem blockError_keeps {s : State} {o : MemOp} (hm : Sub
    0x2000001840000008001000000000000000380020000042040000000000001FF000004000000000000000000000000000000000000000000000000000000000000000230601A4280 M) (hs : Keeps M s0 s) :
    Keeps M s0 (State.blockError s o) := by
  unfold State.blockError
  split
  · refine memWrite_keeps (hm.mono (by rfl)) ?_
    exact hs
  · refine blockReturned_keeps (hm.mono (by rfl)) ?_
    refine markBadRow_keeps (hm.mono (by rfl)) ?_
    refine count_keeps (hm.at .ARC_WERR_CNT (by rfl)) ?_
    exact hs
  · exact hs

theorem stiRestore_keeps {s : State} {c : Calib} (hm : Sub 0x380000000000000000000000000000000000000 M) (hs : Keeps M s0 s)
    :
    Keeps M s0 (State.stiRestore s c) := by
  unfold State.stiRestore
  apply keeps_ite
  · apply keeps_forBelow
    · intro x1 t2 h3
      split
      · exact h3
      · apply keeps_ite
        · refine put_keeps (hm.at .SEAM_YOFS (by rfl)) ?_
          refine put_keeps (hm.at .SEAM_SCALE (by rfl)) ?_
          refine put_keeps (hm.at .SEAM_OFS (by rfl)) ?_
          exact h3
        · exact h3
    · exact hs
  · exact hs

theorem stiRunEntry_keeps {s : State} {h : Nat} (hm : Sub 0x4000000 M) (hs : Keeps M s0 s) :
    Keeps M s0 (State.stiRunEntry s h) := by
  unfold State.stiRunEntry
  apply keeps_forBelow
  · intro x1 t2 h3
    apply keeps_ite
    · refine setSeam_keeps (hm.mono (by rfl)) ?_
      exact h3
    · exact h3
  · exact hs

theorem issueFor_keeps {s : State} {sc : Nat} {x : MemTx} (hm : Sub
    0x200000000000000000000000000000000000000000000000000000000000000000000000000000000000000000020000004 M) (hs : Keeps M
    s0 s) :
    Keeps M s0 (State.issueFor s sc x) := by
  unfold State.issueFor
  extract_lets +onlyGivenNames x1
  clear_value x1
  extract_lets +onlyGivenNames x2
  clear_value x2
  extract_lets +onlyGivenNames x3
  clear_value x3
  apply keeps_ite
  · extract_lets +onlyGivenNames x4
    have hx4 : Keeps M s0 x4 := by
      subst x4
      apply keeps_ite
      · refine count_keeps (hm.at .MEM_LATE_CNT (by rfl)) ?_
        exact hs
      · exact hs
    clear_value x4
    extract_lets +onlyGivenNames x5
    clear_value x5
    extract_lets +onlyGivenNames x6
    have hx6 : Keeps M s0 x6 := by
      subst x6
      refine dramStamp_keeps (hm.mono (by rfl)) ?_
      refine emit_keeps (hm.mono (by rfl)) ?_
      exact hx4
    clear_value x6
    refine upd_mem_keeps (hm.mono (by rfl)) (.inr rfl) (.inr rfl) (.inr rfl) ?_
    exact hx6
  · extract_lets +onlyGivenNames x7
    clear_value x7
    apply keeps_ite
    · refine dramStamp_keeps (hm.mono (by rfl)) ?_
      refine emit_keeps (hm.mono (by rfl)) ?_
      refine upd_mem_keeps (hm.mono (by rfl)) (.inr rfl) (.inr rfl) (.inr rfl) ?_
      exact hs
    · refine dramStamp_keeps (hm.mono (by rfl)) ?_
      refine emit_keeps (hm.mono (by rfl)) ?_
      refine upd_mem_keeps (hm.mono (by rfl)) (.inr rfl) (.inr rfl) (.inr rfl) ?_
      exact hs

theorem ordinarySlot_keeps {s : State} {sc : Nat} {last : Bool} (hm : Sub
    0x18400000000000000000000000000000000000200002300400000000000000000000000000000000000000000000000000000000000000000000000000000000020004004 M) (hs : Keeps M s0 s) :
    Keeps M s0 (State.ordinarySlot s sc last) := by
  unfold State.ordinarySlot
  extract_lets +onlyGivenNames x1
  clear_value x1
  split
  · apply keeps_ite
    · refine emit_keeps (hm.mono (by rfl)) ?_
      exact hs
    · refine background_keeps (hm.mono (by rfl)) ?_
      exact hs
  · extract_lets +onlyGivenNames x2
    clear_value x2
    apply keeps_ite
    · refine emit_keeps (hm.mono (by rfl)) ?_
      exact hs
    · refine issueFor_keeps (hm.mono (by rfl)) ?_
      exact hs

theorem commandSlot_keeps {s : State} {sc : Nat} {last : Bool} (hm : Sub
    0x18400000000000000000000000000000000000200002300400000000000000000000000000000000000000000000000000000000000000000000000000000000020004004 M) (hs : Keeps M s0 s) :
    Keeps M s0 (State.commandSlot s sc last) := by
  unfold State.commandSlot
  apply keeps_ite
  · exact hs
  · split
    · apply keeps_ite
      · refine trainSlice_keeps (hm.mono (by rfl)) ?_
        exact hs
      · refine ordinarySlot_keeps (hm.mono (by rfl)) ?_
        exact hs
    · refine ordinarySlot_keeps (hm.mono (by rfl)) ?_
      exact hs

theorem startMigration_keeps {s : State} {f : Nat} (hm : Sub
    0x18400000000000000000000000000000000000420438000C00000000000000000000000000000000000000000000000000000000000000000000000000000003020004000 M) (hs : Keeps M s0 s) :
    Keeps M s0 (State.startMigration s f) := by
  unfold State.startMigration
  extract_lets +onlyGivenNames x1
  clear_value x1
  extract_lets +onlyGivenNames x2
  clear_value x2
  extract_lets +onlyGivenNames x3
  have hx3 : Keeps M s0 x3 := by
    subst x3
    refine setMemRank_keeps (hm.mono (by rfl)) ?_
    exact hs
  clear_value x3
  extract_lets +onlyGivenNames x4
  have hx4 : Keeps M s0 x4 := by
    subst x4
    refine put_keeps (hm.at .MEM_STATUS (by rfl)) ?_
    refine put_keeps (hm.at .MEM_STATUS (by rfl)) ?_
    exact hx3
  clear_value x4
  extract_lets +onlyGivenNames x5
  have hx5 : Keeps M s0 x5 := by
    subst x5
    refine put_keeps (hm.at .MEM_STATUS (by rfl)) ?_
    exact hx4
  clear_value x5
  extract_lets +onlyGivenNames x6
  have hx6 : Keeps M s0 x6 := by
    subst x6
    refine setPair_keeps (hm.at .MEM_MIG_PTR_L (by rfl)) (hm.at .MEM_MIG_PTR_H (by rfl)) ?_
    exact hx5
  clear_value x6
  extract_lets +onlyGivenNames x7
  have hx7 : Keeps M s0 x7 := by
    subst x7
    refine put_keeps (hm.at .MEM_RMAP (by rfl)) ?_
    refine put_keeps (hm.at .MEM_RMAP (by rfl)) ?_
    refine put_keeps (hm.at .MEM_RMAP (by rfl)) ?_
    exact hx6
  clear_value x7
  extract_lets +onlyGivenNames x8
  have hx8 : Keeps M s0 x8 := by
    subst x8
    refine put_keeps (hm.at .MEM_RMAP (by rfl)) ?_
    exact hx7
  clear_value x8
  extract_lets +onlyGivenNames x9
  subst x9
  extract_lets +onlyGivenNames x10
  have hx10 : Keeps M s0 x10 := by
    subst x10
    refine upd_mem_keeps (hm.mono (by rfl)) (.inr rfl) (.inr rfl) (.inr rfl) ?_
    exact hx8
  clear_value x10
  refine wingMigr_keeps (hm.mono (by rfl)) ?_
  refine raise_keeps (hm.mono (by rfl)) (hm.at .MEM_EVENT (by rfl)) ?_
  exact hx10

theorem correctedError_keeps {s : State} {rank : Nat} (hm : Sub
    0x18400000000000000000000000000000000000420C38000C00000000000000000000000000000000000000000000000000000000000000000000000000000003020004000 M) (hs : Keeps M s0 s) :
    Keeps M s0 (State.correctedError s rank) := by
  unfold State.correctedError
  extract_lets +onlyGivenNames x1
  have hx1 : Keeps M s0 x1 := by
    subst x1
    refine count_keeps (hm.at .MEM_CE_CNT (by rfl)) ?_
    exact hs
  clear_value x1
  extract_lets +onlyGivenNames x2
  clear_value x2
  extract_lets +onlyGivenNames x3
  clear_value x3
  apply keeps_ite
  · extract_lets +onlyGivenNames x4
    have hx4 : Keeps M s0 x4 := by
      subst x4
      refine raise_keeps (hm.mono (by rfl)) (hm.at .MEM_EVENT (by rfl)) ?_
      refine setMemRank_keeps (hm.mono (by rfl)) ?_
      exact hx1
    clear_value x4
    apply keeps_ite
    · refine startMigration_keeps (hm.mono (by rfl)) ?_
      exact hx4
    · exact hx4
  · refine setMemRank_keeps (hm.mono (by rfl)) ?_
    exact hx1

theorem coverage_keeps {s : State} {h : Nat} {n : LineNo} (hm : Sub
    0x18400000080010000000000000003800200000000000000000000000000000000000000000000000000000000000000000000000000000000000000000000000000185200 M) (hs : Keeps M s0 s) :
    Keeps M s0 (State.coverage s h n) := by
  unfold State.coverage
  apply keeps_ite
  · extract_lets +onlyGivenNames x1
    subst x1
    extract_lets +onlyGivenNames x2
    have hx2 : Keeps M s0 x2 := by
      subst x2
      refine upd_glb_keeps (hm.mono (by rfl)) (.inr rfl) (.inr rfl) (.inr rfl) ?_
      exact hs
    clear_value x2
    extract_lets +onlyGivenNames x3
    clear_value x3
    extract_lets +onlyGivenNames x4
    clear_value x4
    extract_lets +onlyGivenNames x5
    clear_value x5
    extract_lets +onlyGivenNames x6
    clear_value x6
    extract_lets +onlyGivenNames x7
    clear_value x7
    apply keeps_ite
    · exact hx2
    · refine formGap_keeps (hm.mono (by rfl)) ?_
      exact hx2
  · exact hs

theorem unissue_keeps {s : State} {x : MemTx} (hm : Sub 0x20000000 M) (hs : Keeps M s0 s) :
    Keeps M s0 (State.unissue s x) := by
  unfold State.unissue
  refine upd_mem_keeps (hm.mono (by rfl)) (.inr rfl) (.inr rfl) (.inr rfl) ?_
  exact hs

theorem noteUe_keeps {s : State} {kind : Nat} {rank : Nat} {port : Nat} {addr : Nat} (hm : Sub
    0x1C0000000000000000000000000000000000000000000000000000000000000000000000000000000000000000000000 M) (hs : Keeps M s0
    s) :
    Keeps M s0 (State.noteUe s kind rank port addr) := by
  unfold State.noteUe
  extract_lets +onlyGivenNames x1
  have hx1 : Keeps M s0 x1 := by
    subst x1
    refine setPair_keeps (hm.at .MEM_UE_ADDR_L (by rfl)) (hm.at .MEM_UE_ADDR_H (by rfl)) ?_
    exact hs
  clear_value x1
  extract_lets +onlyGivenNames x2
  have hx2 : Keeps M s0 x2 := by
    subst x2
    refine put_keeps (hm.at .MEM_UE_INFO (by rfl)) ?_
    refine put_keeps (hm.at .MEM_UE_INFO (by rfl)) ?_
    exact hx1
  clear_value x2
  refine put_keeps (hm.at .MEM_UE_INFO (by rfl)) ?_
  exact hx2

theorem endRankAccesses_keeps {s : State} {r : Nat} (hm : Sub
    0x18400000000000000000000000000000000000400400000000000000000000000000000000000000000000000000000000000000000000000000000000000003020004000 M) (hs : Keeps M s0 s) :
    Keeps M s0 (State.endRankAccesses s r) := by
  unfold State.endRankAccesses
  extract_lets +onlyGivenNames x1
  clear_value x1
  extract_lets +onlyGivenNames x2
  subst x2
  extract_lets +onlyGivenNames x3
  subst x3
  extract_lets +onlyGivenNames x4
  have hx4 : Keeps M s0 x4 := by
    subst x4
    refine upd_mem_keeps (hm.mono (by rfl)) (.inr rfl) (.inr rfl) (.inr rfl) ?_
    exact hs
  clear_value x4
  apply keeps_foldl
  · intro t5 x6 h7
    refine pieceEnd_keeps (hm.mono (by rfl)) ?_
    exact h7
  · exact hx4

theorem freezeMigration_keeps {s : State} (hm : Sub
    0x18400000000000000000000000000000000000000020000C00000000000000000000000000000000000000000000000000000000000000000000000000000000000004000 M) (hs : Keeps M s0 s) :
    Keeps M s0 (State.freezeMigration s) := by
  unfold State.freezeMigration
  extract_lets +onlyGivenNames x1
  have hx1 : Keeps M s0 x1 := by
    subst x1
    refine put_keeps (hm.at .MEM_RMAP (by rfl)) ?_
    refine put_keeps (hm.at .MEM_STATUS (by rfl)) ?_
    exact hs
  clear_value x1
  extract_lets +onlyGivenNames x2
  have hx2 : Keeps M s0 x2 := by
    subst x2
    refine put_keeps (hm.at .MEM_STATUS (by rfl)) ?_
    exact hx1
  clear_value x2
  refine raise_keeps (hm.mono (by rfl)) (hm.at .MEM_EVENT (by rfl)) ?_
  exact hx2

theorem rankFailure_keeps {s : State} {rank : Nat} {kind : Nat} {port : Nat} {addr : Nat} {x : Option MemTx} (hm : Sub
    0x200000184000000800100000000000000038002000004215F8000C000000000000000000000000000000000000000000000000000000000000000000000000000000230201A4200 M) (hs : Keeps M s0 s) :
    Keeps M s0 (State.rankFailure s rank kind port addr x) := by
  unfold State.rankFailure
  extract_lets +onlyGivenNames x1
  have hx1 : Keeps M s0 x1 := by
    subst x1
    refine raise_keeps (hm.mono (by rfl)) (hm.at .MEM_EVENT (by rfl)) ?_
    refine count_keeps (hm.at .MEM_UE_CNT (by rfl)) ?_
    refine noteUe_keeps (hm.mono (by rfl)) ?_
    exact hs
  clear_value x1
  extract_lets +onlyGivenNames x2
  have hx2 : Keeps M s0 x2 := by
    subst x2
    refine fault_keeps (hm.mono (by rfl)) ?_
    exact hx1
  clear_value x2
  extract_lets +onlyGivenNames x3
  have hx3 : Keeps M s0 x3 := by
    subst x3
    split
    · exact hx2
    · refine pieceEnd_keeps (hm.mono (by rfl)) ?_
      exact hx2
  clear_value x3
  extract_lets +onlyGivenNames x4
  clear_value x4
  extract_lets +onlyGivenNames x5
  clear_value x5
  extract_lets +onlyGivenNames x6
  have hx6 : Keeps M s0 x6 := by
    subst x6
    apply keeps_ite
    · exact hx3
    · refine setMemRank_keeps (hm.mono (by rfl)) ?_
      refine endRankAccesses_keeps (hm.mono (by rfl)) ?_
      exact hx3
  clear_value x6
  apply keeps_ite
  · exact hx6
  · apply keeps_ite
    · refine freezeMigration_keeps (hm.mono (by rfl)) ?_
      exact hx6
    · apply keeps_ite
      · refine startMigration_keeps (hm.mono (by rfl)) ?_
        exact hx6
      · refine raise_keeps (hm.mono (by rfl)) (hm.at .MEM_EVENT (by rfl)) ?_
        refine put_keeps (hm.at .MEM_STATUS (by rfl)) ?_
        exact hx6

theorem crcAlert_keeps {s : State} {x : MemTx} (hm : Sub
    0x200000184000000800100000000000000038002000004235F8000C000000000000000000000000000000000000000000000000000000000000000000000000000000230201A4200 M) (hs : Keeps M s0 s) :
    Keeps M s0 (State.crcAlert s x) := by
  unfold State.crcAlert
  extract_lets +onlyGivenNames x1
  have hx1 : Keeps M s0 x1 := by
    subst x1
    refine unissue_keeps (hm.mono (by rfl)) ?_
    exact hs
  clear_value x1
  apply keeps_ite
  · refine count_keeps (hm.at .MEM_CRC_RETRY_CNT (by rfl)) ?_
    refine upd_mem_keeps (hm.mono (by rfl)) (.inr rfl) (.inr rfl) (.inr rfl) ?_
    exact hx1
  · refine rankFailure_keeps (hm.mono (by rfl)) ?_
    exact hx1

theorem laneCycles_keeps {s : State} {h : Nat} {raw : RawLine} (hm : Sub
    0x1840000000000000000000000000000000000000000000000000000000000000000000000000000000000000000000000000000000000000000000000000000000000C000 M) (hs : Keeps M s0 s) :
    Keeps M s0 (State.laneCycles s h raw) := by
  unfold State.laneCycles
  extract_lets +onlyGivenNames x1
  clear_value x1
  extract_lets +onlyGivenNames x2
  clear_value x2
  extract_lets +onlyGivenNames x3
  clear_value x3
  extract_lets +onlyGivenNames x4
  have hx4 : Keeps M s0 x4 := by
    subst x4
    refine quadLine_keeps (hm.mono (by rfl)) ?_
    exact hs
  clear_value x4
  extract_lets +onlyGivenNames x5
  have hx5 : Keeps M s0 x5 := by
    subst x5
    refine pmcCount_keeps (hm.mono (by rfl)) ?_
    refine pmcCount_keeps (hm.mono (by rfl)) ?_
    exact hx4
  clear_value x5
  refine pmcCount_keeps (hm.mono (by rfl)) ?_
  refine pmcCount_keeps (hm.mono (by rfl)) ?_
  exact hx5

theorem deliver_keeps {s : State} {p : Nat} {faults : List (Nat × Bool)} (hm : Sub
    0x20000018400000080010000000000000003800200000420400000000000007C000004000000000000000000000000003C0791502780003FA0E3F9000000E0180000023067FADA94 M) (hs : Keeps M s0 s) :
    Keeps M s0 (State.deliver s p faults) := by
  unfold State.deliver
  extract_lets +onlyGivenNames x1
  clear_value x1
  split
  · exact hs
  · extract_lets +onlyGivenNames x2
    clear_value x2
    extract_lets +onlyGivenNames x3
    clear_value x3
    extract_lets +onlyGivenNames x4
    have hx4 : Keeps M s0 x4 := by
      subst x4
      refine setCamPort_keeps (hm.mono (by rfl)) ?_
      exact hs
    clear_value x4
    extract_lets +onlyGivenNames x5
    have hx5 : Keeps M s0 x5 := by
      subst x5
      refine laneCycles_keeps (hm.mono (by rfl)) ?_
      refine coverage_keeps (hm.mono (by rfl)) ?_
      exact hx4
    clear_value x5
    extract_lets +onlyGivenNames x6
    have hx6 : Keeps M s0 x6 := by
      subst x6
      refine crossIf_keeps (hm.mono (by rfl)) ?_
      exact hx5
    clear_value x6
    extract_lets +onlyGivenNames x7
    clear_value x7
    extract_lets +onlyGivenNames x8
    clear_value x8
    extract_lets +onlyGivenNames x9
    subst x9
    apply keeps_ite
    · extract_lets +onlyGivenNames x10
      have hx10 : Keeps M s0 x10 := by
        subst x10
        split
        · refine corOut_keeps (hm.mono (by rfl)) ?_
          exact hx6
        · exact hx6
      clear_value x10
      dsimp only
      refine setCorHead_keeps (hm.mono (by rfl)) ?_
      refine corTurn_keeps (hm.mono (by rfl)) ?_
      exact hx10
    · dsimp only
      refine setCorHead_keeps (hm.mono (by rfl)) ?_
      refine corOut_keeps (hm.mono (by rfl)) ?_
      exact hx6

theorem estimate_keeps {s : State} {k : Nat} {w : Window} (hm : Sub 0x1C00000000000000000000000000000000000000 M) (hs :
    Keeps M s0 s) :
    Keeps M s0 (State.estimate s k w).1 := by
  unfold State.estimate
  extract_lets +onlyGivenNames x1
  clear_value x1
  extract_lets +onlyGivenNames x2
  subst x2
  apply keeps_ite_fst
  · exact hs
  · apply keeps_ite_fst
    · exact hs
    · extract_lets +onlyGivenNames x3
      clear_value x3
      extract_lets +onlyGivenNames x4
      clear_value x4
      extract_lets +onlyGivenNames x5
      clear_value x5
      extract_lets +onlyGivenNames x6
      subst x6
      apply keeps_ite_fst
      · exact hs
      · extract_lets +onlyGivenNames x7
        clear_value x7
        extract_lets +onlyGivenNames x8
        clear_value x8
        extract_lets +onlyGivenNames x9
        have hx9 : Keeps M s0 x9 := by
          subst x9
          refine put_keeps (hm.at .SEAM_EST2 (by rfl)) ?_
          refine put_keeps (hm.at .SEAM_EST2 (by rfl)) ?_
          exact hs
        clear_value x9
        extract_lets +onlyGivenNames x10
        have hx10 : Keeps M s0 x10 := by
          subst x10
          refine put_keeps (hm.at .SEAM_STATUS (by rfl)) ?_
          exact hx9
        clear_value x10
        extract_lets +onlyGivenNames x11
        clear_value x11
        extract_lets +onlyGivenNames x12
        subst x12
        apply keeps_ite_fst
        · exact hx10
        · apply keeps_ite_fst
          · exact hx10
          · extract_lets +onlyGivenNames x13
            subst x13
            extract_lets +onlyGivenNames x14
            subst x14
            extract_lets +onlyGivenNames x15
            clear_value x15
            extract_lets +onlyGivenNames x16
            clear_value x16
            extract_lets +onlyGivenNames x17
            clear_value x17
            extract_lets +onlyGivenNames x18
            have hx18 : Keeps M s0 x18 := by
              subst x18
              refine put_keeps (hm.at .SEAM_EST (by rfl)) ?_
              refine put_keeps (hm.at .SEAM_EST (by rfl)) ?_
              exact hx10
            clear_value x18
            extract_lets +onlyGivenNames x19
            have hx19 : Keeps M s0 x19 := by
              subst x19
              refine put_keeps (hm.at .SEAM_EST2 (by rfl)) ?_
              exact hx18
            clear_value x19
            exact hx19

theorem fspDone_keeps {s : State} (hm : Sub
    0x18400000000000000000000000000000000000040002300C00000000000000000000000000000000000000000000000000000000000000000000000000000004020004004 M) (hs : Keeps M s0 s) :
    Keeps M s0 (State.fspDone s) := by
  unfold State.fspDone
  split
  · exact hs
  · extract_lets +onlyGivenNames x1
    subst x1
    extract_lets +onlyGivenNames x2
    have hx2 : Keeps M s0 x2 := by
      subst x2
      refine upd_mem_keeps (hm.mono (by rfl)) (.inr rfl) (.inr rfl) (.inl (hm.bit (by rfl))) ?_
      exact hs
    clear_value x2
    extract_lets +onlyGivenNames x3
    have hx3 : Keeps M s0 x3 := by
      subst x3
      refine clearDebts_keeps (hm.mono (by rfl)) ?_
      exact hx2
    clear_value x3
    extract_lets +onlyGivenNames x4
    have hx4 : Keeps M s0 x4 := by
      subst x4
      refine put_keeps (hm.at .MEM_STATUS (by rfl)) ?_
      refine put_keeps (hm.at .MEM_STATUS (by rfl)) ?_
      refine put_keeps (hm.at .MEM_STATUS (by rfl)) ?_
      exact hx3
    clear_value x4
    extract_lets +onlyGivenNames x5
    have hx5 : Keeps M s0 x5 := by
      subst x5
      refine put_keeps (hm.at .MEM_TRN_STATUS (by rfl)) ?_
      exact hx4
    clear_value x5
    extract_lets +onlyGivenNames x6
    have hx6 : Keeps M s0 x6 := by
      subst x6
      refine raise_keeps (hm.mono (by rfl)) (hm.at .MEM_EVENT (by rfl)) ?_
      refine count_keeps (hm.at .MEM_FSP_CNT (by rfl)) ?_
      exact hx5
    clear_value x6
    split
    · exact hx6
    · refine fspTo_keeps (hm.mono (by rfl)) ?_
      refine upd_mem_keeps (hm.mono (by rfl)) (.inr rfl) (.inr rfl) (.inr rfl) ?_
      exact hx6

theorem stiHold_keeps {s : State} (hm : Sub 0x4000000 M) (hs : Keeps M s0 s) :
    Keeps M s0 (State.stiHold s) := by
  unfold State.stiHold
  refine upd_sti_keeps (hm.mono (by rfl)) ?_
  exact hs

theorem stiLoadEnd_keeps {s : State} (hm : Sub
    0x18400000000000000000000000000000000000000000000000000000000000000000000000000000000000000000000002786020000000000000000000000000004004010 M) (hs : Keeps M s0 s) :
    Keeps M s0 (State.stiLoadEnd s) := by
  unfold State.stiLoadEnd
  extract_lets +onlyGivenNames x1
  clear_value x1
  extract_lets +onlyGivenNames x2
  clear_value x2
  extract_lets +onlyGivenNames x3
  have hx3 : Keeps M s0 x3 := by
    subst x3
    refine upd_sti_keeps (hm.mono (by rfl)) ?_
    exact hs
  clear_value x3
  extract_lets +onlyGivenNames x4
  have hx4 : Keeps M s0 x4 := by
    subst x4
    apply keeps_foldl
    · intro t5 x6 h7
      refine latch_keeps (hm.mono (by rfl)) ?_
      refine latch_keeps (hm.mono (by rfl)) ?_
      refine latch_keeps (hm.mono (by rfl)) ?_
      exact h7
    · exact hx3
  clear_value x4
  apply keeps_forBelow
  · intro x8 t9 h10
    apply keeps_ite
    · extract_lets +onlyGivenNames x11
      have hx11 : Keeps M s0 x11 := by
        subst x11
        refine showDelay_keeps (hm.mono (by rfl)) ?_
        exact h10
      clear_value x11
      extract_lets +onlyGivenNames x12
      have hx12 : Keeps M s0 x12 := by
        subst x12
        refine put_keeps (hm.at .SEAM_STATUS (by rfl)) ?_
        exact hx11
      clear_value x12
      apply keeps_ite
      · refine put_keeps (hm.at .SEAM_STATUS (by rfl)) ?_
        refine putSeamState_keeps (hm.mono (by rfl)) ?_
        exact hx12
      · refine raise_keeps (hm.mono (by rfl)) (hm.at .STI_EVENT (by rfl)) ?_
        refine put_keeps (hm.at .SEAM_STATUS (by rfl)) ?_
        refine putSeamState_keeps (hm.mono (by rfl)) ?_
        exact hx12
    · exact h10
  · exact hx4

theorem migrationDone_keeps {s : State} (hm : Sub
    0x18400000000000000000000000000000000000000020000C00000000000000000000000000000000000000000000000000000000000000000000000000000000000004000 M) (hs : Keeps M s0 s) :
    Keeps M s0 (State.migrationDone s) := by
  unfold State.migrationDone
  extract_lets +onlyGivenNames x1
  clear_value x1
  extract_lets +onlyGivenNames x2
  clear_value x2
  extract_lets +onlyGivenNames x3
  have hx3 : Keeps M s0 x3 := by
    subst x3
    refine put_keeps (hm.at .MEM_RMAP (by rfl)) ?_
    refine put_keeps (hm.at .MEM_RMAP (by rfl)) ?_
    exact hs
  clear_value x3
  extract_lets +onlyGivenNames x4
  clear_value x4
  extract_lets +onlyGivenNames x5
  have hx5 : Keeps M s0 x5 := by
    subst x5
    refine put_keeps (hm.at .MEM_STATUS (by rfl)) ?_
    exact hx3
  clear_value x5
  refine raise_keeps (hm.mono (by rfl)) (hm.at .MEM_EVENT (by rfl)) ?_
  refine put_keeps (hm.at .MEM_STATUS (by rfl)) ?_
  exact hx5

theorem noDataRelease_keeps {s : State} {k : Nat} {reason : Nat} (hm : Sub
    0x18400000080010000000000000003800200000000000000000000000000000000000000000000000005628008000000040000020000000000000000000000000002184200 M) (hs : Keeps M s0 s) :
    Keeps M s0 (State.noDataRelease s k reason) := by
  unfold State.noDataRelease
  apply keeps_ite
  · refine releaseSeam_keeps (hm.mono (by rfl)) ?_
    exact hs
  · exact hs

theorem pageCopied_keeps {s : State} {ue : List Nat} (hm : Sub
    0x184000000000000000000000000000000000000041F8000C00000000000000000000000000000000000000000000000000000000000000000000000000000000020004000 M) (hs : Keeps M s0 s) :
    Keeps M s0 (State.pageCopied s ue).1 := by
  unfold State.pageCopied
  extract_lets +onlyGivenNames x1
  clear_value x1
  extract_lets +onlyGivenNames x2
  clear_value x2
  extract_lets +onlyGivenNames x3
  clear_value x3
  extract_lets +onlyGivenNames x4
  have hx4 : Keeps M s0 x4 := by
    subst x4
    apply keeps_foldl
    · intro t5 x6 h7
      extract_lets +onlyGivenNames x8
      have hx8 : Keeps M s0 x8 := by
        subst x8
        refine raise_keeps (hm.mono (by rfl)) (hm.at .MEM_EVENT (by rfl)) ?_
        refine count_keeps (hm.at .MEM_POISON_CNT (by rfl)) ?_
        exact h7
      clear_value x8
      extract_lets +onlyGivenNames x9
      have hx9 : Keeps M s0 x9 := by
        subst x9
        refine noteUe_keeps (hm.mono (by rfl)) ?_
        exact hx8
      clear_value x9
      refine upd_mem_keeps (hm.mono (by rfl)) (.inr rfl) (.inr rfl) (.inr rfl) ?_
      exact hx9
    · exact hs
  clear_value x4
  extract_lets +onlyGivenNames x10
  have hx10 : Keeps M s0 x10 := by
    subst x10
    refine setPair_keeps (hm.at .MEM_MIG_PTR_L (by rfl)) (hm.at .MEM_MIG_PTR_H (by rfl)) ?_
    exact hx4
  clear_value x10
  extract_lets +onlyGivenNames x11
  subst x11
  extract_lets +onlyGivenNames x12
  have hx12 : Keeps M s0 x12 := by
    subst x12
    refine upd_mem_keeps (hm.mono (by rfl)) (.inr rfl) (.inr rfl) (.inr rfl) ?_
    exact hx10
  clear_value x12
  dsimp only
  apply keeps_ite
  · refine migrationDone_keeps (hm.mono (by rfl)) ?_
    exact hx12
  · exact hx12

theorem pieceStore_keeps {s : State} {x : MemTx} (hm : Sub 0x20000100 M) (hs : Keeps M s0 s) :
    Keeps M s0 (State.pieceStore s x) := by
  unfold State.pieceStore
  split
  · exact hs
  · extract_lets +onlyGivenNames x1
    have hx1 : Keeps M s0 x1 := by
      subst x1
      refine dramWrite_keeps (hm.mono (by rfl)) ?_
      exact hs
    clear_value x1
    refine upd_mem_keeps (hm.mono (by rfl)) (.inr rfl) (.inr rfl) (.inr rfl) ?_
    exact hx1

theorem readReturn_keeps {s : State} {x : MemTx} {out : ReadOutcome} (hm : Sub
    0x20000018400000080010000000000000003800200000429DF8000C000000000000000000000000000000000000000000000000000000000000000000000000000000230201A4200 M) (hs : Keeps M s0 s) :
    Keeps M s0 (State.readReturn s x out) := by
  unfold State.readReturn
  extract_lets +onlyGivenNames x1
  clear_value x1
  extract_lets +onlyGivenNames x2
  have hx2 : Keeps M s0 x2 := by
    subst x2
    refine unissue_keeps (hm.mono (by rfl)) ?_
    exact hs
  clear_value x2
  apply keeps_ite
  · extract_lets +onlyGivenNames x3
    have hx3 : Keeps M s0 x3 := by
      subst x3
      refine noteUe_keeps (hm.mono (by rfl)) ?_
      exact hx2
    clear_value x3
    refine pieceEnd_keeps (hm.mono (by rfl)) ?_
    refine count_keeps (hm.at .MEM_POISON_RD_CNT (by rfl)) ?_
    exact hx3
  · split
    · refine pieceEnd_keeps (hm.mono (by rfl)) ?_
      exact hx2
    · refine pieceEnd_keeps (hm.mono (by rfl)) ?_
      refine correctedError_keeps (hm.mono (by rfl)) ?_
      exact hx2
    · refine rankFailure_keeps (hm.mono (by rfl)) ?_
      exact hx2

theorem refreshTick_keeps {s : State} {r : Nat} (hm : Sub
    0x18400000000000000000000000000000000000000000300000000000000000000000000000000000000000000000000000000000000000000000000000000000020004004 M) (hs : Keeps M s0 s) :
    Keeps M s0 (State.refreshTick s r) := by
  unfold State.refreshTick
  apply keeps_ite
  · exact hs
  · apply keeps_ite
    · refine putDebt_keeps (hm.mono (by rfl)) ?_
      refine refreshRank_keeps (hm.mono (by rfl)) ?_
      exact hs
    · refine putDebt_keeps (hm.mono (by rfl)) ?_
      exact hs

theorem rehearsalMet_keeps {s : State} {k : Nat} {started : Nat} (hm : Sub 0x401000 M) (hs : Keeps M s0 s) :
    Keeps M s0 (State.rehearsalMet s k started) := by
  unfold State.rehearsalMet
  extract_lets +onlyGivenNames x1
  subst x1
  extract_lets +onlyGivenNames x2
  have hx2 : Keeps M s0 x2 := by
    subst x2
    refine upd_glb_keeps (hm.mono (by rfl)) (.inr rfl) (.inr rfl) (.inr rfl) ?_
    exact hs
  clear_value x2
  extract_lets +onlyGivenNames x3
  subst x3
  extract_lets +onlyGivenNames x4
  have hx4 : Keeps M s0 x4 := by
    subst x4
    apply keeps_ite
    · refine upd_glb_keeps (hm.mono (by rfl)) (.inr rfl) (.inr rfl) (.inr rfl) ?_
      exact hx2
    · exact hx2
  clear_value x4
  refine upd_cam_keeps (hm.mono (by rfl)) ?_
  exact hx4

theorem stripImageQueue_keeps {s : State} {n : LineNo} (hm : Sub 0x40000000 M) (hs : Keeps M s0 s) :
    Keeps M s0 (State.stripImageQueue s n) := by
  unfold State.stripImageQueue
  extract_lets +onlyGivenNames x1
  clear_value x1
  apply keeps_ite
  · refine upd_arc_keeps (hm.mono (by rfl)) (.inr rfl) ?_
    exact hs
  · exact hs

theorem rowComplete_keeps {s : State} {h : Nat} (hm : Sub
    0x18400000000000000000000000000000000000420400000000000000000000000000000000000000000000000000000000000000000000000000000000000003060004000 M) (hs : Keeps M s0 s) :
    Keeps M s0 (State.rowComplete s h) := by
  unfold State.rowComplete
  split
  · exact hs
  · extract_lets +onlyGivenNames x1
    have hx1 : Keeps M s0 x1 := by
      subst x1
      refine writeEntry_keeps (hm.mono (by rfl)) ?_
      exact hs
    clear_value x1
    extract_lets +onlyGivenNames x2
    clear_value x2
    extract_lets +onlyGivenNames x3
    have hx3 : Keeps M s0 x3 := by
      subst x3
      refine setArcHead_keeps (hm.mono (by rfl)) ?_
      exact hx1
    clear_value x3
    refine stripImageQueue_keeps (hm.mono (by rfl)) ?_
    exact hx3

theorem seamAccept_keeps {s : State} {k : Nat} {r : SeamReg} {line : LineNo} {started : Nat} (hm : Sub
    0x18400000080010000000000000003800200000000000000000000000000000000000000000000000000000000000000004786020000000000000000000000000004585200 M) (hs : Keeps M s0 s) :
    Keeps M s0 (State.seamAccept s k r line started) := by
  unfold State.seamAccept
  extract_lets +onlyGivenNames x1
  have hx1 : Keeps M s0 x1 := by
    subst x1
    refine put_keeps (hm.at .SEAM_OFS (by rfl)) ?_
    exact hs
  clear_value x1
  extract_lets +onlyGivenNames x2
  have hx2 : Keeps M s0 x2 := by
    subst x2
    refine put_keeps (hm.at .SEAM_SCALE (by rfl)) ?_
    exact hx1
  clear_value x2
  extract_lets +onlyGivenNames x3
  have hx3 : Keeps M s0 x3 := by
    subst x3
    refine put_keeps (hm.at .SEAM_YOFS (by rfl)) ?_
    exact hx2
  clear_value x3
  extract_lets +onlyGivenNames x4
  clear_value x4
  extract_lets +onlyGivenNames x5
  have hx5 : Keeps M s0 x5 := by
    subst x5
    refine upd_sti_keeps (hm.mono (by rfl)) ?_
    exact hx3
  clear_value x5
  extract_lets +onlyGivenNames x6
  have hx6 : Keeps M s0 x6 := by
    subst x6
    refine raise_keeps (hm.mono (by rfl)) (hm.at .STI_EVENT (by rfl)) ?_
    refine count_keeps (hm.at .STI_ACC_CNT (by rfl)) ?_
    exact hx5
  clear_value x6
  extract_lets +onlyGivenNames x7
  clear_value x7
  extract_lets +onlyGivenNames x8
  have hx8 : Keeps M s0 x8 := by
    subst x8
    refine setSeam_keeps (hm.mono (by rfl)) ?_
    exact hx6
  clear_value x8
  extract_lets +onlyGivenNames x9
  have hx9 : Keeps M s0 x9 := by
    subst x9
    refine put_keeps (hm.at .SEAM_STATUS (by rfl)) ?_
    exact hx8
  clear_value x9
  extract_lets +onlyGivenNames x10
  clear_value x10
  extract_lets +onlyGivenNames x11
  have hx11 : Keeps M s0 x11 := by
    subst x11
    refine putSeamState_keeps (hm.mono (by rfl)) ?_
    refine put_keeps (hm.at .SEAM_STATUS (by rfl)) ?_
    exact hx9
  clear_value x11
  extract_lets +onlyGivenNames x12
  have hx12 : Keeps M s0 x12 := by
    subst x12
    apply keeps_ite
    · refine raise_keeps (hm.mono (by rfl)) (hm.at .STI_EVENT (by rfl)) ?_
      exact hx11
    · exact hx11
  clear_value x12
  extract_lets +onlyGivenNames x13
  have hx13 : Keeps M s0 x13 := by
    subst x13
    refine seamReport_keeps (hm.mono (by rfl)) ?_
    exact hx12
  clear_value x13
  extract_lets +onlyGivenNames x14
  have hx14 : Keeps M s0 x14 := by
    subst x14
    apply keeps_ite
    · exact hx13
    · refine seamReport_keeps (hm.mono (by rfl)) ?_
      exact hx13
  clear_value x14
  refine rehearsalMet_keeps (hm.mono (by rfl)) ?_
  exact hx14

theorem stripNotAccepted_keeps {s : State} {k : Nat} {reason : Nat} (hm : Sub
    0x18400000080010000000000000003800200000000000000000000000000000000000000000000000005628008000000040406020000000000000000000000000002184200 M) (hs : Keeps M s0 s) :
    Keeps M s0 (State.stripNotAccepted s k reason) := by
  unfold State.stripNotAccepted
  extract_lets +onlyGivenNames x1
  clear_value x1
  apply keeps_ite
  · exact hs
  · extract_lets +onlyGivenNames x2
    have hx2 : Keeps M s0 x2 := by
      subst x2
      refine countFld_keeps (hm.at .SEAM_STATUS (by rfl)) ?_
      exact hs
    clear_value x2
    apply keeps_ite
    · refine noDataRelease_keeps (hm.mono (by rfl)) ?_
      refine seamChange_keeps (hm.mono (by rfl)) ?_
      exact hx2
    · apply keeps_ite
      · refine noDataRelease_keeps (hm.mono (by rfl)) ?_
        refine seamChange_keeps (hm.mono (by rfl)) ?_
        exact hx2
      · refine put_keeps (hm.at .SEAM_STATUS (by rfl)) ?_
        exact hx2

theorem seamEstimate_keeps {s : State} {k : Nat} (hm : Sub
    0x1840000008001000000000000000380020000000000000000000000000000000000000000000000000562800800000005DF86020000000000000000000000000006585200 M) (hs : Keeps M s0 s) :
    Keeps M s0 (State.seamEstimate s k) := by
  unfold State.seamEstimate
  extract_lets +onlyGivenNames x1
  clear_value x1
  split
  · exact hs
  · extract_lets +onlyGivenNames x2
    have hx2 : Keeps M s0 x2.1 := by
      subst x2
      refine estimate_keeps (hm.mono (by rfl)) ?_
      exact hs
    clear_value x2
    extract_lets +onlyGivenNames x3
    have hx3 : Keeps M s0 x3 := by
      subst x3
      exact hx2
    clear_value x3
    extract_lets +onlyGivenNames x4
    subst x4
    split
    · refine stripNotAccepted_keeps (hm.mono (by rfl)) ?_
      refine count_keeps (hm.at .STI_UNUSABLE_CNT (by rfl)) ?_
      dsimp only
      refine setSeam_keeps (hm.mono (by rfl)) ?_
      exact hx3
    · extract_lets +onlyGivenNames x5
      have hx5 : Keeps M s0 x5 := by
        subst x5
        dsimp only
        refine setSeam_keeps (hm.mono (by rfl)) ?_
        exact hx3
      clear_value x5
      split
      · refine stripNotAccepted_keeps (hm.mono (by rfl)) ?_
        exact hx5
      · apply keeps_ite
        · extract_lets +onlyGivenNames x6
          clear_value x6
          apply keeps_ite
          · refine seamAccept_keeps (hm.mono (by rfl)) ?_
            exact hx5
          · refine stripNotAccepted_keeps (hm.mono (by rfl)) ?_
            refine raise_keeps (hm.mono (by rfl)) (hm.at .STI_EVENT (by rfl)) ?_
            refine count_keeps (hm.at .STI_DISAGREE_CNT (by rfl)) ?_
            exact hx5
        · refine stripNotAccepted_keeps (hm.mono (by rfl)) ?_
          refine count_keeps (hm.at .STI_DISAGREE_CNT (by rfl)) ?_
          exact hx5

theorem workOff_keeps {s : State} {r : Nat} {n : Nat} {d : Int} (hm : Sub
    0x18400000000000000000000000000000000000010000300800000000000000000000000000000000000000000000000000000000000000000000000000000000020004004 M) (hs : Keeps M s0 s) :
    Keeps M s0 (State.workOff s r n d) := by
  unfold State.workOff
  split
  · refine putDebt_keeps (hm.mono (by rfl)) ?_
    exact hs
  · apply keeps_ite
    · refine workOff_keeps (hm.mono (by rfl)) ?_
      refine raise_keeps (hm.mono (by rfl)) (hm.at .MEM_EVENT (by rfl)) ?_
      refine count_keeps (hm.at .MEM_PULLIN_CNT (by rfl)) ?_
      refine refreshRank_keeps (hm.mono (by rfl)) ?_
      exact hs
    · refine putDebt_keeps (hm.mono (by rfl)) ?_
      exact hs

theorem setBand_keeps {s : State} {r : Nat} {b : Nat} (hm : Sub
    0x18400000000000000000000000000000000000010000380800000000000000000000000000000000000000000000000000000000000000000000000000000000020004004 M) (hs : Keeps M s0 s) :
    Keeps M s0 (State.setBand s r b) := by
  unfold State.setBand
  extract_lets +onlyGivenNames x1
  clear_value x1
  apply keeps_ite
  · exact hs
  · extract_lets +onlyGivenNames x2
    have hx2 : Keeps M s0 x2 := by
      subst x2
      refine put_keeps (hm.at .MEM_BAND (by rfl)) ?_
      exact hs
    clear_value x2
    extract_lets +onlyGivenNames x3
    have hx3 : Keeps M s0 x3 := by
      subst x3
      refine raise_keeps (hm.mono (by rfl)) (hm.at .MEM_EVENT (by rfl)) ?_
      exact hx2
    clear_value x3
    extract_lets +onlyGivenNames x4
    have hx4 : Keeps M s0 x4 := by
      subst x4
      apply keeps_ite
      · refine raise_keeps (hm.mono (by rfl)) (hm.at .MEM_EVENT (by rfl)) ?_
        exact hx3
      · exact hx3
    clear_value x4
    extract_lets +onlyGivenNames x5
    clear_value x5
    extract_lets +onlyGivenNames x6
    clear_value x6
    apply keeps_ite
    · refine workOff_keeps (hm.mono (by rfl)) ?_
      exact hx4
    · apply keeps_ite
      · refine putDebt_keeps (hm.mono (by rfl)) ?_
        exact hx4
      · exact hx4

theorem stiLoad_keeps {s : State} (hm : Sub 0x406000000000000000000000000000004000000 M) (hs : Keeps M s0 s) :
    Keeps M s0 (State.stiLoad s) := by
  unfold State.stiLoad
  extract_lets +onlyGivenNames x1
  clear_value x1
  extract_lets +onlyGivenNames x2
  have hx2 : Keeps M s0 x2 := by
    subst x2
    refine upd_sti_keeps (hm.mono (by rfl)) ?_
    exact hs
  clear_value x2
  apply keeps_forBelow
  · intro x3 t4 h5
    refine put_keeps (hm.at .SEAM_STATUS (by rfl)) ?_
    refine putSeamState_keeps (hm.mono (by rfl)) ?_
    exact h5
  · exact hx2

theorem trainNext_keeps {s : State} (hm : Sub
    0x2000400000000000000000000000000000000000000000000000000000000000000000000000000000000020000000 M) (hs : Keeps M s0 s)
    :
    Keeps M s0 (State.trainNext s) := by
  unfold State.trainNext
  split
  · exact hs
  · extract_lets +onlyGivenNames x1
    subst x1
    extract_lets +onlyGivenNames x2
    have hx2 : Keeps M s0 x2 := by
      subst x2
      refine upd_mem_keeps (hm.mono (by rfl)) (.inr rfl) (.inr rfl) (.inr rfl) ?_
      exact hs
    clear_value x2
    extract_lets +onlyGivenNames x3
    have hx3 : Keeps M s0 x3 := by
      subst x3
      refine put_keeps (hm.at .MEM_TRN_STATUS (by rfl)) ?_
      refine put_keeps (hm.at .MEM_STATUS (by rfl)) ?_
      exact hx2
    clear_value x3
    refine put_keeps (hm.at .MEM_TRN_STATUS (by rfl)) ?_
    exact hx3

end Sys2Proof.Machine
end

