-- ==== Sys2Proof/Laws/KeepsFab.lean ====
section
/-! SUPPORT. Laws/KeepsFab.lean: the same for the fabric and the host interface, said once as Keeps (Safety.lean). -/

namespace Sys2Proof.Machine

variable {s0 : State} {M : Nat}

theorem showReplay_keeps {s : State} {f : Nat} (hm : Sub
    0x1000000000000000000000000000000000000000000000000000000000000000000000000000000000000000000000000000000000000000000000000000000 M) (hs : Keeps M s0 s) :
    Keeps M s0 (State.showReplay s f) := by
  unfold State.showReplay
  extract_lets +onlyGivenNames x1
  clear_value x1
  refine put_keeps (hm.at .FAB_POUT (by rfl)) ?_
  refine put_keeps (hm.at .FAB_POUT (by rfl)) ?_
  exact hs

theorem putFabSt_keeps {s : State} {f : Nat} {t : FabSt} (hm : Sub
    0x800000000000000000000000000000000000000000000000000000000000000000000000000000000000000000000000000000000000000000000000000000 M) (hs : Keeps M s0 s) :
    Keeps M s0 (State.putFabSt s f t) := by
  unfold State.putFabSt
  refine put_keeps (hm.at .FAB_PSTAT (by rfl)) ?_
  exact hs

theorem fabClear_keeps {s : State} {f : Nat} (hm : Sub
    0x1000000000000000000000000000000000000000000000000000000000000000000000000000000000000000000000000000000000000000000000000100000 M) (hs : Keeps M s0 s) :
    Keeps M s0 (State.fabClear s f) := by
  unfold State.fabClear
  extract_lets +onlyGivenNames x1
  clear_value x1
  extract_lets +onlyGivenNames x2
  clear_value x2
  extract_lets +onlyGivenNames x3
  have hx3 : Keeps M s0 x3 := by
    subst x3
    refine setFabPort_keeps (hm.mono (by rfl)) ?_
    exact hs
  clear_value x3
  refine put_keeps (hm.at .FAB_POUT (by rfl)) ?_
  exact hx3

theorem nextFlood_keeps {s : State} (hm : Sub 0x100000 M) (hs : Keeps M s0 s) :
    Keeps M s0 (State.nextFlood s).2 := by
  unfold State.nextFlood
  dsimp only
  refine upd_fab_keeps (hm.mono (by rfl)) ?_
  exact hs

theorem sendDisc_keeps {s : State} {kind : Nat} {f : Nat} {parent : Bool} {field : Nat} {ws : List DWord} (hm : Sub
    0x100000 M) (hs : Keeps M s0 s) :
    Keeps M s0 (State.sendDisc s kind f parent field ws) := by
  unfold State.sendDisc
  apply keeps_ite
  · refine fabQueue_keeps (hm.mono (by rfl)) ?_
    exact hs
  · exact hs

theorem flood_keeps {s : State} {kind : Nat} {field : Nat} {ws : List DWord} (hm : Sub 0x100000 M) (hs : Keeps M s0 s) :
    Keeps M s0 (State.flood s kind field ws) := by
  unfold State.flood
  apply keeps_forBelow
  · intro x1 t2 h3
    refine sendDisc_keeps (hm.mono (by rfl)) ?_
    exact h3
  · exact hs

theorem elect_keeps {s : State} (hm : Sub 0x100000 M) (hs : Keeps M s0 s) :
    Keeps M s0 (State.elect s) := by
  unfold State.elect
  extract_lets +onlyGivenNames x1
  clear_value x1
  extract_lets +onlyGivenNames x2
  clear_value x2
  extract_lets +onlyGivenNames x3
  clear_value x3
  extract_lets +onlyGivenNames x4
  clear_value x4
  refine upd_fab_keeps (hm.mono (by rfl)) ?_
  exact hs

theorem partition_keeps {s : State} (hm : Sub
    0x40000000000000000000000000000000000000000000000000000000000000000000000000000000000000000000000000000000000000000000000100000 M) (hs : Keeps M s0 s) :
    Keeps M s0 (State.partition s) := by
  unfold State.partition
  apply keeps_ite
  · exact hs
  · extract_lets +onlyGivenNames x1
    have hx1 : Keeps M s0 x1 := by
      subst x1
      refine put_keeps (hm.at .FAB_STATUS (by rfl)) ?_
      exact hs
    clear_value x1
    extract_lets +onlyGivenNames x2
    have hx2 : Keeps M s0 x2 := by
      subst x2
      refine put_keeps (hm.at .FAB_STATUS (by rfl)) ?_
      exact hx1
    clear_value x2
    extract_lets +onlyGivenNames x3
    have hx3 : Keeps M s0 x3 := by
      subst x3
      apply keeps_forBelow
      · intro x4 t5 h6
        refine setFabPort_keeps (hm.mono (by rfl)) ?_
        exact h6
      · exact hx2
    clear_value x3
    refine elect_keeps (hm.mono (by rfl)) ?_
    refine upd_fab_keeps (hm.mono (by rfl)) ?_
    exact hx3

theorem emitSent_keeps {s : State} {p : SentComp → Bool} (hm : Sub
    0x18400000080010000000000000003800200000000000000000000000000000000000000000000000005628008000000040000020000000000000000000000000006184200 M) (hs : Keeps M s0 s) :
    Keeps M s0 (State.emitSent s p) := by
  unfold State.emitSent
  extract_lets +onlyGivenNames x1
  clear_value x1
  extract_lets +onlyGivenNames x2
  clear_value x2
  extract_lets +onlyGivenNames x3
  have hx3 : Keeps M s0 x3 := by
    subst x3
    refine upd_sti_keeps (hm.mono (by rfl)) ?_
    exact hs
  clear_value x3
  apply keeps_foldl
  · intro t4 x5 h6
    refine emitComp_keeps (hm.mono (by rfl)) ?_
    exact h6
  · exact hx3

theorem seamPaths_keeps {s : State} (hm : Sub
    0x18400000080010000000000000003800200000000000000000000000000000000000000000000000005628008000000040406020000000000000000000000000006184200 M) (hs : Keeps M s0 s) :
    Keeps M s0 (State.seamPaths s) := by
  unfold State.seamPaths
  extract_lets +onlyGivenNames x1
  have hx1 : Keeps M s0 x1 := by
    subst x1
    apply keeps_ite
    · exact hs
    · refine seam31Lost_keeps (hm.mono (by rfl)) ?_
      exact hs
  clear_value x1
  apply keeps_ite
  · exact hx1
  · refine emitSent_keeps (hm.mono (by rfl)) ?_
    exact hx1

theorem mapChanged_keeps {s : State} (hm : Sub
    0x18400000280A500100000000000038002000000000000000000000000000000000000000000000000056280080000000404060200000000000000000000000000061C4280 M) (hs : Keeps M s0 s) :
    Keeps M s0 (State.mapChanged s) := by
  unfold State.mapChanged
  extract_lets +onlyGivenNames x1
  clear_value x1
  extract_lets +onlyGivenNames x2
  have hx2 : Keeps M s0 x2 := by
    subst x2
    refine recomputeMap_keeps (hm.mono (by rfl)) ?_
    exact hs
  clear_value x2
  extract_lets +onlyGivenNames x3
  have hx3 : Keeps M s0 x3 := by
    subst x3
    apply keeps_ite
    · refine raise_keeps (hm.mono (by rfl)) (hm.at .FAB_EVENT (by rfl)) ?_
      refine count_keeps (hm.at .FAB_REDISC_CNT (by rfl)) ?_
      refine timReacquire_keeps (hm.mono (by rfl)) ?_
      exact hx2
    · exact hx2
  clear_value x3
  extract_lets +onlyGivenNames x4
  clear_value x4
  extract_lets +onlyGivenNames x5
  have hx5 : Keeps M s0 x5 := by
    subst x5
    apply keeps_ite
    · refine partition_keeps (hm.mono (by rfl)) ?_
      exact hx3
    · exact hx3
  clear_value x5
  refine seamPaths_keeps (hm.mono (by rfl)) ?_
  exact hx5

theorem applyLinkev_keeps {s : State} {l : MapLink} {up : Bool} (hm : Sub
    0x18400000280A500100000000000038002000000000000000000000000000000000000000000000000056280080000000404060200000000000000000000000000061C4280 M) (hs : Keeps M s0 s) :
    Keeps M s0 (State.applyLinkev s l up) := by
  unfold State.applyLinkev
  extract_lets +onlyGivenNames x1
  clear_value x1
  extract_lets +onlyGivenNames x2
  clear_value x2
  extract_lets +onlyGivenNames x3
  clear_value x3
  extract_lets +onlyGivenNames x4
  clear_value x4
  extract_lets +onlyGivenNames x5
  clear_value x5
  apply keeps_ite
  · exact hs
  · refine mapChanged_keeps (hm.mono (by rfl)) ?_
    refine upd_fab_keeps (hm.mono (by rfl)) ?_
    exact hs

theorem linkEvent_keeps {s : State} {f : Nat} {up : Bool} (hm : Sub
    0x18400000280A500100000000000038002000000000000000000000000000000000000000000000000056280080000000404060200000000000000000000000000061C4280 M) (hs : Keeps M s0 s) :
    Keeps M s0 (State.linkEvent s f up) := by
  unfold State.linkEvent
  extract_lets +onlyGivenNames x1
  clear_value x1
  apply keeps_ite
  · exact hs
  · extract_lets +onlyGivenNames x2
    clear_value x2
    extract_lets +onlyGivenNames x3
    have hx3 : Keeps M s0 x3.2 := by
      subst x3
      refine nextFlood_keeps (hm.mono (by rfl)) ?_
      exact hs
    clear_value x3
    extract_lets +onlyGivenNames x4
    have hx4 : Keeps M s0 x4 := by
      subst x4
      refine flood_keeps (hm.mono (by rfl)) ?_
      exact hx3
    clear_value x4
    refine applyLinkev_keeps (hm.mono (by rfl)) ?_
    exact hx4

theorem fabPortDown_keeps {s : State} {f : Nat} (hm : Sub
    0x200000184000002A1A5001000000000000380020C11200000000000000000000000000000000000000000000562800800000004040602000000000000000000000002000E1E4280 M) (hs : Keeps M s0 s) :
    Keeps M s0 (State.fabPortDown s f) := by
  unfold State.fabPortDown
  extract_lets +onlyGivenNames x1
  clear_value x1
  apply keeps_ite
  · extract_lets +onlyGivenNames x2
    clear_value x2
    extract_lets +onlyGivenNames x3
    have hx3 : Keeps M s0 x3 := by
      subst x3
      refine putFabSt_keeps (hm.mono (by rfl)) ?_
      refine fabClear_keeps (hm.mono (by rfl)) ?_
      exact hs
    clear_value x3
    extract_lets +onlyGivenNames x4
    have hx4 : Keeps M s0 x4 := by
      subst x4
      apply keeps_forBelow
      · intro x5 t6 h7
        apply keeps_ite
        · refine laneRetrain_keeps (hm.mono (by rfl)) ?_
          exact h7
        · exact h7
      · exact hx3
    clear_value x4
    extract_lets +onlyGivenNames x8
    have hx8 : Keeps M s0 x8 := by
      subst x8
      refine count_keeps (hm.at .FAB_DOWN_CNT (by rfl)) ?_
      refine raise_keeps (hm.mono (by rfl)) (hm.at .FAB_EVENT (by rfl)) ?_
      exact hx4
    clear_value x8
    extract_lets +onlyGivenNames x9
    have hx9 : Keeps M s0 x9 := by
      subst x9
      refine fault_keeps (hm.mono (by rfl)) ?_
      exact hx8
    clear_value x9
    extract_lets +onlyGivenNames x10
    have hx10 : Keeps M s0 x10 := by
      subst x10
      apply keeps_ite
      · refine linkEvent_keeps (hm.mono (by rfl)) ?_
        exact hx9
      · exact hx9
    clear_value x10
    refine elect_keeps (hm.mono (by rfl)) ?_
    exact hx10
  · exact hs

theorem replay_keeps {s : State} {f : Nat} (hm : Sub
    0x20000018400000AB1A5001000000000000380020C11200000000000000000000000000000000000000000000562800800000004040602000000000000000000000002000E1E4284 M) (hs : Keeps M s0 s) :
    Keeps M s0 (State.replay s f) := by
  unfold State.replay
  extract_lets +onlyGivenNames x1
  clear_value x1
  apply keeps_ite
  · exact hs
  · apply keeps_ite
    · refine fabPortDown_keeps (hm.mono (by rfl)) ?_
      exact hs
    · extract_lets +onlyGivenNames x2
      clear_value x2
      extract_lets +onlyGivenNames x3
      clear_value x3
      extract_lets +onlyGivenNames x4
      have hx4 : Keeps M s0 x4 := by
        subst x4
        refine setFabPort_keeps (hm.mono (by rfl)) ?_
        exact hs
      clear_value x4
      extract_lets +onlyGivenNames x5
      have hx5 : Keeps M s0 x5 := by
        subst x5
        refine count_keeps (hm.at .FAB_CUE_LATE_CNT (by rfl)) ?_
        refine count_keeps (hm.at .FAB_REPLAY_CNT (by rfl)) ?_
        exact hx4
      clear_value x5
      apply keeps_foldl
      · intro t6 x7 h8
        refine emit_keeps (hm.mono (by rfl)) ?_
        exact h8
      · exact hx5

theorem ackRx_keeps {s : State} {f : Nat} {lseq : BitVec 13} {nak : Bool} (hm : Sub
    0x20000018400000AB1A5001000000000000380020C11200000000000000000000000000000000000000000000562800800000004040602000000000000000000000002000E1E4284 M) (hs : Keeps M s0 s) :
    Keeps M s0 (State.ackRx s f lseq nak) := by
  unfold State.ackRx
  apply keeps_ite
  · extract_lets +onlyGivenNames x1
    clear_value x1
    extract_lets +onlyGivenNames x2
    clear_value x2
    extract_lets +onlyGivenNames x3
    have hx3 : Keeps M s0 x3 := by
      subst x3
      refine showReplay_keeps (hm.mono (by rfl)) ?_
      refine setFabPort_keeps (hm.mono (by rfl)) ?_
      exact hs
    clear_value x3
    apply keeps_ite
    · refine replay_keeps (hm.mono (by rfl)) ?_
      exact hx3
    · exact hx3
  · exact hs

theorem showPath_keeps {s : State} (hm : Sub
    0x800000000000000000000000000000000000000000000000000000000000000000000000000000000000000000000000000000000 M) (hs :
    Keeps M s0 s) :
    Keeps M s0 (State.showPath s) := by
  unfold State.showPath
  refine putB_keeps (hm.at .HST_STATUS (by rfl)) ?_
  exact hs

theorem showSessions_keeps {s : State} (hm : Sub
    0x800000000000000000000000000000000000000000000000000000000000000000000000000000000000000000000000000000000 M) (hs :
    Keeps M s0 s) :
    Keeps M s0 (State.showSessions s) := by
  unfold State.showSessions
  refine put_keeps (hm.at .HST_STATUS (by rfl)) ?_
  exact hs

theorem endSession_keeps {s : State} {k : Nat} (hm : Sub
    0x800000000000000000000000000000000000000000000000000000000000000000000000000000000000000000000000000080000 M) (hs :
    Keeps M s0 s) :
    Keeps M s0 (State.endSession s k) := by
  unfold State.endSession
  refine showSessions_keeps (hm.mono (by rfl)) ?_
  refine upd_hst_keeps (hm.mono (by rfl)) ?_
  exact hs

theorem endSessions_keeps {s : State} (hm : Sub
    0x800000000000000000000000000000000000000000000000000000000000000000000000000000000000000000000000000080000 M) (hs :
    Keeps M s0 s) :
    Keeps M s0 (State.endSessions s) := by
  unfold State.endSessions
  apply keeps_forBelow
  · intro x1 t2 h3
    refine endSession_keeps (hm.mono (by rfl)) ?_
    exact h3
  · exact hs

theorem setHostIf_keeps {s : State} {j : Nat} {x : HostIf} (hm : Sub 0x80000 M) (hs : Keeps M s0 s) :
    Keeps M s0 (State.setHostIf s j x) := by
  unfold State.setHostIf
  refine upd_hst_keeps (hm.mono (by rfl)) ?_
  exact hs

theorem hostLower_keeps {s : State} {j : Nat} {remote : Bool} (hm : Sub
    0x18400000080050000000000080000000800000000000000000000000000000000000000000000000000000000000000000000000000000000000000000000000000184000 M) (hs : Keeps M s0 s) :
    Keeps M s0 (State.hostLower s j remote) := by
  unfold State.hostLower
  extract_lets +onlyGivenNames x1
  have hx1 : Keeps M s0 x1 := by
    subst x1
    apply keeps_ite
    · refine put_keeps (hm.at .HST_IF_STATUS (by rfl)) ?_
      refine put_keeps (hm.at .HST_IF_STATUS (by rfl)) ?_
      exact hs
    · refine wr_keeps (hm.at .HST_IF_STATUS (by rfl)) ?_
      exact hs
  clear_value x1
  extract_lets +onlyGivenNames x2
  have hx2 : Keeps M s0 x2 := by
    subst x2
    refine put_keeps (hm.at .HST_STATUS (by rfl)) ?_
    exact hx1
  clear_value x2
  extract_lets +onlyGivenNames x3
  clear_value x3
  extract_lets +onlyGivenNames x4
  have hx4 : Keeps M s0 x4 := by
    subst x4
    refine setHostIf_keeps (hm.mono (by rfl)) ?_
    exact hx2
  clear_value x4
  refine updateSink_keeps (hm.mono (by rfl)) ?_
  refine showPath_keeps (hm.mono (by rfl)) ?_
  exact hx4

theorem hostStandby_keeps {s : State} (hm : Sub
    0x18400000080050000000000080000000A00000000000000000000000000000000000000000000000000000000000000000000000000000000000000000000000000184000 M) (hs : Keeps M s0 s) :
    Keeps M s0 (State.hostStandby s) := by
  unfold State.hostStandby
  apply keeps_forBelow
  · intro x1 t2 h3
    apply keeps_ite
    · refine hostLower_keeps (hm.mono (by rfl)) ?_
      refine raise_keeps (hm.mono (by rfl)) (hm.at .HST_EVENT (by rfl)) ?_
      exact h3
    · exact h3
  · exact hs

theorem fabStandby_keeps {s : State} (hm : Sub
    0x18400000021810000000000000000000000000000000000000000000000000000000000000000000000000000000000000000000000000000000000000000000000104000 M) (hs : Keeps M s0 s) :
    Keeps M s0 (State.fabStandby s) := by
  unfold State.fabStandby
  apply keeps_forBelow
  · intro x1 t2 h3
    split
    · refine count_keeps (hm.at .FAB_DOWN_CNT (by rfl)) ?_
      refine putFabSt_keeps (hm.mono (by rfl)) ?_
      refine fabClear_keeps (hm.mono (by rfl)) ?_
      exact h3
    · refine raise_keeps (hm.mono (by rfl)) (hm.at .FAB_EVENT (by rfl)) ?_
      refine count_keeps (hm.at .FAB_DOWN_CNT (by rfl)) ?_
      refine putFabSt_keeps (hm.mono (by rfl)) ?_
      refine fabClear_keeps (hm.mono (by rfl)) ?_
      exact h3
    · refine putFabSt_keeps (hm.mono (by rfl)) ?_
      exact h3
    · exact h3
  · exact hs

theorem fabWake_keeps {s : State} (hm : Sub
    0x800000000000000000000000000000000000000000000000000000000000000000000000000000000000000000000000000000000000000000000000000000 M) (hs : Keeps M s0 s) :
    Keeps M s0 (State.fabWake s) := by
  unfold State.fabWake
  apply keeps_forBelow
  · intro x1 t2 h3
    apply keeps_ite
    · refine putFabSt_keeps (hm.mono (by rfl)) ?_
      exact h3
    · exact h3
  · exact hs

theorem hostDown_keeps {s : State} {j : Nat} {remote : Bool} (hm : Sub
    0x20000018400000080050000000000080003800A000000000000000000000000000000000000000000000000000000000000000000000000000000000000000000000200001A4200 M) (hs : Keeps M s0 s) :
    Keeps M s0 (State.hostDown s j remote) := by
  unfold State.hostDown
  apply keeps_ite
  · extract_lets +onlyGivenNames x1
    have hx1 : Keeps M s0 x1 := by
      subst x1
      refine raise_keeps (hm.mono (by rfl)) (hm.at .HST_EVENT (by rfl)) ?_
      exact hs
    clear_value x1
    refine fault_keeps (hm.mono (by rfl)) ?_
    refine hostLower_keeps (hm.mono (by rfl)) ?_
    exact hx1
  · apply keeps_ite
    · refine put_keeps (hm.at .HST_IF_STATUS (by rfl)) ?_
      exact hs
    · exact hs

theorem hostLaneLost_keeps {s : State} {l : Nat} (hm : Sub
    0x20000018400000080050000000000080003800A000000000000000000000000000000000000000000000000000000000000000000000000000000000000000000000200001A4200 M) (hs : Keeps M s0 s) :
    Keeps M s0 (State.hostLaneLost s l) := by
  unfold State.hostLaneLost
  extract_lets +onlyGivenNames x1
  clear_value x1
  apply keeps_ite
  · refine hostDown_keeps (hm.mono (by rfl)) ?_
    exact hs
  · refine hostDown_keeps (hm.mono (by rfl)) ?_
    exact hs

theorem hostEnable_keeps {s : State} {k : Nat} (hm : Sub
    0x18400000080050000000000080000000800502000000000000000000000000000000000000000000000000000000000000000000000000000000000000000000008184000 M) (hs : Keeps M s0 s) :
    Keeps M s0 (State.hostEnable s k) := by
  unfold State.hostEnable
  apply keeps_ite
  · exact hs
  · refine quadReleased_keeps (hm.mono (by rfl)) ?_
    apply keeps_forBelow
    · intro x1 t2 h3
      apply keeps_ite
      · refine hostLower_keeps (hm.mono (by rfl)) ?_
        exact h3
      · exact h3
    · exact hs

theorem cqNewHead_keeps {s : State} {k : Nat} (hm : Sub 0x80000 M) (hs : Keeps M s0 s) :
    Keeps M s0 (State.cqNewHead s k) := by
  unfold State.cqNewHead
  extract_lets +onlyGivenNames x1
  clear_value x1
  refine upd_hst_keeps (hm.mono (by rfl)) ?_
  exact hs

theorem cqPush_keeps {s : State} {k : Nat} {value : Word} (hm : Sub
    0x18400000000000000000000000200000200000000000000000000000000000000000000000000000000000000000000000000000000000000000000000000000000084000 M) (hs : Keeps M s0 s) :
    Keeps M s0 (State.cqPush s k value) := by
  unfold State.cqPush
  extract_lets +onlyGivenNames x1
  clear_value x1
  extract_lets +onlyGivenNames x2
  clear_value x2
  apply keeps_ite
  · refine raise_keeps (hm.mono (by rfl)) (hm.at .HST_EVENT (by rfl)) ?_
    refine count_keeps (hm.at .HST_CQ_REFUSE_CNT (by rfl)) ?_
    exact hs
  · extract_lets +onlyGivenNames x3
    clear_value x3
    extract_lets +onlyGivenNames x4
    clear_value x4
    extract_lets +onlyGivenNames x5
    clear_value x5
    extract_lets +onlyGivenNames x6
    have hx6 : Keeps M s0 x6 := by
      subst x6
      refine upd_hst_keeps (hm.mono (by rfl)) ?_
      exact hs
    clear_value x6
    apply keeps_ite
    · refine cqNewHead_keeps (hm.mono (by rfl)) ?_
      exact hx6
    · exact hx6

theorem fabPortOff_keeps {s : State} {f : Nat} (hm : Sub
    0x18400000001800000000000000000000000502000000000000000000000000000000000000000000000000000000000000000000000000000000000000000000008104000 M) (hs : Keeps M s0 s) :
    Keeps M s0 (State.fabPortOff s f) := by
  unfold State.fabPortOff
  refine quadReleased_keeps (hm.mono (by rfl)) ?_
  refine putFabSt_keeps (hm.mono (by rfl)) ?_
  refine put_keeps (hm.at .FAB_POUT (by rfl)) ?_
  refine setFabPort_keeps (hm.mono (by rfl)) ?_
  exact hs

theorem fabEnable_keeps {s : State} {f : Nat} (hm : Sub
    0x18400000001800000000000000000000000502000000000000000000000000000000000000000000000000000000000000000000000000000000000000000000008104000 M) (hs : Keeps M s0 s) :
    Keeps M s0 (State.fabEnable s f) := by
  unfold State.fabEnable
  apply keeps_ite
  · apply keeps_ite
    · refine putFabSt_keeps (hm.mono (by rfl)) ?_
      exact hs
    · exact hs
  · refine fabPortOff_keeps (hm.mono (by rfl)) ?_
    exact hs

theorem queueReply_keeps {s : State} {j : Nat} {bytes : List Byte} (hm : Sub 0x80000 M) (hs : Keeps M s0 s) :
    Keeps M s0 (State.queueReply s j bytes) := by
  unfold State.queueReply
  extract_lets +onlyGivenNames x1
  clear_value x1
  refine setHostIf_keeps (hm.mono (by rfl)) ?_
  exact hs

theorem arpAnswer_keeps {s : State} {j : Nat} (hm : Sub
    0x2000000000000000000000000000000000000000000000000000000000000000000000000000000000000000000000000000000000000080000
    M) (hs : Keeps M s0 s) :
    Keeps M s0 (State.arpAnswer s j) := by
  unfold State.arpAnswer
  extract_lets +onlyGivenNames x1
  clear_value x1
  split
  · extract_lets +onlyGivenNames x2
    have hx2 : Keeps M s0 x2 := by
      subst x2
      refine setHostIf_keeps (hm.mono (by rfl)) ?_
      exact hs
    clear_value x2
    apply keeps_ite
    · refine count_keeps (hm.at .HST_ARP_CNT (by rfl)) ?_
      refine queueReply_keeps (hm.mono (by rfl)) ?_
      exact hx2
    · exact hx2
  · exact hs

theorem forward_keeps {s : State} {from_ : Nat} {ws : List DWord} (hm : Sub 0x100000 M) (hs : Keeps M s0 s) :
    Keeps M s0 (State.forward s from_ ws) := by
  unfold State.forward
  apply keeps_forBelow
  · intro x1 t2 h3
    apply keeps_ite
    · refine fabQueue_keeps (hm.mono (by rfl)) ?_
      exact h3
    · exact h3
  · exact hs

theorem floodIn_keeps {s : State} {f : Nat} {key : FabAddr × Nat} {ws : List DWord} (hm : Sub 0x100000 M) (hs : Keeps M s0
    s) :
    Keeps M s0 (State.floodIn s f key ws).1 := by
  unfold State.floodIn
  apply keeps_ite_fst
  · exact hs
  · dsimp only
    refine forward_keeps (hm.mono (by rfl)) ?_
    refine upd_fab_keeps (hm.mono (by rfl)) ?_
    exact hs

theorem showRoot_keeps {s : State} {r : DWord} (hm : Sub
    0x180000000000000000000000000000000000000000000000000000000000000000000000000000000000000000000000000000000000000000000000000000 M) (hs : Keeps M s0 s) :
    Keeps M s0 (State.showRoot s r) := by
  unfold State.showRoot
  refine wr_keeps (hm.at .FAB_ROOT_HI (by rfl)) ?_
  refine wr_keeps (hm.at .FAB_ROOT_LO (by rfl)) ?_
  exact hs

theorem takeAddress_keeps {s : State} {a : FabAddr} (hm : Sub
    0x18400000400050000000000000000000000000000000000000000000000000000000000000000000000000000000000000000000000000000000000000000000000004000 M) (hs : Keeps M s0 s) :
    Keeps M s0 (State.takeAddress s a) := by
  unfold State.takeAddress
  extract_lets +onlyGivenNames x1
  have hx1 : Keeps M s0 x1 := by
    subst x1
    apply keeps_ite
    · refine count_keeps (hm.at .FAB_READDR_CNT (by rfl)) ?_
      refine raise_keeps (hm.mono (by rfl)) (hm.at .FAB_EVENT (by rfl)) ?_
      exact hs
    · exact hs
  clear_value x1
  refine put_keeps (hm.at .FAB_STATUS (by rfl)) ?_
  exact hx1

theorem assignRx_keeps {s : State} {f : Nat} {ws : List DWord} (hm : Sub
    0x18400000680BD00100000000000038002000000000000000000000000000000000000000000000000056280080000000404060200000000000000000000000000061C4280 M) (hs : Keeps M s0 s) :
    Keeps M s0 (State.assignRx s f ws) := by
  unfold State.assignRx
  extract_lets +onlyGivenNames x1
  clear_value x1
  extract_lets +onlyGivenNames x2
  clear_value x2
  extract_lets +onlyGivenNames x3
  clear_value x3
  extract_lets +onlyGivenNames x4
  have hx4 : Keeps M s0 x4.1 := by
    subst x4
    refine floodIn_keeps (hm.mono (by rfl)) ?_
    exact hs
  clear_value x4
  apply keeps_ite
  · extract_lets +onlyGivenNames x5
    have hx5 : Keeps M s0 x5 := by
      subst x5
      exact hx4
    clear_value x5
    extract_lets +onlyGivenNames x6
    clear_value x6
    extract_lets +onlyGivenNames x7
    have hx7 : Keeps M s0 x7 := by
      subst x7
      refine upd_fab_keeps (hm.mono (by rfl)) ?_
      exact hx5
    clear_value x7
    extract_lets +onlyGivenNames x8
    have hx8 : Keeps M s0 x8 := by
      subst x8
      refine showRoot_keeps (hm.mono (by rfl)) ?_
      exact hx7
    clear_value x8
    apply keeps_ite
    · refine put_keeps (hm.at .FAB_STATUS (by rfl)) ?_
      refine takeAddress_keeps (hm.mono (by rfl)) ?_
      exact hx8
    · apply keeps_forBelow
      · intro x9 t10 h11
        split
        · apply keeps_ite
          · extract_lets +onlyGivenNames x12
            have hx12 : Keeps M s0 x12 := by
              subst x12
              refine put_keeps (hm.at .FAB_PSTAT (by rfl)) ?_
              exact h11
            clear_value x12
            apply keeps_ite
            · refine linkEvent_keeps (hm.mono (by rfl)) ?_
              exact hx12
            · exact hx12
          · exact h11
        · exact h11
      · exact hx8
  · exact hx4

theorem notCq_keeps {s : State} {j : Nat} (hm : Sub 0x80000 M) (hs : Keeps M s0 s) :
    Keeps M s0 (State.notCq s j) := by
  unfold State.notCq
  refine setHostIf_keeps (hm.mono (by rfl)) ?_
  exact hs

theorem nextDseq_keeps {s : State} {c : LClass} (hm : Sub 0x80000 M) (hs : Keeps M s0 s) :
    Keeps M s0 (State.nextDseq s c).2 := by
  unfold State.nextDseq
  extract_lets +onlyGivenNames x1
  clear_value x1
  extract_lets +onlyGivenNames x2
  clear_value x2
  dsimp only
  refine upd_hst_keeps (hm.mono (by rfl)) ?_
  exact hs

theorem sendFrame_keeps {s : State} {j : Nat} {bytes : List Byte} (hm : Sub
    0x100000000000000000000000000000000000000000000000000000000000000000000000000000000000000000000000000000000000000004 M)
    (hs : Keeps M s0 s) :
    Keeps M s0 (State.sendFrame s j bytes) := by
  unfold State.sendFrame
  refine count_keeps (hm.at .HST_TX_FRAME_CNT (by rfl)) ?_
  refine emit_keeps (hm.mono (by rfl)) ?_
  exact hs

theorem ipDatagram_keeps {s : State} {j : Nat} {dst : Word} {proto : Nat} {payload : List Byte} (hm : Sub 0x80000 M) (hs :
    Keeps M s0 s) :
    Keeps M s0 (State.ipDatagram s j dst proto payload).2 := by
  unfold State.ipDatagram
  extract_lets +onlyGivenNames x1
  clear_value x1
  extract_lets +onlyGivenNames x2
  clear_value x2
  extract_lets +onlyGivenNames x3
  subst x3
  dsimp only
  refine setHostIf_keeps (hm.mono (by rfl)) ?_
  exact hs

theorem udpDatagram_keeps {s : State} {j : Nat} {dst : Word} {sport : Nat} {dport : Nat} {payload : List Byte} (hm : Sub
    0x80000 M) (hs : Keeps M s0 s) :
    Keeps M s0 (State.udpDatagram s j dst sport dport payload).2 := by
  unfold State.udpDatagram
  extract_lets +onlyGivenNames x1
  clear_value x1
  extract_lets +onlyGivenNames x2
  clear_value x2
  extract_lets +onlyGivenNames x3
  subst x3
  extract_lets +onlyGivenNames x4
  clear_value x4
  refine ipDatagram_keeps (hm.mono (by rfl)) ?_
  exact hs

theorem recordFrame_keeps {s : State} {j : Nat} {kind : Nat} {c : LClass} {rs : List Record} (hm : Sub
    0x100000000000000000000000000000000000000000000000000000000000000000000000000000000000000000000000000000000000080004 M)
    (hs : Keeps M s0 s) :
    Keeps M s0 (State.recordFrame s j kind c rs) := by
  unfold State.recordFrame
  extract_lets +onlyGivenNames x1
  have hx1 : Keeps M s0 x1.2 := by
    subst x1
    refine nextDseq_keeps (hm.mono (by rfl)) ?_
    exact hs
  clear_value x1
  extract_lets +onlyGivenNames x2
  have hx2 : Keeps M s0 x2 := by
    subst x2
    exact hx1
  clear_value x2
  extract_lets +onlyGivenNames x3
  clear_value x3
  extract_lets +onlyGivenNames x4
  clear_value x4
  extract_lets +onlyGivenNames x5
  clear_value x5
  extract_lets +onlyGivenNames x6
  clear_value x6
  extract_lets +onlyGivenNames x7
  clear_value x7
  apply keeps_ite
  · refine sendFrame_keeps (hm.mono (by rfl)) ?_
    exact hx2
  · extract_lets +onlyGivenNames x8
    have hx8 : Keeps M s0 x8.2 := by
      subst x8
      refine udpDatagram_keeps (hm.mono (by rfl)) ?_
      exact hx2
    clear_value x8
    refine sendFrame_keeps (hm.mono (by rfl)) ?_
    exact hx8

theorem bulkFrame_keeps {s : State} {j : Nat} (hm : Sub
    0x100000000000000000000000000000000000000000000000000000000000000000000000000000000000000000000000000000000000080004 M)
    (hs : Keeps M s0 s) :
    Keeps M s0 (State.bulkFrame s j) := by
  unfold State.bulkFrame
  extract_lets +onlyGivenNames x1
  clear_value x1
  extract_lets +onlyGivenNames x2
  clear_value x2
  extract_lets +onlyGivenNames x3
  have hx3 : Keeps M s0 x3 := by
    subst x3
    refine upd_hst_keeps (hm.mono (by rfl)) ?_
    exact hs
  clear_value x3
  extract_lets +onlyGivenNames x4
  have hx4 : Keeps M s0 x4 := by
    subst x4
    refine notCq_keeps (hm.mono (by rfl)) ?_
    refine recordFrame_keeps (hm.mono (by rfl)) ?_
    exact hx3
  clear_value x4
  refine setHostIf_keeps (hm.mono (by rfl)) ?_
  exact hx4

theorem cackPacket_keeps {s : State} {ws : List DWord} (hm : Sub 0x4000000 M) (hs : Keeps M s0 s) :
    Keeps M s0 (State.cackPacket s ws) := by
  unfold State.cackPacket
  extract_lets +onlyGivenNames x1
  clear_value x1
  refine upd_sti_keeps (hm.mono (by rfl)) ?_
  exact hs

theorem objOfPacket_keeps {s : State} {ws : List DWord} (hm : Sub 0x2 M) (hs : Keeps M s0 s) :
    Keeps M s0 (State.objOfPacket s ws).2 := by
  unfold State.objOfPacket
  extract_lets +onlyGivenNames x1
  have hx1 : Keeps M s0 x1.2 := by
    subst x1
    refine drawFree_keeps (hm.mono (by rfl)) ?_
    exact hs
  clear_value x1
  exact hx1

theorem componentPacket_keeps {s : State} {ws : List DWord} (hm : Sub
    0x184000000800100000000000000000000000000000000000000000000000000000000000000000000000000000000000A0000020000000000000000000000000006104002 M) (hs : Keeps M s0 s) :
    Keeps M s0 (State.componentPacket s ws) := by
  unfold State.componentPacket
  apply keeps_ite
  · extract_lets +onlyGivenNames x1
    clear_value x1
    extract_lets +onlyGivenNames x2
    clear_value x2
    extract_lets +onlyGivenNames x3
    clear_value x3
    extract_lets +onlyGivenNames x4
    clear_value x4
    extract_lets +onlyGivenNames x5
    have hx5 : Keeps M s0 x5.2 := by
      subst x5
      refine objOfPacket_keeps (hm.mono (by rfl)) ?_
      exact hs
    clear_value x5
    extract_lets +onlyGivenNames x6
    clear_value x6
    extract_lets +onlyGivenNames x7
    subst x7
    extract_lets +onlyGivenNames x8
    clear_value x8
    extract_lets +onlyGivenNames x9
    clear_value x9
    extract_lets +onlyGivenNames x10
    clear_value x10
    apply keeps_ite
    · extract_lets +onlyGivenNames x11
      clear_value x11
      extract_lets +onlyGivenNames x12
      have hx12 : Keeps M s0 x12 := by
        subst x12
        exact hx5
      clear_value x12
      extract_lets +onlyGivenNames x13
      clear_value x13
      extract_lets +onlyGivenNames x14
      have hx14 : Keeps M s0 x14 := by
        subst x14
        refine upd_sti_keeps (hm.mono (by rfl)) ?_
        exact hx12
      clear_value x14
      refine fabSend_keeps (hm.mono (by rfl)) ?_
      refine joinComps_keeps (hm.mono (by rfl)) ?_
      exact hx14
    · extract_lets +onlyGivenNames x15
      have hx15 : Keeps M s0 x15 := by
        subst x15
        exact hx5
      clear_value x15
      refine upd_sti_keeps (hm.mono (by rfl)) ?_
      exact hx15
  · exact hs

theorem cqPop_keeps {s : State} {k : Nat} (hm : Sub 0x80000 M) (hs : Keeps M s0 s) :
    Keeps M s0 (State.cqPop s k) := by
  unfold State.cqPop
  refine cqNewHead_keeps (hm.mono (by rfl)) ?_
  refine upd_hst_keeps (hm.mono (by rfl)) ?_
  exact hs

theorem cqLaunch_keeps {s : State} {k : Nat} {e : CqEntry} (hm : Sub
    0x18400000000000000000000100100300200000000000000000000000000000000000000000000000000000000000000000000000000000000000000000000000000084004 M) (hs : Keeps M s0 s) :
    Keeps M s0 (State.cqLaunch s k e) := by
  unfold State.cqLaunch
  extract_lets +onlyGivenNames x1
  clear_value x1
  extract_lets +onlyGivenNames x2
  clear_value x2
  extract_lets +onlyGivenNames x3
  have hx3 : Keeps M s0 x3 := by
    subst x3
    refine sendFrame_keeps (hm.mono (by rfl)) ?_
    exact hs
  clear_value x3
  extract_lets +onlyGivenNames x4
  clear_value x4
  extract_lets +onlyGivenNames x5
  have hx5 : Keeps M s0 x5 := by
    subst x5
    refine setHostIf_keeps (hm.mono (by rfl)) ?_
    exact hx3
  clear_value x5
  extract_lets +onlyGivenNames x6
  have hx6 : Keeps M s0 x6 := by
    subst x6
    apply keeps_ite
    · refine wr_keeps (hm.at .HST_CQ_TS_HI (by rfl)) ?_
      refine wr_keeps (hm.at .HST_CQ_TS_LO (by rfl)) ?_
      exact hx5
    · exact hx5
  clear_value x6
  extract_lets +onlyGivenNames x7
  have hx7 : Keeps M s0 x7 := by
    subst x7
    apply keeps_ite
    · refine raise_keeps (hm.mono (by rfl)) (hm.at .HST_EVENT (by rfl)) ?_
      refine count_keeps (hm.at .HST_CQ_LATE_CNT (by rfl)) ?_
      exact hx6
    · exact hx6
  clear_value x7
  refine cqPop_keeps (hm.mono (by rfl)) ?_
  exact hx7

theorem cqEntryDue_keeps {s : State} {k : Nat} (hm : Sub
    0x184000000000000000008001005003002000000000000000000000000000000000000000000000000000000000000000000000000000000000000000000000000000CC005 M) (hs : Keeps M s0 s) :
    Keeps M s0 (State.cqEntryDue s k) := by
  unfold State.cqEntryDue
  split
  · exact hs
  · extract_lets +onlyGivenNames x1
    have hx1 : Keeps M s0 x1 := by
      subst x1
      refine advance_keeps (hm.mono (by rfl)) ?_
      exact hs
    clear_value x1
    apply keeps_ite
    · refine cqPop_keeps (hm.mono (by rfl)) ?_
      refine count_keeps (hm.at .HST_CQ_DROP_CNT (by rfl)) ?_
      exact hx1
    · apply keeps_ite
      · refine upd_hst_keeps (hm.mono (by rfl)) ?_
        exact hx1
      · refine cqLaunch_keeps (hm.mono (by rfl)) ?_
        exact hx1

theorem cueFrame_keeps {s : State} {j : Nat} (hm : Sub
    0x100000000000000000000000000000000000000000000000000000000000000000000000000000000000000000000000000000000000080004 M)
    (hs : Keeps M s0 s) :
    Keeps M s0 (State.cueFrame s j) := by
  unfold State.cueFrame
  extract_lets +onlyGivenNames x1
  clear_value x1
  extract_lets +onlyGivenNames x2
  clear_value x2
  extract_lets +onlyGivenNames x3
  have hx3 : Keeps M s0 x3 := by
    subst x3
    refine upd_hst_keeps (hm.mono (by rfl)) ?_
    exact hs
  clear_value x3
  refine notCq_keeps (hm.mono (by rfl)) ?_
  refine recordFrame_keeps (hm.mono (by rfl)) ?_
  exact hx3

theorem discDone_keeps {s : State} (hm : Sub
    0x18400001000050000000000000000000000000000000000000000000000000000000000000000000000000000000000000000000000000000000000000000000000004000 M) (hs : Keeps M s0 s) :
    Keeps M s0 (State.discDone s) := by
  unfold State.discDone
  extract_lets +onlyGivenNames x1
  have hx1 : Keeps M s0 x1 := by
    subst x1
    refine put_keeps (hm.at .FAB_STATUS (by rfl)) ?_
    exact hs
  clear_value x1
  extract_lets +onlyGivenNames x2
  have hx2 : Keeps M s0 x2 := by
    subst x2
    refine put_keeps (hm.at .FAB_STATUS (by rfl)) ?_
    exact hx1
  clear_value x2
  refine count_keeps (hm.at .FAB_DISC_CNT (by rfl)) ?_
  refine raise_keeps (hm.mono (by rfl)) (hm.at .FAB_EVENT (by rfl)) ?_
  exact hx2

theorem holdReport_keeps {s : State} {r : Report} (hm : Sub 0x100000 M) (hs : Keeps M s0 s) :
    Keeps M s0 (State.holdReport s r) := by
  unfold State.holdReport
  refine upd_fab_keeps (hm.mono (by rfl)) ?_
  exact hs

theorem rootAssign_keeps {s : State} (hm : Sub
    0x18400001680BD00100000000000038002000000000000000000000000000000000000000000000000056280080000000404060200000000000000000000000000061C4280 M) (hs : Keeps M s0 s) :
    Keeps M s0 (State.rootAssign s) := by
  unfold State.rootAssign
  extract_lets +onlyGivenNames x1
  clear_value x1
  extract_lets +onlyGivenNames x2
  clear_value x2
  extract_lets +onlyGivenNames x3
  clear_value x3
  extract_lets +onlyGivenNames x4
  clear_value x4
  extract_lets +onlyGivenNames x5
  clear_value x5
  extract_lets +onlyGivenNames x6
  clear_value x6
  extract_lets +onlyGivenNames x7
  have hx7 : Keeps M s0 x7 := by
    subst x7
    refine put_keeps (hm.at .FAB_STATUS (by rfl)) ?_
    refine takeAddress_keeps (hm.mono (by rfl)) ?_
    exact hs
  clear_value x7
  extract_lets +onlyGivenNames x8
  have hx8 : Keeps M s0 x8 := by
    subst x8
    refine showRoot_keeps (hm.mono (by rfl)) ?_
    exact hx7
  clear_value x8
  extract_lets +onlyGivenNames x9
  clear_value x9
  extract_lets +onlyGivenNames x10
  have hx10 : Keeps M s0 x10 := by
    subst x10
    refine upd_fab_keeps (hm.mono (by rfl)) ?_
    exact hx8
  clear_value x10
  extract_lets +onlyGivenNames x11
  have hx11 : Keeps M s0 x11 := by
    subst x11
    apply keeps_foldl
    · intro t12 x13 h14
      refine flood_keeps (hm.mono (by rfl)) ?_
      exact h14
    · exact hx10
  clear_value x11
  extract_lets +onlyGivenNames x15
  clear_value x15
  extract_lets +onlyGivenNames x16
  have hx16 : Keeps M s0 x16 := by
    subst x16
    apply keeps_foldl
    · intro t17 x18 h19
      extract_lets +onlyGivenNames x20
      have hx20 : Keeps M s0 x20.2 := by
        subst x20
        refine nextFlood_keeps (hm.mono (by rfl)) ?_
        exact h19
      clear_value x20
      refine flood_keeps (hm.mono (by rfl)) ?_
      exact hx20
    · exact hx11
  clear_value x16
  refine discDone_keeps (hm.mono (by rfl)) ?_
  refine mapChanged_keeps (hm.mono (by rfl)) ?_
  exact hx16

theorem rootTry_keeps {s : State} (hm : Sub
    0x18400001680BD00100000000000038002000000000000000000000000000000000000000000000000056280080000000404060200000000000000000000000000061C4280 M) (hs : Keeps M s0 s) :
    Keeps M s0 (State.rootTry s) := by
  unfold State.rootTry
  apply keeps_ite
  · extract_lets +onlyGivenNames x1
    have hx1 : Keeps M s0 x1 := by
      subst x1
      refine holdReport_keeps (hm.mono (by rfl)) ?_
      exact hs
    clear_value x1
    apply keeps_ite
    · refine rootAssign_keeps (hm.mono (by rfl)) ?_
      exact hx1
    · exact hx1
  · exact hs

theorem discSettled_keeps {s : State} (hm : Sub
    0x18400001680BD00100000000000038002000000000000000000000000000000000000000000000000056280080000000404060200000000000000000000000000061C4280 M) (hs : Keeps M s0 s) :
    Keeps M s0 (State.discSettled s) := by
  unfold State.discSettled
  apply keeps_ite
  · extract_lets +onlyGivenNames x1
    clear_value x1
    extract_lets +onlyGivenNames x2
    have hx2 : Keeps M s0 x2 := by
      subst x2
      refine upd_fab_keeps (hm.mono (by rfl)) ?_
      exact hs
    clear_value x2
    split
    · refine sendDisc_keeps (hm.mono (by rfl)) ?_
      exact hx2
    · refine rootTry_keeps (hm.mono (by rfl)) ?_
      exact hx2
  · exact hs

theorem discoveryTimeout_keeps {s : State} (hm : Sub
    0x18400001680BD00100000000000038002000000000000000000000000000000000000000000000000056280080000000404060200000000000000000000000000061C4280 M) (hs : Keeps M s0 s) :
    Keeps M s0 (State.discoveryTimeout s) := by
  unfold State.discoveryTimeout
  apply keeps_ite
  · extract_lets +onlyGivenNames x1
    have hx1 : Keeps M s0 x1 := by
      subst x1
      refine put_keeps (hm.at .FAB_STATUS (by rfl)) ?_
      refine takeAddress_keeps (hm.mono (by rfl)) ?_
      exact hs
    clear_value x1
    extract_lets +onlyGivenNames x2
    have hx2 : Keeps M s0 x2 := by
      subst x2
      refine showRoot_keeps (hm.mono (by rfl)) ?_
      exact hx1
    clear_value x2
    extract_lets +onlyGivenNames x3
    clear_value x3
    extract_lets +onlyGivenNames x4
    have hx4 : Keeps M s0 x4 := by
      subst x4
      refine upd_fab_keeps (hm.mono (by rfl)) ?_
      exact hx2
    clear_value x4
    refine discDone_keeps (hm.mono (by rfl)) ?_
    refine mapChanged_keeps (hm.mono (by rfl)) ?_
    exact hx4
  · apply keeps_ite
    · refine put_keeps (hm.at .FAB_STATUS (by rfl)) ?_
      refine raise_keeps (hm.mono (by rfl)) (hm.at .FAB_EVENT (by rfl)) ?_
      exact hs
    · exact hs

theorem dreqRx_keeps {s : State} {f : Nat} {seq : BitVec 6} (hm : Sub 0x4 M) (hs : Keeps M s0 s) :
    Keeps M s0 (State.dreqRx s f seq) := by
  unfold State.dreqRx
  apply keeps_ite
  · refine emit_keeps (hm.mono (by rfl)) ?_
    exact hs
  · exact hs

theorem drespRx_keeps {s : State} {f : Nat} {seq : BitVec 6} {t : BitVec 48} (hm : Sub
    0x18400000000000410000800000000000000000000000000000000000000000000000000000000000000000000000000000000000000000000000000000000000000044000 M) (hs : Keeps M s0 s) :
    Keeps M s0 (State.drespRx s f seq t) := by
  unfold State.drespRx
  extract_lets +onlyGivenNames x1
  clear_value x1
  apply keeps_ite
  · extract_lets +onlyGivenNames x2
    clear_value x2
    extract_lets +onlyGivenNames x3
    clear_value x3
    extract_lets +onlyGivenNames x4
    have hx4 : Keeps M s0 x4 := by
      subst x4
      refine delaySample_keeps (hm.mono (by rfl)) ?_
      exact hs
    clear_value x4
    apply keeps_ite
    · exact hx4
    · refine queueOffset_keeps (hm.mono (by rfl)) ?_
      exact hx4
  · exact hs

theorem fabAligned_keeps {s : State} {f : Nat} (hm : Sub
    0x800000000000000000000000000000000000000000000000000000000000000000000000000000000000000000000000000000000000000000000000100004 M) (hs : Keeps M s0 s) :
    Keeps M s0 (State.fabAligned s f) := by
  unfold State.fabAligned
  apply keeps_ite
  · extract_lets +onlyGivenNames x1
    clear_value x1
    extract_lets +onlyGivenNames x2
    have hx2 : Keeps M s0 x2 := by
      subst x2
      refine setFabPort_keeps (hm.mono (by rfl)) ?_
      exact hs
    clear_value x2
    refine emit_keeps (hm.mono (by rfl)) ?_
    refine emit_keeps (hm.mono (by rfl)) ?_
    refine putFabSt_keeps (hm.mono (by rfl)) ?_
    exact hx2
  · exact hs

theorem fabPortUp_keeps {s : State} {f : Nat} (hm : Sub
    0x18400000281A500100000000000038002000000000000000000000000000000000000000000000000056280080000000404060200000000000000000000000000061C4280 M) (hs : Keeps M s0 s) :
    Keeps M s0 (State.fabPortUp s f) := by
  unfold State.fabPortUp
  extract_lets +onlyGivenNames x1
  have hx1 : Keeps M s0 x1 := by
    subst x1
    refine putFabSt_keeps (hm.mono (by rfl)) ?_
    refine fabClear_keeps (hm.mono (by rfl)) ?_
    exact hs
  clear_value x1
  extract_lets +onlyGivenNames x2
  have hx2 : Keeps M s0 x2 := by
    subst x2
    refine raise_keeps (hm.mono (by rfl)) (hm.at .FAB_EVENT (by rfl)) ?_
    exact hx1
  clear_value x2
  refine linkEvent_keeps (hm.mono (by rfl)) ?_
  exact hx2

theorem failover_keeps {s : State} (hm : Sub
    0x18400000000000000000000000040000A00000000000000000000000000000000000000000000000000000000000000000000000000000000000000000000000000004000 M) (hs : Keeps M s0 s) :
    Keeps M s0 (State.failover s) := by
  unfold State.failover
  extract_lets +onlyGivenNames x1
  clear_value x1
  extract_lets +onlyGivenNames x2
  clear_value x2
  extract_lets +onlyGivenNames x3
  clear_value x3
  apply keeps_ite
  · extract_lets +onlyGivenNames x4
    have hx4 : Keeps M s0 x4 := by
      subst x4
      refine put_keeps (hm.at .HST_STATUS (by rfl)) ?_
      exact hs
    clear_value x4
    refine showPath_keeps (hm.mono (by rfl)) ?_
    refine count_keeps (hm.at .HST_FAILOVER_CNT (by rfl)) ?_
    refine raise_keeps (hm.mono (by rfl)) (hm.at .HST_EVENT (by rfl)) ?_
    exact hx4
  · exact hs

theorem frameFlush_keeps {s : State} {c : LClass} (hm : Sub 0x80000 M) (hs : Keeps M s0 s) :
    Keeps M s0 (State.frameFlush s c) := by
  unfold State.frameFlush
  split
  · exact hs
  · refine upd_hst_keeps (hm.mono (by rfl)) ?_
    exact hs
  · refine upd_hst_keeps (hm.mono (by rfl)) ?_
    exact hs

theorem frameRx_keeps {s : State} {j : Nat} {bytes : List Byte} (hm : Sub
    0x600010000000000000000000000000000000000000000000000000000000000000000000000000000000000000000000000000000000080000 M)
    (hs : Keeps M s0 s) :
    Keeps M s0 (State.frameRx s j bytes) := by
  unfold State.frameRx
  apply keeps_ite
  · exact hs
  · extract_lets +onlyGivenNames x1
    clear_value x1
    split
    · refine count_keeps (hm.at .HST_RX_DROP_CNT (by rfl)) ?_
      exact hs
    · refine count_keeps (hm.at .HST_RX_FRAME_CNT (by rfl)) ?_
      exact hs
    · refine count_keeps (hm.at .HST_RX_FRAME_CNT (by rfl)) ?_
      refine setHostIf_keeps (hm.mono (by rfl)) ?_
      exact hs
    · refine count_keeps (hm.at .HST_RX_FRAME_CNT (by rfl)) ?_
      refine setHostIf_keeps (hm.mono (by rfl)) ?_
      exact hs
    · extract_lets +onlyGivenNames x2
      have hx2 : Keeps M s0 x2 := by
        subst x2
        refine count_keeps (hm.at .HST_RX_FRAME_CNT (by rfl)) ?_
        exact hs
      clear_value x2
      apply keeps_ite
      · refine count_keeps (hm.at .HST_MGMT_OVF_CNT (by rfl)) ?_
        exact hx2
      · refine upd_hst_keeps (hm.mono (by rfl)) ?_
        exact hx2

theorem routineFrame_keeps {s : State} {j : Nat} (hm : Sub
    0x100000000000000000000000000000000000000000000000000000000000000000000000000000000000000000000000000000000000080004 M)
    (hs : Keeps M s0 s) :
    Keeps M s0 (State.routineFrame s j) := by
  unfold State.routineFrame
  extract_lets +onlyGivenNames x1
  clear_value x1
  extract_lets +onlyGivenNames x2
  clear_value x2
  extract_lets +onlyGivenNames x3
  have hx3 : Keeps M s0 x3 := by
    subst x3
    refine upd_hst_keeps (hm.mono (by rfl)) ?_
    exact hs
  clear_value x3
  refine notCq_keeps (hm.mono (by rfl)) ?_
  refine recordFrame_keeps (hm.mono (by rfl)) ?_
  exact hx3

theorem jobFrame_keeps {s : State} {j : Nat} (hm : Sub
    0x100000000000000000000000000000000000000000000000000000000000000000000000000000000000000000000000000000000000080004 M)
    (hs : Keeps M s0 s) :
    Keeps M s0 (State.jobFrame s j) := by
  unfold State.jobFrame
  extract_lets +onlyGivenNames x1
  clear_value x1
  extract_lets +onlyGivenNames x2
  clear_value x2
  extract_lets +onlyGivenNames x3
  clear_value x3
  extract_lets +onlyGivenNames x4
  have hx4 : Keeps M s0 x4 := by
    subst x4
    refine upd_hst_keeps (hm.mono (by rfl)) ?_
    exact hs
  clear_value x4
  extract_lets +onlyGivenNames x5
  have hx5 : Keeps M s0 x5 := by
    subst x5
    refine notCq_keeps (hm.mono (by rfl)) ?_
    refine recordFrame_keeps (hm.mono (by rfl)) ?_
    exact hx4
  clear_value x5
  refine setHostIf_keeps (hm.mono (by rfl)) ?_
  exact hx5

theorem rankFive_keeps {s : State} {j : Nat} (hm : Sub
    0x100000000000000000000000000000000000000000000000000000000000000000000000000000000000000000000000000000000000080004 M)
    (hs : Keeps M s0 s) :
    Keeps M s0 (State.rankFive s j) := by
  unfold State.rankFive
  extract_lets +onlyGivenNames x1
  clear_value x1
  extract_lets +onlyGivenNames x2
  clear_value x2
  apply keeps_ite
  · refine bulkFrame_keeps (hm.mono (by rfl)) ?_
    exact hs
  · apply keeps_ite
    · refine jobFrame_keeps (hm.mono (by rfl)) ?_
      exact hs
    · exact hs

theorem frameStart_keeps {s : State} {j : Nat} (hm : Sub
    0x18400000000000000000000100100300200000000000000000000000000000000000000000000000000000000000000000000000000000000000000000000000000084004 M) (hs : Keeps M s0 s) :
    Keeps M s0 (State.frameStart s j) := by
  unfold State.frameStart
  apply keeps_ite
  · exact hs
  · extract_lets +onlyGivenNames x1
    clear_value x1
    extract_lets +onlyGivenNames x2
    clear_value x2
    split
    · refine cqLaunch_keeps (hm.mono (by rfl)) ?_
      exact hs
    · apply keeps_ite
      · refine cueFrame_keeps (hm.mono (by rfl)) ?_
        exact hs
      · split
        · apply keeps_ite
          · exact hs
          · extract_lets +onlyGivenNames x3
            clear_value x3
            extract_lets +onlyGivenNames x4
            have hx4 : Keeps M s0 x4 := by
              subst x4
              refine setHostIf_keeps (hm.mono (by rfl)) ?_
              exact hs
            clear_value x4
            refine notCq_keeps (hm.mono (by rfl)) ?_
            refine sendFrame_keeps (hm.mono (by rfl)) ?_
            exact hx4
        · apply keeps_ite
          · refine routineFrame_keeps (hm.mono (by rfl)) ?_
            exact hs
          · refine rankFive_keeps (hm.mono (by rfl)) ?_
            exact hs

theorem frontierPacket_keeps {s : State} {ws : List DWord} (hm : Sub
    0x18400000000000000000000000000000000000420400000000000000000000000000000000000000000000000000000100000000000000000000000000000003024004000 M) (hs : Keeps M s0 s) :
    Keeps M s0 (State.frontierPacket s ws) := by
  unfold State.frontierPacket
  apply keeps_ite
  · extract_lets +onlyGivenNames x1
    clear_value x1
    refine tryTrail_keeps (hm.mono (by rfl)) ?_
    refine upd_sti_keeps (hm.mono (by rfl)) ?_
    exact hs
  · exact hs

theorem giveCredit_keeps {s : State} {f : Nat} {vc : Nat} (hm : Sub 0x4 M) (hs : Keeps M s0 s) :
    Keeps M s0 (State.giveCredit s f vc) := by
  unfold State.giveCredit
  refine emit_keeps (hm.mono (by rfl)) ?_
  exact hs

theorem helloRx_keeps {s : State} {f : Nat} {ws : List DWord} (hm : Sub
    0x6800000000000000000000000000000000000000000000000000000000000000000000000000000000000000000000000000000000000000000000000100000 M) (hs : Keeps M s0 s) :
    Keeps M s0 (State.helloRx s f ws) := by
  unfold State.helloRx
  extract_lets +onlyGivenNames x1
  clear_value x1
  extract_lets +onlyGivenNames x2
  clear_value x2
  extract_lets +onlyGivenNames x3
  clear_value x3
  extract_lets +onlyGivenNames x4
  have hx4 : Keeps M s0 x4 := by
    subst x4
    refine setFabPort_keeps (hm.mono (by rfl)) ?_
    exact hs
  clear_value x4
  extract_lets +onlyGivenNames x5
  have hx5 : Keeps M s0 x5 := by
    subst x5
    refine wr_keeps (hm.at .FAB_NSER_LO (by rfl)) ?_
    exact hx4
  clear_value x5
  extract_lets +onlyGivenNames x6
  have hx6 : Keeps M s0 x6 := by
    subst x6
    refine wr_keeps (hm.at .FAB_NSER_HI (by rfl)) ?_
    exact hx5
  clear_value x6
  extract_lets +onlyGivenNames x7
  have hx7 : Keeps M s0 x7 := by
    subst x7
    refine put_keeps (hm.at .FAB_PSTAT (by rfl)) ?_
    exact hx6
  clear_value x7
  extract_lets +onlyGivenNames x8
  have hx8 : Keeps M s0 x8 := by
    subst x8
    apply keeps_ite
    · refine put_keeps (hm.at .FAB_PSTAT (by rfl)) ?_
      exact hx7
    · exact hx7
  clear_value x8
  refine elect_keeps (hm.mono (by rfl)) ?_
  exact hx8

theorem helloTimer_keeps {s : State} (hm : Sub 0x100000 M) (hs : Keeps M s0 s) :
    Keeps M s0 (State.helloTimer s) := by
  unfold State.helloTimer
  apply keeps_ite
  · apply keeps_forBelow
    · intro x1 t2 h3
      refine sendDisc_keeps (hm.mono (by rfl)) ?_
      exact h3
    · exact hs
  · exact hs

theorem hostUp_keeps {s : State} {j : Nat} (hm : Sub
    0x18400000080050000000000080000000A00000000000000000000000000000000000000000000000000000000000000000000000000000000000000000000000000184000 M) (hs : Keeps M s0 s) :
    Keeps M s0 (State.hostUp s j) := by
  unfold State.hostUp
  extract_lets +onlyGivenNames x1
  clear_value x1
  apply keeps_ite
  · extract_lets +onlyGivenNames x2
    clear_value x2
    extract_lets +onlyGivenNames x3
    have hx3 : Keeps M s0 x3 := by
      subst x3
      refine wr_keeps (hm.at .HST_IF_STATUS (by rfl)) ?_
      exact hs
    clear_value x3
    extract_lets +onlyGivenNames x4
    have hx4 : Keeps M s0 x4 := by
      subst x4
      refine put_keeps (hm.at .HST_STATUS (by rfl)) ?_
      exact hx3
    clear_value x4
    extract_lets +onlyGivenNames x5
    have hx5 : Keeps M s0 x5 := by
      subst x5
      refine raise_keeps (hm.mono (by rfl)) (hm.at .HST_EVENT (by rfl)) ?_
      exact hx4
    clear_value x5
    extract_lets +onlyGivenNames x6
    have hx6 : Keeps M s0 x6 := by
      subst x6
      apply keeps_ite
      · refine queueReply_keeps (hm.mono (by rfl)) ?_
        exact hx5
      · exact hx5
    clear_value x6
    refine updateSink_keeps (hm.mono (by rfl)) ?_
    refine showPath_keeps (hm.mono (by rfl)) ?_
    exact hx6
  · exact hs

theorem icmpAnswer_keeps {s : State} {j : Nat} (hm : Sub
    0x4400000000000000000000000000000000000000000000000000000000000000000000000000000000000000000000000000000000000080000
    M) (hs : Keeps M s0 s) :
    Keeps M s0 (State.icmpAnswer s j) := by
  unfold State.icmpAnswer
  extract_lets +onlyGivenNames x1
  clear_value x1
  split
  · extract_lets +onlyGivenNames x2
    clear_value x2
    extract_lets +onlyGivenNames x3
    have hx3 : Keeps M s0 x3 := by
      subst x3
      refine setHostIf_keeps (hm.mono (by rfl)) ?_
      exact hs
    clear_value x3
    apply keeps_ite
    · split
      · refine count_keeps (hm.at .HST_RX_DROP_CNT (by rfl)) ?_
        exact hx3
      · extract_lets +onlyGivenNames x4
        have hx4 : Keeps M s0 x4 := by
          subst x4
          refine setHostIf_keeps (hm.mono (by rfl)) ?_
          exact hx3
        clear_value x4
        extract_lets +onlyGivenNames x5
        clear_value x5
        extract_lets +onlyGivenNames x6
        have hx6 : Keeps M s0 x6.2 := by
          subst x6
          refine ipDatagram_keeps (hm.mono (by rfl)) ?_
          exact hx4
        clear_value x6
        refine count_keeps (hm.at .HST_ICMP_CNT (by rfl)) ?_
        refine queueReply_keeps (hm.mono (by rfl)) ?_
        exact hx6
    · exact hx3
  · exact hs

theorem sendAck_keeps {s : State} {f : Nat} {nak : Bool} (hm : Sub 0x100004 M) (hs : Keeps M s0 s) :
    Keeps M s0 (State.sendAck s f nak) := by
  unfold State.sendAck
  extract_lets +onlyGivenNames x1
  clear_value x1
  refine emit_keeps (hm.mono (by rfl)) ?_
  refine setFabPort_keeps (hm.mono (by rfl)) ?_
  exact hs

theorem inOrder_keeps {s : State} {f : Nat} (hm : Sub 0x100004 M) (hs : Keeps M s0 s) :
    Keeps M s0 (State.inOrder s f) := by
  unfold State.inOrder
  extract_lets +onlyGivenNames x1
  clear_value x1
  extract_lets +onlyGivenNames x2
  have hx2 : Keeps M s0 x2 := by
    subst x2
    refine setFabPort_keeps (hm.mono (by rfl)) ?_
    exact hs
  clear_value x2
  apply keeps_ite
  · refine sendAck_keeps (hm.mono (by rfl)) ?_
    exact hx2
  · exact hx2

theorem mgmtReply_keeps {s : State} {r : MgmtReq} {ws : List DWord} (hm : Sub 0x80000 M) (hs : Keeps M s0 s) :
    Keeps M s0 (State.mgmtReply s r ws) := by
  unfold State.mgmtReply
  extract_lets +onlyGivenNames x1
  have hx1 : Keeps M s0 x1.2 := by
    subst x1
    refine udpDatagram_keeps (hm.mono (by rfl)) ?_
    exact hs
  clear_value x1
  refine queueReply_keeps (hm.mono (by rfl)) ?_
  exact hx1

theorem mgmtStatus_keeps {s : State} {r : MgmtReq} {status : Nat} (hm : Sub 0x80000 M) (hs : Keeps M s0 s) :
    Keeps M s0 (State.mgmtStatus s r status) := by
  unfold State.mgmtStatus
  refine mgmtReply_keeps (hm.mono (by rfl)) ?_
  exact hs

theorem setSession_keeps {s : State} {k : Nat} {x : Session} (hm : Sub 0x80000 M) (hs : Keeps M s0 s) :
    Keeps M s0 (State.setSession s k x) := by
  unfold State.setSession
  refine upd_hst_keeps (hm.mono (by rfl)) ?_
  exact hs

theorem inSession_keeps {s : State} {r : MgmtReq} {k : Nat} {x : Session} {run : State → List DWord × State} (hm : Sub
    0x84000000000000000000000000000000000000000000000000000000000000000000000000000000000000000000000000000000080000 M)
    (hk4 : ∀ t, Keeps M s0 t → Keeps M s0 (run t).2) (hs : Keeps M s0 s) :
    Keeps M s0 (State.inSession s r k x run) := by
  unfold State.inSession
  extract_lets +onlyGivenNames x1
  clear_value x1
  split
  · refine count_keeps (hm.at .HST_STALE_CNT (by rfl)) ?_
    refine mgmtStatus_keeps (hm.mono (by rfl)) ?_
    refine setSession_keeps (hm.mono (by rfl)) ?_
    exact hs
  · refine mgmtReply_keeps (hm.mono (by rfl)) ?_
    refine setSession_keeps (hm.mono (by rfl)) ?_
    exact hs
  · extract_lets +onlyGivenNames x2
    have hx2 : Keeps M s0 x2.2 := by
      subst x2
      apply hk4
      refine setSession_keeps (hm.mono (by rfl)) ?_
      exact hs
    clear_value x2
    split
    · exact hx2
    · extract_lets +onlyGivenNames x3
      have hx3 : Keeps M s0 x3 := by
        subst x3
        refine mgmtReply_keeps (hm.mono (by rfl)) ?_
        refine setSession_keeps (hm.mono (by rfl)) ?_
        exact hx2
      clear_value x3
      apply keeps_ite
      · refine count_keeps (hm.at .HST_MGMT_REQ_CNT (by rfl)) ?_
        exact hx3
      · exact hx3

theorem linkevRx_keeps {s : State} {f : Nat} {ws : List DWord} (hm : Sub
    0x18400000280A500100000000000038002000000000000000000000000000000000000000000000000056280080000000404060200000000000000000000000000061C4280 M) (hs : Keeps M s0 s) :
    Keeps M s0 (State.linkevRx s f ws) := by
  unfold State.linkevRx
  extract_lets +onlyGivenNames x1
  clear_value x1
  extract_lets +onlyGivenNames x2
  have hx2 : Keeps M s0 x2.1 := by
    subst x2
    refine floodIn_keeps (hm.mono (by rfl)) ?_
    exact hs
  clear_value x2
  apply keeps_ite
  · refine applyLinkev_keeps (hm.mono (by rfl)) ?_
    exact hx2
  · exact hx2

theorem lstateRx_keeps {s : State} {f : Nat} {addr : FabAddr} {port : Nat} (hm : Sub
    0x18400000281A500100000000000038002000000000000000000000000000000000000000000000000056280080000000404060200000000000000000000000000061C4280 M) (hs : Keeps M s0 s) :
    Keeps M s0 (State.lstateRx s f addr port) := by
  unfold State.lstateRx
  apply keeps_ite
  · extract_lets +onlyGivenNames x1
    have hx1 : Keeps M s0 x1 := by
      subst x1
      refine put_keeps (hm.at .FAB_PSTAT (by rfl)) ?_
      refine put_keeps (hm.at .FAB_PSTAT (by rfl)) ?_
      exact hs
    clear_value x1
    apply keeps_ite
    · extract_lets +onlyGivenNames x2
      clear_value x2
      apply keeps_ite
      · refine fabPortUp_keeps (hm.mono (by rfl)) ?_
        exact hx1
      · refine setFabPort_keeps (hm.mono (by rfl)) ?_
        exact hx1
    · exact hx1
  · exact hs

theorem mapRx_keeps {s : State} {f : Nat} {ws : List DWord} (hm : Sub
    0x18400001280A500100000000000038002000000000000000000000000000000000000000000000000056280080000000404060200000000000000000000000000061C4280 M) (hs : Keeps M s0 s) :
    Keeps M s0 (State.mapRx s f ws) := by
  unfold State.mapRx
  extract_lets +onlyGivenNames x1
  clear_value x1
  extract_lets +onlyGivenNames x2
  have hx2 : Keeps M s0 x2.1 := by
    subst x2
    refine floodIn_keeps (hm.mono (by rfl)) ?_
    exact hs
  clear_value x2
  apply keeps_ite
  · extract_lets +onlyGivenNames x3
    have hx3 : Keeps M s0 x3 := by
      subst x3
      exact hx2
    clear_value x3
    extract_lets +onlyGivenNames x4
    clear_value x4
    extract_lets +onlyGivenNames x5
    clear_value x5
    extract_lets +onlyGivenNames x6
    clear_value x6
    extract_lets +onlyGivenNames x7
    clear_value x7
    extract_lets +onlyGivenNames x8
    have hx8 : Keeps M s0 x8 := by
      subst x8
      refine upd_fab_keeps (hm.mono (by rfl)) ?_
      exact hx3
    clear_value x8
    apply keeps_ite
    · refine discDone_keeps (hm.mono (by rfl)) ?_
      refine mapChanged_keeps (hm.mono (by rfl)) ?_
      exact hx8
    · exact hx8
  · exact hx2

theorem mqPop_keeps {s : State} (hm : Sub 0x80000 M) (hs : Keeps M s0 s) :
    Keeps M s0 (State.mqPop s) := by
  unfold State.mqPop
  refine upd_hst_keeps (hm.mono (by rfl)) ?_
  exact hs

theorem mgmtChallenge_keeps {s : State} (hm : Sub
    0x4000000000000000000000000000000000000000000000000000000000000000000000000000000000000000000000000000000080002 M) (hs
    : Keeps M s0 s) :
    Keeps M s0 (State.mgmtChallenge s) := by
  unfold State.mgmtChallenge
  split
  · exact hs
  · extract_lets +onlyGivenNames x1
    have hx1 : Keeps M s0 x1.2 := by
      subst x1
      refine drawFree_keeps (hm.mono (by rfl)) ?_
      refine mqPop_keeps (hm.mono (by rfl)) ?_
      exact hs
    clear_value x1
    extract_lets +onlyGivenNames x2
    have hx2 : Keeps M s0 x2 := by
      subst x2
      exact hx1
    clear_value x2
    extract_lets +onlyGivenNames x3
    clear_value x3
    extract_lets +onlyGivenNames x4
    clear_value x4
    extract_lets +onlyGivenNames x5
    have hx5 : Keeps M s0 x5 := by
      subst x5
      refine upd_hst_keeps (hm.mono (by rfl)) ?_
      exact hx2
    clear_value x5
    refine count_keeps (hm.at .HST_MGMT_REQ_CNT (by rfl)) ?_
    refine mgmtReply_keeps (hm.mono (by rfl)) ?_
    exact hx5

theorem mgmtClose_keeps {s : State} (hm : Sub
    0x84000800000000000000000000000000000000000000000000000000000000000000000000000000000000000000000000000000080000 M) (hs
    : Keeps M s0 s) :
    Keeps M s0 (State.mgmtClose s) := by
  unfold State.mgmtClose
  split
  · exact hs
  · extract_lets +onlyGivenNames x1
    have hx1 : Keeps M s0 x1 := by
      subst x1
      refine mqPop_keeps (hm.mono (by rfl)) ?_
      exact hs
    clear_value x1
    split
    · refine mgmtStatus_keeps (hm.mono (by rfl)) ?_
      exact hx1
    · apply keeps_ite
      · refine count_keeps (hm.at .HST_MGMT_REQ_CNT (by rfl)) ?_
        refine mgmtReply_keeps (hm.mono (by rfl)) ?_
        refine endSession_keeps (hm.mono (by rfl)) ?_
        exact hx1
      · refine inSession_keeps (hm.mono (by rfl)) ?_ ?_
        · intro t2 h3
          exact h3
        · exact hx1

theorem mgmtMalformed_keeps {s : State} (hm : Sub 0x80000 M) (hs : Keeps M s0 s) :
    Keeps M s0 (State.mgmtMalformed s) := by
  unfold State.mgmtMalformed
  split
  · exact hs
  · apply keeps_ite
    · exact hs
    · apply keeps_ite
      · refine mqPop_keeps (hm.mono (by rfl)) ?_
        exact hs
      · refine mgmtStatus_keeps (hm.mono (by rfl)) ?_
        refine mqPop_keeps (hm.mono (by rfl)) ?_
        exact hs

theorem mgmtOpen_keeps {s : State} (hm : Sub 0x80000 M) (hs : Keeps M s0 s) :
    Keeps M s0 (State.mgmtOpen s) := by
  unfold State.mgmtOpen
  split
  · exact hs
  · extract_lets +onlyGivenNames x1
    have hx1 : Keeps M s0 x1 := by
      subst x1
      refine mqPop_keeps (hm.mono (by rfl)) ?_
      exact hs
    clear_value x1
    refine upd_hst_keeps (hm.mono (by rfl)) ?_
    exact hx1

theorem mgmtOpenVerified_keeps {s : State} {sigOk : Bool} (hm : Sub
    0x18400000000000000000000000024000A00000000000000000000000000000000000000000000000000000000000000000000000000000000000000000000000000084000 M) (hs : Keeps M s0 s) :
    Keeps M s0 (State.mgmtOpenVerified s sigOk) := by
  unfold State.mgmtOpenVerified
  split
  · exact hs
  · extract_lets +onlyGivenNames x1
    clear_value x1
    extract_lets +onlyGivenNames x2
    clear_value x2
    extract_lets +onlyGivenNames x3
    have hx3 : Keeps M s0 x3 := by
      subst x3
      refine upd_hst_keeps (hm.mono (by rfl)) ?_
      exact hs
    clear_value x3
    apply keeps_ite
    · refine raise_keeps (hm.mono (by rfl)) (hm.at .HST_EVENT (by rfl)) ?_
      refine count_keeps (hm.at .HST_TOKEN_FAIL_CNT (by rfl)) ?_
      refine mgmtStatus_keeps (hm.mono (by rfl)) ?_
      exact hx3
    · split
      · refine mgmtStatus_keeps (hm.mono (by rfl)) ?_
        exact hx3
      · extract_lets +onlyGivenNames x4
        clear_value x4
        extract_lets +onlyGivenNames x5
        clear_value x5
        extract_lets +onlyGivenNames x6
        have hx6 : Keeps M s0 x6 := by
          subst x6
          refine upd_hst_keeps (hm.mono (by rfl)) ?_
          exact hx3
        clear_value x6
        extract_lets +onlyGivenNames x7
        clear_value x7
        extract_lets +onlyGivenNames x8
        have hx8 : Keeps M s0 x8 := by
          subst x8
          refine setSession_keeps (hm.mono (by rfl)) ?_
          exact hx6
        clear_value x8
        refine count_keeps (hm.at .HST_MGMT_REQ_CNT (by rfl)) ?_
        refine mgmtReply_keeps (hm.mono (by rfl)) ?_
        refine showSessions_keeps (hm.mono (by rfl)) ?_
        exact hx8

/-- Taking a packet from a port. -/
theorem takePacket_keeps {s t : State} {f : Nat} {k : Packet → Bool} {ws : List DWord} (hm : Sub 0x100004 M)
    (h : s.takePacket f k = some (ws, t)) (hs : Keeps M s0 s) : Keeps M s0 t := by
  unfold State.takePacket at h
  dsimp only at h
  split at h
  · cases h
  · cases h
    exact giveCredit_keeps (hm.mono (by rfl)) (setFabPort_keeps (hm.mono (by rfl)) hs)

theorem packetError_keeps {s : State} {f : Nat} (hm : Sub
    0x8000000000000000000000000000000000000000000000000000000000000000000000000000000000000000000000000000000000000000000000000100004 M) (hs : Keeps M s0 s) :
    Keeps M s0 (State.packetError s f) := by
  unfold State.packetError
  extract_lets +onlyGivenNames x1
  clear_value x1
  apply keeps_ite
  · exact hs
  · refine sendAck_keeps (hm.mono (by rfl)) ?_
    refine count_keeps (hm.at .FAB_CRC_CNT (by rfl)) ?_
    refine setFabPort_keeps (hm.mono (by rfl)) ?_
    exact hs

theorem routePacket_keeps {s : State} {f : Nat} {p : Packet} (hm : Sub
    0x184000001C0010000000000000000000000000000000000000000000000000000000000000000000000000000000000000000000000000000000000000000000000104004 M) (hs : Keeps M s0 s) :
    Keeps M s0 (State.routePacket s f p) := by
  unfold State.routePacket
  apply keeps_ite
  · refine giveCredit_keeps (hm.mono (by rfl)) ?_
    refine count_keeps (hm.at .FAB_BADPKT_CNT (by rfl)) ?_
    exact hs
  · apply keeps_ite
    · refine giveCredit_keeps (hm.mono (by rfl)) ?_
      exact hs
    · apply keeps_ite
      · extract_lets +onlyGivenNames x1
        clear_value x1
        refine setFabPort_keeps (hm.mono (by rfl)) ?_
        exact hs
      · extract_lets +onlyGivenNames x2
        clear_value x2
        extract_lets +onlyGivenNames x3
        have hx3 : Keeps M s0 x3 := by
          subst x3
          apply keeps_ite
          · refine count_keeps (hm.at .FAB_RELAY_CNT (by rfl)) ?_
            exact hs
          · exact hs
        clear_value x3
        refine giveCredit_keeps (hm.mono (by rfl)) ?_
        refine fabSend_keeps (hm.mono (by rfl)) ?_
        exact hx3

theorem packetRx_keeps {s : State} {f : Nat} {p : Packet} {lseq : BitVec 13} {crc : Word} (hm : Sub
    0x184000001C8010000000000000000000000000000000000000000000000000000000000000000000000000000000000000000000000000000000000000000000000104004 M) (hs : Keeps M s0 s) :
    Keeps M s0 (State.packetRx s f p lseq crc) := by
  unfold State.packetRx
  apply keeps_ite
  · apply keeps_ite
    · refine routePacket_keeps (hm.mono (by rfl)) ?_
      refine inOrder_keeps (hm.mono (by rfl)) ?_
      exact hs
    · refine packetError_keeps (hm.mono (by rfl)) ?_
      exact hs
  · exact hs

theorem packetStart_keeps {s : State} {f : Nat} (hm : Sub
    0x1000000000000000000000000000000000000000000000000000000000000000000000000000000000000000000000000000000000000000000000000100004 M) (hs : Keeps M s0 s) :
    Keeps M s0 (State.packetStart s f) := by
  unfold State.packetStart
  extract_lets +onlyGivenNames x1
  clear_value x1
  apply keeps_ite
  · split
    · exact hs
    · split
      · exact hs
      · extract_lets +onlyGivenNames x2
        clear_value x2
        extract_lets +onlyGivenNames x3
        have hx3 : Keeps M s0 x3 := by
          subst x3
          refine setFabPort_keeps (hm.mono (by rfl)) ?_
          exact hs
        clear_value x3
        refine emit_keeps (hm.mono (by rfl)) ?_
        refine showReplay_keeps (hm.mono (by rfl)) ?_
        exact hx3
  · exact hs

theorem reportRx_keeps {s : State} {ws : List DWord} (hm : Sub
    0x18400001680BD00100000000000038002000000000000000000000000000000000000000000000000056280080000000404060200000000000000000000000000061C4280 M) (hs : Keeps M s0 s) :
    Keeps M s0 (State.reportRx s ws) := by
  unfold State.reportRx
  split
  · apply keeps_ite
    · refine fabQueue_keeps (hm.mono (by rfl)) ?_
      exact hs
    · exact hs
  · extract_lets +onlyGivenNames x1
    clear_value x1
    extract_lets +onlyGivenNames x2
    clear_value x2
    refine rootTry_keeps (hm.mono (by rfl)) ?_
    refine holdReport_keeps (hm.mono (by rfl)) ?_
    exact hs

theorem syncRx_keeps {s : State} {f : Nat} {seq : BitVec 6} {t : BitVec 48} (hm : Sub 0x100004 M) (hs : Keeps M s0 s) :
    Keeps M s0 (State.syncRx s f seq t) := by
  unfold State.syncRx
  apply keeps_ite
  · extract_lets +onlyGivenNames x1
    clear_value x1
    extract_lets +onlyGivenNames x2
    have hx2 : Keeps M s0 x2 := by
      subst x2
      refine setFabPort_keeps (hm.mono (by rfl)) ?_
      exact hs
    clear_value x2
    refine emit_keeps (hm.mono (by rfl)) ?_
    exact hx2
  · exact hs

theorem syncTimer_keeps {s : State} (hm : Sub 0x100004 M) (hs : Keeps M s0 s) :
    Keeps M s0 (State.syncTimer s) := by
  unfold State.syncTimer
  extract_lets +onlyGivenNames x1
  clear_value x1
  extract_lets +onlyGivenNames x2
  clear_value x2
  extract_lets +onlyGivenNames x3
  have hx3 : Keeps M s0 x3 := by
    subst x3
    refine upd_fab_keeps (hm.mono (by rfl)) ?_
    exact hs
  clear_value x3
  apply keeps_forBelow
  · intro x4 t5 h6
    apply keeps_ite
    · refine emit_keeps (hm.mono (by rfl)) ?_
      exact h6
    · exact h6
  · exact hx3

theorem wingDone31_keeps {s : State} (hm : Sub
    0x18400000000000000000000000000000000000420400000000000000000000000000000000000000000000000000000100000000000000000000000000000003024004000 M) (hs : Keeps M s0 s) :
    Keeps M s0 (State.wingDone31 s) := by
  unfold State.wingDone31
  split
  · exact hs
  · extract_lets +onlyGivenNames x1
    clear_value x1
    extract_lets +onlyGivenNames x2
    clear_value x2
    extract_lets +onlyGivenNames x3
    clear_value x3
    extract_lets +onlyGivenNames x4
    clear_value x4
    extract_lets +onlyGivenNames x5
    have hx5 : Keeps M s0 x5 := by
      subst x5
      refine upd_sti_keeps (hm.mono (by rfl)) ?_
      exact hs
    clear_value x5
    refine wingGoes_keeps (hm.mono (by rfl)) ?_
    exact hx5

theorem wingPacket_keeps {s : State} {ws : List DWord} (hm : Sub
    0x18400000000000000000000000000000000000420400000000000000000000000000000000000000000000000000000100000000000000000000000000000003024004000 M) (hs : Keeps M s0 s) :
    Keeps M s0 (State.wingPacket s ws) := by
  unfold State.wingPacket
  apply keeps_ite
  · extract_lets +onlyGivenNames x1
    clear_value x1
    extract_lets +onlyGivenNames x2
    clear_value x2
    extract_lets +onlyGivenNames x3
    clear_value x3
    extract_lets +onlyGivenNames x4
    clear_value x4
    extract_lets +onlyGivenNames x5
    have hx5 : Keeps M s0 x5 := by
      subst x5
      apply keeps_ite
      · refine wingDone31_keeps (hm.mono (by rfl)) ?_
        exact hs
      · exact hs
    clear_value x5
    extract_lets +onlyGivenNames x6
    clear_value x6
    extract_lets +onlyGivenNames x7
    have hx7 : Keeps M s0 x7 := by
      subst x7
      refine upd_sti_keeps (hm.mono (by rfl)) ?_
      exact hx5
    clear_value x7
    apply keeps_ite
    · refine wingDone31_keeps (hm.mono (by rfl)) ?_
      exact hx7
    · exact hx7
  · exact hs

end Sys2Proof.Machine
end

