-- ==== Sys2Proof/Laws/KeepsMode.lean ====
section
/-! SUPPORT. Laws/KeepsMode.lean: the same for marking, jobs, cameras and mode changes, said once as Keeps (Safety.lean). -/

namespace Sys2Proof.Machine

variable {s0 : State} {M : Nat}

theorem startInstant_keeps {s : State} {p : Nat} {n : LineNo} {eoe : Nat} (hm : Sub 0x2 M) (hs : Keeps M s0 s) :
    Keeps M s0 (State.startInstant s p n eoe).2 := by
  unfold State.startInstant
  split
  · exact hs
  · refine drawFree_keeps (hm.mono (by rfl)) ?_
    exact hs

theorem setCamHead_keeps {s : State} {p : Nat} {j : Nat} {x : CamHead} (hm : Sub 0x400000 M) (hs : Keeps M s0 s) :
    Keeps M s0 (State.setCamHead s p j x) := by
  unfold State.setCamHead
  extract_lets +onlyGivenNames x1
  clear_value x1
  refine setCamPort_keeps (hm.mono (by rfl)) ?_
  exact hs

theorem putLastLine_keeps {s : State} {p : Nat} {j : Nat} {n : LineNo} (hm : Sub 0x3C00000000000000000000 M) (hs : Keeps M
    s0 s) :
    Keeps M s0 (State.putLastLine s p j n) := by
  unfold State.putLastLine
  apply keeps_ite
  · refine setPair_keeps (hm.at .CAM_LAST_LINE0_L (by rfl)) (hm.at .CAM_LAST_LINE0_H (by rfl)) ?_
    exact hs
  · refine setPair_keeps (hm.at .CAM_LAST_LINE1_L (by rfl)) (hm.at .CAM_LAST_LINE1_H (by rfl)) ?_
    exact hs

theorem pruneLaunches_keeps {s : State} {p : Nat} (hm : Sub 0x400000 M) (hs : Keeps M s0 s) :
    Keeps M s0 (State.pruneLaunches s p) := by
  unfold State.pruneLaunches
  extract_lets +onlyGivenNames x1
  clear_value x1
  extract_lets +onlyGivenNames x2
  subst x2
  refine setCamPort_keeps (hm.mono (by rfl)) ?_
  exact hs

theorem pushLine_keeps {s : State} {p : Nat} {j : Nat} {l : RawLine} (hm : Sub
    0x18400000080010000000000000003800200000000000000000000000000000000000000000000000000000000000000000000000000000000103C00000000000000784200 M) (hs : Keeps M s0 s) :
    Keeps M s0 (State.pushLine s p j l) := by
  unfold State.pushLine
  extract_lets +onlyGivenNames x1
  have hx1 : Keeps M s0 x1 := by
    subst x1
    refine putLastLine_keeps (hm.mono (by rfl)) ?_
    exact hs
  clear_value x1
  extract_lets +onlyGivenNames x2
  clear_value x2
  extract_lets +onlyGivenNames x3
  have hx3 : Keeps M s0 x3 := by
    subst x3
    refine setCamHead_keeps (hm.mono (by rfl)) ?_
    exact hx1
  clear_value x3
  extract_lets +onlyGivenNames x4
  have hx4 : Keeps M s0 x4 := by
    subst x4
    refine pruneLaunches_keeps (hm.mono (by rfl)) ?_
    exact hx3
  clear_value x4
  extract_lets +onlyGivenNames x5
  clear_value x5
  apply keeps_ite
  · refine gapClean_keeps (hm.mono (by rfl)) ?_
    refine setCamPort_keeps (hm.mono (by rfl)) ?_
    exact hx4
  · refine gapLine_keeps (hm.mono (by rfl)) ?_
    refine count_keeps (hm.at .CAM_FIFO_OVF_CNT (by rfl)) ?_
    exact hx4

theorem echo_keeps {s : State} {p : Nat} {j : Nat} {sid : Nat} {line : LineNo} (hm : Sub
    0x18400000000000000000000000000000000000000000000000000000000000000000000000000000000000000000000000000000000200000200100100000000000C04002 M) (hs : Keeps M s0 s) :
    Keeps M s0 (State.echo s p j sid line) := by
  unfold State.echo
  extract_lets +onlyGivenNames x1
  have hx1 : Keeps M s0 x1 := by
    subst x1
    apply keeps_ite
    · refine put_keeps (hm.at .CAM_SID (by rfl)) ?_
      exact hs
    · refine put_keeps (hm.at .CAM_SID (by rfl)) ?_
      exact hs
  clear_value x1
  extract_lets +onlyGivenNames x2
  clear_value x2
  extract_lets +onlyGivenNames x3
  clear_value x3
  extract_lets +onlyGivenNames x4
  have hx4 : Keeps M s0 x4 := by
    subst x4
    refine setCorPort_keeps (hm.mono (by rfl)) ?_
    exact hx1
  clear_value x4
  extract_lets +onlyGivenNames x5
  clear_value x5
  split
  · exact hx4
  · extract_lets +onlyGivenNames x6
    clear_value x6
    extract_lets +onlyGivenNames x7
    clear_value x7
    extract_lets +onlyGivenNames x8
    have hx8 : Keeps M s0 x8 := by
      subst x8
      apply keeps_ite
      · refine setCamHead_keeps (hm.mono (by rfl)) ?_
        exact hx4
      · exact hx4
    clear_value x8
    extract_lets +onlyGivenNames x9
    clear_value x9
    apply keeps_ite
    · refine expTimeout_keeps (hm.mono (by rfl)) ?_
      refine raise_keeps (hm.mono (by rfl)) (hm.at .CAM_EVENT (by rfl)) ?_
      refine count_keeps (hm.at .CAM_SET_TMO_CNT (by rfl)) ?_
      refine setCamPort_keeps (hm.mono (by rfl)) ?_
      exact hx8
    · exact hx8

theorem prehDrop_keeps {s : State} {p : Nat} (hm : Sub
    0x18400000000000000000000000000000000000000000000000000000000000000000000000000000000000000000000000000000000200D00000000000000000000C04004 M) (hs : Keeps M s0 s) :
    Keeps M s0 (State.prehDrop s p) := by
  unfold State.prehDrop
  apply keeps_forBelow
  · intro x1 t2 h3
    extract_lets +onlyGivenNames x4
    clear_value x4
    extract_lets +onlyGivenNames x5
    have hx5 : Keeps M s0 x5 := by
      subst x5
      apply keeps_ite
      · refine ffAbandon_keeps (hm.mono (by rfl)) ?_
        exact h3
      · exact h3
    clear_value x5
    apply keeps_ite
    · refine ffDrop_keeps (hm.mono (by rfl)) ?_
      exact hx5
    · exact hx5
  · exact hs

theorem prehEnd_keeps {s : State} {p : Nat} (hm : Sub
    0x18400000000000000000000000000000000000000000000000000000000000000000000000000000000000000000000000000000000200D08000000180000000000C04004 M) (hs : Keeps M s0 s) :
    Keeps M s0 (State.prehEnd s p) := by
  unfold State.prehEnd
  apply keeps_ite
  · extract_lets +onlyGivenNames x1
    clear_value x1
    extract_lets +onlyGivenNames x2
    have hx2 : Keeps M s0 x2 := by
      subst x2
      refine put_keeps (hm.at .CAM_STATUS (by rfl)) ?_
      refine prehDrop_keeps (hm.mono (by rfl)) ?_
      exact hs
    clear_value x2
    extract_lets +onlyGivenNames x3
    clear_value x3
    extract_lets +onlyGivenNames x4
    have hx4 : Keeps M s0 x4 := by
      subst x4
      refine setCamPort_keeps (hm.mono (by rfl)) ?_
      exact hx2
    clear_value x4
    apply keeps_ite
    · exact hx4
    · refine raise_keeps (hm.mono (by rfl)) (hm.at .CAM_EVENT (by rfl)) ?_
      refine count_keeps (hm.at .CAM_PREH_FAIL_CNT (by rfl)) ?_
      exact hx4
  · exact hs

theorem camRunLost_keeps {s : State} {p : Nat} (hm : Sub
    0x20000018400000080010000000000000003800200000420400000000000007C000004000000000000000000038D56683FFFFD502780003FA0E3FD000000E0180000023067FA4A94 M) (hs : Keeps M s0 s) :
    Keeps M s0 (State.camRunLost s p) := by
  unfold State.camRunLost
  apply keeps_forBelow
  · intro x1 t2 h3
    extract_lets +onlyGivenNames x4
    clear_value x4
    extract_lets +onlyGivenNames x5
    clear_value x5
    extract_lets +onlyGivenNames x6
    have hx6 : Keeps M s0 x6 := by
      subst x6
      refine setCamHead_keeps (hm.mono (by rfl)) ?_
      exact h3
    clear_value x6
    extract_lets +onlyGivenNames x7
    have hx7 : Keeps M s0 x7 := by
      subst x7
      refine gapBoundary_keeps (hm.mono (by rfl)) ?_
      refine corFlush_keeps (hm.mono (by rfl)) ?_
      refine uncertainHead_keeps (hm.mono (by rfl)) ?_
      exact hx6
    clear_value x7
    refine arcEndRow_keeps (hm.mono (by rfl)) ?_
    refine ffAbandon_keeps (hm.mono (by rfl)) ?_
    refine segStop_keeps (hm.mono (by rfl)) ?_
    refine awfDiscard_keeps (hm.mono (by rfl)) ?_
    exact hx7
  · exact hs

theorem putCamSt_keeps {s : State} {p : Nat} {st : Nat} (hm : Sub 0x80000000000000000 M) (hs : Keeps M s0 s) :
    Keeps M s0 (State.putCamSt s p st) := by
  unfold State.putCamSt
  refine put_keeps (hm.at .CAM_STATUS (by rfl)) ?_
  exact hs

theorem portFault_keeps {s : State} {p : Nat} {c : FaultClass} {detail : Nat} {ev : Fld} (hm : Sub
    0x20000018400000080010000000000000003800200000420400000000000007C000004000000000000000000038D56683FFFFD502780003FA0E3FD080000E0180000023067FA4A94 M) (hr : M.testBit ev.reg.part = true) (hs : Keeps M s0 s) :
    Keeps M s0 (State.portFault s p c detail ev) := by
  unfold State.portFault
  extract_lets +onlyGivenNames x1 x2 x3
  clear_value x1 x2
  apply keeps_ite hs
  have h3 : Keeps M s0 x3 := by
    subst x3
    exact prehEnd_keeps (hm.mono (by rfl)) (keeps_ite (camRunLost_keeps (hm.mono (by rfl)) hs) hs)
  clear_value x3
  dsimp only
  refine fault_keeps (hm.mono (by rfl)) ?_
  refine bookCross_keeps (hm.mono (by rfl)) ?_
  refine raise_keeps (hm.mono (by rfl)) hr ?_
  refine raise_keeps (hm.mono (by rfl)) (hm.at .CAM_EVENT (by rfl)) ?_
  refine put_keeps (hm.at .CAM_STATUS (by rfl)) ?_
  refine putCamSt_keeps (hm.mono (by rfl)) ?_
  exact setCamPort_keeps (hm.mono (by rfl)) h3

theorem malformed_keeps {s : State} {p : Nat} (hm : Sub
    0x20000018400000080010000000000000003800200000420400000000000007C000004000000000000000000038D56683FFFFD502780003FA0E3FD0C0000E0180000023067FA4A94 M) (hs : Keeps M s0 s) :
    Keeps M s0 (State.malformed s p) := by
  unfold State.malformed
  extract_lets +onlyGivenNames x1
  clear_value x1
  extract_lets +onlyGivenNames x2
  have hx2 : Keeps M s0 x2 := by
    subst x2
    refine put_keeps (hm.at .CAM_MALF_RUN (by rfl)) ?_
    exact hs
  clear_value x2
  apply keeps_ite
  · refine portFault_keeps (hm.mono (by rfl)) (hm.at .CAM_EVENT (by rfl)) ?_
    exact hx2
  · exact hx2

theorem acceptLine_keeps {s : State} {p : Nat} {j : Nat} {mrow : Nat} {sid : Nat} {line : LineNo} {hdr : DWord} {data :
    List DWord} {bits : Nat} (hm : Sub
    0x20000018400000080010000000000000003800200000420400000000000007C000004000000000000000000038D56683FFFFD502780003FA0E3FD0C70FDE0180000023067FA4A96 M) (hs : Keeps M s0 s) :
    Keeps M s0 (State.acceptLine s p j mrow sid line hdr data bits) := by
  unfold State.acceptLine
  extract_lets +onlyGivenNames x1
  clear_value x1
  extract_lets +onlyGivenNames x2
  clear_value x2
  extract_lets +onlyGivenNames x3
  clear_value x3
  extract_lets +onlyGivenNames x4
  clear_value x4
  extract_lets +onlyGivenNames x5
  clear_value x5
  extract_lets +onlyGivenNames x6
  clear_value x6
  extract_lets +onlyGivenNames x7
  clear_value x7
  extract_lets +onlyGivenNames x8
  clear_value x8
  extract_lets +onlyGivenNames x9
  have hx9 : Keeps M s0 x9.2 := by
    subst x9
    refine startInstant_keeps (hm.mono (by rfl)) ?_
    exact hs
  clear_value x9
  extract_lets +onlyGivenNames x10
  clear_value x10
  extract_lets +onlyGivenNames x11
  clear_value x11
  extract_lets +onlyGivenNames x12
  have hx12 : Keeps M s0 x12 := by
    subst x12
    apply keeps_ite
    · exact hx9
    · refine count_keeps (hm.at .CAM_SID_UNK_CNT (by rfl)) ?_
      exact hx9
  clear_value x12
  extract_lets +onlyGivenNames x13
  clear_value x13
  extract_lets +onlyGivenNames x14
  have hx14 : Keeps M s0 x14 := by
    subst x14
    apply keeps_ite
    · refine setCamHead_keeps (hm.mono (by rfl)) ?_
      exact hx12
    · exact hx12
  clear_value x14
  extract_lets +onlyGivenNames x15
  have hx15 : Keeps M s0 x15 := by
    subst x15
    refine pushLine_keeps (hm.mono (by rfl)) ?_
    exact hx14
  clear_value x15
  extract_lets +onlyGivenNames x16
  have hx16 : Keeps M s0 x16 := by
    subst x16
    refine echo_keeps (hm.mono (by rfl)) ?_
    exact hx15
  clear_value x16
  apply keeps_ite
  · refine malformed_keeps (hm.mono (by rfl)) ?_
    refine count_keeps (hm.at .CAM_SHORT_CNT (by rfl)) ?_
    exact hx16
  · apply keeps_ite
    · refine malformed_keeps (hm.mono (by rfl)) ?_
      refine count_keeps (hm.at .CAM_LONG_CNT (by rfl)) ?_
      exact hx16
    · refine put_keeps (hm.at .CAM_MALF_RUN (by rfl)) ?_
      exact hx16

theorem mrkOff_keeps {s : State} {m : Nat} (hm : Sub
    0x400000000000000000000000000000000000000000000000000000000000000100000004 M) (hs : Keeps M s0 s) :
    Keeps M s0 (State.mrkOff s m) := by
  unfold State.mrkOff
  extract_lets +onlyGivenNames x1
  have hx1 : Keeps M s0 x1 := by
    subst x1
    refine mrkQuiet_keeps (hm.mono (by rfl)) ?_
    exact hs
  clear_value x1
  refine put_keeps (hm.at .MRK_PSTAT (by rfl)) ?_
  refine put_keeps (hm.at .MRK_PSTAT (by rfl)) ?_
  exact hx1

theorem setMarks_keeps {s : State} {ms : List Mark} (hm : Sub
    0x400800000000000000000000000000000000000000000000000000000000000100000000 M) (hs : Keeps M s0 s) :
    Keeps M s0 (State.setMarks s ms) := by
  unfold State.setMarks
  extract_lets +onlyGivenNames x1
  clear_value x1
  extract_lets +onlyGivenNames x2
  have hx2 : Keeps M s0 x2 := by
    subst x2
    refine upd_mrk_keeps (hm.mono (by rfl)) ?_
    exact hs
  clear_value x2
  extract_lets +onlyGivenNames x3
  have hx3 : Keeps M s0 x3 := by
    subst x3
    refine put_keeps (hm.at .MRK_SCHED (by rfl)) ?_
    exact hx2
  clear_value x3
  extract_lets +onlyGivenNames x4
  have hx4 : Keeps M s0 x4 := by
    subst x4
    refine put_keeps (hm.at .MRK_SCHED (by rfl)) ?_
    exact hx3
  clear_value x4
  apply keeps_forBelow
  · intro x5 t6 h7
    refine put_keeps (hm.at .MRK_PSTAT (by rfl)) ?_
    exact h7
  · exact hx4

theorem mrkDark_keeps {s : State} (hm : Sub 0x400800000000000000000000000000000000000000000000000000000000000100000004 M)
    (hs : Keeps M s0 s) :
    Keeps M s0 (State.mrkDark s) := by
  unfold State.mrkDark
  apply keeps_forBelow
  · intro x1 t2 h3
    refine mrkOff_keeps (hm.mono (by rfl)) ?_
    exact h3
  · refine setMarks_keeps (hm.mono (by rfl)) ?_
    exact hs

theorem shutdown_keeps {s : State} {unit : Nat} {detail : Nat} (hm : Sub
    0x7FFFFFFFFFFFFFFFFFFFFFFFFFFFFFFFFFFFFFFFFFFFFFFFFFFFFFFFFFFFFFFFFFFFFFFFFFFFFFFFFFFFFFFFFFFFFFFFFFFFFFFFFFFFFFFFFFFFFFFFFFFFFFFFFFFFFFFFCFFFFFFFFAFC M) (hs : Keeps M s0 s) :
    Keeps M s0 (State.shutdown s unit detail) := by
  unfold State.shutdown
  extract_lets +onlyGivenNames x1
  have hx1 : Keeps M s0 x1 := by
    subst x1
    refine freeze_keeps (hm.mono (by rfl)) ?_
    refine mrkDark_keeps (hm.mono (by rfl)) ?_
    exact hs
  clear_value x1
  extract_lets +onlyGivenNames x2
  subst x2
  extract_lets +onlyGivenNames x3
  have hx3 : Keeps M s0 x3 := by
    subst x3
    refine upd_pwr_keeps (hm.mono (by rfl)) (.inr rfl) (.inr rfl) (.inr rfl) (.inr rfl) ?_
    exact hx1
  clear_value x3
  extract_lets +onlyGivenNames x4
  have hx4 : Keeps M s0 x4 := by
    subst x4
    refine enterDark_keeps (hm.mono (by rfl)) ?_
    exact hx3
  clear_value x4
  extract_lets +onlyGivenNames x5
  have hx5 : Keeps M s0 x5 := by
    subst x5
    refine count_keeps (hm.at .THM_SHUT_CNT (by rfl)) ?_
    refine fault_keeps (hm.mono (by rfl)) ?_
    exact hx4
  clear_value x5
  refine urgentWrite_keeps (hm.mono (by rfl)) ?_
  exact hx5

theorem shutdownCheck_keeps {s : State} (hm : Sub
    0x7FFFFFFFFFFFFFFFFFFFFFFFFFFFFFFFFFFFFFFFFFFFFFFFFFFFFFFFFFFFFFFFFFFFFFFFFFFFFFFFFFFFFFFFFFFFFFFFFFFFFFFFFFFFFFFFFFFFFFFFFFFFFFFFFFFFFFFFCFFFFFFFFAFC M) (hs : Keeps M s0 s) :
    Keeps M s0 (State.shutdownCheck s) := by
  unfold State.shutdownCheck
  apply keeps_ite
  · exact hs
  · split
    · exact hs
    · refine shutdown_keeps (hm.mono (by rfl)) ?_
      exact hs

theorem jobData_keeps {s : State} {i : Nat} {data : Option (List Byte)} (hm : Sub 0x10040000000 M) (hs : Keeps M s0 s) :
    Keeps M s0 (State.jobData s i data) := by
  unfold State.jobData
  split
  · exact hs
  · split
    · exact hs
    · extract_lets +onlyGivenNames x1
      clear_value x1
      refine upd_arc_keeps (hm.mono (by rfl)) (.inl (hm.bit (by rfl))) ?_
      exact hs

theorem refuse_keeps {s : State} (hm : Sub
    0x18400000000000000000000000000000000000000000000000000000000000000000000000000000000000000000000000000000000000000000000001004000000004000 M) (hs : Keeps M s0 s) :
    Keeps M s0 (State.refuse s) := by
  unfold State.refuse
  refine raise_keeps (hm.mono (by rfl)) (hm.at .GLB_EVENT (by rfl)) ?_
  refine count_keeps (hm.at .GLB_REFUSE_CNT (by rfl)) ?_
  exact hs

theorem modeOverrun_keeps {s : State} {r : ModeReq} (hm : Sub
    0x18420004000000000000000000000000000000000000000000000000000000000000000000000000000000000000000000000000000000000000000001004000000004000 M) (hs : Keeps M s0 s) :
    Keeps M s0 (State.modeOverrun s r) := by
  unfold State.modeOverrun
  split
  · refine overrun_keeps (hm.mono (by rfl)) ?_
    exact hs
  · refine overrun_keeps (hm.mono (by rfl)) ?_
    exact hs
  · refine overrun_keeps (hm.mono (by rfl)) ?_
    exact hs
  · refine refuse_keeps (hm.mono (by rfl)) ?_
    exact hs

theorem startTrans_keeps {s : State} {t : Transition} (hm : Sub 0x2000200001000 M) (hs : Keeps M s0 s) :
    Keeps M s0 (State.startTrans s t) := by
  unfold State.startTrans
  refine put_keeps (hm.at .GLB_STATUS (by rfl)) ?_
  refine upd_glb_keeps (hm.mono (by rfl)) (.inl (hm.bit (by rfl))) (.inr rfl) (.inr rfl) ?_
  exact hs

theorem holdEntry_keeps {s : State} {byReq : Bool} (hm : Sub 0x2000200001000 M) (hs : Keeps M s0 s) :
    Keeps M s0 (State.holdEntry s byReq) := by
  unfold State.holdEntry
  refine startTrans_keeps (hm.mono (by rfl)) ?_
  exact hs

theorem endTrans_keeps {s : State} (hm : Sub 0x2000200001000 M) (hs : Keeps M s0 s) :
    Keeps M s0 (State.endTrans s) := by
  unfold State.endTrans
  refine put_keeps (hm.at .GLB_STATUS (by rfl)) ?_
  refine upd_glb_keeps (hm.mono (by rfl)) (.inl (hm.bit (by rfl))) (.inr rfl) (.inr rfl) ?_
  exact hs

theorem closePosGap_keeps {s : State} (hm : Sub
    0x18400000080010000000000000003800200000000000000000000000000000000000000000000000000000000000000000000000000000000000000000000000000185200 M) (hs : Keeps M s0 s) :
    Keeps M s0 (State.closePosGap s) := by
  unfold State.closePosGap
  apply keeps_ite
  · exact hs
  · extract_lets +onlyGivenNames x1
    clear_value x1
    extract_lets +onlyGivenNames x2
    clear_value x2
    extract_lets +onlyGivenNames x3
    clear_value x3
    extract_lets +onlyGivenNames x4
    clear_value x4
    extract_lets +onlyGivenNames x5
    subst x5
    extract_lets +onlyGivenNames x6
    have hx6 : Keeps M s0 x6 := by
      subst x6
      refine upd_glb_keeps (hm.mono (by rfl)) (.inr rfl) (.inr rfl) (.inr rfl) ?_
      exact hs
    clear_value x6
    extract_lets +onlyGivenNames x7
    clear_value x7
    extract_lets +onlyGivenNames x8
    clear_value x8
    apply keeps_forBelow
    · intro x9 t10 h11
      apply keeps_ite
      · refine formGap_keeps (hm.mono (by rfl)) ?_
        exact h11
      · exact h11
    · exact hx6

theorem markResult_keeps {s : State} {x : Mark} {reason : Nat} (hm : Sub
    0x18400000080010000000000000003800200000000000000000000000000000003000200000000000000000000000000000000000000000000000000000000000000184200 M) (hs : Keeps M s0 s) :
    Keeps M s0 (State.markResult s x reason) := by
  unfold State.markResult
  extract_lets +onlyGivenNames x1
  have hx1 : Keeps M s0 x1 := by
    subst x1
    refine formRecord_keeps (hm.mono (by rfl)) ?_
    exact hs
  clear_value x1
  apply keeps_ite
  · refine count_keeps (hm.at .MRK_PLACED_CNT (by rfl)) ?_
    exact hx1
  · extract_lets +onlyGivenNames x2
    have hx2 : Keeps M s0 x2 := by
      subst x2
      refine raise_keeps (hm.mono (by rfl)) (hm.at .MRK_EVENT (by rfl)) ?_
      refine count_keeps (hm.at .MRK_NOTPL_CNT (by rfl)) ?_
      exact hx1
    clear_value x2
    apply keeps_ite
    · refine raise_keeps (hm.mono (by rfl)) (hm.at .MRK_EVENT (by rfl)) ?_
      exact hx2
    · exact hx2

theorem shiftData_keeps {s : State} {m : Nat} {nozzles : List Nat} (hm : Sub 0x100000004 M) (hs : Keeps M s0 s) :
    Keeps M s0 (State.shiftData s m nozzles) := by
  unfold State.shiftData
  extract_lets +onlyGivenNames x1
  clear_value x1
  apply keeps_ite
  · exact hs
  · refine emit_keeps (hm.mono (by rfl)) ?_
    refine setMrkPort_keeps (hm.mono (by rfl)) ?_
    exact hs

theorem shiftFirst_keeps {s : State} {m : Nat} (hm : Sub 0x100000004 M) (hs : Keeps M s0 s) :
    Keeps M s0 (State.shiftFirst s m) := by
  unfold State.shiftFirst
  extract_lets +onlyGivenNames x1
  clear_value x1
  apply keeps_ite
  · exact hs
  · refine shiftData_keeps (hm.mono (by rfl)) ?_
    exact hs

theorem markRequest_keeps {s : State} {r : MarkReq} (hm : Sub
    0x18400000080010000000000000003800200000000000000000000000000000003C00A00000000000000000000000000000000000000000000000000000000000100184204 M) (hs : Keeps M s0 s) :
    Keeps M s0 (State.markRequest s r) := by
  unfold State.markRequest
  extract_lets +onlyGivenNames x1
  have hx1 : Keeps M s0 x1 := by
    subst x1
    refine count_keeps (hm.at .MRK_REQ_CNT (by rfl)) ?_
    exact hs
  clear_value x1
  extract_lets +onlyGivenNames x2
  clear_value x2
  apply keeps_ite
  · refine markResult_keeps (hm.mono (by rfl)) ?_
    exact hx1
  · apply keeps_foldl
    · intro t3 x4 h5
      extract_lets +onlyGivenNames x6
      clear_value x6
      apply keeps_ite
      · refine shiftFirst_keeps (hm.mono (by rfl)) ?_
        refine setMarks_keeps (hm.mono (by rfl)) ?_
        exact h5
      · refine markResult_keeps (hm.mono (by rfl)) ?_
        exact h5
    · exact hx1

theorem settleBack_keeps {s : State} (hm : Sub 0x20000021000 M) (hs : Keeps M s0 s) :
    Keeps M s0 (State.settleBack s) := by
  unfold State.settleBack
  apply keeps_forBelow
  · intro x1 t2 h3
    apply keeps_ite
    · extract_lets +onlyGivenNames x4
      clear_value x4
      extract_lets +onlyGivenNames x5
      clear_value x5
      refine bookSettle_keeps (hm.mono (by rfl)) ?_
      refine upd_glb_keeps (hm.mono (by rfl)) (.inr rfl) (.inr rfl) (.inr rfl) ?_
      exact h3
    · exact h3
  · exact hs

theorem attDrop_keeps {s : State} (hm : Sub
    0x2000000000000000000000000000000000000000000000000000000000000000000000000000000000000000000000000000000000000000000000000000000000000000000002000 M) (hs : Keeps M s0 s) :
    Keeps M s0 (State.attDrop s) := by
  unfold State.attDrop
  refine put_keeps (hm.at .SEC_STATUS (by rfl)) ?_
  refine upd_sec_keeps rfl (hm.mono (by rfl)) ?_
  exact hs

theorem jobCount_keeps {s : State} {status : Nat} (hm : Sub
    0x184000000000000000000000000000000000000000000000000003C0000000400000000000000000000000000000000000000000000000000000000000000000000004000 M) (hs : Keeps M s0 s) :
    Keeps M s0 (State.jobCount s status) := by
  unfold State.jobCount
  extract_lets +onlyGivenNames x1
  have hx1 : Keeps M s0 x1 := by
    subst x1
    split
    · refine count_keeps (hm.at .ARC_LIMIT_CNT (by rfl)) ?_
      exact hs
    · refine count_keeps (hm.at .ARC_PARTIAL_CNT (by rfl)) ?_
      exact hs
    · refine count_keeps (hm.at .ARC_REFUSE_CNT (by rfl)) ?_
      exact hs
    · refine raise_keeps (hm.mono (by rfl)) (hm.at .ARC_EVENT (by rfl)) ?_
      refine count_keeps (hm.at .ARC_SHED_CNT (by rfl)) ?_
      exact hs
    · exact hs
  clear_value x1
  apply keeps_ite
  · exact hx1
  · refine raise_keeps (hm.mono (by rfl)) (hm.at .ARC_EVENT (by rfl)) ?_
    exact hx1

theorem jobRecord_keeps {s : State} {typ : Nat} {words : List DWord} {self : List (Nat × Nat)} (hm : Sub
    0x18400000080010000000000000000000000000000000000000000000000000000000000000000000000000000000000000000000000000000000000000000000000184200 M) (hs : Keeps M s0 s) :
    Keeps M s0 (State.jobRecord s typ words self) := by
  unfold State.jobRecord
  extract_lets +onlyGivenNames x1
  clear_value x1
  extract_lets +onlyGivenNames x2
  have hx2 : Keeps M s0 x2 := by
    subst x2
    refine upd_seqs_keeps (hm.mono (by rfl)) ?_
    exact hs
  clear_value x2
  extract_lets +onlyGivenNames x3
  have hx3 : Keeps M s0 x3 := by
    subst x3
    refine pmcCount_keeps (hm.mono (by rfl)) ?_
    exact hx2
  clear_value x3
  extract_lets +onlyGivenNames x4
  clear_value x4
  refine jobSend_keeps (hm.mono (by rfl)) ?_
  exact hx3

theorem sendJob_keeps {s : State} {j : ArcJob} {t0 : Tick} {head : List DWord} {data : List DWord} (hm : Sub
    0x18400000080010000000000000000000000000000000000000000000000000000000000000000000000000000000000000000000000000000000000000000000000184200 M) (hs : Keeps M s0 s) :
    Keeps M s0 (State.sendJob s j t0 head data) := by
  unfold State.sendJob
  extract_lets +onlyGivenNames x1
  clear_value x1
  extract_lets +onlyGivenNames x2
  clear_value x2
  extract_lets +onlyGivenNames x3
  clear_value x3
  apply keeps_foldl
  · intro t4 x5 h6
    extract_lets +onlyGivenNames x7
    clear_value x7
    extract_lets +onlyGivenNames x8
    clear_value x8
    apply keeps_ite
    · refine jobRecord_keeps (hm.mono (by rfl)) ?_
      exact h6
    · refine jobRecord_keeps (hm.mono (by rfl)) ?_
      exact h6
  · exact hs

theorem jobEmpty_keeps {s : State} {j : ArcJob} {status : Nat} (hm : Sub
    0x184000000800100000000000000000000000000000000000000003C0000000400000000000000000000000000000000000000000000000000000000000000000000184202 M) (hs : Keeps M s0 s) :
    Keeps M s0 (State.jobEmpty s j status) := by
  unfold State.jobEmpty
  extract_lets +onlyGivenNames x1
  have hx1 : Keeps M s0 x1.2 := by
    subst x1
    refine drawFree_keeps (hm.mono (by rfl)) ?_
    exact hs
  clear_value x1
  extract_lets +onlyGivenNames x2
  have hx2 : Keeps M s0 x2.2 := by
    subst x2
    refine drawFree_keeps (hm.mono (by rfl)) ?_
    exact hx1
  clear_value x2
  extract_lets +onlyGivenNames x3
  have hx3 : Keeps M s0 x3.2 := by
    subst x3
    refine drawFree_keeps (hm.mono (by rfl)) ?_
    exact hx2
  clear_value x3
  extract_lets +onlyGivenNames x4
  clear_value x4
  refine raise_keeps (hm.mono (by rfl)) (hm.at .ARC_EVENT (by rfl)) ?_
  refine jobCount_keeps (hm.mono (by rfl)) ?_
  refine sendJob_keeps (hm.mono (by rfl)) ?_
  exact hx3

theorem jobsRefuse_keeps {s : State} (hm : Sub
    0x184000000800100000000000000000000000000000000000000003C0000000400000000000000000000000000000000000000000000000000000000000000000042184202 M) (hs : Keeps M s0 s) :
    Keeps M s0 (State.jobsRefuse s) := by
  unfold State.jobsRefuse
  extract_lets +onlyGivenNames x1
  clear_value x1
  extract_lets +onlyGivenNames x2
  clear_value x2
  extract_lets +onlyGivenNames x3
  subst x3
  extract_lets +onlyGivenNames x4
  have hx4 : Keeps M s0 x4 := by
    subst x4
    refine upd_seg_arc_keeps (hm.mono (by rfl)) (.inr rfl) ?_
    exact hs
  clear_value x4
  apply keeps_foldl
  · intro t5 x6 h7
    refine jobEmpty_keeps (hm.mono (by rfl)) ?_
    exact h7
  · exact hx4

theorem endMark_keeps {s : State} {x : Mark} {reason : Nat} (hm : Sub
    0x18400000080010000000000000003800200000000000000000000000000000003400A00000000000000000000000000000000000000000000000000000000000100184200 M) (hs : Keeps M s0 s) :
    Keeps M s0 (State.endMark s x reason) := by
  unfold State.endMark
  refine setMarks_keeps (hm.mono (by rfl)) ?_
  refine markResult_keeps (hm.mono (by rfl)) ?_
  exact hs

theorem dropMarks_keeps {s : State} {m : Nat} {reason : Nat} (hm : Sub
    0x18400000080010000000000000003800200000000000000000000000000000003400A00000000000000000000000000000000000000000000000000000000000100184200 M) (hs : Keeps M s0 s) :
    Keeps M s0 (State.dropMarks s m reason) := by
  unfold State.dropMarks
  apply keeps_foldl
  · intro t1 x2 h3
    refine endMark_keeps (hm.mono (by rfl)) ?_
    exact h3
  · exact hs

theorem mrkDisable_keeps {s : State} {m : Nat} (hm : Sub
    0x18400000080010000000000000003800200000000000000000000000000000003400A00000000000000000000000000000000000000000000000000000000000100184204 M) (hs : Keeps M s0 s) :
    Keeps M s0 (State.mrkDisable s m) := by
  unfold State.mrkDisable
  refine mrkOff_keeps (hm.mono (by rfl)) ?_
  refine dropMarks_keeps (hm.mono (by rfl)) ?_
  exact hs

theorem mrkStandby_keeps {s : State} (hm : Sub
    0x18400000080010000000000000003800200000000000000000000000000000003400A00000000000000000000000000000000000000000000000000000000000100184204 M) (hs : Keeps M s0 s) :
    Keeps M s0 (State.mrkStandby s) := by
  unfold State.mrkStandby
  apply keeps_forBelow
  · intro x1 t2 h3
    refine mrkDisable_keeps (hm.mono (by rfl)) ?_
    exact h3
  · exact hs

theorem camOff_keeps {s : State} {p : Nat} (hm : Sub
    0x18400000080010000000000000003800200000000000000000000000000000000000000000000000000000000000000000000000000200D08000000180000000044FA4204 M) (hs : Keeps M s0 s) :
    Keeps M s0 (State.camOff s p) := by
  unfold State.camOff
  extract_lets +onlyGivenNames x1
  clear_value x1
  extract_lets +onlyGivenNames x2
  have hx2 : Keeps M s0 x2 := by
    subst x2
    apply keeps_forBelow
    · intro x3 t4 h5
      extract_lets +onlyGivenNames x6
      clear_value x6
      extract_lets +onlyGivenNames x7
      clear_value x7
      extract_lets +onlyGivenNames x8
      have hx8 : Keeps M s0 x8 := by
        subst x8
        refine setCamHead_keeps (hm.mono (by rfl)) ?_
        exact h5
      clear_value x8
      extract_lets +onlyGivenNames x9
      have hx9 : Keeps M s0 x9 := by
        subst x9
        refine closeGaps_keeps (hm.mono (by rfl)) ?_
        exact hx8
      clear_value x9
      apply keeps_ite
      · refine arcEndRow_keeps (hm.mono (by rfl)) ?_
        refine ffAbandon_keeps (hm.mono (by rfl)) ?_
        exact hx9
      · exact hx9
    · exact hs
  clear_value x2
  extract_lets +onlyGivenNames x10
  have hx10 : Keeps M s0 x10 := by
    subst x10
    refine prehEnd_keeps (hm.mono (by rfl)) ?_
    exact hx2
  clear_value x10
  extract_lets +onlyGivenNames x11
  clear_value x11
  refine bookCross_keeps (hm.mono (by rfl)) ?_
  refine putCamSt_keeps (hm.mono (by rfl)) ?_
  refine setCamPort_keeps (hm.mono (by rfl)) ?_
  exact hx10

theorem chansDrop_keeps {s : State} (hm : Sub 0x4000 M) (hs : Keeps M s0 s) :
    Keeps M s0 (State.chansDrop s) := by
  unfold State.chansDrop
  refine upd_evt_keeps (fun x => x) (hm.mono (by rfl)) ?_
  exact hs

theorem ffIdle_keeps {s : State} (hm : Sub 0x800000000000000000000000000 M) (hs : Keeps M s0 s) :
    Keeps M s0 (State.ffIdle s) := by
  unfold State.ffIdle
  apply keeps_forBelow
  · intro x1 t2 h3
    refine putFfState_keeps (hm.mono (by rfl)) ?_
    exact h3
  · exact hs

theorem pipesEmpty_keeps {s : State} (hm : Sub 0x78C0000 M) (hs : Keeps M s0 s) :
    Keeps M s0 (State.pipesEmpty s) := by
  unfold State.pipesEmpty
  extract_lets +onlyGivenNames x1
  subst x1
  refine upd_tim_hst_cor_awf_seg_sti_keeps (hm.mono (by rfl)) ?_
  exact hs

theorem standbyEntry_keeps {s : State} (hm : Sub
    0x20000000184000000A1850000000000080003800A005000000003004000003C0000000403C00A00000000000007FFD76803F86C4E0000020000200D0800000018400682017FFE7296 M) (hs : Keeps M s0 s) :
    Keeps M s0 (State.standbyEntry s) := by
  unfold State.standbyEntry
  extract_lets +onlyGivenNames x1
  have hx1 : Keeps M s0 x1 := by
    subst x1
    refine closePosGap_keeps (hm.mono (by rfl)) ?_
    refine closeLineGaps_keeps (hm.mono (by rfl)) ?_
    exact hs
  clear_value x1
  extract_lets +onlyGivenNames x2
  have hx2 : Keeps M s0 x2 := by
    subst x2
    apply keeps_forBelow
    · intro x3 t4 h5
      refine segStop_keeps (hm.mono (by rfl)) ?_
      exact h5
    · exact hx1
  clear_value x2
  extract_lets +onlyGivenNames x6
  have hx6 : Keeps M s0 x6 := by
    subst x6
    refine drainClosings_keeps (hm.mono (by rfl)) ?_
    exact hx2
  clear_value x6
  extract_lets +onlyGivenNames x7
  have hx7 : Keeps M s0 x7 := by
    subst x7
    apply keeps_forBelow
    · intro x8 t9 h10
      refine releaseSeam_keeps (hm.mono (by rfl)) ?_
      exact h10
    · exact hx6
  clear_value x7
  extract_lets +onlyGivenNames x11
  have hx11 : Keeps M s0 x11 := by
    subst x11
    refine emitSent_keeps (hm.mono (by rfl)) ?_
    exact hx7
  clear_value x11
  extract_lets +onlyGivenNames x12
  clear_value x12
  extract_lets +onlyGivenNames x13
  clear_value x13
  extract_lets +onlyGivenNames x14
  have hx14 : Keeps M s0 x14 := by
    subst x14
    refine upd_seg_keeps (hm.mono (by rfl)) ?_
    exact hx11
  clear_value x14
  extract_lets +onlyGivenNames x15
  have hx15 : Keeps M s0 x15 := by
    subst x15
    apply keeps_foldl
    · intro t16 x17 h18
      refine markRequest_keeps (hm.mono (by rfl)) ?_
      exact h18
    · exact hx14
  clear_value x15
  extract_lets +onlyGivenNames x19
  have hx19 : Keeps M s0 x19 := by
    subst x19
    refine settleBack_keeps (hm.mono (by rfl)) ?_
    refine attDrop_keeps (hm.mono (by rfl)) ?_
    refine endSessions_keeps (hm.mono (by rfl)) ?_
    refine jobsRefuse_keeps (hm.mono (by rfl)) ?_
    refine mrkStandby_keeps (hm.mono (by rfl)) ?_
    exact hx15
  clear_value x19
  extract_lets +onlyGivenNames x20
  have hx20 : Keeps M s0 x20 := by
    subst x20
    apply keeps_forBelow
    · intro x21 t22 h23
      refine camOff_keeps (hm.mono (by rfl)) ?_
      exact h23
    · exact hx19
  clear_value x20
  extract_lets +onlyGivenNames x24
  have hx24 : Keeps M s0 x24 := by
    subst x24
    refine chansDrop_keeps (hm.mono (by rfl)) ?_
    refine memStandby_keeps (hm.mono (by rfl)) ?_
    refine ffIdle_keeps (hm.mono (by rfl)) ?_
    refine pipesEmpty_keeps (hm.mono (by rfl)) ?_
    refine hostStandby_keeps (hm.mono (by rfl)) ?_
    refine fabStandby_keeps (hm.mono (by rfl)) ?_
    refine lanesToStandby_keeps (hm.mono (by rfl)) ?_
    exact hx20
  clear_value x24
  refine setMode_keeps (hm.mono (by rfl)) ?_
  refine count_keeps (hm.at .GLB_STBY_CNT (by rfl)) ?_
  exact hx24

theorem beginRehearsal_keeps {s : State} (hm : Sub
    0x18400000000000000000000000000000000000000000000000000000000000000000000000000000000000000000000000000000000000000000000000006800004025000 M) (hs : Keeps M s0 s) :
    Keeps M s0 (State.beginRehearsal s) := by
  unfold State.beginRehearsal
  extract_lets +onlyGivenNames x1
  clear_value x1
  extract_lets +onlyGivenNames x2
  subst x2
  extract_lets +onlyGivenNames x3
  clear_value x3
  extract_lets +onlyGivenNames x4
  have hx4 : Keeps M s0 x4 := by
    subst x4
    refine upd_glb_sti_keeps (hm.mono (by rfl)) (.inr rfl) (.inr rfl) (.inr rfl) ?_
    exact hs
  clear_value x4
  refine setMode_keeps (hm.mono (by rfl)) ?_
  exact hx4

theorem enterPerform_keeps {s : State} {n : LineNo} (hm : Sub
    0x18400000000000000000000000000000000000000000000000000000000000000000000000000000000000000000000000000000000000000000000000006800000025000 M) (hs : Keeps M s0 s) :
    Keeps M s0 (State.enterPerform s n) := by
  unfold State.enterPerform
  refine setMode_keeps (hm.mono (by rfl)) ?_
  refine upd_glb_keeps (hm.mono (by rfl)) (.inr rfl) (.inr rfl) (.inr rfl) ?_
  exact hs

theorem resumeNow_keeps {s : State} (hm : Sub
    0x18400000000000000000000000000000000000000000000000000000000000000000000000000000000000000000000000000000000000000000000000006800004025000 M) (hs : Keeps M s0 s) :
    Keeps M s0 (State.resumeNow s) := by
  unfold State.resumeNow
  apply keeps_ite
  · refine beginRehearsal_keeps (hm.mono (by rfl)) ?_
    exact hs
  · refine enterPerform_keeps (hm.mono (by rfl)) ?_
    exact hs

theorem leaveTry_keeps {s : State} (hm : Sub
    0x20000000184000000A1850000000000080003800A005000000003004000003C0000000403C00A00000000000007FFD76803F86C4E0000020000200D0800000018400682037FFE7296 M) (hs : Keeps M s0 s) :
    Keeps M s0 (State.leaveTry s) := by
  unfold State.leaveTry
  split
  · apply keeps_ite
    · extract_lets +onlyGivenNames x1
      have hx1 : Keeps M s0 x1 := by
        subst x1
        refine endTrans_keeps (hm.mono (by rfl)) ?_
        exact hs
      clear_value x1
      apply keeps_ite
      · refine standbyEntry_keeps (hm.mono (by rfl)) ?_
        exact hx1
      · refine resumeNow_keeps (hm.mono (by rfl)) ?_
        exact hx1
    · exact hs
  · exact hs

theorem leaveHold_keeps {s : State} {stby : Bool} (hm : Sub
    0x20000000184000000A1850000000000080003800A005000000023004000003C0000000403C00A00000000000007FFD76803F86C4E0000020000200D0800000018400682437FFE7296 M) (hs : Keeps M s0 s) :
    Keeps M s0 (State.leaveHold s stby) := by
  unfold State.leaveHold
  refine leaveTry_keeps (hm.mono (by rfl)) ?_
  refine startTrans_keeps (hm.mono (by rfl)) ?_
  refine fspTo_keeps (hm.mono (by rfl)) ?_
  exact hs

theorem posWake_keeps {s : State} (hm : Sub 0x80000000000000000000000000000000000000000000000000010000000 M) (hs : Keeps M
    s0 s) :
    Keeps M s0 (State.posWake s) := by
  unfold State.posWake
  extract_lets +onlyGivenNames x1
  clear_value x1
  extract_lets +onlyGivenNames x2
  clear_value x2
  extract_lets +onlyGivenNames x3
  clear_value x3
  extract_lets +onlyGivenNames x4
  clear_value x4
  extract_lets +onlyGivenNames x5
  have hx5 : Keeps M s0 x5 := by
    subst x5
    refine upd_pos_keeps (hm.mono (by rfl)) ?_
    exact hs
  clear_value x5
  refine put_keeps (hm.at .POS_SPEED (by rfl)) ?_
  refine put_keeps (hm.at .POS_SPEED (by rfl)) ?_
  exact hx5

theorem camAlign_keeps {s : State} {p : Nat} (hm : Sub 0x80000000008400000 M) (hs : Keeps M s0 s) :
    Keeps M s0 (State.camAlign s p) := by
  unfold State.camAlign
  extract_lets +onlyGivenNames x1
  have hx1 : Keeps M s0 x1 := by
    subst x1
    apply keeps_forBelow
    · intro x2 t3 h4
      refine setLane_keeps (hm.mono (by rfl)) ?_
      exact h4
    · exact hs
  clear_value x1
  extract_lets +onlyGivenNames x5
  clear_value x5
  refine putCamSt_keeps (hm.mono (by rfl)) ?_
  refine setCamPort_keeps (hm.mono (by rfl)) ?_
  exact hx1

theorem camEnable_keeps {s : State} {p : Nat} (hm : Sub 0x80000000008400000 M) (hs : Keeps M s0 s) :
    Keeps M s0 (State.camEnable s p) := by
  unfold State.camEnable
  extract_lets +onlyGivenNames x1
  clear_value x1
  apply keeps_ite
  · refine camAlign_keeps (hm.mono (by rfl)) ?_
    exact hs
  · exact hs

theorem wakeStart_keeps {s : State} (hm : Sub
    0x800000000000000000000000500000000300400000000000000000000000000000080000000000000000000000000000000000000000080002000238401004 M) (hs : Keeps M s0 s) :
    Keeps M s0 (State.wakeStart s) := by
  unfold State.wakeStart
  extract_lets +onlyGivenNames x1
  have hx1 : Keeps M s0 x1 := by
    subst x1
    refine sendWakes_keeps (hm.mono (by rfl)) ?_
    refine emit_keeps (hm.mono (by rfl)) ?_
    refine startTrans_keeps (hm.mono (by rfl)) ?_
    exact hs
  clear_value x1
  extract_lets +onlyGivenNames x2
  have hx2 : Keeps M s0 x2 := by
    subst x2
    refine memWake_keeps (hm.mono (by rfl)) ?_
    refine posWake_keeps (hm.mono (by rfl)) ?_
    exact hx1
  clear_value x2
  extract_lets +onlyGivenNames x3
  have hx3 : Keeps M s0 x3 := by
    subst x3
    refine put_keeps (hm.at .GLB_STATUS (by rfl)) ?_
    refine put_keeps (hm.at .GLB_STATUS (by rfl)) ?_
    exact hx2
  clear_value x3
  extract_lets +onlyGivenNames x4
  have hx4 : Keeps M s0 x4 := by
    subst x4
    refine put_keeps (hm.at .GLB_STATUS (by rfl)) ?_
    refine put_keeps (hm.at .GLB_STATUS (by rfl)) ?_
    exact hx3
  clear_value x4
  extract_lets +onlyGivenNames x5
  subst x5
  extract_lets +onlyGivenNames x6
  have hx6 : Keeps M s0 x6 := by
    subst x6
    refine upd_glb_cam_keeps (hm.mono (by rfl)) (.inr rfl) (.inr rfl) (.inr rfl) ?_
    exact hx4
  clear_value x6
  extract_lets +onlyGivenNames x7
  have hx7 : Keeps M s0 x7 := by
    subst x7
    refine lanesFromStandby_keeps (hm.mono (by rfl)) ?_
    exact hx6
  clear_value x7
  refine fabWake_keeps (hm.mono (by rfl)) ?_
  apply keeps_forBelow
  · intro x8 t9 h10
    refine camEnable_keeps (hm.mono (by rfl)) ?_
    exact h10
  · exact hx7

theorem modeAct_keeps {s : State} {r : ModeReq} (hm : Sub
    0x20000000184000000A1850000000000080003800A005000000023004000003C0000000403C00A00000000080007FFD76803F86C4E0000020000200D0800000018500682437FFE7296 M) (hs : Keeps M s0 s) :
    Keeps M s0 (State.modeAct s r) := by
  unfold State.modeAct
  split
  · apply keeps_ite
    · refine holdEntry_keeps (hm.mono (by rfl)) ?_
      exact hs
    · refine refuse_keeps (hm.mono (by rfl)) ?_
      exact hs
  · apply keeps_ite
    · refine leaveHold_keeps (hm.mono (by rfl)) ?_
      exact hs
    · refine refuse_keeps (hm.mono (by rfl)) ?_
      exact hs
  · apply keeps_ite
    · refine leaveHold_keeps (hm.mono (by rfl)) ?_
      exact hs
    · refine refuse_keeps (hm.mono (by rfl)) ?_
      exact hs
  · apply keeps_ite
    · refine wakeStart_keeps (hm.mono (by rfl)) ?_
      exact hs
    · refine refuse_keeps (hm.mono (by rfl)) ?_
      exact hs

theorem modeRequest_keeps {s : State} {r : ModeReq} (hm : Sub
    0x20000000184200040A1850000000000080003800A005000000023004000003C0000000403C00A00000000080007FFD76803F86C4E0000020000200D0800000018500682477FFE7296 M) (hs : Keeps M s0 s) :
    Keeps M s0 (State.modeRequest s r) := by
  unfold State.modeRequest
  apply keeps_ite
  · split
    · refine put_keeps (hm.at .GLB_STATUS (by rfl)) ?_
      refine upd_glb_keeps (hm.mono (by rfl)) (.inr rfl) (.inl (hm.bit (by rfl))) (.inr rfl) ?_
      exact hs
    · refine modeOverrun_keeps (hm.mono (by rfl)) ?_
      exact hs
  · refine modeAct_keeps (hm.mono (by rfl)) ?_
    exact hs

theorem camDisable_keeps {s : State} {p : Nat} (hm : Sub
    0x20000018400000080010000000000000003800200000420400000000000007C000004000000000000000000038D56683FFFFD502780003FA0E3FD080000E0180000023067FA4A94 M) (hs : Keeps M s0 s) :
    Keeps M s0 (State.camDisable s p) := by
  unfold State.camDisable
  refine camOff_keeps (hm.mono (by rfl)) ?_
  apply keeps_ite
  · refine camRunLost_keeps (hm.mono (by rfl)) ?_
    exact hs
  · exact hs

theorem mrkRestart_keeps {s : State} {m : Nat} (hm : Sub
    0x400000000000000000000000000000000000000000000000000000000000000000000000 M) (hs : Keeps M s0 s) :
    Keeps M s0 (State.mrkRestart s m) := by
  unfold State.mrkRestart
  apply keeps_ite
  · refine put_keeps (hm.at .MRK_PSTAT (by rfl)) ?_
    refine put_keeps (hm.at .MRK_PSTAT (by rfl)) ?_
    exact hs
  · exact hs

theorem hostRequest_keeps {s : State} (hm : Sub
    0x184000000800100000000000000000000000000000000000000003C0000000400000000000000000000000000000000000000000000000000000000000000000040184202 M) (hs : Keeps M s0 s) :
    Keeps M s0 (State.hostRequest s) := by
  unfold State.hostRequest
  extract_lets +onlyGivenNames x1
  subst x1
  extract_lets +onlyGivenNames x2
  clear_value x2
  apply keeps_ite
  · refine upd_arc_keeps (hm.mono (by rfl)) (.inr rfl) ?_
    exact hs
  · refine jobEmpty_keeps (hm.mono (by rfl)) ?_
    exact hs

theorem camLaneLost_keeps {s : State} {p : Nat} (hm : Sub
    0x20000018400000080010000000000000003800200000420400000000000007C000004000000000000000000038D56683FFFFD502780003FA0E3FD080000E0180000023067FA4A94 M) (hs : Keeps M s0 s) :
    Keeps M s0 (State.camLaneLost s p) := by
  unfold State.camLaneLost
  refine portFault_keeps (hm.mono (by rfl)) (hm.at .CAM_EVENT (by rfl)) ?_
  exact hs

theorem burstCheck_keeps {s : State} {m : Nat} {b : Burst} (hm : Sub
    0x20400800000000000000000000000000000000000000000000000000000000000100000004 M) (hs : Keeps M s0 s) :
    Keeps M s0 (State.burstCheck s m b) := by
  unfold State.burstCheck
  extract_lets +onlyGivenNames x1
  clear_value x1
  extract_lets +onlyGivenNames x2
  clear_value x2
  extract_lets +onlyGivenNames x3
  clear_value x3
  apply keeps_ite
  · extract_lets +onlyGivenNames x4
    clear_value x4
    extract_lets +onlyGivenNames x5
    have hx5 : Keeps M s0 x5 := by
      subst x5
      refine setMrkPort_keeps (hm.mono (by rfl)) ?_
      exact hs
    clear_value x5
    apply keeps_ite
    · refine shiftFirst_keeps (hm.mono (by rfl)) ?_
      exact hx5
    · extract_lets +onlyGivenNames x6
      clear_value x6
      extract_lets +onlyGivenNames x7
      subst x7
      extract_lets +onlyGivenNames x8
      have hx8 : Keeps M s0 x8 := by
        subst x8
        refine setMarks_keeps (hm.mono (by rfl)) ?_
        exact hx5
      clear_value x8
      refine shiftFirst_keeps (hm.mono (by rfl)) ?_
      refine count_keeps (hm.at .MRK_SPLIT_CNT (by rfl)) ?_
      exact hx8
  · exact hs

theorem burstStart_keeps {s : State} {m : Nat} {g : YPos} (hm : Sub
    0x18400000000000000000000000000000000000000000000000000000000000010000200000000000000000000000000000000000000000000000000000000000100004002 M) (hs : Keeps M s0 s) :
    Keeps M s0 (State.burstStart s m g) := by
  unfold State.burstStart
  apply keeps_ite
  · extract_lets +onlyGivenNames x1
    clear_value x1
    extract_lets +onlyGivenNames x2
    clear_value x2
    extract_lets +onlyGivenNames x3
    clear_value x3
    extract_lets +onlyGivenNames x4
    have hx4 : Keeps M s0 x4 := by
      subst x4
      apply keeps_ite
      · refine raise_keeps (hm.mono (by rfl)) (hm.at .MRK_EVENT (by rfl)) ?_
        refine count_keeps (hm.at .MRK_STRETCH_CNT (by rfl)) ?_
        exact hs
      · exact hs
    clear_value x4
    extract_lets +onlyGivenNames x5
    clear_value x5
    refine setMrkPort_keeps (hm.mono (by rfl)) ?_
    exact hx4
  · extract_lets +onlyGivenNames x6
    have hx6 : Keeps M s0 x6.2 := by
      subst x6
      refine drawFree_keeps (hm.mono (by rfl)) ?_
      exact hs
    clear_value x6
    extract_lets +onlyGivenNames x7
    clear_value x7
    refine setMrkPort_keeps (hm.mono (by rfl)) ?_
    exact hx6

theorem camStale_keeps {s : State} {p : Nat} (hm : Sub
    0x18400000000000000000000000000000000000000000000000000000000000000000000000000000000000000000000000000000000001000000000180000000000024000 M) (hs : Keeps M s0 s) :
    Keeps M s0 (State.camStale s p) := by
  unfold State.camStale
  extract_lets +onlyGivenNames x1
  have hx1 : Keeps M s0 x1 := by
    subst x1
    refine raise_keeps (hm.mono (by rfl)) (hm.at .CAM_EVENT (by rfl)) ?_
    refine put_keeps (hm.at .CAM_STATUS (by rfl)) ?_
    exact hs
  clear_value x1
  extract_lets +onlyGivenNames x2
  have hx2 : Keeps M s0 x2 := by
    subst x2
    apply keeps_forBelow
    · intro x3 t4 h5
      refine putB_keeps (hm.at .COR_STALE (by rfl)) ?_
      exact h5
    · exact hx1
  clear_value x2
  refine calibNote_keeps (hm.mono (by rfl)) ?_
  exact hx2

theorem staleCheck_keeps {s : State} {p : Nat} (hm : Sub
    0x18400000000000000000000000000000000000000000000000000000000000000000000000000000000000000000000000000000000001000000000180000000000024000 M) (hs : Keeps M s0 s) :
    Keeps M s0 (State.staleCheck s p) := by
  unfold State.staleCheck
  extract_lets +onlyGivenNames x1
  clear_value x1
  apply keeps_ite
  · exact hs
  · refine camStale_keeps (hm.mono (by rfl)) ?_
    exact hs

theorem camReady_keeps {s : State} {p : Nat} (hm : Sub
    0x18400000000000000000000000000000000000000000000000000000000000000000000000000000000000000000000000000000000201000000000180000000000C24006 M) (hs : Keeps M s0 s) :
    Keeps M s0 (State.camReady s p) := by
  unfold State.camReady
  extract_lets +onlyGivenNames x1
  have hx1 : Keeps M s0 x1 := by
    subst x1
    refine putCamSt_keeps (hm.mono (by rfl)) ?_
    refine staleCheck_keeps (hm.mono (by rfl)) ?_
    exact hs
  clear_value x1
  apply keeps_ite
  · refine commitExposure_keeps (hm.mono (by rfl)) ?_
    refine setCamPort_keeps (hm.mono (by rfl)) ?_
    exact hx1
  · refine initialSet_keeps (hm.mono (by rfl)) ?_
    exact hx1

theorem camRun_keeps {s : State} {p : Nat} {n : LineNo} (hm : Sub
    0x18400000080010000000000000003800200000000000000000000000000000000000000000000000000000000000000000000000000000004003C00180000000047D84200 M) (hs : Keeps M s0 s) :
    Keeps M s0 (State.camRun s p n) := by
  unfold State.camRun
  extract_lets +onlyGivenNames x1
  have hx1 : Keeps M s0 x1 := by
    subst x1
    refine raise_keeps (hm.mono (by rfl)) (hm.at .CAM_EVENT (by rfl)) ?_
    refine putCamSt_keeps (hm.mono (by rfl)) ?_
    exact hs
  clear_value x1
  extract_lets +onlyGivenNames x2
  have hx2 : Keeps M s0 x2 := by
    subst x2
    refine put_keeps (hm.at .CAM_MALF_RUN (by rfl)) ?_
    exact hx1
  clear_value x2
  extract_lets +onlyGivenNames x3
  have hx3 : Keeps M s0 x3 := by
    subst x3
    refine putLastLine_keeps (hm.mono (by rfl)) ?_
    refine putLastLine_keeps (hm.mono (by rfl)) ?_
    exact hx2
  clear_value x3
  extract_lets +onlyGivenNames x4
  clear_value x4
  extract_lets +onlyGivenNames x5
  have hx5 : Keeps M s0 x5 := by
    subst x5
    refine setCamPort_keeps (hm.mono (by rfl)) ?_
    exact hx3
  clear_value x5
  extract_lets +onlyGivenNames x6
  clear_value x6
  extract_lets +onlyGivenNames x7
  have hx7 : Keeps M s0 x7 := by
    subst x7
    refine setCorPort_keeps (hm.mono (by rfl)) ?_
    exact hx5
  clear_value x7
  apply keeps_forBelow
  · intro x8 t9 h10
    extract_lets +onlyGivenNames x11
    clear_value x11
    extract_lets +onlyGivenNames x12
    clear_value x12
    extract_lets +onlyGivenNames x13
    have hx13 : Keeps M s0 x13 := by
      subst x13
      split
      · exact h10
      · refine formGap_keeps (hm.mono (by rfl)) ?_
        exact h10
    clear_value x13
    extract_lets +onlyGivenNames x14
    have hx14 : Keeps M s0 x14 := by
      subst x14
      refine setCamHead_keeps (hm.mono (by rfl)) ?_
      exact hx13
    clear_value x14
    extract_lets +onlyGivenNames x15
    clear_value x15
    extract_lets +onlyGivenNames x16
    have hx16 : Keeps M s0 x16 := by
      subst x16
      refine setCorHead_keeps (hm.mono (by rfl)) ?_
      exact hx14
    clear_value x16
    extract_lets +onlyGivenNames x17
    clear_value x17
    extract_lets +onlyGivenNames x18
    have hx18 : Keeps M s0 x18 := by
      subst x18
      refine setAwfHead_keeps (hm.mono (by rfl)) ?_
      exact hx16
    clear_value x18
    extract_lets +onlyGivenNames x19
    clear_value x19
    extract_lets +onlyGivenNames x20
    have hx20 : Keeps M s0 x20 := by
      subst x20
      refine setSegHead_keeps (hm.mono (by rfl)) ?_
      exact hx18
    clear_value x20
    refine stiRunEntry_keeps (hm.mono (by rfl)) ?_
    refine arcRunEntry_keeps (hm.mono (by rfl)) ?_
    exact hx20
  · exact hx7

theorem descRequest_keeps {s : State} {p : Nat} (hm : Sub 0x400004 M) (hs : Keeps M s0 s) :
    Keeps M s0 (State.descRequest s p) := by
  unfold State.descRequest
  extract_lets +onlyGivenNames x1
  have hx1 : Keeps M s0 x1 := by
    subst x1
    refine backDrain_keeps (hm.mono (by rfl)) ?_
    exact hs
  clear_value x1
  extract_lets +onlyGivenNames x2
  clear_value x2
  extract_lets +onlyGivenNames x3
  have hx3 : Keeps M s0 x3 := by
    subst x3
    refine setCamPort_keeps (hm.mono (by rfl)) ?_
    exact hx1
  clear_value x3
  apply keeps_ite
  · refine emit_keeps (hm.mono (by rfl)) ?_
    exact hx3
  · refine backQueue_keeps (hm.mono (by rfl)) ?_
    exact hx3

theorem camToDesc_keeps {s : State} {p : Nat} (hm : Sub 0x80000000000400004 M) (hs : Keeps M s0 s) :
    Keeps M s0 (State.camToDesc s p) := by
  unfold State.camToDesc
  extract_lets +onlyGivenNames x1
  clear_value x1
  refine descRequest_keeps (hm.mono (by rfl)) ?_
  refine putCamSt_keeps (hm.mono (by rfl)) ?_
  refine setCamPort_keeps (hm.mono (by rfl)) ?_
  exact hs

theorem cueLaunch_keeps {s : State} {p : Nat} (hm : Sub
    0x18400000080010000000000000003800200000000000000000000000000000000000000000000000000000000000000000000000000000004003D00180000000047D84204 M) (hs : Keeps M s0 s) :
    Keeps M s0 (State.cueLaunch s p) := by
  unfold State.cueLaunch
  extract_lets +onlyGivenNames x1
  have hx1 : Keeps M s0 x1 := by
    subst x1
    refine backDrain_keeps (hm.mono (by rfl)) ?_
    exact hs
  clear_value x1
  extract_lets +onlyGivenNames x2
  clear_value x2
  split
  · exact hx1
  · extract_lets +onlyGivenNames x3
    have hx3 : Keeps M s0 x3 := by
      subst x3
      refine setCamPort_keeps (hm.mono (by rfl)) ?_
      exact hx1
    clear_value x3
    apply keeps_ite
    · extract_lets +onlyGivenNames x4
      clear_value x4
      extract_lets +onlyGivenNames x5
      have hx5 : Keeps M s0 x5 := by
        subst x5
        refine emit_keeps (hm.mono (by rfl)) ?_
        exact hx3
      clear_value x5
      extract_lets +onlyGivenNames x6
      have hx6 : Keeps M s0 x6 := by
        subst x6
        refine put_keeps (hm.at .CAM_SID (by rfl)) ?_
        exact hx5
      clear_value x6
      extract_lets +onlyGivenNames x7
      clear_value x7
      extract_lets +onlyGivenNames x8
      have hx8 : Keeps M s0 x8 := by
        subst x8
        refine setCamPort_keeps (hm.mono (by rfl)) ?_
        exact hx6
      clear_value x8
      apply keeps_ite
      · refine camRun_keeps (hm.mono (by rfl)) ?_
        exact hx8
      · exact hx8
    · exact hx3

theorem cueToPorts_keeps {s : State} (hm : Sub 0x401004 M) (hs : Keeps M s0 s) :
    Keeps M s0 (State.cueToPorts s) := by
  unfold State.cueToPorts
  extract_lets +onlyGivenNames x1
  clear_value x1
  extract_lets +onlyGivenNames x2
  have hx2 : Keeps M s0 x2 := by
    subst x2
    apply keeps_forBelow
    · intro x3 t4 h5
      refine backDrain_keeps (hm.mono (by rfl)) ?_
      exact h5
    · exact hs
  clear_value x2
  extract_lets +onlyGivenNames x6
  have hx6 : Keeps M s0 x6 := by
    subst x6
    apply keeps_forBelow
    · intro x7 t8 h9
      extract_lets +onlyGivenNames x10
      clear_value x10
      split
      · apply keeps_ite
        · refine setCamHead_keeps (hm.mono (by rfl)) ?_
          exact h9
        · exact h9
      · exact h9
    · exact hx2
  clear_value x6
  extract_lets +onlyGivenNames x11
  subst x11
  extract_lets +onlyGivenNames x12
  have hx12 : Keeps M s0 x12 := by
    subst x12
    apply keeps_ite
    · refine upd_glb_keeps (hm.mono (by rfl)) (.inr rfl) (.inr rfl) (.inr rfl) ?_
      exact hx6
    · exact hx6
  clear_value x12
  apply keeps_forBelow
  · intro x13 t14 h15
    apply keeps_ite
    · extract_lets +onlyGivenNames x16
      clear_value x16
      refine setCamPort_keeps (hm.mono (by rfl)) ?_
      exact h15
    · exact h15
  · exact hx12

theorem curtainDone_keeps {s : State} (hm : Sub
    0x7FFFFFFFFFFFFFFFFFFFFFFFFFFFFFFFFFFFFFFFFFFFFFFFFFFFFFFFFFFFFFFFFFFFFFFFFFFFFFFFFFFFFFFFFFFFFFFFFFFFFFFFFFFFFFFFFFFFFFFFFFFFFFFFFFFFFFFFC3FFFFFFFAFC M) (hs : Keeps M s0 s) :
    Keeps M s0 (State.curtainDone s) := by
  unfold State.curtainDone
  extract_lets +onlyGivenNames x1
  subst x1
  extract_lets +onlyGivenNames x2
  have hx2 : Keeps M s0 x2 := by
    subst x2
    refine put_keeps (hm.at .PWR_STATUS (by rfl)) ?_
    refine upd_pwr_keeps (hm.mono (by rfl)) (.inr rfl) (.inr rfl) (.inr rfl) (.inr rfl) ?_
    exact hs
  clear_value x2
  apply keeps_ite
  · exact hx2
  · refine enterDark_keeps (hm.mono (by rfl)) ?_
    exact hx2

theorem curtainOff_keeps {s : State} (hm : Sub
    0x18400000081850000000000080003800A00502000000000000000000000000000000000000000000000000000000000000000000000200D0800000018000000014CFA4204 M) (hs : Keeps M s0 s) :
    Keeps M s0 (State.curtainOff s) := by
  unfold State.curtainOff
  extract_lets +onlyGivenNames x1
  have hx1 : Keeps M s0 x1 := by
    subst x1
    refine lanesOff_keeps (hm.mono (by rfl)) ?_
    apply keeps_forBelow
    · intro x2 t3 h4
      refine mrkQuiet_keeps (hm.mono (by rfl)) ?_
      exact h4
    · exact hs
  clear_value x1
  extract_lets +onlyGivenNames x5
  have hx5 : Keeps M s0 x5 := by
    subst x5
    apply keeps_forBelow
    · intro x6 t7 h8
      refine camOff_keeps (hm.mono (by rfl)) ?_
      exact h8
    · exact hx1
  clear_value x5
  extract_lets +onlyGivenNames x9
  have hx9 : Keeps M s0 x9 := by
    subst x9
    apply keeps_forBelow
    · intro x10 t11 h12
      refine fabPortOff_keeps (hm.mono (by rfl)) ?_
      exact h12
    · exact hx5
  clear_value x9
  refine hostStandby_keeps (hm.mono (by rfl)) ?_
  exact hx9

theorem curtainStart_keeps {s : State} {trig : Nat} (hm : Sub
    0x7FFFFFFFFFFFFFFFFFFFFFFFFFFFFFFFFFFFFFFFFFFFFFFFFFFFFFFFFFFFFFFFFFFFFFFFFFFFFFFFFFFFFFFFFFFFFFFFFFFFFFFFFFFFFFFFFFFFFFFFFFFFFFFFFFFFFFFFCFFFFFFFFAFC M) (hs : Keeps M s0 s) :
    Keeps M s0 (State.curtainStart s trig) := by
  unfold State.curtainStart
  apply keeps_ite
  · exact hs
  · extract_lets +onlyGivenNames x1
    have hx1 : Keeps M s0 x1 := by
      subst x1
      refine freeze_keeps (hm.mono (by rfl)) ?_
      exact hs
    clear_value x1
    extract_lets +onlyGivenNames x2
    clear_value x2
    extract_lets +onlyGivenNames x3
    subst x3
    extract_lets +onlyGivenNames x4
    have hx4 : Keeps M s0 x4 := by
      subst x4
      refine upd_pwr_keeps (hm.mono (by rfl)) (.inr rfl) (.inr rfl) (.inr rfl) (.inr rfl) ?_
      exact hx1
    clear_value x4
    extract_lets +onlyGivenNames x5
    have hx5 : Keeps M s0 x5 := by
      subst x5
      refine count_keeps (hm.at .PWR_CURTAIN_CNT (by rfl)) ?_
      refine raise_keeps (hm.mono (by rfl)) (hm.at .PWR_EVENT (by rfl)) ?_
      refine put_keeps (hm.at .PWR_STATUS (by rfl)) ?_
      exact hx4
    clear_value x5
    extract_lets +onlyGivenNames x6
    have hx6 : Keeps M s0 x6 := by
      subst x6
      refine fault_keeps (hm.mono (by rfl)) ?_
      exact hx5
    clear_value x6
    extract_lets +onlyGivenNames x7
    have hx7 : Keeps M s0 x7 := by
      subst x7
      apply keeps_ite
      · exact hx6
      · refine curtainOff_keeps (hm.mono (by rfl)) ?_
        exact hx6
    clear_value x7
    apply keeps_ite
    · refine urgentWrite_keeps (hm.mono (by rfl)) ?_
      exact hx7
    · refine curtainDone_keeps (hm.mono (by rfl)) ?_
      exact hx7

theorem takeTemp_keeps {s : State} {p : Nat} {j : Nat} {t : Nat} (hm : Sub 0x1000010000000000000000000 M) (hs : Keeps M s0
    s) :
    Keeps M s0 (State.takeTemp s p j t) := by
  unfold State.takeTemp
  extract_lets +onlyGivenNames x1
  clear_value x1
  apply keeps_ite
  · apply keeps_ite
    · refine put_keeps (hm.at .CAM_TEMP (by rfl)) ?_
      refine put_keeps (hm.at .CAM_TEMP (by rfl)) ?_
      exact hs
    · refine put_keeps (hm.at .CAM_TEMP (by rfl)) ?_
      refine put_keeps (hm.at .CAM_TEMP (by rfl)) ?_
      exact hs
  · refine count_keeps (hm.at .CAM_DESC_ERR_CNT (by rfl)) ?_
    exact hs

theorem tempReport_keeps {s : State} {p : Nat} {payload : Nat} (hm : Sub 0x1000010000000000000800000 M) (hs : Keeps M s0 s)
    :
    Keeps M s0 (State.tempReport s p payload) := by
  unfold State.tempReport
  extract_lets +onlyGivenNames x1
  have hx1 : Keeps M s0 x1 := by
    subst x1
    refine takeTemp_keeps (hm.mono (by rfl)) ?_
    exact hs
  clear_value x1
  extract_lets +onlyGivenNames x2
  have hx2 : Keeps M s0 x2 := by
    subst x2
    apply keeps_ite
    · refine takeTemp_keeps (hm.mono (by rfl)) ?_
      exact hx1
    · exact hx1
  clear_value x2
  apply keeps_forBelow
  · intro x3 t4 h5
    refine ffTempCheck_keeps (hm.mono (by rfl)) ?_
    exact h5
  · exact hx2

theorem descRegs_keeps {s : State} {p : Nat} {d : List Nat} (hm : Sub 0xFC80000000000000000 M) (hs : Keeps M s0 s) :
    Keeps M s0 (State.descRegs s p d) := by
  unfold State.descRegs
  extract_lets +onlyGivenNames x1
  subst x1
  extract_lets +onlyGivenNames x2
  have hx2 : Keeps M s0 x2 := by
    subst x2
    refine wr_keeps (hm.at .CAM_DESC_ID (by rfl)) ?_
    exact hs
  clear_value x2
  extract_lets +onlyGivenNames x3
  clear_value x3
  extract_lets +onlyGivenNames x4
  have hx4 : Keeps M s0 x4 := by
    subst x4
    refine wr_keeps (hm.at .CAM_SERIAL_HI (by rfl)) ?_
    refine wr_keeps (hm.at .CAM_SERIAL_LO (by rfl)) ?_
    exact hx2
  clear_value x4
  extract_lets +onlyGivenNames x5
  clear_value x5
  extract_lets +onlyGivenNames x6
  have hx6 : Keeps M s0 x6 := by
    subst x6
    refine put_keeps (hm.at .CAM_DESC_GEOM (by rfl)) ?_
    refine put_keeps (hm.at .CAM_DESC_GEOM (by rfl)) ?_
    exact hx4
  clear_value x6
  extract_lets +onlyGivenNames x7
  have hx7 : Keeps M s0 x7 := by
    subst x7
    refine put_keeps (hm.at .CAM_DESC_GEOM (by rfl)) ?_
    refine put_keeps (hm.at .CAM_DESC_GEOM (by rfl)) ?_
    exact hx6
  clear_value x7
  extract_lets +onlyGivenNames x8
  have hx8 : Keeps M s0 x8 := by
    subst x8
    refine put_keeps (hm.at .CAM_DESC_GEOM (by rfl)) ?_
    refine put_keeps (hm.at .CAM_DESC_GEOM (by rfl)) ?_
    exact hx7
  clear_value x8
  extract_lets +onlyGivenNames x9
  have hx9 : Keeps M s0 x9 := by
    subst x9
    refine put_keeps (hm.at .CAM_DESC_PIXELS (by rfl)) ?_
    refine put_keeps (hm.at .CAM_DESC_PIXELS (by rfl)) ?_
    exact hx8
  clear_value x9
  extract_lets +onlyGivenNames x10
  have hx10 : Keeps M s0 x10 := by
    subst x10
    refine put_keeps (hm.at .CAM_DESC_TIMING (by rfl)) ?_
    refine put_keeps (hm.at .CAM_DESC_TIMING (by rfl)) ?_
    exact hx9
  clear_value x10
  refine put_keeps (hm.at .CAM_STATUS (by rfl)) ?_
  exact hx10

theorem descFail_keeps {s : State} {p : Nat} (hm : Sub
    0x20000018400000080010000000000000003800200000420400000000000007C000004000000000000000000038D56683FFFFD502780003FA0E3FD090000E0180000023067FA4A94 M) (hs : Keeps M s0 s) :
    Keeps M s0 (State.descFail s p) := by
  unfold State.descFail
  extract_lets +onlyGivenNames x1
  have hx1 : Keeps M s0 x1 := by
    subst x1
    refine count_keeps (hm.at .CAM_DESC_ERR_CNT (by rfl)) ?_
    exact hs
  clear_value x1
  extract_lets +onlyGivenNames x2
  clear_value x2
  extract_lets +onlyGivenNames x3
  have hx3 : Keeps M s0 x3 := by
    subst x3
    refine setCamPort_keeps (hm.mono (by rfl)) ?_
    exact hx1
  clear_value x3
  apply keeps_ite
  · refine portFault_keeps (hm.mono (by rfl)) (hm.at .CAM_EVENT (by rfl)) ?_
    exact hx3
  · refine descRequest_keeps (hm.mono (by rfl)) ?_
    exact hx3

theorem descComplete_keeps {s : State} {p : Nat} {d : List Nat} (hm : Sub
    0x20000018400000080010000000000000003800200000420400000000000007C000004000000000000000000038D56683FFFFD502780003FA0E3FD090000FFD80000023067FA4A96 M) (hs : Keeps M s0 s) :
    Keeps M s0 (State.descComplete s p d) := by
  unfold State.descComplete
  apply keeps_ite
  · extract_lets +onlyGivenNames x1
    have hx1 : Keeps M s0 x1 := by
      subst x1
      refine tempReport_keeps (hm.mono (by rfl)) ?_
      refine descRegs_keeps (hm.mono (by rfl)) ?_
      exact hs
    clear_value x1
    apply keeps_ite
    · refine camReady_keeps (hm.mono (by rfl)) ?_
      refine put_keeps (hm.at .CAM_STATUS (by rfl)) ?_
      exact hx1
    · refine portFault_keeps (hm.mono (by rfl)) (hm.at .CAM_EVENT (by rfl)) ?_
      refine put_keeps (hm.at .CAM_STATUS (by rfl)) ?_
      exact hx1
  · refine descFail_keeps (hm.mono (by rfl)) ?_
    exact hs

theorem descBlock_keeps {s : State} {p : Nat} {idx : Nat} {payload : Nat} (hm : Sub
    0x20000018400000080010000000000000003800200000420400000000000007C000004000000000000000000038D56683FFFFD502780003FA0E3FD090000FFD80000023067FA4A96 M) (hs : Keeps M s0 s) :
    Keeps M s0 (State.descBlock s p idx payload) := by
  unfold State.descBlock
  extract_lets +onlyGivenNames x1
  clear_value x1
  apply keeps_ite
  · apply keeps_ite
    · extract_lets +onlyGivenNames x2
      clear_value x2
      apply keeps_ite
      · refine descComplete_keeps (hm.mono (by rfl)) ?_
        refine setCamPort_keeps (hm.mono (by rfl)) ?_
        exact hs
      · refine setCamPort_keeps (hm.mono (by rfl)) ?_
        exact hs
    · refine descFail_keeps (hm.mono (by rfl)) ?_
      exact hs
  · apply keeps_ite
    · refine tempReport_keeps (hm.mono (by rfl)) ?_
      exact hs
    · exact hs

theorem replaceLine_keeps {s : State} {p : Nat} {j : Nat} {n : LineNo} (hm : Sub
    0x20000018400000080010000000000000003800200000420400000000000007C000004000000000000000000038D56683FFFFD502780003FA0E3FD0C103CE0180000023067FA4A96 M) (hs : Keeps M s0 s) :
    Keeps M s0 (State.replaceLine s p j n) := by
  unfold State.replaceLine
  extract_lets +onlyGivenNames x1
  clear_value x1
  extract_lets +onlyGivenNames x2
  clear_value x2
  extract_lets +onlyGivenNames x3
  have hx3 : Keeps M s0 x3.2 := by
    subst x3
    refine startInstant_keeps (hm.mono (by rfl)) ?_
    exact hs
  clear_value x3
  refine malformed_keeps (hm.mono (by rfl)) ?_
  refine pushLine_keeps (hm.mono (by rfl)) ?_
  exact hx3

theorem namedMissing_keeps {s : State} {p : Nat} {j : Nat} {fuel : Nat} (hm : Sub
    0x20000018400000080010000000000000003800200000420400000000000007C000004000000000000000000038D56683FFFFD502780003FA0E3FD0C123CE0180000023067FA4A96 M) (hs : Keeps M s0 s) :
    Keeps M s0 (State.namedMissing s p j fuel) := by
  unfold State.namedMissing
  split
  · exact hs
  · extract_lets +onlyGivenNames x1
    clear_value x1
    extract_lets +onlyGivenNames x2
    clear_value x2
    apply keeps_ite
    · extract_lets +onlyGivenNames x3
      have hx3 : Keeps M s0 x3 := by
        subst x3
        refine setCamHead_keeps (hm.mono (by rfl)) ?_
        exact hs
      clear_value x3
      refine namedMissing_keeps (hm.mono (by rfl)) ?_
      refine replaceLine_keeps (hm.mono (by rfl)) ?_
      refine count_keeps (hm.at .CAM_MISSING_CNT (by rfl)) ?_
      exact hx3
    · exact hs

theorem errBlock_keeps {s : State} {p : Nat} {code : Nat} {j : Nat} {line : LineNo} (hm : Sub
    0x20000018400000080010000000000000003800200000420400000000000007C000004000000000000000000038D56683FFFFD502780003FA0E3FD0C923EE0180000023067FA4A96 M) (hs : Keeps M s0 s) :
    Keeps M s0 (State.errBlock s p code j line) := by
  unfold State.errBlock
  apply keeps_ite
  · exact hs
  · extract_lets +onlyGivenNames x1
    have hx1 : Keeps M s0 x1 := by
      subst x1
      refine count_keeps (hm.at .CAM_CAMERR_CNT (by rfl)) ?_
      exact hs
    clear_value x1
    extract_lets +onlyGivenNames x2
    have hx2 : Keeps M s0 x2 := by
      subst x2
      refine put_keeps (hm.at .CAM_LAST_ERR (by rfl)) ?_
      refine put_keeps (hm.at .CAM_LAST_ERR (by rfl)) ?_
      exact hx1
    clear_value x2
    extract_lets +onlyGivenNames x3
    have hx3 : Keeps M s0 x3 := by
      subst x3
      refine put_keeps (hm.at .CAM_LAST_ERR (by rfl)) ?_
      exact hx2
    clear_value x3
    split
    · refine portFault_keeps (hm.mono (by rfl)) (hm.at .CAM_EVENT (by rfl)) ?_
      exact hx3
    · refine raise_keeps (hm.mono (by rfl)) (hm.at .CAM_EVENT (by rfl)) ?_
      exact hx3
    · refine raise_keeps (hm.mono (by rfl)) (hm.at .CAM_EVENT (by rfl)) ?_
      exact hx3
    · apply keeps_ite
      · extract_lets +onlyGivenNames x4
        clear_value x4
        refine namedMissing_keeps (hm.mono (by rfl)) ?_
        refine setCamHead_keeps (hm.mono (by rfl)) ?_
        exact hx3
      · exact hx3
    · apply keeps_ite
      · extract_lets +onlyGivenNames x5
        clear_value x5
        refine namedMissing_keeps (hm.mono (by rfl)) ?_
        refine setCamHead_keeps (hm.mono (by rfl)) ?_
        exact hx3
      · exact hx3
    · exact hx3

theorem fillSkip_keeps {s : State} {p : Nat} {j : Nat} {upTo : LineNo} {fuel : Nat} (hm : Sub
    0x20000018400000080010000000000000003800200000420400000000000007C000004000000000000000000038D56683FFFFD502780003FA0E3FD0C103CE0180000023067FA4A96 M) (hs : Keeps M s0 s) :
    Keeps M s0 (State.fillSkip s p j upTo fuel) := by
  unfold State.fillSkip
  split
  · exact hs
  · extract_lets +onlyGivenNames x1
    clear_value x1
    apply keeps_ite
    · refine fillSkip_keeps (hm.mono (by rfl)) ?_
      refine replaceLine_keeps (hm.mono (by rfl)) ?_
      exact hs
    · exact hs

theorem owePerform_keeps {s : State} (hm : Sub 0x1000 M) (hs : Keeps M s0 s) :
    Keeps M s0 (State.owePerform s) := by
  unfold State.owePerform
  extract_lets +onlyGivenNames x1
  clear_value x1
  apply keeps_ite
  · apply keeps_forBelow
    · intro x2 t3 h4
      apply keeps_ite
      · refine upd_glb_keeps (hm.mono (by rfl)) (.inr rfl) (.inr rfl) (.inr rfl) ?_
        exact h4
      · exact h4
    · exact hs
  · exact hs

theorem holdDone_keeps {s : State} {byReq : Bool} (hm : Sub
    0x20000018400000080010000000000000003800200000420402000400000007C000004000000000000000000038D56683FFFFD502780003FA0E3FD000000E0182006827277FA5A94 M) (hs : Keeps M s0 s) :
    Keeps M s0 (State.holdDone s byReq) := by
  unfold State.holdDone
  extract_lets +onlyGivenNames x1
  have hx1 : Keeps M s0 x1 := by
    subst x1
    apply keeps_forBelow
    · intro x2 t3 h4
      refine corFlush_keeps (hm.mono (by rfl)) ?_
      exact h4
    · exact hs
  clear_value x1
  extract_lets +onlyGivenNames x5
  have hx5 : Keeps M s0 x5 := by
    subst x5
    refine drainFifo_keeps (hm.mono (by rfl)) ?_
    exact hx1
  clear_value x5
  extract_lets +onlyGivenNames x6
  have hx6 : Keeps M s0 x6 := by
    subst x6
    apply keeps_forBelow
    · intro x7 t8 h9
      extract_lets +onlyGivenNames x10
      have hx10 : Keeps M s0 x10 := by
        subst x10
        apply keeps_ite
        · refine overflowDrain_keeps (hm.mono (by rfl)) ?_
          exact h9
        · exact h9
      clear_value x10
      extract_lets +onlyGivenNames x11
      clear_value x11
      extract_lets +onlyGivenNames x12
      have hx12 : Keeps M s0 x12 := by
        subst x12
        refine setSegHead_keeps (hm.mono (by rfl)) ?_
        exact hx10
      clear_value x12
      refine ffAbandon_keeps (hm.mono (by rfl)) ?_
      exact hx12
    · exact hx5
  clear_value x6
  extract_lets +onlyGivenNames x13
  have hx13 : Keeps M s0 x13 := by
    subst x13
    refine stiHold_keeps (hm.mono (by rfl)) ?_
    refine closeLineGaps_keeps (hm.mono (by rfl)) ?_
    refine owePerform_keeps (hm.mono (by rfl)) ?_
    exact hx6
  clear_value x13
  extract_lets +onlyGivenNames x14
  have hx14 : Keeps M s0 x14 := by
    subst x14
    apply keeps_ite
    · refine put_keeps (hm.at .GLB_STATUS (by rfl)) ?_
      exact hx13
    · exact hx13
  clear_value x14
  extract_lets +onlyGivenNames x15
  have hx15 : Keeps M s0 x15 := by
    subst x15
    refine endTrans_keeps (hm.mono (by rfl)) ?_
    refine setMode_keeps (hm.mono (by rfl)) ?_
    exact hx14
  clear_value x15
  extract_lets +onlyGivenNames x16
  have hx16 : Keeps M s0 x16 := by
    subst x16
    refine count_keeps (hm.at .GLB_HOLD_CNT (by rfl)) ?_
    refine putB_keeps (hm.at .GLB_STATUS (by rfl)) ?_
    exact hx15
  clear_value x16
  refine fspTo_keeps (hm.mono (by rfl)) ?_
  exact hx16

theorem jobContexts_keeps {s : State} {j : ArcJob} {tiles : Nat} (hm : Sub
    0x18400000000000000000000000000000000000420400000000000000000000000000000000000000000000000000000000000000000000000000000000000003060004000 M) (hs : Keeps M s0 s) :
    Keeps M s0 (State.jobContexts s j tiles) := by
  unfold State.jobContexts
  extract_lets +onlyGivenNames x1
  subst x1
  extract_lets +onlyGivenNames x2
  subst x2
  apply keeps_ite
  · extract_lets +onlyGivenNames x3
    have hx3 : Keeps M s0 x3 := by
      subst x3
      apply keeps_foldl
      · intro t4 x5 h6
        refine memRead_keeps (hm.mono (by rfl)) ?_
        exact h6
      · exact hs
    clear_value x3
    refine upd_arc_keeps (hm.mono (by rfl)) (.inr rfl) ?_
    exact hx3
  · extract_lets +onlyGivenNames x7
    clear_value x7
    extract_lets +onlyGivenNames x8
    have hx8 : Keeps M s0 x8 := by
      subst x8
      apply keeps_foldl
      · intro t9 x10 h11
        refine memWrite_keeps (hm.mono (by rfl)) ?_
        exact h11
      · exact hs
    clear_value x8
    refine upd_arc_keeps (hm.mono (by rfl)) (.inr rfl) ?_
    exact hx8

theorem jobBegin_keeps {s : State} {j : ArcJob} {isPartial : Bool} (hm : Sub
    0x184000000800100000000000000000000000004204000000000003C0000000400000000000000000000000000000000000000000000000000000000000000013060184202 M) (hs : Keeps M s0 s) :
    Keeps M s0 (State.jobBegin s j isPartial) := by
  unfold State.jobBegin
  extract_lets +onlyGivenNames x1
  clear_value x1
  apply keeps_ite
  · refine jobEmpty_keeps (hm.mono (by rfl)) ?_
    exact hs
  · split
    · refine jobEmpty_keeps (hm.mono (by rfl)) ?_
      exact hs
    · extract_lets +onlyGivenNames x2
      clear_value x2
      extract_lets +onlyGivenNames x3
      clear_value x3
      extract_lets +onlyGivenNames x4
      clear_value x4
      extract_lets +onlyGivenNames x5
      clear_value x5
      extract_lets +onlyGivenNames x6
      clear_value x6
      extract_lets +onlyGivenNames x7
      have hx7 : Keeps M s0 x7 := by
        subst x7
        refine jobContexts_keeps (hm.mono (by rfl)) ?_
        exact hs
      clear_value x7
      extract_lets +onlyGivenNames x8
      subst x8
      extract_lets +onlyGivenNames x9
      have hx9 : Keeps M s0 x9 := by
        subst x9
        refine upd_arc_keeps (hm.mono (by rfl)) (.inl (hm.bit (by rfl))) ?_
        exact hx7
      clear_value x9
      apply keeps_foldl
      · intro t10 x11 h12
        split
        · exact h12
        · extract_lets +onlyGivenNames x13
          clear_value x13
          refine memRead_keeps (hm.mono (by rfl)) ?_
          exact h12
      · exact hx9

theorem storeDecoder_keeps {s : State} {r : ArcRun} {ds : List JobDec} (hm : Sub 0x40000080 M) (hs : Keeps M s0 s) :
    Keeps M s0 (State.storeDecoder s r ds) := by
  unfold State.storeDecoder
  extract_lets +onlyGivenNames x1
  subst x1
  extract_lets +onlyGivenNames x2
  have hx2 : Keeps M s0 x2 := by
    subst x2
    apply keeps_foldl
    · intro t3 x4 h5
      split
      · exact h5
      · extract_lets +onlyGivenNames x6
        clear_value x6
        extract_lets +onlyGivenNames x7
        clear_value x7
        extract_lets +onlyGivenNames x8
        clear_value x8
        extract_lets +onlyGivenNames x9
        clear_value x9
        extract_lets +onlyGivenNames x10
        clear_value x10
        apply keeps_foldl
        · intro t11 x12 h13
          split
          · refine ctxPixels_keeps (hm.mono (by rfl)) ?_
            exact h13
          · exact h13
        · refine ctxHead_keeps (hm.mono (by rfl)) ?_
          exact h5
    · exact hs
  clear_value x2
  apply keeps_ite
  · refine upd_arc_keeps (hm.mono (by rfl)) (.inr rfl) ?_
    exact hx2
  · exact hx2

theorem jobFinish_keeps {s : State} {r : ArcRun} (hm : Sub
    0x184000000800100000000000000000000000000000000000000003E0000000400000000000000000000000000000000000000000000000000000000000000010040184280 M) (hs : Keeps M s0 s) :
    Keeps M s0 (State.jobFinish s r) := by
  unfold State.jobFinish
  extract_lets +onlyGivenNames x1
  clear_value x1
  extract_lets +onlyGivenNames x2
  clear_value x2
  extract_lets +onlyGivenNames x3
  clear_value x3
  extract_lets +onlyGivenNames x4
  clear_value x4
  extract_lets +onlyGivenNames x5
  clear_value x5
  extract_lets +onlyGivenNames x6
  clear_value x6
  extract_lets +onlyGivenNames x7
  clear_value x7
  extract_lets +onlyGivenNames x8
  clear_value x8
  extract_lets +onlyGivenNames x9
  clear_value x9
  extract_lets +onlyGivenNames x10
  clear_value x10
  extract_lets +onlyGivenNames x11
  clear_value x11
  extract_lets +onlyGivenNames x12
  clear_value x12
  extract_lets +onlyGivenNames x13
  clear_value x13
  extract_lets +onlyGivenNames x14
  clear_value x14
  extract_lets +onlyGivenNames x15
  clear_value x15
  extract_lets +onlyGivenNames x16
  have hx16 : Keeps M s0 x16 := by
    subst x16
    refine storeDecoder_keeps (hm.mono (by rfl)) ?_
    exact hs
  clear_value x16
  extract_lets +onlyGivenNames x17
  have hx17 : Keeps M s0 x17 := by
    subst x17
    refine sendJob_keeps (hm.mono (by rfl)) ?_
    exact hx16
  clear_value x17
  extract_lets +onlyGivenNames x18
  subst x18
  extract_lets +onlyGivenNames x19
  have hx19 : Keeps M s0 x19 := by
    subst x19
    refine upd_arc_keeps (hm.mono (by rfl)) (.inl (hm.bit (by rfl))) ?_
    exact hx17
  clear_value x19
  refine raise_keeps (hm.mono (by rfl)) (hm.at .ARC_EVENT (by rfl)) ?_
  refine jobCount_keeps (hm.mono (by rfl)) ?_
  refine count_keeps (hm.at .ARC_JOB_CNT (by rfl)) ?_
  exact hx19

theorem jobsDrop_keeps {s : State} (hm : Sub 0x10042000000 M) (hs : Keeps M s0 s) :
    Keeps M s0 (State.jobsDrop s) := by
  unfold State.jobsDrop
  refine upd_seg_arc_keeps (hm.mono (by rfl)) (.inl (hm.bit (by rfl))) ?_
  exact hs

theorem lineFrame_keeps {s : State} {p : Nat} {j : Nat} {mrow : Nat} {sid : Nat} {line : LineNo} {hdr : DWord} {data : List
    DWord} {bits : Nat} {crc : Word} (hm : Sub
    0x20000018400000080010000000000000003800200000420400000000000007C000004000000000000000000038D56683FFFFD502780003FA0E3FD0C77FDE0180000023067FA4A96 M) (hs : Keeps M s0 s) :
    Keeps M s0 (State.lineFrame s p j mrow sid line hdr data bits crc) := by
  unfold State.lineFrame
  extract_lets +onlyGivenNames x1
  have hx1 : Keeps M s0 x1 := by
    subst x1
    refine backDrain_keeps (hm.mono (by rfl)) ?_
    exact hs
  clear_value x1
  apply keeps_ite
  · exact hx1
  · apply keeps_ite
    · apply keeps_ite
      · refine echo_keeps (hm.mono (by rfl)) ?_
        exact hx1
      · exact hx1
    · apply keeps_ite
      · exact hx1
      · extract_lets +onlyGivenNames x2
        clear_value x2
        apply keeps_ite
        · extract_lets +onlyGivenNames x3
          have hx3 : Keeps M s0 x3 := by
            subst x3
            refine count_keeps (hm.at .CAM_CRC_CNT (by rfl)) ?_
            exact hx1
          clear_value x3
          extract_lets +onlyGivenNames x4
          have hx4 : Keeps M s0 x4 := by
            subst x4
            apply keeps_ite
            · refine replaceLine_keeps (hm.mono (by rfl)) ?_
              exact hx3
            · refine malformed_keeps (hm.mono (by rfl)) ?_
              exact hx3
          clear_value x4
          refine namedMissing_keeps (hm.mono (by rfl)) ?_
          exact hx4
        · apply keeps_ite
          · apply keeps_ite
            · refine echo_keeps (hm.mono (by rfl)) ?_
              exact hx1
            · refine malformed_keeps (hm.mono (by rfl)) ?_
              refine count_keeps (hm.at .CAM_ORDER_CNT (by rfl)) ?_
              exact hx1
          · extract_lets +onlyGivenNames x5
            have hx5 : Keeps M s0 x5 := by
              subst x5
              refine fillSkip_keeps (hm.mono (by rfl)) ?_
              refine count_keeps (hm.at .CAM_MISSING_CNT (by rfl)) ?_
              exact hx1
            clear_value x5
            apply keeps_ite
            · refine namedMissing_keeps (hm.mono (by rfl)) ?_
              refine acceptLine_keeps (hm.mono (by rfl)) ?_
              exact hx5
            · exact hx5

theorem lineStart_keeps {s : State} {m : Nat} (hm : Sub
    0x18400000080010000000000000003800200000000000000000000000000000027400A000000000000000000000000000000000000000000000000000000000001001C4204 M) (hs : Keeps M s0 s) :
    Keeps M s0 (State.lineStart s m) := by
  unfold State.lineStart
  split
  · exact hs
  · extract_lets +onlyGivenNames x1
    clear_value x1
    extract_lets +onlyGivenNames x2
    clear_value x2
    extract_lets +onlyGivenNames x3
    clear_value x3
    extract_lets +onlyGivenNames x4
    clear_value x4
    extract_lets +onlyGivenNames x5
    clear_value x5
    extract_lets +onlyGivenNames x6
    have hx6 : Keeps M s0 x6 := by
      subst x6
      refine setMarks_keeps (hm.mono (by rfl)) ?_
      exact hs
    clear_value x6
    extract_lets +onlyGivenNames x7
    clear_value x7
    extract_lets +onlyGivenNames x8
    have hx8 : Keeps M s0 x8 := by
      subst x8
      apply keeps_ite
      · refine count_keeps (hm.at .MRK_SUPP_LINE_CNT (by rfl)) ?_
        exact hx6
      · refine emit_keeps (hm.mono (by rfl)) ?_
        exact hx6
    clear_value x8
    extract_lets +onlyGivenNames x9
    clear_value x9
    extract_lets +onlyGivenNames x10
    have hx10 : Keeps M s0 x10 := by
      subst x10
      refine setMrkPort_keeps (hm.mono (by rfl)) ?_
      exact hx8
    clear_value x10
    extract_lets +onlyGivenNames x11
    clear_value x11
    extract_lets +onlyGivenNames x12
    have hx12 : Keeps M s0 x12 := by
      subst x12
      apply keeps_foldl
      · intro t13 x14 h15
        refine endMark_keeps (hm.mono (by rfl)) ?_
        exact h15
      · exact hx10
    clear_value x12
    refine burstCheck_keeps (hm.mono (by rfl)) ?_
    exact hx12

theorem lineTimeout_keeps {s : State} {p : Nat} {j : Nat} (hm : Sub
    0x20000018400000080010000000000000003800200000420400000000000007C000004000000000000000000038D56683FFFFD502780003FA0E3FD0C123CE0180000023067FA4A96 M) (hs : Keeps M s0 s) :
    Keeps M s0 (State.lineTimeout s p j) := by
  unfold State.lineTimeout
  extract_lets +onlyGivenNames x1
  clear_value x1
  apply keeps_ite
  · refine namedMissing_keeps (hm.mono (by rfl)) ?_
    refine replaceLine_keeps (hm.mono (by rfl)) ?_
    refine count_keeps (hm.at .CAM_MISSING_CNT (by rfl)) ?_
    exact hs
  · exact hs

theorem markJoin_keeps {s : State} {x : Mark} {b : Burst} {first : Bool} (hm : Sub
    0x18400000080010000000000000003800200000000000000000000000000000003400A00000000000000000000000000000000000000000000000000000000000100184200 M) (hs : Keeps M s0 s) :
    Keeps M s0 (State.markJoin s x b first) := by
  unfold State.markJoin
  apply keeps_ite
  · refine endMark_keeps (hm.mono (by rfl)) ?_
    exact hs
  · extract_lets +onlyGivenNames x1
    clear_value x1
    extract_lets +onlyGivenNames x2
    clear_value x2
    extract_lets +onlyGivenNames x3
    clear_value x3
    extract_lets +onlyGivenNames x4
    clear_value x4
    refine setMarks_keeps (hm.mono (by rfl)) ?_
    exact hs

theorem markCompare_keeps {s : State} {x : Mark} (hm : Sub
    0x18400000080010000000000000003800200000000000000000000000000000013400A00000000000000000000000000000000000000000000000000000000000100184202 M) (hs : Keeps M s0 s) :
    Keeps M s0 (State.markCompare s x) := by
  unfold State.markCompare
  split
  · refine markJoin_keeps (hm.mono (by rfl)) ?_
    exact hs
  · extract_lets +onlyGivenNames x1
    have hx1 : Keeps M s0 x1 := by
      subst x1
      refine burstStart_keeps (hm.mono (by rfl)) ?_
      exact hs
    clear_value x1
    split
    · refine markJoin_keeps (hm.mono (by rfl)) ?_
      exact hx1
    · exact hx1

theorem settle_keeps {s : State} (hm : Sub
    0x20000000184000000A1850000000000080003800A005000000023004000003C0000000403C00A00000000080007FFD76803F86C4E0000020000200D0800000018500682477FFE7296 M) (hs : Keeps M s0 s) :
    Keeps M s0 (State.settle s) := by
  unfold State.settle
  split
  · refine modeAct_keeps (hm.mono (by rfl)) ?_
    refine put_keeps (hm.at .GLB_STATUS (by rfl)) ?_
    refine upd_glb_keeps (hm.mono (by rfl)) (.inr rfl) (.inl (hm.bit (by rfl))) (.inr rfl) ?_
    exact hs
  · exact hs

theorem transCheck_keeps {s : State} (hm : Sub
    0x20000000184000000A1850000000000080003800A005000000023004000003C0000000403C00A00000000080007FFD76803F86C4E0000020000200D0800000018500682477FFE7296 M) (hs : Keeps M s0 s) :
    Keeps M s0 (State.transCheck s) := by
  unfold State.transCheck
  refine settle_keeps (hm.mono (by rfl)) ?_
  refine leaveTry_keeps (hm.mono (by rfl)) ?_
  exact hs

theorem mrkFault_keeps {s : State} {m : Nat} {reason : Nat} (hm : Sub
    0x20000018400000080010000000000000003800200000000000000000000000000000003400A000000000000000000000000000000000000000000000000000000000201001A4204 M) (hs : Keeps M s0 s) :
    Keeps M s0 (State.mrkFault s m reason) := by
  unfold State.mrkFault
  extract_lets +onlyGivenNames x1
  have hx1 : Keeps M s0 x1 := by
    subst x1
    refine mrkQuiet_keeps (hm.mono (by rfl)) ?_
    refine dropMarks_keeps (hm.mono (by rfl)) ?_
    exact hs
  clear_value x1
  extract_lets +onlyGivenNames x2
  have hx2 : Keeps M s0 x2 := by
    subst x2
    refine put_keeps (hm.at .MRK_PSTAT (by rfl)) ?_
    refine put_keeps (hm.at .MRK_PSTAT (by rfl)) ?_
    exact hx1
  clear_value x2
  extract_lets +onlyGivenNames x3
  clear_value x3
  extract_lets +onlyGivenNames x4
  have hx4 : Keeps M s0 x4 := by
    subst x4
    refine setMrkPort_keeps (hm.mono (by rfl)) ?_
    exact hx2
  clear_value x4
  refine fault_keeps (hm.mono (by rfl)) ?_
  exact hx4

/-- Choosing the next job only takes it from its queue. -/
theorem nextJob_keeps {s t : State} {j : ArcJob} (hm : Sub 0x42000000 M) (h : s.nextJob = some (j, t))
    (hs : Keeps M s0 s) : Keeps M s0 t := by
  have host : ∀ (o : Option (ArcJob × State)), (o = match s.arc.hostQ, s.arc.stripQ with
      | j :: r, _ => some (j, { s with arc := { s.arc with hostQ := r, lastHost := true } })
      | [], j :: r => some (j, { s with arc := { s.arc with stripQ := r, lastHost := true } })
      | [], [] => none) → o = some (j, t) → Keeps M s0 t := by
    intro o ho h
    subst ho
    split at h <;> cases h <;> exact upd_arc_keeps (hm.mono (by rfl)) (.inr rfl) hs
  have obj : ∀ (o : Option (ArcJob × State)), (o = match s.seg.snipQ with
      | q :: r => some (snipJob q, { s with
          seg := { s.seg with snipQ := r }
          arc := { s.arc with lastHost := false } })
      | [] => none) → o = some (j, t) → Keeps M s0 t := by
    intro o ho h
    subst ho
    split at h <;> cases h
    exact upd_seg_arc_keeps (hm.mono (by rfl)) (.inr rfl) hs
  unfold State.nextJob at h
  dsimp only at h
  split at h <;> rw [Option.orElse_eq_or, Option.or_eq_some_iff] at h <;> rcases h with h | ⟨_, h⟩
  · exact obj _ rfl h
  · exact host _ rfl h
  · exact host _ rfl h
  · exact obj _ rfl h

theorem openPosGap_keeps {s : State} (hm : Sub 0x1000 M) (hs : Keeps M s0 s) :
    Keeps M s0 (State.openPosGap s) := by
  unfold State.openPosGap
  extract_lets +onlyGivenNames x1
  clear_value x1
  refine upd_glb_keeps (hm.mono (by rfl)) (.inr rfl) (.inr rfl) (.inr rfl) ?_
  exact hs

theorem portCalibrated_keeps {s : State} {p : Nat} (hm : Sub 0x10000000E0080000000000000000 M) (hs : Keeps M s0 s) :
    Keeps M s0 (State.portCalibrated s p) := by
  unfold State.portCalibrated
  extract_lets +onlyGivenNames x1
  have hx1 : Keeps M s0 x1 := by
    subst x1
    refine put_keeps (hm.at .CAM_STATUS (by rfl)) ?_
    exact hs
  clear_value x1
  extract_lets +onlyGivenNames x2
  have hx2 : Keeps M s0 x2 := by
    subst x2
    apply keeps_forBelow
    · intro x3 t4 h5
      refine putB_keeps (hm.at .COR_STALE (by rfl)) ?_
      exact h5
    · exact hx1
  clear_value x2
  extract_lets +onlyGivenNames x6
  have hx6 : Keeps M s0 x6 := by
    subst x6
    refine wr_keeps (hm.at .CAM_CAL_SERIAL_HI (by rfl)) ?_
    refine wr_keeps (hm.at .CAM_CAL_SERIAL_LO (by rfl)) ?_
    exact hx2
  clear_value x6
  refine put_keeps (hm.at .CAM_CAL_REPAIR (by rfl)) ?_
  exact hx6

theorem posCheckOver_keeps {s : State} {passed : Bool} (hm : Sub 0x2000000001000 M) (hs : Keeps M s0 s) :
    Keeps M s0 (State.posCheckOver s passed) := by
  unfold State.posCheckOver
  extract_lets +onlyGivenNames x1
  subst x1
  extract_lets +onlyGivenNames x2
  have hx2 : Keeps M s0 x2 := by
    subst x2
    refine upd_glb_keeps (hm.mono (by rfl)) (.inr rfl) (.inr rfl) (.inr rfl) ?_
    exact hs
  clear_value x2
  apply keeps_ite
  · exact hx2
  · refine put_keeps (hm.at .GLB_STATUS (by rfl)) ?_
    exact hx2

theorem prehFail_keeps {s : State} {p : Nat} (hm : Sub
    0x18400000000000000000000000000000000000000000000000000000000000000000000000000000000000000000000000000000000200D08000000180000000000C04004 M) (hs : Keeps M s0 s) :
    Keeps M s0 (State.prehFail s p) := by
  unfold State.prehFail
  apply keeps_ite
  · refine prehEnd_keeps (hm.mono (by rfl)) ?_
    exact hs
  · exact hs

theorem prehStart_keeps {s : State} {p : Nat} (hm : Sub
    0x18400000000000000000000000000000000000000000000000000000000000000000000000000000000000000000000000000000000200D00000000080000000004C04004 M) (hs : Keeps M s0 s) :
    Keeps M s0 (State.prehStart s p) := by
  unfold State.prehStart
  extract_lets +onlyGivenNames x1
  clear_value x1
  apply keeps_ite
  · extract_lets +onlyGivenNames x2
    clear_value x2
    extract_lets +onlyGivenNames x3
    clear_value x3
    extract_lets +onlyGivenNames x4
    have hx4 : Keeps M s0 x4 := by
      subst x4
      refine upd_sti_keeps (hm.mono (by rfl)) ?_
      exact hs
    clear_value x4
    extract_lets +onlyGivenNames x5
    have hx5 : Keeps M s0 x5 := by
      subst x5
      apply keeps_forBelow
      · intro x6 t7 h8
        extract_lets +onlyGivenNames x9
        clear_value x9
        refine setCorHead_keeps (hm.mono (by rfl)) ?_
        refine ffAbandon_keeps (hm.mono (by rfl)) ?_
        exact h8
      · exact hx4
    clear_value x5
    refine put_keeps (hm.at .CAM_STATUS (by rfl)) ?_
    refine setCamPort_keeps (hm.mono (by rfl)) ?_
    exact hx5
  · exact hs

theorem rehearsalEnd_keeps {s : State} {timeout : Bool} (hm : Sub
    0x18400000000000000000000000000000000000000000000000000000000000000000000000000000000000000000000000000000000201D000000E0180006800000C25004 M) (hs : Keeps M s0 s) :
    Keeps M s0 (State.rehearsalEnd s timeout) := by
  unfold State.rehearsalEnd
  extract_lets +onlyGivenNames x1
  have hx1 : Keeps M s0 x1 := by
    subst x1
    apply keeps_forBelow
    · intro x2 t3 h4
      refine ffAbandon_keeps (hm.mono (by rfl)) ?_
      exact h4
    · exact hs
  clear_value x1
  extract_lets +onlyGivenNames x5
  have hx5 : Keeps M s0 x5 := by
    subst x5
    apply keeps_ite
    · refine raise_keeps (hm.mono (by rfl)) (hm.at .GLB_EVENT (by rfl)) ?_
      exact hx1
    · exact hx1
  clear_value x5
  extract_lets +onlyGivenNames x6
  have hx6 : Keeps M s0 x6 := by
    subst x6
    refine raise_keeps (hm.mono (by rfl)) (hm.at .GLB_EVENT (by rfl)) ?_
    refine put_keeps (hm.at .GLB_STATUS (by rfl)) ?_
    exact hx5
  clear_value x6
  extract_lets +onlyGivenNames x7
  have hx7 : Keeps M s0 x7 := by
    subst x7
    apply keeps_forBelow
    · intro x8 t9 h10
      apply keeps_ite
      · refine portCalibrated_keeps (hm.mono (by rfl)) ?_
        exact h10
      · apply keeps_ite
        · refine camStale_keeps (hm.mono (by rfl)) ?_
          exact h10
        · exact h10
    · exact hx6
  clear_value x7
  extract_lets +onlyGivenNames x11
  clear_value x11
  extract_lets +onlyGivenNames x12
  clear_value x12
  extract_lets +onlyGivenNames x13
  subst x13
  extract_lets +onlyGivenNames x14
  have hx14 : Keeps M s0 x14 := by
    subst x14
    apply keeps_ite
    · refine calibGroup_keeps (hm.mono (by rfl)) ?_
      exact hx7
    · refine calibNote_keeps (hm.mono (by rfl)) ?_
      exact hx7
  clear_value x14
  refine enterPerform_keeps (hm.mono (by rfl)) ?_
  exact hx14

theorem shiftNext_keeps {s : State} {m : Nat} (hm : Sub 0x100000004 M) (hs : Keeps M s0 s) :
    Keeps M s0 (State.shiftNext s m) := by
  unfold State.shiftNext
  split
  · refine shiftFirst_keeps (hm.mono (by rfl)) ?_
    exact hs
  · refine shiftData_keeps (hm.mono (by rfl)) ?_
    exact hs

theorem statMeasure_keeps {s : State} {m : Nat} {p : Nat} {h : Nat} (hm : Sub
    0x18400000000000000000000000000000000000000000000000000000000000040400200000000000000000000000000000000000000000000000000000000000100004004 M) (hs : Keeps M s0 s) :
    Keeps M s0 (State.statMeasure s m p h) := by
  unfold State.statMeasure
  apply keeps_ite
  · extract_lets +onlyGivenNames x1
    clear_value x1
    extract_lets +onlyGivenNames x2
    clear_value x2
    extract_lets +onlyGivenNames x3
    clear_value x3
    extract_lets +onlyGivenNames x4
    have hx4 : Keeps M s0 x4 := by
      subst x4
      refine setMrkPort_keeps (hm.mono (by rfl)) ?_
      exact hs
    clear_value x4
    extract_lets +onlyGivenNames x5
    have hx5 : Keeps M s0 x5 := by
      subst x5
      refine put_keeps (hm.at .MRK_PSTAT (by rfl)) ?_
      refine put_keeps (hm.at .MRK_PSTAT (by rfl)) ?_
      exact hx4
    clear_value x5
    extract_lets +onlyGivenNames x6
    have hx6 : Keeps M s0 x6 := by
      subst x6
      refine put_keeps (hm.at .MRK_PSTAT (by rfl)) ?_
      exact hx5
    clear_value x6
    extract_lets +onlyGivenNames x7
    clear_value x7
    extract_lets +onlyGivenNames x8
    clear_value x8
    extract_lets +onlyGivenNames x9
    have hx9 : Keeps M s0 x9 := by
      subst x9
      refine raise_keeps (hm.mono (by rfl)) (hm.at .MRK_EVENT (by rfl)) ?_
      refine put_keeps (hm.at .MRK_PSTAT (by rfl)) ?_
      exact hx6
    clear_value x9
    extract_lets +onlyGivenNames x10
    have hx10 : Keeps M s0 x10 := by
      subst x10
      apply keeps_ite
      · apply keeps_ite
        · apply keeps_ite
          · exact hx9
          · refine shiftNext_keeps (hm.mono (by rfl)) ?_
            exact hx9
        · exact hx6
      · apply keeps_ite
        · refine raise_keeps (hm.mono (by rfl)) (hm.at .MRK_EVENT (by rfl)) ?_
          refine put_keeps (hm.at .MRK_PSTAT (by rfl)) ?_
          exact hx6
        · exact hx6
    clear_value x10
    apply keeps_ite
    · refine shiftFirst_keeps (hm.mono (by rfl)) ?_
      refine put_keeps (hm.at .MRK_PSTAT (by rfl)) ?_
      exact hx10
    · exact hx10
  · refine count_keeps (hm.at .MRK_STAT_ERR_CNT (by rfl)) ?_
    exact hs

theorem verifyDone_keeps {s : State} (hm : Sub
    0x18400000000000000000000000000000000000000000000000000000000000000000000000000000000000000000000000000000000000000000000000006800000025000 M) (hs : Keeps M s0 s) :
    Keeps M s0 (State.verifyDone s) := by
  unfold State.verifyDone
  extract_lets +onlyGivenNames x1
  have hx1 : Keeps M s0 x1 := by
    subst x1
    refine raise_keeps (hm.mono (by rfl)) (hm.at .GLB_EVENT (by rfl)) ?_
    refine put_keeps (hm.at .GLB_STATUS (by rfl)) ?_
    exact hs
  clear_value x1
  refine enterPerform_keeps (hm.mono (by rfl)) ?_
  exact hx1

theorem verifyTimeout_keeps {s : State} (hm : Sub
    0x18400000000000000000000000000000000000000000000000000000000000000000000000000000000000000000000000000000000000000000000000006800000025000 M) (hs : Keeps M s0 s) :
    Keeps M s0 (State.verifyTimeout s) := by
  unfold State.verifyTimeout
  extract_lets +onlyGivenNames x1
  clear_value x1
  extract_lets +onlyGivenNames x2
  have hx2 : Keeps M s0 x2 := by
    subst x2
    apply keeps_ite
    · refine put_keeps (hm.at .GLB_STATUS (by rfl)) ?_
      exact hs
    · exact hs
  clear_value x2
  extract_lets +onlyGivenNames x3
  have hx3 : Keeps M s0 x3 := by
    subst x3
    apply keeps_ite
    · refine put_keeps (hm.at .GLB_STATUS (by rfl)) ?_
      exact hx2
    · exact hx2
  clear_value x3
  extract_lets +onlyGivenNames x4
  have hx4 : Keeps M s0 x4 := by
    subst x4
    apply keeps_ite
    · refine openPosGap_keeps (hm.mono (by rfl)) ?_
      refine put_keeps (hm.at .GLB_STATUS (by rfl)) ?_
      exact hx3
    · exact hx3
  clear_value x4
  refine verifyDone_keeps (hm.mono (by rfl)) ?_
  exact hx4

end Sys2Proof.Machine
end

