-- ==== Sys2Proof/Laws/KeepsBus.lean ====
section
/-! SUPPORT. Laws/KeepsBus.lean: the same for register accesses and the DMA, said once as Keeps (Safety.lean). -/

namespace Sys2Proof.Machine

variable {s0 : State} {M : Nat}

theorem dmaShow_keeps {s : State} (hm : Sub
    0xFE00000000000000000000000000000000000000000000000000000000000000000000000000000000000000 M) (hs : Keeps M s0 s) :
    Keeps M s0 (State.dmaShow s) := by
  unfold State.dmaShow
  split
  · exact hs
  · extract_lets +onlyGivenNames x1
    subst x1
    extract_lets +onlyGivenNames x2
    subst x2
    extract_lets +onlyGivenNames x3
    clear_value x3
    extract_lets +onlyGivenNames x4
    have hx4 : Keeps M s0 x4 := by
      subst x4
      refine setPair_keeps (hm.at .DMA_ASRC_L (by rfl)) (hm.at .DMA_ASRC_H (by rfl)) ?_
      exact hs
    clear_value x4
    extract_lets +onlyGivenNames x5
    have hx5 : Keeps M s0 x5 := by
      subst x5
      refine setPair_keeps (hm.at .DMA_ADST_L (by rfl)) (hm.at .DMA_ADST_H (by rfl)) ?_
      exact hx4
    clear_value x5
    extract_lets +onlyGivenNames x6
    have hx6 : Keeps M s0 x6 := by
      subst x6
      refine wr_keeps (hm.at .DMA_AREM (by rfl)) ?_
      exact hx5
    clear_value x6
    extract_lets +onlyGivenNames x7
    have hx7 : Keeps M s0 x7 := by
      subst x7
      refine wr_keeps (hm.at .DMA_AIDX (by rfl)) ?_
      exact hx6
    clear_value x7
    refine put_keeps (hm.at .DMA_ACTRL (by rfl)) ?_
    exact hx7

theorem dmaRetire_keeps {s : State} (hm : Sub 0x8080000000 M) (hs : Keeps M s0 s) :
    Keeps M s0 (State.dmaRetire s) := by
  unfold State.dmaRetire
  split
  · exact hs
  · extract_lets +onlyGivenNames x1
    subst x1
    extract_lets +onlyGivenNames x2
    clear_value x2
    extract_lets +onlyGivenNames x3
    subst x3
    extract_lets +onlyGivenNames x4
    clear_value x4
    extract_lets +onlyGivenNames x5
    clear_value x5
    refine upd_dma_keeps (hm.mono (by rfl)) (.inl (hm.bit (by rfl))) ?_
    exact hs

theorem setRun_keeps {s : State} {r : DmaRun} (hm : Sub 0x8080000000 M) (hs : Keeps M s0 s) :
    Keeps M s0 (State.setRun s r) := by
  unfold State.setRun
  refine upd_dma_keeps (hm.mono (by rfl)) (.inl (hm.bit (by rfl))) ?_
  exact hs

theorem dmaShowLog_keeps {s : State} (hm : Sub
    0x4000000000000000000000000000000000000000000000000000000000000000000000000000000000000 M) (hs : Keeps M s0 s) :
    Keeps M s0 (State.dmaShowLog s) := by
  unfold State.dmaShowLog
  refine wr_keeps (hm.at .DMA_ERRLOG (by rfl)) ?_
  exact hs

theorem dmaLog_keeps {s : State} {c : Nat} {dst : Bool} {kind : Nat} {index : Nat} (hm : Sub
    0x100004000000000000000000000000000000000000000000000000000000000000000000000000000080000000 M) (hs : Keeps M s0 s) :
    Keeps M s0 (State.dmaLog s c dst kind index) := by
  unfold State.dmaLog
  apply keeps_ite
  · extract_lets +onlyGivenNames x1
    clear_value x1
    refine dmaShowLog_keeps (hm.mono (by rfl)) ?_
    refine upd_dma_keeps (hm.mono (by rfl)) (.inr rfl) ?_
    exact hs
  · refine count_keeps (hm.at .DMA_ERRLOG_OVF_CNT (by rfl)) ?_
    exact hs

theorem dmaBad_keeps {s : State} {c : Nat} {dst : Bool} {kind : Nat} {index : Nat} (hm : Sub
    0x18400000000000000000000000000000000000000000000140005000000000000000000000000000000000000000000000000000000000000000000000000000080004000 M) (hs : Keeps M s0 s) :
    Keeps M s0 (State.dmaBad s c dst kind index) := by
  unfold State.dmaBad
  extract_lets +onlyGivenNames x1
  have hx1 : Keeps M s0 x1 := by
    subst x1
    refine count_keeps (hm.at .DMA_BADDESC_CNT (by rfl)) ?_
    refine dmaLog_keeps (hm.mono (by rfl)) ?_
    exact hs
  clear_value x1
  refine raise_keeps (hm.mono (by rfl)) (hm.at .DMA_EVENT (by rfl)) ?_
  exact hx1

theorem entryBad_keeps {s : State} {source : Bool} {idx : Nat} {kind : Nat} {stop : Bool} (hm : Sub
    0x18400000000000000000000000000000000000000000000140005000000000000000000000000000000000000000000000000000000000000000000000000008080004000 M) (hs : Keeps M s0 s) :
    Keeps M s0 (State.entryBad s source idx kind stop) := by
  unfold State.entryBad
  split
  · exact hs
  · split
    · exact hs
    · extract_lets +onlyGivenNames x1
      clear_value x1
      apply keeps_ite
      · refine setRun_keeps (hm.mono (by rfl)) ?_
        exact hs
      · refine dmaBad_keeps (hm.mono (by rfl)) ?_
        refine setRun_keeps (hm.mono (by rfl)) ?_
        exact hs

theorem onRun_keeps {s : State} {f : DmaRun → DmaRun} (hm : Sub 0x8080000000 M) (hs : Keeps M s0 s) :
    Keeps M s0 (State.onRun s f) := by
  unfold State.onRun
  split
  · exact hs
  · refine setRun_keeps (hm.mono (by rfl)) ?_
    exact hs

theorem writeWin_keeps {s : State} {q : Requester} {w : Win} {a : Nat} {v : Word} (hm : Sub 0x800000000000080 M) (hs :
    Keeps M s0 s) :
    Keeps M s0 (State.writeWin s q w a v) := by
  unfold State.writeWin
  apply keeps_ite
  · refine setTab_keeps (hm.mono (by rfl)) ?_
    exact hs
  · refine accessError_keeps (hm.mono (by rfl)) ?_
    exact hs

theorem sramOctet_keeps {s : State} {addr : Nat} {b : Byte} (hm : Sub 0x800000000000080 M) (hs : Keeps M s0 s) :
    Keeps M s0 (State.sramOctet s addr b).2 := by
  unfold State.sramOctet
  split
  · extract_lets +onlyGivenNames x1
    clear_value x1
    extract_lets +onlyGivenNames x2
    clear_value x2
    extract_lets +onlyGivenNames x3
    clear_value x3
    dsimp only
    refine writeWin_keeps (hm.mono (by rfl)) ?_
    exact hs
  · exact hs

theorem sramWord_keeps {s : State} {addr : Nat} {v : Word} (hm : Sub 0x800000000000080 M) (hs : Keeps M s0 s) :
    Keeps M s0 (State.sramWord s addr v).2 := by
  unfold State.sramWord
  split
  · dsimp only
    refine writeWin_keeps (hm.mono (by rfl)) ?_
    exact hs
  · exact hs

theorem sramWrite_keeps {s : State} {addr : Nat} {bs : List Byte} (hm : Sub 0x800000000000080 M) (hs : Keeps M s0 s) :
    Keeps M s0 (State.sramWrite s addr bs).2 := by
  unfold State.sramWrite
  split
  · exact hs
  · refine sramOctet_keeps (hm.mono (by rfl)) ?_
    exact hs
  · extract_lets +onlyGivenNames x1
    have hx1 : Keeps M s0 x1.2 := by
      subst x1
      refine sramOctet_keeps (hm.mono (by rfl)) ?_
      exact hs
    clear_value x1
    apply keeps_ite_snd
    · refine sramOctet_keeps (hm.mono (by rfl)) ?_
      exact hx1
    · exact hx1
  · apply keeps_ite_snd
    · split
      · extract_lets +onlyGivenNames x2
        have hx2 : Keeps M s0 x2.2 := by
          subst x2
          refine sramOctet_keeps (hm.mono (by rfl)) ?_
          refine sramOctet_keeps (hm.mono (by rfl)) ?_
          exact hs
        clear_value x2
        refine sramOctet_keeps (hm.mono (by rfl)) ?_
        exact hx2
      · extract_lets +onlyGivenNames x3
        have hx3 : Keeps M s0 x3.2 := by
          subst x3
          refine sramWord_keeps (hm.mono (by rfl)) ?_
          exact hs
        clear_value x3
        apply keeps_ite_snd
        · refine sramWrite_keeps (hm.mono (by rfl)) ?_
          exact hx3
        · exact hx3
    · extract_lets +onlyGivenNames x4
      have hx4 : Keeps M s0 x4.2 := by
        subst x4
        refine sramOctet_keeps (hm.mono (by rfl)) ?_
        exact hs
      clear_value x4
      apply keeps_ite_snd
      · refine sramWrite_keeps (hm.mono (by rfl)) ?_
        exact hx4
      · exact hx4

theorem writeLow_keeps {s : State} {q : Requester} {lo : Reg} {hi : Reg} {i : Nat} {v : Word} (hm : Sub
    0x7FFFFFFFFFFFFFFFFFFFFFFFFFFFFFFFFFFFFFFFFFFFFFFFFFFFFFFFFFFFFFFFFFFFFFFFFFFFFFFFFFFFFFFFFFFFFFFFFFFFFFFFFFFFFFFFFFFFFFFFFFFFFFFFFFFFFFFFC00000000040 M) (hs : Keeps M s0 s) :
    Keeps M s0 (State.writeLow s q lo hi i v) := by
  unfold State.writeLow
  extract_lets +onlyGivenNames x1
  clear_value x1
  extract_lets +onlyGivenNames x2
  clear_value x2
  extract_lets +onlyGivenNames x3
  have hx3 : Keeps M s0 x3 := by
    subst x3
    apply keeps_ite
    · refine accessError_keeps (hm.mono (by rfl)) ?_
      exact hs
    · exact hs
  clear_value x3
  apply keeps_ite
  · extract_lets +onlyGivenNames x4
    clear_value x4
    refine setStage_keeps (hm.mono (by rfl)) ?_
    refine wr_keeps (hm.reg (by rfl) _) ?_
    refine wr_keeps (hm.reg (by rfl) _) ?_
    exact hx3
  · exact hx3

theorem writeHigh_keeps {s : State} {q : Requester} {lo : Reg} {hi : Reg} {i : Nat} {v : Word} (hm : Sub 0x800000000000040
    M) (hs : Keeps M s0 s) :
    Keeps M s0 (State.writeHigh s q lo hi i v) := by
  unfold State.writeHigh
  extract_lets +onlyGivenNames x1
  clear_value x1
  extract_lets +onlyGivenNames x2
  clear_value x2
  extract_lets +onlyGivenNames x3
  have hx3 : Keeps M s0 x3 := by
    subst x3
    apply keeps_ite
    · refine accessError_keeps (hm.mono (by rfl)) ?_
      exact hs
    · exact hs
  clear_value x3
  apply keeps_ite
  · extract_lets +onlyGivenNames x4
    clear_value x4
    refine setStage_keeps (hm.mono (by rfl)) ?_
    exact hx3
  · exact hx3

theorem reload_keeps {s : State} (hm : Sub
    0x7FFFFFFFFFFFFFFFFFFFFFFFFFFFFFFFFFFFFFFFFFFFFFFFFFFFFFFFFFFFFFFFFFFFFFFFFFFFFFFFFFFFFFFFFFFFFFFFFFFFFFFFFFFFFFFFFFFFFFFFFFFFFFFFFFFFFFFFCBFFFFFFFAFC M) (hs : Keeps M s0 s) :
    Keeps M s0 (State.reload s) := by
  unfold State.reload
  refine loadStart_keeps (hm.mono (by rfl)) ?_
  refine freeze_keeps (hm.mono (by rfl)) ?_
  exact hs

theorem glbCtrl_keeps {s : State} {v : Word} (hm : Sub
    0x7FFFFFFFFFFFFFFFFFFFFFFFFFFFFFFFFFFFFFFFFFFFFFFFFFFFFFFFFFFFFFFFFFFFFFFFFFFFFFFFFFFFFFFFFFFFFFFFFFFFFFFFFFFFFFFFFFFFFFFFFFFFFFFFFFFFFFFFCBFFFFFFFAFE M) (hs : Keeps M s0 s) :
    Keeps M s0 (State.glbCtrl s v) := by
  unfold State.glbCtrl
  extract_lets +onlyGivenNames x1
  subst x1
  extract_lets +onlyGivenNames x2
  have hx2 : Keeps M s0 x2 := by
    subst x2
    apply keeps_when
    · intro t3 h4
      refine put_keeps (hm.at .GLB_STATUS (by rfl)) ?_
      exact h4
    · exact hs
  clear_value x2
  apply keeps_ite
  · refine reload_keeps (hm.mono (by rfl)) ?_
    exact hx2
  · extract_lets +onlyGivenNames x5
    have hx5 : Keeps M s0 x5 := by
      subst x5
      apply keeps_when
      · intro t6 h7
        refine modeRequest_keeps (hm.mono (by rfl)) ?_
        exact h7
      · exact hx2
    clear_value x5
    extract_lets +onlyGivenNames x8
    have hx8 : Keeps M s0 x8 := by
      subst x8
      apply keeps_when
      · intro t9 h10
        refine modeRequest_keeps (hm.mono (by rfl)) ?_
        exact h10
      · exact hx5
    clear_value x8
    apply keeps_when
    · intro t11 h12
      refine modeRequest_keeps (hm.mono (by rfl)) ?_
      exact h12
    · exact hx8

theorem camRetry_keeps {s : State} {p : Nat} (hm : Sub 0x2000000080000000008400000 M) (hs : Keeps M s0 s) :
    Keeps M s0 (State.camRetry s p) := by
  unfold State.camRetry
  apply keeps_ite
  · refine camAlign_keeps (hm.mono (by rfl)) ?_
    refine count_keeps (hm.at .CAM_RETRY_CNT (by rfl)) ?_
    exact hs
  · exact hs

theorem camCtrl_keeps {s : State} {p : Nat} {v : Word} (hm : Sub
    0x20000018400000080010000000000000003800200502420400000000000007C000004000000000000000000038D56683FFFFD502780003FA0E3FD0A0000E018000002306FFA4A94 M) (hs : Keeps M s0 s) :
    Keeps M s0 (State.camCtrl s p v) := by
  unfold State.camCtrl
  extract_lets +onlyGivenNames x1
  have hx1 : Keeps M s0 x1 := by
    subst x1
    apply keeps_ite
    · refine camEnable_keeps (hm.mono (by rfl)) ?_
      exact hs
    · apply keeps_ite
      · refine quadReleased_keeps (hm.mono (by rfl)) ?_
        refine camDisable_keeps (hm.mono (by rfl)) ?_
        exact hs
      · exact hs
  clear_value x1
  apply keeps_when
  · intro t2 h3
    refine camRetry_keeps (hm.mono (by rfl)) ?_
    exact h3
  · exact hx1

theorem dmaPop_keeps {s : State} (hm : Sub
    0x4000000000000000000000000000000000000000000000000000000000000000000000000000080000000 M) (hs : Keeps M s0 s) :
    Keeps M s0 (State.dmaPop s) := by
  unfold State.dmaPop
  refine dmaShowLog_keeps (hm.mono (by rfl)) ?_
  refine upd_dma_keeps (hm.mono (by rfl)) (.inr rfl) ?_
  exact hs

theorem dmaHandover_keeps {s : State} {c : Nat} (hm : Sub
    0x3E10800000000000000000000000000000000000000000000000000000000000000000000000000080000000 M) (hs : Keeps M s0 s) :
    Keeps M s0 (State.dmaHandover s c) := by
  unfold State.dmaHandover
  apply keeps_ite
  · extract_lets +onlyGivenNames x1
    clear_value x1
    extract_lets +onlyGivenNames x2
    clear_value x2
    extract_lets +onlyGivenNames x3
    have hx3 : Keeps M s0 x3 := by
      subst x3
      refine wr_keeps (hm.at .DMA_ACTRL (by rfl)) ?_
      exact hs
    clear_value x3
    extract_lets +onlyGivenNames x4
    have hx4 : Keeps M s0 x4 := by
      subst x4
      refine put_keeps (hm.at .DMA_ACTRL (by rfl)) ?_
      exact hx3
    clear_value x4
    extract_lets +onlyGivenNames x5
    have hx5 : Keeps M s0 x5 := by
      subst x5
      refine setPair_keeps (hm.at .DMA_ASRC_L (by rfl)) (hm.at .DMA_ASRC_H (by rfl)) ?_
      exact hx4
    clear_value x5
    extract_lets +onlyGivenNames x6
    have hx6 : Keeps M s0 x6 := by
      subst x6
      refine setPair_keeps (hm.at .DMA_ADST_L (by rfl)) (hm.at .DMA_ADST_H (by rfl)) ?_
      exact hx5
    clear_value x6
    extract_lets +onlyGivenNames x7
    have hx7 : Keeps M s0 x7 := by
      subst x7
      refine put_keeps (hm.at .DMA_SCTRL (by rfl)) ?_
      exact hx6
    clear_value x7
    extract_lets +onlyGivenNames x8
    subst x8
    extract_lets +onlyGivenNames x9
    have hx9 : Keeps M s0 x9 := by
      subst x9
      refine upd_dma_keeps (hm.mono (by rfl)) (.inr rfl) ?_
      exact hx7
    clear_value x9
    refine put_keeps (hm.at .DMA_STATUS (by rfl)) ?_
    exact hx9
  · exact hs

theorem dmaArm_keeps {s : State} {c : Nat} (hm : Sub
    0x3E10800000000000000000000000000000000000000000000000000000000000000000000000000080000000 M) (hs : Keeps M s0 s) :
    Keeps M s0 (State.dmaArm s c) := by
  unfold State.dmaArm
  refine dmaHandover_keeps (hm.mono (by rfl)) ?_
  refine put_keeps (hm.at .DMA_SCTRL (by rfl)) ?_
  exact hs

theorem laneLost_keeps {s : State} {l : Nat} (hm : Sub
    0x200000184000002A1A50010000000080003800A0C112420400000000000007C00000400000000000000000007EFD6683FFFFD542786023FA0E3FD080000E018000002306FFE4A94 M) (hs : Keeps M s0 s) :
    Keeps M s0 (State.laneLost s l) := by
  unfold State.laneLost
  apply keeps_ite
  · refine camLaneLost_keeps (hm.mono (by rfl)) ?_
    exact hs
  · apply keeps_ite
    · refine fabPortDown_keeps (hm.mono (by rfl)) ?_
      exact hs
    · refine hostLaneLost_keeps (hm.mono (by rfl)) ?_
      exact hs

theorem laneDeepSet_keeps {s : State} {l : Nat} {deep : Bool} (hm : Sub
    0x200000184000002A1A50010000000080003800A0C592420400000000000007C00000400000000000000000007EFD6683FFFFD542786023FA0E3FD080000E018000002306FFE4A94 M) (hs : Keeps M s0 s) :
    Keeps M s0 (State.laneDeepSet s l deep) := by
  unfold State.laneDeepSet
  extract_lets +onlyGivenNames x1
  have hx1 : Keeps M s0 x1 := by
    subst x1
    refine putB_keeps (hm.at .LNE_CTL (by rfl)) ?_
    exact hs
  clear_value x1
  split
  · extract_lets +onlyGivenNames x2
    have hx2 : Keeps M s0 x2 := by
      subst x2
      refine laneDown_keeps (hm.mono (by rfl)) ?_
      exact hx1
    clear_value x2
    apply keeps_ite
    · refine laneLost_keeps (hm.mono (by rfl)) ?_
      exact hx2
    · exact hx2
  · refine laneDown_keeps (hm.mono (by rfl)) ?_
    exact hx1
  · apply keeps_ite
    · exact hx1
    · refine laneDown_keeps (hm.mono (by rfl)) ?_
      exact hx1
  · exact hx1

theorem laneDrop_keeps {s : State} {l : Nat} {c : LaneCause} (hm : Sub
    0x200000184000002A1A50010000000080003800A0C112420400000000000007C00000400000000000000000007EFD6683FFFFD542786023FA0E3FD080000E018000002306FFE4A94 M) (hs : Keeps M s0 s) :
    Keeps M s0 (State.laneDrop s l c) := by
  unfold State.laneDrop
  apply keeps_ite
  · extract_lets +onlyGivenNames x1
    have hx1 : Keeps M s0 x1 := by
      subst x1
      refine laneRetrain_keeps (hm.mono (by rfl)) ?_
      exact hs
    clear_value x1
    apply keeps_ite
    · refine laneLost_keeps (hm.mono (by rfl)) ?_
      exact hx1
    · exact hx1
  · exact hs

theorem laneSlip_keeps {s : State} {l : Nat} (hm : Sub
    0x100000000000000000000000000000000000000000000000000000000000000000000000000000000000000000000008000000 M) (hs : Keeps
    M s0 s) :
    Keeps M s0 (State.laneSlip s l) := by
  unfold State.laneSlip
  apply keeps_ite
  · refine laneLoseBlocks_keeps (hm.mono (by rfl)) ?_
    refine put_keeps (hm.at .LNE_STATE (by rfl)) ?_
    exact hs
  · exact hs

theorem lneCtl_keeps {s : State} {l : Nat} {v : Word} (hm : Sub
    0x200000184000002A1A50010000000080003800A0C592420400000000000007C00000400000000000000000007EFD6683FFFFD542786023FA0E3FD080000E018000002306FFE4A94 M) (hs : Keeps M s0 s) :
    Keeps M s0 (State.lneCtl s l v) := by
  unfold State.lneCtl
  extract_lets +onlyGivenNames x1
  have hx1 : Keeps M s0 x1 := by
    subst x1
    refine laneDeepSet_keeps (hm.mono (by rfl)) ?_
    exact hs
  clear_value x1
  extract_lets +onlyGivenNames x2
  have hx2 : Keeps M s0 x2 := by
    subst x2
    apply keeps_when
    · intro t3 h4
      refine laneDrop_keeps (hm.mono (by rfl)) ?_
      exact h4
    · exact hx1
  clear_value x2
  apply keeps_when
  · intro t5 h6
    refine laneSlip_keeps (hm.mono (by rfl)) ?_
    exact h6
  · exact hx2

theorem berRestart_keeps {s : State} (hm : Sub
    0x400000000000000000000000000000000000000000000000000000000000000000000000000000000000000000000000000000 M) (hs : Keeps
    M s0 s) :
    Keeps M s0 (State.berRestart s) := by
  unfold State.berRestart
  apply keeps_forBelow
  · intro x1 t2 h3
    apply keeps_ite
    · refine put_keeps (hm.at .LNE_TSTAT (by rfl)) ?_
      exact h3
    · exact h3
  · exact hs

theorem setPin_keeps {s : State} {i : Nat} {x : Pin} (hm : Sub 0x4000 M) (hs : Keeps M s0 s) :
    Keeps M s0 (State.setPin s i x) := by
  unfold State.setPin
  refine upd_evt_keeps (fun x => x) (hm.mono (by rfl)) ?_
  exact hs

theorem pinAccept_keeps {s : State} {i : Nat} {level : Bool} (hm : Sub
    0x18400040000000000000000000000000000000000000000000000000000000000000000000000000000000000000000000000000000000000000000000000000000004000 M) (hs : Keeps M s0 s) :
    Keeps M s0 (State.pinAccept s i level) := by
  unfold State.pinAccept
  extract_lets +onlyGivenNames x1
  clear_value x1
  apply keeps_ite
  · exact hs
  · extract_lets +onlyGivenNames x2
    have hx2 : Keeps M s0 x2 := by
      subst x2
      refine setPin_keeps (hm.mono (by rfl)) ?_
      exact hs
    clear_value x2
    extract_lets +onlyGivenNames x3
    have hx3 : Keeps M s0 x3 := by
      subst x3
      refine put_keeps (hm.at .EVT_PINSTAT (by rfl)) ?_
      refine putB_keeps (hm.at .EVT_PINSTAT (by rfl)) ?_
      exact hx2
    clear_value x3
    apply keeps_ite
    · exact hx3
    · extract_lets +onlyGivenNames x4
      have hx4 : Keeps M s0 x4 := by
        subst x4
        apply keeps_ite
        · refine fire_keeps (hm.mono (by rfl)) ?_
          exact hx3
        · exact hx3
      clear_value x4
      apply keeps_ite
      · exact hx4
      · refine cellsNow_keeps (hm.mono (by rfl)) ?_
        exact hx4

theorem pinDrive_keeps {s : State} {i : Nat} {level : Bool} (hm : Sub
    0x18400040000000000000000000000000000000000000000000000000000000000000000000000000000000000000000000000000000000000000000000000000000004004 M) (hs : Keeps M s0 s) :
    Keeps M s0 (State.pinDrive s i level) := by
  unfold State.pinDrive
  extract_lets +onlyGivenNames x1
  clear_value x1
  extract_lets +onlyGivenNames x2
  have hx2 : Keeps M s0 x2 := by
    subst x2
    refine setPin_keeps (hm.mono (by rfl)) ?_
    exact hs
  clear_value x2
  refine pinAccept_keeps (hm.mono (by rfl)) ?_
  apply keeps_ite
  · exact hx2
  · refine emit_keeps (hm.mono (by rfl)) ?_
    exact hx2

theorem pinTask_keeps {s : State} {i : Nat} (hm : Sub
    0x18420044000000000000000000000000000000000000000000000000000000000000000000000000000000000000000000000000000000000000000000000000000004004 M) (hs : Keeps M s0 s) :
    Keeps M s0 (State.pinTask s i) := by
  unfold State.pinTask
  apply keeps_ite
  · exact hs
  · extract_lets +onlyGivenNames x1
    clear_value x1
    apply keeps_ite
    · refine pinDrive_keeps (hm.mono (by rfl)) ?_
      exact hs
    · extract_lets +onlyGivenNames x2
      have hx2 : Keeps M s0 x2 := by
        subst x2
        apply keeps_ite
        · refine overrun_keeps (hm.mono (by rfl)) ?_
          exact hs
        · exact hs
      clear_value x2
      refine pinDrive_keeps (hm.mono (by rfl)) ?_
      refine setPin_keeps (hm.mono (by rfl)) ?_
      exact hx2

theorem pmcTake_keeps {s : State} (hm : Sub 0x8000 M) (hs : Keeps M s0 s) :
    Keeps M s0 (State.pmcTake s) := by
  unfold State.pmcTake
  extract_lets +onlyGivenNames x1
  clear_value x1
  refine upd_pmc_keeps (hm.mono (by rfl)) ?_
  exact hs

theorem pmcStart_keeps {s : State} (hm : Sub
    0x100000000000000000000000000000000000000000000000000000000000000000000000000000000000000000000000000000000000000000000000000000000008000 M) (hs : Keeps M s0 s) :
    Keeps M s0 (State.pmcStart s) := by
  unfold State.pmcStart
  apply keeps_ite
  · exact hs
  · extract_lets +onlyGivenNames x1
    have hx1 : Keeps M s0 x1 := by
      subst x1
      refine put_keeps (hm.at .PMC_CTRL (by rfl)) ?_
      exact hs
    clear_value x1
    apply keeps_ite
    · exact hx1
    · refine pmcTake_keeps (hm.mono (by rfl)) ?_
      exact hx1

theorem pmcStop_keeps {s : State} (hm : Sub
    0x100000000000000000000000000000000000000000000000000000000000000000000000000000000000000000000000000000000000000000000000000000000008000 M) (hs : Keeps M s0 s) :
    Keeps M s0 (State.pmcStop s) := by
  unfold State.pmcStop
  extract_lets +onlyGivenNames x1
  have hx1 : Keeps M s0 x1 := by
    subst x1
    refine put_keeps (hm.at .PMC_CTRL (by rfl)) ?_
    exact hs
  clear_value x1
  refine upd_pmc_keeps (hm.mono (by rfl)) ?_
  exact hx1

theorem pmcSnap_keeps {s : State} (hm : Sub
    0x60000000000000000000000000000000000000000000000000000000000000000000000000000000000000000000000000000000000000000000000000000000000000000 M) (hs : Keeps M s0 s) :
    Keeps M s0 (State.pmcSnap s) := by
  unfold State.pmcSnap
  apply keeps_ite
  · exact hs
  · apply keeps_forBelow
    · intro x1 t2 h3
      refine setPair_keeps (hm.at .PMC_RES_LO (by rfl)) (hm.at .PMC_RES_HI (by rfl)) ?_
      exact h3
    · exact hs

theorem timeCap_keeps {s : State} {n : Nat} (hm : Sub
    0x780000000000000000000000000000000000000000000000000000000000000000000000000000000000000000000000000000000000000000000000000000000000 M) (hs : Keeps M s0 s) :
    Keeps M s0 (State.timeCap s n) := by
  unfold State.timeCap
  extract_lets +onlyGivenNames x1
  clear_value x1
  apply keeps_ite
  · refine setPair_keeps (hm.at .EVT_TCAP0_LO (by rfl)) (hm.at .EVT_TCAP0_HI (by rfl)) ?_
    exact hs
  · refine setPair_keeps (hm.at .EVT_TCAP1_LO (by rfl)) (hm.at .EVT_TCAP1_HI (by rfl)) ?_
    exact hs

theorem posCap_keeps {s : State} (hm : Sub
    0x1800000000000000000000000000000000000000000000000000000000000000000000000000000000000000000000000000000000000000000000000000000000000 M) (hs : Keeps M s0 s) :
    Keeps M s0 (State.posCap s) := by
  unfold State.posCap
  refine setPair_keeps (hm.at .EVT_YCAP_L (by rfl)) (hm.at .EVT_YCAP_H (by rfl)) ?_
  exact hs

theorem taskFire_keeps {s : State} {t : Nat} (hm : Sub
    0x2000000078521FC40A1850000000000080003800A005000000023004000003C0000000403C00A00000000080007FFD76803F86C4E0000020000200D0800000018500682477FFEF296 M) (hs : Keeps M s0 s) :
    Keeps M s0 (State.taskFire s t) := by
  unfold State.taskFire
  apply keeps_ite
  · exact hs
  · apply keeps_ite
    · refine cellTask_keeps (hm.mono (by rfl)) ?_
      exact hs
    · apply keeps_ite
      · refine pinTask_keeps (hm.mono (by rfl)) ?_
        exact hs
      · split
        · refine pmcStart_keeps (hm.mono (by rfl)) ?_
          exact hs
        · refine pmcStop_keeps (hm.mono (by rfl)) ?_
          exact hs
        · refine pmcSnap_keeps (hm.mono (by rfl)) ?_
          exact hs
        · refine timeCap_keeps (hm.mono (by rfl)) ?_
          exact hs
        · refine timeCap_keeps (hm.mono (by rfl)) ?_
          exact hs
        · refine posCap_keeps (hm.mono (by rfl)) ?_
          exact hs
        · refine modeRequest_keeps (hm.mono (by rfl)) ?_
          exact hs
        · refine modeRequest_keeps (hm.mono (by rfl)) ?_
          exact hs
        · refine modeRequest_keeps (hm.mono (by rfl)) ?_
          exact hs
        · exact hs

theorem setChan_keeps {s : State} {c : Nat} {x : Chan} (hm : Sub 0x4000 M) (hs : Keeps M s0 s) :
    Keeps M s0 (State.setChan s c x) := by
  unfold State.setChan
  refine upd_evt_keeps (fun x => x) (hm.mono (by rfl)) ?_
  exact hs

theorem loopReenable_keeps {s : State} {c : Nat} (hm : Sub
    0x10000000000000000000000000000000000000000000000000000000000000000000000000000000000000000000000000000000000000000000000000000004000 M) (hs : Keeps M s0 s) :
    Keeps M s0 (State.loopReenable s c) := by
  unfold State.loopReenable
  apply keeps_ite
  · refine setChan_keeps (hm.mono (by rfl)) ?_
    refine put_keeps (hm.at .EVT_LOOPED (by rfl)) ?_
    exact hs
  · exact hs

theorem pmcWritten_keeps {s : State} (hm : Sub 0x8000 M) (hs : Keeps M s0 s) :
    Keeps M s0 (State.pmcWritten s) := by
  unfold State.pmcWritten
  apply keeps_ite
  · exact hs
  · refine pmcTake_keeps (hm.mono (by rfl)) ?_
    exact hs

theorem attRequest_keeps {s : State} (hm : Sub
    0x4006000000018400000000000000000000000000000000000000000000000000000000000000000000000000000000000000000000000000000000000000000000000000000000006000 M) (hs : Keeps M s0 s) :
    Keeps M s0 (State.attRequest s) := by
  unfold State.attRequest
  apply keeps_ite
  · refine count_keeps (hm.at .SEC_ATT_BUSY_CNT (by rfl)) ?_
    refine raise_keeps (hm.mono (by rfl)) (hm.at .SEC_EVENT (by rfl)) ?_
    exact hs
  · extract_lets +onlyGivenNames x1
    have hx1 : Keeps M s0 x1 := by
      subst x1
      refine put_keeps (hm.at .SEC_STATUS (by rfl)) ?_
      exact hs
    clear_value x1
    extract_lets +onlyGivenNames x2
    clear_value x2
    refine upd_sec_keeps rfl (hm.mono (by rfl)) ?_
    exact hx1

theorem writeActs_keeps {s : State} {r : Reg} {i : Nat} {v : Word} (hm : Sub
    0x7FFFFFFFFFFFFFFFFFFFFFFFFFFFFFFFFFFFFFFFFFFFFFFFFFFFFFFFFFFFFFFFFFFFFFFFFFFFFFFFFFFFFFFFFFFFFFFFFFFFFFFFFFFFFFFFFFFFFFFFFFFFFFFFFFFFFFFFCBFFFFFFFAFE M) (hs : Keeps M s0 s) :
    Keeps M s0 (State.writeActs s r i v) := by
  unfold State.writeActs
  split
  · refine glbCtrl_keeps (hm.mono (by rfl)) ?_
    exact hs
  · refine camCtrl_keeps (hm.mono (by rfl)) ?_
    exact hs
  · apply keeps_when
    · intro t1 h2
      refine clearHist_keeps (hm.mono (by rfl)) ?_
      exact h2
    · exact hs
  · apply keeps_ite
    · exact hs
    · apply keeps_forBelow
      · intro x3 t4 h5
        refine mrkDisable_keeps (hm.mono (by rfl)) ?_
        exact h5
      · exact hs
  · extract_lets +onlyGivenNames x6
    have hx6 : Keeps M s0 x6 := by
      subst x6
      apply keeps_ite
      · exact hs
      · refine mrkDisable_keeps (hm.mono (by rfl)) ?_
        exact hs
    clear_value x6
    apply keeps_when
    · intro t7 h8
      refine mrkRestart_keeps (hm.mono (by rfl)) ?_
      exact h8
    · exact hx6
  · apply keeps_when
    · intro t9 h10
      refine hostRequest_keeps (hm.mono (by rfl)) ?_
      exact h10
    · exact hs
  · apply keeps_when
    · intro t11 h12
      refine dmaPop_keeps (hm.mono (by rfl)) ?_
      exact h12
    · exact hs
  · apply keeps_when
    · intro t13 h14
      refine dmaArm_keeps (hm.mono (by rfl)) ?_
      exact h14
    · exact hs
  · apply keeps_when
    · intro t15 h16
      refine fspRequest_keeps (hm.mono (by rfl)) ?_
      exact h16
    · exact hs
  · refine laneEnable_keeps (hm.mono (by rfl)) ?_
    exact hs
  · refine laneTxEq_keeps (hm.mono (by rfl)) ?_
    exact hs
  · refine lneCtl_keeps (hm.mono (by rfl)) ?_
    exact hs
  · refine laneTestTry_keeps (hm.mono (by rfl)) ?_
    exact hs
  · refine berRestart_keeps (hm.mono (by rfl)) ?_
    exact hs
  · refine hostEnable_keeps (hm.mono (by rfl)) ?_
    exact hs
  · refine cqPush_keeps (hm.mono (by rfl)) ?_
    exact hs
  · apply keeps_when
    · intro t17 h18
      refine timeSet_keeps (hm.mono (by rfl)) ?_
      exact h18
    · exact hs
  · apply keeps_forBelow
    · intro x19 t20 h21
      refine fabEnable_keeps (hm.mono (by rfl)) ?_
      exact h21
    · exact hs
  · apply keeps_forBelow
    · intro x22 t23 h24
      refine fabEnable_keeps (hm.mono (by rfl)) ?_
      exact h24
    · exact hs
  · refine taskFire_keeps (hm.mono (by rfl)) ?_
    exact hs
  · apply keeps_forBelow
    · intro x25 t26 h27
      apply keeps_ite
      · refine loopReenable_keeps (hm.mono (by rfl)) ?_
        exact h27
      · exact h27
    · exact hs
  · refine pmcWritten_keeps (hm.mono (by rfl)) ?_
    exact hs
  · refine pmcWritten_keeps (hm.mono (by rfl)) ?_
    exact hs
  · apply keeps_when
    · intro t28 h29
      refine attRequest_keeps (hm.mono (by rfl)) ?_
      exact h29
    · exact hs
  · exact hs

theorem writeSingle_keeps {s : State} {r : Reg} {i : Nat} {v : Word} (hm : Sub
    0x7FFFFFFFFFFFFFFFFFFFFFFFFFFFFFFFFFFFFFFFFFFFFFFFFFFFFFFFFFFFFFFFFFFFFFFFFFFFFFFFFFFFFFFFFFFFFFFFFFFFFFFFFFFFFFFFFFFFFFFFFFFFFFFFFFFFFFFFCBFFFFFFFAFE M) (hs : Keeps M s0 s) :
    Keeps M s0 (State.writeSingle s r i v) := by
  unfold State.writeSingle
  extract_lets +onlyGivenNames x1
  clear_value x1
  extract_lets +onlyGivenNames x2
  clear_value x2
  extract_lets +onlyGivenNames x3
  clear_value x3
  extract_lets +onlyGivenNames x4
  have hx4 : Keeps M s0 x4 := by
    subst x4
    apply keeps_ite
    · refine accessError_keeps (hm.mono (by rfl)) ?_
      exact hs
    · exact hs
  clear_value x4
  extract_lets +onlyGivenNames x5
  have hx5 : Keeps M s0 x5 := by
    subst x5
    apply keeps_ite
    · exact hx4
    · refine wr_keeps (hm.reg (by rfl) _) ?_
      exact hx4
  clear_value x5
  apply keeps_ite
  · refine writeActs_keeps (hm.mono (by rfl)) ?_
    exact hx5
  · exact hx5

theorem writeReg_keeps {s : State} {q : Requester} {r : Reg} {i : Nat} {v : Word} (hm : Sub
    0x7FFFFFFFFFFFFFFFFFFFFFFFFFFFFFFFFFFFFFFFFFFFFFFFFFFFFFFFFFFFFFFFFFFFFFFFFFFFFFFFFFFFFFFFFFFFFFFFFFFFFFFFFFFFFFFFFFFFFFFFFFFFFFFFFFFFFFFFCBFFFFFFFAFE M) (hs : Keeps M s0 s) :
    Keeps M s0 (State.writeReg s q r i v) := by
  unfold State.writeReg
  split
  · refine writeLow_keeps (hm.mono (by rfl)) ?_
    exact hs
  · refine writeHigh_keeps (hm.mono (by rfl)) ?_
    exact hs
  · apply keeps_ite
    · apply keeps_ite
      · exact hs
      · refine seamWritten_keeps (hm.mono (by rfl)) ?_
        refine writeSingle_keeps (hm.mono (by rfl)) ?_
        exact hs
    · refine writeSingle_keeps (hm.mono (by rfl)) ?_
      exact hs

theorem busWrite_keeps {s : State} {q : Requester} {addr : Word} {value : Word} (hm : Sub
    0x7FFFFFFFFFFFFFFFFFFFFFFFFFFFFFFFFFFFFFFFFFFFFFFFFFFFFFFFFFFFFFFFFFFFFFFFFFFFFFFFFFFFFFFFFFFFFFFFFFFFFFFFFFFFFFFFFFFFFFFFFFFFFFFFFFFFFFFFCBFFFFFFFAFE M) (hs : Keeps M s0 s) :
    Keeps M s0 (State.busWrite s q addr value) := by
  unfold State.busWrite
  extract_lets +onlyGivenNames x1
  clear_value x1
  apply keeps_ite
  · split
    · refine writeReg_keeps (hm.mono (by rfl)) ?_
      exact hs
    · refine accessError_keeps (hm.mono (by rfl)) ?_
      exact hs
  · split
    · refine writeWin_keeps (hm.mono (by rfl)) ?_
      exact hs
    · refine accessError_keeps (hm.mono (by rfl)) ?_
      exact hs

theorem mirrorWrite_keeps {s : State} {a : Nat} {ws : List Word} (hm : Sub
    0x7FFFFFFFFFFFFFFFFFFFFFFFFFFFFFFFFFFFFFFFFFFFFFFFFFFFFFFFFFFFFFFFFFFFFFFFFFFFFFFFFFFFFFFFFFFFFFFFFFFFFFFFFFFFFFFFFFFFFFFFFFFFFFFFFFFFFFFFCBFFFFFFFAFE M) (hs : Keeps M s0 s) :
    Keeps M s0 (State.mirrorWrite s a ws) := by
  unfold State.mirrorWrite
  split
  · exact hs
  · refine mirrorWrite_keeps (hm.mono (by rfl)) ?_
    refine busWrite_keeps (hm.mono (by rfl)) ?_
    exact hs

theorem nearWrite_keeps {s : State} {addr : Nat} {bs : List Byte} (hm : Sub
    0x7FFFFFFFFFFFFFFFFFFFFFFFFFFFFFFFFFFFFFFFFFFFFFFFFFFFFFFFFFFFFFFFFFFFFFFFFFFFFFFFFFFFFFFFFFFFFFFFFFFFFFFFFFFFFFFFFFFFFFFFFFFFFFFFFFFFFFFFCBFFFFFFFAFE M) (hs : Keeps M s0 s) :
    Keeps M s0 (State.nearWrite s addr bs).2 := by
  unfold State.nearWrite
  split
  · refine sramWrite_keeps (hm.mono (by rfl)) ?_
    exact hs
  · apply keeps_ite_snd
    · extract_lets +onlyGivenNames x1
      clear_value x1
      dsimp only
      refine mirrorWrite_keeps (hm.mono (by rfl)) ?_
      exact hs
    · exact hs
  · exact hs

theorem destBeat_keeps {s : State} {r : DmaRun} {e : DmaEntry} {n : Nat} (hm : Sub
    0x7FFFFFFFFFFFFFFFFFFFFFFFFFFFFFFFFFFFFFFFFFFFFFFFFFFFFFFFFFFFFFFFFFFFFFFFFFFFFFFFFFFFFFFFFFFFFFFFFFFFFFFFFFFFFFFFFFFFFFFFFFFFFFFFFFFFFFFFCBFFFFFFFAFE M) (hs : Keeps M s0 s) :
    Keeps M s0 (State.destBeat s r e n) := by
  unfold State.destBeat
  extract_lets +onlyGivenNames x1
  clear_value x1
  extract_lets +onlyGivenNames x2
  clear_value x2
  extract_lets +onlyGivenNames x3
  clear_value x3
  extract_lets +onlyGivenNames x4
  clear_value x4
  extract_lets +onlyGivenNames x5
  have hx5 : Keeps M s0 x5 := by
    subst x5
    refine setRun_keeps (hm.mono (by rfl)) ?_
    exact hs
  clear_value x5
  extract_lets +onlyGivenNames x6
  have hx6 : Keeps M s0 x6 := by
    subst x6
    split
    · refine entryBad_keeps (hm.mono (by rfl)) ?_
      exact hx5
    · exact hx5
  clear_value x6
  apply keeps_ite
  · exact hx6
  · extract_lets +onlyGivenNames x7
    have hx7 : Keeps M s0 x7 := by
      subst x7
      refine onRun_keeps (hm.mono (by rfl)) ?_
      exact hx6
    clear_value x7
    extract_lets +onlyGivenNames x8
    clear_value x8
    apply keeps_ite
    · refine memWrite_keeps (hm.mono (by rfl)) ?_
      exact hx7
    · extract_lets +onlyGivenNames x9
      have hx9 : Keeps M s0 x9.2 := by
        subst x9
        refine nearWrite_keeps (hm.mono (by rfl)) ?_
        exact hx7
      clear_value x9
      apply keeps_ite
      · refine onRun_keeps (hm.mono (by rfl)) ?_
        exact hx9
      · extract_lets +onlyGivenNames x10
        have hx10 : Keeps M s0 x10 := by
          subst x10
          exact hx9
        clear_value x10
        refine upd_dma_keeps (hm.mono (by rfl)) (.inl (hm.bit (by rfl))) ?_
        exact hx10

theorem readWin_keeps {s : State} {w : Win} {a : Nat} (hm : Sub 0x2 M) (hs : Keeps M s0 s) :
    Keeps M s0 (State.readWin s w a).2 := by
  unfold State.readWin
  split
  · exact hs
  · exact hs
  · exact hs
  · split
    · exact hs
    · extract_lets +onlyGivenNames x1
      have hx1 : Keeps M s0 x1.2 := by
        subst x1
        refine drawFree_keeps (hm.mono (by rfl)) ?_
        exact hs
      clear_value x1
      exact hx1
  · exact hs
  · exact hs
  · extract_lets +onlyGivenNames x2
    clear_value x2
    extract_lets +onlyGivenNames x3
    have hx3 : Keeps M s0 x3.2 := by
      subst x3
      refine drawFree_keeps (hm.mono (by rfl)) ?_
      exact hs
    clear_value x3
    dsimp only
    apply keeps_ite
    · exact hx3
    · exact hs
  · exact hs

theorem sramRead_keeps {s : State} {addr : Nat} {n : Nat} (hm : Sub 0x2 M) (hs : Keeps M s0 s) :
    Keeps M s0 (State.sramRead s addr n).2 := by
  unfold State.sramRead
  split
  · exact hs
  · split
    · extract_lets +onlyGivenNames x1
      clear_value x1
      extract_lets +onlyGivenNames x2
      have hx2 : Keeps M s0 x2.2 := by
        subst x2
        refine readWin_keeps (hm.mono (by rfl)) ?_
        exact hs
      clear_value x2
      extract_lets +onlyGivenNames x3
      have hx3 : Keeps M s0 x3.2 := by
        subst x3
        refine sramRead_keeps (hm.mono (by rfl)) ?_
        exact hx2
      clear_value x3
      exact hx3
    · exact hs

theorem readClears_keeps {s : State} {r : Reg} {i : Nat} (hm : Sub
    0x7FFFFFFFFFFFFFFFFFFFFFFFFFFFFFFFFFFFFFFFFFFFFFFFFFFFFFFFFFFFFFFFFFFFFFFFFFFFFFFFFFFFFFFFFFFFFFFFFFFFFFFFFFFFFFFFFFFFFFFFFFFFFFFFFFFFFFFFC00002000000 M) (hs : Keeps M s0 s) :
    Keeps M s0 (State.readClears s r i) := by
  unfold State.readClears
  extract_lets +onlyGivenNames x1
  clear_value x1
  apply keeps_ite
  · exact hs
  · extract_lets +onlyGivenNames x2
    have hx2 : Keeps M s0 x2 := by
      subst x2
      refine wr_keeps (hm.reg (by rfl) _) ?_
      exact hs
    clear_value x2
    apply keeps_ite
    · refine upd_seg_keeps (hm.mono (by rfl)) ?_
      exact hx2
    · exact hx2

theorem readReg_keeps {s : State} {q : Requester} {r : Reg} {i : Nat} (hm : Sub
    0x7FFFFFFFFFFFFFFFFFFFFFFFFFFFFFFFFFFFFFFFFFFFFFFFFFFFFFFFFFFFFFFFFFFFFFFFFFFFFFFFFFFFFFFFFFFFFFFFFFFFFFFFFFFFFFFFFFFFFFFFFFFFFFFFFFFFFFFFC00002040020 M) (hs : Keeps M s0 s) :
    Keeps M s0 (State.readReg s q r i).2 := by
  unfold State.readReg
  split
  · extract_lets +onlyGivenNames x1
    clear_value x1
    extract_lets +onlyGivenNames x2
    have hx2 : Keeps M s0 x2 := by
      subst x2
      refine setSnap_keeps (hm.mono (by rfl)) ?_
      exact hs
    clear_value x2
    dsimp only
    refine readClears_keeps (hm.mono (by rfl)) ?_
    refine readClears_keeps (hm.mono (by rfl)) ?_
    exact hx2
  · exact hs
  · extract_lets +onlyGivenNames x3
    clear_value x3
    split
    · dsimp only
      refine upd_tim_keeps (hm.mono (by rfl)) ?_
      exact hs
    · dsimp only
      refine put_keeps (hm.at .TIM_STATUS (by rfl)) ?_
      exact hs
    · dsimp only
      refine readClears_keeps (hm.mono (by rfl)) ?_
      exact hs

theorem busRead_keeps {s : State} {q : Requester} {addr : Word} (hm : Sub
    0x7FFFFFFFFFFFFFFFFFFFFFFFFFFFFFFFFFFFFFFFFFFFFFFFFFFFFFFFFFFFFFFFFFFFFFFFFFFFFFFFFFFFFFFFFFFFFFFFFFFFFFFFFFFFFFFFFFFFFFFFFFFFFFFFFFFFFFFFC00002040022 M) (hs : Keeps M s0 s) :
    Keeps M s0 (State.busRead s q addr).2 := by
  unfold State.busRead
  extract_lets +onlyGivenNames x1
  clear_value x1
  apply keeps_ite_snd
  · split
    · refine readReg_keeps (hm.mono (by rfl)) ?_
      exact hs
    · dsimp only
      refine accessError_keeps (hm.mono (by rfl)) ?_
      exact hs
  · split
    · refine readWin_keeps (hm.mono (by rfl)) ?_
      exact hs
    · dsimp only
      refine accessError_keeps (hm.mono (by rfl)) ?_
      exact hs

theorem mirrorRead_keeps {s : State} {a : Nat} {words : Nat} (hm : Sub
    0x7FFFFFFFFFFFFFFFFFFFFFFFFFFFFFFFFFFFFFFFFFFFFFFFFFFFFFFFFFFFFFFFFFFFFFFFFFFFFFFFFFFFFFFFFFFFFFFFFFFFFFFFFFFFFFFFFFFFFFFFFFFFFFFFFFFFFFFFC00002040022 M) (hs : Keeps M s0 s) :
    Keeps M s0 (State.mirrorRead s a words).2 := by
  unfold State.mirrorRead
  split
  · exact hs
  · extract_lets +onlyGivenNames x1
    have hx1 : Keeps M s0 x1.2 := by
      subst x1
      refine busRead_keeps (hm.mono (by rfl)) ?_
      exact hs
    clear_value x1
    extract_lets +onlyGivenNames x2
    have hx2 : Keeps M s0 x2.2 := by
      subst x2
      refine mirrorRead_keeps (hm.mono (by rfl)) ?_
      exact hx1
    clear_value x2
    exact hx2

theorem nearRead_keeps {s : State} {addr : Nat} {n : Nat} (hm : Sub
    0x7FFFFFFFFFFFFFFFFFFFFFFFFFFFFFFFFFFFFFFFFFFFFFFFFFFFFFFFFFFFFFFFFFFFFFFFFFFFFFFFFFFFFFFFFFFFFFFFFFFFFFFFFFFFFFFFFFFFFFFFFFFFFFFFFFFFFFFFC00002040022 M) (hs : Keeps M s0 s) :
    Keeps M s0 (State.nearRead s addr n).2 := by
  unfold State.nearRead
  split
  · refine sramRead_keeps (hm.mono (by rfl)) ?_
    exact hs
  · apply keeps_ite_snd
    · extract_lets +onlyGivenNames x1
      have hx1 : Keeps M s0 x1.2 := by
        subst x1
        refine mirrorRead_keeps (hm.mono (by rfl)) ?_
        exact hs
      clear_value x1
      exact hx1
    · exact hs
  · exact hs

theorem sourceBeat_keeps {s : State} {r : DmaRun} {e : DmaEntry} {w : Nat} (hm : Sub
    0x7FFFFFFFFFFFFFFFFFFFFFFFFFFFFFFFFFFFFFFFFFFFFFFFFFFFFFFFFFFFFFFFFFFFFFFFFFFFFFFFFFFFFFFFFFFFFFFFFFFFFFFFFFFFFFFFFFFFFFFFFFFFFFFFFFFFFFFFC0B0A2044022 M) (hs : Keeps M s0 s) :
    Keeps M s0 (State.sourceBeat s r e w) := by
  unfold State.sourceBeat
  apply keeps_ite
  · extract_lets +onlyGivenNames x1
    clear_value x1
    extract_lets +onlyGivenNames x2
    clear_value x2
    refine setRun_keeps (hm.mono (by rfl)) ?_
    exact hs
  · extract_lets +onlyGivenNames x3
    clear_value x3
    extract_lets +onlyGivenNames x4
    clear_value x4
    extract_lets +onlyGivenNames x5
    clear_value x5
    extract_lets +onlyGivenNames x6
    clear_value x6
    extract_lets +onlyGivenNames x7
    have hx7 : Keeps M s0 x7 := by
      subst x7
      refine setRun_keeps (hm.mono (by rfl)) ?_
      exact hs
    clear_value x7
    apply keeps_ite
    · refine memRead_keeps (hm.mono (by rfl)) ?_
      exact hx7
    · extract_lets +onlyGivenNames x8
      have hx8 : Keeps M s0 x8.2 := by
        subst x8
        refine nearRead_keeps (hm.mono (by rfl)) ?_
        exact hx7
      clear_value x8
      split
      · refine onRun_keeps (hm.mono (by rfl)) ?_
        exact hx8
      · extract_lets +onlyGivenNames x9
        have hx9 : Keeps M s0 x9 := by
          subst x9
          exact hx8
        clear_value x9
        refine upd_dma_keeps (hm.mono (by rfl)) (.inl (hm.bit (by rfl))) ?_
        exact hx9

theorem fetchFails_keeps {s : State} {source : Bool} (hm : Sub 0x8080000000 M) (hs : Keeps M s0 s) :
    Keeps M s0 (State.fetchFails s source) := by
  unfold State.fetchFails
  extract_lets +onlyGivenNames x1
  have hx1 : Keeps M s0 x1 := by
    subst x1
    refine onRun_keeps (hm.mono (by rfl)) ?_
    exact hs
  clear_value x1
  refine upd_dma_keeps (hm.mono (by rfl)) (.inr rfl) ?_
  exact hx1

theorem fetchEntry_keeps {s : State} {r : DmaRun} {source : Bool} (hm : Sub
    0x1840000000000000000000000000000000000042040000000000000000000000000000000000000000000000000000000000000000000000000000000000000B0A0004002 M) (hs : Keeps M s0 s) :
    Keeps M s0 (State.fetchEntry s r source) := by
  unfold State.fetchEntry
  extract_lets +onlyGivenNames x1
  clear_value x1
  extract_lets +onlyGivenNames x2
  have hx2 : Keeps M s0 x2 := by
    subst x2
    refine setRun_keeps (hm.mono (by rfl)) ?_
    exact hs
  clear_value x2
  apply keeps_ite
  · refine fetchFails_keeps (hm.mono (by rfl)) ?_
    exact hx2
  · split
    · refine memRead_keeps (hm.mono (by rfl)) ?_
      exact hx2
    · extract_lets +onlyGivenNames x3
      have hx3 : Keeps M s0 x3.2 := by
        subst x3
        refine sramRead_keeps (hm.mono (by rfl)) ?_
        exact hx2
      clear_value x3
      split
      · refine onRun_keeps (hm.mono (by rfl)) ?_
        exact hx3
      · refine fetchFails_keeps (hm.mono (by rfl)) ?_
        exact hx3
    · refine fetchFails_keeps (hm.mono (by rfl)) ?_
      exact hx2

/-- One action of the running DMA channel. -/
theorem dmaAct_keeps {s t : State} (hm : Sub 0x7FFFFFFFFFFFFFFFFFFFFFFFFFFFFFFFFFFFFFFFFFFFFFFFFFFFFFFFFFFFFFFFFFFFFFFFFFFFFFFFFFFFFFFFFFFFFFFFFFFFFFFFFFFFFFFFFFFFFFFFFFFFFFFFFFFFFFFFCBFFFFFFFAFE M) (h : s.dmaAct = some t) (hs : Keeps M s0 s) :
    Keeps M s0 t := by
  have h1 (r : DmaRun) : Keeps M s0 (s.setRun r) := setRun_keeps (hm.mono (by rfl)) hs
  have h2 (a : Bool) (i k : Nat) (b : Bool) : Keeps M s0 (s.entryBad a i k b) := entryBad_keeps (hm.mono (by rfl)) hs
  have h3 (r : DmaRun) (e : DmaEntry) (n : Nat) : Keeps M s0 (s.destBeat r e n) := destBeat_keeps (hm.mono (by rfl)) hs
  have h4 (r : DmaRun) (e : DmaEntry) (n : Nat) : Keeps M s0 (s.sourceBeat r e n) := sourceBeat_keeps (hm.mono (by rfl)) hs
  have h5 (r : DmaRun) (a : Bool) : Keeps M s0 (s.fetchEntry r a) := fetchEntry_keeps (hm.mono (by rfl)) hs
  unfold State.dmaAct at h
  split at h
  · cases h
  split at h
  · cases h
    exact h1 _
  extract_lets +onlyGivenNames w v dest source at h
  have hdest : ∀ t, dest = some t → Keeps M s0 t := by
    intro t ht
    subst dest
    repeat' split at ht
    all_goals first | cases ht; done | (cases ht; first | exact h2 _ _ _ _ | exact h3 _ _ _)
  have hsource : ∀ t, source = some t → Keeps M s0 t := by
    intro t ht
    subst source
    repeat' split at ht
    all_goals first | cases ht; done | (cases ht; first | exact h2 _ _ _ _ | exact h4 _ _ _)
  clear_value dest source
  repeat' split at h
  all_goals first
    | exact hdest _ h
    | exact hsource _ h
    | cases h; done
    | (cases h; first | exact h5 _ _ | exact h1 _)

theorem dmaLoop_keeps {s : State} {fuel : Nat} (hm : Sub
    0x7FFFFFFFFFFFFFFFFFFFFFFFFFFFFFFFFFFFFFFFFFFFFFFFFFFFFFFFFFFFFFFFFFFFFFFFFFFFFFFFFFFFFFFFFFFFFFFFFFFFFFFFFFFFFFFFFFFFFFFFFFFFFFFFFFFFFFFFCBFFFFFFFAFE M) (hs : Keeps M s0 s) :
    Keeps M s0 (State.dmaLoop s fuel) := by
  induction fuel generalizing s with
  | zero => exact hs
  | succ k ih =>
    unfold State.dmaLoop
    split
    · exact hs
    · rename_i h
      exact ih (dmaAct_keeps (hm.mono (by rfl)) h hs)

theorem dmaPump_keeps {s : State} (hm : Sub
    0x7FFFFFFFFFFFFFFFFFFFFFFFFFFFFFFFFFFFFFFFFFFFFFFFFFFFFFFFFFFFFFFFFFFFFFFFFFFFFFFFFFFFFFFFFFFFFFFFFFFFFFFFFFFFFFFFFFFFFFFFFFFFFFFFFFFFFFFFCBFFFFFFFAFE M) (hs : Keeps M s0 s) :
    Keeps M s0 (State.dmaPump s) := by
  unfold State.dmaPump
  refine dmaShow_keeps (hm.mono (by rfl)) ?_
  refine dmaRetire_keeps (hm.mono (by rfl)) ?_
  refine dmaLoop_keeps (hm.mono (by rfl)) ?_
  exact hs

theorem dmaReadBack_keeps {s : State} {beat : Nat} {data : List Byte} {err : Option MemErr} (hm : Sub 0x8080000000 M) (hs :
    Keeps M s0 s) :
    Keeps M s0 (State.dmaReadBack s beat data err) := by
  unfold State.dmaReadBack
  split
  · refine upd_dma_keeps (hm.mono (by rfl)) (.inr rfl) ?_
    exact hs
  · refine onRun_keeps (hm.mono (by rfl)) ?_
    exact hs

theorem dmaWriteBack_keeps {s : State} {entry : Nat} {err : Option MemErr} (hm : Sub 0x8080000000 M) (hs : Keeps M s0 s) :
    Keeps M s0 (State.dmaWriteBack s entry err) := by
  unfold State.dmaWriteBack
  split
  · refine upd_dma_keeps (hm.mono (by rfl)) (.inr rfl) ?_
    exact hs
  · refine onRun_keeps (hm.mono (by rfl)) ?_
    exact hs

theorem answerOp_keeps {s : State} {o : MemOp} (hm : Sub
    0x7FFFFFFFFFFFFFFFFFFFFFFFFFFFFFFFFFFFFFFFFFFFFFFFFFFFFFFFFFFFFFFFFFFFFFFFFFFFFFFFFFFFFFFFFFFFFFFFFFFFFFFFFFFFFFFFFFFFFFFFFFFFFFFFFFFFFFFFCBFFFFFFFAFE M) (hs : Keeps M s0 s) :
    Keeps M s0 (State.answerOp s o) := by
  unfold State.answerOp
  split
  · apply keeps_ite
    · refine blockReturned_keeps (hm.mono (by rfl)) ?_
      exact hs
    · refine upd_arc_keeps (hm.mono (by rfl)) (.inr rfl) ?_
      exact hs
  · exact hs
  · apply keeps_ite
    · exact hs
    · apply keeps_ite
      · refine ctxDrop_keeps (hm.mono (by rfl)) ?_
        exact hs
      · refine setWinBytes_keeps (hm.mono (by rfl)) ?_
        exact hs
  · refine ringWritten_keeps (hm.mono (by rfl)) ?_
    exact hs
  · split
    · refine ringRead_keeps (hm.mono (by rfl)) ?_
      exact hs
    · refine ringRead_keeps (hm.mono (by rfl)) ?_
      exact hs
  · refine jobData_keeps (hm.mono (by rfl)) ?_
    exact hs
  · refine dmaPump_keeps (hm.mono (by rfl)) ?_
    refine dmaReadBack_keeps (hm.mono (by rfl)) ?_
    exact hs
  · refine dmaPump_keeps (hm.mono (by rfl)) ?_
    refine dmaWriteBack_keeps (hm.mono (by rfl)) ?_
    exact hs
  · apply keeps_ite
    · refine dmaPump_keeps (hm.mono (by rfl)) ?_
      refine onRun_keeps (hm.mono (by rfl)) ?_
      exact hs
    · refine dmaPump_keeps (hm.mono (by rfl)) ?_
      refine fetchFails_keeps (hm.mono (by rfl)) ?_
      exact hs
  · exact hs

theorem answerAll_keeps {s : State} {fuel : Nat} (hm : Sub
    0x7FFFFFFFFFFFFFFFFFFFFFFFFFFFFFFFFFFFFFFFFFFFFFFFFFFFFFFFFFFFFFFFFFFFFFFFFFFFFFFFFFFFFFFFFFFFFFFFFFFFFFFFFFFFFFFFFFFFFFFFFFFFFFFFFFFFFFFFCBFFFFFFFAFE M) (hs : Keeps M s0 s) :
    Keeps M s0 (State.answerAll s fuel) := by
  unfold State.answerAll
  split
  · exact hs
  · split
    · exact hs
    · refine answerAll_keeps (hm.mono (by rfl)) ?_
      refine answerOp_keeps (hm.mono (by rfl)) ?_
      refine upd_mem_keeps (hm.mono (by rfl)) (.inr rfl) (.inl (hm.bit (by rfl))) (.inr rfl) ?_
      exact hs

theorem loopLatch_keeps {s : State} {c : Nat} (hm : Sub
    0x200000184400140800100000000000000038002000000000000000000000000000000000000000000000000000000000000000000000000000000000000000000000200001A4200 M) (hs : Keeps M s0 s) :
    Keeps M s0 (State.loopLatch s c) := by
  unfold State.loopLatch
  extract_lets +onlyGivenNames x1
  have hx1 : Keeps M s0 x1 := by
    subst x1
    refine raise_keeps (hm.mono (by rfl)) (hm.at .EVT_EVENT (by rfl)) ?_
    refine put_keeps (hm.at .EVT_LOOPED (by rfl)) ?_
    exact hs
  clear_value x1
  refine fault_keeps (hm.mono (by rfl)) ?_
  refine count_keeps (hm.at .EVT_LOOP_CNT (by rfl)) ?_
  exact hx1

theorem chanPulse_keeps {s : State} {c : Nat} {k : Nat} (hm : Sub
    0x2020000078561FD40A1850000000000080003800A005000000023004000003C0000000403C00A00000000080007FFD76803F86C4E0000020000200D0800000018500682477FFEF296 M) (hs : Keeps M s0 s) :
    Keeps M s0 (State.chanPulse s c k) := by
  unfold State.chanPulse
  extract_lets +onlyGivenNames x1
  clear_value x1
  extract_lets +onlyGivenNames x2
  clear_value x2
  apply keeps_ite
  · refine loopLatch_keeps (hm.mono (by rfl)) ?_
    exact hs
  · extract_lets +onlyGivenNames x3
    clear_value x3
    extract_lets +onlyGivenNames x4
    have hx4 : Keeps M s0 x4 := by
      subst x4
      refine setChan_keeps (hm.mono (by rfl)) ?_
      exact hs
    clear_value x4
    refine taskFire_keeps (hm.mono (by rfl)) ?_
    refine overrun_keeps (hm.mono (by rfl)) ?_
    exact hx4

theorem chanDeliver_keeps {s : State} {c : Nat} (hm : Sub
    0x20200000785E1FD40A1850000000000080003800A005000000023004000003C0000000403C00A00000000080007FFD76803F86C4E0000020000200D0800000018500682477FFEF296 M) (hs : Keeps M s0 s) :
    Keeps M s0 (State.chanDeliver s c) := by
  unfold State.chanDeliver
  extract_lets +onlyGivenNames x1
  clear_value x1
  extract_lets +onlyGivenNames x2
  clear_value x2
  apply keeps_ite
  · extract_lets +onlyGivenNames x3
    clear_value x3
    extract_lets +onlyGivenNames x4
    have hx4 : Keeps M s0 x4 := by
      subst x4
      refine setChan_keeps (hm.mono (by rfl)) ?_
      exact hs
    clear_value x4
    extract_lets +onlyGivenNames x5
    clear_value x5
    apply keeps_ite
    · exact hx4
    · apply keeps_ite
      · exact hx4
      · apply keeps_ite
        · refine raise_keeps (hm.mono (by rfl)) (hm.at .EVT_EVENT (by rfl)) ?_
          refine count_keeps (hm.at .EVT_DROP_CNT (by rfl)) ?_
          exact hx4
        · refine chanPulse_keeps (hm.mono (by rfl)) ?_
          exact hx4
  · exact hs

theorem chansInit_keeps {s : State} (hm : Sub 0x4000 M) (hs : Keeps M s0 s) :
    Keeps M s0 (State.chansInit s) := by
  unfold State.chansInit
  refine upd_evt_keeps (fun x => x) (hm.mono (by rfl)) ?_
  exact hs

theorem dmaError_keeps {s : State} {x : DmaErr} (hm : Sub
    0x18400000000000000000000000000000000000000000000140005000000000000000000000000000000000000000000000000000000000000000000000000008080004000 M) (hs : Keeps M s0 s) :
    Keeps M s0 (State.dmaError s x) := by
  unfold State.dmaError
  split
  · exact hs
  · apply keeps_ite
    · split
      · exact hs
      · extract_lets +onlyGivenNames x1
        clear_value x1
        extract_lets +onlyGivenNames x2
        clear_value x2
        refine entryBad_keeps (hm.mono (by rfl)) ?_
        refine setRun_keeps (hm.mono (by rfl)) ?_
        exact hs
    · refine entryBad_keeps (hm.mono (by rfl)) ?_
      refine setRun_keeps (hm.mono (by rfl)) ?_
      exact hs

theorem dmaFinish_keeps {s : State} {r : DmaRun} (hm : Sub
    0x18400000000000000000000000000000000000000000000033E11800000000000000000000000000000000000000000000000000000000000000000000000008080004000 M) (hs : Keeps M s0 s) :
    Keeps M s0 (State.dmaFinish s r) := by
  unfold State.dmaFinish
  extract_lets +onlyGivenNames x1
  clear_value x1
  extract_lets +onlyGivenNames x2
  clear_value x2
  extract_lets +onlyGivenNames x3
  subst x3
  extract_lets +onlyGivenNames x4
  have hx4 : Keeps M s0 x4 := by
    subst x4
    refine upd_dma_keeps (hm.mono (by rfl)) (.inl (hm.bit (by rfl))) ?_
    exact hs
  clear_value x4
  extract_lets +onlyGivenNames x5
  have hx5 : Keeps M s0 x5 := by
    subst x5
    refine put_keeps (hm.at .DMA_ARES (by rfl)) ?_
    refine put_keeps (hm.at .DMA_ARES (by rfl)) ?_
    exact hx4
  clear_value x5
  extract_lets +onlyGivenNames x6
  have hx6 : Keeps M s0 x6 := by
    subst x6
    refine put_keeps (hm.at .DMA_STATUS (by rfl)) ?_
    refine put_keeps (hm.at .DMA_ACTRL (by rfl)) ?_
    exact hx5
  clear_value x6
  extract_lets +onlyGivenNames x7
  clear_value x7
  extract_lets +onlyGivenNames x8
  have hx8 : Keeps M s0 x8 := by
    subst x8
    refine put_keeps (hm.at .DMA_STATUS (by rfl)) ?_
    exact hx6
  clear_value x8
  extract_lets +onlyGivenNames x9
  have hx9 : Keeps M s0 x9 := by
    subst x9
    refine raise_keeps (hm.mono (by rfl)) (hm.at .DMA_EVENT (by rfl)) ?_
    refine count_keeps (hm.at .DMA_XFER_CNT (by rfl)) ?_
    exact hx8
  clear_value x9
  extract_lets +onlyGivenNames x10
  have hx10 : Keeps M s0 x10 := by
    subst x10
    apply keeps_ite
    · refine raise_keeps (hm.mono (by rfl)) (hm.at .DMA_EVENT (by rfl)) ?_
      exact hx9
    · exact hx9
  clear_value x10
  refine dmaHandover_keeps (hm.mono (by rfl)) ?_
  exact hx10

theorem dmaGrant_keeps {s : State} (hm : Sub
    0x200800000000000000000000000000000000000000000000000000000000000000000000000008080000000 M) (hs : Keeps M s0 s) :
    Keeps M s0 (State.dmaGrant s) := by
  unfold State.dmaGrant
  split
  · exact hs
  · apply keeps_ite
    · exact hs
    · split
      · exact hs
      · extract_lets +onlyGivenNames x1
        clear_value x1
        extract_lets +onlyGivenNames x2
        subst x2
        extract_lets +onlyGivenNames x3
        have hx3 : Keeps M s0 x3 := by
          subst x3
          refine upd_dma_keeps (hm.mono (by rfl)) (.inl (hm.bit (by rfl))) ?_
          exact hs
        clear_value x3
        extract_lets +onlyGivenNames x4
        have hx4 : Keeps M s0 x4 := by
          subst x4
          refine put_keeps (hm.at .DMA_ACTRL (by rfl)) ?_
          exact hx3
        clear_value x4
        refine put_keeps (hm.at .DMA_STATUS (by rfl)) ?_
        refine put_keeps (hm.at .DMA_STATUS (by rfl)) ?_
        exact hx4

theorem fecCount_keeps {s : State} {j : Nat} {corrected : Nat} {bad : Nat} (hm : Sub
    0x1800000000000000000000000000000000000000000000000000000000000000000000000000000000000000000000000000000000000000000
    M) (hs : Keeps M s0 s) :
    Keeps M s0 (State.fecCount s j corrected bad) := by
  unfold State.fecCount
  apply keeps_ite
  · refine count_keeps (hm.at .HST_FEC_UNCORR_CNT (by rfl)) ?_
    refine count_keeps (hm.at .HST_FEC_CORR_CNT (by rfl)) ?_
    exact hs
  · exact hs

theorem laneRefLost_keeps {s : State} {l : Nat} (hm : Sub
    0x200000184000002A1A50010000000080003800A0C512420400000000000007C00000400000000000000000007EFD6683FFFFD542786023FA0E3FD080000E018000002306FFE4A94 M) (hs : Keeps M s0 s) :
    Keeps M s0 (State.laneRefLost s l) := by
  unfold State.laneRefLost
  split
  · refine laneDrop_keeps (hm.mono (by rfl)) ?_
    exact hs
  · refine laneDown_keeps (hm.mono (by rfl)) ?_
    exact hs
  · extract_lets +onlyGivenNames x1
    have hx1 : Keeps M s0 x1 := by
      subst x1
      refine laneDown_keeps (hm.mono (by rfl)) ?_
      exact hs
    clear_value x1
    refine setLane_keeps (hm.mono (by rfl)) ?_
    exact hx1
  · exact hs

theorem pinsInit_keeps {s : State} (hm : Sub
    0x18400040000000000000000000000000000000000000000000000000000000000000000000000000000000000000000000000000000000000000000000000000000004004 M) (hs : Keeps M s0 s) :
    Keeps M s0 (State.pinsInit s) := by
  unfold State.pinsInit
  apply keeps_forBelow
  · intro x1 t2 h3
    apply keeps_ite
    · refine pinDrive_keeps (hm.mono (by rfl)) ?_
      exact h3
    · exact h3
  · exact hs

theorem memRespond_keeps {s : State} (hm : Sub
    0x7FFFFFFFFFFFFFFFFFFFFFFFFFFFFFFFFFFFFFFFFFFFFFFFFFFFFFFFFFFFFFFFFFFFFFFFFFFFFFFFFFFFFFFFFFFFFFFFFFFFFFFFFFFFFFFFFFFFFFFFFFFFFFFFFFFFFFFFCBFFFFFFFAFE M) (hs : Keeps M s0 s) :
    Keeps M s0 (State.memRespond s) := by
  unfold State.memRespond
  refine transCheck_keeps (hm.mono (by rfl)) ?_
  refine answerAll_keeps (hm.mono (by rfl)) ?_
  exact hs

theorem pinPulseEnd_keeps {s : State} {i : Nat} (hm : Sub
    0x18400040000000000000000000000000000000000000000000000000000000000000000000000000000000000000000000000000000000000000000000000000000004004 M) (hs : Keeps M s0 s) :
    Keeps M s0 (State.pinPulseEnd s i) := by
  unfold State.pinPulseEnd
  extract_lets +onlyGivenNames x1
  clear_value x1
  apply keeps_ite
  · refine pinDrive_keeps (hm.mono (by rfl)) ?_
    refine setPin_keeps (hm.mono (by rfl)) ?_
    exact hs
  · exact hs

theorem pinStuck_keeps {s : State} {i : Nat} (hm : Sub
    0x18400044000000000000000000000000000000000000000000000000000000000000000000000000000000000000000000000000000000000000000000000000000004000 M) (hs : Keeps M s0 s) :
    Keeps M s0 (State.pinStuck s i) := by
  unfold State.pinStuck
  extract_lets +onlyGivenNames x1
  clear_value x1
  extract_lets +onlyGivenNames x2
  clear_value x2
  apply keeps_ite
  · refine raise_keeps (hm.mono (by rfl)) (hm.at .EVT_EVENT (by rfl)) ?_
    refine put_keeps (hm.at .EVT_PINSTAT (by rfl)) ?_
    exact hs
  · exact hs

theorem showRxEq_keeps {s : State} {l : Nat} (hm : Sub
    0x800000000000000000000000000000000000000000000000000000000000000000000000000000000000000000000000000000 M) (hs : Keeps
    M s0 s) :
    Keeps M s0 (State.showRxEq s l) := by
  unfold State.showRxEq
  extract_lets +onlyGivenNames x1
  clear_value x1
  extract_lets +onlyGivenNames x2
  clear_value x2
  extract_lets +onlyGivenNames x3
  have hx3 : Keeps M s0 x3 := by
    subst x3
    refine put_keeps (hm.at .LNE_RXEQ (by rfl)) ?_
    refine put_keeps (hm.at .LNE_RXEQ (by rfl)) ?_
    exact hs
  clear_value x3
  refine put_keeps (hm.at .LNE_RXEQ (by rfl)) ?_
  refine put_keeps (hm.at .LNE_RXEQ (by rfl)) ?_
  exact hx3

theorem wakeBy_keeps {s : State} {src : WakeSource} (hm : Sub
    0x800000000000000000000000500000000300400000000000000000000000000000080000000000000000000000000000000000000000080002000238401004 M) (hs : Keeps M s0 s) :
    Keeps M s0 (State.wakeBy s src) := by
  unfold State.wakeBy
  apply keeps_ite
  · refine wakeStart_keeps (hm.mono (by rfl)) ?_
    exact hs
  · exact hs

theorem execAdaptationStep_keeps {dt : Nat} {l : Fin 104} {setting : Fin 12} {up : Bool} {s : State} (hm : Sub
    0x1840000000000000000080000000000000080000000000000000000000000000000000000000000000000000000000000000000000000000000000000000000000804C001 M) (hs : Keeps M s0 s) :
    KeepsOut M s0 (execAdaptationStep dt l setting up s) := by
  unfold execAdaptationStep
  extract_lets +onlyGivenNames x1
  have hx1 : Keeps M s0 x1 := by
    subst x1
    refine advance_keeps (hm.mono (by rfl)) ?_
    exact hs
  clear_value x1
  apply keepsOut_ite
  · extract_lets +onlyGivenNames x2
    clear_value x2
    extract_lets +onlyGivenNames x3
    clear_value x3
    extract_lets +onlyGivenNames x4
    subst x4
    extract_lets +onlyGivenNames x5
    clear_value x5
    apply keepsOut_next
    refine showRxEq_keeps (hm.mono (by rfl)) ?_
    refine setLane_keeps (hm.mono (by rfl)) ?_
    exact hx1
  · apply keepsOut_next
    exact hx1

theorem execAlignBlock_keeps {l : Fin 104} {seq : Nat} {pos : Nat} {s : State} (hm : Sub
    0x200000184000002A1A50010000000080003800A0C112420400000000000007C00000400000000000000000007EFD6683FFFFD542786023FA0E3FD080000E018000002306FFE4A94 M) (hs : Keeps M s0 s) :
    KeepsOut M s0 (execAlignBlock l seq pos s) := by
  unfold execAlignBlock
  apply keepsOut_ite
  · extract_lets +onlyGivenNames x1
    clear_value x1
    extract_lets +onlyGivenNames x2
    have hx2 : Keeps M s0 x2 := by
      subst x2
      refine setLane_keeps (hm.mono (by rfl)) ?_
      exact hs
    clear_value x2
    split
    · apply keepsOut_next
      apply keeps_ite
      · refine laneLost_keeps (hm.mono (by rfl)) ?_
        exact hx2
      · exact hx2
    · apply keepsOut_next
      exact hx2
  · apply keepsOut_next
    exact hs

theorem execAlignMissing_keeps {l : Fin 104} {s : State} (hm : Sub
    0x200000184000002A1A50010000000080003800A0C112420400000000000007C00000400000000000000000007EFD6683FFFFD542786023FA0E3FD080000E018000002306FFE4A94 M) (hs : Keeps M s0 s) :
    KeepsOut M s0 (execAlignMissing l s) := by
  unfold execAlignMissing
  apply keepsOut_ite
  · extract_lets +onlyGivenNames x1
    clear_value x1
    apply keepsOut_ite
    · apply keepsOut_next
      refine setLane_keeps (hm.mono (by rfl)) ?_
      exact hs
    · apply keepsOut_next
      refine laneLost_keeps (hm.mono (by rfl)) ?_
      refine setLane_keeps (hm.mono (by rfl)) ?_
      exact hs
  · apply keepsOut_next
    exact hs

theorem execArpRequest_keeps {j : Fin 16} {s : State} (hm : Sub
    0x2000000000000000000000000000000000000000000000000000000000000000000000000000000000000000000000000000000000000080000
    M) (hs : Keeps M s0 s) :
    KeepsOut M s0 (execArpRequest j s) := by
  unfold execArpRequest
  apply keepsOut_next
  refine arpAnswer_keeps (hm.mono (by rfl)) ?_
  exact hs

theorem execAutoResume_keeps {s : State} (hm : Sub
    0x20000000184000000A1850000000000080003800A005000000023004000003C0000000403C00A00000000000007FFD76803F86C4E0000020000200D0800000018400682437FFE7296 M) (hs : Keeps M s0 s) :
    KeepsOut M s0 (execAutoResume s) := by
  unfold execAutoResume
  apply keepsOut_next
  apply keeps_ite
  · refine leaveHold_keeps (hm.mono (by rfl)) ?_
    exact hs
  · exact hs

theorem execBerCfgWrite_keeps {value : Word} {s : State} (hm : Sub
    0x408000000000000000000000000000000000000000000000000000000000000000000000000000000000000000000000000000 M) (hs : Keeps
    M s0 s) :
    KeepsOut M s0 (execBerCfgWrite value s) := by
  unfold execBerCfgWrite
  apply keepsOut_next
  refine berRestart_keeps (hm.mono (by rfl)) ?_
  refine wr_keeps (hm.at .LNE_BER_CFG (by rfl)) ?_
  exact hs

theorem execBerWindowEnd_keeps {l : Fin 104} {mismatches : Nat} {s : State} (hm : Sub
    0x18400000000000000000000000000000003402000000000000000000000000000000000000000000000000000000000000000000000000000000000000000000000004000 M) (hs : Keeps M s0 s) :
    KeepsOut M s0 (execBerWindowEnd l mismatches s) := by
  unfold execBerWindowEnd
  apply keepsOut_ite
  · extract_lets +onlyGivenNames x1
    have hx1 : Keeps M s0 x1 := by
      subst x1
      refine wr_keeps (hm.at .LNE_BER_RES (by rfl)) ?_
      refine count_keeps (hm.at .LNE_PRBS_ERR (by rfl)) ?_
      exact hs
    clear_value x1
    extract_lets +onlyGivenNames x2
    have hx2 : Keeps M s0 x2 := by
      subst x2
      refine put_keeps (hm.at .LNE_TSTAT (by rfl)) ?_
      exact hx1
    clear_value x2
    apply keepsOut_next
    refine raise_keeps (hm.mono (by rfl)) (hm.at .LNE_EVENT (by rfl)) ?_
    refine put_keeps (hm.at .LNE_TSTAT (by rfl)) ?_
    exact hx2
  · apply keepsOut_next
    exact hs

theorem execBlockLock_keeps {l : Fin 104} {s : State} (hm : Sub
    0x100000000000000000000000000000000000000000000000000000000000000000000000000000000000000000000000000000 M) (hs : Keeps
    M s0 s) :
    KeepsOut M s0 (execBlockLock l s) := by
  unfold execBlockLock
  apply keepsOut_next
  apply keeps_ite
  · refine put_keeps (hm.at .LNE_STATE (by rfl)) ?_
    refine put_keeps (hm.at .LNE_STATE (by rfl)) ?_
    exact hs
  · exact hs

theorem execBurstLineStart_keeps {m : Fin 4} {dt : Nat} {s : State} (hm : Sub
    0x18400000080010000000800000003800200000000000000000000000000000027400A000000000000000000000000000000000000000000000000000000000001001CC205 M) (hs : Keeps M s0 s) :
    KeepsOut M s0 (execBurstLineStart m dt s) := by
  unfold execBurstLineStart
  extract_lets +onlyGivenNames x1
  have hx1 : Keeps M s0 x1 := by
    subst x1
    refine advance_keeps (hm.mono (by rfl)) ?_
    exact hs
  clear_value x1
  split
  · apply keepsOut_next
    exact hx1
  · apply keepsOut_ite
    · apply keepsOut_next
      refine lineStart_keeps (hm.mono (by rfl)) ?_
      exact hx1
    · apply keepsOut_next
      exact hx1

theorem execCellFilterPass_keeps {dt : Nat} {k : Fin 16} {s : State} (hm : Sub
    0x1840000000000000000080000000000000000000000000000000000000000000000000000000000000000000000000000000000000000000000000000000000000004C001 M) (hs : Keeps M s0 s) :
    KeepsOut M s0 (execCellFilterPass dt k s) := by
  unfold execCellFilterPass
  extract_lets +onlyGivenNames x1
  have hx1 : Keeps M s0 x1 := by
    subst x1
    refine advance_keeps (hm.mono (by rfl)) ?_
    exact hs
  clear_value x1
  apply keepsOut_next
  apply keeps_ite
  · exact hx1
  · refine cellPass_keeps (hm.mono (by rfl)) ?_
    exact hx1

theorem execCqEntryDue_keeps {k : Fin 4} {s : State} (hm : Sub
    0x184000000000000000008001005003002000000000000000000000000000000000000000000000000000000000000000000000000000000000000000000000000000CC005 M) (hs : Keeps M s0 s) :
    KeepsOut M s0 (execCqEntryDue k s) := by
  unfold execCqEntryDue
  apply keepsOut_next
  refine cqEntryDue_keeps (hm.mono (by rfl)) ?_
  exact hs

theorem execCqPush_keeps {k : Fin 4} {value : Word} {s : State} (hm : Sub
    0x18400000000000000000000000200000200000000000000000000000000000000000000000000000000000000000000000000000000000000000000000000000000084000 M) (hs : Keeps M s0 s) :
    KeepsOut M s0 (execCqPush k value s) := by
  unfold execCqPush
  apply keepsOut_next
  refine cqPush_keeps (hm.mono (by rfl)) ?_
  exact hs

theorem execEvtChannelDelivery_keeps {c : Fin 64} {s : State} (hm : Sub
    0x20200000785E1FD40A1850000000000080003800A005000000023004000003C0000000403C00A00000000080007FFD76803F86C4E0000020000200D0800000018500682477FFEF296 M) (hs : Keeps M s0 s) :
    KeepsOut M s0 (execEvtChannelDelivery c s) := by
  unfold execEvtChannelDelivery
  apply keepsOut_next
  refine chanDeliver_keeps (hm.mono (by rfl)) ?_
  exact hs

theorem execEvtPinEdge_keeps {i : Fin 16} {level : Bool} {held : Nat} {s : State} (hm : Sub
    0x18400040000000000000000000000000000000000000000000000000000000000000000000000000000000000000000000000000000000000000000000000000000004000 M) (hs : Keeps M s0 s) :
    KeepsOut M s0 (execEvtPinEdge i level held s) := by
  unfold execEvtPinEdge
  apply keepsOut_next
  apply keeps_ite
  · exact hs
  · refine pinAccept_keeps (hm.mono (by rfl)) ?_
    exact hs

theorem execFabWakePin_keeps {samples : BitVec 4} {s : State} (hm : Sub
    0x18400000000810000000000000000000000500000000300400000000000000000000000000000080000000000000000000000000000000000000000080002000238505004 M) (hs : Keeps M s0 s) :
    KeepsOut M s0 (execFabWakePin samples s) := by
  unfold execFabWakePin
  extract_lets +onlyGivenNames x1
  clear_value x1
  extract_lets +onlyGivenNames x2
  clear_value x2
  extract_lets +onlyGivenNames x3
  have hx3 : Keeps M s0 x3 := by
    subst x3
    refine upd_fab_keeps (hm.mono (by rfl)) ?_
    exact hs
  clear_value x3
  apply keepsOut_next
  apply keeps_ite
  · refine wakeBy_keeps (hm.mono (by rfl)) ?_
    refine raise_keeps (hm.mono (by rfl)) (hm.at .FAB_EVENT (by rfl)) ?_
    exact hx3
  · exact hx3

theorem execFailover_keeps {dt : Nat} {s : State} (hm : Sub
    0x18400000000000000000800000040000A0000000000000000000000000000000000000000000000000000000000000000000000000000000000000000000000000004C001 M) (hs : Keeps M s0 s) :
    KeepsOut M s0 (execFailover dt s) := by
  unfold execFailover
  apply keepsOut_next
  refine failover_keeps (hm.mono (by rfl)) ?_
  refine advance_keeps (hm.mono (by rfl)) ?_
  exact hs

theorem execFrameFlush_keeps {cls : LClass} {s : State} (hm : Sub 0x80000 M) (hs : Keeps M s0 s) :
    KeepsOut M s0 (execFrameFlush cls s) := by
  unfold execFrameFlush
  apply keepsOut_next
  refine frameFlush_keeps (hm.mono (by rfl)) ?_
  exact hs

theorem execHoldDrainDone_keeps {s : State} (hm : Sub
    0x20200000184000000A1850000000000080003800A005004204023004000003C7C00000403C00A00000000080007FFD7683FFFFD5E2780023FA0E3FD080000E018700682777FFE7A96 M) (hs : Keeps M s0 s) :
    KeepsOut M s0 (execHoldDrainDone s) := by
  unfold execHoldDrainDone
  split
  · apply keepsOut_next
    apply keeps_ite
    · refine settle_keeps (hm.mono (by rfl)) ?_
      refine holdDone_keeps (hm.mono (by rfl)) ?_
      exact hs
    · exact hs
  · apply keepsOut_next
    exact hs

theorem execHoldRequest_keeps {s : State} (hm : Sub
    0x20000000184200040A1850000000000080003800A005000000023004000003C0000000403C00A00000000080007FFD76803F86C4E0000020000200D0800000018500682477FFE7296 M) (hs : Keeps M s0 s) :
    KeepsOut M s0 (execHoldRequest s) := by
  unfold execHoldRequest
  apply keepsOut_next
  refine modeRequest_keeps (hm.mono (by rfl)) ?_
  exact hs

theorem execHoldoverEntry_keeps {dt : Nat} {s : State} (hm : Sub
    0x18400000000000800C00C0000000000000000000000000000000000000000000000000000000000000000000000000000000000000000000000000000000000000004C001 M) (hs : Keeps M s0 s) :
    KeepsOut M s0 (execHoldoverEntry dt s) := by
  unfold execHoldoverEntry
  apply keepsOut_next
  refine holdover_keeps (hm.mono (by rfl)) ?_
  refine advance_keeps (hm.mono (by rfl)) ?_
  exact hs

theorem execHostFrameRx_keeps {j : Fin 16} {bytes : List Byte} {corrected : Nat} {bad : Nat} {s : State} (hm : Sub
    0x1E00010000000000000000000000000000000000000000000000000000000000000000000000000000000000000000000000000000000080000
    M) (hs : Keeps M s0 s) :
    KeepsOut M s0 (execHostFrameRx j bytes corrected bad s) := by
  unfold execHostFrameRx
  apply keepsOut_next
  refine frameRx_keeps (hm.mono (by rfl)) ?_
  refine fecCount_keeps (hm.mono (by rfl)) ?_
  exact hs

theorem execHostFrameStart_keeps {j : Fin 16} {s : State} (hm : Sub
    0x18400000000000000000000100100300200000000000000000000000000000000000000000000000000000000000000000000000000000000000000000000000000084004 M) (hs : Keeps M s0 s) :
    KeepsOut M s0 (execHostFrameStart j s) := by
  unfold execHostFrameStart
  apply keepsOut_next
  refine frameStart_keeps (hm.mono (by rfl)) ?_
  exact hs

theorem execHostIfDown_keeps {j : Fin 16} {remoteFault : Bool} {s : State} (hm : Sub
    0x20000018400000080050000000000080003800A000000000000000000000000000000000000000000000000000000000000000000000000000000000000000000000200001A4200 M) (hs : Keeps M s0 s) :
    KeepsOut M s0 (execHostIfDown j remoteFault s) := by
  unfold execHostIfDown
  apply keepsOut_next
  refine hostDown_keeps (hm.mono (by rfl)) ?_
  exact hs

theorem execHostIfUp_keeps {j : Fin 16} {s : State} (hm : Sub
    0x18400000080050000000000080000000A00000000000000000000000000000000000000000000000000000000000000000000000000000000000000000000000000184000 M) (hs : Keeps M s0 s) :
    KeepsOut M s0 (execHostIfUp j s) := by
  unfold execHostIfUp
  apply keepsOut_next
  refine hostUp_keeps (hm.mono (by rfl)) ?_
  exact hs

theorem execIcmpEchoRequest_keeps {j : Fin 16} {s : State} (hm : Sub
    0x4400000000000000000000000000000000000000000000000000000000000000000000000000000000000000000000000000000000000080000
    M) (hs : Keeps M s0 s) :
    KeepsOut M s0 (execIcmpEchoRequest j s) := by
  unfold execIcmpEchoRequest
  apply keepsOut_next
  refine icmpAnswer_keeps (hm.mono (by rfl)) ?_
  exact hs

theorem execInvalidBlock_keeps {l : Fin 104} {since : Nat} {hdr : BitVec 2} {s : State} (hm : Sub
    0x200000184000002A1A50010000000080003800A1C112420400000000000007C00000400000000000000000007EFD6683FFFFD542786023FA0E3FD080000E018000002306FFE4A94 M) (hs : Keeps M s0 s) :
    KeepsOut M s0 (execInvalidBlock l since hdr s) := by
  unfold execInvalidBlock
  extract_lets +onlyGivenNames x1
  clear_value x1
  extract_lets +onlyGivenNames x2
  clear_value x2
  apply keepsOut_ite
  · extract_lets +onlyGivenNames x3
    have hx3 : Keeps M s0 x3 := by
      subst x3
      apply keeps_ite
      · refine count_keeps (hm.at .LNE_HDR_ERR_CNT (by rfl)) ?_
        exact hs
      · exact hs
    clear_value x3
    extract_lets +onlyGivenNames x4
    clear_value x4
    extract_lets +onlyGivenNames x5
    have hx5 : Keeps M s0 x5 := by
      subst x5
      refine put_keeps (hm.at .LNE_STATE (by rfl)) ?_
      exact hx3
    clear_value x5
    apply keepsOut_ite
    · extract_lets +onlyGivenNames x6
      clear_value x6
      extract_lets +onlyGivenNames x7
      have hx7 : Keeps M s0 x7 := by
        subst x7
        refine setLane_keeps (hm.mono (by rfl)) ?_
        exact hx5
      clear_value x7
      apply keepsOut_ite
      · extract_lets +onlyGivenNames x8
        clear_value x8
        extract_lets +onlyGivenNames x9
        have hx9 : Keeps M s0 x9 := by
          subst x9
          refine setLane_keeps (hm.mono (by rfl)) ?_
          exact hx7
        clear_value x9
        apply keepsOut_next
        apply keeps_ite
        · refine put_keeps (hm.at .LNE_STATE (by rfl)) ?_
          refine put_keeps (hm.at .LNE_STATE (by rfl)) ?_
          exact hx9
        · refine laneLost_keeps (hm.mono (by rfl)) ?_
          exact hx9
      · apply keepsOut_next
        exact hx7
    · apply keepsOut_next
      exact hx5
  · apply keepsOut_next
    exact hs

theorem execKeepBlockRx_keeps {l : Fin 104} {x1 : FabAddr} {x2 : Fin 16} {s : State} (hm : Sub
    0x100000000000000000000000000000000000000000000000000000000000000000000000000000000000000000000000000000 M) (hs : Keeps
    M s0 s) :
    KeepsOut M s0 (execKeepBlockRx l x1 x2 s) := by
  unfold execKeepBlockRx
  apply keepsOut_next
  apply keeps_ite
  · refine put_keeps (hm.at .LNE_STATE (by rfl)) ?_
    exact hs
  · exact hs

theorem execKeepBlockSend_keeps {l : Fin 104} {s : State} (hm : Sub 0x4 M) (hs : Keeps M s0 s) :
    KeepsOut M s0 (execKeepBlockSend l s) := by
  unfold execKeepBlockSend
  apply keepsOut_next
  apply keeps_ite
  · refine emit_keeps (hm.mono (by rfl)) ?_
    exact hs
  · exact hs

theorem execKeepDomainPowerLoss_keeps {s : State} (hm : Sub
    0x802E84080000000000000000000000000000000000000000000000000000000000000000000000000000000000000000000000000000000000000000000000000000000A0000020000 M) (hs : Keeps M s0 s) :
    KeepsOut M s0 (execKeepDomainPowerLoss s) := by
  unfold execKeepDomainPowerLoss
  apply keepsOut_next
  refine keepReset_keeps (hm.mono (by rfl)) ?_
  exact hs

theorem execKeepDomainPowerOn_keeps {s : State} (hm : Sub
    0x802E84080000000000000000000000000000000000000000000000000000000000000000000000000000000000000000000000000000000000000000000000000000000A0000020000 M) (hs : Keeps M s0 s) :
    KeepsOut M s0 (execKeepDomainPowerOn s) := by
  unfold execKeepDomainPowerOn
  apply keepsOut_next
  refine keepReset_keeps (hm.mono (by rfl)) ?_
  exact hs

theorem execKeepaliveLost_keeps {l : Fin 104} {s : State} (hm : Sub
    0x18400000000000000000000000000000000112000000000000000000000000000000000000000000000000000000000000000000000000000000000000000000000004000 M) (hs : Keeps M s0 s) :
    KeepsOut M s0 (execKeepaliveLost l s) := by
  unfold execKeepaliveLost
  apply keepsOut_ite
  · extract_lets +onlyGivenNames x1
    have hx1 : Keeps M s0 x1 := by
      subst x1
      refine raise_keeps (hm.mono (by rfl)) (hm.at .LNE_EVENT (by rfl)) ?_
      refine put_keeps (hm.at .LNE_STATE (by rfl)) ?_
      exact hs
    clear_value x1
    apply keepsOut_next
    refine put_keeps (hm.at .LNE_LAST (by rfl)) ?_
    refine put_keeps (hm.at .LNE_LAST (by rfl)) ?_
    exact hx1
  · apply keepsOut_next
    exact hs

theorem execLaneAcqDone_keeps {l : Fin 104} {ctle : Fin 16} {gain : Fin 64} {dfe : List Byte} {s : State} (hm : Sub
    0x18400000000000000000000000000000000D02000000000000000000000000000000000000000000000000000000000000000000000000000000000000000000008004000 M) (hs : Keeps M s0 s) :
    KeepsOut M s0 (execLaneAcqDone l ctle gain dfe s) := by
  unfold execLaneAcqDone
  apply keepsOut_ite
  · extract_lets +onlyGivenNames x1
    clear_value x1
    extract_lets +onlyGivenNames x2
    have hx2 : Keeps M s0 x2 := by
      subst x2
      refine put_keeps (hm.at .LNE_STATE (by rfl)) ?_
      refine put_keeps (hm.at .LNE_STATE (by rfl)) ?_
      exact hs
    clear_value x2
    extract_lets +onlyGivenNames x3
    have hx3 : Keeps M s0 x3 := by
      subst x3
      refine put_keeps (hm.at .LNE_STATE (by rfl)) ?_
      refine put_keeps (hm.at .LNE_STATE (by rfl)) ?_
      exact hx2
    clear_value x3
    extract_lets +onlyGivenNames x4
    have hx4 : Keeps M s0 x4 := by
      subst x4
      refine put_keeps (hm.at .LNE_STATE (by rfl)) ?_
      refine put_keeps (hm.at .LNE_STATE (by rfl)) ?_
      exact hx3
    clear_value x4
    extract_lets +onlyGivenNames x5
    clear_value x5
    extract_lets +onlyGivenNames x6
    have hx6 : Keeps M s0 x6 := by
      subst x6
      refine setLane_keeps (hm.mono (by rfl)) ?_
      exact hx4
    clear_value x6
    extract_lets +onlyGivenNames x7
    have hx7 : Keeps M s0 x7 := by
      subst x7
      refine putLaneSt_keeps (hm.mono (by rfl)) ?_
      refine showRxEq_keeps (hm.mono (by rfl)) ?_
      exact hx6
    clear_value x7
    apply keepsOut_next
    apply keeps_ite
    · refine laneTestTry_keeps (hm.mono (by rfl)) ?_
      exact hx7
    · exact hx7
  · apply keepsOut_next
    exact hs

theorem execLaneDeep_keeps {l : Fin 104} {deep : Bool} {s : State} (hm : Sub
    0x200000184000002A1A50010000000080003800A0C592420400000000000007C00000400000000000000000007EFD6683FFFFD542786023FA0E3FD080000E018000002306FFE4A94 M) (hs : Keeps M s0 s) :
    KeepsOut M s0 (execLaneDeep l deep s) := by
  unfold execLaneDeep
  apply keepsOut_next
  refine laneDeepSet_keeps (hm.mono (by rfl)) ?_
  exact hs

theorem execLaneLockLoss_keeps {l : Fin 104} {signal : Bool} {s : State} (hm : Sub
    0x200000184000002A1A50010000000080003800A0C112420400000000000007C00000400000000000000000007EFD6683FFFFD542786023FA0E3FD080000E018000002306FFE4A94 M) (hs : Keeps M s0 s) :
    KeepsOut M s0 (execLaneLockLoss l signal s) := by
  unfold execLaneLockLoss
  extract_lets +onlyGivenNames x1
  clear_value x1
  apply keepsOut_ite
  · extract_lets +onlyGivenNames x2
    have hx2 : Keeps M s0 x2 := by
      subst x2
      apply keeps_ite
      · refine put_keeps (hm.at .LNE_STATE (by rfl)) ?_
        exact hs
      · exact hs
    clear_value x2
    apply keepsOut_next
    refine raise_keeps (hm.mono (by rfl)) (hm.at .LNE_EVENT (by rfl)) ?_
    refine count_keeps (hm.at .LNE_LOCKLOSS_CNT (by rfl)) ?_
    refine put_keeps (hm.at .LNE_LAST (by rfl)) ?_
    exact hx2
  · apply keepsOut_next
    refine laneDrop_keeps (hm.mono (by rfl)) ?_
    exact hs

theorem execLaneRetrain_keeps {l : Fin 104} {s : State} (hm : Sub
    0x200000184000002A1A50010000000080003800A0C112420400000000000007C00000400000000000000000007EFD6683FFFFD542786023FA0E3FD080000E018000002306FFE4A94 M) (hs : Keeps M s0 s) :
    KeepsOut M s0 (execLaneRetrain l s) := by
  unfold execLaneRetrain
  apply keepsOut_next
  refine laneDrop_keeps (hm.mono (by rfl)) ?_
  exact hs

theorem execLaneSlip_keeps {l : Fin 104} {s : State} (hm : Sub
    0x100000000000000000000000000000000000000000000000000000000000000000000000000000000000000000000008000000 M) (hs : Keeps
    M s0 s) :
    KeepsOut M s0 (execLaneSlip l s) := by
  unfold execLaneSlip
  apply keepsOut_next
  refine laneSlip_keeps (hm.mono (by rfl)) ?_
  exact hs

theorem execLaneTestRequest_keeps {l : Fin 104} {value : Word} {s : State} (hm : Sub
    0x18400000000000000000000000000000000702000000000000000000000000000000000000000000000000000000000000000000000000000000000000000000008004000 M) (hs : Keeps M s0 s) :
    KeepsOut M s0 (execLaneTestRequest l value s) := by
  unfold execLaneTestRequest
  apply keepsOut_next
  refine laneTestTry_keeps (hm.mono (by rfl)) ?_
  refine wr_keeps (hm.at .LNE_TEST (by rfl)) ?_
  exact hs

theorem execLatchFall_keeps {m : Fin 4} {dt : Nat} {s : State} (hm : Sub
    0x1840000000000000000080000000000000000000000000000000000000000000000000000000000000000000000000000000000000000000000000000000000010004C005 M) (hs : Keeps M s0 s) :
    KeepsOut M s0 (execLatchFall m dt s) := by
  unfold execLatchFall
  extract_lets +onlyGivenNames x1
  have hx1 : Keeps M s0 x1 := by
    subst x1
    refine advance_keeps (hm.mono (by rfl)) ?_
    exact hs
  clear_value x1
  extract_lets +onlyGivenNames x2
  clear_value x2
  apply keepsOut_ite
  · extract_lets +onlyGivenNames x3
    have hx3 : Keeps M s0 x3 := by
      subst x3
      refine emit_keeps (hm.mono (by rfl)) ?_
      refine setMrkPort_keeps (hm.mono (by rfl)) ?_
      exact hx1
    clear_value x3
    extract_lets +onlyGivenNames x4
    have hx4 : Keeps M s0 x4 := by
      subst x4
      apply keeps_ite
      · refine shiftNext_keeps (hm.mono (by rfl)) ?_
        exact hx3
      · exact hx3
    clear_value x4
    apply keepsOut_next
    refine emit_keeps (hm.mono (by rfl)) ?_
    exact hx4
  · apply keepsOut_next
    exact hx1

theorem execLoopReenable_keeps {c : Fin 64} {s : State} (hm : Sub
    0x10000000000000000000000000000000000000000000000000000000000000000000000000000000000000000000000000000000000000000000000000000004000 M) (hs : Keeps M s0 s) :
    KeepsOut M s0 (execLoopReenable c s) := by
  unfold execLoopReenable
  apply keepsOut_next
  refine loopReenable_keeps (hm.mono (by rfl)) ?_
  exact hs

theorem execMarkCompare_keeps {m : Fin 4} {dt : Nat} {s : State} (hm : Sub
    0x18400000080010000000800000003800200000000000000000000000000000037400A000000000000000000000000000000000000000000000000000000000001001CC207 M) (hs : Keeps M s0 s) :
    KeepsOut M s0 (execMarkCompare m dt s) := by
  unfold execMarkCompare
  extract_lets +onlyGivenNames x1
  have hx1 : Keeps M s0 x1 := by
    subst x1
    refine advance_keeps (hm.mono (by rfl)) ?_
    exact hs
  clear_value x1
  extract_lets +onlyGivenNames x2
  clear_value x2
  extract_lets +onlyGivenNames x3
  have hx3 : Keeps M s0 x3 := by
    subst x3
    apply keeps_foldl
    · intro t4 x5 h6
      refine markCompare_keeps (hm.mono (by rfl)) ?_
      exact h6
    · exact hx1
  clear_value x3
  split
  · apply keepsOut_next
    exact hx3
  · apply keepsOut_ite
    · apply keepsOut_next
      refine lineStart_keeps (hm.mono (by rfl)) ?_
      exact hx3
    · apply keepsOut_next
      exact hx3

theorem execMarkRequest_keeps {s : State} (hm : Sub
    0x18400000080010000000000000003800200000000000000000000000000000003C00A00000000000000000000000000000000000000000000000000000000000102184204 M) (hs : Keeps M s0 s) :
    KeepsOut M s0 (execMarkRequest s) := by
  unfold execMarkRequest
  split
  · apply keepsOut_next
    exact hs
  · apply keepsOut_next
    refine markRequest_keeps (hm.mono (by rfl)) ?_
    refine upd_seg_keeps (hm.mono (by rfl)) ?_
    exact hs

theorem execMarkRestart_keeps {m : Fin 4} {s : State} (hm : Sub
    0x400000000000000000000000000000000000000000000000000000000000000000000000 M) (hs : Keeps M s0 s) :
    KeepsOut M s0 (execMarkRestart m s) := by
  unfold execMarkRestart
  apply keepsOut_next
  refine mrkRestart_keeps (hm.mono (by rfl)) ?_
  exact hs

theorem execMgmtChallenge_keeps {s : State} (hm : Sub
    0x4000000000000000000000000000000000000000000000000000000000000000000000000000000000000000000000000000000080002 M) (hs
    : Keeps M s0 s) :
    KeepsOut M s0 (execMgmtChallenge s) := by
  unfold execMgmtChallenge
  apply keepsOut_next
  refine mgmtChallenge_keeps (hm.mono (by rfl)) ?_
  exact hs

theorem execMgmtClose_keeps {s : State} (hm : Sub
    0x84000800000000000000000000000000000000000000000000000000000000000000000000000000000000000000000000000000080000 M) (hs
    : Keeps M s0 s) :
    KeepsOut M s0 (execMgmtClose s) := by
  unfold execMgmtClose
  apply keepsOut_next
  refine mgmtClose_keeps (hm.mono (by rfl)) ?_
  exact hs

theorem execMgmtMalformed_keeps {s : State} (hm : Sub 0x80000 M) (hs : Keeps M s0 s) :
    KeepsOut M s0 (execMgmtMalformed s) := by
  unfold execMgmtMalformed
  apply keepsOut_next
  refine mgmtMalformed_keeps (hm.mono (by rfl)) ?_
  exact hs

theorem execMgmtOpen_keeps {s : State} (hm : Sub 0x80000 M) (hs : Keeps M s0 s) :
    KeepsOut M s0 (execMgmtOpen s) := by
  unfold execMgmtOpen
  apply keepsOut_next
  refine mgmtOpen_keeps (hm.mono (by rfl)) ?_
  exact hs

theorem execMgmtOpenVerified_keeps {sigOk : Bool} {s : State} (hm : Sub
    0x18400000000000000000000000024000A00000000000000000000000000000000000000000000000000000000000000000000000000000000000000000000000000084000 M) (hs : Keeps M s0 s) :
    KeepsOut M s0 (execMgmtOpenVerified sigOk s) := by
  unfold execMgmtOpenVerified
  apply keepsOut_next
  refine mgmtOpenVerified_keeps (hm.mono (by rfl)) ?_
  exact hs

theorem execNonceExpiry_keeps {dt : Nat} {ip : Word} {port : BitVec 16} {s : State} (hm : Sub
    0x184000000000000000008000000000000000000000000000000000000000000000000000000000000000000000000000000000000000000000000000000000000000CC001 M) (hs : Keeps M s0 s) :
    KeepsOut M s0 (execNonceExpiry dt ip port s) := by
  unfold execNonceExpiry
  extract_lets +onlyGivenNames x1
  have hx1 : Keeps M s0 x1 := by
    subst x1
    refine advance_keeps (hm.mono (by rfl)) ?_
    exact hs
  clear_value x1
  apply keepsOut_next
  refine upd_hst_keeps (hm.mono (by rfl)) ?_
  exact hx1

theorem execPinPulseEnd_keeps {dt : Nat} {i : Fin 16} {s : State} (hm : Sub
    0x1840004000000000000080000000000000000000000000000000000000000000000000000000000000000000000000000000000000000000000000000000000000004C005 M) (hs : Keeps M s0 s) :
    KeepsOut M s0 (execPinPulseEnd dt i s) := by
  unfold execPinPulseEnd
  apply keepsOut_next
  refine pinPulseEnd_keeps (hm.mono (by rfl)) ?_
  refine advance_keeps (hm.mono (by rfl)) ?_
  exact hs

theorem execPinStuck_keeps {dt : Nat} {i : Fin 16} {s : State} (hm : Sub
    0x1840004400000000000080000000000000000000000000000000000000000000000000000000000000000000000000000000000000000000000000000000000000004C001 M) (hs : Keeps M s0 s) :
    KeepsOut M s0 (execPinStuck dt i s) := by
  unfold execPinStuck
  apply keepsOut_next
  refine pinStuck_keeps (hm.mono (by rfl)) ?_
  refine advance_keeps (hm.mono (by rfl)) ?_
  exact hs

theorem execPmcCounterWrap_keeps {i : Fin 8} {s : State} (hm : Sub
    0x18400000000000000000000000000000000000000000000000000000000000000000000000000000000000000000000000000000000000000000000000000000000004000 M) (hs : Keeps M s0 s) :
    KeepsOut M s0 (execPmcCounterWrap i s) := by
  unfold execPmcCounterWrap
  apply keepsOut_ite
  · extract_lets +onlyGivenNames x1
    have hx1 : Keeps M s0 x1.1 := by
      subst x1
      refine pmcBump_keeps (hm.mono (by rfl)) ?_
      exact hs
    clear_value x1
    apply keepsOut_next
    apply keeps_ite
    · refine fire_keeps (hm.mono (by rfl)) ?_
      exact hx1
    · exact hx1
  · apply keepsOut_next
    exact hs

theorem execPmcWindowEnd_keeps {s : State} (hm : Sub
    0x7840000000000000000080000000000000000000000000000000000000000000000000000000000000000000000000000000000000000000000000000000000000004C001 M) (hs : Keeps M s0 s) :
    KeepsOut M s0 (execPmcWindowEnd s) := by
  unfold execPmcWindowEnd
  apply keepsOut_next
  apply keeps_ite
  · refine pmcWindowEnd_keeps (hm.mono (by rfl)) ?_
    refine advance_keeps (hm.mono (by rfl)) ?_
    exact hs
  · exact hs

theorem execPrbsCheckerLock_keeps {l : Fin 104} {s : State} (hm : Sub
    0x400000000000000000000000000000000000000000000000000000000000000000000000000000000000000000000008000000 M) (hs : Keeps
    M s0 s) :
    KeepsOut M s0 (execPrbsCheckerLock l s) := by
  unfold execPrbsCheckerLock
  apply keepsOut_next
  apply keeps_ite
  · refine setLane_keeps (hm.mono (by rfl)) ?_
    refine put_keeps (hm.at .LNE_TSTAT (by rfl)) ?_
    exact hs
  · exact hs

theorem execPrbsCheckerLoss_keeps {l : Fin 104} {mismatches : Nat} {s : State} (hm : Sub
    0x2400000000000000000000000000000000000000000000000000000000000000000000000000000000000000000000008000000 M) (hs :
    Keeps M s0 s) :
    KeepsOut M s0 (execPrbsCheckerLoss l mismatches s) := by
  unfold execPrbsCheckerLoss
  apply keepsOut_ite
  · extract_lets +onlyGivenNames x1
    have hx1 : Keeps M s0 x1 := by
      subst x1
      refine put_keeps (hm.at .LNE_TSTAT (by rfl)) ?_
      refine count_keeps (hm.at .LNE_PRBS_ERR (by rfl)) ?_
      exact hs
    clear_value x1
    extract_lets +onlyGivenNames x2
    have hx2 : Keeps M s0 x2 := by
      subst x2
      refine put_keeps (hm.at .LNE_TSTAT (by rfl)) ?_
      exact hx1
    clear_value x2
    extract_lets +onlyGivenNames x3
    have hx3 : Keeps M s0 x3 := by
      subst x3
      apply keeps_ite
      · refine put_keeps (hm.at .LNE_TSTAT (by rfl)) ?_
        exact hx2
      · exact hx2
    clear_value x3
    apply keepsOut_next
    refine setLane_keeps (hm.mono (by rfl)) ?_
    exact hx3
  · apply keepsOut_next
    exact hs

theorem execPtpDelayReqSend_keeps {seqId : BitVec 16} {s : State} (hm : Sub
    0x100000000000000000000000000000000000000000000000000000000000000000000000000000000000000000000000000000000000040004 M)
    (hs : Keeps M s0 s) :
    KeepsOut M s0 (execPtpDelayReqSend seqId s) := by
  unfold execPtpDelayReqSend
  apply keepsOut_next
  refine ptpDelayReqSend_keeps (hm.mono (by rfl)) ?_
  exact hs

theorem execPtpDelayResp_keeps {m : PtpMsg} {s : State} (hm : Sub
    0x18400000000000410000800000000000000000000000000000000000000000000000000000000000000000000000000000000000000000000000000000000000000044000 M) (hs : Keeps M s0 s) :
    KeepsOut M s0 (execPtpDelayResp m s) := by
  unfold execPtpDelayResp
  apply keepsOut_next
  refine ptpDelayResp_keeps (hm.mono (by rfl)) ?_
  exact hs

theorem execPtpFollowUp_keeps {m : PtpMsg} {s : State} (hm : Sub
    0x18400000000000410000800000000000000000000000000000000000000000000000000000000000000000000000000000000000000000000000000000000000000044000 M) (hs : Keeps M s0 s) :
    KeepsOut M s0 (execPtpFollowUp m s) := by
  unfold execPtpFollowUp
  apply keepsOut_next
  refine ptpFollowUp_keeps (hm.mono (by rfl)) ?_
  exact hs

theorem execPtpPdelayReq_keeps {m : PtpMsg} {s : State} (hm : Sub
    0x100000000000000000000000000000000000000000000000000000000000000000000000000000000000000000000000000000000000000004 M)
    (hs : Keeps M s0 s) :
    KeepsOut M s0 (execPtpPdelayReq m s) := by
  unfold execPtpPdelayReq
  apply keepsOut_next
  refine ptpPdelayReq_keeps (hm.mono (by rfl)) ?_
  exact hs

theorem execPtpSync_keeps {m : PtpMsg} {s : State} (hm : Sub 0x40000 M) (hs : Keeps M s0 s) :
    KeepsOut M s0 (execPtpSync m s) := by
  unfold execPtpSync
  apply keepsOut_next
  refine ptpSync_keeps (hm.mono (by rfl)) ?_
  exact hs

theorem execRefclkWindow_keeps {host : Bool} {count : Nat} {s : State} (hm : Sub
    0x200000184000002A1A50010000000080003800A0C513420400000000000007C00000400000000000000000007EFD6683FFFFD542786023FA0E3FD080000E018000002306FFE4A94 M) (hs : Keeps M s0 s) :
    KeepsOut M s0 (execRefclkWindow host count s) := by
  unfold execRefclkWindow
  extract_lets +onlyGivenNames k ok good bad run ln t u
  have ho : M.testBit ok.reg.part = true := by
    subst ok
    split <;> exact hm.at .LNE_STATUS (by rfl)
  clear_value ok bad run k good ln
  have ht : Keeps M s0 t := upd_lne_keeps (hm.mono (by rfl)) hs
  clear_value t
  split
  · have hu : Keeps M s0 u := by
      subst u
      refine raise_keeps (hm.mono (by rfl)) ?_ (put_keeps ho ht)
      split <;> exact hm.at .LNE_EVENT (by rfl)
    clear_value u
    refine keepsOut_next (keeps_forBelow ?_ hu)
    intro l t h
    exact keeps_ite (laneRefLost_keeps (hm.mono (by rfl)) h) h
  · exact keepsOut_next (keeps_ite (put_keeps ho ht) ht)

theorem execRehearsalEnd_keeps {s : State} (hm : Sub
    0x18400000000000000000000000000000000000000000000000000000000000000000000000000000000000000000000000000000000201D000000E0180006800000C25004 M) (hs : Keeps M s0 s) :
    KeepsOut M s0 (execRehearsalEnd s) := by
  unfold execRehearsalEnd
  apply keepsOut_next
  apply keeps_ite
  · refine rehearsalEnd_keeps (hm.mono (by rfl)) ?_
    exact hs
  · exact hs

theorem execRehearsalOwedRequest_keeps {s : State} (hm : Sub 0x2000000000000 M) (hs : Keeps M s0 s) :
    KeepsOut M s0 (execRehearsalOwedRequest s) := by
  unfold execRehearsalOwedRequest
  apply keepsOut_next
  refine put_keeps (hm.at .GLB_STATUS (by rfl)) ?_
  exact hs

theorem execRehearsalTimeout_keeps {s : State} (hm : Sub
    0x18400000000000000000000000000000000000000000000000000000000000000000000000000000000000000000000000000000000201D000000E0180006800000C25004 M) (hs : Keeps M s0 s) :
    KeepsOut M s0 (execRehearsalTimeout s) := by
  unfold execRehearsalTimeout
  apply keepsOut_next
  apply keeps_ite
  · refine rehearsalEnd_keeps (hm.mono (by rfl)) ?_
    exact hs
  · exact hs

theorem execReloadRequest_keeps {s : State} (hm : Sub
    0x7FFFFFFFFFFFFFFFFFFFFFFFFFFFFFFFFFFFFFFFFFFFFFFFFFFFFFFFFFFFFFFFFFFFFFFFFFFFFFFFFFFFFFFFFFFFFFFFFFFFFFFFFFFFFFFFFFFFFFFFFFFFFFFFFFFFFFFFCBFFFFFFFAFC M) (hs : Keeps M s0 s) :
    KeepsOut M s0 (execReloadRequest s) := by
  unfold execReloadRequest
  apply keepsOut_next
  apply keeps_ite
  · refine reload_keeps (hm.mono (by rfl)) ?_
    exact hs
  · exact hs

theorem execResetNAssert_keeps {samples : BitVec 4} {s : State} (hm : Sub
    0x7FFFFFFFFFFFFFFFFFFFFFFFFFFFFFFFFFFFFFFFFFFFFFFFFFFFFFFFFFFFFFFFFFFFFFFFFFFFFFFFFFFFFFFFFFFFFFFFFFFFFFFFFFFFFFFFFFFFFFFFFFFFFFFFFFFFFFFFCBFFFFFFFAFC M) (hs : Keeps M s0 s) :
    KeepsOut M s0 (execResetNAssert samples s) := by
  unfold execResetNAssert
  apply keepsOut_next
  apply keeps_ite
  · exact hs
  · refine resetLow_keeps (hm.mono (by rfl)) ?_
    exact hs

theorem execResetNRelease_keeps {samples : BitVec 4} {s : State} (hm : Sub
    0x7FFFFFFFFFFFFFFFFFFFFFFFFFFFFFFFFFFFFFFFFFFFFFFFFFFFFFFFFFFFFFFFFFFFFFFFFFFFFFFFFFFFFFFFFFFFFFFFFFFFFFFFFFFFFFFFFFFFFFFFFFFFFFFFFFFFFFFFCBFFFFFFFAFC M) (hs : Keeps M s0 s) :
    KeepsOut M s0 (execResetNRelease samples s) := by
  unfold execResetNRelease
  apply keepsOut_next
  apply keeps_ite
  · exact hs
  · refine loadStart_keeps (hm.mono (by rfl)) ?_
    refine upd_pwr_keeps (hm.mono (by rfl)) (.inr rfl) (.inr rfl) (.inr rfl) (.inr rfl) ?_
    exact hs

theorem execResumeRequest_keeps {s : State} (hm : Sub
    0x20000000184200040A1850000000000080003800A005000000023004000003C0000000403C00A00000000080007FFD76803F86C4E0000020000200D0800000018500682477FFE7296 M) (hs : Keeps M s0 s) :
    KeepsOut M s0 (execResumeRequest s) := by
  unfold execResumeRequest
  apply keepsOut_next
  refine modeRequest_keeps (hm.mono (by rfl)) ?_
  exact hs

theorem execSecondRollover_keeps {s : State} (hm : Sub
    0x1840000000000000000080000000000000000000000000000000000000000000000000000000000000000000000000000000000000000000000000000000000000004C001 M) (hs : Keeps M s0 s) :
    KeepsOut M s0 (execSecondRollover s) := by
  unfold execSecondRollover
  apply keepsOut_next
  refine advance_keeps (hm.mono (by rfl)) ?_
  exact hs

theorem execServoOffset_keeps {s : State} (hm : Sub
    0x1840000000000070FC00C00000000000000000000000000000000000000000000000000000000000000000000000000000000000000000000000000000000000000044000 M) (hs : Keeps M s0 s) :
    KeepsOut M s0 (execServoOffset s) := by
  unfold execServoOffset
  apply keepsOut_next
  refine servoOffset_keeps (hm.mono (by rfl)) ?_
  exact hs

theorem execSessionExpiry_keeps {dt : Nat} {k : Fin 4} {s : State} (hm : Sub
    0x184000000000000000008000000000008000000000000000000000000000000000000000000000000000000000000000000000000000000000000000000000000000CC001 M) (hs : Keeps M s0 s) :
    KeepsOut M s0 (execSessionExpiry dt k s) := by
  unfold execSessionExpiry
  extract_lets +onlyGivenNames x1
  have hx1 : Keeps M s0 x1 := by
    subst x1
    refine advance_keeps (hm.mono (by rfl)) ?_
    exact hs
  clear_value x1
  apply keepsOut_next
  apply keeps_ite
  · refine endSession_keeps (hm.mono (by rfl)) ?_
    exact hx1
  · exact hx1

theorem execSoftwareFire_keeps {task : BitVec 7} {s : State} (hm : Sub
    0x2000000078521FC40A1850000000000080003800A005000000023004000003C0000000403C00A00000000080007FFD76803F86C4E0000020000200D0800000018500682477FFEF296 M) (hs : Keeps M s0 s) :
    KeepsOut M s0 (execSoftwareFire task s) := by
  unfold execSoftwareFire
  apply keepsOut_next
  refine taskFire_keeps (hm.mono (by rfl)) ?_
  exact hs

theorem execStandbyAfterExpiry_keeps {dt : Nat} {s : State} (hm : Sub
    0x20000000184000000A1850000000800080003800A005000000023004000003C0000000403C00A00000000000007FFD76803F86C4E0000020000200D0800000018400682437FFEF297 M) (hs : Keeps M s0 s) :
    KeepsOut M s0 (execStandbyAfterExpiry dt s) := by
  unfold execStandbyAfterExpiry
  extract_lets +onlyGivenNames x1
  have hx1 : Keeps M s0 x1 := by
    subst x1
    refine advance_keeps (hm.mono (by rfl)) ?_
    exact hs
  clear_value x1
  apply keepsOut_next
  apply keeps_ite
  · refine leaveHold_keeps (hm.mono (by rfl)) ?_
    exact hx1
  · exact hx1

theorem execStandbyRequest_keeps {s : State} (hm : Sub
    0x20000000184200040A1850000000000080003800A005000000023004000003C0000000403C00A00000000080007FFD76803F86C4E0000020000200D0800000018500682477FFE7296 M) (hs : Keeps M s0 s) :
    KeepsOut M s0 (execStandbyRequest s) := by
  unfold execStandbyRequest
  apply keepsOut_next
  refine modeRequest_keeps (hm.mono (by rfl)) ?_
  exact hs

theorem execStandbyWake_keeps {src : WakeSource} {s : State} (hm : Sub
    0x800000000000000000000000500000000300400000000000000000000000000000080000000000000000000000000000000000000000080002000238401004 M) (hs : Keeps M s0 s) :
    KeepsOut M s0 (execStandbyWake src s) := by
  unfold execStandbyWake
  apply keepsOut_next
  refine wakeBy_keeps (hm.mono (by rfl)) ?_
  exact hs

theorem execStatMeasurement_keeps {m : Fin 4} {dt : Nat} {p : Nat} {h : Nat} {s : State} (hm : Sub
    0x1840000000000000000080000000000000000000000000000000000000000004040020000000000000000000000000000000000000000000000000000000000010004C005 M) (hs : Keeps M s0 s) :
    KeepsOut M s0 (execStatMeasurement m dt p h s) := by
  unfold execStatMeasurement
  apply keepsOut_next
  refine statMeasure_keeps (hm.mono (by rfl)) ?_
  refine advance_keeps (hm.mono (by rfl)) ?_
  exact hs

theorem execStatRecovery_keeps {m : Fin 4} {dt : Nat} {s : State} (hm : Sub
    0x1840000000000000000080000000000000000000000000000000000000000000040000000000000000000000000000000000000000000000000000000000000000004C001 M) (hs : Keeps M s0 s) :
    KeepsOut M s0 (execStatRecovery m dt s) := by
  unfold execStatRecovery
  extract_lets +onlyGivenNames x1
  have hx1 : Keeps M s0 x1 := by
    subst x1
    refine advance_keeps (hm.mono (by rfl)) ?_
    exact hs
  clear_value x1
  apply keepsOut_ite
  · apply keepsOut_next
    refine put_keeps (hm.at .MRK_PSTAT (by rfl)) ?_
    refine put_keeps (hm.at .MRK_PSTAT (by rfl)) ?_
    exact hx1
  · apply keepsOut_next
    exact hx1

theorem execStatTimeout_keeps {m : Fin 4} {dt : Nat} {s : State} (hm : Sub
    0x20000018400000080010000000800000003800200000000000000000000000000000003400A000000000000000000000000000000000000000000000000000000000201001EC205 M) (hs : Keeps M s0 s) :
    KeepsOut M s0 (execStatTimeout m dt s) := by
  unfold execStatTimeout
  extract_lets +onlyGivenNames x1
  have hx1 : Keeps M s0 x1 := by
    subst x1
    refine advance_keeps (hm.mono (by rfl)) ?_
    exact hs
  clear_value x1
  apply keepsOut_ite
  · apply keepsOut_next
    exact hx1
  · extract_lets +onlyGivenNames x2
    have hx2 : Keeps M s0 x2 := by
      subst x2
      refine put_keeps (hm.at .MRK_PSTAT (by rfl)) ?_
      exact hx1
    clear_value x2
    apply keepsOut_ite
    · apply keepsOut_next
      refine raise_keeps (hm.mono (by rfl)) (hm.at .MRK_EVENT (by rfl)) ?_
      refine mrkFault_keeps (hm.mono (by rfl)) ?_
      exact hx2
    · apply keepsOut_next
      exact hx2

theorem execStrobeFall_keeps {m : Fin 4} {dt : Nat} {s : State} (hm : Sub
    0x1840000000000000000080000000000000000000000000000000000000000000000000000000000000000000000000000000000000000000000000000000000010004C005 M) (hs : Keeps M s0 s) :
    KeepsOut M s0 (execStrobeFall m dt s) := by
  unfold execStrobeFall
  extract_lets +onlyGivenNames x1
  have hx1 : Keeps M s0 x1 := by
    subst x1
    refine advance_keeps (hm.mono (by rfl)) ?_
    exact hs
  clear_value x1
  extract_lets +onlyGivenNames x2
  clear_value x2
  apply keepsOut_ite
  · apply keepsOut_next
    refine emit_keeps (hm.mono (by rfl)) ?_
    refine setMrkPort_keeps (hm.mono (by rfl)) ?_
    exact hx1
  · apply keepsOut_next
    exact hx1

theorem execStrobeWatchdog_keeps {m : Fin 4} {dt : Nat} {s : State} (hm : Sub
    0x2000001840000008001000000080000000380020000000000000000000000000000000B400A000000000000000000000000000000000000000000000000000000000201001EC205 M) (hs : Keeps M s0 s) :
    KeepsOut M s0 (execStrobeWatchdog m dt s) := by
  unfold execStrobeWatchdog
  extract_lets +onlyGivenNames x1
  have hx1 : Keeps M s0 x1 := by
    subst x1
    refine advance_keeps (hm.mono (by rfl)) ?_
    exact hs
  clear_value x1
  extract_lets +onlyGivenNames x2
  clear_value x2
  apply keepsOut_ite
  · apply keepsOut_next
    exact hx1
  · apply keepsOut_ite
    · apply keepsOut_next
      refine emit_keeps (hm.mono (by rfl)) ?_
      refine setMrkPort_keeps (hm.mono (by rfl)) ?_
      exact hx1
    · apply keepsOut_next
      refine raise_keeps (hm.mono (by rfl)) (hm.at .MRK_EVENT (by rfl)) ?_
      refine count_keeps (hm.at .MRK_WD_CNT (by rfl)) ?_
      refine mrkFault_keeps (hm.mono (by rfl)) ?_
      exact hx1

theorem execTimeNowRead_keeps {x0 : Requester} {s : State} (hm : Sub 0x40008 M) (hs : Keeps M s0 s) :
    KeepsOut M s0 (execTimeNowRead x0 s) := by
  unfold execTimeNowRead
  apply keepsOut_next
  refine upd_busData_tim_keeps (hm.mono (by rfl)) ?_
  exact hs

theorem execTimeSet_keeps {s : State} (hm : Sub
    0x18400000000000200000C00000000000000000000000000000000000000000000000000000000000000000000000000000000000000000000000000000000000000044000 M) (hs : Keeps M s0 s) :
    KeepsOut M s0 (execTimeSet s) := by
  unfold execTimeSet
  apply keepsOut_next
  refine timeSet_keeps (hm.mono (by rfl)) ?_
  exact hs

theorem execVerifyEnd_keeps {s : State} (hm : Sub
    0x18400000000000000000000000000000000000000000000000000000000000000000000000000000000000000000000000000000000000000000000000006800000025000 M) (hs : Keeps M s0 s) :
    KeepsOut M s0 (execVerifyEnd s) := by
  unfold execVerifyEnd
  apply keepsOut_next
  apply keeps_ite
  · refine verifyDone_keeps (hm.mono (by rfl)) ?_
    exact hs
  · exact hs

theorem execVerifyTimeout_keeps {s : State} (hm : Sub
    0x18400000000000000000000000000000000000000000000000000000000000000000000000000000000000000000000000000000000000000000000000006800000025000 M) (hs : Keeps M s0 s) :
    KeepsOut M s0 (execVerifyTimeout s) := by
  unfold execVerifyTimeout
  apply keepsOut_next
  apply keeps_ite
  · refine verifyTimeout_keeps (hm.mono (by rfl)) ?_
    exact hs
  · exact hs

theorem execWakeBlockRx_keeps {l : Fin 104} {s : State} (hm : Sub
    0x18400000000800000000000000000000000502000000300400000000000000000000000000000080000000000000000000000000000000000000000080002000238405004 M) (hs : Keeps M s0 s) :
    KeepsOut M s0 (execWakeBlockRx l s) := by
  unfold execWakeBlockRx
  apply keepsOut_next
  apply keeps_ite
  · refine wakeBy_keeps (hm.mono (by rfl)) ?_
    refine raise_keeps (hm.mono (by rfl)) (hm.at .LNE_EVENT (by rfl)) ?_
    exact hs
  · exact hs

theorem execWakeHoldEntry_keeps {s : State} (hm : Sub
    0x20000000184000000A1850000000000080003800A005000000023004000003C0000000403C00A00000000080007FFD76803F86C4E0000020000200D0800000018700682477FFE7296 M) (hs : Keeps M s0 s) :
    KeepsOut M s0 (execWakeHoldEntry s) := by
  unfold execWakeHoldEntry
  split
  · extract_lets +onlyGivenNames x1
    have hx1 : Keeps M s0 x1 := by
      subst x1
      refine endTrans_keeps (hm.mono (by rfl)) ?_
      refine setMode_keeps (hm.mono (by rfl)) ?_
      exact hs
    clear_value x1
    extract_lets +onlyGivenNames x2
    have hx2 : Keeps M s0 x2 := by
      subst x2
      refine count_keeps (hm.at .GLB_HOLD_CNT (by rfl)) ?_
      refine put_keeps (hm.at .GLB_STATUS (by rfl)) ?_
      exact hx1
    clear_value x2
    apply keepsOut_next
    refine settle_keeps (hm.mono (by rfl)) ?_
    refine fspTo_keeps (hm.mono (by rfl)) ?_
    refine chansDrop_keeps (hm.mono (by rfl)) ?_
    refine cellsResume_keeps (hm.mono (by rfl)) ?_
    exact hx2
  · apply keepsOut_next
    exact hs

end Sys2Proof.Machine
end

