-- ==== Sys2Proof/Laws/KeepsExec.lean ====
section
/-! SUPPORT. Laws/KeepsExec.lean: the same for the remaining commands, said once as Keeps (Safety.lean). -/

namespace Sys2Proof.Machine

variable {s0 : State} {M : Nat}

theorem activeLoadEnd_keeps {s : State} (hm : Sub
    0x800000000000000000000000000000000000000000000000000000000000000000000000000000000000000000000000000000000 M) (hs :
    Keeps M s0 s) :
    Keeps M s0 (State.activeLoadEnd s) := by
  unfold State.activeLoadEnd
  refine showPath_keeps (hm.mono (by rfl)) ?_
  refine put_keeps (hm.at .HST_STATUS (by rfl)) ?_
  exact hs

theorem afterRound_keeps {s : State} (hm : Sub
    0x7FFFFFFFFFFFFFFFFFFFFFFFFFFFFFFFFFFFFFFFFFFFFFFFFFFFFFFFFFFFFFFFFFFFFFFFFFFFFFFFFFFFFFFFFFFFFFFFFFFFFFFFFFFFFFFFFFFFFFFFFFFFFFFFFFFFFFFFCFFFFFFFFAFC M) (hs : Keeps M s0 s) :
    Keeps M s0 (State.afterRound s) := by
  unfold State.afterRound
  apply keeps_ite
  · exact hs
  · refine shutdownCheck_keeps (hm.mono (by rfl)) ?_
    refine heatStates_keeps (hm.mono (by rfl)) ?_
    exact hs

theorem imageWrite_keeps {s : State} {addr : Word} {value : Word} (hm : Sub
    0x7FFFFFFFFFFFFFFFFFFFFFFFFFFFFFFFFFFFFFFFFFFFFFFFFFFFFFFFFFFFFFFFFFFFFFFFFFFFFFFFFFFFFFFFFFFFFFFFFFFFFFFFFFFFFFFFFFFFFFFFFFFFFFFFFFFFFFFFCBFFFFFFFAFE M) (hs : Keeps M s0 s) :
    Keeps M s0 (State.imageWrite s addr value) := by
  unfold State.imageWrite
  extract_lets +onlyGivenNames x1
  have hx1 : Keeps M s0 x1 := by
    subst x1
    refine busWrite_keeps (hm.mono (by rfl)) ?_
    exact hs
  clear_value x1
  apply keeps_ite
  · split
    · exact hx1
    · extract_lets +onlyGivenNames x2
      have hx2 : Keeps M s0 x2 := by
        subst x2
        apply keeps_ite
        · refine latch_keeps (hm.mono (by rfl)) ?_
          exact hx1
        · exact hx1
      clear_value x2
      apply keeps_ite
      · refine awfShow_keeps (hm.mono (by rfl)) ?_
        exact hx2
      · exact hx2
  · exact hx1

theorem imageFill_keeps {s : State} {addr : Word} {value : Word} {n : Nat} (hm : Sub
    0x7FFFFFFFFFFFFFFFFFFFFFFFFFFFFFFFFFFFFFFFFFFFFFFFFFFFFFFFFFFFFFFFFFFFFFFFFFFFFFFFFFFFFFFFFFFFFFFFFFFFFFFFFFFFFFFFFFFFFFFFFFFFFFFFFFFFFFFFCBFFFFFFFAFE M) (hs : Keeps M s0 s) :
    Keeps M s0 (State.imageFill s addr value n) := by
  unfold State.imageFill
  split
  · exact hs
  · refine imageFill_keeps (hm.mono (by rfl)) ?_
    refine imageWrite_keeps (hm.mono (by rfl)) ?_
    exact hs

theorem applySection_keeps {s : State} {x : Section} (hm : Sub
    0x7FFFFFFFFFFFFFFFFFFFFFFFFFFFFFFFFFFFFFFFFFFFFFFFFFFFFFFFFFFFFFFFFFFFFFFFFFFFFFFFFFFFFFFFFFFFFFFFFFFFFFFFFFFFFFFFFFFFFFFFFFFFFFFFFFFFFFFFCBFFFFFFFAFE M) (hs : Keeps M s0 s) :
    Keeps M s0 (State.applySection s x) := by
  unfold State.applySection
  split
  · apply keeps_forBelow
    · intro x1 t2 h3
      refine imageWrite_keeps (hm.mono (by rfl)) ?_
      exact h3
    · exact hs
  · apply keeps_forBelow
    · intro x4 t5 h6
      refine imageWrite_keeps (hm.mono (by rfl)) ?_
      exact h6
    · exact hs
  · refine imageFill_keeps (hm.mono (by rfl)) ?_
    exact hs
  · refine put_keeps (hm.at .SEC_STATUS (by rfl)) ?_
    refine upd_sec_keeps rfl (hm.mono (by rfl)) ?_
    exact hs
  · refine upd_sec_keeps rfl (hm.mono (by rfl)) ?_
    exact hs

theorem drawMany_keeps {s : State} {n : Nat} (hm : Sub 0x2 M) (hs : Keeps M s0 s) :
    Keeps M s0 (State.drawMany s n).2 := by
  unfold State.drawMany
  split
  · exact hs
  · extract_lets +onlyGivenNames x1
    have hx1 : Keeps M s0 x1.2 := by
      subst x1
      refine drawFree_keeps (hm.mono (by rfl)) ?_
      exact hs
    clear_value x1
    extract_lets +onlyGivenNames x2
    have hx2 : Keeps M s0 x2.2 := by
      subst x2
      refine drawMany_keeps (hm.mono (by rfl)) ?_
      exact hx1
    clear_value x2
    exact hx2

theorem attestEmit_keeps {s : State} (hm : Sub
    0x2006000000018400000080010000000000000003800200000000000000000000000000000000000000000000000000000000000000000000000000000000000000000000000000184202 M) (hs : Keeps M s0 s) :
    Keeps M s0 (State.attestEmit s) := by
  unfold State.attestEmit
  extract_lets +onlyGivenNames x1
  subst x1
  extract_lets +onlyGivenNames x2
  clear_value x2
  extract_lets +onlyGivenNames x3
  clear_value x3
  extract_lets +onlyGivenNames x4
  have hx4 : Keeps M s0 x4.2 := by
    subst x4
    refine drawMany_keeps (hm.mono (by rfl)) ?_
    exact hs
  clear_value x4
  extract_lets +onlyGivenNames x5
  have hx5 : Keeps M s0 x5 := by
    subst x5
    refine formRecord_keeps (hm.mono (by rfl)) ?_
    exact hx4
  clear_value x5
  extract_lets +onlyGivenNames x6
  have hx6 : Keeps M s0 x6 := by
    subst x6
    refine formRecord_keeps (hm.mono (by rfl)) ?_
    exact hx5
  clear_value x6
  extract_lets +onlyGivenNames x7
  have hx7 : Keeps M s0 x7 := by
    subst x7
    refine formRecord_keeps (hm.mono (by rfl)) ?_
    exact hx6
  clear_value x7
  refine count_keeps (hm.at .SEC_ATT_CNT (by rfl)) ?_
  refine raise_keeps (hm.mono (by rfl)) (hm.at .SEC_EVENT (by rfl)) ?_
  refine put_keeps (hm.at .SEC_STATUS (by rfl)) ?_
  exact hx7

theorem blowFuse_keeps {s : State} (hm : Sub
    0x10000000000000000000000000000000000000000000000000000000000000000000000000000000000000000000000000000000000000000000000000000000000000200000002000 M) (hs : Keeps M s0 s) :
    Keeps M s0 (State.blowFuse s) := by
  unfold State.blowFuse
  split
  · exact hs
  · extract_lets +onlyGivenNames x1
    have hx1 : Keeps M s0 x1 := by
      subst x1
      refine blowBits_keeps (hm.mono (by rfl)) ?_
      exact hs
    clear_value x1
    refine put_keeps (hm.at .SEC_ROLLBACK (by rfl)) ?_
    exact hx1

theorem boardRound_keeps {s : State} {boards : List (Option (BitVec 16))} (hm : Sub
    0x220000000000000000000000000000000000000000000000000000000000000000000000000000000000000000000000000000000000000000000000000000000000000010000 M) (hs : Keeps M s0 s) :
    Keeps M s0 (State.boardRound s boards) := by
  unfold State.boardRound
  apply keeps_forBelow
  · intro x1 t2 h3
    apply keeps_ite
    · split
      · refine boardInvalid_keeps (hm.mono (by rfl)) ?_
        exact h3
      · refine boardSample_keeps (hm.mono (by rfl)) ?_
        exact h3
    · exact h3
  · exact hs

theorem calibLoadEnd_keeps {s : State} (hm : Sub 0x20000 M) (hs : Keeps M s0 s) :
    Keeps M s0 (State.calibLoadEnd s) := by
  unfold State.calibLoadEnd
  refine calibNote_keeps (hm.mono (by rfl)) ?_
  exact hs

theorem calibTake_keeps {s : State} {c : Calib} (hm : Sub 0x3800000000000000000E0000000000000800000 M) (hs : Keeps M s0 s) :
    Keeps M s0 (State.calibTake s c) := by
  unfold State.calibTake
  extract_lets +onlyGivenNames x1
  have hx1 : Keeps M s0 x1 := by
    subst x1
    apply keeps_forBelow
    · intro x2 t3 h4
      split
      · extract_lets +onlyGivenNames x5
        have hx5 : Keeps M s0 x5 := by
          subst x5
          refine wr_keeps (hm.at .CAM_CAL_SERIAL_HI (by rfl)) ?_
          refine wr_keeps (hm.at .CAM_CAL_SERIAL_LO (by rfl)) ?_
          exact h4
        clear_value x5
        refine put_keeps (hm.at .CAM_CAL_REPAIR (by rfl)) ?_
        exact hx5
      · exact h4
    · exact hs
  clear_value x1
  extract_lets +onlyGivenNames x6
  have hx6 : Keeps M s0 x6 := by
    subst x6
    apply keeps_forBelow
    · intro x7 t8 h9
      split
      · refine setCorHead_keeps (hm.mono (by rfl)) ?_
        exact h9
      · exact h9
    · exact hx1
  clear_value x6
  refine stiRestore_keeps (hm.mono (by rfl)) ?_
  exact hx6

theorem discoveryAgain_keeps {s : State} (hm : Sub 0x101000 M) (hs : Keeps M s0 s) :
    Keeps M s0 (State.discoveryAgain s) := by
  unfold State.discoveryAgain
  apply keeps_ite
  · extract_lets +onlyGivenNames x1
    subst x1
    extract_lets +onlyGivenNames x2
    have hx2 : Keeps M s0 x2 := by
      subst x2
      refine upd_glb_keeps (hm.mono (by rfl)) (.inr rfl) (.inr rfl) (.inr rfl) ?_
      exact hs
    clear_value x2
    apply keeps_ite
    · refine elect_keeps (hm.mono (by rfl)) ?_
      refine upd_fab_keeps (hm.mono (by rfl)) ?_
      exact hx2
    · exact hx2
  · exact hs

theorem imageChanged_keeps {s : State} (hm : Sub
    0x7FFFFFFFFFFFFFFFFFFFFFFFFFFFFFFFFFFFFFFFFFFFFFFFFFFFFFFFFFFFFFFFFFFFFFFFFFFFFFFFFFFFFFFFFFFFFFFFFFFFFFFFFFFFFFFFFFFFFFFFFFFFFFFFFFFFFFFFC3FFFFFFFAFC M) (hs : Keeps M s0 s) :
    Keeps M s0 (State.imageChanged s) := by
  unfold State.imageChanged
  refine enterDark_keeps (hm.mono (by rfl)) ?_
  refine fault_keeps (hm.mono (by rfl)) ?_
  exact hs

theorem jobPacket_keeps {s : State} {ws : List DWord} (hm : Sub
    0x18400000080010000000000000000000000000000000000000000000000000000000000000000000000000000000000000000000000000000000000000000000000184000 M) (hs : Keeps M s0 s) :
    Keeps M s0 (State.jobPacket s ws) := by
  unfold State.jobPacket
  split
  · exact hs
  · refine jobSend_keeps (hm.mono (by rfl)) ?_
    exact hs

theorem spareSleeps_keeps {s : State} (hm : Sub 0x20000000 M) (hs : Keeps M s0 s) :
    Keeps M s0 (State.spareSleeps s) := by
  unfold State.spareSleeps
  apply keeps_ite
  · refine setMemRank_keeps (hm.mono (by rfl)) ?_
    exact hs
  · exact hs

theorem posLoadEnd_keeps {s : State} (hm : Sub
    0x1840000000000000000000000000000000000000000000000000000000000000000000000100C030000000000000000000000000000000000000000000000000010024000 M) (hs : Keeps M s0 s) :
    Keeps M s0 (State.posLoadEnd s) := by
  unfold State.posLoadEnd
  extract_lets +onlyGivenNames x1
  clear_value x1
  extract_lets +onlyGivenNames x2
  clear_value x2
  extract_lets +onlyGivenNames x3
  clear_value x3
  extract_lets +onlyGivenNames x4
  clear_value x4
  extract_lets +onlyGivenNames x5
  have hx5 : Keeps M s0 x5 := by
    subst x5
    apply keeps_ite
    · refine setPair_keeps (hm.at .POS_LINE_L (by rfl)) (hm.at .POS_LINE_H (by rfl)) ?_
      exact hs
    · exact hs
  clear_value x5
  extract_lets +onlyGivenNames x6
  subst x6
  extract_lets +onlyGivenNames x7
  clear_value x7
  extract_lets +onlyGivenNames x8
  have hx8 : Keeps M s0 x8 := by
    subst x8
    refine upd_pwr_pos_keeps (hm.mono (by rfl)) (.inr rfl) (.inr rfl) (.inr rfl) (.inr rfl) ?_
    exact hx5
  clear_value x8
  apply keeps_forBelow
  · intro x9 t10 h11
    refine rollerCheck_keeps (hm.mono (by rfl)) ?_
    refine put_keeps (hm.at .POS_ROLL (by rfl)) ?_
    refine put_keeps (hm.at .POS_ROLL (by rfl)) ?_
    exact h11
  · exact hx8

theorem loadEnd_keeps {s : State} (hm : Sub
    0x18400040080010000000000000003800A0000000000200040000000000000000000000000100C0300000000000000000027860200000000000000000023068040741A5394 M) (hs : Keeps M s0 s) :
    Keeps M s0 (State.loadEnd s) := by
  unfold State.loadEnd
  extract_lets +onlyGivenNames x1
  have hx1 : Keeps M s0 x1 := by
    subst x1
    refine activeLoadEnd_keeps (hm.mono (by rfl)) ?_
    refine spareSleeps_keeps (hm.mono (by rfl)) ?_
    refine calibLoadEnd_keeps (hm.mono (by rfl)) ?_
    refine stiLoadEnd_keeps (hm.mono (by rfl)) ?_
    refine posLoadEnd_keeps (hm.mono (by rfl)) ?_
    exact hs
  clear_value x1
  extract_lets +onlyGivenNames x2
  have hx2 : Keeps M s0 x2 := by
    subst x2
    refine clearHist_keeps (hm.mono (by rfl)) ?_
    refine arcClear_keeps (hm.mono (by rfl)) ?_
    exact hx1
  clear_value x2
  extract_lets +onlyGivenNames x3
  have hx3 : Keeps M s0 x3 := by
    subst x3
    refine chansInit_keeps (hm.mono (by rfl)) ?_
    refine pinsInit_keeps (hm.mono (by rfl)) ?_
    refine cellsInit_keeps (hm.mono (by rfl)) ?_
    exact hx2
  clear_value x3
  extract_lets +onlyGivenNames x4
  have hx4 : Keeps M s0 x4 := by
    subst x4
    refine wr_keeps (hm.at .GLB_LOAD_TIME (by rfl)) ?_
    exact hx3
  clear_value x4
  extract_lets +onlyGivenNames x5
  have hx5 : Keeps M s0 x5 := by
    subst x5
    refine raise_keeps (hm.mono (by rfl)) (hm.at .GLB_EVENT (by rfl)) ?_
    refine put_keeps (hm.at .GLB_LOAD_STATUS (by rfl)) ?_
    exact hx4
  clear_value x5
  extract_lets +onlyGivenNames x6
  have hx6 : Keeps M s0 x6 := by
    subst x6
    refine put_keeps (hm.at .GLB_STATUS (by rfl)) ?_
    refine put_keeps (hm.at .GLB_STATUS (by rfl)) ?_
    exact hx5
  clear_value x6
  extract_lets +onlyGivenNames x7
  have hx7 : Keeps M s0 x7 := by
    subst x7
    apply keeps_ite
    · refine beginRehearsal_keeps (hm.mono (by rfl)) ?_
      exact hx5
    · refine fspTo_keeps (hm.mono (by rfl)) ?_
      refine count_keeps (hm.at .GLB_HOLD_CNT (by rfl)) ?_
      refine setMode_keeps (hm.mono (by rfl)) ?_
      exact hx6
  clear_value x7
  refine health_keeps (hm.mono (by rfl)) ?_
  exact hx7

theorem readList_keeps {s : State} {ws : List DWord} (hm : Sub
    0x7FFFFFFFFFFFFFFFFFFFFFFFFFFFFFFFFFFFFFFFFFFFFFFFFFFFFFFFFFFFFFFFFFFFFFFFFFFFFFFFFFFFFFFFFFFFFFFFFFFFFFFFFFFFFFFFFFFFFFFFFFFFFFFFFFFFFFFFC00002040022 M) (hs : Keeps M s0 s) :
    Keeps M s0 (State.readList s ws).2 := by
  unfold State.readList
  apply keeps_foldl_snd
  · intro x1 x2 h3
    extract_lets +onlyGivenNames x4
    have hx4 : Keeps M s0 x4.2 := by
      subst x4
      refine busRead_keeps (hm.mono (by rfl)) ?_
      exact h3
    clear_value x4
    exact hx4
  · exact hs

theorem mgmtRead_keeps {s : State} (hm : Sub
    0x7FFFFFFFFFFFFFFFFFFFFFFFFFFFFFFFFFFFFFFFFFFFFFFFFFFFFFFFFFFFFFFFFFFFFFFFFFFFFFFFFFFFFFFFFFFFFFFFFFFFFFFFFFFFFFFFFFFFFFFFFFFFFFFFFFFFFFFFC000020C0022 M) (hs : Keeps M s0 s) :
    Keeps M s0 (State.mgmtRead s) := by
  unfold State.mgmtRead
  split
  · exact hs
  · extract_lets +onlyGivenNames x1
    have hx1 : Keeps M s0 x1 := by
      subst x1
      refine mqPop_keeps (hm.mono (by rfl)) ?_
      exact hs
    clear_value x1
    extract_lets +onlyGivenNames x2
    clear_value x2
    apply keeps_ite
    · apply keeps_ite
      · refine mgmtStatus_keeps (hm.mono (by rfl)) ?_
        exact hx1
      · apply keeps_ite
        · refine mgmtStatus_keeps (hm.mono (by rfl)) ?_
          exact hx1
        · extract_lets +onlyGivenNames x3
          have hx3 : Keeps M s0 x3.2 := by
            subst x3
            refine readList_keeps (hm.mono (by rfl)) ?_
            exact hx1
          clear_value x3
          refine count_keeps (hm.at .HST_MGMT_REQ_CNT (by rfl)) ?_
          refine mgmtReply_keeps (hm.mono (by rfl)) ?_
          exact hx3
    · split
      · refine mgmtStatus_keeps (hm.mono (by rfl)) ?_
        exact hx1
      · refine inSession_keeps (hm.mono (by rfl)) ?_ ?_
        · intro t4 h5
          extract_lets +onlyGivenNames x6
          have hx6 : Keeps M s0 x6.2 := by
            subst x6
            refine readList_keeps (hm.mono (by rfl)) ?_
            exact h5
          clear_value x6
          exact hx6
        · exact hx1

theorem writeList_keeps {s : State} {ws : List DWord} (hm : Sub
    0x7FFFFFFFFFFFFFFFFFFFFFFFFFFFFFFFFFFFFFFFFFFFFFFFFFFFFFFFFFFFFFFFFFFFFFFFFFFFFFFFFFFFFFFFFFFFFFFFFFFFFFFFFFFFFFFFFFFFFFFFFFFFFFFFFFFFFFFFCBFFFFFFFAFE M) (hs : Keeps M s0 s) :
    Keeps M s0 (State.writeList s ws) := by
  unfold State.writeList
  apply keeps_foldl
  · intro t1 x2 h3
    refine busWrite_keeps (hm.mono (by rfl)) ?_
    exact h3
  · exact hs

theorem mgmtWrite_keeps {s : State} (hm : Sub
    0x7FFFFFFFFFFFFFFFFFFFFFFFFFFFFFFFFFFFFFFFFFFFFFFFFFFFFFFFFFFFFFFFFFFFFFFFFFFFFFFFFFFFFFFFFFFFFFFFFFFFFFFFFFFFFFFFFFFFFFFFFFFFFFFFFFFFFFFFCBFFFFFFFAFE M) (hs : Keeps M s0 s) :
    Keeps M s0 (State.mgmtWrite s) := by
  unfold State.mgmtWrite
  split
  · exact hs
  · extract_lets +onlyGivenNames x1
    have hx1 : Keeps M s0 x1 := by
      subst x1
      refine mqPop_keeps (hm.mono (by rfl)) ?_
      exact hs
    clear_value x1
    extract_lets +onlyGivenNames x2
    clear_value x2
    split
    · refine mgmtStatus_keeps (hm.mono (by rfl)) ?_
      exact hx1
    · refine inSession_keeps (hm.mono (by rfl)) ?_ ?_
      · intro t3 h4
        split
        · extract_lets +onlyGivenNames x5
          have hx5 : Keeps M s0 x5 := by
            subst x5
            refine wr_keeps (hm.at .HST_LAST_DENY (by rfl)) ?_
            exact h4
          clear_value x5
          dsimp only
          refine raise_keeps (hm.mono (by rfl)) (hm.at .HST_EVENT (by rfl)) ?_
          refine count_keeps (hm.at .HST_MGMT_DENY_CNT (by rfl)) ?_
          exact hx5
        · dsimp only
          refine writeList_keeps (hm.mono (by rfl)) ?_
          exact h4
      · exact hx1

theorem migrationAgain_keeps {s : State} (hm : Sub
    0x18400000000000000000000000000000000000420438000C00000000000000000000000000000000000000000000000000000000000000000000000000000003020004000 M) (hs : Keeps M s0 s) :
    Keeps M s0 (State.migrationAgain s) := by
  unfold State.migrationAgain
  apply keeps_ite
  · refine startMigration_keeps (hm.mono (by rfl)) ?_
    exact hs
  · exact hs

theorem noSave_keeps {s : State} (hm : Sub 0x3800000000000000000E0000000020000820000 M) (hs : Keeps M s0 s) :
    Keeps M s0 (State.noSave s) := by
  unfold State.noSave
  extract_lets +onlyGivenNames x1
  clear_value x1
  extract_lets +onlyGivenNames x2
  clear_value x2
  refine calibTake_keeps (hm.mono (by rfl)) ?_
  refine setMirror_keeps (hm.mono (by rfl)) ?_
  exact hs

theorem onPacket_keeps {s : State} {f : Nat} {k : Packet → Bool} {g : List DWord → State → State} (hm : Sub 0x100004 M)
    (hk3 : ∀ v0 t, Keeps M s0 t → Keeps M s0 (g v0 t)) (hs : Keeps M s0 s) :
    Keeps M s0 (State.onPacket s f k g) := by
  unfold State.onPacket
  split
  · exact hs
  · rename_i h
    exact hk3 _ _ (takePacket_keeps (hm.mono (by rfl)) h hs)

theorem slotFail_keeps {s : State} {reason : Nat} {blank : Bool} (hm : Sub
    0x7FFFFFFFFFFFFFFFFFFFFFFFFFFFFFFFFFFFFFFFFFFFFFFFFFFFFFFFFFFFFFFFFFFFFFFFFFFFFFFFFFFFFFFFFFFFFFFFFFFFFFFFFFFFFFFFFFFFFFFFFFFFFFFFFFFFFFFFC3FFFFFFFAFC M) (hs : Keeps M s0 s) :
    Keeps M s0 (State.slotFail s reason blank) := by
  unfold State.slotFail
  extract_lets +onlyGivenNames x1
  clear_value x1
  extract_lets +onlyGivenNames x2
  have hx2 : Keeps M s0 x2 := by
    subst x2
    refine raise_keeps (hm.mono (by rfl)) (hm.at .SEC_EVENT (by rfl)) ?_
    refine count_keeps (hm.at .SEC_SIGFAIL_CNT (by rfl)) ?_
    exact hs
  clear_value x2
  extract_lets +onlyGivenNames x3
  have hx3 : Keeps M s0 x3 := by
    subst x3
    refine fault_keeps (hm.mono (by rfl)) ?_
    exact hx2
  clear_value x3
  apply keeps_ite
  · extract_lets +onlyGivenNames x4
    have hx4 : Keeps M s0 x4 := by
      subst x4
      refine put_keeps (hm.at .GLB_LOAD_STATUS (by rfl)) ?_
      refine put_keeps (hm.at .GLB_LOAD_STATUS (by rfl)) ?_
      exact hx3
    clear_value x4
    refine upd_sec_keeps rfl (hm.mono (by rfl)) ?_
    exact hx4
  · refine enterDark_keeps (hm.mono (by rfl)) ?_
    refine put_keeps (hm.at .GLB_LOAD_STATUS (by rfl)) ?_
    exact hx3

theorem pass1Done_keeps {s : State} {img : ImageRead} (hm : Sub
    0x7FFFFFFFFFFFFFFFFFFFFFFFFFFFFFFFFFFFFFFFFFFFFFFFFFFFFFFFFFFFFFFFFFFFFFFFFFFFFFFFFFFFFFFFFFFFFFFFFFFFFFFFFFFFFFFFFFFFFFFFFFFFFFFFFFFFFFFFC3FFFFFFFAFC M) (hs : Keeps M s0 s) :
    Keeps M s0 (State.pass1Done s img) := by
  unfold State.pass1Done
  extract_lets +onlyGivenNames x1
  have hx1 : Keeps M s0 x1 := by
    subst x1
    refine putB_keeps (hm.at .SEC_STATUS (by rfl)) ?_
    exact hs
  clear_value x1
  split
  · refine slotFail_keeps (hm.mono (by rfl)) ?_
    exact hx1
  · extract_lets +onlyGivenNames x2
    subst x2
    extract_lets +onlyGivenNames x3
    have hx3 : Keeps M s0 x3 := by
      subst x3
      refine upd_sec_keeps rfl (hm.mono (by rfl)) ?_
      exact hx1
    clear_value x3
    extract_lets +onlyGivenNames x4
    have hx4 : Keeps M s0 x4 := by
      subst x4
      refine put_keeps (hm.at .GLB_LOAD_STATUS (by rfl)) ?_
      refine put_keeps (hm.at .GLB_LOAD_STATUS (by rfl)) ?_
      exact hx3
    clear_value x4
    extract_lets +onlyGivenNames x5
    have hx5 : Keeps M s0 x5 := by
      subst x5
      refine putB_keeps (hm.at .SEC_STATUS (by rfl)) ?_
      refine put_keeps (hm.at .SEC_ROLLBACK (by rfl)) ?_
      exact hx4
    clear_value x5
    extract_lets +onlyGivenNames x6
    have hx6 : Keeps M s0 x6 := by
      subst x6
      refine wr_keeps (hm.at .GLB_IMG_VER (by rfl)) ?_
      exact hx5
    clear_value x6
    apply keeps_ite
    · refine put_keeps (hm.at .SEC_STATUS (by rfl)) ?_
      exact hx6
    · exact hx6

theorem saveTake_keeps {s : State} {b : Book} (hm : Sub
    0x380004000000000000000000000000000000000000006000000000003800000000000000000E0000000020000821200 M) (hs : Keeps M s0
    s) :
    Keeps M s0 (State.saveTake s b) := by
  unfold State.saveTake
  extract_lets +onlyGivenNames x1
  subst x1
  extract_lets +onlyGivenNames x2
  subst x2
  extract_lets +onlyGivenNames x3
  have hx3 : Keeps M s0 x3 := by
    subst x3
    refine upd_seqs_glb_pwr_keeps (hm.mono (by rfl)) (.inr rfl) (.inr rfl) (.inr rfl) (.inl (hm.bit (by rfl))) (.inr rfl) (.inr rfl) (.inr rfl) ?_
    exact hs
  clear_value x3
  extract_lets +onlyGivenNames x4
  have hx4 : Keeps M s0 x4 := by
    subst x4
    refine setPair_keeps (hm.at .OBJ_OID_L (by rfl)) (hm.at .OBJ_OID_H (by rfl)) ?_
    exact hx3
  clear_value x4
  extract_lets +onlyGivenNames x5
  have hx5 : Keeps M s0 x5 := by
    subst x5
    refine wr_keeps (hm.at .MEM_RMAP (by rfl)) ?_
    exact hx4
  clear_value x5
  extract_lets +onlyGivenNames x6
  have hx6 : Keeps M s0 x6 := by
    subst x6
    refine setPair_keeps (hm.at .MEM_MIG_PTR_L (by rfl)) (hm.at .MEM_MIG_PTR_H (by rfl)) ?_
    refine put_keeps (hm.at .MEM_STATUS (by rfl)) ?_
    exact hx5
  clear_value x6
  extract_lets +onlyGivenNames x7
  have hx7 : Keeps M s0 x7 := by
    subst x7
    apply keeps_ite
    · exact hx6
    · refine put_keeps (hm.at .MEM_STATUS (by rfl)) ?_
      exact hx6
  clear_value x7
  refine calibTake_keeps (hm.mono (by rfl)) ?_
  exact hx7

theorem trainLoad_keeps {s : State} {fsp : Nat} (hm : Sub
    0x2000400000000000000000000000000000000000000000000000000000000000000000000000000000000000001000 M) (hs : Keeps M s0 s)
    :
    Keeps M s0 (State.trainLoad s fsp) := by
  unfold State.trainLoad
  extract_lets +onlyGivenNames x1
  have hx1 : Keeps M s0 x1 := by
    subst x1
    refine put_keeps (hm.at .MEM_TRN_STATUS (by rfl)) ?_
    refine put_keeps (hm.at .MEM_TRN_STATUS (by rfl)) ?_
    refine put_keeps (hm.at .MEM_STATUS (by rfl)) ?_
    exact hs
  clear_value x1
  refine upd_glb_keeps (hm.mono (by rfl)) (.inr rfl) (.inr rfl) (.inr rfl) ?_
  exact hx1

theorem step7_keeps {s : State} (hm : Sub
    0x18400001680BD001000000000000380020000000000200040000000000000000000000000000000000562800800000004040602000000000000000008010000002E5C5280 M) (hs : Keeps M s0 s) :
    Keeps M s0 (State.step7 s) := by
  unfold State.step7
  extract_lets +onlyGivenNames x1
  subst x1
  extract_lets +onlyGivenNames x2
  have hx2 : Keeps M s0 x2 := by
    subst x2
    refine upd_mem_keeps (hm.mono (by rfl)) (.inr rfl) (.inr rfl) (.inr rfl) ?_
    exact hs
  clear_value x2
  extract_lets +onlyGivenNames x3
  have hx3 : Keeps M s0 x3 := by
    subst x3
    refine trainLoad_keeps (hm.mono (by rfl)) ?_
    refine put_keeps (hm.at .GLB_LOAD_STATUS (by rfl)) ?_
    exact hx2
  clear_value x3
  extract_lets +onlyGivenNames x4
  have hx4 : Keeps M s0 x4 := by
    subst x4
    apply keeps_forBelow
    · intro x5 t6 h7
      refine camEnable_keeps (hm.mono (by rfl)) ?_
      exact h7
    · exact hx3
  clear_value x4
  apply keeps_ite
  · exact hx4
  · refine discoveryTimeout_keeps (hm.mono (by rfl)) ?_
    exact hx4

theorem spareTaken_keeps {s : State} (hm : Sub 0x20000000 M) (hs : Keeps M s0 s) :
    Keeps M s0 (State.spareTaken s) := by
  unfold State.spareTaken
  apply keeps_ite
  · refine upd_mem_keeps (hm.mono (by rfl)) (.inr rfl) (.inr rfl) (.inr rfl) ?_
    exact hs
  · exact hs

theorem step6_keeps {s : State} (hm : Sub
    0x10C8000018400001680BD001000000000000380020000000003A0004000000000000000000000000000000000056286080000000407860200000000000000E008010002002EDE5280 M) (hs : Keeps M s0 s) :
    Keeps M s0 (State.step6 s) := by
  unfold State.step6
  extract_lets +onlyGivenNames x1
  clear_value x1
  extract_lets +onlyGivenNames x2
  have hx2 : Keeps M s0 x2 := by
    subst x2
    apply keeps_ite
    · exact hs
    · refine count_keeps (hm.at .PWR_SLOT_BAD_CNT (by rfl)) ?_
      exact hs
  clear_value x2
  extract_lets +onlyGivenNames x3
  have hx3 : Keeps M s0 x3 := by
    subst x3
    split
    · refine saveTake_keeps (hm.mono (by rfl)) ?_
      exact hx2
    · refine noSave_keeps (hm.mono (by rfl)) ?_
      exact hx2
  clear_value x3
  refine step7_keeps (hm.mono (by rfl)) ?_
  refine spareTaken_keeps (hm.mono (by rfl)) ?_
  refine showKeep_keeps (hm.mono (by rfl)) ?_
  refine thaw_keeps (hm.mono (by rfl)) ?_
  exact hx3

theorem pass2Section_keeps {s : State} {hash : BitVec 512} (hm : Sub
    0x7FFFFFFFFFFFFFFFFFFFFFFFFFFFFFFFFFFFFFFFFFFFFFFFFFFFFFFFFFFFFFFFFFFFFFFFFFFFFFFFFFFFFFFFFFFFFFFFFFFFFFFFFFFFFFFFFFFFFFFFFFFFFFFFFFFFFFFFCBFFFFFFFAFE M) (hs : Keeps M s0 s) :
    Keeps M s0 (State.pass2Section s hash) := by
  unfold State.pass2Section
  split
  · exact hs
  · split
    · exact hs
    · apply keeps_ite
      · extract_lets +onlyGivenNames x1
        have hx1 : Keeps M s0 x1 := by
          subst x1
          refine applySection_keeps (hm.mono (by rfl)) ?_
          exact hs
        clear_value x1
        extract_lets +onlyGivenNames x2
        subst x2
        extract_lets +onlyGivenNames x3
        have hx3 : Keeps M s0 x3 := by
          subst x3
          refine upd_sec_keeps rfl (hm.mono (by rfl)) ?_
          exact hx1
        clear_value x3
        apply keeps_ite
        · refine step6_keeps (hm.mono (by rfl)) ?_
          exact hx3
        · exact hx3
      · refine imageChanged_keeps (hm.mono (by rfl)) ?_
        exact hs

theorem railRound_keeps {s : State} {rails : List Nat} (hm : Sub
    0x92A0000184000000800100000000000000038002000000000000000000000000000000000000000000000000000000000000000000000000000000000000000000000200001B4200 M) (hs : Keeps M s0 s) :
    Keeps M s0 (State.railRound s rails) := by
  unfold State.railRound
  apply keeps_foldl
  · intro t1 x2 h3
    refine railSample_keeps (hm.mono (by rfl)) ?_
    exact h3
  · exact hs

theorem readShown_keeps {s : State} {q : Requester} {addr : Word} (hm : Sub
    0x7FFFFFFFFFFFFFFFFFFFFFFFFFFFFFFFFFFFFFFFFFFFFFFFFFFFFFFFFFFFFFFFFFFFFFFFFFFFFFFFFFFFFFFFFFFFFFFFFFFFFFFFFFFFFFFFFFFFFFFFFFFFFFFFFFFFFFFFC0000204002A M) (hs : Keeps M s0 s) :
    Keeps M s0 (State.readShown s q addr) := by
  unfold State.readShown
  extract_lets +onlyGivenNames x1
  have hx1 : Keeps M s0 x1.2 := by
    subst x1
    refine busRead_keeps (hm.mono (by rfl)) ?_
    exact hs
  clear_value x1
  extract_lets +onlyGivenNames x2
  have hx2 : Keeps M s0 x2 := by
    subst x2
    exact hx1
  clear_value x2
  refine upd_busData_keeps (hm.mono (by rfl)) ?_
  exact hx2

theorem recordPacket_keeps {s : State} {ws : List DWord} (hm : Sub
    0x18400000080010000000000000003800200000000000000000000000000000000000000000000000000000000000000000000000000000000000000000000000000184000 M) (hs : Keeps M s0 s) :
    Keeps M s0 (State.recordPacket s ws) := by
  unfold State.recordPacket
  split
  · exact hs
  · refine enqueue_keeps (hm.mono (by rfl)) ?_
    exact hs

theorem sampleRound_keeps {s : State} {sensors : List Nat} {codes : List (BitVec 16)} (hm : Sub
    0x10E418400000000000000000000000000000000000000000000000000000000000000000000000000000000000000000000000000000000000000000000000000000000014000 M) (hs : Keeps M s0 s) :
    Keeps M s0 (State.sampleRound s sensors codes) := by
  unfold State.sampleRound
  apply keeps_foldl
  · intro t1 x2 h3
    refine sampleSensor_keeps (hm.mono (by rfl)) ?_
    exact h3
  · exact hs

theorem scrubLine_keeps {s : State} {rank : Nat} {line : Nat} {out : ReadOutcome} (hm : Sub
    0x20000018400000080010000000000000003800200000529DF8000C000000000000000000000000000000000000000000000000000000000000000000000000000000230201A4200 M) (hs : Keeps M s0 s) :
    Keeps M s0 (State.scrubLine s rank line out) := by
  unfold State.scrubLine
  extract_lets +onlyGivenNames x1
  clear_value x1
  apply keeps_ite
  · refine count_keeps (hm.at .MEM_POISON_RD_CNT (by rfl)) ?_
    refine noteUe_keeps (hm.mono (by rfl)) ?_
    exact hs
  · split
    · exact hs
    · refine count_keeps (hm.at .MEM_SCRUB_FIX_CNT (by rfl)) ?_
      refine correctedError_keeps (hm.mono (by rfl)) ?_
      exact hs
    · refine rankFailure_keeps (hm.mono (by rfl)) ?_
      exact hs

theorem trainDone_keeps {s : State} {spareOk : Bool} (hm : Sub
    0x1840000000000000000000000000000000000042043A000C00000000000000000000000000000000000000000000000000000000000000000000000000002003020004000 M) (hs : Keeps M s0 s) :
    Keeps M s0 (State.trainDone s spareOk) := by
  unfold State.trainDone
  extract_lets +onlyGivenNames x1
  have hx1 : Keeps M s0 x1 := by
    subst x1
    refine put_keeps (hm.at .MEM_TRN_STATUS (by rfl)) ?_
    refine put_keeps (hm.at .MEM_STATUS (by rfl)) ?_
    exact hs
  clear_value x1
  extract_lets +onlyGivenNames x2
  have hx2 : Keeps M s0 x2 := by
    subst x2
    refine put_keeps (hm.at .MEM_TRN_STATUS (by rfl)) ?_
    exact hx1
  clear_value x2
  extract_lets +onlyGivenNames x3
  have hx3 : Keeps M s0 x3 := by
    subst x3
    refine put_keeps (hm.at .MEM_STATUS (by rfl)) ?_
    refine put_keeps (hm.at .MEM_STATUS (by rfl)) ?_
    exact hx2
  clear_value x3
  extract_lets +onlyGivenNames x4
  have hx4 : Keeps M s0 x4 := by
    subst x4
    refine putB_keeps (hm.at .MEM_STATUS (by rfl)) ?_
    exact hx3
  clear_value x4
  refine migrationAgain_keeps (hm.mono (by rfl)) ?_
  refine showSts_keeps (hm.mono (by rfl)) ?_
  refine put_keeps (hm.at .GLB_STATUS (by rfl)) ?_
  exact hx4

theorem trainFail_keeps {s : State} {rank : Nat} {step : Nat} (hm : Sub
    0x18400000000000000000000000000000000000000002000C00000000000000000000000000000000000000000000000000000000000000000000000000102000020005000 M) (hs : Keeps M s0 s) :
    Keeps M s0 (State.trainFail s rank step) := by
  unfold State.trainFail
  extract_lets +onlyGivenNames x1
  have hx1 : Keeps M s0 x1 := by
    subst x1
    refine put_keeps (hm.at .MEM_TRN_STATUS (by rfl)) ?_
    refine put_keeps (hm.at .MEM_TRN_STATUS (by rfl)) ?_
    exact hs
  clear_value x1
  extract_lets +onlyGivenNames x2
  have hx2 : Keeps M s0 x2 := by
    subst x2
    refine raise_keeps (hm.mono (by rfl)) (hm.at .MEM_EVENT (by rfl)) ?_
    refine put_keeps (hm.at .MEM_TRN_STATUS (by rfl)) ?_
    exact hx1
  clear_value x2
  apply keeps_ite
  · refine put_keeps (hm.at .MEM_STATUS (by rfl)) ?_
    refine upd_mem_keeps (hm.mono (by rfl)) (.inr rfl) (.inr rfl) (.inr rfl) ?_
    exact hx2
  · apply keeps_ite
    · extract_lets +onlyGivenNames x3
      subst x3
      extract_lets +onlyGivenNames x4
      have hx4 : Keeps M s0 x4 := by
        subst x4
        refine upd_glb_keeps (hm.mono (by rfl)) (.inr rfl) (.inr rfl) (.inr rfl) ?_
        exact hx2
      clear_value x4
      refine put_keeps (hm.at .MEM_TRN_STATUS (by rfl)) ?_
      refine countFld_keeps (hm.at .GLB_LOAD_STATUS (by rfl)) ?_
      exact hx4
    · extract_lets +onlyGivenNames x5
      have hx5 : Keeps M s0 x5 := by
        subst x5
        refine put_keeps (hm.at .MEM_TRN_STATUS (by rfl)) ?_
        refine put_keeps (hm.at .MEM_STATUS (by rfl)) ?_
        exact hx2
      clear_value x5
      extract_lets +onlyGivenNames x6
      subst x6
      extract_lets +onlyGivenNames x7
      have hx7 : Keeps M s0 x7 := by
        subst x7
        refine upd_glb_keeps (hm.mono (by rfl)) (.inr rfl) (.inr rfl) (.inr rfl) ?_
        exact hx5
      clear_value x7
      refine showSts_keeps (hm.mono (by rfl)) ?_
      refine put_keeps (hm.at .GLB_STATUS (by rfl)) ?_
      exact hx7

theorem trainTurn_keeps {s : State} {fsp : Nat} (hm : Sub
    0x2000400000000000000000000000000000000000000000000000000000000000000000000000000000000000001000 M) (hs : Keeps M s0 s)
    :
    Keeps M s0 (State.trainTurn s fsp) := by
  unfold State.trainTurn
  apply keeps_ite
  · refine trainLoad_keeps (hm.mono (by rfl)) ?_
    refine put_keeps (hm.at .MEM_TRN_STATUS (by rfl)) ?_
    exact hs
  · exact hs

theorem execAlignSearchFail_keeps {l : Fin 64} {s : State} (hm : Sub
    0x20000018400000080010000000000000003800200000420400000000000007C000004000000000000000000038D56683FFFFD502780003FA0E3FD080000E0180000023067FA4A94 M) (hs : Keeps M s0 s) :
    KeepsOut M s0 (execAlignSearchFail l s) := by
  unfold execAlignSearchFail
  apply keepsOut_next
  apply keeps_ite
  · refine camLaneLost_keeps (hm.mono (by rfl)) ?_
    exact hs
  · exact hs

theorem execArchiveRowComplete_keeps {h : Fin 32} {s : State} (hm : Sub
    0x7FFFFFFFFFFFFFFFFFFFFFFFFFFFFFFFFFFFFFFFFFFFFFFFFFFFFFFFFFFFFFFFFFFFFFFFFFFFFFFFFFFFFFFFFFFFFFFFFFFFFFFFFFFFFFFFFFFFFFFFFFFFFFFFFFFFFFFFCBFFFFFFFAFE M) (hs : Keeps M s0 s) :
    KeepsOut M s0 (execArchiveRowComplete h s) := by
  unfold execArchiveRowComplete
  apply keepsOut_next
  apply keeps_ite
  · refine memRespond_keeps (hm.mono (by rfl)) ?_
    refine rowComplete_keeps (hm.mono (by rfl)) ?_
    exact hs
  · exact hs

theorem execAttestDone_keeps {s : State} (hm : Sub
    0x2006000000018400000080010000000000000003800200000000000000000000000000000000000000000000000000000000000000000000000000000000000000000000000000184202 M) (hs : Keeps M s0 s) :
    KeepsOut M s0 (execAttestDone s) := by
  unfold execAttestDone
  apply keepsOut_next
  apply keeps_ite
  · refine attestEmit_keeps (hm.mono (by rfl)) ?_
    exact hs
  · exact hs

theorem execAttestRequest_keeps {s : State} (hm : Sub
    0x4006000000018400000000000000000000000000000000000000000000000000000000000000000000000000000000000000000000000000000000000000000000000000000000006000 M) (hs : Keeps M s0 s) :
    KeepsOut M s0 (execAttestRequest s) := by
  unfold execAttestRequest
  apply keepsOut_next
  refine attRequest_keeps (hm.mono (by rfl)) ?_
  exact hs

theorem execBlockWriteError_keeps {s : State} (hm : Sub
    0x7FFFFFFFFFFFFFFFFFFFFFFFFFFFFFFFFFFFFFFFFFFFFFFFFFFFFFFFFFFFFFFFFFFFFFFFFFFFFFFFFFFFFFFFFFFFFFFFFFFFFFFFFFFFFFFFFFFFFFFFFFFFFFFFFFFFFFFFCBFFFFFFFAFE M) (hs : Keeps M s0 s) :
    KeepsOut M s0 (execBlockWriteError s) := by
  unfold execBlockWriteError
  split
  · apply keepsOut_next
    exact hs
  · apply keepsOut_next
    refine memRespond_keeps (hm.mono (by rfl)) ?_
    refine blockError_keeps (hm.mono (by rfl)) ?_
    refine upd_arc_keeps (hm.mono (by rfl)) (.inr rfl) ?_
    exact hs

theorem execCackTimeout_keeps {dt : Nat} {oid : Oid} {s : State} (hm : Sub
    0x184000000800100000008000000038002000000000000000000000000000000000000000000000000056280080000000400000200000000000000000000000000061CC201 M) (hs : Keeps M s0 s) :
    KeepsOut M s0 (execCackTimeout dt oid s) := by
  unfold execCackTimeout
  extract_lets +onlyGivenNames x1
  have hx1 : Keeps M s0 x1 := by
    subst x1
    refine advance_keeps (hm.mono (by rfl)) ?_
    exact hs
  clear_value x1
  apply keepsOut_next
  refine emitSent_keeps (hm.mono (by rfl)) ?_
  exact hx1

theorem execCamAlignTimeout_keeps {p : Fin 16} {s : State} (hm : Sub
    0x20000018400000080010000000000000003800200000420400000000000007C000004000000000000000000038D56683FFFFD502780003FA0E3FD080000E0180000023067FA4A94 M) (hs : Keeps M s0 s) :
    KeepsOut M s0 (execCamAlignTimeout p s) := by
  unfold execCamAlignTimeout
  apply keepsOut_next
  apply keeps_ite
  · refine camLaneLost_keeps (hm.mono (by rfl)) ?_
    exact hs
  · exact hs

theorem execCamAutoRetry_keeps {p : Fin 16} {s : State} (hm : Sub 0x2000000080000000008400000 M) (hs : Keeps M s0 s) :
    KeepsOut M s0 (execCamAutoRetry p s) := by
  unfold execCamAutoRetry
  apply keepsOut_next
  apply keeps_ite
  · refine camRetry_keeps (hm.mono (by rfl)) ?_
    exact hs
  · exact hs

theorem execCamDeskewed_keeps {p : Fin 16} {s : State} (hm : Sub 0x80000000000400004 M) (hs : Keeps M s0 s) :
    KeepsOut M s0 (execCamDeskewed p s) := by
  unfold execCamDeskewed
  apply keepsOut_next
  apply keeps_ite
  · refine camToDesc_keeps (hm.mono (by rfl)) ?_
    exact hs
  · exact hs

theorem execCamPortEnable_keeps {p : Fin 16} {s : State} (hm : Sub 0x80000000008400000 M) (hs : Keeps M s0 s) :
    KeepsOut M s0 (execCamPortEnable p s) := by
  unfold execCamPortEnable
  apply keepsOut_next
  refine camEnable_keeps (hm.mono (by rfl)) ?_
  exact hs

theorem execCamRestart_keeps {p : Fin 16} {s : State} (hm : Sub 0x2000000080000000008400000 M) (hs : Keeps M s0 s) :
    KeepsOut M s0 (execCamRestart p s) := by
  unfold execCamRestart
  apply keepsOut_next
  refine camRetry_keeps (hm.mono (by rfl)) ?_
  exact hs

theorem execCameraErrBlock_keeps {p : Fin 16} {code : Nat} {j : Nat} {line : LineNo} {s : State} (hm : Sub
    0x7FFFFFFFFFFFFFFFFFFFFFFFFFFFFFFFFFFFFFFFFFFFFFFFFFFFFFFFFFFFFFFFFFFFFFFFFFFFFFFFFFFFFFFFFFFFFFFFFFFFFFFFFFFFFFFFFFFFFFFFFFFFFFFFFFFFFFFFCBFFFFFFFAFE M) (hs : Keeps M s0 s) :
    KeepsOut M s0 (execCameraErrBlock p code j line s) := by
  unfold execCameraErrBlock
  apply keepsOut_next
  refine memRespond_keeps (hm.mono (by rfl)) ?_
  refine errBlock_keeps (hm.mono (by rfl)) ?_
  exact hs

theorem execCheckpointTimer_keeps {dt : Nat} {s : State} (hm : Sub
    0xC80000184000000000000000008000000000000000000000000000000000000000000000000000000000000000000000000000000000000000000000000000000000E000006C001 M) (hs : Keeps M s0 s) :
    KeepsOut M s0 (execCheckpointTimer dt s) := by
  unfold execCheckpointTimer
  extract_lets +onlyGivenNames x1
  have hx1 : Keeps M s0 x1 := by
    subst x1
    refine advance_keeps (hm.mono (by rfl)) ?_
    exact hs
  clear_value x1
  apply keepsOut_next
  apply keeps_ite
  · extract_lets +onlyGivenNames x2
    subst x2
    extract_lets +onlyGivenNames x3
    have hx3 : Keeps M s0 x3 := by
      subst x3
      refine upd_pwr_keeps (hm.mono (by rfl)) (.inr rfl) (.inr rfl) (.inr rfl) (.inr rfl) ?_
      exact hx1
    clear_value x3
    apply keeps_ite
    · refine startWrite_keeps (hm.mono (by rfl)) ?_
      exact hx3
    · exact hx3
  · exact hx1

theorem execClosingEvaluation_keeps {s : State} (hm : Sub
    0x184000000800100000000000000038002000000000000000000000000000000000000000000000000047281080000000A0000020000000000000000000000000002184280 M) (hs : Keeps M s0 s) :
    KeepsOut M s0 (execClosingEvaluation s) := by
  unfold execClosingEvaluation
  apply keepsOut_next
  refine evalClosing_keeps (hm.mono (by rfl)) ?_
  exact hs

theorem execComponentRelease_keeps {s : State} (hm : Sub
    0x18400000080010000000000000003800200000000000000000000000000000000000000000000000005628008000000040000020000000000000000000000000006184200 M) (hs : Keeps M s0 s) :
    KeepsOut M s0 (execComponentRelease s) := by
  unfold execComponentRelease
  split
  · apply keepsOut_next
    exact hs
  · apply keepsOut_next
    refine releaseComp_keeps (hm.mono (by rfl)) ?_
    exact hs

theorem execCueLaunch_keeps {dt : Nat} {p : Fin 16} {s : State} (hm : Sub
    0x7FFFFFFFFFFFFFFFFFFFFFFFFFFFFFFFFFFFFFFFFFFFFFFFFFFFFFFFFFFFFFFFFFFFFFFFFFFFFFFFFFFFFFFFFFFFFFFFFFFFFFFFFFFFFFFFFFFFFFFFFFFFFFFFFFFFFFFFCBFFFFFFFAFF M) (hs : Keeps M s0 s) :
    KeepsOut M s0 (execCueLaunch dt p s) := by
  unfold execCueLaunch
  apply keepsOut_next
  refine memRespond_keeps (hm.mono (by rfl)) ?_
  refine cueLaunch_keeps (hm.mono (by rfl)) ?_
  refine advance_keeps (hm.mono (by rfl)) ?_
  exact hs

theorem execDescBlock_keeps {p : Fin 16} {idx : Nat} {payload : Nat} {s : State} (hm : Sub
    0x20000018400000080010000000000000003800200000420400000000000007C000004000000000000000000038D56683FFFFD502780003FA0E3FD090000FFD80000023067FA4A96 M) (hs : Keeps M s0 s) :
    KeepsOut M s0 (execDescBlock p idx payload s) := by
  unfold execDescBlock
  apply keepsOut_next
  refine descBlock_keeps (hm.mono (by rfl)) ?_
  exact hs

theorem execDescriptorTimeout_keeps {p : Fin 16} {s : State} (hm : Sub
    0x20000018400000080010000000000000003800200000420400000000000007C000004000000000000000000038D56683FFFFD502780003FA0E3FD090000E0180000023067FA4A94 M) (hs : Keeps M s0 s) :
    KeepsOut M s0 (execDescriptorTimeout p s) := by
  unfold execDescriptorTimeout
  apply keepsOut_next
  apply keeps_ite
  · refine descFail_keeps (hm.mono (by rfl)) ?_
    exact hs
  · exact hs

theorem execDiscAssign_keeps {f : Fin 6} {s : State} (hm : Sub
    0x18400000680BD00100000000000038002000000000000000000000000000000000000000000000000056280080000000404060200000000000000000000000000061C4284 M) (hs : Keeps M s0 s) :
    KeepsOut M s0 (execDiscAssign f s) := by
  unfold execDiscAssign
  apply keepsOut_next
  refine onPacket_keeps (hm.mono (by rfl)) ?_ ?_
  · intro x1 t2 h3
    refine assignRx_keeps (hm.mono (by rfl)) ?_
    exact h3
  · exact hs

theorem execDiscHello_keeps {f : Fin 6} {s : State} (hm : Sub
    0x6800000000000000000000000000000000000000000000000000000000000000000000000000000000000000000000000000000000000000000000000100004 M) (hs : Keeps M s0 s) :
    KeepsOut M s0 (execDiscHello f s) := by
  unfold execDiscHello
  apply keepsOut_next
  refine onPacket_keeps (hm.mono (by rfl)) ?_ ?_
  · intro x1 t2 h3
    refine helloRx_keeps (hm.mono (by rfl)) ?_
    exact h3
  · exact hs

theorem execDiscHelloTimer_keeps {s : State} (hm : Sub 0x100000 M) (hs : Keeps M s0 s) :
    KeepsOut M s0 (execDiscHelloTimer s) := by
  unfold execDiscHelloTimer
  apply keepsOut_next
  refine helloTimer_keeps (hm.mono (by rfl)) ?_
  exact hs

theorem execDiscLinkev_keeps {f : Fin 6} {s : State} (hm : Sub
    0x18400000280A500100000000000038002000000000000000000000000000000000000000000000000056280080000000404060200000000000000000000000000061C4284 M) (hs : Keeps M s0 s) :
    KeepsOut M s0 (execDiscLinkev f s) := by
  unfold execDiscLinkev
  apply keepsOut_next
  refine onPacket_keeps (hm.mono (by rfl)) ?_ ?_
  · intro x1 t2 h3
    refine linkevRx_keeps (hm.mono (by rfl)) ?_
    exact h3
  · exact hs

theorem execDiscMap_keeps {f : Fin 6} {s : State} (hm : Sub
    0x18400001280A500100000000000038002000000000000000000000000000000000000000000000000056280080000000404060200000000000000000000000000061C4284 M) (hs : Keeps M s0 s) :
    KeepsOut M s0 (execDiscMap f s) := by
  unfold execDiscMap
  apply keepsOut_next
  refine onPacket_keeps (hm.mono (by rfl)) ?_ ?_
  · intro x1 t2 h3
    refine mapRx_keeps (hm.mono (by rfl)) ?_
    exact h3
  · exact hs

theorem execDiscReport_keeps {f : Fin 6} {s : State} (hm : Sub
    0x18400001680BD00100000000000038002000000000000000000000000000000000000000000000000056280080000000404060200000000000000000000000000061C4284 M) (hs : Keeps M s0 s) :
    KeepsOut M s0 (execDiscReport f s) := by
  unfold execDiscReport
  apply keepsOut_next
  refine onPacket_keeps (hm.mono (by rfl)) ?_ ?_
  · intro x1 t2 h3
    refine reportRx_keeps (hm.mono (by rfl)) ?_
    exact h3
  · exact hs

theorem execDiscSettled_keeps {dt : Nat} {s : State} (hm : Sub
    0x18400001680BD00100008000000038002000000000000000000000000000000000000000000000000056280080000000404060200000000000000000000000000061CC281 M) (hs : Keeps M s0 s) :
    KeepsOut M s0 (execDiscSettled dt s) := by
  unfold execDiscSettled
  extract_lets +onlyGivenNames x1
  have hx1 : Keeps M s0 x1 := by
    subst x1
    refine advance_keeps (hm.mono (by rfl)) ?_
    exact hs
  clear_value x1
  apply keepsOut_next
  apply keeps_ite
  · refine discSettled_keeps (hm.mono (by rfl)) ?_
    exact hx1
  · exact hx1

theorem execDiscoveryTimeout_keeps {s : State} (hm : Sub
    0x18400001680BD00100000000000038002000000000000000000000000000000000000000000000000056280080000000404060200000000000000000000000000061C5280 M) (hs : Keeps M s0 s) :
    KeepsOut M s0 (execDiscoveryTimeout s) := by
  unfold execDiscoveryTimeout
  apply keepsOut_next
  refine discoveryAgain_keeps (hm.mono (by rfl)) ?_
  refine discoveryTimeout_keeps (hm.mono (by rfl)) ?_
  exact hs

theorem execDmaArm_keeps {c : Fin 16} {s : State} (hm : Sub
    0x3E10800000000000000000000000000000000000000000000000000000000000000000000000000080000000 M) (hs : Keeps M s0 s) :
    KeepsOut M s0 (execDmaArm c s) := by
  unfold execDmaArm
  apply keepsOut_next
  refine dmaArm_keeps (hm.mono (by rfl)) ?_
  exact hs

theorem execDmaBeatError_keeps {s : State} (hm : Sub
    0x7FFFFFFFFFFFFFFFFFFFFFFFFFFFFFFFFFFFFFFFFFFFFFFFFFFFFFFFFFFFFFFFFFFFFFFFFFFFFFFFFFFFFFFFFFFFFFFFFFFFFFFFFFFFFFFFFFFFFFFFFFFFFFFFFFFFFFFFCBFFFFFFFAFE M) (hs : Keeps M s0 s) :
    KeepsOut M s0 (execDmaBeatError s) := by
  unfold execDmaBeatError
  split
  · apply keepsOut_next
    exact hs
  · apply keepsOut_next
    refine memRespond_keeps (hm.mono (by rfl)) ?_
    refine dmaPump_keeps (hm.mono (by rfl)) ?_
    refine dmaError_keeps (hm.mono (by rfl)) ?_
    refine upd_dma_keeps (hm.mono (by rfl)) (.inr rfl) ?_
    exact hs

theorem execDmaEntryComplete_keeps {s : State} (hm : Sub
    0x7FFFFFFFFFFFFFFFFFFFFFFFFFFFFFFFFFFFFFFFFFFFFFFFFFFFFFFFFFFFFFFFFFFFFFFFFFFFFFFFFFFFFFFFFFFFFFFFFFFFFFFFFFFFFFFFFFFFFFFFFFFFFFFFFFFFFFFFCBFFFFFFFAFE M) (hs : Keeps M s0 s) :
    KeepsOut M s0 (execDmaEntryComplete s) := by
  unfold execDmaEntryComplete
  split
  · extract_lets +onlyGivenNames x1
    clear_value x1
    extract_lets +onlyGivenNames x2
    subst x2
    extract_lets +onlyGivenNames x3
    have hx3 : Keeps M s0 x3 := by
      subst x3
      refine upd_dma_keeps (hm.mono (by rfl)) (.inr rfl) ?_
      exact hs
    clear_value x3
    apply keepsOut_next
    apply keeps_ite
    · refine upd_dma_keeps (hm.mono (by rfl)) (.inr rfl) ?_
      exact hx3
    · exact hx3
  · apply keepsOut_next
    refine memRespond_keeps (hm.mono (by rfl)) ?_
    refine dmaPump_keeps (hm.mono (by rfl)) ?_
    exact hs

theorem execDmaErrlogPop_keeps {s : State} (hm : Sub
    0x4000000000000000000000000000000000000000000000000000000000000000000000000000080000000 M) (hs : Keeps M s0 s) :
    KeepsOut M s0 (execDmaErrlogPop s) := by
  unfold execDmaErrlogPop
  apply keepsOut_next
  refine dmaPop_keeps (hm.mono (by rfl)) ?_
  exact hs

theorem execDmaGrant_keeps {s : State} (hm : Sub
    0x7FFFFFFFFFFFFFFFFFFFFFFFFFFFFFFFFFFFFFFFFFFFFFFFFFFFFFFFFFFFFFFFFFFFFFFFFFFFFFFFFFFFFFFFFFFFFFFFFFFFFFFFFFFFFFFFFFFFFFFFFFFFFFFFFFFFFFFFCBFFFFFFFAFE M) (hs : Keeps M s0 s) :
    KeepsOut M s0 (execDmaGrant s) := by
  unfold execDmaGrant
  apply keepsOut_next
  apply keeps_ite
  · exact hs
  · refine memRespond_keeps (hm.mono (by rfl)) ?_
    refine dmaPump_keeps (hm.mono (by rfl)) ?_
    refine dmaGrant_keeps (hm.mono (by rfl)) ?_
    exact hs

theorem execDmaListFetchFail_keeps {s : State} (hm : Sub
    0x7FFFFFFFFFFFFFFFFFFFFFFFFFFFFFFFFFFFFFFFFFFFFFFFFFFFFFFFFFFFFFFFFFFFFFFFFFFFFFFFFFFFFFFFFFFFFFFFFFFFFFFFFFFFFFFFFFFFFFFFFFFFFFFFFFFFFFFFCBFFFFFFFAFE M) (hs : Keeps M s0 s) :
    KeepsOut M s0 (execDmaListFetchFail s) := by
  unfold execDmaListFetchFail
  split
  · apply keepsOut_ite
    · apply keepsOut_next
      exact hs
    · apply keepsOut_next
      refine dmaPump_keeps (hm.mono (by rfl)) ?_
      refine dmaLog_keeps (hm.mono (by rfl)) ?_
      refine setRun_keeps (hm.mono (by rfl)) ?_
      exact hs
  · apply keepsOut_next
    exact hs

theorem execDmaTimeout_keeps {s : State} (hm : Sub
    0x7FFFFFFFFFFFFFFFFFFFFFFFFFFFFFFFFFFFFFFFFFFFFFFFFFFFFFFFFFFFFFFFFFFFFFFFFFFFFFFFFFFFFFFFFFFFFFFFFFFFFFFFFFFFFFFFFFFFFFFFFFFFFFFFFFFFFFFFCBFFFFFFFAFE M) (hs : Keeps M s0 s) :
    KeepsOut M s0 (execDmaTimeout s) := by
  unfold execDmaTimeout
  split
  · apply keepsOut_next
    exact hs
  · extract_lets +onlyGivenNames x1
    subst x1
    extract_lets +onlyGivenNames x2
    have hx2 : Keeps M s0 x2 := by
      subst x2
      refine upd_mem_keeps (hm.mono (by rfl)) (.inl (hm.bit (by rfl))) (.inr rfl) (.inr rfl) ?_
      exact hs
    clear_value x2
    apply keepsOut_next
    refine memRespond_keeps (hm.mono (by rfl)) ?_
    refine answerOp_keeps (hm.mono (by rfl)) ?_
    refine count_keeps (hm.at .DMA_TMO_CNT (by rfl)) ?_
    exact hx2

theorem execDmaTransferComplete_keeps {s : State} (hm : Sub
    0x7FFFFFFFFFFFFFFFFFFFFFFFFFFFFFFFFFFFFFFFFFFFFFFFFFFFFFFFFFFFFFFFFFFFFFFFFFFFFFFFFFFFFFFFFFFFFFFFFFFFFFFFFFFFFFFFFFFFFFFFFFFFFFFFFFFFFFFFCBFFFFFFFAFE M) (hs : Keeps M s0 s) :
    KeepsOut M s0 (execDmaTransferComplete s) := by
  unfold execDmaTransferComplete
  split
  · apply keepsOut_next
    exact hs
  · apply keepsOut_next
    apply keeps_ite
    · refine transCheck_keeps (hm.mono (by rfl)) ?_
      refine dmaFinish_keeps (hm.mono (by rfl)) ?_
      exact hs
    · refine memRespond_keeps (hm.mono (by rfl)) ?_
      refine dmaPump_keeps (hm.mono (by rfl)) ?_
      exact hs

theorem execDramCommandIssue_keeps {sc : Fin 8} {dt : Nat} {last : Bool} {s : State} (hm : Sub
    0x7FFFFFFFFFFFFFFFFFFFFFFFFFFFFFFFFFFFFFFFFFFFFFFFFFFFFFFFFFFFFFFFFFFFFFFFFFFFFFFFFFFFFFFFFFFFFFFFFFFFFFFFFFFFFFFFFFFFFFFFFFFFFFFFFFFFFFFFCBFFFFFFFAFF M) (hs : Keeps M s0 s) :
    KeepsOut M s0 (execDramCommandIssue sc dt last s) := by
  unfold execDramCommandIssue
  apply keepsOut_next
  refine memRespond_keeps (hm.mono (by rfl)) ?_
  refine commandSlot_keeps (hm.mono (by rfl)) ?_
  refine advance_keeps (hm.mono (by rfl)) ?_
  exact hs

theorem execDramTrainingDone_keeps {spareOk : Bool} {s : State} (hm : Sub
    0x1840000000000000000000000000000000000042043A000C00000000000000000000000000000000000000000000000000000000000000000000000000002003020004000 M) (hs : Keeps M s0 s) :
    KeepsOut M s0 (execDramTrainingDone spareOk s) := by
  unfold execDramTrainingDone
  apply keepsOut_next
  apply keeps_ite
  · refine trainDone_keeps (hm.mono (by rfl)) ?_
    exact hs
  · exact hs

theorem execEnc0Count_keeps {dt : Nat} {sa : BitVec 4} {sb : BitVec 4} {s : State} (hm : Sub
    0x200000184000000800100000008000000038002000000000000000000000000000000000000039D000C0B00000000000000000000000000000000000000000000000200105ED205 M) (hs : Keeps M s0 s) :
    KeepsOut M s0 (execEnc0Count dt sa sb s) := by
  unfold execEnc0Count
  extract_lets +onlyGivenNames x1
  have hx1 : Keeps M s0 x1 := by
    subst x1
    refine advance_keeps (hm.mono (by rfl)) ?_
    exact hs
  clear_value x1
  apply keepsOut_ite
  · apply keepsOut_next
    exact hx1
  · extract_lets +onlyGivenNames x2
    clear_value x2
    extract_lets +onlyGivenNames x3
    clear_value x3
    extract_lets +onlyGivenNames x4
    clear_value x4
    apply keepsOut_ite
    · split
      · apply keepsOut_next
        exact hx1
      · extract_lets +onlyGivenNames x5
        have hx5 : Keeps M s0 x5 := by
          subst x5
          refine noteIllegal_keeps (hm.mono (by rfl)) ?_
          exact hx1
        clear_value x5
        apply keepsOut_next
        apply keeps_ite
        · refine encFaultEntry_keeps (hm.mono (by rfl)) ?_
          exact hx5
        · refine upd_pos_keeps (hm.mono (by rfl)) ?_
          exact hx5
      · extract_lets +onlyGivenNames x6
        have hx6 : Keeps M s0 x6.1 := by
          subst x6
          refine masterCount_keeps (hm.mono (by rfl)) ?_
          refine setEnch_keeps (hm.mono (by rfl)) ?_
          exact hx1
        clear_value x6
        apply keepsOut_next
        apply keeps_ite
        · refine cueToPorts_keeps (hm.mono (by rfl)) ?_
          exact hx6
        · exact hx6
    · apply keepsOut_next
      refine setEnch_keeps (hm.mono (by rfl)) ?_
      exact hx1

theorem execEnc0ZEdge_keeps {sz : BitVec 4} {s : State} (hm : Sub
    0x184000000800100000000000000038002000000000000000000000000000000000000002001C0030000000000000000000000000000000000000000000002000010185200 M) (hs : Keeps M s0 s) :
    KeepsOut M s0 (execEnc0ZEdge sz s) := by
  unfold execEnc0ZEdge
  apply keepsOut_ite
  · apply keepsOut_next
    exact hs
  · extract_lets +onlyGivenNames x1
    clear_value x1
    extract_lets +onlyGivenNames x2
    have hx2 : Keeps M s0 x2 := by
      subst x2
      refine takeZ_keeps (hm.mono (by rfl)) ?_
      exact hs
    clear_value x2
    apply keepsOut_ite
    · extract_lets +onlyGivenNames x3
      have hx3 : Keeps M s0 x3 := by
        subst x3
        refine setPair_keeps (hm.at .POS_ZLATCH_L (by rfl)) (hm.at .POS_ZLATCH_H (by rfl)) ?_
        exact hx2
      clear_value x3
      extract_lets +onlyGivenNames x4
      clear_value x4
      extract_lets +onlyGivenNames x5
      clear_value x5
      extract_lets +onlyGivenNames x6
      have hx6 : Keeps M s0 x6 := by
        subst x6
        refine upd_pos_keeps (hm.mono (by rfl)) ?_
        exact hx3
      clear_value x6
      apply keepsOut_ite
      · extract_lets +onlyGivenNames x7
        clear_value x7
        extract_lets +onlyGivenNames x8
        have hx8 : Keeps M s0 x8 := by
          subst x8
          refine upd_pos_keeps (hm.mono (by rfl)) ?_
          exact hx6
        clear_value x8
        extract_lets +onlyGivenNames x9
        have hx9 : Keeps M s0 x9 := by
          subst x9
          apply keeps_ite
          · refine posCheckOver_keeps (hm.mono (by rfl)) ?_
            exact hx8
          · exact hx8
        clear_value x9
        apply keepsOut_next
        refine closePosGap_keeps (hm.mono (by rfl)) ?_
        exact hx9
      · apply keepsOut_ite
        · apply keepsOut_next
          exact hx6
        · extract_lets +onlyGivenNames x10
          clear_value x10
          extract_lets +onlyGivenNames x11
          have hx11 : Keeps M s0 x11 := by
            subst x11
            refine put_keeps (hm.at .POS_ZERR (by rfl)) ?_
            exact hx6
          clear_value x11
          extract_lets +onlyGivenNames x12
          clear_value x12
          extract_lets +onlyGivenNames x13
          clear_value x13
          extract_lets +onlyGivenNames x14
          subst x14
          apply keepsOut_ite
          · apply keepsOut_next
            refine closePosGap_keeps (hm.mono (by rfl)) ?_
            dsimp only
            apply keeps_ite
            · refine posCheckOver_keeps (hm.mono (by rfl)) ?_
              refine zReference_keeps (hm.mono (by rfl)) ?_
              exact hx11
            · refine zReference_keeps (hm.mono (by rfl)) ?_
              exact hx11
          · apply keepsOut_ite
            · apply keepsOut_next
              refine closePosGap_keeps (hm.mono (by rfl)) ?_
              dsimp only
              apply keeps_ite
              · refine posCheckOver_keeps (hm.mono (by rfl)) ?_
                apply keeps_ite
                · refine zSubtract_keeps (hm.mono (by rfl)) ?_
                  exact hx11
                · exact hx11
              · apply keeps_ite
                · refine zSubtract_keeps (hm.mono (by rfl)) ?_
                  exact hx11
                · exact hx11
            · apply keepsOut_ite
              · apply keepsOut_next
                refine closePosGap_keeps (hm.mono (by rfl)) ?_
                exact hx11
              · apply keepsOut_ite
                · apply keepsOut_next
                  exact hx11
                · apply keepsOut_next
                  refine raise_keeps (hm.mono (by rfl)) (hm.at .POS_EVENT (by rfl)) ?_
                  refine count_keeps (hm.at .POS_ZSLIP_CNT (by rfl)) ?_
                  exact hx11
    · apply keepsOut_next
      exact hx2

theorem execEncoderFaultEnd_keeps {dt : Nat} {s : State} (hm : Sub
    0x1840000000000000000080000000000000000000000000000000000000000000000000000000003000000000000000000000000000000000000000000000000001004C001 M) (hs : Keeps M s0 s) :
    KeepsOut M s0 (execEncoderFaultEnd dt s) := by
  unfold execEncoderFaultEnd
  extract_lets +onlyGivenNames x1
  have hx1 : Keeps M s0 x1 := by
    subst x1
    refine advance_keeps (hm.mono (by rfl)) ?_
    exact hs
  clear_value x1
  apply keepsOut_ite
  · apply keepsOut_next
    exact hx1
  · apply keepsOut_ite
    · apply keepsOut_ite
      · apply keepsOut_next
        refine upd_pos_keeps (hm.mono (by rfl)) ?_
        exact hx1
      · apply keepsOut_next
        refine encFaultEnd_keeps (hm.mono (by rfl)) ?_
        exact hx1
    · apply keepsOut_next
      exact hx1

theorem execEolMarkerApply_keeps {s : State} (hm : Sub
    0x184000000800100000000000000038002000000000000000000000000000000000000000000000000038D566803F86C4000000000000000000000000000000200063A4210 M) (hs : Keeps M s0 s) :
    KeepsOut M s0 (execEolMarkerApply s) := by
  unfold execEolMarkerApply
  split
  · apply keepsOut_next
    refine takeFront_keeps (hm.mono (by rfl)) ?_
    exact hs
  · apply keepsOut_next
    exact hs

theorem execEolTimeout_keeps {p : Fin 16} {s : State} (hm : Sub 0x80000000000000000000000 M) (hs : Keeps M s0 s) :
    KeepsOut M s0 (execEolTimeout p s) := by
  unfold execEolTimeout
  apply keepsOut_next
  apply keeps_ite
  · refine count_keeps (hm.at .CAM_EOL_TMO_CNT (by rfl)) ?_
    exact hs
  · exact hs

theorem execExposureLoopRun_keeps {p : Fin 16} {s : State} (hm : Sub
    0x18400000000000000000000000000000000000000000000000000000000000000000000000000000000000000000000000000000018200100000000000000000000C04004 M) (hs : Keeps M s0 s) :
    KeepsOut M s0 (execExposureLoopRun p s) := by
  unfold execExposureLoopRun
  extract_lets +onlyGivenNames x1
  clear_value x1
  extract_lets +onlyGivenNames x2
  clear_value x2
  extract_lets +onlyGivenNames x3
  clear_value x3
  apply keepsOut_next
  apply keeps_ite
  · refine exposureRun_keeps (hm.mono (by rfl)) ?_
    refine setCorPort_keeps (hm.mono (by rfl)) ?_
    exact hs
  · exact hs

theorem execFabAckRx_keeps {f : Fin 6} {lseq : BitVec 13} {nak : Bool} {s : State} (hm : Sub
    0x20000018400000AB1A5001000000000000380020C11200000000000000000000000000000000000000000000562800800000004040602000000000000000000000002000E1E4284 M) (hs : Keeps M s0 s) :
    KeepsOut M s0 (execFabAckRx f lseq nak s) := by
  unfold execFabAckRx
  apply keepsOut_next
  refine ackRx_keeps (hm.mono (by rfl)) ?_
  exact hs

theorem execFabAckTimer_keeps {f : Fin 6} {s : State} (hm : Sub 0x100004 M) (hs : Keeps M s0 s) :
    KeepsOut M s0 (execFabAckTimer f s) := by
  unfold execFabAckTimer
  apply keepsOut_next
  apply keeps_when
  · intro t1 h2
    refine sendAck_keeps (hm.mono (by rfl)) ?_
    exact h2
  · exact hs

theorem execFabCackPacket_keeps {f : Fin 6} {s : State} (hm : Sub 0x4100004 M) (hs : Keeps M s0 s) :
    KeepsOut M s0 (execFabCackPacket f s) := by
  unfold execFabCackPacket
  apply keepsOut_next
  refine onPacket_keeps (hm.mono (by rfl)) ?_ ?_
  · intro x1 t2 h3
    refine cackPacket_keeps (hm.mono (by rfl)) ?_
    exact h3
  · exact hs

theorem execFabComponentPacket_keeps {f : Fin 6} {s : State} (hm : Sub
    0x184000000800100000000000000000000000000000000000000000000000000000000000000000000000000000000000A0000020000000000000000000000000006104006 M) (hs : Keeps M s0 s) :
    KeepsOut M s0 (execFabComponentPacket f s) := by
  unfold execFabComponentPacket
  apply keepsOut_next
  refine onPacket_keeps (hm.mono (by rfl)) ?_ ?_
  · intro x1 t2 h3
    refine componentPacket_keeps (hm.mono (by rfl)) ?_
    exact h3
  · exact hs

theorem execFabCreditRx_keeps {f : Fin 6} {vc : Fin 5} {n : BitVec 13} {s : State} (hm : Sub 0x100000 M) (hs : Keeps M s0
    s) :
    KeepsOut M s0 (execFabCreditRx f vc n s) := by
  unfold execFabCreditRx
  extract_lets +onlyGivenNames x1
  clear_value x1
  extract_lets +onlyGivenNames x2
  clear_value x2
  apply keepsOut_next
  apply keeps_when
  · intro t3 h4
    refine setFabPort_keeps (hm.mono (by rfl)) ?_
    exact h4
  · exact hs

theorem execFabFrontierPacket_keeps {f : Fin 6} {s : State} (hm : Sub
    0x18400000000000000000000000000000000000420400000000000000000000000000000000000000000000000000000100000000000000000000000000000003024104004 M) (hs : Keeps M s0 s) :
    KeepsOut M s0 (execFabFrontierPacket f s) := by
  unfold execFabFrontierPacket
  apply keepsOut_next
  refine onPacket_keeps (hm.mono (by rfl)) ?_ ?_
  · intro x1 t2 h3
    refine frontierPacket_keeps (hm.mono (by rfl)) ?_
    exact h3
  · exact hs

theorem execFabJobPacket_keeps {f : Fin 6} {s : State} (hm : Sub
    0x18400000080010000000000000000000000000000000000000000000000000000000000000000000000000000000000000000000000000000000000000000000000184004 M) (hs : Keeps M s0 s) :
    KeepsOut M s0 (execFabJobPacket f s) := by
  unfold execFabJobPacket
  apply keepsOut_next
  refine onPacket_keeps (hm.mono (by rfl)) ?_ ?_
  · intro x1 t2 h3
    refine jobPacket_keeps (hm.mono (by rfl)) ?_
    exact h3
  · exact hs

theorem execFabLinkAligned_keeps {f : Fin 6} {s : State} (hm : Sub
    0x800000000000000000000000000000000000000000000000000000000000000000000000000000000000000000000000000000000000000000000000100004 M) (hs : Keeps M s0 s) :
    KeepsOut M s0 (execFabLinkAligned f s) := by
  unfold execFabLinkAligned
  apply keepsOut_next
  refine fabAligned_keeps (hm.mono (by rfl)) ?_
  exact hs

theorem execFabLstateRx_keeps {f : Fin 6} {addr : FabAddr} {port : Fin 8} {s : State} (hm : Sub
    0x18400000281A500100000000000038002000000000000000000000000000000000000000000000000056280080000000404060200000000000000000000000000061C4280 M) (hs : Keeps M s0 s) :
    KeepsOut M s0 (execFabLstateRx f addr port s) := by
  unfold execFabLstateRx
  apply keepsOut_next
  refine lstateRx_keeps (hm.mono (by rfl)) ?_
  exact hs

theorem execFabPacketRx_keeps {f : Fin 6} {pkt : Packet} {lseq : BitVec 13} {crc : Word} {s : State} (hm : Sub
    0x184000001C8010000000000000000000000000000000000000000000000000000000000000000000000000000000000000000000000000000000000000000000000104004 M) (hs : Keeps M s0 s) :
    KeepsOut M s0 (execFabPacketRx f pkt lseq crc s) := by
  unfold execFabPacketRx
  apply keepsOut_next
  refine packetRx_keeps (hm.mono (by rfl)) ?_
  exact hs

theorem execFabPacketStart_keeps {f : Fin 6} {s : State} (hm : Sub
    0x1000000000000000000000000000000000000000000000000000000000000000000000000000000000000000000000000000000000000000000000000100004 M) (hs : Keeps M s0 s) :
    KeepsOut M s0 (execFabPacketStart f s) := by
  unfold execFabPacketStart
  apply keepsOut_next
  refine packetStart_keeps (hm.mono (by rfl)) ?_
  exact hs

theorem execFabRecordPacket_keeps {f : Fin 6} {s : State} (hm : Sub
    0x18400000080010000000000000003800200000000000000000000000000000000000000000000000000000000000000000000000000000000000000000000000000184004 M) (hs : Keeps M s0 s) :
    KeepsOut M s0 (execFabRecordPacket f s) := by
  unfold execFabRecordPacket
  apply keepsOut_next
  refine onPacket_keeps (hm.mono (by rfl)) ?_ ?_
  · intro x1 t2 h3
    refine recordPacket_keeps (hm.mono (by rfl)) ?_
    exact h3
  · exact hs

theorem execFabReplayTimeout_keeps {dt : Nat} {f : Fin 6} {s : State} (hm : Sub
    0x20000018400000AB1A5001000080000000380020C11200000000000000000000000000000000000000000000562800800000004040602000000000000000000000002000E1EC285 M) (hs : Keeps M s0 s) :
    KeepsOut M s0 (execFabReplayTimeout dt f s) := by
  unfold execFabReplayTimeout
  extract_lets +onlyGivenNames x1
  have hx1 : Keeps M s0 x1 := by
    subst x1
    refine advance_keeps (hm.mono (by rfl)) ?_
    exact hs
  clear_value x1
  apply keepsOut_next
  apply keeps_when
  · intro t2 h3
    refine replay_keeps (hm.mono (by rfl)) ?_
    exact h3
  · exact hx1

theorem execFabSyncTimer_keeps {s : State} (hm : Sub 0x100004 M) (hs : Keeps M s0 s) :
    KeepsOut M s0 (execFabSyncTimer s) := by
  unfold execFabSyncTimer
  apply keepsOut_next
  refine syncTimer_keeps (hm.mono (by rfl)) ?_
  exact hs

theorem execFabWingPacket_keeps {f : Fin 6} {s : State} (hm : Sub
    0x18400000000000000000000000000000000000420400000000000000000000000000000000000000000000000000000100000000000000000000000000000003024104004 M) (hs : Keeps M s0 s) :
    KeepsOut M s0 (execFabWingPacket f s) := by
  unfold execFabWingPacket
  apply keepsOut_next
  refine onPacket_keeps (hm.mono (by rfl)) ?_ ?_
  · intro x1 t2 h3
    refine wingPacket_keeps (hm.mono (by rfl)) ?_
    exact h3
  · exact hs

theorem execFfRetryExpiry_keeps {h : Fin 32} {s : State} (hm : Sub 0x800000 M) (hs : Keeps M s0 s) :
    KeepsOut M s0 (execFfRetryExpiry h s) := by
  unfold execFfRetryExpiry
  extract_lets +onlyGivenNames x1
  clear_value x1
  apply keepsOut_next
  apply keeps_ite
  · refine ffTempCheck_keeps (hm.mono (by rfl)) ?_
    refine setCorHead_keeps (hm.mono (by rfl)) ?_
    exact hs
  · exact hs

theorem execFfRunComplete_keeps {h : Fin 32} {s : State} (hm : Sub
    0x18400000000000000000000000000000000000000000000000000000000000000000000000000000000000000000000000000000007202D00000000000000000000C25084 M) (hs : Keeps M s0 s) :
    KeepsOut M s0 (execFfRunComplete h s) := by
  unfold execFfRunComplete
  apply keepsOut_next
  refine ffComplete_keeps (hm.mono (by rfl)) ?_
  exact hs

theorem execFfTableWriteDone_keeps {h : Fin 32} {s : State} (hm : Sub 0x800000000000000000000800080 M) (hs : Keeps M s0 s) :
    KeepsOut M s0 (execFfTableWriteDone h s) := by
  unfold execFfTableWriteDone
  apply keepsOut_next
  refine ffWriteDone_keeps (hm.mono (by rfl)) ?_
  exact hs

theorem execFlashNoAnswer_keeps {s : State} (hm : Sub
    0x7FFFFFFFFFFFFFFFFFFFFFFFFFFFFFFFFFFFFFFFFFFFFFFFFFFFFFFFFFFFFFFFFFFFFFFFFFFFFFFFFFFFFFFFFFFFFFFFFFFFFFFFFFFFFFFFFFFFFFFFFFFFFFFFFFFFFFFFC3FFFFFFFAFC M) (hs : Keeps M s0 s) :
    KeepsOut M s0 (execFlashNoAnswer s) := by
  unfold execFlashNoAnswer
  apply keepsOut_next
  apply keeps_ite
  · refine slotFail_keeps (hm.mono (by rfl)) ?_
    exact hs
  · apply keeps_ite
    · refine imageChanged_keeps (hm.mono (by rfl)) ?_
      exact hs
    · exact hs

theorem execFspChangeDone_keeps {s : State} (hm : Sub
    0x20000000184000000A1850000000000080003800A00500040002300C000003C0000000403C00A00000000080007FFD76803F86C4E0000020000200D0800000018500682477FFE7296 M) (hs : Keeps M s0 s) :
    KeepsOut M s0 (execFspChangeDone s) := by
  unfold execFspChangeDone
  split
  · apply keepsOut_next
    exact hs
  · apply keepsOut_next
    apply keeps_ite
    · exact hs
    · refine transCheck_keeps (hm.mono (by rfl)) ?_
      refine fspDone_keeps (hm.mono (by rfl)) ?_
      exact hs

theorem execFspRequest_keeps {fsp : Fin 2} {s : State} (hm : Sub
    0x20000000184000000A1850000000000080003800A00500080002B00C000003C0000000403C00A00000000080007FFD76803F86C4E0000020000200D0800000018500682477FFE7296 M) (hs : Keeps M s0 s) :
    KeepsOut M s0 (execFspRequest fsp s) := by
  unfold execFspRequest
  apply keepsOut_next
  refine transCheck_keeps (hm.mono (by rfl)) ?_
  refine fspRequest_keeps (hm.mono (by rfl)) ?_
  refine put_keeps (hm.at .MEM_FSP_CTRL (by rfl)) ?_
  exact hs

theorem execHealthPeriod_keeps {dt : Nat} {s : State} (hm : Sub
    0x184000000800100000008000000038002000000000000000000000000000000000000000000000000000000000000000000000000000000000000000000000000001EC201 M) (hs : Keeps M s0 s) :
    KeepsOut M s0 (execHealthPeriod dt s) := by
  unfold execHealthPeriod
  extract_lets +onlyGivenNames x1
  have hx1 : Keeps M s0 x1 := by
    subst x1
    refine advance_keeps (hm.mono (by rfl)) ?_
    exact hs
  clear_value x1
  apply keepsOut_next
  apply keeps_ite
  · refine health_keeps (hm.mono (by rfl)) ?_
    refine upd_pwr_keeps (hm.mono (by rfl)) (.inr rfl) (.inr rfl) (.inr rfl) (.inr rfl) ?_
    exact hx1
  · exact hx1

theorem execHostJobRequest_keeps {s : State} (hm : Sub
    0x184000000800100000000000000000000000000000000000000003C0000000400000000000000000000000000000000000000000000000000000000000000000040184202 M) (hs : Keeps M s0 s) :
    KeepsOut M s0 (execHostJobRequest s) := by
  unfold execHostJobRequest
  apply keepsOut_next
  refine hostRequest_keeps (hm.mono (by rfl)) ?_
  exact hs

theorem execI2cTimeout_keeps {b : Fin 8} {s : State} (hm : Sub
    0x220000000000000000000000000000000000000000000000000000000000000000000000000000000000000000000000000000000000000000000000000000000000000010000 M) (hs : Keeps M s0 s) :
    KeepsOut M s0 (execI2cTimeout b s) := by
  unfold execI2cTimeout
  apply keepsOut_next
  apply keeps_ite
  · refine boardInvalid_keeps (hm.mono (by rfl)) ?_
    exact hs
  · exact hs

theorem execIdentityKeyReady_keeps {s : State} (hm : Sub
    0x6000000018400000000000000000000000000000000000000000000000000000000000000000000000000000000000000000000000000000000000000000000000000100000026002 M) (hs : Keeps M s0 s) :
    KeepsOut M s0 (execIdentityKeyReady s) := by
  unfold execIdentityKeyReady
  refine keepsOut_next (keeps_ite ?_ hs)
  extract_lets +onlyGivenNames d
  have hd : Keeps M s0 d.2 := drawMany_keeps (hm.mono (by rfl)) hs
  clear_value d
  dsimp only
  refine raise_keeps (hm.mono (by rfl)) (hm.at .SEC_EVENT (by rfl)) ?_
  refine put_keeps (hm.at .SEC_STATUS (by rfl)) ?_
  refine put_keeps (hm.at .SEC_STATUS (by rfl)) ?_
  exact upd_sec_pwr_keeps rfl (hm.mono (by rfl)) (.inr rfl) (.inr rfl) (.inr rfl)
    (.inl (hm.bit (by rfl))) hd

theorem execImagePass1Done_keeps {img : ImageRead} {s : State} (hm : Sub
    0x7FFFFFFFFFFFFFFFFFFFFFFFFFFFFFFFFFFFFFFFFFFFFFFFFFFFFFFFFFFFFFFFFFFFFFFFFFFFFFFFFFFFFFFFFFFFFFFFFFFFFFFFFFFFFFFFFFFFFFFFFFFFFFFFFFFFFFFFC3FFFFFFFAFC M) (hs : Keeps M s0 s) :
    KeepsOut M s0 (execImagePass1Done img s) := by
  unfold execImagePass1Done
  apply keepsOut_next
  apply keeps_ite
  · refine pass1Done_keeps (hm.mono (by rfl)) ?_
    exact hs
  · exact hs

theorem execImagePass2Section_keeps {hash : BitVec 512} {s : State} (hm : Sub
    0x7FFFFFFFFFFFFFFFFFFFFFFFFFFFFFFFFFFFFFFFFFFFFFFFFFFFFFFFFFFFFFFFFFFFFFFFFFFFFFFFFFFFFFFFFFFFFFFFFFFFFFFFFFFFFFFFFFFFFFFFFFFFFFFFFFFFFFFFCBFFFFFFFAFE M) (hs : Keeps M s0 s) :
    KeepsOut M s0 (execImagePass2Section hash s) := by
  unfold execImagePass2Section
  apply keepsOut_next
  apply keeps_ite
  · refine pass2Section_keeps (hm.mono (by rfl)) ?_
    exact hs
  · exact hs

theorem execIndexEdge_keeps {dt : Nat} {c : Fin 7} {sz : BitVec 4} {s : State} (hm : Sub
    0x1840000000000000000080000000000000000000000000000000000000000000000000040100001000000000000000000000000000000000000000000000000001004C001 M) (hs : Keeps M s0 s) :
    KeepsOut M s0 (execIndexEdge dt c sz s) := by
  unfold execIndexEdge
  extract_lets +onlyGivenNames x1
  have hx1 : Keeps M s0 x1 := by
    subst x1
    refine advance_keeps (hm.mono (by rfl)) ?_
    exact hs
  clear_value x1
  apply keepsOut_ite
  · apply keepsOut_next
    exact hx1
  · extract_lets +onlyGivenNames x2
    clear_value x2
    extract_lets +onlyGivenNames x3
    clear_value x3
    extract_lets +onlyGivenNames x4
    have hx4 : Keeps M s0 x4 := by
      subst x4
      refine takeZ_keeps (hm.mono (by rfl)) ?_
      exact hx1
    clear_value x4
    apply keepsOut_ite
    · extract_lets +onlyGivenNames x5
      clear_value x5
      extract_lets +onlyGivenNames x6
      clear_value x6
      extract_lets +onlyGivenNames x7
      clear_value x7
      split
      · extract_lets +onlyGivenNames x8
        clear_value x8
        apply keepsOut_ite
        · apply keepsOut_next
          refine count_keeps (hm.at .POS_IDX_REJ_CNT (by rfl)) ?_
          exact hx4
        · extract_lets +onlyGivenNames x9
          clear_value x9
          extract_lets +onlyGivenNames x10
          clear_value x10
          extract_lets +onlyGivenNames x11
          have hx11 : Keeps M s0 x11 := by
            subst x11
            refine setEnch_keeps (hm.mono (by rfl)) ?_
            exact hx4
          clear_value x11
          extract_lets +onlyGivenNames x12
          have hx12 : Keeps M s0 x12 := by
            subst x12
            refine put_keeps (hm.at .POS_ROLL (by rfl)) ?_
            refine put_keeps (hm.at .POS_ROLL (by rfl)) ?_
            exact hx11
          clear_value x12
          apply keepsOut_next
          apply keeps_ite
          · refine rollerClear_keeps (hm.mono (by rfl)) ?_
            exact hx12
          · exact hx12
      · extract_lets +onlyGivenNames x13
        have hx13 : Keeps M s0 x13 := by
          subst x13
          refine setEnch_keeps (hm.mono (by rfl)) ?_
          exact hx4
        clear_value x13
        apply keepsOut_next
        refine put_keeps (hm.at .POS_ROLL (by rfl)) ?_
        refine put_keeps (hm.at .POS_ROLL (by rfl)) ?_
        exact hx13
    · apply keepsOut_next
      exact hx4

theorem execJobDone_keeps {s : State} (hm : Sub
    0x20000000184000000A1850000000000080003800A005000000023004000003E0000000403C00A00000000080007FFD76803F86C4E0000020000200D0800000018500683477FFE7296 M) (hs : Keeps M s0 s) :
    KeepsOut M s0 (execJobDone s) := by
  unfold execJobDone
  split
  · apply keepsOut_next
    exact hs
  · apply keepsOut_next
    apply keeps_ite
    · refine transCheck_keeps (hm.mono (by rfl)) ?_
      refine jobFinish_keeps (hm.mono (by rfl)) ?_
      exact hs
    · exact hs

theorem execJobStart_keeps {s : State} (hm : Sub
    0x7FFFFFFFFFFFFFFFFFFFFFFFFFFFFFFFFFFFFFFFFFFFFFFFFFFFFFFFFFFFFFFFFFFFFFFFFFFFFFFFFFFFFFFFFFFFFFFFFFFFFFFFFFFFFFFFFFFFFFFFFFFFFFFFFFFFFFFFCBFFFFFFFAFE M) (hs : Keeps M s0 s) :
    KeepsOut M s0 (execJobStart s) := by
  unfold execJobStart
  split
  · exact keepsOut_next hs
  · rename_i h
    have hj := nextJob_keeps (hm.mono (by rfl)) h hs
    exact keepsOut_next (keeps_ite (memRespond_keeps (hm.mono (by rfl)) (jobBegin_keeps (hm.mono (by rfl)) hj)) hs)

theorem execJobWaitTimeout_keeps {s : State} (hm : Sub
    0x7FFFFFFFFFFFFFFFFFFFFFFFFFFFFFFFFFFFFFFFFFFFFFFFFFFFFFFFFFFFFFFFFFFFFFFFFFFFFFFFFFFFFFFFFFFFFFFFFFFFFFFFFFFFFFFFFFFFFFFFFFFFFFFFFFFFFFFFCBFFFFFFFAFE M) (hs : Keeps M s0 s) :
    KeepsOut M s0 (execJobWaitTimeout s) := by
  unfold execJobWaitTimeout
  split
  · exact keepsOut_next hs
  · rename_i h
    have hj := nextJob_keeps (hm.mono (by rfl)) h hs
    exact keepsOut_next (keeps_ite (memRespond_keeps (hm.mono (by rfl)) (jobBegin_keeps (hm.mono (by rfl)) hj)) hs)

theorem execLineDelivery_keeps {p : Fin 16} {faults : List (Nat × Bool)} {s : State} (hm : Sub
    0x7FFFFFFFFFFFFFFFFFFFFFFFFFFFFFFFFFFFFFFFFFFFFFFFFFFFFFFFFFFFFFFFFFFFFFFFFFFFFFFFFFFFFFFFFFFFFFFFFFFFFFFFFFFFFFFFFFFFFFFFFFFFFFFFFFFFFFFFCBFFFFFFFAFE M) (hs : Keeps M s0 s) :
    KeepsOut M s0 (execLineDelivery p faults s) := by
  unfold execLineDelivery
  apply keepsOut_next
  apply keeps_ite
  · refine memRespond_keeps (hm.mono (by rfl)) ?_
    refine deliver_keeps (hm.mono (by rfl)) ?_
    exact hs
  · exact hs

theorem execLineFrame_keeps {p : Fin 16} {j : Fin 2} {mrow : Nat} {sid : Nat} {line : LineNo} {hdr : DWord} {data : List
    DWord} {bits : Nat} {crc : Word} {s : State} (hm : Sub
    0x7FFFFFFFFFFFFFFFFFFFFFFFFFFFFFFFFFFFFFFFFFFFFFFFFFFFFFFFFFFFFFFFFFFFFFFFFFFFFFFFFFFFFFFFFFFFFFFFFFFFFFFFFFFFFFFFFFFFFFFFFFFFFFFFFFFFFFFFCBFFFFFFFAFE M) (hs : Keeps M s0 s) :
    KeepsOut M s0 (execLineFrame p j mrow sid line hdr data bits crc s) := by
  unfold execLineFrame
  apply keepsOut_next
  refine memRespond_keeps (hm.mono (by rfl)) ?_
  refine lineFrame_keeps (hm.mono (by rfl)) ?_
  exact hs

theorem execLineTimeout_keeps {dt : Nat} {p : Fin 16} {j : Fin 2} {s : State} (hm : Sub
    0x7FFFFFFFFFFFFFFFFFFFFFFFFFFFFFFFFFFFFFFFFFFFFFFFFFFFFFFFFFFFFFFFFFFFFFFFFFFFFFFFFFFFFFFFFFFFFFFFFFFFFFFFFFFFFFFFFFFFFFFFFFFFFFFFFFFFFFFFCBFFFFFFFAFF M) (hs : Keeps M s0 s) :
    KeepsOut M s0 (execLineTimeout dt p j s) := by
  unfold execLineTimeout
  apply keepsOut_next
  refine memRespond_keeps (hm.mono (by rfl)) ?_
  refine lineTimeout_keeps (hm.mono (by rfl)) ?_
  refine advance_keeps (hm.mono (by rfl)) ?_
  exact hs

theorem execLoadEnd_keeps {s : State} (hm : Sub
    0x18400040080010000000000000003800A0000000000200040000000000000000000000000100C0300000000000000000027860200000000000000000023068040741A5394 M) (hs : Keeps M s0 s) :
    KeepsOut M s0 (execLoadEnd s) := by
  unfold execLoadEnd
  apply keepsOut_next
  apply keeps_ite
  · refine loadEnd_keeps (hm.mono (by rfl)) ?_
    exact hs
  · exact hs

theorem execLoadStallRetry_keeps {dt : Nat} {s : State} (hm : Sub
    0x1840000000000000000080000000000000000000000200040000000000000000000000000000000000000000000000000000000000000000000000000010000000004D001 M) (hs : Keeps M s0 s) :
    KeepsOut M s0 (execLoadStallRetry dt s) := by
  unfold execLoadStallRetry
  extract_lets +onlyGivenNames x1
  have hx1 : Keeps M s0 x1 := by
    subst x1
    refine advance_keeps (hm.mono (by rfl)) ?_
    exact hs
  clear_value x1
  apply keepsOut_next
  apply keeps_ite
  · extract_lets +onlyGivenNames x2
    subst x2
    extract_lets +onlyGivenNames x3
    have hx3 : Keeps M s0 x3 := by
      subst x3
      refine upd_glb_keeps (hm.mono (by rfl)) (.inr rfl) (.inr rfl) (.inr rfl) ?_
      exact hx1
    clear_value x3
    extract_lets +onlyGivenNames x4
    have hx4 : Keeps M s0 x4 := by
      subst x4
      refine put_keeps (hm.at .MEM_TRN_STATUS (by rfl)) ?_
      refine put_keeps (hm.at .MEM_STATUS (by rfl)) ?_
      exact hx3
    clear_value x4
    refine countFld_keeps (hm.at .GLB_LOAD_STATUS (by rfl)) ?_
    exact hx4
  · exact hx1

theorem execMemBandPoll_keeps {bands : List (Fin 4)} {s : State} (hm : Sub
    0x20081418400000000000000000000000000000000000010000380800000000000000000000000000000000000000000000000000000000000000000000000000000020020034004 M) (hs : Keeps M s0 s) :
    KeepsOut M s0 (execMemBandPoll bands s) := by
  unfold execMemBandPoll
  apply keepsOut_next
  apply keeps_ite
  · refine throttleStart_keeps (hm.mono (by rfl)) ?_
    refine noteDramCrit_keeps (hm.mono (by rfl)) ?_
    apply keeps_forBelow
    · intro x1 t2 h3
      apply keeps_ite
      · refine setBand_keeps (hm.mono (by rfl)) ?_
        exact h3
      · exact h3
    · exact hs
  · exact hs

theorem execMemReadComplete_keeps {sc : Fin 8} {dt : Nat} {out : ReadOutcome} {s : State} (hm : Sub
    0x7FFFFFFFFFFFFFFFFFFFFFFFFFFFFFFFFFFFFFFFFFFFFFFFFFFFFFFFFFFFFFFFFFFFFFFFFFFFFFFFFFFFFFFFFFFFFFFFFFFFFFFFFFFFFFFFFFFFFFFFFFFFFFFFFFFFFFFFCBFFFFFFFAFF M) (hs : Keeps M s0 s) :
    KeepsOut M s0 (execMemReadComplete sc dt out s) := by
  unfold execMemReadComplete
  extract_lets +onlyGivenNames x1
  have hx1 : Keeps M s0 x1 := by
    subst x1
    refine advance_keeps (hm.mono (by rfl)) ?_
    exact hs
  clear_value x1
  split
  · apply keepsOut_next
    exact hx1
  · apply keepsOut_next
    refine memRespond_keeps (hm.mono (by rfl)) ?_
    refine readReturn_keeps (hm.mono (by rfl)) ?_
    exact hx1

theorem execMemWriteComplete_keeps {sc : Fin 8} {dt : Nat} {s : State} (hm : Sub
    0x7FFFFFFFFFFFFFFFFFFFFFFFFFFFFFFFFFFFFFFFFFFFFFFFFFFFFFFFFFFFFFFFFFFFFFFFFFFFFFFFFFFFFFFFFFFFFFFFFFFFFFFFFFFFFFFFFFFFFFFFFFFFFFFFFFFFFFFFCBFFFFFFFBFF M) (hs : Keeps M s0 s) :
    KeepsOut M s0 (execMemWriteComplete sc dt s) := by
  unfold execMemWriteComplete
  extract_lets +onlyGivenNames x1
  have hx1 : Keeps M s0 x1 := by
    subst x1
    refine advance_keeps (hm.mono (by rfl)) ?_
    exact hs
  clear_value x1
  split
  · apply keepsOut_next
    exact hx1
  · apply keepsOut_next
    refine memRespond_keeps (hm.mono (by rfl)) ?_
    refine pieceEnd_keeps (hm.mono (by rfl)) ?_
    refine pieceStore_keeps (hm.mono (by rfl)) ?_
    refine unissue_keeps (hm.mono (by rfl)) ?_
    exact hx1

theorem execMgmtRead_keeps {s : State} (hm : Sub
    0x7FFFFFFFFFFFFFFFFFFFFFFFFFFFFFFFFFFFFFFFFFFFFFFFFFFFFFFFFFFFFFFFFFFFFFFFFFFFFFFFFFFFFFFFFFFFFFFFFFFFFFFFFFFFFFFFFFFFFFFFFFFFFFFFFFFFFFFFC000020C0022 M) (hs : Keeps M s0 s) :
    KeepsOut M s0 (execMgmtRead s) := by
  unfold execMgmtRead
  apply keepsOut_next
  refine mgmtRead_keeps (hm.mono (by rfl)) ?_
  exact hs

theorem execMgmtWrite_keeps {s : State} (hm : Sub
    0x7FFFFFFFFFFFFFFFFFFFFFFFFFFFFFFFFFFFFFFFFFFFFFFFFFFFFFFFFFFFFFFFFFFFFFFFFFFFFFFFFFFFFFFFFFFFFFFFFFFFFFFFFFFFFFFFFFFFFFFFFFFFFFFFFFFFFFFFCBFFFFFFFAFE M) (hs : Keeps M s0 s) :
    KeepsOut M s0 (execMgmtWrite s) := by
  unfold execMgmtWrite
  apply keepsOut_next
  refine mgmtWrite_keeps (hm.mono (by rfl)) ?_
  exact hs

theorem execMigrationFloor_keeps {s : State} (hm : Sub 0x20000000 M) (hs : Keeps M s0 s) :
    KeepsOut M s0 (execMigrationFloor s) := by
  unfold execMigrationFloor
  apply keepsOut_next
  apply keeps_ite
  · refine upd_mem_keeps (hm.mono (by rfl)) (.inr rfl) (.inr rfl) (.inr rfl) ?_
    exact hs
  · exact hs

theorem execMigrationPageCopy_keeps {ue : List (Fin 64)} {s : State} (hm : Sub
    0x7FFFFFFFFFFFFFFFFFFFFFFFFFFFFFFFFFFFFFFFFFFFFFFFFFFFFFFFFFFFFFFFFFFFFFFFFFFFFFFFFFFFFFFFFFFFFFFFFFFFFFFFFFFFFFFFFFFFFFFFFFFFFFFFFFFFFFFFCBFFFFFFFAFE M) (hs : Keeps M s0 s) :
    KeepsOut M s0 (execMigrationPageCopy ue s) := by
  unfold execMigrationPageCopy
  apply keepsOut_next
  apply keeps_ite
  · extract_lets +onlyGivenNames x1
    have hx1 : Keeps M s0 x1.1 := by
      subst x1
      refine pageCopied_keeps (hm.mono (by rfl)) ?_
      exact hs
    clear_value x1
    refine memRespond_keeps (hm.mono (by rfl)) ?_
    apply keeps_foldl
    · intro t2 x3 h4
      refine arcPoison_keeps (hm.mono (by rfl)) ?_
      exact h4
    · exact hx1
  · exact hs

theorem execPairHighWrite_keeps {q : Requester} {addr : Word} {value : Word} {s : State} (hm : Sub
    0x7FFFFFFFFFFFFFFFFFFFFFFFFFFFFFFFFFFFFFFFFFFFFFFFFFFFFFFFFFFFFFFFFFFFFFFFFFFFFFFFFFFFFFFFFFFFFFFFFFFFFFFFFFFFFFFFFFFFFFFFFFFFFFFFFFFFFFFFCBFFFFFFFAFE M) (hs : Keeps M s0 s) :
    KeepsOut M s0 (execPairHighWrite q addr value s) := by
  unfold execPairHighWrite
  apply keepsOut_next
  refine busWrite_keeps (hm.mono (by rfl)) ?_
  exact hs

theorem execPairLowRead_keeps {q : Requester} {addr : Word} {s : State} (hm : Sub
    0x7FFFFFFFFFFFFFFFFFFFFFFFFFFFFFFFFFFFFFFFFFFFFFFFFFFFFFFFFFFFFFFFFFFFFFFFFFFFFFFFFFFFFFFFFFFFFFFFFFFFFFFFFFFFFFFFFFFFFFFFFFFFFFFFFFFFFFFFC0000204002A M) (hs : Keeps M s0 s) :
    KeepsOut M s0 (execPairLowRead q addr s) := by
  unfold execPairLowRead
  apply keepsOut_next
  refine readShown_keeps (hm.mono (by rfl)) ?_
  exact hs

theorem execPairLowWrite_keeps {q : Requester} {addr : Word} {value : Word} {s : State} (hm : Sub
    0x7FFFFFFFFFFFFFFFFFFFFFFFFFFFFFFFFFFFFFFFFFFFFFFFFFFFFFFFFFFFFFFFFFFFFFFFFFFFFFFFFFFFFFFFFFFFFFFFFFFFFFFFFFFFFFFFFFFFFFFFFFFFFFFFFFFFFFFFCBFFFFFFFAFE M) (hs : Keeps M s0 s) :
    KeepsOut M s0 (execPairLowWrite q addr value s) := by
  unfold execPairLowWrite
  apply keepsOut_next
  refine busWrite_keeps (hm.mono (by rfl)) ?_
  exact hs

theorem execPatrolScrub_keeps {rank : Fin 16} {line : Nat} {out : ReadOutcome} {s : State} (hm : Sub
    0x7FFFFFFFFFFFFFFFFFFFFFFFFFFFFFFFFFFFFFFFFFFFFFFFFFFFFFFFFFFFFFFFFFFFFFFFFFFFFFFFFFFFFFFFFFFFFFFFFFFFFFFFFFFFFFFFFFFFFFFFFFFFFFFFFFFFFFFFCBFFFFFFFAFE M) (hs : Keeps M s0 s) :
    KeepsOut M s0 (execPatrolScrub rank line out s) := by
  unfold execPatrolScrub
  apply keepsOut_next
  apply keeps_ite
  · refine memRespond_keeps (hm.mono (by rfl)) ?_
    refine scrubLine_keeps (hm.mono (by rfl)) ?_
    exact hs
  · exact hs

theorem execPfailNFall_keeps {samples : BitVec 4} {s : State} (hm : Sub
    0x7FFFFFFFFFFFFFFFFFFFFFFFFFFFFFFFFFFFFFFFFFFFFFFFFFFFFFFFFFFFFFFFFFFFFFFFFFFFFFFFFFFFFFFFFFFFFFFFFFFFFFFFFFFFFFFFFFFFFFFFFFFFFFFFFFFFFFFFCFFFFFFFFAFC M) (hs : Keeps M s0 s) :
    KeepsOut M s0 (execPfailNFall samples s) := by
  unfold execPfailNFall
  apply keepsOut_ite
  · apply keepsOut_next
    exact hs
  · extract_lets +onlyGivenNames x1
    subst x1
    extract_lets +onlyGivenNames x2
    have hx2 : Keeps M s0 x2 := by
      subst x2
      refine upd_pwr_keeps (hm.mono (by rfl)) (.inr rfl) (.inr rfl) (.inr rfl) (.inr rfl) ?_
      exact hs
    clear_value x2
    apply keepsOut_next
    apply keeps_ite
    · refine curtainStart_keeps (hm.mono (by rfl)) ?_
      exact hx2
    · exact hx2

theorem execPowerGoodLoss_keeps {g : Fin 4} {held : Nat} {s : State} (hm : Sub
    0x7FFFFFFFFFFFFFFFFFFFFFFFFFFFFFFFFFFFFFFFFFFFFFFFFFFFFFFFFFFFFFFFFFFFFFFFFFFFFFFFFFFFFFFFFFFFFFFFFFFFFFFFFFFFFFFFFFFFFFFFFFFFFFFFFFFFFFFFCFFFFFFFFAFC M) (hs : Keeps M s0 s) :
    KeepsOut M s0 (execPowerGoodLoss g held s) := by
  unfold execPowerGoodLoss
  extract_lets +onlyGivenNames x1
  clear_value x1
  extract_lets +onlyGivenNames x2
  subst x2
  extract_lets +onlyGivenNames x3
  have hx3 : Keeps M s0 x3 := by
    subst x3
    refine upd_pwr_keeps (hm.mono (by rfl)) (.inr rfl) (.inr rfl) (.inr rfl) (.inr rfl) ?_
    exact hs
  clear_value x3
  apply keepsOut_next
  apply keeps_ite
  · refine curtainStart_keeps (hm.mono (by rfl)) ?_
    exact hx3
  · exact hx3

theorem execPrehFail_keeps {p : Fin 16} {s : State} (hm : Sub
    0x18400000000000000000000000000000000000000000000000000000000000000000000000000000000000000000000000000000000200D08000000180000000000C04004 M) (hs : Keeps M s0 s) :
    KeepsOut M s0 (execPrehFail p s) := by
  unfold execPrehFail
  apply keepsOut_next
  refine prehFail_keeps (hm.mono (by rfl)) ?_
  exact hs

theorem execPrehStart_keeps {p : Fin 16} {s : State} (hm : Sub
    0x18400000000000000000000000000000000000000000000000000000000000000000000000000000000000000000000000000000000200D00000000080000000004C04004 M) (hs : Keeps M s0 s) :
    KeepsOut M s0 (execPrehStart p s) := by
  unfold execPrehStart
  apply keepsOut_next
  refine prehStart_keeps (hm.mono (by rfl)) ?_
  exact hs

theorem execPromptBookGroupApply_keeps {s : State} (hm : Sub 0x20000020000 M) (hs : Keeps M s0 s) :
    KeepsOut M s0 (execPromptBookGroupApply s) := by
  unfold execPromptBookGroupApply
  apply keepsOut_next
  refine applyGroup_keeps (hm.mono (by rfl)) ?_
  exact hs

theorem execQoutStep_keeps {dt : Nat} {k : Fin 2} {s : State} (hm : Sub
    0x1840000000000000000080000000000000000000000000000000000000000000000000000000000000000000000000000000000000000000000000000000000001004C005 M) (hs : Keeps M s0 s) :
    KeepsOut M s0 (execQoutStep dt k s) := by
  unfold execQoutStep
  extract_lets +onlyGivenNames x1
  have hx1 : Keeps M s0 x1 := by
    subst x1
    refine advance_keeps (hm.mono (by rfl)) ?_
    exact hs
  clear_value x1
  apply keepsOut_next
  apply keeps_ite
  · refine emuStep_keeps (hm.mono (by rfl)) ?_
    exact hx1
  · exact hx1

theorem execRcRead_keeps {q : Requester} {addr : Word} {s : State} (hm : Sub
    0x7FFFFFFFFFFFFFFFFFFFFFFFFFFFFFFFFFFFFFFFFFFFFFFFFFFFFFFFFFFFFFFFFFFFFFFFFFFFFFFFFFFFFFFFFFFFFFFFFFFFFFFFFFFFFFFFFFFFFFFFFFFFFFFFFFFFFFFFC0000204002A M) (hs : Keeps M s0 s) :
    KeepsOut M s0 (execRcRead q addr s) := by
  unfold execRcRead
  apply keepsOut_next
  refine readShown_keeps (hm.mono (by rfl)) ?_
  exact hs

theorem execRefreshTick_keeps {rank : Fin 16} {s : State} (hm : Sub
    0x18400000000000000000000000000000000000000000300000000000000000000000000000000000000000000000000000000000000000000000000000000000020004004 M) (hs : Keeps M s0 s) :
    KeepsOut M s0 (execRefreshTick rank s) := by
  unfold execRefreshTick
  apply keepsOut_next
  apply keeps_ite
  · refine refreshTick_keeps (hm.mono (by rfl)) ?_
    exact hs
  · exact hs

theorem execRegisterWrite_keeps {q : Requester} {addr : Word} {value : Word} {s : State} (hm : Sub
    0x7FFFFFFFFFFFFFFFFFFFFFFFFFFFFFFFFFFFFFFFFFFFFFFFFFFFFFFFFFFFFFFFFFFFFFFFFFFFFFFFFFFFFFFFFFFFFFFFFFFFFFFFFFFFFFFFFFFFFFFFFFFFFFFFFFFFFFFFCBFFFFFFFAFE M) (hs : Keeps M s0 s) :
    KeepsOut M s0 (execRegisterWrite q addr value s) := by
  unfold execRegisterWrite
  apply keepsOut_next
  refine busWrite_keeps (hm.mono (by rfl)) ?_
  exact hs

theorem execRepeatClear_keeps {s : State} (hm : Sub 0x80 M) (hs : Keeps M s0 s) :
    KeepsOut M s0 (execRepeatClear s) := by
  unfold execRepeatClear
  apply keepsOut_next
  refine clearHist_keeps (hm.mono (by rfl)) ?_
  exact hs

theorem execRollbackFuseBlown_keeps {s : State} (hm : Sub
    0x10000000000000000000000000000000000000000000000000000000000000000000000000000000000000000000000000000000000000000000000000000000000100200000002000 M) (hs : Keeps M s0 s) :
    KeepsOut M s0 (execRollbackFuseBlown s) := by
  unfold execRollbackFuseBlown
  apply keepsOut_next
  apply keeps_ite
  · refine blowFuse_keeps (hm.mono (by rfl)) ?_
    refine put_keeps (hm.at .GLB_LOAD_STATUS (by rfl)) ?_
    exact hs
  · exact hs

theorem execRollerCount_keeps {dt : Nat} {c : Fin 7} {sa : BitVec 4} {sb : BitVec 4} {s : State} (hm : Sub
    0x1840000000000000000080000000000000000000000000000000000000000000000000001100003000000000000000000000000000000000000000000000000001004C001 M) (hs : Keeps M s0 s) :
    KeepsOut M s0 (execRollerCount dt c sa sb s) := by
  unfold execRollerCount
  extract_lets +onlyGivenNames x1
  have hx1 : Keeps M s0 x1 := by
    subst x1
    refine advance_keeps (hm.mono (by rfl)) ?_
    exact hs
  clear_value x1
  apply keepsOut_ite
  · apply keepsOut_next
    exact hx1
  · extract_lets +onlyGivenNames x2
    clear_value x2
    extract_lets +onlyGivenNames x3
    clear_value x3
    extract_lets +onlyGivenNames x4
    clear_value x4
    extract_lets +onlyGivenNames x5
    clear_value x5
    apply keepsOut_ite
    · split
      · apply keepsOut_next
        exact hx1
      · apply keepsOut_next
        refine rollerCheck_keeps (hm.mono (by rfl)) ?_
        refine noteIllegal_keeps (hm.mono (by rfl)) ?_
        exact hx1
      · extract_lets +onlyGivenNames x6
        clear_value x6
        extract_lets +onlyGivenNames x7
        clear_value x7
        extract_lets +onlyGivenNames x8
        have hx8 : Keeps M s0 x8 := by
          subst x8
          refine setEnch_keeps (hm.mono (by rfl)) ?_
          exact hx1
        clear_value x8
        apply keepsOut_next
        refine put_keeps (hm.at .POS_ROLL (by rfl)) ?_
        exact hx8
    · apply keepsOut_next
      refine setEnch_keeps (hm.mono (by rfl)) ?_
      exact hx1

theorem execRollerFlagClean_keeps {dt : Nat} {c : Fin 7} {s : State} (hm : Sub
    0x1840000000000000000080000000000000000000000000000000000000000000000000000100001000000000000000000000000000000000000000000000000001004C001 M) (hs : Keeps M s0 s) :
    KeepsOut M s0 (execRollerFlagClean dt c s) := by
  unfold execRollerFlagClean
  extract_lets +onlyGivenNames x1
  have hx1 : Keeps M s0 x1 := by
    subst x1
    refine advance_keeps (hm.mono (by rfl)) ?_
    exact hs
  clear_value x1
  apply keepsOut_ite
  · apply keepsOut_next
    exact hx1
  · extract_lets +onlyGivenNames x2
    clear_value x2
    apply keepsOut_ite
    · extract_lets +onlyGivenNames x3
      clear_value x3
      apply keepsOut_next
      refine rollerClear_keeps (hm.mono (by rfl)) ?_
      refine setEnch_keeps (hm.mono (by rfl)) ?_
      exact hx1
    · apply keepsOut_next
      exact hx1

theorem execRollerIndexTimeout_keeps {dt : Nat} {c : Fin 7} {s : State} (hm : Sub
    0x1840000000000000000080000000000000000000000000000000000000000000000000000100003000000000000000000000000000000000000000000000000001004C001 M) (hs : Keeps M s0 s) :
    KeepsOut M s0 (execRollerIndexTimeout dt c s) := by
  unfold execRollerIndexTimeout
  extract_lets +onlyGivenNames x1
  have hx1 : Keeps M s0 x1 := by
    subst x1
    refine advance_keeps (hm.mono (by rfl)) ?_
    exact hs
  clear_value x1
  apply keepsOut_ite
  · apply keepsOut_next
    exact hx1
  · extract_lets +onlyGivenNames x2
    clear_value x2
    apply keepsOut_ite
    · extract_lets +onlyGivenNames x3
      clear_value x3
      apply keepsOut_next
      refine rollerCheck_keeps (hm.mono (by rfl)) ?_
      refine setEnch_keeps (hm.mono (by rfl)) ?_
      exact hx1
    · apply keepsOut_next
      exact hx1

theorem execRollerZEdge_keeps {dt : Nat} {c : Fin 7} {sz : BitVec 4} {s : State} (hm : Sub
    0x1840000000000000000080000000000000000000000000000000000000000000000000020100001000000000000000000000000000000000000000000000000001004C001 M) (hs : Keeps M s0 s) :
    KeepsOut M s0 (execRollerZEdge dt c sz s) := by
  unfold execRollerZEdge
  extract_lets +onlyGivenNames x1
  have hx1 : Keeps M s0 x1 := by
    subst x1
    refine advance_keeps (hm.mono (by rfl)) ?_
    exact hs
  clear_value x1
  apply keepsOut_ite
  · apply keepsOut_next
    exact hx1
  · extract_lets +onlyGivenNames x2
    clear_value x2
    extract_lets +onlyGivenNames x3
    clear_value x3
    extract_lets +onlyGivenNames x4
    have hx4 : Keeps M s0 x4 := by
      subst x4
      refine takeZ_keeps (hm.mono (by rfl)) ?_
      exact hx1
    clear_value x4
    apply keepsOut_ite
    · extract_lets +onlyGivenNames x5
      clear_value x5
      extract_lets +onlyGivenNames x6
      clear_value x6
      extract_lets +onlyGivenNames x7
      have hx7 : Keeps M s0 x7 := by
        subst x7
        refine setEnch_keeps (hm.mono (by rfl)) ?_
        exact hx4
      clear_value x7
      extract_lets +onlyGivenNames x8
      have hx8 : Keeps M s0 x8 := by
        subst x8
        refine put_keeps (hm.at .POS_ROLL (by rfl)) ?_
        refine put_keeps (hm.at .POS_ROLL (by rfl)) ?_
        exact hx7
      clear_value x8
      extract_lets +onlyGivenNames x9
      have hx9 : Keeps M s0 x9 := by
        subst x9
        apply keeps_ite
        · refine count_keeps (hm.at .POS_ZSLIP_CNT (by rfl)) ?_
          exact hx8
        · exact hx8
      clear_value x9
      apply keepsOut_next
      refine rollerClear_keeps (hm.mono (by rfl)) ?_
      exact hx9
    · apply keepsOut_next
      exact hx4

theorem execRunLabel_keeps {s : State} (hm : Sub
    0x184000000800100000000000000038002000000000000000000000000000000000000000000000000038D566803F86C4000000000000000000000000000000200063A4210 M) (hs : Keeps M s0 s) :
    KeepsOut M s0 (execRunLabel s) := by
  unfold execRunLabel
  split
  · apply keepsOut_next
    exact hs
  · apply keepsOut_next
    exact hs
  · apply keepsOut_next
    refine takeFront_keeps (hm.mono (by rfl)) ?_
    exact hs

theorem execSeamEstimateDone_keeps {k : Fin 32} {s : State} (hm : Sub
    0x1840000008001000000000000000380020000000000000000000000000000000000000000000000000562800800000005DF86020000000000000000000000000006585200 M) (hs : Keeps M s0 s) :
    KeepsOut M s0 (execSeamEstimateDone k s) := by
  unfold execSeamEstimateDone
  apply keepsOut_next
  refine seamEstimate_keeps (hm.mono (by rfl)) ?_
  exact hs

theorem execSensorRecovered_keeps {i : Fin 24} {s : State} (hm : Sub
    0xA000000000000000000000000000000000000000000000000000000000000000000000000000000000000000000000000000000000000000000000000000000000000000000 M) (hs : Keeps M s0 s) :
    KeepsOut M s0 (execSensorRecovered i s) := by
  unfold execSensorRecovered
  apply keepsOut_next
  refine recoverSensor_keeps (hm.mono (by rfl)) ?_
  exact hs

theorem execSlotWriteDone_keeps {micros : Nat} {s : State} (hm : Sub
    0x7FFFFFFFFFFFFFFFFFFFFFFFFFFFFFFFFFFFFFFFFFFFFFFFFFFFFFFFFFFFFFFFFFFFFFFFFFFFFFFFFFFFFFFFFFFFFFFFFFFFFFFFFFFFFFFFFFFFFFFFFFFFFFFFFFFFFFFFCFFFFFFFFAFC M) (hs : Keeps M s0 s) :
    KeepsOut M s0 (execSlotWriteDone micros s) := by
  unfold execSlotWriteDone
  apply keepsOut_ite
  · extract_lets +onlyGivenNames x1
    have hx1 : Keeps M s0 x1 := by
      subst x1
      refine writeDone_keeps (hm.mono (by rfl)) ?_
      exact hs
    clear_value x1
    apply keepsOut_next
    apply keeps_ite
    · refine curtainDone_keeps (hm.mono (by rfl)) ?_
      exact hx1
    · exact hx1
  · apply keepsOut_next
    exact hs

theorem execSpeedStop_keeps {dt : Nat} {s : State} (hm : Sub
    0x184000000800100000008000000038002000000000000000000000000000000000000000000000A00000000000000000000000000000000000000000000020002103CD201 M) (hs : Keeps M s0 s) :
    KeepsOut M s0 (execSpeedStop dt s) := by
  unfold execSpeedStop
  extract_lets +onlyGivenNames x1
  have hx1 : Keeps M s0 x1 := by
    subst x1
    refine advance_keeps (hm.mono (by rfl)) ?_
    exact hs
  clear_value x1
  apply keepsOut_ite
  · apply keepsOut_next
    exact hx1
  · apply keepsOut_ite
    · apply keepsOut_next
      exact hx1
    · extract_lets +onlyGivenNames x2
      have hx2 : Keeps M s0 x2 := by
        subst x2
        refine put_keeps (hm.at .POS_SPEED (by rfl)) ?_
        refine put_keeps (hm.at .POS_SPEED (by rfl)) ?_
        refine put_keeps (hm.at .POS_SPEED (by rfl)) ?_
        exact hx1
      clear_value x2
      extract_lets +onlyGivenNames x3
      clear_value x3
      extract_lets +onlyGivenNames x4
      have hx4 : Keeps M s0 x4 := by
        subst x4
        refine upd_pos_keeps (hm.mono (by rfl)) ?_
        exact hx2
      clear_value x4
      extract_lets +onlyGivenNames x5
      have hx5 : Keeps M s0 x5 := by
        subst x5
        refine raise_keeps (hm.mono (by rfl)) (hm.at .POS_EVENT (by rfl)) ?_
        exact hx4
      clear_value x5
      extract_lets +onlyGivenNames x6
      have hx6 : Keeps M s0 x6 := by
        subst x6
        refine closeLineGaps_keeps (hm.mono (by rfl)) ?_
        exact hx5
      clear_value x6
      apply keepsOut_next
      apply keeps_ite
      · refine holdEntry_keeps (hm.mono (by rfl)) ?_
        exact hx6
      · exact hx6

theorem execStripBoundary_keeps {stage : Stage} {h : Fin 32} {line : LineNo} {s : State} (hm : Sub
    0x7FFFFFFFFFFFFFFFFFFFFFFFFFFFFFFFFFFFFFFFFFFFFFFFFFFFFFFFFFFFFFFFFFFFFFFFFFFFFFFFFFFFFFFFFFFFFFFFFFFFFFFFFFFFFFFFFFFFFFFFFFFFFFFFFFFFFFFFCBFFFFFFFAFE M) (hs : Keeps M s0 s) :
    KeepsOut M s0 (execStripBoundary stage h line s) := by
  unfold execStripBoundary
  apply keepsOut_next
  apply keeps_ite
  · refine memRespond_keeps (hm.mono (by rfl)) ?_
    refine stageBoundary_keeps (hm.mono (by rfl)) ?_
    exact hs
  · exact hs

theorem execSupplyRestored_keeps {mv : Nat} {held : Nat} {s : State} (hm : Sub
    0x7FFFFFFFFFFFFFFFFFFFFFFFFFFFFFFFFFFFFFFFFFFFFFFFFFFFFFFFFFFFFFFFFFFFFFFFFFFFFFFFFFFFFFFFFFFFFFFFFFFFFFFFFFFFFFFFFFFFFFFFFFFFFFFFFFFFFFFFCBFFFFFFFAFC M) (hs : Keeps M s0 s) :
    KeepsOut M s0 (execSupplyRestored mv held s) := by
  unfold execSupplyRestored
  apply keepsOut_ite
  · extract_lets +onlyGivenNames x1
    subst x1
    extract_lets +onlyGivenNames x2
    have hx2 : Keeps M s0 x2 := by
      subst x2
      refine upd_pwr_keeps (hm.mono (by rfl)) (.inr rfl) (.inr rfl) (.inr rfl) (.inr rfl) ?_
      exact hs
    clear_value x2
    apply keepsOut_ite
    · apply keepsOut_next
      refine loadStart_keeps (hm.mono (by rfl)) ?_
      exact hx2
    · apply keepsOut_ite
      · extract_lets +onlyGivenNames x3
        subst x3
        extract_lets +onlyGivenNames x4
        have hx4 : Keeps M s0 x4 := by
          subst x4
          refine upd_pwr_keeps (hm.mono (by rfl)) (.inr rfl) (.inr rfl) (.inr rfl) (.inr rfl) ?_
          exact hx2
        clear_value x4
        apply keepsOut_next
        apply keeps_ite
        · refine loadStart_keeps (hm.mono (by rfl)) ?_
          exact hx4
        · exact hx4
      · apply keepsOut_next
        exact hx2
  · apply keepsOut_next
    exact hs

theorem execTemperatureStale_keeps {p : Fin 16} {s : State} (hm : Sub 0x10000000000000000000 M) (hs : Keeps M s0 s) :
    KeepsOut M s0 (execTemperatureStale p s) := by
  unfold execTemperatureStale
  apply keepsOut_next
  refine put_keeps (hm.at .CAM_TEMP (by rfl)) ?_
  refine put_keeps (hm.at .CAM_TEMP (by rfl)) ?_
  exact hs

theorem execThermalDarkExit_keeps {s : State} (hm : Sub
    0x7FFFFFFFFFFFFFFFFFFFFFFFFFFFFFFFFFFFFFFFFFFFFFFFFFFFFFFFFFFFFFFFFFFFFFFFFFFFFFFFFFFFFFFFFFFFFFFFFFFFFFFFFFFFFFFFFFFFFFFFFFFFFFFFFFFFFFFFCBFFFFFFFAFC M) (hs : Keeps M s0 s) :
    KeepsOut M s0 (execThermalDarkExit s) := by
  unfold execThermalDarkExit
  apply keepsOut_next
  apply keeps_ite
  · refine loadStart_keeps (hm.mono (by rfl)) ?_
    exact hs
  · exact hs

theorem execThmFastRound_keeps {dt : Nat} {codes : List (BitVec 16)} {s : State} (hm : Sub
    0x7FFFFFFFFFFFFFFFFFFFFFFFFFFFFFFFFFFFFFFFFFFFFFFFFFFFFFFFFFFFFFFFFFFFFFFFFFFFFFFFFFFFFFFFFFFFFFFFFFFFFFFFFFFFFFFFFFFFFFFFFFFFFFFFFFFFFFFFCFFFFFFFFAFD M) (hs : Keeps M s0 s) :
    KeepsOut M s0 (execThmFastRound dt codes s) := by
  unfold execThmFastRound
  extract_lets +onlyGivenNames x1
  have hx1 : Keeps M s0 x1 := by
    subst x1
    refine advance_keeps (hm.mono (by rfl)) ?_
    exact hs
  clear_value x1
  apply keepsOut_next
  apply keeps_ite
  · extract_lets +onlyGivenNames x2
    clear_value x2
    extract_lets +onlyGivenNames x3
    have hx3 : Keeps M s0 x3 := by
      subst x3
      refine upd_thm_keeps (hm.mono (by rfl)) ?_
      exact hx1
    clear_value x3
    refine afterRound_keeps (hm.mono (by rfl)) ?_
    refine sampleRound_keeps (hm.mono (by rfl)) ?_
    exact hx3
  · exact hx1

theorem execThmSlowRound_keeps {dt : Nat} {codes : List (BitVec 16)} {rails : List Nat} {boards : List (Option (BitVec
    16))} {s : State} (hm : Sub
    0x7FFFFFFFFFFFFFFFFFFFFFFFFFFFFFFFFFFFFFFFFFFFFFFFFFFFFFFFFFFFFFFFFFFFFFFFFFFFFFFFFFFFFFFFFFFFFFFFFFFFFFFFFFFFFFFFFFFFFFFFFFFFFFFFFFFFFFFFCFFFFFFFFAFD M) (hs : Keeps M s0 s) :
    KeepsOut M s0 (execThmSlowRound dt codes rails boards s) := by
  unfold execThmSlowRound
  extract_lets +onlyGivenNames x1
  have hx1 : Keeps M s0 x1 := by
    subst x1
    refine advance_keeps (hm.mono (by rfl)) ?_
    exact hs
  clear_value x1
  apply keepsOut_ite
  · extract_lets +onlyGivenNames x2
    clear_value x2
    extract_lets +onlyGivenNames x3
    have hx3 : Keeps M s0 x3 := by
      subst x3
      refine upd_thm_keeps (hm.mono (by rfl)) ?_
      exact hx1
    clear_value x3
    extract_lets +onlyGivenNames x4
    clear_value x4
    extract_lets +onlyGivenNames x5
    have hx5 : Keeps M s0 x5 := by
      subst x5
      refine sampleRound_keeps (hm.mono (by rfl)) ?_
      exact hx3
    clear_value x5
    extract_lets +onlyGivenNames x6
    have hx6 : Keeps M s0 x6 := by
      subst x6
      apply keeps_forBelow
      · intro x7 t8 h9
        refine learnLofs_keeps (hm.mono (by rfl)) ?_
        exact h9
      · exact hx5
    clear_value x6
    apply keepsOut_next
    refine afterRound_keeps (hm.mono (by rfl)) ?_
    refine boardRound_keeps (hm.mono (by rfl)) ?_
    refine railRound_keeps (hm.mono (by rfl)) ?_
    exact hx6
  · apply keepsOut_next
    exact hx1

theorem execThrottleLevelStep_keeps {dt : Nat} {s : State} (hm : Sub
    0x2008141840000000000000000080000000000000000000000000000000000000000000000000000000000000000000000000000000000000000000000000000000002000007C001 M) (hs : Keeps M s0 s) :
    KeepsOut M s0 (execThrottleLevelStep dt s) := by
  unfold execThrottleLevelStep
  extract_lets +onlyGivenNames x1
  have hx1 : Keeps M s0 x1 := by
    subst x1
    refine advance_keeps (hm.mono (by rfl)) ?_
    exact hs
  clear_value x1
  extract_lets +onlyGivenNames x2
  clear_value x2
  apply keepsOut_next
  apply keeps_ite
  · exact hx1
  · apply keeps_ite
    · refine setThrottle_keeps (hm.mono (by rfl)) ?_
      exact hx1
    · refine setThrottle_keeps (hm.mono (by rfl)) ?_
      exact hx1

theorem execTimeDreqRx_keeps {f : Fin 6} {seq : BitVec 6} {x2 : BitVec 48} {s : State} (hm : Sub 0x4 M) (hs : Keeps M s0 s)
    :
    KeepsOut M s0 (execTimeDreqRx f seq x2 s) := by
  unfold execTimeDreqRx
  apply keepsOut_next
  refine dreqRx_keeps (hm.mono (by rfl)) ?_
  exact hs

theorem execTimeDrespRx_keeps {f : Fin 6} {seq : BitVec 6} {t : BitVec 48} {s : State} (hm : Sub
    0x18400000000000410000800000000000000000000000000000000000000000000000000000000000000000000000000000000000000000000000000000000000000044000 M) (hs : Keeps M s0 s) :
    KeepsOut M s0 (execTimeDrespRx f seq t s) := by
  unfold execTimeDrespRx
  apply keepsOut_next
  refine drespRx_keeps (hm.mono (by rfl)) ?_
  exact hs

theorem execTimeSyncRx_keeps {f : Fin 6} {seq : BitVec 6} {t : BitVec 48} {s : State} (hm : Sub 0x100004 M) (hs : Keeps M
    s0 s) :
    KeepsOut M s0 (execTimeSyncRx f seq t s) := by
  unfold execTimeSyncRx
  apply keepsOut_next
  refine syncRx_keeps (hm.mono (by rfl)) ?_
  exact hs

theorem execTrainingPeriod_keeps {s : State} (hm : Sub
    0x2000400000000000000000000000000000000000000000000000000000000000000000000000000000000020000000 M) (hs : Keeps M s0 s)
    :
    KeepsOut M s0 (execTrainingPeriod s) := by
  unfold execTrainingPeriod
  apply keepsOut_next
  apply keeps_ite
  · refine trainNext_keeps (hm.mono (by rfl)) ?_
    exact hs
  · exact hs

theorem execTrainingSliceForce_keeps {last : Bool} {s : State} (hm : Sub
    0x2000400000000000000000000000000000000000000000000000000000000000000000000000000000000020000004 M) (hs : Keeps M s0 s)
    :
    KeepsOut M s0 (execTrainingSliceForce last s) := by
  unfold execTrainingSliceForce
  apply keepsOut_next
  apply keeps_ite
  · refine trainSlice_keeps (hm.mono (by rfl)) ?_
    exact hs
  · exact hs

theorem execTrainingStepFail_keeps {fsp : Fin 2} {rank : Fin 17} {step : Fin 16} {s : State} (hm : Sub
    0x18400000000000000000000000000000000000000002000C00000000000000000000000000000000000000000000000000000000000000000000000000102000020005000 M) (hs : Keeps M s0 s) :
    KeepsOut M s0 (execTrainingStepFail fsp rank step s) := by
  unfold execTrainingStepFail
  apply keepsOut_next
  apply keeps_ite
  · refine trainFail_keeps (hm.mono (by rfl)) ?_
    refine trainTurn_keeps (hm.mono (by rfl)) ?_
    exact hs
  · exact hs

theorem execVkeepBelowTrip_keeps {mv : Nat} {held : Nat} {s : State} (hm : Sub
    0x7FFFFFFFFFFFFFFFFFFFFFFFFFFFFFFFFFFFFFFFFFFFFFFFFFFFFFFFFFFFFFFFFFFFFFFFFFFFFFFFFFFFFFFFFFFFFFFFFFFFFFFFFFFFFFFFFFFFFFFFFFFFFFFFFFFFFFFFCFFFFFFFFAFC M) (hs : Keeps M s0 s) :
    KeepsOut M s0 (execVkeepBelowTrip mv held s) := by
  unfold execVkeepBelowTrip
  extract_lets +onlyGivenNames x1
  subst x1
  extract_lets +onlyGivenNames x2
  have hx2 : Keeps M s0 x2 := by
    subst x2
    refine upd_pwr_keeps (hm.mono (by rfl)) (.inr rfl) (.inr rfl) (.inr rfl) (.inr rfl) ?_
    exact hs
  clear_value x2
  apply keepsOut_next
  apply keeps_ite
  · refine curtainStart_keeps (hm.mono (by rfl)) ?_
    exact hx2
  · exact hx2

theorem execWireFault_keeps {c : Fin 8} {pair : Fin 3} {s : State} (hm : Sub
    0x200000184000000800100000000000000038002000000000000000000000000000000000000000610000300000000000000000000000000000000000000000000000200101A4200 M) (hs : Keeps M s0 s) :
    KeepsOut M s0 (execWireFault c pair s) := by
  unfold execWireFault
  apply keepsOut_ite
  · apply keepsOut_next
    exact hs
  · extract_lets +onlyGivenNames x1
    clear_value x1
    apply keepsOut_ite
    · extract_lets +onlyGivenNames x2
      have hx2 : Keeps M s0 x2 := by
        subst x2
        refine setEnch_keeps (hm.mono (by rfl)) ?_
        exact hs
      clear_value x2
      extract_lets +onlyGivenNames x3
      have hx3 : Keeps M s0 x3 := by
        subst x3
        refine put_keeps (hm.at .POS_STATUS (by rfl)) ?_
        exact hx2
      clear_value x3
      extract_lets +onlyGivenNames x4
      have hx4 : Keeps M s0 x4 := by
        subst x4
        refine count_keeps (hm.at .POS_WIRE_CNT (by rfl)) ?_
        refine raise_keeps (hm.mono (by rfl)) (hm.at .POS_EVENT (by rfl)) ?_
        exact hx3
      clear_value x4
      apply keepsOut_next
      apply keeps_ite
      · refine encFaultEntry_keeps (hm.mono (by rfl)) ?_
        exact hx4
      · refine rollerCheck_keeps (hm.mono (by rfl)) ?_
        exact hx4
    · apply keepsOut_next
      exact hs

theorem execWireFaultEnd_keeps {c : Fin 8} {pair : Fin 3} {s : State} (hm : Sub
    0x10000000000000000000000000000000000000000000000000010000000 M) (hs : Keeps M s0 s) :
    KeepsOut M s0 (execWireFaultEnd c pair s) := by
  unfold execWireFaultEnd
  apply keepsOut_ite
  · apply keepsOut_next
    exact hs
  · extract_lets +onlyGivenNames x1
    clear_value x1
    apply keepsOut_ite
    · extract_lets +onlyGivenNames x2
      clear_value x2
      extract_lets +onlyGivenNames x3
      have hx3 : Keeps M s0 x3 := by
        subst x3
        refine setEnch_keeps (hm.mono (by rfl)) ?_
        exact hs
      clear_value x3
      apply keepsOut_next
      apply keeps_ite
      · refine put_keeps (hm.at .POS_STATUS (by rfl)) ?_
        exact hx3
      · exact hx3
    · apply keepsOut_next
      exact hs

theorem execWriteCrcAlert_keeps {sc : Fin 8} {s : State} (hm : Sub
    0x7FFFFFFFFFFFFFFFFFFFFFFFFFFFFFFFFFFFFFFFFFFFFFFFFFFFFFFFFFFFFFFFFFFFFFFFFFFFFFFFFFFFFFFFFFFFFFFFFFFFFFFFFFFFFFFFFFFFFFFFFFFFFFFFFFFFFFFFCBFFFFFFFAFE M) (hs : Keeps M s0 s) :
    KeepsOut M s0 (execWriteCrcAlert sc s) := by
  unfold execWriteCrcAlert
  split
  · apply keepsOut_next
    exact hs
  · apply keepsOut_next
    refine memRespond_keeps (hm.mono (by rfl)) ?_
    refine crcAlert_keeps (hm.mono (by rfl)) ?_
    exact hs

theorem execXdevStreamTimeout_keeps {dt : Nat} {s : State} (hm : Sub
    0x184000000800100000008000000038002000000000000000000000000000000000000000000000000056280080000000404060200000000000000000000000000061CC201 M) (hs : Keeps M s0 s) :
    KeepsOut M s0 (execXdevStreamTimeout dt s) := by
  unfold execXdevStreamTimeout
  extract_lets +onlyGivenNames x1
  have hx1 : Keeps M s0 x1 := by
    subst x1
    refine advance_keeps (hm.mono (by rfl)) ?_
    exact hs
  clear_value x1
  apply keepsOut_next
  apply keeps_ite
  · refine seam31Lost_keeps (hm.mono (by rfl)) ?_
    exact hx1
  · exact hx1

end Sys2Proof.Machine
end

