-- ==== Sys2Proof/Laws/Reset.lean ====
section
/-! SUPPORT. Laws/Reset.lean: what the registers read after the blocks have been reset. -/

namespace Sys2Proof.Machine

variable {s : State}

/-- A filtered table reads the same under the keys that stay. -/
theorem spGet_filter_in {α : Type} (d : α) (p : Nat → Bool) {a : Nat} (ha : p a = true) :
    ∀ {m : List (Nat × α)} {b : Option Nat}, spAbove b m = true → spGet d (m.filter (fun e => p e.1)) a = spGet d m a
  | [], _, _ => rfl
  | (k, v) :: r, b, h => by
    have ht := spAbove_tail h
    cases hk : p k with
    | true =>
      simp only [List.filter, hk, spGet]
      rw [spGet_filter_in d p ha ht]
    | false =>
      have hne : a ≠ k := fun e => by rw [e, hk] at ha; exact Bool.noConfusion ha
      simp only [List.filter, hk, spGet, if_neg hne]
      split
      · rw [spGet_filter_in d p ha ht]
        exact spGet_of_above d ht (by omega)
      · exact spGet_filter_in d p ha ht

/-- A filtered table reads nothing under the keys that go. -/
theorem spGet_filter_out {α : Type} (d : α) (p : Nat → Bool) {a : Nat} (ha : p a = false) :
    ∀ {m : List (Nat × α)}, spGet d (m.filter (fun e => p e.1)) a = d
  | [] => rfl
  | (k, v) :: r => by
    cases hk : p k with
    | true =>
      have hne : a ≠ k := fun e => by rw [e, hk] at ha; exact Bool.noConfusion ha
      simp only [List.filter, hk, spGet, if_neg hne]
      split
      · rfl
      · exact spGet_filter_out d p ha
    | false =>
      simp only [List.filter, hk]
      exact spGet_filter_out d p ha

/-- What each round of a loop leaves as it was, the loop leaves as it was. -/
theorem forBelow_same {β : Type} (g : State → β) {n : Nat} {f : Nat → State → State} (h : ∀ i t, g (f i t) = g t) :
    g (forBelow n f s) = g s := by
  unfold forBelow
  generalize List.range n = l
  induction l generalizing s with
  | nil => rfl
  | cons i r ih => exact ih.trans (h i s)

/-- Quieting a marking port touches no register and not the keep domain, and the lists stay canonical. -/
theorem mrkQuiet_same (m : Nat) (t : State) :
    ((t.mrkQuiet m).regs, (t.mrkQuiet m).pwr, (t.mrkQuiet m).canonical) = (t.regs, t.pwr, t.canonical) := by
  unfold State.mrkQuiet
  dsimp only
  split <;> rfl

/-- What the blocks' reset writes after it has cleared the registers. -/
def resetShowMask : Nat :=
  0xC8000000000000000000000000000000000000000000000000000000000000000000000000000000000000000000000000000000000000000000000000000000000000000000000 |||
    0x4000 ||| (1 <<< Reg.THM_TS.part)

/-- The blocks' reset is its register filter, the other parts' reset values, and what it shows of the keep domain. -/
theorem blocksReset_keeps_filtered (heat power : Bool) (hc : s.canonical = true) :
    ∃ t : State, t.canonical = true ∧ t.regs = s.regs.filter (fun e => keptKey heat e.1) ∧
      t.glb = { State.reset.glb with powered := power } ∧ t.pwr = { s.pwr with groups := [], ckptAt := 0, healthAt := 0 } ∧
      Keeps resetShowMask t (s.blocksReset heat power) := by
  generalize hu : s.blocksReset heat power = u
  unfold State.blocksReset at hu
  extract_lets +onlyGivenNames q r0 g1 g2 g3 g4 t t' at hu
  subst hu
  have hq : (q.regs, q.pwr, q.canonical) = (s.regs, s.pwr, s.canonical) :=
    forBelow_same (fun t => (t.regs, t.pwr, t.canonical)) mrkQuiet_same
  clear_value q
  injection hq with hr hq
  injection hq with hp hq
  rw [← hq] at hc
  have hm : Sub resetShowMask resetShowMask := Sub.rfl _
  refine ⟨t, ?_, congrArg (List.filter _) hr, rfl,
    congrArg (fun p : Pwr => { p with groups := [], ckptAt := 0, healthAt := 0 }) hp, ?_⟩
  · obtain ⟨h1, h2, h3, h4, h5, h6, h7, h8⟩ := State.canonical_iff.1 hc
    exact State.canonical_iff.2 ⟨spAbove_filter _ h1, rfl, rfl, rfl, rfl, h6, h7, rfl⟩
  · refine showKeep_keeps (hm.mono (by rfl)) ?_
    refine cellsInit_keeps (hm.mono (by rfl)) ?_
    apply keeps_ite
    · exact Keeps.rfl _ t
    · exact keeps_forBelow (fun _ _ h => put_keeps (hm.at .THM_TS (by rfl)) h) (Keeps.rfl _ t)

/-- A register outside the keep domain reads its reset value after the blocks' reset. -/
theorem blocksReset_rd_reset (heat power : Bool) (r : Reg) (i : Nat) (hr : resetShowMask.testBit r.part = false)
    (hk : keptKey heat (r.key i) = false) (hc : s.canonical = true) :
    (s.blocksReset heat power).rd r i = r.resetWord i := by
  obtain ⟨t, ht, h1, _, _, h⟩ := blocksReset_keeps_filtered heat power hc
  rw [h.rd ht r i hr]
  unfold State.rd
  rw [h1]
  exact spGet_filter_out _ _ hk

/-- A register of the keep domain reads as before after the blocks' reset. -/
theorem blocksReset_rd_kept (heat power : Bool) (r : Reg) (i : Nat) (hr : resetShowMask.testBit r.part = false)
    (hk : keptKey heat (r.key i) = true) (hc : s.canonical = true) : (s.blocksReset heat power).rd r i = s.rd r i := by
  obtain ⟨t, ht, h1, _, _, h⟩ := blocksReset_keeps_filtered heat power hc
  rw [h.rd ht r i hr]
  unfold State.rd
  rw [h1]
  exact spGet_filter_in _ _ hk (State.canonical_iff.1 hc).1

/-- The mode-control records after the blocks' reset. -/
theorem blocksReset_glb (heat power : Bool) (hc : s.canonical = true) :
    (s.blocksReset heat power).glb = { State.reset.glb with powered := power } := by
  obtain ⟨t, ht, _, h1, _, h⟩ := blocksReset_keeps_filtered heat power hc
  rw [← h1]
  exact h.parts ht .glb rfl

/-- The keep domain after the blocks' reset. -/
theorem blocksReset_pwr (heat power : Bool) (hc : s.canonical = true) :
    (s.blocksReset heat power).pwr = { s.pwr with groups := [], ckptAt := 0, healthAt := 0 } := by
  obtain ⟨t, ht, _, _, h1, h⟩ := blocksReset_keeps_filtered heat power hc
  rw [← h1]
  exact h.parts ht .pwr rfl

end Sys2Proof.Machine
end

