-- ==== Sys2Proof/WellFormed.lean ====
section
/-! DEFINITION. WellFormed.lean: the commands that the wires and fields of the spec can carry. The operands' types bound
most of them; what is left is checked here. -/

namespace Sys2Proof

/-- R489: a section's data has the length its entry gives, and KIND and the offsets fit their fields. -/
def Section.wf (x : Section) : Bool :=
  decide (x.data.length = x.len) && decide (x.kind < 256) && decide (x.offset < 2 ^ 32) && decide (x.len < 2 ^ 32)

/-- R488, R491: the playbill has 32 words, the modulus 512 bytes, and there are at most 65,535 sections (NSEC). -/
def ImageRead.wf (x : ImageRead) : Bool :=
  decide (x.playbill.length = 32) && decide (x.modulus.length = 512) && decide (x.exponent < 2 ^ 64) &&
    decide (x.sections.length < 65536) && x.sections.all Section.wf

/-- R447, R448: a packet's header fields fit SOP: VC 0 to 7, PTYPE 0 to 15, LEN 0 to 127. -/
def Packet.wf (x : Packet) : Bool :=
  decide (x.vc < 8) && decide (x.ptype < 16) && decide (x.words.length < 128)

/-- R434: nanoseconds of a PTP timestamp lie within 64 bits; the correction within those of correctionField. -/
def PtpMsg.wf (x : PtpMsg) : Bool := decide (-(2 : Int) ^ 63 ≤ x.corr) && decide (x.corr < (2 : Int) ^ 63)

/-- The operands of a command lie in the ranges that the spec's fields admit. -/
def Instr.wellFormed (i : Instr) : Bool :=
  match i with
  | .imagePass1Done img => img.wf
  | .supplyRestored mv _ => decide (mv < 65536)
  | .vkeepBelowTrip mv _ => decide (mv < 65536)
  | .thmFastRound _ codes => decide (codes.length ≤ 24)
  | .thmSlowRound _ codes rails boards =>
    decide (codes.length ≤ 24) && decide (rails.length ≤ 9) && rails.all (fun v => decide (v < 65536)) &&
      decide (boards.length ≤ 8)
  | .alignBlock _ seq _ => decide (seq < 65536)
  | .descBlock _ idx payload => decide (idx < 256) && decide (payload < 2 ^ 48)
  | .lineFrame _ _ mrow sid _ _ data bits _ =>
    decide (mrow < 2) && decide (sid < 256) && decide (bits < 256) && decide (data.length ≤ 4096)
  | .cameraErrBlock _ code j _ => decide (code < 256) && decide (j < 2)
  | .patrolScrub _ line _ => decide (line < 2 ^ 27)
  | .memBandPoll bands => decide (bands.length ≤ 16)
  | .migrationPageCopy ue => decide (ue.length ≤ 64)
  | .laneAcqDone _ _ _ dfe => decide (dfe.length = 10)
  | .fabPacketRx _ pkt _ _ => pkt.wf
  | .hostFrameRx _ bytes _ _ => decide (bytes.length < 65536)
  | .ptpSync m => m.wf
  | .ptpFollowUp m => m.wf
  | .ptpDelayResp m => m.wf
  | .ptpPdelayReq m => m.wf
  | _ => true

end Sys2Proof
end

