-- ==== Sys2Proof/Tests/Slice0.lean ====
section
/-! SUPPORT. Tests/Slice0.lean: what WellFormed refuses, one step at a time, and states that meet the hypotheses of the
statements. -/

namespace Sys2Proof.Tests

open Sys2Proof Sys2Proof.Machine

set_option maxRecDepth 20000
set_option Elab.async false
set_option linter.unusedVariables false

/-! ### WellFormed refuses -/

/-- A section whose data matches its length (R489). -/
def section0 : Section := ⟨0, 4, 0, 1, true, 0, [0], 0⟩

/-- An image with one section (R488). -/
def image0 : ImageRead := ⟨List.replicate 32 0, List.replicate 512 0, 65537, true, [section0], 0, 0, true⟩

theorem test_image_accepted : (Instr.imagePass1Done image0).wellFormed = true := by decide +kernel
theorem test_section_data_refused : ({ section0 with data := [] } : Section).wf = false := by decide
theorem test_section_kind_refused : ({ section0 with kind := 256 } : Section).wf = false := by decide
theorem test_section_offset_refused : ({ section0 with offset := 2 ^ 32 } : Section).wf = false := by decide +kernel
theorem test_section_len_refused : ({ section0 with len := 2 ^ 32 } : Section).wf = false := by decide +kernel
theorem test_playbill_refused : ({ image0 with playbill := [] } : ImageRead).wf = false := by decide +kernel
theorem test_modulus_refused : ({ image0 with modulus := [] } : ImageRead).wf = false := by decide +kernel
theorem test_exponent_refused : ({ image0 with exponent := 2 ^ 64 } : ImageRead).wf = false := by decide +kernel
theorem test_section_count_refused (x : ImageRead) (h : 65536 ≤ x.sections.length) : x.wf = false := by
  have : decide (x.sections.length < 65536) = false := decide_eq_false (by omega)
  simp [ImageRead.wf, this]
theorem test_sections_refused : (Instr.imagePass1Done { image0 with sections := [{ section0 with kind := 256 }] }).wellFormed =
    false := by decide +kernel
theorem test_supply_refused : (Instr.supplyRestored 65536 0).wellFormed = false := by decide +kernel
theorem test_vkeep_refused : (Instr.vkeepBelowTrip 65536 0).wellFormed = false := by decide +kernel
theorem test_fast_codes_refused : (Instr.thmFastRound 0 (List.replicate 25 0)).wellFormed = false := by decide +kernel
theorem test_slow_codes_refused : (Instr.thmSlowRound 0 (List.replicate 25 0) [] []).wellFormed = false := by decide +kernel
theorem test_slow_rails_refused : (Instr.thmSlowRound 0 [] (List.replicate 10 0) []).wellFormed = false := by decide +kernel
theorem test_slow_rail_refused : (Instr.thmSlowRound 0 [] [65536] []).wellFormed = false := by decide +kernel
theorem test_slow_boards_refused : (Instr.thmSlowRound 0 [] [] (List.replicate 9 none)).wellFormed = false := by decide +kernel
theorem test_align_seq_refused : (Instr.alignBlock 0 65536 0).wellFormed = false := by decide +kernel
theorem test_desc_idx_refused : (Instr.descBlock 0 256 0).wellFormed = false := by decide +kernel
theorem test_desc_payload_refused : (Instr.descBlock 0 0 (2 ^ 48)).wellFormed = false := by decide +kernel
theorem test_line_mrow_refused : (Instr.lineFrame 0 0 2 0 0 0 [] 0 0).wellFormed = false := by decide +kernel
theorem test_line_sid_refused : (Instr.lineFrame 0 0 0 256 0 0 [] 0 0).wellFormed = false := by decide +kernel
theorem test_line_bits_refused : (Instr.lineFrame 0 0 0 0 0 0 [] 256 0).wellFormed = false := by decide +kernel
theorem test_line_data_refused : (Instr.lineFrame 0 0 0 0 0 0 (List.replicate 4097 0) 0 0).wellFormed = false := by
  simp [Instr.wellFormed]
theorem test_err_code_refused : (Instr.cameraErrBlock 0 256 0 0).wellFormed = false := by decide +kernel
theorem test_err_head_refused : (Instr.cameraErrBlock 0 0 2 0).wellFormed = false := by decide +kernel
theorem test_scrub_line_refused : (Instr.patrolScrub 0 (2 ^ 27) .clean).wellFormed = false := by decide +kernel
theorem test_bands_refused : (Instr.memBandPoll (List.replicate 17 0)).wellFormed = false := by decide +kernel
theorem test_copy_lines_refused : (Instr.migrationPageCopy (List.replicate 65 0)).wellFormed = false := by decide +kernel
theorem test_lane_dfe_refused : (Instr.laneAcqDone 0 0 0 []).wellFormed = false := by decide +kernel
theorem test_packet_vc_refused : (⟨0, 8, 0, []⟩ : Packet).wf = false := by decide
theorem test_packet_type_refused : (⟨0, 0, 16, []⟩ : Packet).wf = false := by decide
theorem test_packet_len_refused : (⟨0, 0, 0, List.replicate 128 0⟩ : Packet).wf = false := by decide +kernel
theorem test_frame_refused (j : Fin 16) (bytes : List Byte) (h : 65536 ≤ bytes.length) :
    (Instr.hostFrameRx j bytes 0 0).wellFormed = false := decide_eq_false (by omega)
theorem test_ptp_low_refused : (⟨0, 0, 0, 0, 0, -(2 : Int) ^ 63 - 1, false, false, false, 0⟩ : PtpMsg).wf = false := by
  decide +kernel
theorem test_ptp_high_refused : (⟨0, 0, 0, 0, 0, (2 : Int) ^ 63, false, false, false, 0⟩ : PtpMsg).wf = false := by
  decide +kernel

/-! ### States for the statements

A helper builds a state from the one after reset, so that a statement's hypotheses can be met by name. -/

/-- Fields put one after another. -/
def puts (s : State) (l : List (Fld × Nat × Nat)) : State := l.foldl (fun t e => t.put e.1 e.2.1 e.2.2) s

/-- A powered device in a mode, everything else as after reset. -/
def inMode (m : Mode) : State :=
  ({ State.reset with glb := { State.reset.glb with powered := true } } : State).put F.GLB_MODE_MODE 0 m.code

/-- The same with fields put. -/
def atM (m : Mode) (l : List (Fld × Nat × Nat)) : State := puts (inMode m) l

/-- With a transition under way. -/
def withTrans (t : Transition) (s : State) : State := { s with glb := { s.glb with trans := some t } }

/-- A rehearsal at the boundary of its strip `n`. -/
def rehAt (n : Nat) : State :=
  let s := inMode .rehearse
  { s with
    glb := { s.glb with rehStrips := n }
    pos := { s.pos with nextLine := 1 } }

/-- The state that an outcome answers. -/
def out (o : Host.Outcome State Fault Refusal) : State :=
  match o with
  | .next t => t
  | _ => State.reset

/-- A device whose web moves at speed. -/
def moving (m : Mode) : State :=
  let s := (atM m [(F.POS_SPEED_VALID, 0, 1), (F.GLB_RUN_CFG_VMIN, 0, 0), (F.POS_SPD_XOVER_V_X, 0, 1000)]).setPair .POS_SCALE_L .POS_SCALE_H 0 8 (2 ^ 32)
  { s with pos := { s.pos with tp := some 100000000, lastCount := some 0 } }

/-- An image whose sections all carry OPKEY but the last, which carries CALINIT, with what the checks of R492 compare. -/
def imageOf (kinds : List Nat) : ImageRead :=
  { playbill := [0x544C525400018016, BitVec.ofNat 64 (2 ^ 32 * 8192 + 2 ^ 16 * kinds.length)] ++ List.replicate 30 0
    modulus := List.replicate 512 0
    exponent := 65537
    headZero := true
    sections := (List.range kinds.length).map (fun i =>
      let k := kinds.getD i 4
      let n := if k == 4 then 520 else 1088
      ⟨0, k, 2048 + 1088 * i, n, true, 0, List.replicate n 1, 0⟩)
    keyHash := State.reset.fuseKeyHash
    signedHash := 7
    sigOk := true }

/-- LOAD in pass 1 at a slot. -/
def pass1 (slot : Nat) : State :=
  let s := atM .load [(F.GLB_LOAD_STATUS_STEP, 0, 4)]
  { s with sec := { s.sec with slot := slot, fail0 := 10 } }

/-- LOAD in pass 2 before section `n` of an image. -/
def pass2 (kinds : List Nat) (n : Nat) : State :=
  let s := atM .load [(F.GLB_LOAD_STATUS_STEP, 0, 5)]
  { s with sec := { s.sec with img := some (imageOf kinds), nextSec := n } }

/-- The section of an image. -/
def sectionOf (kinds : List Nat) (n : Nat) : Section := (imageOf kinds).sections.getD n ⟨0, 0, 0, 0, true, 0, [], 0⟩

/-- LOAD in step 7, with the training done and address 5 held. -/
def step7 (l : List (Fld × Nat × Nat)) : State :=
  puts (inMode .load) ([(F.GLB_LOAD_STATUS_STEP, 0, 7), (F.MEM_STATUS_READY, 0, 1), (F.FAB_STATUS_ADDR, 0, 5)] ++ l)

/-- The same while the training runs. -/
def training (l : List (Fld × Nat × Nat)) : State := step7 ([(F.MEM_STATUS_READY, 0, 0), (F.MEM_STATUS_TRAINING, 0, 1)] ++ l)

/-- An image whose playbill asks for a burn of the rollback counter. -/
def burning : ImageRead :=
  { imageOf [4] with playbill := [0x544C525400018016, BitVec.ofNat 64 (2 ^ 32 * 8192 + 2 ^ 16 + 3 * 256 + 1)] ++ List.replicate 30 0 }

/-- A state that has accepted an image. -/
def withImage (img : ImageRead) (s : State) : State := { s with sec := { s.sec with img := some img } }

/-- Camera port 0 in PERFORM in a state of its own: one head of 64 pixels of 8 bits. -/
def camIn (st : Nat) : State :=
  atM .perform [(F.CAM_CTRL_EN, 0, 1), (F.CAM_STATUS_STATE, 0, st), (F.CAM_GEOM_NHEADS, 0, 1), (F.CAM_PIXELS_PIX0, 0, 64)]

/-- Change what a state keeps of camera port 0. -/
def withPort (f : CamPort → CamPort) (s : State) : State := s.setCamPort 0 (f (s.camPort 0))

/-- Lanes `l` to `l` + 3 up, locked, and deskewed. -/
def aligned (l : Nat) (s : State) : State :=
  let s := puts s ((List.range 4).flatMap (fun i => [(F.LNE_STATE_STATE, l + i, 3), (F.LNE_STATE_HDR_OK, l + i, 1)]))
  (List.range 4).foldl (fun t i => t.setLane (l + i) { t.lane (l + i) with marker := some (1, i) }) s

/-- A line of 64 pixels. -/
def raw64 (n : LineNo) : RawLine := ⟨n, 0, 0, true, 0, List.replicate 64 9, 64, false⟩

/-- Change what a state keeps of head 0 in COR. -/
def withCor (f : CorHead → CorHead) (s : State) : State := s.setCorHead 0 (f (s.corHead 0))

/-- A run that has ended, with its two acquisitions over 64 columns. -/
def ran (dark : Bool) (a b : Int) : FfRun :=
  ⟨dark, State.reset.rd .COR_FF_TOL 0, 3, .temperature, 1, 0, 0, [], [], List.replicate 64 (some a), true,
    List.replicate 64 (some b)⟩

/-- The exposure loop of port 0 with a closed strip of 256 lines of one level. -/
def loopAt (echo : List Nat) : State :=
  let s := puts (camIn 4) [(F.COR_EXP_CFG_EN, 0, 1), (F.COR_EXP_CFG_TARGET, 0, 40000), (F.COR_EXP_STEP_K, 0, 128),
    (F.COR_EXP_STEP_STEP_MAX, 0, 10), (F.COR_EXP_LIM_EXP_MIN, 0, 10), (F.COR_EXP_LIM_EXP_MAX, 0, 60000), (F.COR_EXP_STATE_EXPOSURE, 0, 1000)]
  let s := withCor (fun c => { c with
    closed := 1
    strip := [⟨0, 0, 255, 256, 0, 256, (List.replicate 256 0).set 50 256, [0, 0, 0]⟩] }) s
  s.setCorPort 0 { s.corPort 0 with echoed := [echo, []] }

/-- Change what a state keeps of segmentation. -/
def withSeg (f : Seg → Seg) (s : State) : State := { s with seg := f s.seg }

/-- A line of head 0 as its runs carry it. -/
def lineOf (n : LineNo) : LineInfo := ⟨0, n, n, 0, 0, [], 0, [], n.toNat⟩

/-- A run of head 0 with a line's columns `a` to `b`. -/
def runOf (n : LineNo) (a b : Nat) : Run := ⟨lineOf n, a, b, 1, false, false, 0, 0, [], 9, 3, 3, 0, 0, 0⟩

/-- A run that touches the right neighbour's seam or an internal one. -/
def runAt (n : LineNo) (a b k : Nat) (left : Bool) : Run := { runOf n a b with touch := [(k, left)] }

/-- Entries in the run FIFO. -/
def fifoOf (l : List FifoEntry) (s : State) : State := withSeg (fun g => { g with fifo := l }) s

/-- The state after a command. -/
def ran1 (c : Instr) (s : State) : State := out (exec c s)

/-- An object of one run of line 1, and the entries that come after it. -/
def object (r : Run) (l : List FifoEntry) : State := fifoOf l (ran1 .runLabel (fifoOf [.run r] (inMode .perform)))

/-- Two objects of line 1. -/
def objects (l : List FifoEntry) : State :=
  fifoOf l (ran1 .runLabel (ran1 .runLabel (fifoOf [.run (runOf 1 2 3), .run (runOf 1 5 6)] (inMode .perform))))

/-- A window with no pairs. -/
def noWindow : Window := ⟨[], ⟨0, 0, 0⟩, 256, 0⟩

/-- Change what a state keeps of a seam. -/
def withSeam (k : Nat) (f : SeamSt → SeamSt) (s : State) : State := s.setSeam k (f (s.seam k))

/-- A closing queued of the oldest object. -/
def closing (s : State) : State := withSeg (fun g => { g with closeQ := (g.objs.map (fun o => o.oid)).take 1 }) s

/-- Object `n` in the order of allocation, or one with nothing in it. -/
def objAt (n : Nat) (s : State) : Obj :=
  match s.seg.objs.drop n with
  | o :: _ => o
  | [] => ⟨none, 0, .live, lineOf 0, 0, 0, none, ⟨0, 0, false, 0, 0, 0, 0, 0, 0, 0, 0, 0, 0, 0, 0, 0, 0, 0, 0, 0, 0, 0⟩, 0, false, false,
      none, false, 0, 0, 0, [], [], [], 0, []⟩

/-- A component of one object of line 1 that waits for its counterparts at a seam. -/
def component (opened : Bool) (cs : List Contact) : Comp :=
  ⟨[{ objAt 0 (object (runOf 1 2 3) []) with st := .pending, opened := opened, contacts := cs }], false⟩

/-- The same in a state without objects. -/
def waiting (c : Comp) : State := withSeg (fun g => { g with comps := [c] }) (inMode .perform)

/-- A web encoder in quadrature on every channel in HOLD, with fields put. -/
def encOn (m : Mode) (l : List (Fld × Nat × Nat)) : State :=
  atM m ((List.range 8).map (fun c => (F.POS_CHCFG_MODE, c, 1)) ++ [(F.POS_PITCH_PITCH, 0, 64), (F.POS_CTRL_EN, 0, 1)] ++ l)

/-- Change what a state keeps of POS. -/
def withPos (f : Pos → Pos) (s : State) : State := { s with pos := f s.pos }

/-- Change what a state keeps of an encoder channel. -/
def withCh (c : Nat) (f : EncCh → EncCh) (s : State) : State := withPos (fun p => { p with chans := p.chans.set c (f (s.ench c)) }) s

/-- Change what a state keeps of an emulated output. -/
def withEmu (k : Nat) (f : Emu → Emu) (s : State) : State := withPos (fun p => { p with emus := p.emus.set k (f (s.emu k)) }) s

/-- P lies below the next cue point. -/
def short : State := withPos (fun p => { p with q := 100 }) (encOn .perform [])

/-- Port 1 of the marking heads in a state of its own, with fields put. -/
def headIn (st : Nat) (l : List (Fld × Nat × Nat)) : State :=
  atM .perform ([(F.MRK_CTRL_EN, 0, 1), (F.MRK_PCTL_EN, 1, 1), (F.MRK_PCTL_NOZ, 1, 16), (F.MRK_PSTAT_STATE, 1, st),
    (F.POS_SPEED_VALID, 0, 1), (F.MRK_LPITCH_LPITCH, 0, 8)] ++ l)

/-- Change what a state keeps of marking port 1. -/
def withMrk (f : MrkPort → MrkPort) (s : State) : State :=
  { s with mrk := { s.mrk with ports := s.mrk.ports.set 1 (f (s.mrkPort 1)) } }

/-- A mark request that waits, its target `y` along the web. -/
def asked (y : YPos) (s : State) : State := withSeg (fun g => { g with markQ := [⟨none, 7, 3, false, 0, 0, y, y⟩] }) s

/-- A mark of port 1 that is due at position 0, and has not joined a burst. -/
def mark1 : Mark := ⟨1, none, 7, 3, false, 4, 0, 0, 0, [2, 3], 0, none, 0, [], 0, none, 0, 0, 0, 0⟩

/-- The schedule of marks. -/
def scheduled (l : List Mark) (s : State) : State := { s with mrk := { s.mrk with marks := l } }

/-- A time-mode burst of one line in 1,000 ns. -/
def burst1 : Burst := ⟨0, 1000, false, false, 1, 0, 0, 0⟩

/-- Port 1 fires it. -/
def firing (l : List (Fld × Nat × Nat)) : State :=
  withMrk (fun p => { p with burst := some burst1 }) (scheduled [{ mark1 with join := some 0 }] (headIn 1 l))

/-- Port 1 with LATCH high since 0, in a burst or none. -/
def latched1 (b : Option Burst) (loaded : Option (List Nat)) (l : List (Fld × Nat × Nat)) : State :=
  withMrk (fun p => { p with burst := b, latchHigh := true, loaded := loaded })
    (scheduled [{ mark1 with join := some 0 }] (headIn 1 ([(F.MRK_LATCH_LATCH_W, 1, 30)] ++ l)))

/-- Port 1 with STROBE high since 0, for a width. -/
def strobed (w : Nat) : State :=
  withMrk (fun p => { p with strobeHigh := true, width := w }) (headIn 1 [(F.MRK_TLIM_WD, 1, 3)])

/-- An archive row of 4 lines of one block column at strip 256, a refresh row that has ended. -/
def row1 : ArcRow := ⟨256, true, false, none, 0, 0, 4, 0, 5, 0, 63, 0, 0, 0, 0, 0, 0, true⟩

/-- Change what a state keeps of head 0's archive. -/
def withArc (f : ArcHead → ArcHead) (s : State) : State := { s with arc := { s.arc with heads := s.arc.heads.set 0 (f (s.arcHead 0)) } }

/-- The archive of head 0 with that row, in PERFORM. -/
def archive (l : List (Fld × Nat × Nat)) : State :=
  withArc (fun a => { a with rows := [row1], starts := [(256, 0, 256, 5)] })
    (atM .perform ([(F.ARC_CTRL_EN, 0, 1), (F.ARC_HEAD_CFG_EN, 0, 1), (F.ARC_RING_ROWS_ROWS, 0, 4), (F.STI_ORDER_V0, 0, 1),
      (F.POS_PITCH_PITCH, 0, 65536)] ++ l))

/-- A block write of that row which ended in error, first or again. -/
def badWrite (again : Bool) : MemOp := ⟨3, .arcBlock 0 256 257 again, 3, true, 4096, [1, 2, 3], 0, some .ue, [], 0⟩

/-- It waits for ARC. -/
def writeErr (again : Bool) : State := let s := archive []; { s with arc := { s.arc with werr := [badWrite again] } }

/-- A host job for the strip image of a strip. -/
def job1 (strip : Bool) : ArcJob := ⟨strip, 9, 0, none, 0, 0, 0, 256, 0⟩

/-- Host jobs wait. -/
def jobs (n : Nat) (strip : Bool) (s : State) : State := { s with arc := { s.arc with hostQ := List.replicate n (job1 strip) } }

/-- A job runs of which a block has been read, or has not. -/
def running1 (read : Bool) : State :=
  let s := archive []
  { s with arc := { s.arc with run := some ⟨job1 true, false, [⟨0, [0, 1], [0, 1], [some (256, 0)]⟩], 0, 0, 1, 65536, 5, 1, false,
    [⟨0, 256, 0, 0, 0, none, if read then some (List.replicate 64 0) else none, false⟩], []⟩ } }

/-- The memory controller ready with its first rank pair, in a mode, with fields put. -/
def memIn (m : Mode) (l : List (Fld × Nat × Nat)) : State :=
  atM m ([(F.MEM_STATUS_READY, 0, 1), (F.MEM_STATUS_INSERV, 0, 0xFFFF)] ++ l)

/-- Change what a state keeps of the memory controller. -/
def withMem (f : Mem → Mem) (s : State) : State := { s with mem := f s.mem }

/-- A piece of 64 bytes at address 0, of access 5. -/
def piece (write : Bool) : MemTx := ⟨5, 4, write, 0, 64, 0, 0⟩

/-- Access 5: 128 bytes at address 0 in two pieces. -/
def access (write : Bool) : MemOp := ⟨5, .dropped, 4, write, 0, List.replicate 128 0x5A, 2, none, [], 0⟩

/-- That piece waits, or has been issued. -/
def waitingPiece (write : Bool) (rows : List (Nat × Nat)) : State :=
  withMem (fun m => { m with waiting := [piece write], ops := [access write], rows := rows }) (memIn .perform [])
def issuedPiece (write : Bool) : State :=
  withMem (fun m => { m with issued := [piece write], ops := [access write] }) (memIn .perform [])

/-- A side of a transfer with one entry, all of it fetched. -/
def sideOf (bad : Option Nat) (stop : Bool) (left : Nat) : DmaSide := ⟨8, false, true, 1, [⟨0, 0, 64, left, 0, bad, stop⟩]⟩

/-- A transfer of channel 2. -/
def transfer (bad : Option Nat) : DmaRun := ⟨2, sideOf none true 0, sideOf bad true 0, [], [], 0, 0, 0, false⟩

/-- The DMA engine runs a transfer, with fields put. -/
def dmaOn (f : Dma → Dma) (r : DmaRun) : State :=
  let s := memIn .perform [(F.DMA_CTRL_EN, 0, 1), (F.DMA_ACTRL_STATE, 2, 2)]
  { s with dma := f { s.dma with run := some r } }

/-- A device in PERFORM in which lane `l` is in a state, its references good, with fields put. -/
def laneIn (l st : Nat) (fs : List (Fld × Nat × Nat)) : State :=
  atM .perform ([(F.LNE_STATE_STATE, l, st), (F.LNE_STATUS_REF_HOST_OK, 0, 1), (F.LNE_STATUS_REF_CAM_OK, 0, 1)] ++ fs)

/-- Change what a state keeps of a lane. -/
def withLane (l : Nat) (f : Lane → Lane) (s : State) : State := s.setLane l (f (s.lane l))

/-- Consecutive bad reference windows. -/
def refBadAt (n : Nat) (s : State) : State := { s with lne := { s.lne with refBad := [n, n] } }

/-- A lane whose last 64 blocks hold `n` that were bad. -/
def badBlocks (l n : Nat) (s : State) : State := withLane l (fun x => { x with blocks := List.replicate n false }) s

/-- Fields of a lane that has block lock. -/
def lockedLane (l : Nat) : List (Fld × Nat × Nat) := [(F.LNE_STATE_HDR_OK, l, 1)]

/-- Host port 3 with its fourth interface enabled, lanes up, and the interface up or not. -/
def ifIn (up : Nat) (l : List (Fld × Nat × Nat)) : State :=
  atM .perform ([(F.HST_PCFG_EN, 3, 1), (F.HST_PCFG_MODE, 3, 2), (F.HST_IF_CFG_EN, 15, 1), (F.HST_IF_CFG_EN, 12, 1), (F.LNE_STATE_STATE, 103, 3),
    (F.HST_IF_STATUS_UP, 15, up)] ++ l)

/-- Change what a state keeps of the host block. -/
def withHst (f : Hst → Hst) (s : State) : State := { s with hst := f s.hst }

/-- Change what a state keeps of interface 15. -/
def withIf (f : HostIf → HostIf) (s : State) : State := withHst (fun h => { h with ifs := h.ifs.set 15 (f (s.hostIf 15)) }) s

/-- A management request of an operation in a session, with RID 7 and the words that follow. -/
def reqOf (op session : Nat) (ws : List DWord) : MgmtReq :=
  ⟨15, 1, 2, 3, packWord [(60, 1), (56, op), (48, ws.length), (32, session), (0, 7)] :: ws, false⟩

/-- It waits, in a device with session 5 open and one permission entry for all registers. -/
def served (r : MgmtReq) : State :=
  let s := withHst (fun h => { h with mq := [r], sessions := [some ⟨5, 2, 3, 1, 60, none, [], 0, 0⟩, none, none, none] }) (ifIn 1 [])
  { s with tables := [(0x12200004, 0xFFFFFF), (0x12200008, 0xFFFFFFFF), (0x1220000C, 0x80000000)] }

/-- That session. -/
def session5 : Session := ⟨5, 2, 3, 1, 60, none, [], 0, 0⟩

/-- A device that takes its time from the master port 3 of clock 7 by interface 15, with fields put. -/
def ptpIn (l : List (Fld × Nat × Nat)) : State :=
  ifIn 1 ([(F.TIM_CTRL_SRC, 0, 1), (F.TIM_CTRL_PTP_IF, 0, 15), (F.TIM_MASTER_PORT_V, 0, 1), (F.TIM_MASTER_PORT_PORT, 0, 3),
    (F.TIM_MASTER_LO_V, 0, 7)] ++ l)

/-- A message of the master. -/
def ptpMsg (twoStep followUp : Bool) : PtpMsg := ⟨7, 3, 0, 9, 1000, 5, twoStep, false, followUp, 2000⟩

/-- Change what a state keeps of network time. -/
def withTim (f : Tim → Tim) (s : State) : State := { s with tim := f s.tim }

/-- Cue queue 3 holds an entry. -/
def timed (l : List (Fld × Nat × Nat)) : State :=
  withHst (fun h => { h with cq := h.cq.set 3 [⟨0, 0, 60, 3, false⟩] }) (ifIn 1 l)

/-- Change what a state keeps of EVT. -/
def withEvt (f : Evt → Evt) (s : State) : State := { s with evt := f s.evt }

/-- Channel 63 enabled from producer 0xBE, which has fired once, with a task. -/
def chanIn (task : Nat) (recent : List Nat) : State :=
  withEvt (fun e => { e with fired := [(0xBE, 1)], chans := e.chans.set 63 ⟨0, recent⟩ })
    (atM .perform [(F.EVT_CTRL_EN, 0, 1), (F.EVT_CTRL_LOOP_LIMIT, 0, 2), (F.EVT_CH_EN, 63, 1), (F.EVT_CH_PSEL, 63, 0xBE), (F.EVT_CH_TSEL, 63, task)])

/-- The performance counters run in a window mode, with 13 cycles left. -/
def counting (mode : Nat) : State :=
  let s := atM .perform []
  { s with pmc := { s.pmc with ctrl := BitVec.ofNat 32 (1 + 16 * mode), left := 13 } }

/-- Fabric port 5 in a state of its own, with fields put. -/
def fabIn (st : FabSt) (l : List (Fld × Nat × Nat)) : State :=
  atM .perform ([(F.FAB_CTRL_EN, 0, 1), (F.FAB_PSTAT_STATE, 5, st.code)] ++ l)

/-- Change what a state keeps of fabric port 5. -/
def withFp (f : FabPort → FabPort) (s : State) : State := s.setFabPort 5 (f (s.fabPort 5))

/-- Change what a state keeps of the fabric. -/
def withFab (f : Fab → Fab) (s : State) : State := { s with fab := f s.fab }

/-- A packet for every device. -/
def pktOf (t : Nat) (ws : List DWord) : Packet := ⟨0xFFF, 0, t, ws⟩

/-- It waits at port 5, seam 31 in use with wings of `w`. -/
def arrived (w t : Nat) (ws : List DWord) : State :=
  withFp (fun p => { p with rx := [pktOf t ws] })
    (fabIn .up [(F.STI_ORDER_V0, 0, 1), (F.SEAM_CFG_XDEV, 31, 1), (F.SEAM_CFG_WING, 31, w), (F.SEAM_STATUS_STATE, 31, 2)])

/-- What is left when it is taken. -/
def taken (k : Packet → Bool) (s : State) : State :=
  match s.takePacket 5 k with
  | some p => p.2
  | none => s

/-- A component sent to the right, which waits for its CACK. -/
def sentComp : SentComp := ⟨7, component true [], 0⟩

/-- Sensor 23 among the fast ones. -/
def fast23 : State := atM .perform [(F.THM_TS_FAST, 23, 1)]

/-- The slow round with every board sensor off and every sensor fast. -/
def slowIn : State := atM .perform ((List.range 24).map (fun i => (F.THM_TS_FAST, i, 1)))

/-- Change what a state keeps of heat. -/
def withThm (f : Thm → Thm) (s : State) : State := { s with thm := f s.thm }

/-- Change what a state keeps of the keep domain. -/
def withPwr (f : Pwr → Pwr) (s : State) : State := { s with pwr := f s.pwr }

/-- Every sensor has been cold for its four readings, in DARK for heat. -/
def cold4 : State := withThm (fun h => { h with sensors := h.sensors.map (fun x => { x with cold := 4 }) }) (atM .dark [(F.SEC_DARK_REASON, 0, 8)])

/-- A device past step 6 of LOAD, in which the final curtain can fall. -/
def lit (l : List (Fld × Nat × Nat)) : State := withPwr (fun p => { p with step6 := true }) (atM .perform l)

/-- A slot write of kind 2 to slot 7. -/
def writing7 : SlotWrite := ⟨7, 2, State.reset.pwr.mirror⟩

/-- What is left when the next job is taken. -/
def jobTaken (s : State) : State :=
  match s.nextJob with
  | some p => p.2
  | none => s

/-! ### Every clause of every statement applies somewhere -/

/-- What holds of the value of an option, as the test of that value. -/
theorem onSome {α : Type} {o : Option α} {P : α → Prop} [DecidablePred P]
    (h : (match o with | some x => decide (P x) | none => true) = true) : ∀ x, o = some x → P x := by
  rintro x rfl
  simpa using h

/-- Operands that meet the hypotheses of Obligations.StepOnEmptyQueue, clause by clause. -/
theorem met_StepOnEmptyQueue :
    (∃ (s : State), s.pending = []) ∧
    (∃ (s : State), s.pending = [] ∧ s.mem.done = [] ∧ s.glb.trans = none ∧ s.glb.pend = none) := by
  refine ⟨?_, ?_⟩
  · exact ⟨inMode .perform, by decide +kernel⟩
  · exact ⟨inMode .perform, by decide +kernel⟩

/-- Operands that meet the hypotheses of Obligations.StepKeepsCanonical, clause by clause. -/
theorem met_StepKeepsCanonical :
    ∃ (s t : State), step s = .next t ∧ s.canonical = true := by
  · exact ⟨inMode .perform, _, rfl, by decide +kernel⟩

/-- Operands that meet the hypotheses of Obligations.OneWayState, clause by clause. -/
theorem met_OneWayState :
    (∃ (s t : State), ∃ k, ∃ b, step s = .next t ∧ s.canonical = true ∧ s.fuseBlown k b = true) ∧
    (∃ (s t : State), step s = .next t ∧ s.canonical = true) := by
  refine ⟨?_, ?_⟩
  · exact ⟨inMode .perform, _, 0, 0, rfl, by decide +kernel⟩
  · exact ⟨inMode .perform, _, rfl, by decide +kernel⟩

/-- Operands that meet the hypotheses of Obligations.CommandFrames, clause by clause. -/
theorem met_CommandFrames :
    ∃ (c : Instr) (s t : State), exec c s = .next t ∧ s.canonical = true := by
  · exact ⟨.softwareFire 0x55, inMode .perform, _, rfl, by decide +kernel⟩

/-- Operands that meet the hypotheses of Obligations.PersistentWriters, clause by clause. -/
theorem met_PersistentWriters :
    (∃ (c : Instr) (s t : State), exec c s = .next t ∧ s.canonical = true ∧ c ≠ .rollbackFuseBlown) ∧
    (∃ (c : Instr) (s t : State), exec c s = .next t ∧ s.canonical = true ∧ c ≠ .identityKeyReady) ∧
    (∃ (c : Instr) (s t : State), exec c s = .next t ∧ s.canonical = true ∧ writesSlot c = false) ∧
    (∃ (c : Instr) (s t : State), exec c s = .next t ∧ s.canonical = true ∧ writesDram c = false) ∧
    (∃ (c : Instr) (s t : State), exec c s = .next t ∧ s.canonical = true) := by
  refine ⟨?_, ?_, ?_, ?_, ?_⟩
  · exact ⟨.softwareFire 0x55, inMode .perform, _, rfl, by decide +kernel⟩
  · exact ⟨.softwareFire 0x55, inMode .perform, _, rfl, by decide +kernel⟩
  · exact ⟨.softwareFire 0x55, inMode .perform, _, rfl, by decide +kernel⟩
  · exact ⟨.softwareFire 0x55, inMode .perform, _, rfl, by decide +kernel⟩
  · exact ⟨.softwareFire 0x55, inMode .perform, _, rfl, by decide +kernel⟩

/-- Operands that meet the hypotheses of Obligations.ResetValues, clause by clause. -/
theorem met_ResetValues :
    ∃ (s : State) (x : BitVec 4), s.canonical = true ∧ filter3of4 true x = false := by
  · exact ⟨inMode .hold, 8, by decide +kernel⟩

/-- Operands that meet the hypotheses of Obligations.ResetsLeaveKeepDomain, clause by clause. -/
theorem met_ResetsLeaveKeepDomain :
    (∃ (s : State) (x : BitVec 4), s.canonical = true ∧ filter3of4 true x = false) ∧
    (∃ (s : State) (x : BitVec 4), filter3of4 true x = true) ∧
    (∃ (s : State) (x : BitVec 4), (s.glb.powered = true ∨ filter3of4 false x = false)) ∧
    (∃ (s : State) (x : BitVec 4), s.canonical = true ∧ s.glb.powered = false ∧ filter3of4 false x = true) ∧
    (∃ (s : State), s.canonical = true ∧ s.glb.powered = true) ∧
    (∃ (s : State), ∃ c, s.canonical = true ∧ c ∈ [Instr.keepDomainPowerLoss, .keepDomainPowerOn]) := by
  refine ⟨?_, ?_, ?_, ?_, ?_, ?_⟩
  · exact ⟨inMode .hold, 8, by decide +kernel⟩
  · exact ⟨inMode .hold, 3, by decide +kernel⟩
  · exact ⟨inMode .hold, 15, by decide +kernel⟩
  · exact ⟨State.reset, 7, by decide +kernel⟩
  · exact ⟨inMode .hold, by decide +kernel⟩
  · exact ⟨inMode .hold, .keepDomainPowerLoss, by decide +kernel⟩

/-- Operands that meet the hypotheses of Obligations.PairReads, clause by clause. -/
theorem met_PairReads :
    (∃ (s : State) (q : Requester) (addr : Word) (lo hi : Reg) (i : Nat), s.canonical = true ∧ addr.toNat < 0x1000000 ∧ regAt
      addr.toNat = some (lo, i) ∧ lo.pairRole = .low hi) ∧
    (∃ (s : State) (q : Requester) (addr : Word) (lo hi : Reg) (i : Nat), addr.toNat < 0x1000000 ∧ regAt addr.toNat = some (hi, i) ∧
      hi.pairRole = .high lo) := by
  refine ⟨?_, ?_⟩
  · exact ⟨inMode .hold, .management, 0x00100058, .CAM_LAST_LINE0_L, .CAM_LAST_LINE0_H, 0, by decide +kernel⟩
  · exact ⟨inMode .hold, .management, 0x0010005C, .CAM_LAST_LINE0_L, .CAM_LAST_LINE0_H, 0, by decide +kernel⟩

/-- Operands that meet the hypotheses of Obligations.PairWrites, clause by clause. -/
theorem met_PairWrites :
    (∃ (s : State) (q : Requester) (addr v : Word) (lo hi : Reg) (i : Nat), s.canonical = true ∧ addr.toNat < 0x1000000 ∧ regAt
      addr.toNat = some (hi, i) ∧ hi.pairRole = .high lo ∧ hi.info.fields.any (fun f => f.ty.takes (s.lockedReg hi)) = true ∧
      writeCounts hi.info.fields (s.lockedReg hi) (s.rd hi i) v = false) ∧
    (∃ (s : State) (q : Requester) (addr v : Word) (lo hi : Reg) (i : Nat), s.canonical = true ∧ addr.toNat < 0x1000000 ∧ regAt
      addr.toNat = some (lo, i) ∧ lo.pairRole = .low hi ∧ lo.info.fields.any (fun f => f.ty.takes (s.lockedReg lo)) = true ∧
      writeCounts lo.info.fields (s.lockedReg lo) (s.rd lo i) v = false) ∧
    (∃ (s t u : State) (q : Requester) (addr v w : Word) (lo hi : Reg) (i : Nat), exec (.pairLowWrite q addr v) s = .next t ∧ exec
      (.pairLowWrite q addr w) t = .next u ∧ s.canonical = true ∧ addr.toNat < 0x1000000 ∧ regAt addr.toNat = some (lo, i) ∧
      lo.pairRole = .low hi ∧ lo.info.fields.any (fun f => f.ty.takes (s.lockedReg lo)) = true ∧ writeCounts lo.info.fields
      (s.lockedReg lo) (s.rd lo i) v = false) := by
  refine ⟨?_, ?_, ?_⟩
  · exact ⟨inMode .load, .management, 0x0040001C, 5, .STI_X0_L, .STI_X0_H, 0, by decide +kernel⟩
  · exact ⟨inMode .load, .management, 0x00400018, 5, .STI_X0_L, .STI_X0_H, 0, by decide +kernel⟩
  · exact ⟨inMode .load, _, _, .management, 0x00400018, 5, 6, .STI_X0_L, .STI_X0_H, 0, rfl, rfl, by decide +kernel⟩

/-- Operands that meet the hypotheses of Obligations.RegisterReads, clause by clause. -/
theorem met_RegisterReads :
    (∃ (s : State) (q : Requester) (addr : Word) (r : Reg) (i : Nat), s.canonical = true ∧ addr.toNat < 0x1000000 ∧ regAt addr.toNat
      = some (r, i) ∧ r.pairRole = .none ∧ r ∉ [Reg.TIM_NOW0, .TIM_EVENT, .OBJ_CTX_STATUS]) ∧
    (∃ (s : State) (q : Requester) (addr : Word), s.canonical = true ∧ addr.toNat < 0x1000000 ∧ regAt addr.toNat = none) := by
  refine ⟨?_, ?_⟩
  · exact ⟨inMode .hold, .management, 0x48, .GLB_HOLD_CNT, 0, by decide +kernel⟩
  · exact ⟨inMode .hold, .management, 0xFFC, by decide +kernel⟩

/-- Operands that meet the hypotheses of Obligations.RegisterWrites, clause by clause. -/
theorem met_RegisterWrites :
    (∃ (s : State) (q : Requester) (addr v : Word) (r : Reg) (i : Nat), s.canonical = true ∧ addr.toNat < 0x1000000 ∧ regAt
      addr.toNat = some (r, i) ∧ r.pairRole = .none ∧ r ∉ actsOnWrite ∧ writeCounts r.info.fields (s.lockedReg r) (s.rd r i) v =
      false) ∧
    (∃ (s : State) (q : Requester) (addr v : Word) (r : Reg) (i : Nat), s.canonical = true ∧ addr.toNat < 0x1000000 ∧ regAt
      addr.toNat = some (r, i) ∧ (r = .SEAM_OFS ∨ r = .SEAM_SCALE ∨ r = .SEAM_YOFS)) ∧
    (∃ (s : State) (q : Requester) (addr v : Word), s.canonical = true ∧ (if addr.toNat < 0x1000000 then regAt addr.toNat = none
      else winAt addr.toNat = none)) ∧
    (∃ (s : State) (q : Requester) (addr v : Word) (w : Win), s.canonical = true ∧ 0x1000000 ≤ addr.toNat ∧ winAt addr.toNat = some
      w) ∧
    (∃ (s : State), s.canonical = true) := by
  refine ⟨?_, ?_, ?_, ?_, ?_⟩
  · exact ⟨inMode .load, .management, 0x18, 5, .GLB_RUN_CFG, 0, by decide +kernel⟩
  · exact ⟨inMode .hold, .management, 0x00400404, 5, .SEAM_OFS, 0, by decide +kernel⟩
  · exact ⟨inMode .hold, .management, 0xFFC, 5, by decide +kernel⟩
  · exact ⟨inMode .load, .management, 0x11200004, 5, .rules, by decide +kernel⟩
  · exact ⟨inMode .load, by decide +kernel⟩

/-- Operands that meet the hypotheses of Obligations.ModeRequestsStart, clause by clause. -/
theorem met_ModeRequestsStart :
    (∃ (s : State), s.canonical = true ∧ s.glb.trans = none ∧ s.inspecting = true) ∧
    (∃ (s : State), s.canonical = true ∧ s.glb.trans = none ∧ s.mode = .hold ∧ s.mem.change = none ∧ s.fld F.MEM_STATUS_FSP = 0) ∧
    (∃ (s : State), s.canonical = true ∧ s.glb.trans = none ∧ s.mode = .hold ∧ s.mem.change = none ∧ s.fld F.MEM_STATUS_FSP = 0 ∧
      s.arc.run = none ∧ s.dma.run = none ∧ s.mem.ops = []) ∧
    (∃ (s : State), s.canonical = true) ∧
    (∃ (s : State), s.canonical = true ∧ s.glb.trans ≠ none ∧ s.glb.pend = none) ∧
    (∃ (s : State), ∃ c, s.canonical = true ∧ s.glb.trans = none ∧ s.mode = .standby ∧ c ∈ [Instr.holdRequest, .resumeRequest,
      .standbyRequest]) := by
  refine ⟨?_, ?_, ?_, ?_, ?_, ?_⟩
  · exact ⟨inMode .perform, by decide +kernel⟩
  · exact ⟨inMode .hold, by decide +kernel⟩
  · exact ⟨inMode .hold, by decide +kernel⟩
  · exact ⟨inMode .hold, by decide +kernel⟩
  · exact ⟨withTrans .wakeUp (inMode .standby), by decide +kernel⟩
  · exact ⟨inMode .standby, .resumeRequest, by decide +kernel⟩

/-- Operands that meet the hypotheses of Obligations.ModeTransitionsEnd, clause by clause. -/
theorem met_ModeTransitionsEnd :
    (∃ (s : State) (byReq : Bool), s.canonical = true ∧ s.glb.trans = some (.toHold byReq) ∧ s.glb.pend = none ∧ s.drained = true) ∧
    (∃ (s : State), s.canonical = true ∧ s.glb.trans = some .wakeUp ∧ s.glb.pend = none) ∧
    (∃ (s : State) (src : WakeSource), s.canonical = true ∧ s.mode = .standby ∧ s.glb.trans = none ∧ s.wakeEnabled src = true) ∧
    (∃ (s : State) (x : BitVec 4), s.canonical = true ∧ s.mode = .standby ∧ s.glb.trans = none ∧ s.wakeEnabled .pin = true ∧
      s.fab.wake = false ∧ filter3of4 false x = true) ∧
    (∃ (s : State) (x : BitVec 4), (s.fab.wake = true ∨ filter3of4 false x = false)) ∧
    (∃ (s : State), s.canonical = true ∧ s.mode = .hold ∧ s.glb.trans = none ∧ s.mem.change = none ∧ s.fld F.MEM_STATUS_FSP = 0 ∧
      s.runSpeed = true ∧ s.bit F.GLB_RUN_CFG_AUTO_RESUME = true ∧ s.bit F.GLB_STATUS_HELD_BY_REQ = false) ∧
    (∃ (s u : State) (dt : Nat), u = s.advance dt ∧ s.canonical = true ∧ u.mode = .hold ∧ u.glb.trans = none ∧ u.mem.change = none ∧
      u.fld F.MEM_STATUS_FSP = 0 ∧ u.arc.run = none ∧ u.dma.run = none ∧ u.mem.ops = [] ∧ u.fld F.GLB_WAKE_CFG_STBY_AFTER ≠ 0 ∧
      1000000000 * u.fld F.GLB_WAKE_CFG_STBY_AFTER ≤ u.clk - u.glb.modeAt) ∧
    (∃ (s u : State) (dt : Nat), u = s.advance dt ∧ s.canonical = true ∧ u.mode = .hold ∧ u.glb.trans = none ∧ (u.fld
      F.GLB_WAKE_CFG_STBY_AFTER = 0 ∨ u.clk - u.glb.modeAt < 1000000000 * u.fld F.GLB_WAKE_CFG_STBY_AFTER)) := by
  refine ⟨?_, ?_, ?_, ?_, ?_, ?_, ?_, ?_⟩
  · exact ⟨withTrans (.toHold true) (inMode .perform), true, by decide +kernel⟩
  · exact ⟨withTrans .wakeUp (inMode .standby), by decide +kernel⟩
  · exact ⟨inMode .standby, .task, by decide +kernel⟩
  · exact ⟨inMode .standby, 7, by decide +kernel⟩
  · exact ⟨inMode .standby, 8, by decide +kernel⟩
  · exact ⟨moving .hold, by decide +kernel⟩
  · exact ⟨atM .hold [(F.GLB_WAKE_CFG_STBY_AFTER, 0, 1)], _, 1000000000, rfl, by decide +kernel⟩
  · exact ⟨atM .hold [(F.GLB_WAKE_CFG_STBY_AFTER, 0, 1)], _, 999999999, rfl, by decide +kernel⟩

/-- Operands that meet the hypotheses of Obligations.RehearsalsEnd, clause by clause. -/
theorem met_RehearsalsEnd :
    (∃ (s : State), s.canonical = true ∧ s.atRehBoundary = true ∧ s.bit F.GLB_STATUS_VERIFY = false ∧ s.minStrips ≤ s.stripsPassed ∧
      s.rehAccepted = true) ∧
    (∃ (s : State), s.canonical = true ∧ s.atRehBoundary = true ∧ s.bit F.GLB_STATUS_VERIFY = false ∧ s.maxStrips ≤ s.stripsPassed) ∧
    (∃ (s : State), s.canonical = true ∧ s.atRehBoundary = true ∧ s.bit F.GLB_STATUS_VERIFY = true ∧ 1 ≤ s.stripsPassed ∧
      s.openChecks = (false, false, false)) ∧
    (∃ (s : State), s.canonical = true ∧ s.atRehBoundary = true ∧ s.bit F.GLB_STATUS_VERIFY = true ∧ atLeast1 (s.fld
      F.GLB_VERIFY_CFG_TMO) ≤ s.stripsPassed) := by
  refine ⟨?_, ?_, ?_, ?_⟩
  · exact ⟨rehAt 17, by decide +kernel⟩
  · exact ⟨rehAt 257, by decide +kernel⟩
  · exact ⟨puts (rehAt 2) [(F.GLB_STATUS_VERIFY, 0, 1), (F.GLB_VERIFY_CFG_REG, 0, 0), (F.GLB_VERIFY_CFG_POS, 0, 0),
      (F.GLB_VERIFY_CFG_TIME, 0, 0)], by decide +kernel⟩
  · exact ⟨puts (rehAt 65) [(F.GLB_STATUS_VERIFY, 0, 1)], by decide +kernel⟩

/-- Operands that meet the hypotheses of Obligations.ImageLoading, clause by clause. -/
theorem met_ImageLoading :
    (∃ (s : State) (img : ImageRead), s.canonical = true ∧ s.inPass1 = true ∧ s.pass1Reason img = none) ∧
    (∃ (s : State) (img : ImageRead) (r : Nat), s.canonical = true ∧ s.inPass1 = true ∧ s.pass1Reason img = some r ∧ s.sec.slot = 0) ∧
    (∃ (s : State) (img : ImageRead) (r : Nat), s.canonical = true ∧ s.inPass1 = true ∧ s.pass1Reason img = some r ∧ s.sec.slot ≠ 0
      ∧ s.sec.fail0 < 16) ∧
    (∃ (s : State), s.canonical = true ∧ s.inPass1 = true ∧ s.sec.slot = 0) ∧
    (∃ (s : State), s.canonical = true ∧ s.inPass1 = true ∧ s.sec.slot ≠ 0 ∧ s.sec.fail0 < 16) ∧
    (∃ (s : State), s.canonical = true ∧ s.inPass2 = true) ∧
    (∃ (s : State) (img : ImageRead) (x : Section) (hash : BitVec 512), s.canonical = true ∧ s.inPass2 = true ∧ s.sec.img = some img
      ∧ img.sections[s.sec.nextSec]? = some x ∧ hash ≠ x.digest) ∧
    (∃ (s : State) (img : ImageRead) (x : Section), s.canonical = true ∧ s.inPass2 = true ∧ s.sec.img = some img ∧
      img.sections[s.sec.nextSec]? = some x ∧ s.sec.nextSec + 1 < img.sections.length ∧ x.kind = 4) ∧
    (∃ (s : State) (img : ImageRead) (x : Section), s.canonical = true ∧ s.inPass2 = true ∧ s.sec.img = some img ∧
      img.sections[s.sec.nextSec]? = some x ∧ s.sec.nextSec + 1 < img.sections.length ∧ x.kind = 5) ∧
    (∃ (s : State) (img : ImageRead) (x : Section), s.canonical = true ∧ s.inPass2 = true ∧ s.sec.img = some img ∧
      img.sections[s.sec.nextSec]? = some x ∧ s.sec.nextSec + 1 = img.sections.length ∧ (x.kind = 4 ∨ x.kind = 5)) ∧
    (∃ (s : State) (img : ImageRead) (hash : BitVec 512), s.inPass1 = false) ∧
    (∃ (s : State) (img : ImageRead) (hash : BitVec 512), s.inPass2 = false) ∧
    (∃ (s : State) (img : ImageRead) (hash : BitVec 512), s.inPass1 = false ∧ s.inPass2 = false) := by
  refine ⟨?_, ?_, ?_, ?_, ?_, ?_, ?_, ?_, ?_, ?_, ?_, ?_, ?_⟩
  · exact ⟨pass1 0, imageOf [4], by decide +kernel⟩
  · exact ⟨pass1 0, { imageOf [4] with sigOk := false }, 0xA, by decide +kernel⟩
  · exact ⟨pass1 1, { imageOf [4] with playbill := [] }, 0xF, by decide +kernel⟩
  · exact ⟨pass1 0, by decide +kernel⟩
  · exact ⟨pass1 1, by decide +kernel⟩
  · exact ⟨pass2 [4] 0, by decide +kernel⟩
  · exact ⟨pass2 [4] 0, imageOf [4], sectionOf [4] 0, 1, by decide +kernel⟩
  · exact ⟨pass2 [4, 5] 0, imageOf [4, 5], sectionOf [4, 5] 0, by decide +kernel⟩
  · exact ⟨pass2 [5, 4] 0, imageOf [5, 4], sectionOf [5, 4] 0, by decide +kernel⟩
  · exact ⟨pass2 [5, 4] 1, imageOf [5, 4], sectionOf [5, 4] 1, by decide +kernel⟩
  · exact ⟨inMode .hold, imageOf [4], 0, by decide +kernel⟩
  · exact ⟨inMode .hold, imageOf [4], 0, by decide +kernel⟩
  · exact ⟨inMode .hold, imageOf [4], 0, by decide +kernel⟩

/-- Operands that meet the hypotheses of Obligations.LoadEnds, clause by clause. -/
theorem met_LoadEnds :
    (∃ (s : State) (fsp : Fin 2) (rank : Fin 17) (step : Fin 16), s.canonical = true ∧ s.inStep7 = true ∧ s.bit
      F.MEM_STATUS_TRAINING = true ∧ s.rankFitted rank = true ∧ 1 ≤ step.val ∧ step.val ≤ 5 ∧ fsp.val = s.fld
      F.MEM_TRN_STATUS_TFSP) ∧
    (∃ (s : State) (rank : Fin 17) (step : Fin 16), s.canonical = true ∧ s.inStep7 = true ∧ s.bit F.MEM_STATUS_TRAINING = true ∧
      s.rankFitted rank = true ∧ 1 ≤ step.val ∧ step.val ≤ 5 ∧ s.fld F.MEM_TRN_STATUS_TFSP = 1 ∧ (s.memSpare && rank.val ==
      s.understudy) = false) ∧
    (∃ (s : State) (fsp : Fin 2) (rank : Fin 17) (step : Fin 16), (s.inStep7 = false ∨ s.rankFitted rank = false ∨ 5 < step.val)) ∧
    (∃ (s u : State) (dt : Nat), u = s.advance dt ∧ s.canonical = true ∧ u.bit F.GLB_STATUS_LOAD_STALL = true ∧ u.bit
      F.MEM_STATUS_TRAINING = false ∧ 1000000000 ≤ u.clk - u.glb.stallAt) ∧
    (∃ (s u : State) (dt : Nat), u = s.advance dt ∧ (u.bit F.GLB_STATUS_LOAD_STALL = false ∨ u.bit F.MEM_STATUS_TRAINING = true ∨
      u.clk - u.glb.stallAt < 1000000000)) ∧
    (∃ (s : State) (spareOk : Bool), s.canonical = true ∧ s.inStep7 = true ∧ s.bit F.MEM_STATUS_TRAINING = true ∧ s.fld
      F.MEM_STATUS_MIG ≠ 1) ∧
    (∃ (s : State) (i : Nat), s.canonical = true ∧ s.step7Over = true ∧ s.burnOwed = true ∧ i < 64 ∧ (∀ j < i, s.fuseBlown (16 + j /
      32) (j % 32) = true) ∧ s.fuseBlown (16 + i / 32) (i % 32) = false) ∧
    (∃ (s : State), (s.step7Over = false ∨ s.burnOwed = false)) ∧
    (∃ (s : State), s.canonical = true ∧ s.step7Over = true ∧ s.burnOwed = false) ∧
    (∃ (s : State), (s.step7Over = false ∨ s.burnOwed = true)) := by
  refine ⟨?_, ?_, ?_, ?_, ?_, ?_, ?_, ?_, ?_, ?_⟩
  · exact ⟨training [], 0, 3, 5, by decide +kernel⟩
  · exact ⟨training [(F.MEM_TRN_STATUS_TFSP, 0, 1)], 3, 5, by decide +kernel⟩
  · exact ⟨training [], 0, 16, 1, by decide +kernel⟩
  · exact ⟨step7 [(F.GLB_STATUS_LOAD_STALL, 0, 1)], _, 1000000000, rfl, by decide +kernel⟩
  · exact ⟨step7 [(F.GLB_STATUS_LOAD_STALL, 0, 1)], _, 999999999, rfl, by decide +kernel⟩
  · exact ⟨training [(F.MEM_CFG_SPARE_EN, 0, 1)], true, by decide +kernel⟩
  · exact ⟨withImage burning (step7 []), 0, by decide +kernel⟩
  · exact ⟨withImage burning (training []), by decide +kernel⟩
  · exact ⟨step7 [], by decide +kernel⟩
  · exact ⟨withImage burning (step7 []), by decide +kernel⟩

/-- Operands that meet the hypotheses of Obligations.LoadEndMode, clause by clause. -/
theorem met_LoadEndMode :
    (∃ (s : State), s.canonical = true ∧ s.step7Over = true ∧ s.burnOwed = false ∧ s.speedValid = true ∧ atLeast1 (s.fld
      F.GLB_RUN_CFG_VMIN) ≤ s.speed) ∧
    (∃ (s : State), s.canonical = true ∧ s.step7Over = true ∧ s.burnOwed = false ∧ (s.speedValid = false ∨ s.speed < atLeast1 (s.fld
      F.GLB_RUN_CFG_VMIN))) := by
  refine ⟨?_, ?_⟩
  · exact ⟨{ puts (moving .load) [(F.GLB_LOAD_STATUS_STEP, 0, 7), (F.MEM_STATUS_READY, 0, 1), (F.FAB_STATUS_ADDR, 0, 5)] with free := 0 },
      by decide +kernel⟩
  · exact ⟨step7 [], by decide +kernel⟩

/-- Operands that meet the hypotheses of Obligations.IdentityAndAttestation, clause by clause. -/
theorem met_IdentityAndAttestation :
    (∃ (s : State), s.canonical = true ∧ s.keyOwed = true) ∧
    (∃ (s : State), s.keyOwed = false) ∧
    (∃ (s : State), s.canonical = true ∧ s.bit F.SEC_STATUS_ATT_BUSY = false) ∧
    (∃ (s : State), s.canonical = true ∧ s.bit F.SEC_STATUS_ATT_BUSY = true) ∧
    (∃ (s : State), s.canonical = true ∧ s.bit F.SEC_STATUS_ATT_BUSY = true ∧ s.sec.attHeld = false ∧ (s.sink = 0 ∨ s.sink =
      s.fabAddr) ∧ s.hst.routineQ.length + 3 ≤ 7680 ∧ s.seqs.length = 3) ∧
    (∃ (s : State), (s.bit F.SEC_STATUS_ATT_BUSY = false ∨ s.sec.attHeld = true)) := by
  refine ⟨?_, ?_, ?_, ?_, ?_, ?_⟩
  · exact ⟨withImage (imageOf [4]) (inMode .hold), by decide +kernel⟩
  · exact ⟨inMode .hold, by decide +kernel⟩
  · exact ⟨atM .hold [(F.SEC_STATUS_ID_READY, 0, 1)], by decide +kernel⟩
  · exact ⟨atM .hold [(F.SEC_STATUS_ATT_BUSY, 0, 1)], by decide +kernel⟩
  · exact ⟨atM .hold [(F.SEC_STATUS_ATT_BUSY, 0, 1)], by decide +kernel⟩
  · exact ⟨inMode .hold, by decide +kernel⟩

/-- Operands that meet the hypotheses of Obligations.CameraPorts, clause by clause. -/
theorem met_CameraPorts :
    (∃ (s : State) (p : Fin 16), s.canonical = true ∧ s.mode = .perform ∧ s.pwr.curtain = false ∧ s.bit F.CAM_CTRL_EN p = true ∧
      s.camSt p = 0) ∧
    (∃ (s : State) (p : Fin 16), (s.bit F.CAM_CTRL_EN p = false ∨ s.camSt p ≠ 0)) ∧
    (∃ (s : State) (p : Fin 16), s.canonical = true ∧ s.camSt p = 5 ∧ s.bit F.CAM_CTRL_EN p = true ∧ s.mode ≠ .standby ∧ s.mode ≠
      .dark) ∧
    (∃ (s : State) (p : Fin 16), s.canonical = true ∧ s.camSt p = 5 ∧ s.bit F.CAM_CTRL_EN p = true ∧ s.mode ≠ .standby ∧ s.mode ≠
      .dark ∧ s.bit F.CAM_CTRL_AUTO_RETRY p = true) ∧
    (∃ (s : State) (p : Fin 16), s.camSt p ≠ 5) ∧
    (∃ (s : State) (p : Fin 16), s.bit F.CAM_CTRL_AUTO_RETRY p = false) ∧
    (∃ (s : State) (l : Fin 64), s.canonical = true ∧ s.camSt (l.val / 4) = 1 ∧ s.bit F.LNE_STATE_HDR_OK l = false) ∧
    (∃ (s : State) (p : Fin 16), s.canonical = true ∧ s.camSt p = 1 ∧ (List.range 4).any (fun i => s.laneSt (4 * p.val + i) != .up)
      = true) ∧
    (∃ (s : State) (p : Fin 16), s.camSt p ≠ 1) ∧
    (∃ (s : State) (p : Fin 16), s.canonical = true ∧ s.camSt p = 1 ∧ s.quadAligned (4 * p.val) = true) ∧
    (∃ (s : State) (p : Fin 16) (payload : Nat), s.camSt p = 2 ∧ (s.camPort p).descNext < 6) ∧
    (∃ (s : State) (p : Fin 16) (idx payload : Nat), s.canonical = true ∧ s.camSt p = 2 ∧ (s.camPort p).descNext ≠ 0 ∧ idx ≠
      (s.camPort p).descNext ∧ (s.camPort p).attempts + 1 < 3 ∧ (s.camPort p).backQ = []) ∧
    (∃ (s : State) (p : Fin 16), s.canonical = true ∧ s.camSt p = 2 ∧ (s.camPort p).attempts + 1 < 3 ∧ (s.camPort p).backQ = []) ∧
    (∃ (s : State) (p : Fin 16), s.canonical = true ∧ s.camSt p = 2 ∧ 3 ≤ (s.camPort p).attempts + 1) ∧
    (∃ (s : State) (p : Fin 16), s.camSt p ≠ 2) ∧
    (∃ (s : State) (p : Fin 16), s.canonical = true) := by
  refine ⟨?_, ?_, ?_, ?_, ?_, ?_, ?_, ?_, ?_, ?_, ?_, ?_, ?_, ?_, ?_, ?_⟩
  · exact ⟨camIn 0, 0, by decide +kernel⟩
  · exact ⟨camIn 1, 15, by decide +kernel⟩
  · exact ⟨camIn 5, 0, by decide +kernel⟩
  · exact ⟨puts (camIn 5) [(F.CAM_CTRL_AUTO_RETRY, 0, 1)], 0, by decide +kernel⟩
  · exact ⟨camIn 4, 0, by decide +kernel⟩
  · exact ⟨puts (camIn 5) [(F.CAM_CTRL_AUTO_RETRY, 0, 0)], 0, by decide +kernel⟩
  · exact ⟨camIn 1, 3, by decide +kernel⟩
  · exact ⟨camIn 1, 0, by decide +kernel⟩
  · exact ⟨camIn 2, 0, by decide +kernel⟩
  · exact ⟨aligned 0 (camIn 1), 0, by decide +kernel⟩
  · exact ⟨camIn 2, 0, 5, by decide +kernel⟩
  · exact ⟨withPort (fun c => { c with descNext := 5 }) (camIn 2), 0, 6, 1, by decide +kernel⟩
  · exact ⟨camIn 2, 0, by decide +kernel⟩
  · exact ⟨withPort (fun c => { c with attempts := 2 }) (camIn 2), 0, by decide +kernel⟩
  · exact ⟨camIn 1, 0, by decide +kernel⟩
  · exact ⟨puts (camIn 4) [(F.CAM_TEMP_VALID0, 0, 1), (F.CAM_TEMP_TEMP0, 0, 300)], 0, by decide +kernel⟩

/-- Operands that meet the hypotheses of Obligations.CueLaunches, clause by clause. -/
theorem met_CueLaunches :
    (∃ (s u : State) (dt : Nat) (p : Fin 16) (n : LineNo) (rest : List LineNo), u = s.advance dt ∧ s.canonical = true ∧ (u.camPort
      p).cueQ = n :: rest ∧ u.camSt p = 4 ∧ u.mem.done = [] ∧ u.glb.trans = none ∧ u.glb.pend = none) ∧
    (∃ (s : State) (p : Fin 16), s.canonical = true ∧ s.camSt p = 4) ∧
    (∃ (s : State) (p : Fin 16), s.camSt p ≠ 4) := by
  refine ⟨?_, ?_, ?_⟩
  · exact ⟨withPort (fun c => { c with cueQ := [256] }) (camIn 4), _, 9, 0, 256, [], rfl, by decide +kernel⟩
  · exact ⟨camIn 4, 0, by decide +kernel⟩
  · exact ⟨camIn 3, 0, by decide +kernel⟩

/-- Operands that meet the hypotheses of Obligations.CameraLines, clause by clause. -/
theorem met_CameraLines :
    (∃ (s : State) (p : Fin 16) (j : Fin 2) (mrow sid : Nat) (line : LineNo) (hdr : DWord) (data : List DWord) (bits : Nat) (crc :
      Word), s.canonical = true ∧ s.camSt p = 4 ∧ j.val < s.portHeads p ∧ frameCrcOk hdr data crc = true ∧ line = s.lastLine p j
      + 1 ∧ (s.camHead p j).missing = [] ∧ pixelCount (8 + 2 * min (s.headDepth (headOf p j)) 4) bits data = s.headPixels
      (headOf p j) ∧ (s.camPort p).fifo.length < 8 ∧ p.val < s.cam.length ∧ s.mem.done = [] ∧ s.glb.trans = none ∧ s.glb.pend =
      none) ∧
    (∃ (s : State) (p : Fin 16) (j : Fin 2) (mrow sid : Nat) (line : LineNo) (hdr : DWord) (data : List DWord) (bits : Nat) (crc :
      Word), s.canonical = true ∧ s.camSt p = 4 ∧ j.val < s.portHeads p ∧ frameCrcOk hdr data crc = false ∧ line ≠ s.lastLine p
      j + 1 ∧ (s.camHead p j).missing = [] ∧ s.fld F.CAM_MALF_RUN_RUN p < 15 ∧ s.mem.done = [] ∧ s.glb.trans = none ∧ s.glb.pend
      = none) ∧
    (∃ (s u : State) (dt : Nat) (p : Fin 16) (j : Fin 2), u = s.advance dt ∧ s.canonical = true ∧ u.camSt p = 4 ∧ j.val <
      u.portHeads p ∧ (u.camPort p).launches.any (fun l => l.line == u.lastLine p j + 1 && decide (l.at_ + 100 * max (u.fld
      F.CAM_TIMING_LINE_TMO p) 1 < u.clk)) = true ∧ (u.camHead p j).missing = [] ∧ u.fld F.CAM_MALF_RUN_RUN p < 15 ∧ u.mem.done
      = [] ∧ u.glb.trans = none ∧ u.glb.pend = none) := by
  refine ⟨?_, ?_, ?_⟩
  · exact ⟨camIn 4, 0, 0, 1, 0, 1, 7, List.replicate 8 0x0102030405060708, 0, BitVec.ofNat 32 (crc32 (((7 : DWord) :: List.replicate 8
      0x0102030405060708).flatMap (fun w => leBytes 8 w.toNat))), by decide +kernel⟩
  · exact ⟨camIn 4, 0, 0, 1, 0, 2, 7, [1], 0, 1, by decide +kernel⟩
  · exact ⟨withPort (fun c => { c with launches := [⟨1, 0, 0, 0⟩] }) (camIn 4), _, 100000, 0, 0, rfl, by decide +kernel⟩

/-- Operands that meet the hypotheses of Obligations.PortRehearsals, clause by clause. -/
theorem met_PortRehearsals :
    (∃ (s : State) (p : Fin 16) (j : Nat) (line : LineNo), s.canonical = true ∧ 2 ≤ s.camSt p ∧ s.mem.done = [] ∧ s.glb.trans = none
      ∧ s.glb.pend = none) ∧
    (∃ (s : State) (p : Fin 16) (code j : Nat) (line : LineNo), s.camSt p < 2 ∧ s.mem.done = [] ∧ s.glb.trans = none ∧ s.glb.pend =
      none) ∧
    (∃ (s : State) (p : Fin 16), s.canonical = true ∧ s.mode = .perform ∧ s.camSt p = 4 ∧ s.bit F.CAM_STATUS_STALE p = true ∧ s.bit
      F.CAM_STATUS_PREH p = false) ∧
    (∃ (s : State) (p : Fin 16), s.bit F.CAM_STATUS_STALE p = false) ∧
    (∃ (s : State) (p : Fin 16), s.canonical = true ∧ s.bit F.CAM_STATUS_PREH p = true ∧ (s.camPort p).swap = 0) ∧
    (∃ (s : State) (p : Fin 16), (s.bit F.CAM_STATUS_PREH p = false ∨ (s.camPort p).swap ≠ 0)) := by
  refine ⟨?_, ?_, ?_, ?_, ?_, ?_⟩
  · exact ⟨camIn 5, 0, 1, 5, by decide +kernel⟩
  · exact ⟨camIn 0, 0, 2, 1, 5, by decide +kernel⟩
  · exact ⟨puts (camIn 4) [(F.CAM_STATUS_STALE, 0, 1)], 0, by decide +kernel⟩
  · exact ⟨camIn 4, 0, by decide +kernel⟩
  · exact ⟨puts (camIn 4) [(F.CAM_STATUS_PREH, 0, 1)], 0, by decide +kernel⟩
  · exact ⟨camIn 4, 0, by decide +kernel⟩

/-- Operands that meet the hypotheses of Obligations.LinesAndBoundaries, clause by clause. -/
theorem met_LinesAndBoundaries :
    (∃ (s : State) (p : Fin 16) (faults : List (Nat × Bool)) (j : Nat) (raw : RawLine) (rest : List (Nat × RawLine)) (h : Nat),
      s.canonical = true ∧ s.canDeliver p = true ∧ (s.camPort p).fifo = (j, raw) :: rest ∧ h = headOf p j ∧ h <
      s.cor.heads.length ∧ s.due .cor h raw.line = false ∧ (s.deliver p faults).mem.done = [] ∧ s.glb.trans = none ∧ s.glb.pend
      = none) ∧
    (∃ (s : State) (p : Fin 16) (faults : List (Nat × Bool)), s.canDeliver p = false) ∧
    (∃ (s : State) (x : Stage) (h : Fin 32) (n : LineNo), s.canonical = true ∧ s.due x h n = true ∧ s.atStage x h n = true ∧
      (s.stageBoundary x h n).mem.done = [] ∧ s.glb.trans = none ∧ s.glb.pend = none) ∧
    (∃ (s : State) (x : Stage) (h : Fin 32) (n : LineNo), (s.due x h n = false ∨ s.atStage x h n = false)) := by
  refine ⟨?_, ?_, ?_, ?_⟩
  · exact ⟨withPort (fun c => { c with fifo := [(0, raw64 1)] }) (camIn 4), 0, [], 0, raw64 1, [], 0, by decide +kernel⟩
  · exact ⟨camIn 4, 0, [], by decide +kernel⟩
  · exact ⟨withPort (fun c => { c with fifo := [(0, raw64 256)] }) (camIn 4), .cor, 0, 256, by decide +kernel⟩
  · exact ⟨camIn 4, .seg, 31, 1, by decide +kernel⟩

/-- Operands that meet the hypotheses of Obligations.ExposureLoop, clause by clause. -/
theorem met_ExposureLoop :
    (∃ (s : State) (p : Fin 16) (least : Nat), least = (List.range (s.portHeads p)).foldl (fun m j => min m (s.corHead (headOf p
      j)).closed) (s.corHead (headOf p 0)).closed ∧ s.canonical = true ∧ s.bit F.COR_EXP_CFG_EN p = true ∧ s.portHeads p ≠ 0 ∧
      (s.corPort p).ran < least ∧ s.echoedAll p (s.fld F.COR_EXP_STATE_SID p) = false) ∧
    (∃ (s : State) (p : Fin 16) (least k now m : Nat) (heads : List CorHead), least = (List.range (s.portHeads p)).foldl (fun m j =>
      min m (s.corHead (headOf p j)).closed) (s.corHead (headOf p 0)).closed ∧ k = s.fld F.COR_EXP_STATE_SID p ∧ now = s.fld
      F.COR_EXP_STATE_EXPOSURE p ∧ heads = (List.range (s.portHeads p)).map (fun j => s.corHead (headOf p j)) ∧ m = heads.foldl
      (fun a c => (c.spansOf k).foldl (fun b sp => max b (spanLevel (s.expPct p) sp)) a) 0 ∧ s.canonical = true ∧ s.bit
      F.COR_EXP_CFG_EN p = true ∧ s.portHeads p ≠ 0 ∧ (s.corPort p).ran < least ∧ s.echoedAll p k = true ∧ (∀ c ∈ heads, s.fld
      F.COR_EXP_STEP_MIN_LINES p ≤ sumN ((c.spansOf k).map (fun sp => sp.lines))) ∧ m ≠ 0 ∧ s.fld F.COR_EXP_STEP_DEADBAND p * m
      ≤ absN ((s.fld F.COR_EXP_CFG_TARGET p : Int) - m) * 200 ∧ (s.expStep p m now).1 ≠ now) ∧
    (∃ (s : State) (p : Fin 16) (least k now m : Nat) (heads : List CorHead), least = (List.range (s.portHeads p)).foldl (fun m j =>
      min m (s.corHead (headOf p j)).closed) (s.corHead (headOf p 0)).closed ∧ k = s.fld F.COR_EXP_STATE_SID p ∧ now = s.fld
      F.COR_EXP_STATE_EXPOSURE p ∧ heads = (List.range (s.portHeads p)).map (fun j => s.corHead (headOf p j)) ∧ m = heads.foldl
      (fun a c => (c.spansOf k).foldl (fun b sp => max b (spanLevel (s.expPct p) sp)) a) 0 ∧ s.canonical = true ∧ s.bit
      F.COR_EXP_CFG_EN p = true ∧ s.portHeads p ≠ 0 ∧ (s.corPort p).ran < least ∧ s.echoedAll p k = true ∧ (∀ c ∈ heads, s.fld
      F.COR_EXP_STEP_MIN_LINES p ≤ sumN ((c.spansOf k).map (fun sp => sp.lines))) ∧ m ≠ 0 ∧ s.fld F.COR_EXP_STEP_DEADBAND p * m
      ≤ absN ((s.fld F.COR_EXP_CFG_TARGET p : Int) - m) * 200 ∧ s.expStep p m now = (now, true)) ∧
    (∃ (s : State) (p : Fin 16), s.bit F.COR_EXP_CFG_EN p = false) := by
  refine ⟨?_, ?_, ?_, ?_⟩
  · exact ⟨loopAt [], 0, _, rfl, by decide +kernel⟩
  · exact ⟨loopAt [0], 0, _, _, _, _, _, rfl, rfl, rfl, rfl, rfl, by decide +kernel⟩
  · exact ⟨puts (loopAt [0]) [(F.COR_EXP_LIM_EXP_MAX, 0, 1000)], 0, _, _, _, _, _, rfl, rfl, rfl, rfl, rfl, by decide +kernel⟩
  · exact ⟨camIn 4, 0, by decide +kernel⟩

/-- Operands that meet the hypotheses of Obligations.FlatFieldRuns, clause by clause. -/
theorem met_FlatFieldRuns :
    (∃ (s : State) (h : Fin 32) (r : FfRun), s.canonical = true ∧ (s.corHead h).run = some r ∧ r.done = true ∧ s.ffDisagree h r = 0
      ∧ (r.dark = false → s.ffRejected h r * 1000 ≤ F.COR_FF_TOL_REJ_MAX.get r.tol * s.headPixels h)) ∧
    (∃ (s : State) (h : Fin 32) (r : FfRun), s.canonical = true ∧ (s.corHead h).run = some r ∧ r.done = true ∧ (s.ffDisagree h r ≠ 0
      ∨ r.dark = false ∧ F.COR_FF_TOL_REJ_MAX.get r.tol * s.headPixels h < s.ffRejected h r * 1000)) ∧
    (∃ (s : State) (h : Fin 32), (s.corHead h).run = none) ∧
    (∃ (s : State) (h : Fin 32) (r : FfRun), s.canonical = true ∧ (s.corHead h).run = some r ∧ (s.corHead h).writing = true ∧ r.dark
      = true) ∧
    (∃ (s : State) (h : Fin 32), (s.corHead h).retry ≠ some 0) ∧
    (∃ (s : State) (h : Fin 32), (s.corHead h).retry = some 0) := by
  refine ⟨?_, ?_, ?_, ?_, ?_, ?_⟩
  · exact ⟨withCor (fun c => { c with run := some (ran true 5 5) }) (camIn 4), 0, ran true 5 5, by decide +kernel⟩
  · exact ⟨withCor (fun c => { c with run := some (ran true 5 5000) }) (camIn 4), 0, ran true 5 5000, by decide +kernel⟩
  · exact ⟨camIn 4, 31, by decide +kernel⟩
  · exact ⟨withCor (fun c => { c with run := some (ran true 5 5), writing := true }) (camIn 4), 0, ran true 5 5, by decide +kernel⟩
  · exact ⟨withCor (fun c => { c with retry := some 1 }) (camIn 4), 0, by decide +kernel⟩
  · exact ⟨withCor (fun c => { c with retry := some 0 }) (camIn 4), 0, by decide +kernel⟩

/-- Operands that meet the hypotheses of Obligations.PinsAndCoding, clause by clause. -/
theorem met_PinsAndCoding :
    (∃ (typ fields : Nat), typ ∈ cameraTypes) ∧
    (∃ (s : State) (x : BitVec 4), s.canonical = true ∧ filter3of4 true x = false) ∧
    (∃ (s : State) (q : Requester) (addr v : Word) (p : Nat), s.canonical = true ∧ addr.toNat < 0x1000000 ∧ regAt addr.toNat =
      some (.CAM_CTRL, p) ∧ F.CAM_CTRL_REFOUT_EN.get v = 0) := by
  refine ⟨?_, ?_, ?_⟩
  · exact ⟨0x1E, 0, by decide +kernel⟩
  · exact ⟨inMode .hold, 8, by decide +kernel⟩
  · exact ⟨inMode .hold, .management, 0x00100000, 1, 0, by decide +kernel⟩

/-- Operands that meet the hypotheses of Obligations.RunsAndObjects, clause by clause. -/
theorem met_RunsAndObjects :
    (∃ (s u : State) (r : Run) (rest : List FifoEntry), u = { s with seg := { s.seg with fifo := rest } } ∧ s.canonical = true ∧
      s.seg.fifo = .run r :: rest ∧ s.boundaryLine r.info.line = false ∧ s.inOvf r.info.head = false ∧ (s.segHead
      r.info.head).lblArm = false ∧ u.connectedObjs r = [] ∧ u.ctxFree ≠ 0) ∧
    (∃ (s u : State) (r : Run) (rest : List FifoEntry) (o : Obj), u = { s with seg := { s.seg with fifo := rest } } ∧ s.canonical =
      true ∧ s.seg.fifo = .run r :: rest ∧ s.boundaryLine r.info.line = false ∧ s.inOvf r.info.head = false ∧ (s.segHead
      r.info.head).lblArm = false ∧ u.connectedObjs r = [o]) ∧
    (∃ (s u : State) (r : Run) (rest : List FifoEntry) (a b : Obj), u = { s with seg := { s.seg with fifo := rest } } ∧ s.canonical
      = true ∧ s.seg.fifo = .run r :: rest ∧ s.boundaryLine r.info.line = false ∧ s.inOvf r.info.head = false ∧ (s.segHead
      r.info.head).lblArm = false ∧ u.connectedObjs r = [a, b] ∧ a.oid ≠ b.oid) ∧
    (∃ (s : State) (r : Run) (rest : List FifoEntry), s.seg.fifo = .run r :: rest ∧ s.boundaryLine r.info.line = false ∧ s.inOvf
      r.info.head = true) ∧
    (∃ (s : State) (i : LineInfo) (rest : List FifoEntry), s.seg.fifo = .marker i :: rest) ∧
    (∃ (s : State) (i : LineInfo) (rest : List FifoEntry), s.canonical = true ∧ s.seg.fifo = .marker i :: rest ∧ s.boundaryLine
      i.line = false ∧ i.head < s.seg.heads.length) ∧
    (∃ (s : State) (r : Run) (rest : List FifoEntry), s.seg.fifo = .run r :: rest) ∧
    (∃ (s : State), s.seg.fifo = []) ∧
    (∃ (s : State) (oid : Oid) (rest : List Oid) (o : Obj), s.canonical = true ∧ s.seg.closeQ = oid :: rest ∧ s.objOf oid = some o ∧
      o.contacts = []) ∧
    (∃ (s : State) (oid : Oid) (rest : List Oid) (o : Obj), s.canonical = true ∧ s.seg.closeQ = oid :: rest ∧ s.objOf oid = some o ∧
      o.contacts ≠ []) ∧
    (∃ (s : State), s.seg.closeQ = []) ∧
    (∃ (s : State) (c : Comp), s.canonical = true ∧ s.seg.comps.find? s.compReady = some c ∧ c.members.any (fun m => m.contacts.any
      (fun x => x.seam == 32)) = false ∧ c.members.any (fun m => m.opened) = true) ∧
    (∃ (s : State) (c : Comp), s.canonical = true ∧ s.seg.comps.find? s.compReady = some c ∧ c.members.any (fun m => m.contacts.any
      (fun x => x.seam == 32)) = true) ∧
    (∃ (s : State), s.seg.comps.find? s.compReady = none) ∧
    (∃ (s : State) (k : Fin 32) (w : Window), s.canonical = true ∧ (s.seam k).closed = some w) ∧
    (∃ (s : State) (k : Fin 32), (s.seam k).closed = none) := by
  refine ⟨?_, ?_, ?_, ?_, ?_, ?_, ?_, ?_, ?_, ?_, ?_, ?_, ?_, ?_, ?_, ?_⟩
  · exact ⟨fifoOf [.run (runOf 1 2 3)] (inMode .perform), _, runOf 1 2 3, [], rfl, by decide +kernel⟩
  · exact ⟨object (runOf 1 2 3) [.run (runOf 2 3 4)], _, runOf 2 3 4, [], objAt 0 (object (runOf 1 2 3) [.run (runOf 2 3 4)]), rfl,
      by decide +kernel⟩
  · exact ⟨objects [.run (runOf 2 3 5)], _, runOf 2 3 5, [], objAt 0 (objects [.run (runOf 2 3 5)]), objAt 1 (objects [.run (runOf 2 3
      5)]), rfl, by decide +kernel⟩
  · exact ⟨fifoOf [.run (runOf 1 2 3)] (atM .perform [(F.SEG_OVF_STATE_V, 0, 1)]), runOf 1 2 3, [], by decide +kernel⟩
  · exact ⟨fifoOf [.marker (lineOf 1)] (inMode .perform), lineOf 1, [], by decide +kernel⟩
  · exact ⟨object (runOf 1 2 3) [.marker (lineOf 4)], lineOf 4, [], by decide +kernel⟩
  · exact ⟨fifoOf [.run (runOf 1 2 3)] (inMode .perform), runOf 1 2 3, [], by decide +kernel⟩
  · exact ⟨inMode .perform, by decide +kernel⟩
  · exact ⟨closing (object (runOf 1 2 3) []), 0, [], objAt 0 (closing (object (runOf 1 2 3) [])), by decide +kernel⟩
  · exact ⟨closing (object (runAt 1 2 3 0 true) []), 0, [], objAt 0 (closing (object (runAt 1 2 3 0 true) [])), by decide +kernel⟩
  · exact ⟨inMode .perform, by decide +kernel⟩
  · exact ⟨waiting (component true []), component true [], by decide +kernel⟩
  · exact ⟨waiting (component true [⟨32, true, 0, 0⟩]), component true [⟨32, true, 0, 0⟩], by decide +kernel⟩
  · exact ⟨inMode .perform, by decide +kernel⟩
  · exact ⟨withSeam 0 (fun x => { x with closed := some noWindow }) (inMode .perform), 0, noWindow, by decide +kernel⟩
  · exact ⟨inMode .perform, 0, by decide +kernel⟩

/-- Operands that meet the hypotheses of Obligations.WebPosition, clause by clause. -/
theorem met_WebPosition :
    (∃ (s u : State) (dt : Nat) (sa sb : BitVec 4) (a b back : Bool) (p : BitVec 72), u = s.advance dt ∧ p = (if back then u.pos.p -
      BitVec.ofNat 72 u.posScale else u.pos.p + BitVec.ofNat 72 u.posScale) ∧ s.canonical = true ∧ u.posOn = true ∧ u.chMode 0 =
      1 ∧ a = filter3of4 (u.ench 0).a sa ∧ b = filter3of4 (u.ench 0).b sb ∧ quadDecode (u.bit F.POS_CHCFG_DIR 0) (u.ench 0).a
      (u.ench 0).b a b = .count back ∧ sdiff p u.pos.q < 0) ∧
    (∃ (s u : State) (dt : Nat) (sa sb : BitVec 4) (a b back : Bool) (p : BitVec 72), u = s.advance dt ∧ p = (if back then u.pos.p -
      BitVec.ofNat 72 u.posScale else u.pos.p + BitVec.ofNat 72 u.posScale) ∧ (∀ t0, u.pos.lastCue = some t0 → t0 + u.fld
      F.POS_CUE_MIN_CUE_MIN ≤ u.clk) ∧ s.canonical = true ∧ u.posOn = true ∧ u.chMode 0 = 1 ∧ a = filter3of4 (u.ench 0).a sa ∧ b
      = filter3of4 (u.ench 0).b sb ∧ quadDecode (u.bit F.POS_CHCFG_DIR 0) (u.ench 0).a (u.ench 0).b a b = .count back ∧ 0 ≤
      sdiff p u.pos.q ∧ u.cuesOn = true) ∧
    (∃ (s u : State) (dt : Nat) (sa sb : BitVec 4) (a b back : Bool) (p : BitVec 72) (t0 : Nat), u = s.advance dt ∧ p = (if back
      then u.pos.p - BitVec.ofNat 72 u.posScale else u.pos.p + BitVec.ofNat 72 u.posScale) ∧ s.canonical = true ∧ u.posOn = true
      ∧ u.chMode 0 = 1 ∧ a = filter3of4 (u.ench 0).a sa ∧ b = filter3of4 (u.ench 0).b sb ∧ quadDecode (u.bit F.POS_CHCFG_DIR 0)
      (u.ench 0).a (u.ench 0).b a b = .count back ∧ 0 ≤ sdiff p u.pos.q ∧ u.cuesOn = true ∧ u.pos.lastCue = some t0 ∧ u.clk < t0
      + u.fld F.POS_CUE_MIN_CUE_MIN) ∧
    (∃ (s u : State) (dt : Nat) (sa sb : BitVec 4) (a b : Bool), u = s.advance dt ∧ s.canonical = true ∧ u.posOn = true ∧ u.chMode 0
      = 1 ∧ a = filter3of4 (u.ench 0).a sa ∧ b = filter3of4 (u.ench 0).b sb ∧ quadDecode (u.bit F.POS_CHCFG_DIR 0) (u.ench 0).a
      (u.ench 0).b a b = .illegal) ∧
    (∃ (s u : State) (dt : Nat) (sa sb : BitVec 4), u = s.advance dt ∧ u.posOn = true ∧ u.chMode 0 = 1 ∧ filter3of4 (u.ench 0).a sa
      = (u.ench 0).a ∧ filter3of4 (u.ench 0).b sb = (u.ench 0).b) ∧
    (∃ (s u : State) (dt : Nat) (sa sb : BitVec 4), u = s.advance dt ∧ u.posOn = false) := by
  refine ⟨?_, ?_, ?_, ?_, ?_, ?_⟩
  · exact ⟨short, _, 7, 0, 0x7, false, true, true, _, rfl, rfl, by decide +kernel⟩
  · exact ⟨encOn .perform [], _, 7, 0x7, 0, true, false, false, _, rfl, rfl, onSome (by decide +kernel), by decide +kernel⟩
  · exact ⟨withPos (fun p => { p with lastCue := some 0 }) (encOn .perform [(F.POS_CUE_MIN_CUE_MIN, 0, 8)]), _, 7, 0x7, 0, true, false,
      false, _, 0, rfl, rfl, by decide +kernel⟩
  · exact ⟨short, _, 7, 0xE, 0xD, true, true, rfl, by decide +kernel⟩
  · exact ⟨short, _, 7, 0x1, 0x2, rfl, by decide +kernel⟩
  · exact ⟨inMode .dark, _, 7, 0xF, 0xF, rfl, by decide +kernel⟩

/-- Operands that meet the hypotheses of Obligations.EncoderFaults, clause by clause. -/
theorem met_EncoderFaults :
    (∃ (s : State) (pair : Fin 3), s.canonical = true ∧ s.posOn = true ∧ s.wireChecked 0 pair = true ∧ bitAt (s.ench 0).wires pair =
      false ∧ s.bit F.POS_STATUS_ENC_FAULT = false) ∧
    (∃ (s : State) (c : Fin 8) (pair : Fin 3), s.canonical = true ∧ s.posOn = true ∧ s.wireChecked c pair = true ∧ bitAt (s.ench
      c).wires pair = false ∧ c.val ≠ 0) ∧
    (∃ (s : State) (c : Fin 8) (pair : Fin 3), (s.wireChecked c pair = false ∨ bitAt (s.ench c).wires pair = true)) ∧
    (∃ (s : State) (c : Fin 8) (pair : Fin 3), s.canonical = true ∧ s.posOn = true ∧ bitAt (s.ench c).wires pair = true) ∧
    (∃ (s u : State) (dt : Nat), u = s.advance dt ∧ s.canonical = true ∧ u.posOn = true ∧ u.bit F.POS_STATUS_ENC_FAULT = true ∧
      u.cleanRun 0 = true ∧ u.zrefNeeded = false) ∧
    (∃ (s u : State) (dt : Nat), u = s.advance dt ∧ u.posOn = true ∧ u.bit F.POS_STATUS_ENC_FAULT = true ∧ u.cleanRun 0 = true ∧
      u.zrefNeeded = true) ∧
    (∃ (s u : State) (dt : Nat), u = s.advance dt ∧ u.cleanRun 0 = false) ∧
    (∃ (s : State) (sz : BitVec 4), s.canonical = true ∧ s.posOn = true ∧ s.zRises 0 sz = true ∧ s.chMode 0 = 1 ∧ s.bit
      F.POS_CHCFG_Z_EN 0 = true ∧ s.pos.zv = false) ∧
    (∃ (s : State) (sz : BitVec 4), s.canonical = true ∧ s.posOn = true ∧ s.zRises 0 sz = true ∧ s.chMode 0 = 1 ∧ s.bit
      F.POS_CHCFG_Z_EN 0 = true ∧ s.pos.zv = true ∧ s.fld F.POS_ZCFG_ZPERIOD ≠ 0 ∧ s.bit F.GLB_STATUS_VERIFY = false ∧ s.bit
      F.POS_STATUS_ENC_FAULT = false ∧ s.fld F.POS_ZCFG_ZTOL < s.zError.natAbs) ∧
    (∃ (s : State) (sz : BitVec 4), s.canonical = true ∧ s.posOn = true ∧ s.zRises 0 sz = true ∧ s.chMode 0 = 1 ∧ s.bit
      F.POS_CHCFG_Z_EN 0 = true ∧ s.pos.zv = true ∧ s.fld F.POS_ZCFG_ZPERIOD ≠ 0 ∧ s.bit F.POS_STATUS_ENC_FAULT = true ∧ s.bit
      F.POS_CTRL_ZREF = true) ∧
    (∃ (s : State) (sz : BitVec 4), s.posOn = true ∧ s.zRises 0 sz = false) := by
  refine ⟨?_, ?_, ?_, ?_, ?_, ?_, ?_, ?_, ?_, ?_, ?_⟩
  · exact ⟨encOn .perform [(F.POS_CHCFG_WIRE_EN, 0, 1), (F.POS_CHCFG_WIRE_EN, 7, 1), (F.POS_CHCFG_Z_EN, 0, 1)], 2, by decide +kernel⟩
  · exact ⟨encOn .perform [(F.POS_CHCFG_WIRE_EN, 0, 1), (F.POS_CHCFG_WIRE_EN, 7, 1), (F.POS_CHCFG_Z_EN, 0, 1)], 7, 1, by decide +kernel⟩
  · exact ⟨encOn .perform [(F.POS_CHCFG_WIRE_EN, 0, 1), (F.POS_CHCFG_WIRE_EN, 7, 1), (F.POS_CHCFG_Z_EN, 0, 1)], 7, 2, by decide +kernel⟩
  · exact ⟨withCh 7 (fun x => { x with wires := 4 }) (encOn .perform [(F.POS_CHCFG_WIRE_EN, 0, 1), (F.POS_CHCFG_WIRE_EN, 7, 1),
      (F.POS_CHCFG_Z_EN, 0, 1)]), 7, 2, by decide +kernel⟩
  · exact ⟨encOn .perform [(F.POS_CHCFG_WIRE_EN, 0, 1), (F.POS_CHCFG_WIRE_EN, 7, 1), (F.POS_CHCFG_Z_EN, 0, 1), (F.POS_STATUS_ENC_FAULT, 0,
      1), (F.POS_STATUS_UNCERTAIN, 0, 1)], _, 327680, rfl, by decide +kernel⟩
  · exact ⟨encOn .perform [(F.POS_CHCFG_WIRE_EN, 0, 1), (F.POS_CHCFG_WIRE_EN, 7, 1), (F.POS_CHCFG_Z_EN, 0, 1), (F.POS_STATUS_ENC_FAULT, 0,
      1), (F.POS_CTRL_ZREF, 0, 1), (F.POS_ZCFG_ZPERIOD, 0, 1000), (F.POS_ZCFG_ZTOL, 0, 4)], _, 327680, rfl, by decide +kernel⟩
  · exact ⟨encOn .perform [(F.POS_CHCFG_WIRE_EN, 0, 1), (F.POS_CHCFG_WIRE_EN, 7, 1), (F.POS_CHCFG_Z_EN, 0, 1), (F.POS_STATUS_ENC_FAULT, 0,
      1)], _, 327679, rfl, by decide +kernel⟩
  · exact ⟨encOn .perform [(F.POS_CHCFG_WIRE_EN, 0, 1), (F.POS_CHCFG_WIRE_EN, 7, 1), (F.POS_CHCFG_Z_EN, 0, 1), (F.POS_ZCFG_ZPERIOD, 0,
      1000), (F.POS_ZCFG_ZTOL, 0, 4)], 0xB, by decide +kernel⟩
  · exact ⟨withPos (fun p => { p with zv := true, c := 1005 }) (encOn .perform [(F.POS_CHCFG_WIRE_EN, 0, 1), (F.POS_CHCFG_WIRE_EN, 7, 1),
      (F.POS_CHCFG_Z_EN, 0, 1), (F.POS_ZCFG_ZPERIOD, 0, 1000), (F.POS_ZCFG_ZTOL, 0, 4)]), 0xB, by decide +kernel⟩
  · exact ⟨withPos (fun p => { p with zv := true, c := 1005 }) (encOn .perform [(F.POS_CHCFG_WIRE_EN, 0, 1), (F.POS_CHCFG_WIRE_EN, 7, 1),
      (F.POS_CHCFG_Z_EN, 0, 1), (F.POS_ZCFG_ZPERIOD, 0, 1000), (F.POS_ZCFG_ZTOL, 0, 4), (F.POS_STATUS_ENC_FAULT, 0, 1),
      (F.POS_CTRL_ZREF, 0, 1)]), 0xB, by decide +kernel⟩
  · exact ⟨encOn .perform [(F.POS_CHCFG_WIRE_EN, 0, 1), (F.POS_CHCFG_WIRE_EN, 7, 1), (F.POS_CHCFG_Z_EN, 0, 1), (F.POS_ZCFG_ZPERIOD, 0,
      1000), (F.POS_ZCFG_ZTOL, 0, 4)], 0x9, by decide +kernel⟩

/-- Operands that meet the hypotheses of Obligations.RollersAndSpeed, clause by clause. -/
theorem met_RollersAndSpeed :
    (∃ (s u : State) (dt : Nat) (c : Fin 7) (sa sb : BitVec 4) (a b back : Bool) (k cpr : Nat), u = s.advance dt ∧ cpr = atLeast1
      (u.fld F.POS_CPR_CPR c) ∧ k = (if back then ((u.ench (c.val + 1)).count + cpr - 1) % cpr else ((u.ench (c.val + 1)).count
      + 1) % cpr) ∧ s.canonical = true ∧ u.posOn = true ∧ u.chMode (c.val + 1) = 1 ∧ a = filter3of4 (u.ench (c.val + 1)).a sa ∧
      b = filter3of4 (u.ench (c.val + 1)).b sb ∧ quadDecode (u.bit F.POS_CHCFG_DIR (c.val + 1)) (u.ench (c.val + 1)).a (u.ench
      (c.val + 1)).b a b = .count back ∧ c.val + 1 < u.pos.chans.length) ∧
    (∃ (s u : State) (dt : Nat) (c : Fin 7) (sz : BitVec 4), u = s.advance dt ∧ s.canonical = true ∧ u.posOn = true ∧ u.zRises
      (c.val + 1) sz = true ∧ u.chMode (c.val + 1) = 1 ∧ u.bit F.POS_CHCFG_Z_EN (c.val + 1) = true ∧ c.val + 1 <
      u.pos.chans.length) ∧
    (∃ (s u : State) (dt : Nat) (c : Fin 7) (sz : BitVec 4), u = s.advance dt ∧ u.posOn = true ∧ u.zRises (c.val + 1) sz = false) ∧
    (∃ (s u : State) (dt : Nat) (c : Fin 7) (sz : BitVec 4) (t0 : Nat), u = s.advance dt ∧ s.canonical = true ∧ u.posOn = true ∧
      u.zRises (c.val + 1) sz = true ∧ u.chMode (c.val + 1) = 2 ∧ (u.ench (c.val + 1)).tz = some t0 ∧ u.clk - t0 < atLeast1
      (u.fld F.POS_IDX_PMIN c) * 100000) ∧
    (∃ (s u : State) (dt : Nat) (c : Fin 7) (sz : BitVec 4) (t0 : Nat), u = s.advance dt ∧ s.canonical = true ∧ u.posOn = true ∧
      u.zRises (c.val + 1) sz = true ∧ u.chMode (c.val + 1) = 2 ∧ (u.ench (c.val + 1)).tz = some t0 ∧ c.val + 1 <
      u.pos.chans.length ∧ atLeast1 (u.fld F.POS_IDX_PMIN c) * 100000 ≤ u.clk - t0 ∧ u.clk - t0 ≤ atLeast1 (u.fld F.POS_IDX_PMAX
      c) * 100000) ∧
    (∃ (s u : State) (dt : Nat) (c : Fin 7) (t0 p : Nat), u = s.advance dt ∧ s.canonical = true ∧ u.posOn = true ∧ u.chMode (c.val +
      1) = 2 ∧ c.val + 1 < u.pos.chans.length ∧ u.bit F.POS_ROLL_FLT c = false ∧ (u.ench (c.val + 1)).tz = some t0 ∧ (u.ench
      (c.val + 1)).period = some p ∧ min (2 * p) (atLeast1 (u.fld F.POS_IDX_PMAX c) * 100000) < u.clk - t0) ∧
    (∃ (s u : State) (dt : Nat) (c : Fin 7) (t0 p : Nat), u = s.advance dt ∧ (u.ench (c.val + 1)).tz = some t0 ∧ (u.ench (c.val +
      1)).period = some p ∧ u.clk - t0 ≤ min (2 * p) (atLeast1 (u.fld F.POS_IDX_PMAX c) * 100000)) ∧
    (∃ (s u : State) (dt : Nat) (c : Fin 7), u = s.advance dt ∧ s.canonical = true ∧ u.posOn = true ∧ u.chMode (c.val + 1) = 1 ∧
      u.bit F.POS_CHCFG_Z_EN (c.val + 1) = false ∧ u.cleanRun (c.val + 1) = true ∧ (u.ench (c.val + 1)).late = false ∧ c.val + 1
      < u.pos.chans.length) ∧
    (∃ (s u : State) (dt : Nat), u = s.advance dt ∧ s.canonical = true ∧ u.posOn = true ∧ u.bit F.POS_SPEED_STOPPED = false ∧
      u.standstill = true) ∧
    (∃ (s u : State) (dt : Nat), u = s.advance dt ∧ (u.bit F.POS_SPEED_STOPPED = true ∨ u.standstill = false)) ∧
    (∃ (s u : State) (dt : Nat) (k : Fin 2) (pos : Int), u = s.advance dt ∧ pos = (u.emu k).pos + 1 ∧ (∀ t0, (u.emu k).lastStep =
      some t0 → t0 + 40 ≤ u.clk) ∧ s.canonical = true ∧ u.posOn = true ∧ 0 < (u.emu k).owed) ∧
    (∃ (s u : State) (dt : Nat) (k : Fin 2) (t0 : Nat), u = s.advance dt ∧ ((u.emu k).owed = 0 ∨ (u.emu k).lastStep = some t0 ∧
      u.clk < t0 + 40)) := by
  refine ⟨?_, ?_, ?_, ?_, ?_, ?_, ?_, ?_, ?_, ?_, ?_, ?_⟩
  · exact ⟨encOn .perform [(F.POS_CPR_CPR, 6, 100), (F.POS_CHCFG_Z_EN, 7, 1)], _, 7, 6, 0, 0xF, false, true, true, _, _, rfl, rfl, rfl,
      by decide +kernel⟩
  · exact ⟨encOn .perform [(F.POS_CPR_CPR, 6, 100), (F.POS_CHCFG_Z_EN, 7, 1)], _, 7, 6, 0x7, rfl, by decide +kernel⟩
  · exact ⟨encOn .perform [(F.POS_CPR_CPR, 6, 100), (F.POS_CHCFG_Z_EN, 7, 1)], _, 7, 6, 0x6, rfl, by decide +kernel⟩
  · exact ⟨withCh 7 (fun x => { x with tz := some 0, period := some 200000 }) (encOn .perform [(F.POS_CPR_CPR, 6, 100), (F.POS_CHCFG_Z_EN,
      7, 1), (F.POS_IDX_PMIN, 6, 2), (F.POS_IDX_PMAX, 6, 4), (F.POS_CHCFG_MODE, 7, 2)]), _, 199999, 6, 0xF, 0, rfl,
      by decide +kernel⟩
  · exact ⟨withCh 7 (fun x => { x with tz := some 0, period := some 200000 }) (encOn .perform [(F.POS_CPR_CPR, 6, 100), (F.POS_CHCFG_Z_EN,
      7, 1), (F.POS_IDX_PMIN, 6, 2), (F.POS_IDX_PMAX, 6, 4), (F.POS_CHCFG_MODE, 7, 2)]), _, 400000, 6, 0xF, 0, rfl,
      by decide +kernel⟩
  · exact ⟨withCh 7 (fun x => { x with tz := some 0, period := some 200000 }) (encOn .perform [(F.POS_CPR_CPR, 6, 100), (F.POS_CHCFG_Z_EN,
      7, 1), (F.POS_IDX_PMIN, 6, 2), (F.POS_IDX_PMAX, 6, 4), (F.POS_CHCFG_MODE, 7, 2)]), _, 400001, 6, 0, 200000, rfl,
      by decide +kernel⟩
  · exact ⟨withCh 7 (fun x => { x with tz := some 0, period := some 200000 }) (encOn .perform [(F.POS_CPR_CPR, 6, 100), (F.POS_CHCFG_Z_EN,
      7, 1), (F.POS_IDX_PMIN, 6, 2), (F.POS_IDX_PMAX, 6, 4), (F.POS_CHCFG_MODE, 7, 2)]), _, 400000, 6, 0, 200000, rfl,
      by decide +kernel⟩
  · exact ⟨encOn .perform [(F.POS_ROLL_FLT, 6, 1)], _, 327680, 6, rfl, by decide +kernel⟩
  · exact ⟨encOn .perform [(F.POS_SPD_CFG_STOP_TMO, 0, 3), (F.POS_SPEED_STOPPED, 0, 0)], _, 3000, rfl, by decide +kernel⟩
  · exact ⟨encOn .perform [(F.POS_SPD_CFG_STOP_TMO, 0, 3)], _, 2999, rfl, by decide +kernel⟩
  · exact ⟨withEmu 1 (fun e => { e with owed := 2, lastStep := some 0 }) (encOn .perform [(F.POS_EMU_CTL_EN, 1, 1)]), _, 40, 1, _, rfl,
      rfl, onSome (by decide +kernel), by decide +kernel⟩
  · exact ⟨withEmu 1 (fun e => { e with owed := 2, lastStep := some 0 }) (encOn .perform [(F.POS_EMU_CTL_EN, 1, 1)]), _, 39, 1, 0, rfl,
      by decide +kernel⟩

/-- Operands that meet the hypotheses of Obligations.MarkSchedule, clause by clause. -/
theorem met_MarkSchedule :
    (∃ (s : State) (r : MarkReq) (rest : List MarkReq) (m : Fin 4), s.canonical = true ∧ s.seg.markQ = r :: rest ∧ s.mrkOn m = true
      ∧ (∀ k, k < 4 → k ≠ m.val → s.mrkOn k = false) ∧ s.markSelection m r ≠ [] ∧ s.markRefusal (s.markFor m r (s.markSelection
      m r)) = 0) ∧
    (∃ (s : State) (r : MarkReq) (rest : List MarkReq) (m : Fin 4), s.canonical = true ∧ s.seg.markQ = r :: rest ∧ s.mrkOn m = true
      ∧ (∀ k, k < 4 → k ≠ m.val → s.mrkOn k = false) ∧ s.markSelection m r ≠ [] ∧ s.markRefusal (s.markFor m r (s.markSelection
      m r)) ≠ 0) ∧
    (∃ (s : State) (r : MarkReq) (rest : List MarkReq), s.canonical = true ∧ s.seg.markQ = r :: rest ∧ (∀ k, k < 4 → s.mrkOn k =
      false)) ∧
    (∃ (s : State), s.seg.markQ = []) ∧
    (∃ (s u : State) (m : Fin 4) (dt : Nat) (x : Mark), u = s.advance dt ∧ s.canonical = true ∧ u.mrk.marks = [x] ∧ x.port = m.val ∧
      x.join = none ∧ (u.mrkPort m).burst = none ∧ u.speedValid = true ∧ u.markDue x.target = true ∧ m.val < u.mrk.ports.length) ∧
    (∃ (s u : State) (m : Fin 4) (dt : Nat), u = s.advance dt ∧ (u.mrkPort m).burst = none ∧ (∀ x ∈ u.mrk.marks, x.port = m.val →
      x.join = none → u.markDue x.target = false)) := by
  refine ⟨?_, ?_, ?_, ?_, ?_, ?_⟩
  · exact ⟨asked 100000 (headIn 1 [(F.MRK_LEAD_LEAD, 0, 0)]), ⟨none, 7, 3, false, 0, 0, 100000, 100000⟩, [], 1, by decide +kernel⟩
  · exact ⟨asked 100 (headIn 2 []), ⟨none, 7, 3, false, 0, 0, 100, 100⟩, [], 1, by decide +kernel⟩
  · exact ⟨asked 100 (inMode .perform), ⟨none, 7, 3, false, 0, 0, 100, 100⟩, [], by decide +kernel⟩
  · exact ⟨inMode .perform, by decide +kernel⟩
  · exact ⟨scheduled [mark1] (headIn 1 []), _, 1, 7, mark1, rfl, by decide +kernel⟩
  · exact ⟨scheduled [{ mark1 with target := 8 }] (headIn 1 []), _, 1, 7, rfl, by decide +kernel⟩

/-- Operands that meet the hypotheses of Obligations.MarkLines, clause by clause. -/
theorem met_MarkLines :
    (∃ (s u : State) (m : Fin 4) (dt : Nat) (b : Burst), u = s.advance dt ∧ s.canonical = true ∧ (u.mrkPort m).burst = some b ∧
      b.posMode = false ∧ b.start + b.next * b.tau ≤ u.clk ∧ m.val < u.mrk.ports.length ∧ u.bit F.MRK_PSTAT_HOT m = false) ∧
    (∃ (s u : State) (m : Fin 4) (dt : Nat) (b : Burst), u = s.advance dt ∧ s.canonical = true ∧ (u.mrkPort m).burst = some b ∧
      b.posMode = false ∧ b.start + b.next * b.tau ≤ u.clk ∧ m.val < u.mrk.ports.length ∧ u.bit F.MRK_PSTAT_HOT m = true) ∧
    (∃ (s u : State) (m : Fin 4) (dt : Nat) (b : Burst), u = s.advance dt ∧ (u.mrkPort m).burst = some b ∧ u.clk < b.start + b.next
      * b.tau) ∧
    (∃ (s u : State) (m : Fin 4) (dt : Nat) (p : MrkPort), u = s.advance dt ∧ u.mrkPort m = p ∧ s.canonical = true ∧ p.latchHigh =
      true ∧ p.latchAt + max (u.fld F.MRK_LATCH_LATCH_W m) 10 ≤ u.clk ∧ p.burst = none) ∧
    (∃ (s u : State) (m : Fin 4) (dt : Nat) (p : MrkPort), ∃ b, u = s.advance dt ∧ u.mrkPort m = p ∧ s.canonical = true ∧
      p.latchHigh = true ∧ p.latchAt + max (u.fld F.MRK_LATCH_LATCH_W m) 10 ≤ u.clk ∧ p.burst = some b ∧ (u.bit F.MRK_PSTAT_HOT
      m = true ∨ p.loaded = some (u.lineNozzles m b.next))) ∧
    (∃ (s u : State) (m : Fin 4) (dt : Nat) (p : MrkPort), ∃ b, u = s.advance dt ∧ u.mrkPort m = p ∧ s.canonical = true ∧
      p.latchHigh = true ∧ p.latchAt + max (u.fld F.MRK_LATCH_LATCH_W m) 10 ≤ u.clk ∧ p.burst = some b ∧ u.bit F.MRK_PSTAT_HOT m
      = false ∧ p.loaded ≠ some (u.lineNozzles m b.next)) ∧
    (∃ (s u : State) (m : Fin 4) (dt : Nat), u = s.advance dt ∧ ((u.mrkPort m).latchHigh = false ∨ u.clk < (u.mrkPort m).latchAt +
      u.latchW m)) ∧
    (∃ (s u : State) (m : Fin 4) (dt : Nat) (p : MrkPort), u = s.advance dt ∧ u.mrkPort m = p ∧ s.canonical = true ∧ p.strobeHigh =
      true ∧ p.strobeAt + p.width ≤ u.clk) ∧
    (∃ (s u : State) (m : Fin 4) (dt : Nat), u = s.advance dt ∧ ((u.mrkPort m).strobeHigh = false ∨ u.clk < (u.mrkPort m).strobeAt +
      (u.mrkPort m).width)) := by
  refine ⟨?_, ?_, ?_, ?_, ?_, ?_, ?_, ?_, ?_⟩
  · exact ⟨firing [], _, 1, 1000, burst1, rfl, by decide +kernel⟩
  · exact ⟨firing [(F.MRK_PSTAT_HOT, 1, 1)], _, 1, 1000, burst1, rfl, by decide +kernel⟩
  · exact ⟨firing [], _, 1, 999, burst1, rfl, by decide +kernel⟩
  · exact ⟨latched1 none none [], _, 1, 30, _, rfl, rfl, by decide +kernel⟩
  · exact ⟨latched1 (some burst1) (some [2, 3]) [], _, 1, 30, _, burst1, rfl, rfl, by decide +kernel⟩
  · exact ⟨latched1 (some burst1) none [], _, 1, 30, _, burst1, rfl, rfl, by decide +kernel⟩
  · exact ⟨latched1 none none [], _, 1, 29, rfl, by decide +kernel⟩
  · exact ⟨strobed 80, _, 1, 80, _, rfl, rfl, by decide +kernel⟩
  · exact ⟨strobed 80, _, 1, 79, rfl, by decide +kernel⟩

/-- Operands that meet the hypotheses of Obligations.MarkHeads, clause by clause. -/
theorem met_MarkHeads :
    (∃ (s u : State) (m : Fin 4) (dt : Nat) (p : MrkPort), u = s.advance dt ∧ u.mrkPort m = p ∧ s.canonical = true ∧ p.strobeHigh =
      true ∧ p.strobeAt + 40 * min 498 (atLeast1 (u.fld F.MRK_TLIM_WD m)) ≤ u.clk ∧ p.strobeAt + p.width ≠ u.clk) ∧
    (∃ (s u : State) (m : Fin 4) (dt : Nat) (p : MrkPort), u = s.advance dt ∧ u.mrkPort m = p ∧ p.strobeHigh = true ∧ p.strobeAt +
      u.strobeLimit m ≤ u.clk ∧ p.strobeAt + p.width = u.clk) ∧
    (∃ (s u : State) (m : Fin 4) (dt : Nat), u = s.advance dt ∧ ((u.mrkPort m).strobeHigh = false ∨ u.clk < (u.mrkPort m).strobeAt +
      u.strobeLimit m)) ∧
    (∃ (s u : State) (m : Fin 4) (dt p h : Nat), u = s.advance dt ∧ s.canonical = true ∧ 16000 ≤ p ∧ p ≤ 24000 ∧ p ≤ 20 * h ∧ 20 * h
      ≤ 19 * p) ∧
    (∃ (s u : State) (m : Fin 4) (dt p h : Nat), u = s.advance dt ∧ s.canonical = true ∧ (p < 16000 ∨ 24000 < p ∨ 20 * h < p ∨ 19 *
      p < 20 * h)) ∧
    (∃ (s u : State) (m : Fin 4) (dt : Nat), u = s.advance dt ∧ (∀ c, (u.mrkPort m).lastAccept = some c → 1000000 ≤ u.clk - c) ∧
      s.canonical = true ∧ u.fld F.MRK_PSTAT_STATE m = 1) ∧
    (∃ (s u : State) (m : Fin 4) (dt : Nat), u = s.advance dt ∧ s.canonical = true ∧ u.fld F.MRK_PSTAT_STATE m ≠ 1 ∧ u.statLate m =
      true) ∧
    (∃ (s u : State) (m : Fin 4) (dt c : Nat), u = s.advance dt ∧ (u.mrkPort m).lastAccept = some c ∧ u.clk - c < 1000000) ∧
    (∃ (s u : State) (m : Fin 4) (dt c : Nat), u = s.advance dt ∧ s.canonical = true ∧ u.fld F.MRK_PSTAT_STATE m = 2 ∧ u.fld
      F.MRK_PSTAT_FREASON m = 1 ∧ (u.mrkPort m).lastAccept = some c ∧ u.clk - c < 1000000 ∧ 10000000 ≤ u.clk - (u.mrkPort
      m).runSince) ∧
    (∃ (s u : State) (m : Fin 4) (dt c : Nat), u = s.advance dt ∧ s.canonical = true ∧ u.fld F.MRK_PSTAT_STATE m = 2 ∧ u.fld
      F.MRK_PSTAT_FREASON m = 1 ∧ (u.mrkPort m).lastAccept = some c ∧ u.clk - c < 1000000 ∧ u.clk - (u.mrkPort m).runSince <
      10000000) ∧
    (∃ (s : State) (m : Fin 4), s.canonical = true ∧ s.fld F.MRK_PSTAT_STATE m = 2 ∧ s.fld F.MRK_PSTAT_FREASON m = 1) ∧
    (∃ (s : State) (m : Fin 4), s.canonical = true ∧ s.fld F.MRK_PSTAT_STATE m = 2 ∧ s.fld F.MRK_PSTAT_FREASON m = 2 ∧ (s.mrkPort
      m).tripAt ≠ some s.clk) ∧
    (∃ (s : State) (m : Fin 4), s.canonical = true ∧ s.fld F.MRK_PSTAT_STATE m = 2 ∧ s.fld F.MRK_PSTAT_FREASON m = 2 ∧ (s.mrkPort
      m).tripAt = some s.clk) := by
  refine ⟨?_, ?_, ?_, ?_, ?_, ?_, ?_, ?_, ?_, ?_, ?_, ?_, ?_⟩
  · exact ⟨strobed 121, _, 1, 120, _, rfl, rfl, by decide +kernel⟩
  · exact ⟨strobed 120, _, 1, 120, _, rfl, rfl, by decide +kernel⟩
  · exact ⟨strobed 121, _, 1, 119, rfl, by decide +kernel⟩
  · exact ⟨headIn 1 [], _, 1, 7, 16000, 800, rfl, by decide +kernel⟩
  · exact ⟨headIn 1 [], _, 1, 7, 16000, 799, rfl, by decide +kernel⟩
  · exact ⟨withMrk (fun p => { p with lastAccept := some 0 }) (headIn 1 []), _, 1, 1000000, rfl, onSome (by decide +kernel),
      by decide +kernel⟩
  · exact ⟨withMrk (fun p => { p with lastAccept := some 0 }) (headIn 0 []), _, 1, 1000000, rfl, by decide +kernel⟩
  · exact ⟨withMrk (fun p => { p with lastAccept := some 0 }) (headIn 1 []), _, 1, 999999, 0, rfl, by decide +kernel⟩
  · exact ⟨withMrk (fun p => { p with lastAccept := some 9500000 }) (headIn 2 [(F.MRK_PSTAT_FREASON, 1, 1)]), _, 1, 10000000, 9500000,
      rfl, by decide +kernel⟩
  · exact ⟨withMrk (fun p => { p with lastAccept := some 9500000 }) (headIn 2 [(F.MRK_PSTAT_FREASON, 1, 1)]), _, 1, 9999999, 9500000, rfl,
      by decide +kernel⟩
  · exact ⟨headIn 2 [(F.MRK_PSTAT_FREASON, 1, 1)], 1, by decide +kernel⟩
  · exact ⟨headIn 2 [(F.MRK_PSTAT_FREASON, 1, 2)], 1, by decide +kernel⟩
  · exact ⟨withMrk (fun p => { p with tripAt := some 0 }) (headIn 2 [(F.MRK_PSTAT_FREASON, 1, 2)]), 1, by decide +kernel⟩

/-- Operands that meet the hypotheses of Obligations.ArchiveJobs, clause by clause. -/
theorem met_ArchiveJobs :
    (∃ (s : State) (h : Fin 32) (r : ArcRow), s.canonical = true ∧ s.rowReady h = some r ∧ s.entryAddr h r.strip + 64 ≤
      s.memCapacity ∧ s.mem.done = [] ∧ s.glb.trans = none ∧ s.glb.pend = none) ∧
    (∃ (s : State) (h : Fin 32), s.rowReady h = none) ∧
    (∃ (s : State) (o : MemOp) (rest : List MemOp) (h : Nat) (row line : LineNo), s.canonical = true ∧ s.arc.werr = o :: rest ∧
      o.owner = .arcBlock h row line false ∧ o.data ≠ [] ∧ o.addr + o.data.length ≤ s.memCapacity ∧ s.mem.done = [] ∧
      s.glb.trans = none ∧ s.glb.pend = none) ∧
    (∃ (s : State) (o : MemOp) (rest : List MemOp) (h : Nat) (row line : LineNo) (r : ArcRow), s.canonical = true ∧ s.arc.werr = o
      :: rest ∧ o.owner = .arcBlock h row line true ∧ (s.arcHead h).rows.find? (fun x => x.strip == row) = some r ∧ (s.arcHead
      h).pend = [] ∧ s.mem.done = [] ∧ s.glb.trans = none ∧ s.glb.pend = none) ∧
    (∃ (s : State), s.arc.werr = []) ∧
    (∃ (s : State), s.arc.hostQ.length < 16) ∧
    (∃ (s : State), s.canonical = true ∧ 16 ≤ s.arc.hostQ.length) ∧
    (∃ (s x : State) (j : ArcJob) (tiles : List Tile) (r : ArcRow) (ys : List YPos) (pitch : Nat), s.canonical = true ∧ s.nextJob =
      some (j, x) ∧ s.jobFree = true ∧ x.jobRefusal j = 0 ∧ x.jobPlan j (!x.jobReady j) = some (tiles, r, ys, pitch) ∧ (∀ late,
      (x.jobBegin j late).mem.done = []) ∧ s.glb.trans = none ∧ s.glb.pend = none ∧ x.jobReady j = true) ∧
    (∃ (s x : State) (j : ArcJob) (tiles : List Tile) (r : ArcRow) (ys : List YPos) (pitch : Nat), s.canonical = true ∧ s.nextJob =
      some (j, x) ∧ s.jobFree = true ∧ x.jobRefusal j = 0 ∧ x.jobPlan j (!x.jobReady j) = some (tiles, r, ys, pitch) ∧ (∀ late,
      (x.jobBegin j late).mem.done = []) ∧ s.glb.trans = none ∧ s.glb.pend = none) ∧
    (∃ (s x : State) (j : ArcJob), s.canonical = true ∧ s.nextJob = some (j, x) ∧ s.jobFree = true ∧ x.jobRefusal j = 3 ∧ s.mem.done
      = [] ∧ s.glb.trans = none ∧ s.glb.pend = none) ∧
    (∃ (s : State), (s.nextJob = none ∨ s.jobFree = false)) ∧
    (∃ (s x : State) (j : ArcJob), s.nextJob = some (j, x) ∧ x.jobReady j = false) ∧
    (∃ (s : State) (r : ArcRun), s.canonical = true ∧ s.arc.run = some r ∧ r.blocks.all (fun b => b.data.isSome) = true ∧
      s.glb.trans = none ∧ s.glb.pend = none) ∧
    (∃ (s : State) (r : ArcRun), s.arc.run = some r ∧ r.blocks.all (fun b => b.data.isSome) = false) ∧
    (∃ (s : State), s.arc.run = none) := by
  refine ⟨?_, ?_, ?_, ?_, ?_, ?_, ?_, ?_, ?_, ?_, ?_, ?_, ?_, ?_, ?_⟩
  · exact ⟨archive [], 0, row1, by decide +kernel⟩
  · exact ⟨archive [], 1, by decide +kernel⟩
  · exact ⟨writeErr false, badWrite false, [], 0, 256, 257, by decide +kernel⟩
  · exact ⟨writeErr true, badWrite true, [], 0, 256, 257, row1, by decide +kernel⟩
  · exact ⟨archive [], by decide +kernel⟩
  · exact ⟨jobs 15 true (archive []), by decide +kernel⟩
  · exact ⟨jobs 16 true (archive []), by decide +kernel⟩
  · exact ⟨jobs 1 true (archive []), jobTaken (jobs 1 true (archive [])), job1 true, [{ tileOf 0 row1 (rowCols row1 8 none) with lines :=
      [some (256, 0)] }], row1, [0], 65536, by decide +kernel⟩
  · exact ⟨jobs 1 true (archive []), jobTaken (jobs 1 true (archive [])), job1 true, [{ tileOf 0 row1 (rowCols row1 8 none) with lines :=
      [some (256, 0)] }], row1, [0], 65536, by decide +kernel⟩
  · exact ⟨jobs 1 false (archive [(F.ARC_CTRL_SNIP_EN, 0, 0)]), jobTaken (jobs 1 false (archive [(F.ARC_CTRL_SNIP_EN, 0, 0)])), job1
      false, by decide +kernel⟩
  · exact ⟨archive [], by decide +kernel⟩
  · exact ⟨jobs 1 true (archive [(F.CAM_STATUS_STATE, 0, 4), (F.CAM_GEOM_NHEADS, 0, 1)]), jobTaken (jobs 1 true (archive
      [(F.CAM_STATUS_STATE, 0, 4), (F.CAM_GEOM_NHEADS, 0, 1)])), job1 true, by decide +kernel⟩
  · exact ⟨running1 true, ((running1 true).arc.run.getD ⟨job1 true, false, [], 0, 0, 1, 65536, 5, 1, false, [], []⟩), by decide +kernel⟩
  · exact ⟨running1 false, ((running1 false).arc.run.getD ⟨job1 true, false, [], 0, 0, 1, 65536, 5, 1, false, [], []⟩), by decide +kernel⟩
  · exact ⟨archive [], by decide +kernel⟩

/-- Operands that meet the hypotheses of Obligations.DmaTransfers, clause by clause. -/
theorem met_DmaTransfers :
    (∃ (s : State) (c : Fin 16), s.canonical = true ∧ s.dmaState c = 0) ∧
    (∃ (s : State) (c : Fin 16), s.canonical = true ∧ s.dmaState c ≠ 0) ∧
    (∃ (s : State) (c a b : Nat), a = s.getPair .DMA_ASRC_L .DMA_ASRC_H c ∧ b = s.getPair .DMA_ADST_L .DMA_ADST_H c ∧ s.canonical =
      true ∧ s.dma.run = none ∧ s.mode ≠ .standby ∧ s.mode ≠ .dark ∧ s.bit F.DMA_CTRL_EN = true ∧ s.dmaPick = some c ∧ a % 8 = 0
      ∧ b % 8 = 0 ∧ a + 8 ≤ s.memCapacity ∧ a < 0x2000000000 ∧ b + 8 ≤ s.memCapacity ∧ b < 0x2000000000 ∧ s.mem.done = [] ∧
      s.glb.trans = none ∧ s.glb.pend = none) ∧
    (∃ (s : State), (s.dma.run ≠ none ∨ s.mode = .standby ∨ s.mode = .dark ∨ s.glb.trans = some (.leaveHold true))) ∧
    (∃ (s : State), s.dma.run = none ∧ (s.bit F.DMA_CTRL_EN = false ∨ s.dmaPick = none) ∧ s.mem.done = [] ∧ s.glb.trans = none ∧
      s.glb.pend = none) ∧
    (∃ (s : State) (r : DmaRun) (i : Nat) (bad : Bool) (rest : List (Nat × Bool)), s.dma.run = some r ∧ s.dma.complete = (i, bad) ::
      rest) ∧
    (∃ (s : State) (r : DmaRun) (x : DmaErr) (rest : List DmaErr) (e : DmaEntry), s.canonical = true ∧ s.dma.run = some r ∧ r.chan <
      16 ∧ r.quiet = true ∧ s.dma.errs = x :: rest ∧ x.source = false ∧ r.dst.entries.find? (fun y => y.idx == x.which) = some e
      ∧ e.bad = none ∧ s.mem.done = [] ∧ s.glb.trans = none ∧ s.glb.pend = none) ∧
    (∃ (s : State) (r : DmaRun) (x : DmaErr) (rest : List DmaErr) (e : DmaEntry), s.canonical = true ∧ s.dma.run = some r ∧ r.quiet
      = true ∧ s.dma.errs = x :: rest ∧ x.source = false ∧ r.dst.entries.find? (fun y => y.idx == x.which) = some e ∧ e.bad ≠
      none ∧ s.mem.done = [] ∧ s.glb.trans = none ∧ s.glb.pend = none) ∧
    (∃ (s : State), s.dma.errs = []) ∧
    (∃ (s : State) (r : DmaRun) (o : MemOp) (ch serial entry : Nat), s.canonical = true ∧ s.dma.run = some r ∧ r.quiet = true ∧
      s.mem.ops.find? (fun y => y.ofDma) = some o ∧ o.owner = .dmaWrite ch serial entry ∧ s.mem.done = [] ∧ s.glb.trans = none ∧
      s.glb.pend = none) ∧
    (∃ (s : State), s.mem.ops.find? (fun y => y.ofDma) = none) ∧
    (∃ (s : State) (r : DmaRun) (source : Bool), s.canonical = true ∧ s.dma.run = some r ∧ s.dma.listFail = some source ∧ r.stop =
      false) ∧
    (∃ (s : State), (s.dma.listFail = none ∨ s.dma.run = none)) ∧
    (∃ (s : State) (r : DmaRun), s.canonical = true ∧ s.dma.run = some r ∧ r.chan < 16 ∧ s.dmaOver r = true ∧ s.glb.trans = none ∧
      s.glb.pend = none) ∧
    (∃ (s : State), s.dma.run = none) ∧
    (∃ (s : State), s.canonical = true) := by
  refine ⟨?_, ?_, ?_, ?_, ?_, ?_, ?_, ?_, ?_, ?_, ?_, ?_, ?_, ?_, ?_, ?_⟩
  · exact ⟨inMode .perform, 15, by decide +kernel⟩
  · exact ⟨atM .perform [(F.DMA_ACTRL_STATE, 15, 1)], 15, by decide +kernel⟩
  · exact ⟨memIn .perform [(F.DMA_CTRL_EN, 0, 1), (F.DMA_ACTRL_STATE, 2, 1)], 2, _, _, rfl, rfl, by decide +kernel⟩
  · exact ⟨inMode .dark, by decide +kernel⟩
  · exact ⟨memIn .perform [(F.DMA_CTRL_EN, 0, 1)], by decide +kernel⟩
  · exact ⟨dmaOn (fun d => { d with complete := [(0, true), (1, false)] }) (transfer none), transfer none, 0, true, [(1, false)],
      by decide +kernel⟩
  · exact ⟨dmaOn (fun d => { d with errs := [⟨false, 0, 1⟩] }) (transfer none), transfer none, ⟨false, 0, 1⟩, [], ⟨0, 0, 64, 0, 0, none,
      true⟩, by decide +kernel⟩
  · exact ⟨dmaOn (fun d => { d with errs := [⟨false, 0, 1⟩] }) (transfer (some 2)), transfer (some 2), ⟨false, 0, 1⟩, [], ⟨0, 0, 64, 0, 0,
      some 2, true⟩, by decide +kernel⟩
  · exact ⟨inMode .perform, by decide +kernel⟩
  · exact ⟨withMem (fun m => { m with ops := [{ access true with owner := .dmaWrite 2 0 0 }] }) (dmaOn id (transfer none)), transfer none,
      { access true with owner := .dmaWrite 2 0 0 }, 2, 0, 0, by decide +kernel⟩
  · exact ⟨inMode .perform, by decide +kernel⟩
  · exact ⟨dmaOn (fun d => { d with listFail := some true }) (transfer none), transfer none, true, by decide +kernel⟩
  · exact ⟨inMode .perform, by decide +kernel⟩
  · exact ⟨dmaOn id { transfer none with stop := true }, { transfer none with stop := true }, by decide +kernel⟩
  · exact ⟨inMode .perform, by decide +kernel⟩
  · exact ⟨inMode .perform, by decide +kernel⟩

/-- Operands that meet the hypotheses of Obligations.MemoryAccesses, clause by clause. -/
theorem met_MemoryAccesses :
    (∃ (s u : State) (sc : Fin 8) (dt : Nat) (last : Bool) (x : MemTx), u = s.advance dt ∧ s.canonical = true ∧ s.bit
      F.MEM_STATUS_READY = true ∧ s.mem.slice = none ∧ s.mem.migForce = false ∧ s.mem.done = [] ∧ s.glb.trans = none ∧
      s.glb.pend = none ∧ u.firstOf (u.eligible sc) = some x ∧ s.rowHit x = true) ∧
    (∃ (s u : State) (sc : Fin 8) (dt : Nat) (last : Bool) (x : MemTx), u = s.advance dt ∧ s.canonical = true ∧ s.bit
      F.MEM_STATUS_READY = true ∧ s.mem.slice = none ∧ s.mem.migForce = false ∧ s.mem.done = [] ∧ s.glb.trans = none ∧
      s.glb.pend = none ∧ u.firstOf (u.eligible sc) = some x ∧ s.openRow (s.txRank x) (s.bankOf (s.memMap x.addr).2) = none) ∧
    (∃ (s : State) (sc : Fin 8) (dt : Nat) (x : MemTx) (o : MemOp), s.canonical = true ∧ s.oldestIssued sc true = some x ∧
      s.mem.ops.find? (fun y => y.id == x.op) = some o ∧ x.write = true ∧ x.addr - o.addr + x.len ≤ o.data.length) ∧
    (∃ (s : State) (sc : Fin 8) (dt : Nat), s.oldestIssued sc true = none) ∧
    (∃ (s : State) (sc : Fin 8) (dt : Nat) (x : MemTx) (o : MemOp), s.canonical = true ∧ s.oldestIssued sc false = some x ∧
      s.mem.poison.contains (x.addr / 64) = false ∧ x.write = false ∧ s.mem.ops.find? (fun y => y.id == x.op) = some o ∧ 2 ≤
      o.left ∧ s.mem.done = [] ∧ s.glb.trans = none ∧ s.glb.pend = none) ∧
    (∃ (s : State) (sc : Fin 8) (dt : Nat) (out : ReadOutcome), s.oldestIssued sc false = none) ∧
    (∃ (s : State) (sc : Fin 8) (x : MemTx), s.canonical = true ∧ s.oldestIssued sc true = some x ∧ x.crc < 3 ∧ s.mem.done = [] ∧
      s.glb.trans = none ∧ s.glb.pend = none) := by
  refine ⟨?_, ?_, ?_, ?_, ?_, ?_, ?_⟩
  · exact ⟨waitingPiece false [(0, 0)], _, 0, 3, true, piece false, rfl, by decide +kernel⟩
  · exact ⟨waitingPiece true [], _, 0, 3, true, piece true, rfl, by decide +kernel⟩
  · exact ⟨issuedPiece true, 0, 3, piece true, access true, by decide +kernel⟩
  · exact ⟨issuedPiece true, 1, 3, by decide +kernel⟩
  · exact ⟨issuedPiece false, 0, 3, piece false, access false, by decide +kernel⟩
  · exact ⟨issuedPiece false, 1, 3, .clean, by decide +kernel⟩
  · exact ⟨issuedPiece true, 0, piece true, by decide +kernel⟩

/-- Operands that meet the hypotheses of Obligations.MemoryUpkeep, clause by clause. -/
theorem met_MemoryUpkeep :
    (∃ (s : State) (bands : List (Fin 4)) (r : Fin 16), s.canonical = true ∧ s.bit F.MEM_STATUS_READY = true ∧ s.inService r = true) ∧
    (∃ (s : State) (bands : List (Fin 4)), s.bit F.MEM_STATUS_READY = false) ∧
    (∃ (s : State) (rank : Fin 16), s.canonical = true ∧ s.bit F.MEM_STATUS_READY = true ∧ rank.val % 2 < s.memRanks ∧ (s.memRank
      rank).selfRef = false ∧ s.rankRetired rank = false ∧ s.debt rank + 1 < 5) ∧
    (∃ (s : State) (rank : Fin 16), s.canonical = true ∧ s.bit F.MEM_STATUS_READY = true ∧ rank.val % 2 < s.memRanks ∧ (s.memRank
      rank).selfRef = false ∧ s.rankRetired rank = false ∧ 5 ≤ s.debt rank + 1) ∧
    (∃ (s : State) (rank : Fin 16), ((s.memRank rank).selfRef = true ∨ s.rankRetired rank = true)) ∧
    (∃ (s : State) (rank : Fin 16) (line : Nat), s.canonical = true ∧ s.bit F.MEM_CFG_SCRUB_EN = true ∧ s.bit F.MEM_STATUS_READY =
      true ∧ s.inService rank = true ∧ line < 2 ^ 27 ∧ s.mem.poison.contains ((s.memUnmap rank (64 * line)).getD (64 * line) /
      64) = false ∧ s.mem.done = [] ∧ s.glb.trans = none ∧ s.glb.pend = none) ∧
    (∃ (s : State) (rank : Fin 16) (line : Nat), s.canonical = true ∧ s.bit F.MEM_CFG_SCRUB_EN = true ∧ s.bit F.MEM_STATUS_READY =
      true ∧ s.inService rank = true ∧ line < 2 ^ 27 ∧ s.mem.poison.contains ((s.memUnmap rank (64 * line)).getD (64 * line) /
      64) = false ∧ s.mem.done = [] ∧ s.glb.trans = none ∧ s.glb.pend = none ∧ (∀ x ∈ s.mem.waiting, x.port ≠ 2 ∨ x.write =
      true)) ∧
    (∃ (s : State), s.canonical = true ∧ s.copying = true ∧ s.migK + 4096 < 2 ^ 33 ∧ s.mem.done = [] ∧ s.glb.trans = none ∧
      s.glb.pend = none) ∧
    (∃ (s : State), s.copying = true ∧ s.fld F.MEM_MIG_CFG_FLOOR ≠ 0) ∧
    (∃ (s : State), (s.copying = false ∨ s.fld F.MEM_MIG_CFG_FLOOR = 0)) ∧
    (∃ (s : State), s.copying = false) ∧
    (∃ (s : State) (fsp : Fin 2), s.canonical = true ∧ s.mode = .hold ∧ s.glb.trans = none ∧ s.glb.pend = none ∧ s.mem.change = none
      ∧ s.fld F.MEM_STATUS_FSP ≠ fsp.val) ∧
    (∃ (s : State) (fsp : Fin 2), s.canonical = true ∧ s.mode ≠ .hold ∧ s.glb.trans = none ∧ s.glb.pend = none) ∧
    (∃ (s : State) (f first : Nat), s.canonical = true ∧ s.mem.change = some (f, first) ∧ f < 2 ∧ s.mem.held = none ∧ (∀ o ∈
      s.mem.ops, first ≤ o.id) ∧ s.glb.trans = none ∧ s.glb.pend = none) ∧
    (∃ (s : State) (r : Nat), s.canonical = true ∧ s.bit F.MEM_STATUS_READY = true ∧ s.fld F.MEM_TRN_CFG_PERIOD ≠ 0 ∧ s.mem.slice =
      none ∧ ((List.range 16).map (fun i => (s.mem.trainRank + i) % 16)).find? s.inService = some r) ∧
    (∃ (s : State) (last forced : Bool) (r : Nat), s.canonical = true ∧ s.bit F.MEM_STATUS_READY = true ∧ s.mem.slice = some (r,
      forced)) := by
  refine ⟨?_, ?_, ?_, ?_, ?_, ?_, ?_, ?_, ?_, ?_, ?_, ?_, ?_, ?_, ?_, ?_⟩
  · exact ⟨memIn .perform [], [3], 0, by decide +kernel⟩
  · exact ⟨inMode .perform, [3], by decide +kernel⟩
  · exact ⟨memIn .perform [], 2, by decide +kernel⟩
  · exact ⟨puts (memIn .perform []) [(debtFld 2, 0, 4)], 2, by decide +kernel⟩
  · exact ⟨withMem (fun m => { m with ranks := m.ranks.set 3 { selfRef := true, ce := 0, ceSince := 0, limited := false, failed := false }
      }) (memIn .perform []), 3, by decide +kernel⟩
  · exact ⟨memIn .perform [(F.MEM_CFG_SCRUB_EN, 0, 1)], 2, 5, by decide +kernel⟩
  · exact ⟨memIn .perform [(F.MEM_CFG_SCRUB_EN, 0, 1)], 2, 5, by decide +kernel⟩
  · exact ⟨memIn .perform [(F.MEM_STATUS_MIG, 0, 1)], by decide +kernel⟩
  · exact ⟨memIn .perform [(F.MEM_STATUS_MIG, 0, 1), (F.MEM_MIG_CFG_FLOOR, 0, 3)], by decide +kernel⟩
  · exact ⟨memIn .perform [], by decide +kernel⟩
  · exact ⟨memIn .perform [], by decide +kernel⟩
  · exact ⟨memIn .hold [], 1, by decide +kernel⟩
  · exact ⟨memIn .perform [], 1, by decide +kernel⟩
  · exact ⟨withMem (fun m => { m with change := some (1, 6) }) (memIn .hold []), 1, 6, by decide +kernel⟩
  · exact ⟨memIn .perform [(F.MEM_TRN_CFG_PERIOD, 0, 1)], 0, by decide +kernel⟩
  · exact ⟨withMem (fun m => { m with slice := some (4, true) }) (memIn .perform []), true, true, 4, by decide +kernel⟩

/-- Operands that meet the hypotheses of Obligations.LaneStates, clause by clause. -/
theorem met_LaneStates :
    (∃ (s : State) (l : Fin 104) (ctle : Fin 16) (gain : Fin 64) (dfe : List Byte), s.canonical = true ∧ s.laneSt l = .acq ∧ s.refOk
      l = true) ∧
    (∃ (s : State) (l : Fin 104) (ctle : Fin 16) (gain : Fin 64) (dfe : List Byte), (s.laneSt l ≠ .acq ∨ s.refOk l = false)) ∧
    (∃ (s : State) (l : Fin 104) (signal : Bool), s.canonical = true ∧ s.laneSt l = .up) ∧
    (∃ (s : State) (l : Fin 104), s.canonical = true ∧ s.laneSt l = .up) ∧
    (∃ (s : State) (l : Fin 104) (signal : Bool), s.laneSt l ≠ .up) ∧
    (∃ (s : State) (l : Fin 104) (signal : Bool), s.laneSt l ≠ .up ∧ s.retrainedNow l = false) ∧
    (∃ (s : State) (l : Fin 104) (signal : Bool), s.laneSt l ≠ .up ∧ s.retrainedNow l = true ∧ s.canonical = true) ∧
    (∃ (s : State) (host : Bool) (count : Nat), s.canonical = true ∧ (count < 1552 ∨ 1566 < count) ∧ s.lne.refBad.getD (b2n host) 0
      = 1) ∧
    (∃ (s : State) (host : Bool) (count : Nat), (count < 1552 ∨ 1566 < count) ∧ s.lne.refBad.getD (b2n host) 0 ≠ 1) ∧
    (∃ (s : State) (host : Bool) (count : Nat), s.canonical = true ∧ 1552 ≤ count ∧ count ≤ 1566) ∧
    (∃ (s : State) (l : Fin 104), s.canonical = true ∧ isHostLane l = false ∧ s.laneSt l = .up) ∧
    (∃ (s : State) (l : Fin 104), (isHostLane l = true ∨ s.laneSt l ≠ .up)) ∧
    (∃ (s : State) (l : Fin 104), s.canonical = true ∧ (s.laneSt l = .up ∨ s.laneSt l = .acq ∧ (s.lane l).eighth = false)) ∧
    (∃ (s : State) (l : Fin 104), s.canonical = true ∧ s.laneSt l = .deep) := by
  refine ⟨?_, ?_, ?_, ?_, ?_, ?_, ?_, ?_, ?_, ?_, ?_, ?_, ?_, ?_⟩
  · exact ⟨laneIn 103 2 [], 103, 15, 63, [], by decide +kernel⟩
  · exact ⟨atM .perform [(F.LNE_STATE_STATE, 103, 2)], 103, 15, 63, [], by decide +kernel⟩
  · exact ⟨laneIn 103 3 [], 103, true, by decide +kernel⟩
  · exact ⟨laneIn 0 3 [], 0, by decide +kernel⟩
  · exact ⟨laneIn 0 4 [], 0, true, by decide +kernel⟩
  · exact ⟨laneIn 0 2 [], 0, true, by decide +kernel⟩
  · exact ⟨ran1 (.laneRetrain 103) (laneIn 103 3 []), 103, true, by decide +kernel⟩
  · exact ⟨refBadAt 1 (inMode .perform), true, 1567, by decide +kernel⟩
  · exact ⟨refBadAt 0 (inMode .perform), true, 1551, by decide +kernel⟩
  · exact ⟨refBadAt 1 (inMode .perform), true, 1566, by decide +kernel⟩
  · exact ⟨laneIn 87 3 [], 87, by decide +kernel⟩
  · exact ⟨laneIn 88 3 [], 88, by decide +kernel⟩
  · exact ⟨laneIn 103 3 [], 103, by decide +kernel⟩
  · exact ⟨laneIn 103 1 [], 103, by decide +kernel⟩

/-- Operands that meet the hypotheses of Obligations.LaneTests, clause by clause. -/
theorem met_LaneTests :
    (∃ (s : State) (l : Fin 104) (v : Word), s.canonical = true ∧ v.getLsbD 0 = true ∧ s.laneSt l = .test) ∧
    (∃ (s : State) (l : Fin 104) (v : Word), s.canonical = true ∧ v.getLsbD 0 = true ∧ s.laneSt l ≠ .test ∧ s.laneReleased l = true) ∧
    (∃ (s : State) (l : Fin 104) (v : Word), s.canonical = true ∧ v.getLsbD 0 = true ∧ s.laneSt l ≠ .test ∧ s.laneReleased l =
      false) ∧
    (∃ (s : State) (l : Fin 104) (v : Word), s.canonical = true ∧ v.getLsbD 0 = false) ∧
    (∃ (s : State) (v : Word), s.canonical = true) ∧
    (∃ (s : State) (l : Fin 104), s.canonical = true ∧ s.laneSt l = .test ∧ s.bit F.LNE_TEST_CHK l = true ∧ s.bit F.LNE_TSTAT_LOCKED
      l = false) ∧
    (∃ (s : State) (l : Fin 104) (n : Nat), s.canonical = true ∧ s.laneSt l = .test ∧ s.bit F.LNE_TEST_CHK l = true ∧ s.bit
      F.LNE_TSTAT_LOCKED l = true) ∧
    (∃ (s : State) (l : Fin 104) (n : Nat), s.canonical = true ∧ s.laneSt l = .test ∧ s.bit F.LNE_TEST_CHK l = true ∧ s.bit
      F.LNE_TSTAT_LOCKED l = true ∧ (s.lane l).window = true) ∧
    (∃ (s : State) (l : Fin 104) (n : Nat), (s.laneSt l ≠ .test ∨ s.bit F.LNE_TEST_CHK l = false)) ∧
    (∃ (s u : State) (dt : Nat) (l : Fin 104) (up : Bool), u = s.advance dt ∧ s.canonical = true ∧ u.laneSt l = .up ∧ u.bit
      F.LNE_CFG_ADAPT l = true ∧ ((u.lane l).stepAt = 0 ∨ (u.lane l).stepAt + 40000 ≤ u.clk + 1)) ∧
    (∃ (s u : State) (dt : Nat) (l : Fin 104) (up : Bool), u = s.advance dt ∧ s.canonical = true ∧ u.laneSt l = .up ∧ u.bit
      F.LNE_CFG_ADAPT l = true ∧ ((u.lane l).stepAt = 0 ∨ (u.lane l).stepAt + 40000 ≤ u.clk + 1)) ∧
    (∃ (s u : State) (dt : Nat) (l : Fin 104) (up : Bool) (k : Fin 12), u = s.advance dt ∧ s.canonical = true ∧ u.laneSt l = .up ∧
      u.bit F.LNE_CFG_ADAPT l = true ∧ ((u.lane l).stepAt = 0 ∨ (u.lane l).stepAt + 40000 ≤ u.clk + 1) ∧ 2 ≤ k.val) ∧
    (∃ (s u : State) (dt : Nat) (l : Fin 104) (k : Fin 12) (up : Bool), u = s.advance dt ∧ (u.laneSt l ≠ .up ∨ u.bit F.LNE_CFG_ADAPT
      l = false ∨ (u.lane l).stepAt ≠ 0 ∧ u.clk + 1 < (u.lane l).stepAt + 40000)) := by
  refine ⟨?_, ?_, ?_, ?_, ?_, ?_, ?_, ?_, ?_, ?_, ?_, ?_, ?_⟩
  · exact ⟨laneIn 103 5 [], 103, 0xFF, by decide +kernel⟩
  · exact ⟨laneIn 103 3 [], 103, 1, by decide +kernel⟩
  · exact ⟨laneIn 103 3 [(F.HST_PCFG_EN, 3, 1)], 103, 1, by decide +kernel⟩
  · exact ⟨laneIn 103 5 [], 103, 0xFE, by decide +kernel⟩
  · exact ⟨withLane 103 (fun x => { x with window := true }) (laneIn 103 5 []), 0xFF, by decide +kernel⟩
  · exact ⟨laneIn 103 5 [(F.LNE_TEST_CHK, 103, 1), (F.LNE_TSTAT_LOCKED, 103, 0)], 103, by decide +kernel⟩
  · exact ⟨laneIn 103 5 [(F.LNE_TEST_CHK, 103, 1), (F.LNE_TSTAT_LOCKED, 103, 1)], 103, 9, by decide +kernel⟩
  · exact ⟨withLane 103 (fun x => { x with window := true }) (laneIn 103 5 [(F.LNE_TEST_CHK, 103, 1), (F.LNE_TSTAT_LOCKED, 103, 1)]), 103,
      0x100000000, by decide +kernel⟩
  · exact ⟨laneIn 103 3 [], 103, 9, by decide +kernel⟩
  · exact ⟨laneIn 103 3 [(F.LNE_CFG_ADAPT, 103, 1)], _, 9, 103, true, rfl, by decide +kernel⟩
  · exact ⟨withLane 103 (fun x => { x with stepAt := 1 }) (laneIn 103 3 [(F.LNE_CFG_ADAPT, 103, 1)]), _, 40000, 103, false, rfl,
      by decide +kernel⟩
  · exact ⟨laneIn 103 3 [(F.LNE_CFG_ADAPT, 103, 1)], _, 9, 103, false, 11, rfl, by decide +kernel⟩
  · exact ⟨withLane 103 (fun x => { x with stepAt := 1 }) (laneIn 103 3 [(F.LNE_CFG_ADAPT, 103, 1)]), _, 39999, 103, 11, true, rfl,
      by decide +kernel⟩

/-- Operands that meet the hypotheses of Obligations.LaneBlocks, clause by clause. -/
theorem met_LaneBlocks :
    (∃ (s : State) (l : Fin 104), s.laneSt l = .low) ∧
    (∃ (s : State) (l : Fin 104) (a : FabAddr) (m : Fin 16), s.canonical = true ∧ s.laneSt l = .low) ∧
    (∃ (s : State) (l : Fin 104), s.canonical = true ∧ s.laneSt l = .low) ∧
    (∃ (s : State) (l : Fin 104), s.canonical = true ∧ s.laneSt l = .low) ∧
    (∃ (s : State) (l : Fin 104) (a : FabAddr) (m : Fin 16), s.laneSt l ≠ .low) ∧
    (∃ (s : State) (l : Fin 104) (a : FabAddr) (m : Fin 16), s.laneSt l ≠ .low ∧ s.laneSt l ≠ .acq) ∧
    (∃ (s : State) (l : Fin 104), s.canonical = true ∧ (s.showsBlocks l = true ∨ s.laneSt l = .low)) ∧
    (∃ (s : State) (l : Fin 104) (since : Nat) (hdr : BitVec 2), s.canonical = true ∧ (s.showsBlocks l = true ∨ s.laneSt l = .low) ∧
      s.bit F.LNE_STATE_HDR_OK l = false) ∧
    (∃ (s : State) (l : Fin 104) (since : Nat) (hdr : BitVec 2) (bs : List Bool), bs = lastN 64 ((s.lane l).blocks ++ List.replicate
      (min since 64) true ++ [false]) ∧ s.canonical = true ∧ (s.showsBlocks l = true ∨ s.laneSt l = .low) ∧ s.bit
      F.LNE_STATE_HDR_OK l = true ∧ (bs.filter (fun b => !b)).length < 16) ∧
    (∃ (s : State) (l : Fin 104) (since : Nat) (hdr : BitVec 2), s.canonical = true ∧ s.bit F.LNE_STATE_HDR_OK l = true ∧ 16 ≤
      ((lastN 64 ((s.lane l).blocks ++ List.replicate (min since 64) true ++ [false])).filter (fun b => !b)).length ∧ s.laneSt l
      = .low) ∧
    (∃ (s : State) (l : Fin 104) (since : Nat) (hdr : BitVec 2), s.canonical = true ∧ s.bit F.LNE_STATE_HDR_OK l = true ∧ 16 ≤
      ((lastN 64 ((s.lane l).blocks ++ List.replicate (min since 64) true ++ [false])).filter (fun b => !b)).length ∧ s.laneSt l
      = .up ∧ isCamLane l = true ∧ s.camSt (l.val / 4) ≠ 0) ∧
    (∃ (s : State) (l : Fin 104) (since : Nat) (hdr : BitVec 2), s.canonical = true ∧ s.bit F.LNE_STATE_HDR_OK l = true ∧ 16 ≤
      ((lastN 64 ((s.lane l).blocks ++ List.replicate (min since 64) true ++ [false])).filter (fun b => !b)).length ∧ s.laneSt l
      = .up ∧ isFabLane l = true ∧ s.fabSt ((l.val - 64) / 4) = .up) ∧
    (∃ (s : State) (l : Fin 104) (seq pos : Nat) (u : State), u = { s with lne := { s.lne with lanes := s.lne.lanes.set l { s.lane l
      with marker := some (seq, pos), missed := 0 } } } ∧ (∀ k, u.markerSkew (l.val - l.val % 4) = some k → k ≤ 32) ∧
      s.showsBlocks l = true ∧ s.bit F.LNE_STATE_HDR_OK l = true) ∧
    (∃ (s : State) (l : Fin 104) (seq pos : Nat) (u : State), ∃ k, u = { s with lne := { s.lne with lanes := s.lne.lanes.set l {
      s.lane l with marker := some (seq, pos), missed := 0 } } } ∧ s.showsBlocks l = true ∧ s.bit F.LNE_STATE_HDR_OK l = true ∧
      u.markerSkew (l.val - l.val % 4) = some k ∧ 32 < k ∧ isCamLane l = true ∧ s.canonical = true ∧ s.camSt (l.val / 4) ≠ 0) ∧
    (∃ (s : State) (l : Fin 104), s.showsBlocks l = true ∧ s.bit F.LNE_STATE_HDR_OK l = true ∧ (s.lane l).missed = 0) ∧
    (∃ (s : State) (l : Fin 104), s.showsBlocks l = true ∧ s.bit F.LNE_STATE_HDR_OK l = true ∧ (s.lane l).missed ≠ 0 ∧ isCamLane l =
      true ∧ s.canonical = true ∧ s.camSt (l.val / 4) ≠ 0) ∧
    (∃ (s : State) (l : Fin 104) (seq pos : Nat), (s.showsBlocks l = false ∨ s.bit F.LNE_STATE_HDR_OK l = false)) := by
  refine ⟨?_, ?_, ?_, ?_, ?_, ?_, ?_, ?_, ?_, ?_, ?_, ?_, ?_, ?_, ?_, ?_, ?_⟩
  · exact ⟨laneIn 103 4 [], 103, by decide +kernel⟩
  · exact ⟨laneIn 103 4 [], 103, 7, 5, by decide +kernel⟩
  · exact ⟨laneIn 103 4 [], 103, by decide +kernel⟩
  · exact ⟨puts (laneIn 103 4 [(F.GLB_WAKE_CFG_LANE, 0, 1)]) [(F.GLB_MODE_MODE, 0, Mode.standby.code)], 103, by decide +kernel⟩
  · exact ⟨laneIn 103 3 [], 103, 7, 5, by decide +kernel⟩
  · exact ⟨laneIn 103 3 [], 103, 7, 5, by decide +kernel⟩
  · exact ⟨laneIn 87 3 [], 87, by decide +kernel⟩
  · exact ⟨laneIn 87 3 [], 87, 3, 0, by decide +kernel⟩
  · exact ⟨badBlocks 87 14 (laneIn 87 3 (lockedLane 87)), 87, 49, 3, _, rfl, by decide +kernel⟩
  · exact ⟨badBlocks 103 15 (laneIn 103 4 (lockedLane 103)), 103, 48, 3, by decide +kernel⟩
  · exact ⟨badBlocks 63 15 (laneIn 63 3 ([(F.CAM_STATUS_STATE, 15, 4)] ++ lockedLane 63)), 63, 48, 3, by decide +kernel⟩
  · exact ⟨badBlocks 64 15 (laneIn 64 3 ([(F.FAB_PSTAT_STATE, 0, FabSt.up.code)] ++ lockedLane 64)), 64, 48, 3, by decide +kernel⟩
  · exact ⟨withLane 3 (fun x => { x with marker := some (1, 0) }) (withLane 2 (fun x => { x with marker := some (1, 0) }) (withLane 1 (fun
      x => { x with marker := some (1, 0) }) (laneIn 0 3 (lockedLane 0)))), 0, 1, 32, _, rfl, onSome (by decide +kernel),
      by decide +kernel⟩
  · exact ⟨withLane 3 (fun x => { x with marker := some (1, 0) }) (withLane 2 (fun x => { x with marker := some (1, 0) }) (withLane 1 (fun
      x => { x with marker := some (1, 0) }) (laneIn 0 3 ([(F.CAM_STATUS_STATE, 0, 4)] ++ lockedLane 0)))), 0, 1, 33, _, 33,
      rfl, by decide +kernel⟩
  · exact ⟨laneIn 87 3 (lockedLane 87), 87, by decide +kernel⟩
  · exact ⟨withLane 63 (fun x => { x with missed := 1 }) (laneIn 63 3 ([(F.CAM_STATUS_STATE, 15, 4)] ++ lockedLane 63)), 63,
      by decide +kernel⟩
  · exact ⟨laneIn 103 3 [], 103, 1, 0, by decide +kernel⟩

/-- Operands that meet the hypotheses of Obligations.HostInterfaces, clause by clause. -/
theorem met_HostInterfaces :
    (∃ (s : State) (j : Fin 16), s.canonical = true ∧ s.ifEnabled j = true ∧ s.ifLanesUp j = true ∧ s.ifUp j = false) ∧
    (∃ (s : State) (j : Fin 16) (remote : Bool), s.canonical = true ∧ s.ifUp j = true) ∧
    (∃ (s u : State) (dt next : Nat), u = s.advance dt ∧ s.canonical = true ∧ next = (if u.activeIf == u.fld F.HST_TX_CFG_PRI then
      u.fld F.HST_TX_CFG_ALT else u.fld F.HST_TX_CFG_PRI) ∧ u.bit F.HST_TX_CFG_ALT_EN = true ∧ u.ifUp u.activeIf = false ∧
      u.ifUp next = true ∧ (u.hostIf u.activeIf).downAt + 1000 * atLeast1 (u.fld F.HST_TX_CFG_LINKDN_TMO) ≤ u.clk) ∧
    (∃ (s u : State) (dt next : Nat), u = s.advance dt ∧ s.canonical = true ∧ next = (if u.activeIf == u.fld F.HST_TX_CFG_PRI then
      u.fld F.HST_TX_CFG_ALT else u.fld F.HST_TX_CFG_PRI) ∧ u.bit F.HST_TX_CFG_ALT_EN = true ∧ u.ifUp u.activeIf = false ∧
      u.ifUp next = true ∧ u.clk < (u.hostIf u.activeIf).downAt + 1000 * atLeast1 (u.fld F.HST_TX_CFG_LINKDN_TMO)) ∧
    (∃ (s : State) (j : Fin 16), s.canonical = true ∧ s.ifUp j = true ∧ s.cqHead (j / 4) = none ∧ j.val = s.activeIf ∧ s.hst.cueQ ≠
      []) ∧
    (∃ (s : State) (j : Fin 16), s.canonical = true ∧ s.ifUp j = false) ∧
    (∃ (s : State) (j : Fin 16) (bytes : List Byte) (fixed bad : Nat), s.canonical = true ∧ s.ifUp j = true) ∧
    (∃ (s : State) (j : Fin 16) (bytes : List Byte) (fixed bad : Nat), s.ifUp j = false ∧ s.bit F.HST_IF_STATUS_FEC_LOCK j = false) ∧
    (∃ (s : State) (j : Fin 16) (sha : BitVec 48) (spa : Word), s.canonical = true ∧ (s.hostIf j).rx.find? RxMsg.isArp = some (.arp
      sha spa) ∧ s.bit F.HST_CTRL_ARP_EN = true ∧ j.val < s.hst.ifs.length) ∧
    (∃ (s : State) (j : Fin 16) (mac : BitVec 48) (ip : Word) (body : List Byte), s.canonical = true ∧ (s.hostIf j).rx.find? (fun m
      => !m.isArp) = some (.icmp mac ip body) ∧ s.bit F.HST_CTRL_ICMP_EN = true ∧ body.length ≤ 1476 ∧ j.val < s.hst.ifs.length) := by
  refine ⟨?_, ?_, ?_, ?_, ?_, ?_, ?_, ?_, ?_, ?_⟩
  · exact ⟨ifIn 0 [], 15, by decide +kernel⟩
  · exact ⟨ifIn 1 [], 15, true, by decide +kernel⟩
  · exact ⟨ifIn 1 [(F.HST_TX_CFG_PRI, 0, 12), (F.HST_STATUS_ACTIVE, 0, 12), (F.HST_TX_CFG_ALT, 0, 15), (F.HST_TX_CFG_ALT_EN, 0, 1),
      (F.HST_TX_CFG_LINKDN_TMO, 0, 2)], _, 2000, 15, rfl, by decide +kernel⟩
  · exact ⟨ifIn 1 [(F.HST_TX_CFG_PRI, 0, 12), (F.HST_STATUS_ACTIVE, 0, 12), (F.HST_TX_CFG_ALT, 0, 15), (F.HST_TX_CFG_ALT_EN, 0, 1),
      (F.HST_TX_CFG_LINKDN_TMO, 0, 2)], _, 1999, 15, rfl, by decide +kernel⟩
  · exact ⟨withHst (fun h => { h with cueQ := [⟨none, 5, .cue, 3, [0, 1], []⟩] }) (ifIn 1 [(F.HST_STATUS_ACTIVE, 0, 15)]), 15,
      by decide +kernel⟩
  · exact ⟨ifIn 0 [], 15, by decide +kernel⟩
  · exact ⟨ifIn 1 [(F.HST_IF_STATUS_FEC_LOCK, 15, 1)], 15, [1, 2, 3], 4, 5, by decide +kernel⟩
  · exact ⟨ifIn 0 [], 15, [1, 2, 3], 4, 5, by decide +kernel⟩
  · exact ⟨withIf (fun x => { x with rx := [.arp 5 6] }) (ifIn 1 [(F.HST_CTRL_ARP_EN, 0, 1)]), 15, 5, 6, by decide +kernel⟩
  · exact ⟨withIf (fun x => { x with rx := [.icmp 5 6 [1, 2, 3, 4]], icmpCount := 1000 }) (ifIn 1 [(F.HST_CTRL_ICMP_EN, 0, 1)]), 15, 5, 6,
      [1, 2, 3, 4], by decide +kernel⟩

/-- Operands that meet the hypotheses of Obligations.ManagementSessions, clause by clause. -/
theorem met_ManagementSessions :
    (∃ (s : State) (r : MgmtReq), s.canonical = true ∧ s.mqHead 2 = some r) ∧
    (∃ (s : State) (r : MgmtReq), s.mqHead 3 = some r) ∧
    (∃ (s : State) (r : MgmtReq) (rest : List MgmtReq) (sigOk : Bool), s.canonical = true ∧ s.hst.opens = r :: rest) ∧
    (∃ (s : State) (r : MgmtReq) (k : Nat) (x : Session), s.canonical = true ∧ s.mqHead 4 = some r ∧ s.mqPop.sessionOf r = some (k,
      x) ∧ x.order r.rid = .fresh) ∧
    (∃ (s : State) (r : MgmtReq) (rest : List MgmtReq), s.canonical = true ∧ s.hst.mq = r :: rest ∧ r.ok = false) ∧
    (∃ (s u : State) (dt : Nat) (k : Fin 4) (x : Session), u = s.advance dt ∧ s.canonical = true ∧ u.hst.sessions.getD k none = some
      x ∧ (x.openedAt + 1000000000 * x.life ≤ u.clk ∨ x.usedAt + 1000000000 * atLeast1 (u.fld F.HST_MGMT_CFG_IDLE) ≤ u.clk)) ∧
    (∃ (s u : State) (dt : Nat) (k : Fin 4) (x : Session), u = s.advance dt ∧ s.canonical = true ∧ u.hst.sessions.getD k none = some
      x ∧ u.clk < x.openedAt + 1000000000 * x.life ∧ u.clk < x.usedAt + 1000000000 * atLeast1 (u.fld F.HST_MGMT_CFG_IDLE)) ∧
    (∃ (s u : State) (dt : Nat) (ip : Word) (port : BitVec 16), u = s.advance dt) := by
  refine ⟨?_, ?_, ?_, ?_, ?_, ?_, ?_, ?_⟩
  · exact ⟨served (reqOf 2 0 []), reqOf 2 0 [], by decide +kernel⟩
  · exact ⟨served (reqOf 3 0 (List.replicate 69 0)), reqOf 3 0 (List.replicate 69 0), by decide +kernel⟩
  · exact ⟨withHst (fun h => { h with opens := [reqOf 3 0 (List.replicate 69 0)] }) (ifIn 1 []), reqOf 3 0 (List.replicate 69 0), [],
      true, by decide +kernel⟩
  · exact ⟨served (reqOf 4 5 []), reqOf 4 5 [], 0, session5, by decide +kernel⟩
  · exact ⟨served (reqOf 3 0 []), reqOf 3 0 [], [], by decide +kernel⟩
  · exact ⟨puts (served (reqOf 3 0 [])) [(F.HST_MGMT_CFG_IDLE, 0, 61)], _, 60000000000, 0, session5, rfl, by decide +kernel⟩
  · exact ⟨puts (served (reqOf 3 0 [])) [(F.HST_MGMT_CFG_IDLE, 0, 61)], _, 59999999999, 0, session5, rfl, by decide +kernel⟩
  · exact ⟨inMode .perform, _, 5, 2, 3, rfl⟩

/-- Operands that meet the hypotheses of Obligations.ManagementAccess, clause by clause. -/
theorem met_ManagementAccess :
    (∃ (s : State) (r : MgmtReq), s.canonical = true ∧ s.mqHead 0 = some r ∧ r.session = 0 ∧ s.bit F.HST_CTRL_READ_AUTH = true) ∧
    (∃ (s : State) (r : MgmtReq), s.canonical = true ∧ s.mqHead 0 = some r ∧ r.session = 0 ∧ s.bit F.HST_CTRL_READ_AUTH = false ∧
      (r.words.drop 1).any (fun w => isRc (w.setWidth 32)) = false ∧ r.iface < s.hst.ifs.length) ∧
    (∃ (s : State) (r : MgmtReq) (k : Nat) (x : Session) (w : DWord), s.canonical = true ∧ s.mqHead 1 = some r ∧ s.mqPop.sessionOf r
      = some (k, x) ∧ x.order r.rid = .fresh ∧ k < s.hst.sessions.length ∧ (r.words.drop 1).find? (fun w => !(s.permits x.perm
      w)) = some w) ∧
    (∃ (s v : State) (r : MgmtReq) (k : Nat) (x y : Session), v = s.mqPop.setSession k { x with usedAt := s.clk } ∧ s.canonical =
      true ∧ s.mqHead 1 = some r ∧ s.mqPop.sessionOf r = some (k, x) ∧ x.order r.rid = .fresh ∧ (r.words.drop 1).all (fun w =>
      s.permits x.perm w) = true ∧ (v.writeList (r.words.drop 1)).hst.sessions.getD k none = some y) ∧
    (∃ (s : State) (r : MgmtReq), s.canonical = true ∧ s.mqHead 1 = some r ∧ s.mqPop.sessionOf r = none) := by
  refine ⟨?_, ?_, ?_, ?_, ?_⟩
  · exact ⟨puts (served (reqOf 0 0 [0x14])) [(F.HST_CTRL_READ_AUTH, 0, 1)], reqOf 0 0 [0x14], by decide +kernel⟩
  · exact ⟨puts (served (reqOf 0 0 [0x14])) [(F.HST_CTRL_READ_AUTH, 0, 0)], reqOf 0 0 [0x14], by decide +kernel⟩
  · exact ⟨served (reqOf 1 5 [0x100000000000000]), reqOf 1 5 [0x100000000000000], 0, session5, 0x100000000000000, by decide +kernel⟩
  · exact ⟨served (reqOf 1 5 [0x1800000005]), _, reqOf 1 5 [0x1800000005], 0, session5, { session5 with usedAt := 0 }, rfl,
      by decide +kernel⟩
  · exact ⟨served (reqOf 1 6 [0x1800000005]), reqOf 1 6 [0x1800000005], by decide +kernel⟩

/-- Operands that meet the hypotheses of Obligations.PtpExchange, clause by clause. -/
theorem met_PtpExchange :
    (∃ (s : State) (m : PtpMsg), s.fromMaster m = true ∧ m.followUp = false ∧ m.twoStep = false) ∧
    (∃ (s : State) (m : PtpMsg), s.fromMaster m = true ∧ m.followUp = false ∧ m.twoStep = true) ∧
    (∃ (s : State) (m : PtpMsg), s.fromMaster m = false) ∧
    (∃ (s : State) (m : PtpMsg), s.fromMaster m = false) ∧
    (∃ (s : State) (m : PtpMsg), s.fromMaster m = false) ∧
    (∃ (s : State) (m y : PtpMsg), s.fromMaster m = true ∧ m.followUp = true ∧ m.peer = false ∧ s.tim.sync = some y ∧ y.seqId =
      m.seqId) ∧
    (∃ (s : State) (m : PtpMsg) (q : BitVec 16) (t3 t1 t2 : Tick) (x : Int), s.canonical = true ∧ s.fromMaster m = true ∧ m.followUp
      = false ∧ m.peer = false ∧ s.bit F.TIM_CTRL_P2P = false ∧ s.tim.delaySent = some (q, t3) ∧ m.seqId = q ∧ s.tim.lastSync =
      some (t1, t2) ∧ x = asr (sdiff t2 t1 + (sdiff m.stamp t3 - m.corr)) 1 ∧ 0 ≤ x ∧ x ≤ ((s.fld F.TIM_PTP_CFG_MPD_MAX * 65536
      : Nat) : Int)) ∧
    (∃ (s : State) (m : PtpMsg), s.canonical = true ∧ m.domain.toNat = s.fld F.TIM_CTRL_DOMAIN ∧ s.bit F.TIM_CTRL_TWO_STEP = false ∧
      s.bit F.HST_IF_STATUS_UP (s.fld F.TIM_CTRL_PTP_IF) = true) ∧
    (∃ (s : State) (seqId : BitVec 16), s.canonical = true ∧ s.timSource = 1 ∧ s.bit F.HST_IF_STATUS_UP (s.fld F.TIM_CTRL_PTP_IF) =
      true) ∧
    (∃ (s : State) (seqId : BitVec 16), s.timSource ≠ 1) := by
  refine ⟨?_, ?_, ?_, ?_, ?_, ?_, ?_, ?_, ?_, ?_⟩
  · exact ⟨ptpIn [], ptpMsg false false, by decide +kernel⟩
  · exact ⟨ptpIn [], ptpMsg true false, by decide +kernel⟩
  · exact ⟨ptpIn [(F.TIM_CTRL_DOMAIN, 0, 1)], ptpMsg true false, by decide +kernel⟩
  · exact ⟨ptpIn [(F.TIM_MASTER_PORT_PORT, 0, 4)], ptpMsg true true, by decide +kernel⟩
  · exact ⟨inMode .perform, ptpMsg true false, by decide +kernel⟩
  · exact ⟨withTim (fun t => { t with sync := some (ptpMsg true false) }) (ptpIn []), ptpMsg false true, ptpMsg true false,
      by decide +kernel⟩
  · exact ⟨withTim (fun t => { t with delaySent := some (9, 900), lastSync := some (100, 110) }) (ptpIn [(F.TIM_PTP_CFG_MPD_MAX, 0, 1)]),
      { ptpMsg false false with stamp := 915 }, 9, 900, 100, 110, 10, by decide +kernel⟩
  · exact ⟨ptpIn [], ptpMsg false false, by decide +kernel⟩
  · exact ⟨ptpIn [], 9, by decide +kernel⟩
  · exact ⟨ptpIn [(F.TIM_CTRL_SRC, 0, 3)], 9, by decide +kernel⟩

/-- Operands that meet the hypotheses of Obligations.TimeServo, clause by clause. -/
theorem met_TimeServo :
    (∃ (s : State) (theta : Int) (rest : List Int) (i : Int), i = clampI (-adjMax) adjMax (s.integ - asr (s.fld F.TIM_SERVO_KI_KI *
      theta) 16) ∧ s.canonical = true ∧ s.tim.offsets = theta :: rest ∧ s.timSource ≠ 0 ∧ theta.natAbs < 2 ^ 62 ∧ s.fld
      F.TIM_STEP_THR_THR = 0) ∧
    (∃ (s : State) (theta : Int) (rest : List Int), s.canonical = true ∧ s.tim.offsets = theta :: rest ∧ s.timSource ≠ 0 ∧
      theta.natAbs < 2 ^ 62 ∧ s.fld F.TIM_STEP_THR_THR ≠ 0 ∧ s.fld F.TIM_STEP_THR_THR * 65536 ≤ theta.natAbs) ∧
    (∃ (s : State) (theta : Int) (rest : List Int), s.canonical = true ∧ s.tim.offsets = theta :: rest ∧ s.timSource ≠ 0 ∧ 2 ^ 62 ≤
      theta.natAbs) ∧
    (∃ (s : State), s.tim.offsets = []) ∧
    (∃ (s u : State) (dt : Nat), u = s.advance dt ∧ s.canonical = true ∧ u.timSource ≠ 0 ∧ u.bit F.TIM_STATUS_HOLDOVER = false ∧
      u.tim.lastOfs + 1000000 * atLeast1 (u.fld F.TIM_LOCK_CFG_HOLD_TMO) ≤ u.clk) ∧
    (∃ (s u : State) (dt : Nat), u = s.advance dt ∧ (u.timSource = 0 ∨ u.clk < u.tim.lastOfs + 1000000 * atLeast1 (u.fld
      F.TIM_LOCK_CFG_HOLD_TMO))) ∧
    (∃ (s : State), s.canonical = true ∧ s.mode ≠ .dark ∧ s.tim.base.ns < 1000000000) ∧
    (∃ (s : State), s.canonical = true) := by
  refine ⟨?_, ?_, ?_, ?_, ?_, ?_, ?_, ?_⟩
  · exact ⟨withTim (fun t => { t with offsets := [-65536, 7] }) (ptpIn [(F.TIM_STEP_THR_THR, 0, 0), (F.TIM_SERVO_KI_KI, 0, 9)]), -65536,
      [7], _, rfl, by decide +kernel⟩
  · exact ⟨withTim (fun t => { t with offsets := [-65536, 7] }) (ptpIn [(F.TIM_STEP_THR_THR, 0, 1), (F.TIM_SERVO_KI_KI, 0, 9)]), -65536,
      [7], by decide +kernel⟩
  · exact ⟨withTim (fun t => { t with offsets := [-2 ^ 62, 7] }) (ptpIn [(F.TIM_STEP_THR_THR, 0, 1), (F.TIM_SERVO_KI_KI, 0, 9)]), -2 ^ 62,
      [7], by decide +kernel⟩
  · exact ⟨ptpIn [], by decide +kernel⟩
  · exact ⟨ptpIn [(F.TIM_LOCK_CFG_HOLD_TMO, 0, 3)], _, 3000000, rfl, by decide +kernel⟩
  · exact ⟨ptpIn [(F.TIM_LOCK_CFG_HOLD_TMO, 0, 3)], _, 2999999, rfl, by decide +kernel⟩
  · exact ⟨withTim (fun t => { t with base := ⟨5, 999999999, 0⟩ }) (ptpIn []), by decide +kernel⟩
  · exact ⟨ptpIn [(F.TIM_SET1_NS, 0, 5)], by decide +kernel⟩

/-- Operands that meet the hypotheses of Obligations.TimedLaunch, clause by clause. -/
theorem met_TimedLaunch :
    (∃ (s : State) (k : Fin 4) (value : Word), s.canonical = true ∧ (64 ≤ (s.hst.cq.getD k []).length ∨ F.HST_CQ_PUSH_LEN.get value
      < 60 ∨ 1514 < F.HST_CQ_PUSH_LEN.get value)) ∧
    (∃ (s : State) (k : Fin 4) (value : Word), s.canonical = true ∧ (s.hst.cq.getD k []).length < 64 ∧ 60 ≤ F.HST_CQ_PUSH_LEN.get
      value ∧ F.HST_CQ_PUSH_LEN.get value ≤ 1514) ∧
    (∃ (s : State) (k : Fin 4), s.canonical = true ∧ s.cqHead k = none) ∧
    (∃ (s : State) (k : Fin 4) (e : CqEntry), s.canonical = true ∧ s.cqHead k = some e ∧ s.ifUp (s.cqIf k e) = false) ∧
    (∃ (s : State) (k : Fin 4) (e : CqEntry), s.canonical = true ∧ s.cqHead k = some e ∧ s.ifUp (s.cqIf k e) = true ∧ s.cueFirst
      (s.cqIf k e) = true) ∧
    (∃ (s : State) (k : Fin 4) (e : CqEntry), s.canonical = true ∧ s.cqHead k = some e ∧ s.ifUp (s.cqIf k e) = true ∧ s.cueFirst
      (s.cqIf k e) = false) := by
  refine ⟨?_, ?_, ?_, ?_, ?_, ?_⟩
  · exact ⟨ifIn 1 [], 3, 0x003B0000, by decide +kernel⟩
  · exact ⟨ifIn 1 [], 3, 0x05EA0000, by decide +kernel⟩
  · exact ⟨ifIn 1 [], 3, by decide +kernel⟩
  · exact ⟨puts (timed []) [(F.HST_IF_STATUS_UP, 15, 0)], 3, ⟨0, 0, 60, 3, false⟩, by decide +kernel⟩
  · exact ⟨withIf (fun x => { x with lastCq := true }) (withHst (fun h => { h with cueQ := [⟨none, 5, .cue, 3, [0, 1], []⟩] }) (timed
      [(F.HST_STATUS_ACTIVE, 0, 15)])), 3, ⟨0, 0, 60, 3, false⟩, by decide +kernel⟩
  · exact ⟨timed [], 3, ⟨0, 0, 60, 3, false⟩, by decide +kernel⟩

/-- Operands that meet the hypotheses of Obligations.FabricLinks, clause by clause. -/
theorem met_FabricLinks :
    (∃ (s : State) (f : Fin 6), s.canonical = true ∧ s.fabSt f = .link ∧ s.quadAligned (64 + 4 * f.val) = true) ∧
    (∃ (s : State) (f : Fin 6), (s.fabSt f ≠ .link ∨ s.quadAligned (64 + 4 * f.val) = false)) ∧
    (∃ (s : State) (f : Fin 6) (a : FabAddr) (n : Fin 8), s.canonical = true ∧ s.fabSt f = .hello) ∧
    (∃ (s : State) (f : Fin 6) (a : FabAddr) (n : Fin 8), s.fabSt f ≠ .hello ∧ s.fabSt f ≠ .up) ∧
    (∃ (s : State) (f : Fin 6) (p : Packet) (n : BitVec 13), s.canonical = true ∧ s.fabSt f = .up ∧ f.val < s.fab.ports.length ∧ n =
      (s.fabPort f).expect ∧ p.ptype < 7 ∧ p.ptype ≠ 4 ∧ (p.dst = 0xFFF ∨ s.route p.dst = 6)) ∧
    (∃ (s : State) (f g : Fin 6) (p : Packet) (n : BitVec 13), s.canonical = true ∧ s.fabSt f = .up ∧ s.fabSt g = .up ∧ f ≠ g ∧
      g.val < s.fab.ports.length ∧ p.vc < (s.fabPort g).outq.length ∧ n = (s.fabPort f).expect ∧ p.ptype < 7 ∧ p.ptype ≠ 4 ∧
      p.dst ≠ 0xFFF ∧ s.route p.dst = g ∧ (s.fabPort f).unacked < 63) ∧
    (∃ (s : State) (f : Fin 6) (p : Packet) (n : BitVec 13) (crc : Word), s.canonical = true ∧ s.fabSt f = .up ∧ (crc ≠ packetCrc p
      n ∨ n ≠ (s.fabPort f).expect)) ∧
    (∃ (s : State) (f : Fin 6) (p : Packet) (n : BitVec 13) (crc : Word) (nak : Bool) (vc : Fin 5) (k : BitVec 13), s.fabSt f ≠ .up) ∧
    (∃ (s : State) (f : Fin 6) (n : BitVec 13), s.canonical = true ∧ s.fabSt f = .up ∧ f.val < s.fab.ports.length) ∧
    (∃ (s : State) (f : Fin 6) (vc : Fin 5) (k : BitVec 13), s.fabSt f = .up) ∧
    (∃ (s : State) (f : Fin 6), s.fabSt f = .up ∧ (s.fabPort f).unacked ≠ 0) ∧
    (∃ (s : State) (f : Fin 6), (s.fabPort f).unacked = 0) ∧
    (∃ (s u : State) (dt : Nat) (f : Fin 6), u = s.advance dt ∧ s.canonical = true ∧ u.fabSt f = .up ∧ (u.fabPort f).replay ≠ [] ∧
      (u.fabPort f).ackAt + 1000 ≤ u.clk ∧ (u.fabPort f).replays < 8) ∧
    (∃ (s u : State) (dt : Nat) (f : Fin 6), u = s.advance dt ∧ s.canonical = true ∧ u.fabSt f = .up ∧ (u.fabPort f).replay ≠ [] ∧
      (u.fabPort f).ackAt + 1000 ≤ u.clk ∧ 8 ≤ (u.fabPort f).replays) ∧
    (∃ (s u : State) (dt : Nat) (f : Fin 6), u = s.advance dt ∧ (u.fabSt f ≠ .up ∨ (u.fabPort f).replay = [] ∨ u.clk < (u.fabPort
      f).ackAt + 1000)) ∧
    (∃ (s : State) (f : Fin 6) (vc : Nat) (o : OutPkt) (pkt : Packet), pkt = ⟨o.dst, vc, o.ptype, s.bodyWords o.body⟩ ∧ s.canonical
      = true ∧ s.fabSt f = .up ∧ f.val < s.fab.ports.length ∧ (s.fabPort f).replay.length < 4096 ∧ (s.fabPort f).nextVc = some
      vc ∧ (s.fabPort f).nextOf vc = some o) ∧
    (∃ (s : State) (f : Fin 6), ((s.fabPort f).nextVc = none ∨ 4096 ≤ (s.fabPort f).replay.length)) := by
  refine ⟨?_, ?_, ?_, ?_, ?_, ?_, ?_, ?_, ?_, ?_, ?_, ?_, ?_, ?_, ?_, ?_, ?_⟩
  · exact ⟨withLane 87 (fun x => { x with marker := some (1, 0) }) (withLane 86 (fun x => { x with marker := some (1, 0) }) (withLane 85
      (fun x => { x with marker := some (1, 0) }) (withLane 84 (fun x => { x with marker := some (1, 0) }) (fabIn .link
      ((List.range 4).flatMap (fun i => [(F.LNE_STATE_STATE, 84 + i, 3), (F.LNE_STATE_HDR_OK, 84 + i, 1)])))))), 5,
      by decide +kernel⟩
  · exact ⟨fabIn .link [], 5, by decide +kernel⟩
  · exact ⟨withFp (fun p => { p with lstates := 1 }) (fabIn .hello []), 5, 9, 3, by decide +kernel⟩
  · exact ⟨fabIn .low [], 5, 9, 3, by decide +kernel⟩
  · exact ⟨fabIn .up [], 5, pktOf 0 [0x40000, 5], 0, by decide +kernel⟩
  · exact ⟨{ fabIn .up [(F.FAB_PSTAT_STATE, 4, FabSt.up.code)] with tables := [(0x12400024, 4)] }, 5, 4, ⟨9, 3, 0, [1]⟩, 0,
      by decide +kernel⟩
  · exact ⟨fabIn .up [], 5, pktOf 0 [0x40000, 5], 1, 7, by decide +kernel⟩
  · exact ⟨fabIn .hello [], 5, pktOf 0 [0x40000, 5], 0, 7, true, 4, 5, by decide +kernel⟩
  · exact ⟨withFp (fun p => { p with replay := [⟨3, pktOf 0 [1], 0⟩, ⟨4, pktOf 0 [2], 0⟩], replays := 2 }) (fabIn .up []), 5, 3,
      by decide +kernel⟩
  · exact ⟨fabIn .up [], 5, 4, 8191, by decide +kernel⟩
  · exact ⟨withFp (fun p => { p with unacked := 1 }) (fabIn .up []), 5, by decide +kernel⟩
  · exact ⟨fabIn .up [], 5, by decide +kernel⟩
  · exact ⟨withFp (fun p => { p with replay := [⟨3, pktOf 0 [1], 0⟩, ⟨4, pktOf 0 [2], 0⟩], replays := 7 }) (fabIn .up []), _, 1000, 5,
      rfl, by decide +kernel⟩
  · exact ⟨withFp (fun p => { p with replay := [⟨3, pktOf 0 [1], 0⟩, ⟨4, pktOf 0 [2], 0⟩], replays := 8 }) (fabIn .up []), _, 1000, 5,
      rfl, by decide +kernel⟩
  · exact ⟨withFp (fun p => { p with replay := [⟨3, pktOf 0 [1], 0⟩, ⟨4, pktOf 0 [2], 0⟩], replays := 7 }) (fabIn .up []), _, 999, 5, rfl,
      by decide +kernel⟩
  · exact ⟨withFp (fun p => { p with outq := [[], [], [], [⟨9, 3, 0, .words [1]⟩], []] }) (fabIn .up []), 5, 3, ⟨9, 3, 0, .words [1]⟩, _,
      rfl, by decide +kernel⟩
  · exact ⟨fabIn .up [], 5, by decide +kernel⟩

/-- Operands that meet the hypotheses of Obligations.FabricPackets, clause by clause. -/
theorem met_FabricPackets :
    (∃ (s : State) (f : Fin 6), s.takePacket f (fun p => p.ptype == 0) = none) ∧
    (∃ (s : State) (f : Fin 6), s.takePacket f (fun p => p.ptype == 1) = none) ∧
    (∃ (s : State) (f : Fin 6), s.takePacket f (fun p => p.ptype == 2) = none) ∧
    (∃ (s : State) (f : Fin 6), s.takePacket f (fun p => p.ptype == 3) = none) ∧
    (∃ (s : State) (f : Fin 6), s.takePacket f (fun p => p.ptype == 5) = none) ∧
    (∃ (s : State) (f : Fin 6), s.takePacket f (fun p => p.ptype == 6) = none) ∧
    (∃ (s u : State) (f : Fin 6) (ws : List DWord) (r : Record), s.canonical = true ∧ s.takePacket f (fun p => p.ptype == 0) =
      some (ws, u) ∧ recordOfWords ws = some r ∧ r.cls = .routine ∧ (s.sink = 0 ∨ s.sink = s.fabAddr) ∧ s.hst.routineQ.length <
      7680) ∧
    (∃ (s u : State) (f : Fin 6) (ws : List DWord) (r : Record), s.canonical = true ∧ s.takePacket f (fun p => p.ptype == 5) =
      some (ws, u) ∧ recordOfWords ws = some r ∧ s.relaysJobs = false) ∧
    (∃ (s u : State) (f : Fin 6) (ws : List DWord) (w : Nat), w = (ws.getD 0 0).toNat ∧ s.canonical = true ∧ s.takePacket f (fun p
      => p.ptype == 1) = some (ws, u) ∧ s.seamInUse 31 = true ∧ s.sti.wing31 = [] ∧ 1 < ceilDiv (s.seamWing 31) 248) ∧
    (∃ (s u : State) (f : Fin 6) (ws : List DWord) (line : LineNo) (step ratio j : Nat), step =
      (match s.sti.nbrLine with | none => 0 | some n => (sdiff line n).toNat) ∧ ratio = (if step = 0 then s.sti.nbrRatio else
      step) ∧ j = line.toNat / atLeast1 ratio ∧ s.canonical = true ∧ s.takePacket f (fun p => p.ptype == 1) = some (ws, u) ∧
      s.seamInUse 31 = true ∧ s.sti.wing31 = [] ∧ ceilDiv (s.seamWing 31) 248 = 1 ∧ line = (ws.getD 1 0).setWidth 40 ∧
      s.ringAddr 31 j + 2 * s.seamWing 31 ≤ s.memCapacity) ∧
    (∃ (s u : State) (f : Fin 6) (ws : List DWord), s.canonical = true ∧ s.takePacket f (fun p => p.ptype == 2) = some (ws, u) ∧
      s.seamInUse 31 = true) ∧
    (∃ (s u : State) (f : Fin 6) (ws : List DWord), s.canonical = true ∧ s.takePacket f (fun p => p.ptype == 3) = some (ws, u) ∧
      s.seamInUse 31 = true ∧ bitsOf (ws.getD 0 0).toNat 58 6 = 1 ∧ s.sti.arriving = []) ∧
    (∃ (s u : State) (f : Fin 6) (ws : List DWord) (n : Nat), s.canonical = true ∧ s.takePacket f (fun p => p.ptype == 3) =
      some (ws, u) ∧ s.seamInUse 31 = true ∧ n = bitsOf (ws.getD 0 0).toNat 58 6 ∧ 1 < n ∧ s.sti.arriving = []) ∧
    (∃ (s u : State) (f : Fin 6) (ws : List DWord), s.canonical = true ∧ s.takePacket f (fun p => p.ptype == 6) = some (ws, u)) ∧
    (∃ (s u : State) (dt : Nat) (oid : Oid) (x : SentComp), u = s.advance dt ∧ s.canonical = true ∧ u.sti.sent.filter (fun y =>
      y.oid == oid) = [x] ∧ x.sentAt + 1000 * atLeast1 (u.fld F.STI_MERGE_XDEV_TMO) ≤ u.clk) ∧
    (∃ (s u : State) (dt : Nat) (oid : Oid), u = s.advance dt ∧ (∀ x ∈ u.sti.sent, x.oid = oid → u.clk < x.sentAt + 1000 * atLeast1
      (u.fld F.STI_MERGE_XDEV_TMO))) ∧
    (∃ (s u : State) (dt : Nat), u = s.advance dt ∧ s.canonical = true ∧ u.seamInUse 31 = true ∧ u.seamState 31 ≠ 0 ∧ u.seamState 31
      ≠ 3 ∧ u.sti.nbrAt + 1000 * atLeast1 (u.fld F.STI_MERGE_XDEV_TMO) ≤ u.clk) ∧
    (∃ (s u : State) (dt : Nat), u = s.advance dt ∧ (u.seamInUse 31 = false ∨ u.clk < u.sti.nbrAt + 1000 * atLeast1 (u.fld
      F.STI_MERGE_XDEV_TMO))) := by
  refine ⟨?_, ?_, ?_, ?_, ?_, ?_, ?_, ?_, ?_, ?_, ?_, ?_, ?_, ?_, ?_, ?_, ?_, ?_⟩
  · exact ⟨fabIn .up [], 5, by decide +kernel⟩
  · exact ⟨fabIn .up [], 5, by decide +kernel⟩
  · exact ⟨fabIn .up [], 5, by decide +kernel⟩
  · exact ⟨fabIn .up [], 5, by decide +kernel⟩
  · exact ⟨fabIn .up [], 5, by decide +kernel⟩
  · exact ⟨fabIn .up [], 5, by decide +kernel⟩
  · exact ⟨arrived 16 0 [0x40000, 5], taken (fun p => p.ptype == 0) (arrived 16 0 [0x40000, 5]), 5, [0x40000, 5], ⟨some 0, 0, .routine, 0,
      [5], []⟩, by decide +kernel⟩
  · exact ⟨arrived 16 5 [0x80030, 5], taken (fun p => p.ptype == 5) (arrived 16 5 [0x80030, 5]), 5, [0x80030, 5], ⟨some 0, 0, .bulk, 0x30,
      [5], []⟩, by decide +kernel⟩
  · exact ⟨arrived 249 1 [0x1000000000000000, 256, 1], taken (fun p => p.ptype == 1) (arrived 249 1 [0x1000000000000000, 256, 1]), 5,
      [0x1000000000000000, 256, 1], _, rfl, by decide +kernel⟩
  · exact ⟨arrived 16 1 [0x1000000000000000, 256, 1, 2, 3, 4], taken (fun p => p.ptype == 1) (arrived 16 1 [0x1000000000000000, 256, 1, 2,
      3, 4]), 5, [0x1000000000000000, 256, 1, 2, 3, 4], 256, _, _, _, rfl, rfl, rfl, by decide +kernel⟩
  · exact ⟨arrived 16 2 [0x1000000000000000], taken (fun p => p.ptype == 2) (arrived 16 2 [0x1000000000000000]), 5, [0x1000000000000000],
      by decide +kernel⟩
  · exact ⟨arrived 16 3 [0x0400000000000007, 7], taken (fun p => p.ptype == 3) (arrived 16 3 [0x0400000000000007, 7]), 5,
      [0x0400000000000007, 7], by decide +kernel⟩
  · exact ⟨arrived 16 3 [0xFC00000000000007, 7], taken (fun p => p.ptype == 3) (arrived 16 3 [0xFC00000000000007, 7]), 5,
      [0xFC00000000000007, 7], 63, by decide +kernel⟩
  · exact ⟨arrived 16 6 [7], taken (fun p => p.ptype == 6) (arrived 16 6 [7]), 5, [7], by decide +kernel⟩
  · exact ⟨{ fabIn .up [(F.STI_MERGE_XDEV_TMO, 0, 2)] with sti := { State.reset.sti with sent := [sentComp] } }, _, 2000, 7, sentComp,
      rfl, by decide +kernel⟩
  · exact ⟨{ fabIn .up [(F.STI_MERGE_XDEV_TMO, 0, 2)] with sti := { State.reset.sti with sent := [sentComp] } }, _, 1999, 7, rfl,
      by decide +kernel⟩
  · exact ⟨puts (arrived 16 0 []) [(F.STI_MERGE_XDEV_TMO, 0, 2)], _, 2000, rfl, by decide +kernel⟩
  · exact ⟨puts (arrived 16 0 []) [(F.STI_MERGE_XDEV_TMO, 0, 2)], _, 1999, rfl, by decide +kernel⟩

/-- Operands that meet the hypotheses of Obligations.FabricDiscovery, clause by clause. -/
theorem met_FabricDiscovery :
    (∃ (s : State) (f : Nat), s.canonical = true ∧ s.bit F.FAB_CTRL_EN = true ∧ s.fabSt f = .up ∧ f < 6 ∧ f < s.fab.ports.length ∧ 0
      < (s.fabPort f).outq.length) ∧
    (∃ (s : State), s.bit F.FAB_CTRL_EN = false) ∧
    (∃ (s u : State) (dt : Nat), u = s.advance dt ∧ (u.bit F.FAB_CTRL_EN = false ∨ u.clk < u.fab.electAt + 200000)) ∧
    (∃ (s u : State) (f : Fin 6) (ws : List DWord) (w : Nat), w = (ws.getD 0 0).toNat ∧ s.canonical = true ∧ s.takePacket f (isDisc
      0) = some (ws, u)) ∧
    (∃ (s : State) (f : Fin 6), s.takePacket f (isDisc 0) = none) ∧
    (∃ (s : State) (f : Fin 6), s.takePacket f (isDisc 1) = none) ∧
    (∃ (s : State) (f : Fin 6), s.takePacket f (isDisc 2) = none) ∧
    (∃ (s : State) (f : Fin 6), s.takePacket f (isDisc 3) = none) ∧
    (∃ (s : State) (f : Fin 6), s.takePacket f (isDisc 4) = none) ∧
    (∃ (s u : State) (dt f : Nat), u = s.advance dt ∧ s.canonical = true ∧ u.bit F.FAB_CTRL_EN = true ∧ u.fab.electAt + 200000 ≤
      u.clk ∧ u.fab.settled = false ∧ u.fab.bestRoot ≠ 0 ∧ u.fab.parent = some f ∧ u.fabSt f = .up ∧ f < u.fab.ports.length ∧ 0
      < (u.fabPort f).outq.length) ∧
    (∃ (s u : State) (dt : Nat), u = s.advance dt ∧ s.canonical = true ∧ u.bit F.FAB_CTRL_EN = true ∧ u.fab.electAt + 200000 ≤ u.clk
      ∧ u.fab.settled = false ∧ u.fab.bestRoot = u.serial ∧ u.fab.bestRoot ≠ 0 ∧ u.fab.parent = none ∧ reportsWhole
      (u.fab.reports.filter (fun x => x.serial != u.serial) ++ [u.ownReport]) = true) ∧
    (∃ (s u : State) (f : Fin 6) (ws : List DWord) (g : Nat), s.canonical = true ∧ s.takePacket f (isDisc 1) = some (ws, u) ∧
      s.fab.parent = some g ∧ s.fabSt g = .up ∧ g < s.fab.ports.length ∧ 0 < (s.fabPort g).outq.length) ∧
    (∃ (s u : State) (f : Fin 6) (ws : List DWord), s.canonical = true ∧ s.takePacket f (isDisc 1) = some (ws, u) ∧ s.fab.parent =
      none ∧ s.fab.bestRoot ≠ s.serial) ∧
    (∃ (s u : State) (f : Fin 6) (ws : List DWord) (w : Nat), w = (ws.getD 0 0).toNat ∧ s.canonical = true ∧ s.takePacket f (isDisc
      2) = some (ws, u) ∧ ws.getD 1 0 = s.serial ∧ s.fab.seen.contains (BitVec.ofNat 12 (bitsOf w 48 12), 2 ^ 16 + (BitVec.ofNat
      12 (bitsOf w 28 12)).toNat + 2 ^ 28 * (ws.getD 1 0).toNat) = false) ∧
    (∃ (s u : State) (f : Fin 6) (ws : List DWord) (w : Nat), w = (ws.getD 0 0).toNat ∧ s.takePacket f (isDisc 2) = some (ws, u) ∧
      s.fab.seen.contains (BitVec.ofNat 12 (bitsOf w 48 12), 2 ^ 16 + (BitVec.ofNat 12 (bitsOf w 28 12)).toNat + 2 ^ 28 *
      (ws.getD 1 0).toNat) = true) ∧
    (∃ (s u : State) (f : Fin 6) (ws : List DWord) (w : Nat), w = (ws.getD 0 0).toNat ∧ s.canonical = true ∧ s.takePacket f (isDisc
      3) = some (ws, u) ∧ s.fabAddr ≠ 0 ∧ ws.length ≤ 63 ∧ s.fab.seen.contains (BitVec.ofNat 12 (bitsOf w 48 12), bitsOf w 24
      16) = false) ∧
    (∃ (s u : State) (f : Fin 6) (ws : List DWord) (w : Nat), w = (ws.getD 0 0).toNat ∧ s.canonical = true ∧ s.takePacket f (isDisc
      4) = some (ws, u) ∧ bitAt w 23 = false ∧ s.fab.seen.contains (BitVec.ofNat 12 (bitsOf w 48 12), bitsOf w 24 16) = false) ∧
    (∃ (s u : State) (f : Fin 6) (ws : List DWord) (w : Nat), w = (ws.getD 0 0).toNat ∧ s.fab.seen.contains (BitVec.ofNat 12 (bitsOf
      w 48 12), bitsOf w 24 16) = true ∧ s.takePacket f (isDisc 3) = some (ws, u)) ∧
    (∃ (s u : State) (f : Fin 6) (ws : List DWord) (w : Nat), w = (ws.getD 0 0).toNat ∧ s.fab.seen.contains (BitVec.ofNat 12 (bitsOf
      w 48 12), bitsOf w 24 16) = true ∧ s.takePacket f (isDisc 4) = some (ws, u)) ∧
    (∃ (s : State), s.canonical = true ∧ s.bit F.FAB_CTRL_EN = false) ∧
    (∃ (s : State) (f : Nat), s.canonical = true ∧ s.bit F.FAB_CTRL_EN = true ∧ f < 6 ∧ s.fabSt f = .up ∧ s.fabAddr = 0) ∧
    (∃ (s : State) (f : Nat), s.canonical = true ∧ s.bit F.FAB_CTRL_EN = true ∧ f < 6 ∧ s.fabSt f = .up ∧ s.fabAddr ≠ 0) ∧
    (∃ (s : State), s.canonical = true) ∧
    (∃ (s : State) (f : Fin 6) (q : BitVec 6) (x : BitVec 48), s.timePort f = true ∧ s.fab.treePort = some f.val ∧ s.timSource = 2) ∧
    (∃ (s : State) (f : Fin 6) (q : BitVec 6) (x : BitVec 48), (s.timePort f = false ∨ s.fab.treePort ≠ some f.val ∨ s.timSource ≠
      2)) ∧
    (∃ (s : State) (f : Fin 6) (q : BitVec 6) (x : BitVec 48) (d : Int), s.canonical = true ∧ s.timePort f = true ∧ s.fab.treePort =
      some f.val ∧ s.timSource = 2 ∧ q = (s.fabPort f).tseq ∧ d = asr (sdiff (s.fabPort f).t2 (s.fabPort f).t1 + sdiff
      (s.extendTick x) (s.fabPort f).t3) 1 ∧ 0 ≤ d ∧ d ≤ ((s.fld F.TIM_PTP_CFG_MPD_MAX * 65536 : Nat) : Int)) := by
  refine ⟨?_, ?_, ?_, ?_, ?_, ?_, ?_, ?_, ?_, ?_, ?_, ?_, ?_, ?_, ?_, ?_, ?_, ?_, ?_, ?_, ?_, ?_, ?_, ?_, ?_, ?_⟩
  · exact ⟨fabIn .up [], 5, by decide +kernel⟩
  · exact ⟨inMode .perform, by decide +kernel⟩
  · exact ⟨fabIn .up [], _, 199999, rfl, by decide +kernel⟩
  · exact ⟨arrived 16 4 [0x0005E00300000000, 8, 9], taken (isDisc 0) (arrived 16 4 [0x0005E00300000000, 8, 9]), 5, [0x0005E00300000000, 8,
      9], _, rfl, by decide +kernel⟩
  · exact ⟨fabIn .up [], 5, by decide +kernel⟩
  · exact ⟨fabIn .up [], 5, by decide +kernel⟩
  · exact ⟨fabIn .up [], 5, by decide +kernel⟩
  · exact ⟨fabIn .up [], 5, by decide +kernel⟩
  · exact ⟨fabIn .up [], 5, by decide +kernel⟩
  · exact ⟨withFab (fun f => { f with bestRoot := 1, parent := some 5 }) (fabIn .up []), _, 200000, 5, rfl, by decide +kernel⟩
  · exact ⟨withFab (fun f => { f with bestRoot := 9 }) (fabIn .link [(F.SEC_SERIAL_LO_V, 0, 9)]), _, 200000, rfl, by decide +kernel⟩
  · exact ⟨withFab (fun f => { f with parent := some 5 }) (arrived 16 4 [0x1005000000000000, 8, 9]), taken (isDisc 1) (withFab (fun f => {
      f with parent := some 5 }) (arrived 16 4 [0x1005000000000000, 8, 9])), 5, [0x1005000000000000, 8, 9], 5,
      by decide +kernel⟩
  · exact ⟨withFab (fun f => { f with bestRoot := 9 }) (arrived 16 4 [0x1005000000000000, 8, 9]), taken (isDisc 1) (withFab (fun f => { f
      with bestRoot := 9 }) (arrived 16 4 [0x1005000000000000, 8, 9])), 5, [0x1005000000000000, 8, 9], by decide +kernel⟩
  · exact ⟨puts (arrived 16 4 [0x2001000070000000, 9]) [(F.SEC_SERIAL_LO_V, 0, 9)], taken (isDisc 2) (puts (arrived 16 4
      [0x2001000070000000, 9]) [(F.SEC_SERIAL_LO_V, 0, 9)]), 5, [0x2001000070000000, 9], _, rfl, by decide +kernel⟩
  · exact ⟨withFab (fun f => { f with seen := [(1, 2 ^ 16 + 7 + 2 ^ 28 * 9)] }) (arrived 16 4 [0x2001000070000000, 9]), taken (isDisc 2)
      (withFab (fun f => { f with seen := [(1, 2 ^ 16 + 7 + 2 ^ 28 * 9)] }) (arrived 16 4 [0x2001000070000000, 9])), 5,
      [0x2001000070000000, 9], _, rfl, by decide +kernel⟩
  · exact ⟨puts (arrived 16 4 [0x3001000005000000, 9]) [(F.FAB_STATUS_ADDR, 0, 4)], taken (isDisc 3) (puts (arrived 16 4
      [0x3001000005000000, 9]) [(F.FAB_STATUS_ADDR, 0, 4)]), 5, [0x3001000005000000, 9], _, rfl, by decide +kernel⟩
  · exact ⟨arrived 16 4 [0x4001000005000000, 9], taken (isDisc 4) (arrived 16 4 [0x4001000005000000, 9]), 5, [0x4001000005000000, 9], _,
      rfl, by decide +kernel⟩
  · exact ⟨withFab (fun f => { f with seen := [(1, 5)] }) (arrived 16 4 [0x3001000005000000, 9]), taken (isDisc 3) (withFab (fun f => { f
      with seen := [(1, 5)] }) (arrived 16 4 [0x3001000005000000, 9])), 5, [0x3001000005000000, 9], _, rfl, by decide +kernel⟩
  · exact ⟨withFab (fun f => { f with seen := [(1, 5)] }) (arrived 16 4 [0x4001000005000000, 9]), taken (isDisc 4) (withFab (fun f => { f
      with seen := [(1, 5)] }) (arrived 16 4 [0x4001000005000000, 9])), 5, [0x4001000005000000, 9], _, rfl, by decide +kernel⟩
  · exact ⟨inMode .load, by decide +kernel⟩
  · exact ⟨fabIn .up [], 5, by decide +kernel⟩
  · exact ⟨fabIn .up [(F.FAB_STATUS_ADDR, 0, 4)], 5, by decide +kernel⟩
  · exact ⟨fabIn .up [], by decide +kernel⟩
  · exact ⟨withFab (fun f => { f with treePort := some 5 }) (fabIn .up [(F.TIM_CTRL_SRC, 0, 2)]), 5, 3, 100, by decide +kernel⟩
  · exact ⟨fabIn .up [(F.TIM_CTRL_SRC, 0, 2)], 5, 3, 100, by decide +kernel⟩
  · exact ⟨withFp (fun p => { p with tseq := 3, t1 := 10, t2 := 20, t3 := 30 }) (withFab (fun f => { f with treePort := some 5 }) (fabIn
      .up [(F.TIM_CTRL_SRC, 0, 2), (F.TIM_PTP_CFG_MPD_MAX, 0, 1)])), 5, 3, 40, 10, by decide +kernel⟩

/-- Operands that meet the hypotheses of Obligations.EventRouting, clause by clause. -/
theorem met_EventRouting :
    (∃ (s : State) (i : Fin 16) (level : Bool) (held : Nat), s.canonical = true ∧ s.bit F.EVT_PIN_DIR i = false ∧ s.mode ≠ .dark ∧
      (s.pin i).level ≠ level ∧ s.fld F.EVT_PIN_FILT i ≤ held) ∧
    (∃ (s : State) (i : Fin 16) (level : Bool) (held : Nat), held < s.fld F.EVT_PIN_FILT i) ∧
    (∃ (s u : State) (dt : Nat) (i : Fin 16), u = s.advance dt ∧ s.canonical = true ∧ u.mode ≠ .dark ∧ u.bit F.EVT_PIN_DIR i = false
      ∧ u.fld F.EVT_CTRL_STUCK ≠ 0 ∧ u.fld F.EVT_PIN_EDGE i = 1 ∧ (u.pin i).level = true ∧ 1000000 * u.fld F.EVT_CTRL_STUCK <
      u.clk - (u.pin i).since ∧ u.bit ⟨.EVT_PINSTAT, 16 + i, 1⟩ = false) ∧
    (∃ (s u : State) (dt : Nat) (i : Fin 16), u = s.advance dt ∧ (u.fld F.EVT_CTRL_STUCK = 0 ∨ u.clk - (u.pin i).since ≤ 1000000 *
      u.fld F.EVT_CTRL_STUCK)) ∧
    (∃ (s u : State) (dt : Nat) (i : Fin 16), u = s.advance dt ∧ s.canonical = true ∧ (u.pin i).pulse = true ∧ 40 * max (u.fld
      F.EVT_PIN_PW i) 1 ≤ u.clk - (u.pin i).pulseAt ∧ (u.pin i).out ≠ u.bit F.EVT_PIN_POL i ∧ i.val < u.evt.pins.length) ∧
    (∃ (s u : State) (dt : Nat) (i : Fin 16), u = s.advance dt ∧ ((u.pin i).pulse = false ∨ u.clk - (u.pin i).pulseAt < 40 * max
      (u.fld F.EVT_PIN_PW i) 1)) ∧
    (∃ (s : State) (c : Fin 64), s.canonical = true ∧ s.chanOn c = true ∧ s.mode ≠ .standby ∧ (s.chan c).seen + 1 = s.chanFired c ∧
      s.fld F.EVT_CH_TSEL c = 0x53 ∧ ((s.chan c).recent.filter s.inGuard).length < s.loopLimit) ∧
    (∃ (s : State) (c : Fin 64), s.canonical = true ∧ s.chanOn c = true ∧ s.mode ≠ .standby ∧ (s.chan c).seen ≠ s.chanFired c ∧
      s.fld F.EVT_CH_TSEL c < 0x59 ∧ c.val < s.evt.chans.length ∧ s.loopLimit ≤ ((s.chan c).recent.filter s.inGuard).length) ∧
    (∃ (s : State) (c : Fin 64), (s.chanOn c = false ∨ (s.chan c).seen = s.chanFired c)) ∧
    (∃ (s : State) (c : Fin 64), s.canonical = true ∧ s.bit (loopedBit c) (c / 32) = true) ∧
    (∃ (s : State) (task : BitVec 7), s.canonical = true ∧ s.mode ≠ .dark ∧ s.mode ≠ .standby ∧ task = 0x55) ∧
    (∃ (s : State) (task : BitVec 7), s.canonical = true ∧ s.mode ≠ .dark ∧ s.mode ≠ .standby ∧ task = 0x51) ∧
    (∃ (s : State) (task : BitVec 7), s.canonical = true ∧ s.mode ≠ .dark ∧ s.mode ≠ .standby ∧ task = 0x50 ∧ s.pmc.stopAt = some
      s.pmc.cyc) ∧
    (∃ (s : State) (task : BitVec 7), s.canonical = true ∧ s.mode ≠ .dark ∧ s.mode ≠ .standby ∧ 0x59 ≤ task.toNat) ∧
    (∃ (s : State) (task : BitVec 7), s.mode = .dark) ∧
    (∃ (s u : State) (dt : Nat) (k : Fin 16), u = s.advance dt ∧ s.canonical = true ∧ u.mode ≠ .standby ∧ u.mode ≠ .dark ∧
      u.cellTable k { u.cell k with pulses := 0 } ≠ (u.cell k).filt ∧ u.fld F.EVT_CELL_FILT k + (u.cell k).since ≤ (u.cell
      k).cycle + 1 ∧ k.val < u.evt.cells.length) ∧
    (∃ (s u : State) (dt : Nat) (k : Fin 16), u = s.advance dt ∧ (u.mode = .standby ∨ u.mode = .dark ∨ (u.cell k).cycle + 1 < u.fld
      F.EVT_CELL_FILT k + (u.cell k).since)) := by
  refine ⟨?_, ?_, ?_, ?_, ?_, ?_, ?_, ?_, ?_, ?_, ?_, ?_, ?_, ?_, ?_, ?_, ?_⟩
  · exact ⟨atM .perform [(F.EVT_PIN_FILT, 15, 4)], 15, true, 4, by decide +kernel⟩
  · exact ⟨atM .perform [(F.EVT_PIN_FILT, 15, 4)], 15, true, 3, by decide +kernel⟩
  · exact ⟨ran1 (.evtPinEdge 15 true 4) (atM .perform [(F.EVT_CTRL_STUCK, 0, 2), (F.EVT_PIN_EDGE, 15, 1)]), _, 2000001, 15, rfl,
      by decide +kernel⟩
  · exact ⟨ran1 (.evtPinEdge 15 true 4) (atM .perform [(F.EVT_CTRL_STUCK, 0, 2), (F.EVT_PIN_EDGE, 15, 1)]), _, 2000000, 15, rfl,
      by decide +kernel⟩
  · exact ⟨withEvt (fun e => { e with pins := e.pins.set 15 ⟨false, true, true, 0, 0⟩ }) (atM .perform [(F.EVT_PIN_PW, 15, 2)]), _, 80,
      15, rfl, by decide +kernel⟩
  · exact ⟨withEvt (fun e => { e with pins := e.pins.set 15 ⟨false, true, true, 0, 0⟩ }) (atM .perform [(F.EVT_PIN_PW, 15, 2)]), _, 79,
      15, rfl, by decide +kernel⟩
  · exact ⟨chanIn 0x53 [0], 63, by decide +kernel⟩
  · exact ⟨chanIn 0x53 [0, 0], 63, by decide +kernel⟩
  · exact ⟨inMode .perform, 63, by decide +kernel⟩
  · exact ⟨puts (chanIn 0x53 [0, 0]) [(loopedBit 63, 1, 1)], 63, by decide +kernel⟩
  · exact ⟨inMode .perform, 0x55, by decide +kernel⟩
  · exact ⟨inMode .perform, 0x51, by decide +kernel⟩
  · exact ⟨ran1 (.softwareFire 0x51) (inMode .perform), 0x50, by decide +kernel⟩
  · exact ⟨inMode .perform, 0x59, by decide +kernel⟩
  · exact ⟨inMode .dark, 0x55, by decide +kernel⟩
  · exact ⟨atM .perform [(F.EVT_CELL_LUT, 15, 0xFFFF), (F.EVT_CELL_FILT, 15, 3)], _, 40, 15, rfl, by decide +kernel⟩
  · exact ⟨atM .perform [(F.EVT_CELL_LUT, 15, 0xFFFF), (F.EVT_CELL_FILT, 15, 7)], _, 0, 15, rfl, by decide +kernel⟩

/-- Operands that meet the hypotheses of Obligations.PerformanceCounters, clause by clause. -/
theorem met_PerformanceCounters :
    (∃ (s u : State), u = s.advance (ceilDiv (10 * s.pmc.left) 13) ∧ s.canonical = true ∧ s.pmcWindows = true) ∧
    (∃ (s : State), s.pmcWindows = false) ∧
    (∃ (s : State) (i : Fin 8), s.canonical = true ∧ F.PMC_CTRL_RUN.get s.pmc.ctrl = 1 ∧ s.pmcValue i = 2 ^ 48 - 1 ∧ (∀ j, j < 8 →
      s.pmcEvent j ≠ 0xBE)) ∧
    (∃ (s : State) (i : Fin 8), s.pmcValue i ≠ 2 ^ 48 - 1) := by
  refine ⟨?_, ?_, ?_, ?_⟩
  · exact ⟨counting 1, _, rfl, by decide +kernel⟩
  · exact ⟨counting 3, by decide +kernel⟩
  · exact ⟨(counting 1).setPair .PMC_CNT_LO .PMC_CNT_HI 7 16 (2 ^ 48 - 1), 7, by decide +kernel⟩
  · exact ⟨counting 1, 7, by decide +kernel⟩

/-- Operands that meet the hypotheses of Obligations.HeatSensors, clause by clause. -/
theorem met_HeatSensors :
    (∃ (s u v : State) (dt : Nat) (i : Fin 24) (raw : BitVec 16), u = s.advance dt ∧ v = { u with thm := { u.thm with fastAt :=
      u.clk } } ∧ s.canonical = true ∧ u.glb.powered = true ∧ u.mode ≠ .dark ∧ 10000 ≤ u.clk - u.thm.fastAt ∧ v.fastSet true =
      [i.val] ∧ v.isBroken i = false ∧ (v.testCounts i raw.toNat (v.readingOf i raw.toNat)).brokenCause i (v.readingOf i
      raw.toNat) = 0 ∧ (v.sampleSensor i raw.toNat).heatStates.shutdownCause = none) ∧
    (∃ (s u : State) (dt : Nat) (codes : List (BitVec 16)), u = s.advance dt ∧ (u.glb.powered = false ∨ u.mode = .dark ∨ u.clk -
      u.thm.fastAt < 10000)) ∧
    (∃ (s u v : State) (dt : Nat) (rails : List Nat) (r : Fin 9) (mv : Nat), u = s.advance dt ∧ v = { u with thm := { u.thm with
      slowAt := u.clk } } ∧ s.canonical = true ∧ u.thmOn = true ∧ u.mode ≠ .dark ∧ 2000000 ≤ u.clk - u.thm.slowAt ∧ v.fastSet
      false = [] ∧ (∀ b, b < 8 → v.bit F.THM_BRD_EN b = false) ∧ rails[r.val]? = some mv ∧ mv < 65536 ∧ ((forBelow 24 (fun i t
      => t.learnLofs i) v).railRound rails).heatStates.shutdownCause = none) ∧
    (∃ (s u : State) (dt : Nat) (codes : List (BitVec 16)) (rails : List Nat) (boards : List (Option (BitVec 16))), u = s.advance dt
      ∧ (u.thmOn = false ∨ u.clk - u.thm.slowAt < 2000000)) ∧
    (∃ (s : State) (i : Fin 24), s.canonical = true ∧ s.isBroken i = true ∧ 1024 ≤ (s.sensor i).clean) ∧
    (∃ (s : State) (i : Fin 24), (s.isBroken i = false ∨ (s.sensor i).clean < 1024)) ∧
    (∃ (s : State) (b : Fin 8), s.canonical = true ∧ s.thmOn = true ∧ s.bit F.THM_BRD_EN b = true) ∧
    (∃ (s : State) (b : Fin 8), (s.thmOn = false ∨ s.bit F.THM_BRD_EN b = false)) := by
  refine ⟨?_, ?_, ?_, ?_, ?_, ?_, ?_, ?_⟩
  · exact ⟨fast23, _, _, 10000, 23, 1024, rfl, rfl, by decide +kernel⟩
  · exact ⟨fast23, _, 9999, [1024], rfl, by decide +kernel⟩
  · exact ⟨slowIn, _, _, 2000000, [800], 0, 800, rfl, rfl, by decide +kernel⟩
  · exact ⟨slowIn, _, 1999999, [], [800], [], rfl, by decide +kernel⟩
  · exact ⟨withThm (fun h => { h with sensors := h.sensors.set 23 { (inMode .perform).sensor 23 with clean := 1024 } }) (atM .perform
      [(F.THM_TS_BROKEN, 23, 1), (F.THM_TS_CAUSE, 23, 1)]), 23, by decide +kernel⟩
  · exact ⟨fast23, 23, by decide +kernel⟩
  · exact ⟨atM .perform [(F.THM_BRD_EN, 7, 1)], 7, by decide +kernel⟩
  · exact ⟨inMode .perform, 7, by decide +kernel⟩

/-- Operands that meet the hypotheses of Obligations.HeatResponse, clause by clause. -/
theorem met_HeatResponse :
    (∃ (s u v : State) (dt : Nat) (codes : List (BitVec 16)) (n d : Nat), u = s.advance dt ∧ v = { u with thm := { u.thm with fastAt
      := u.clk } } ∧ s.canonical = true ∧ u.glb.powered = true ∧ u.mode ≠ .dark ∧ 10000 ≤ u.clk - u.thm.fastAt ∧ (v.sampleRound
      (v.fastSet true) codes).heatStates.shutdownCause = some (n, d)) ∧
    (∃ (s u : State) (dt : Nat), u = s.advance dt ∧ s.canonical = true ∧ u.mode ≠ .dark ∧ 1000000 * atLeast1 (u.fld
      F.THM_THR_CFG_STEP_MS) ≤ u.clk - u.thm.stepAt ∧ u.throttleSource = true) ∧
    (∃ (s u : State) (dt : Nat), u = s.advance dt ∧ s.canonical = true ∧ u.mode ≠ .dark ∧ 1000000 * atLeast1 (u.fld
      F.THM_THR_CFG_STEP_MS) ≤ u.clk - u.thm.stepAt ∧ u.throttleSource = false) ∧
    (∃ (s u : State) (dt : Nat), u = s.advance dt ∧ (u.mode = .dark ∨ u.clk - u.thm.stepAt < 1000000 * atLeast1 (u.fld
      F.THM_THR_CFG_STEP_MS))) ∧
    (∃ (s : State), s.canonical = true ∧ s.glb.powered = true ∧ s.darkFor 8 = true ∧ s.pwr.bothCauses = false ∧ s.pwr.curtain =
      false ∧ s.pwr.write = none ∧ s.cooled = true) ∧
    (∃ (s : State), (s.cooled = false ∨ s.pwr.write ≠ none)) := by
  refine ⟨?_, ?_, ?_, ?_, ?_, ?_⟩
  · exact ⟨withThm (fun h => { h with sensors := h.sensors.set 0 { (inMode .perform).sensor 0 with flags := [false, false, true] } })
      (inMode .perform), _, _, 10000, [], 0, 1, rfl, rfl, by decide +kernel⟩
  · exact ⟨atM .perform [(F.THM_THR_CFG_STEP_MS, 0, 3), (F.THM_STATUS_THROTTLE, 0, 1), (F.THM_STATUS_LEVEL, 0, 1)], _, 3000000, rfl,
      by decide +kernel⟩
  · exact ⟨atM .perform [(F.THM_THR_CFG_STEP_MS, 0, 3), (F.THM_STATUS_THROTTLE, 0, 0), (F.THM_STATUS_LEVEL, 0, 1)], _, 3000000, rfl,
      by decide +kernel⟩
  · exact ⟨atM .perform [(F.THM_THR_CFG_STEP_MS, 0, 3), (F.THM_STATUS_THROTTLE, 0, 0), (F.THM_STATUS_LEVEL, 0, 1)], _, 2999999, rfl,
      by decide +kernel⟩
  · exact ⟨cold4, by decide +kernel⟩
  · exact ⟨inMode .perform, by decide +kernel⟩

/-- Operands that meet the hypotheses of Obligations.SupplyLoss, clause by clause. -/
theorem met_SupplyLoss :
    (∃ (s : State) (x : BitVec 4), s.canonical = true ∧ filter3of4 (!s.pwr.pfail) x = false ∧ s.glb.powered = true ∧ s.pwr.curtain =
      false ∧ s.mode ≠ .dark ∧ s.pwr.step6 = true) ∧
    (∃ (s : State) (x : BitVec 4), filter3of4 (!s.pwr.pfail) x = false ∧ s.glb.powered = false) ∧
    (∃ (s : State) (x : BitVec 4), filter3of4 (!s.pwr.pfail) x = true) ∧
    (∃ (s : State) (mv held : Nat), s.canonical = true ∧ s.glb.powered = true ∧ s.bit F.PWR_CFG_VIN_EN = true ∧ mv < s.tripLevel ∧ 4
      ≤ held ∧ s.pwr.curtain = false ∧ s.mode ≠ .dark ∧ s.pwr.step6 = true) ∧
    (∃ (s : State) (mv held : Nat), (s.bit F.PWR_CFG_VIN_EN = false ∨ s.tripLevel ≤ mv ∨ held < 4)) ∧
    (∃ (s : State) (g : Fin 4) (held : Nat), s.canonical = true ∧ s.glb.powered = true ∧ s.bit F.PWR_CFG_PG_CURTAIN = true ∧ 4 ≤
      held ∧ s.pwr.curtain = false ∧ s.mode ≠ .dark ∧ s.pwr.step6 = true) ∧
    (∃ (s : State) (g : Fin 4) (held : Nat), (s.bit F.PWR_CFG_PG_CURTAIN = false ∨ held < 4)) ∧
    (∃ (s : State) (mv held : Nat), s.canonical = true ∧ s.glb.powered = true ∧ s.darkFor 9 = true ∧ s.fld F.PWR_VIN_CFG_RESTORE ≤
      mv ∧ atLeast1 (s.fld F.PWR_CFG_RESTORE_MS) ≤ held) ∧
    (∃ (s : State) (mv held : Nat), (mv < s.fld F.PWR_VIN_CFG_RESTORE ∨ held < atLeast1 (s.fld F.PWR_CFG_RESTORE_MS))) ∧
    (∃ (s u v : State) (dt : Nat), u = s.advance dt ∧ v = { u with pwr := { u.pwr with healthAt := u.clk } } ∧ s.canonical = true ∧
      u.mode.periodic = true ∧ u.fld F.PWR_CFG_HEALTH ≠ 0 ∧ 1000000000 * u.fld F.PWR_CFG_HEALTH ≤ u.clk - u.pwr.healthAt ∧
      v.sink = 0 ∧ v.hst.routineQ.length < 7680) ∧
    (∃ (s u : State) (dt : Nat), u = s.advance dt ∧ (u.fld F.PWR_CFG_HEALTH = 0 ∨ u.mode.periodic = false ∨ u.clk - u.pwr.healthAt <
      1000000000 * u.fld F.PWR_CFG_HEALTH)) := by
  refine ⟨?_, ?_, ?_, ?_, ?_, ?_, ?_, ?_, ?_, ?_, ?_⟩
  · exact ⟨lit [], 0x8, by decide +kernel⟩
  · exact ⟨State.reset, 0x8, by decide +kernel⟩
  · exact ⟨lit [], 0x9, by decide +kernel⟩
  · exact ⟨lit [(F.PWR_CFG_VIN_EN, 0, 1), (F.PWR_VIN_CFG_TRIP, 0, 7500), (F.PWR_CFG_PG_CURTAIN, 0, 1)], 7499, 4, by decide +kernel⟩
  · exact ⟨lit [(F.PWR_CFG_VIN_EN, 0, 1), (F.PWR_VIN_CFG_TRIP, 0, 7500), (F.PWR_CFG_PG_CURTAIN, 0, 1)], 7500, 4, by decide +kernel⟩
  · exact ⟨lit [(F.PWR_CFG_VIN_EN, 0, 1), (F.PWR_VIN_CFG_TRIP, 0, 7500), (F.PWR_CFG_PG_CURTAIN, 0, 1)], 3, 4, by decide +kernel⟩
  · exact ⟨lit [(F.PWR_CFG_VIN_EN, 0, 1), (F.PWR_VIN_CFG_TRIP, 0, 7500), (F.PWR_CFG_PG_CURTAIN, 0, 1)], 3, 3, by decide +kernel⟩
  · exact ⟨atM .dark [(F.SEC_DARK_REASON, 0, 9), (F.PWR_VIN_CFG_RESTORE, 0, 9000), (F.PWR_CFG_RESTORE_MS, 0, 5)], 9000, 5,
      by decide +kernel⟩
  · exact ⟨atM .dark [(F.SEC_DARK_REASON, 0, 9), (F.PWR_VIN_CFG_RESTORE, 0, 9000), (F.PWR_CFG_RESTORE_MS, 0, 5)], 8999, 5,
      by decide +kernel⟩
  · exact ⟨atM .perform [(F.PWR_CFG_HEALTH, 0, 2), (F.PWR_CFG_CKPT, 0, 3)], _, _, 2000000000, rfl, rfl, by decide +kernel⟩
  · exact ⟨atM .perform [(F.PWR_CFG_HEALTH, 0, 2), (F.PWR_CFG_CKPT, 0, 3)], _, 1999999999, rfl, by decide +kernel⟩

/-- Operands that meet the hypotheses of Obligations.SlotWrites, clause by clause. -/
theorem met_SlotWrites :
    (∃ (s : State) (g : BookGroup) (rest : List BookGroup), s.pwr.groups = g :: rest ∧ g.closed = true) ∧
    (∃ (s : State), s.pwr.groups = []) ∧
    (∃ (s u : State) (dt : Nat), u = s.advance dt ∧ s.canonical = true ∧ u.mode.periodic = true ∧ u.fld F.PWR_CFG_CKPT ≠ 0 ∧
      100000000 * u.fld F.PWR_CFG_CKPT ≤ u.clk - u.pwr.ckptAt ∧ u.pwr.write = none ∧ u.pwr.curtain = false) ∧
    (∃ (s u : State) (dt : Nat), u = s.advance dt ∧ (u.fld F.PWR_CFG_CKPT = 0 ∨ u.mode.periodic = false ∨ u.clk - u.pwr.ckptAt <
      100000000 * u.fld F.PWR_CFG_CKPT)) ∧
    (∃ (s : State) (micros : Nat) (w : SlotWrite), s.canonical = true ∧ s.pwr.write = some w ∧ s.pwr.curtain = false) ∧
    (∃ (s : State) (micros : Nat), s.pwr.write = none) := by
  refine ⟨?_, ?_, ?_, ?_, ?_, ?_⟩
  · exact ⟨withPwr (fun p => { p with groups := [⟨none, none, true⟩] }) (inMode .perform), ⟨none, none, true⟩, [], by decide +kernel⟩
  · exact ⟨inMode .perform, by decide +kernel⟩
  · exact ⟨atM .perform [(F.PWR_CFG_HEALTH, 0, 2), (F.PWR_CFG_CKPT, 0, 3)], _, 300000000, rfl, by decide +kernel⟩
  · exact ⟨atM .perform [(F.PWR_CFG_HEALTH, 0, 2), (F.PWR_CFG_CKPT, 0, 3)], _, 299999999, rfl, by decide +kernel⟩
  · exact ⟨withPwr (fun p => { p with write := some writing7 }) (inMode .perform), 3500, writing7, by decide +kernel⟩
  · exact ⟨inMode .perform, 3500, by decide +kernel⟩

end Sys2Proof.Tests
end

section
/-! PROOFS. What the commands of the line path do to a line: LINE_DELIVERY and STRIP_BOUNDARY (spec/01 R18, R22, R23). -/

namespace Sys2Proof.Machine

variable {s s0 : State}

/-! ### Accesses to memory that end -/

theorem answerAll_idle (hd : s.mem.done = []) (k : Nat) : s.answerAll k = s := by
  cases k with
  | zero => rfl
  | succ k =>
    unfold State.answerAll
    rw [hd]

/-- With no transition in progress and no request held, mode control has nothing to go on with. -/
theorem transCheck_idle (ht : s.glb.trans = none) (hp : s.glb.pend = none) : s.transCheck = s := by
  have hl : s.leaveTry = s := by
    unfold State.leaveTry
    rw [ht]
  unfold State.transCheck State.settle
  rw [hl, ht, hp]

theorem memRespond_idle (hd : s.mem.done = []) (ht : s.glb.trans = none) (hp : s.glb.pend = none) : s.memRespond = s := by
  unfold State.memRespond
  rw [answerAll_idle hd, transCheck_idle ht hp]

/-! ### Sets of parts -/

/-- Every part but those of a set. -/
def allBut (b : Nat) : Nat := (allRegs ||| (2 ^ 46 - 1)) ^^^ b

/-- Every part but the camera ports and the heads of COR. -/
def offLines : Nat := allBut 0xC00000

/-- Every part but the transition of mode control and the request that it holds. -/
def offTrans : Nat := allBut 0x600000000

/-- Every part but the working values. -/
def offWork : Nat := allBut 0x10

/-- A transition neither starts nor ends in a delivery. -/
theorem deliver_offTrans (p : Nat) (faults : List (Nat × Bool)) : Keeps offTrans s (s.deliver p faults) :=
  deliver_keeps ((Sub.rfl _).mono (by rfl)) (Keeps.rfl _ s)

theorem stageBoundary_offTrans (x : Stage) (h : Nat) (n : LineNo) : Keeps offTrans s (s.stageBoundary x h n) :=
  stageBoundary_keeps ((Sub.rfl _).mono (by rfl)) (Keeps.rfl _ s)

theorem memRespond_of_offTrans {t : State} (k : Keeps offTrans s t) (hc : s.canonical = true) (hd : t.mem.done = [])
    (ht : s.glb.trans = none) (hp : s.glb.pend = none) : t.memRespond = t :=
  memRespond_idle hd ((k.part hc .glbTrans rfl).trans ht) ((k.part hc .glbPend rfl).trans hp)

/-! ### Latched working values -/

theorem canonical_latch (r : Reg) (i : Nat) (hc : s.canonical = true) : (s.latch r i).canonical = true :=
  (latch_keeps (m := 0x10) (Sub.rfl _) (Keeps.rfl _ s)).canonical hc

@[simp] theorem rd_latch (r q : Reg) (i j : Nat) : (s.latch r i).rd q j = s.rd q j := rfl

theorem rdWork_latch_same (r : Reg) (i : Nat) (hc : s.canonical = true) : (s.latch r i).rdWork r i = s.rd r i :=
  spGet_set_same _ _ _ (State.canonical_iff.1 hc).2.1

theorem rdWork_latch_ne {r q : Reg} {i j : Nat} (hk : q.key j ≠ r.key i) (hc : s.canonical = true) :
    (s.latch r i).rdWork q j = s.rdWork q j :=
  spGet_set_ne _ _ _ hk (State.canonical_iff.1 hc).2.1

/-- R23: the copies `b` to `b + n - 1` of a register are latched. -/
def State.latchRange (s : State) (r : Reg) (b n : Nat) : State := forBelow n (fun i u => u.latch r (b + i)) s

theorem latchRange_succ (r : Reg) (b n : Nat) : s.latchRange r b (n + 1) = (s.latchRange r b n).latch r (b + n) := by
  simp [State.latchRange, forBelow, List.range_succ]

theorem canonical_latchRange (r : Reg) (b n : Nat) (hc : s.canonical = true) : (s.latchRange r b n).canonical = true :=
  (keeps_forBelow (m := 0x10) (fun _ _ h => latch_keeps (Sub.rfl _) h) (Keeps.rfl _ s)).canonical hc

@[simp] theorem rd_latchRange (r q : Reg) (b n j : Nat) : (s.latchRange r b n).rd q j = s.rd q j :=
  forBelow_same (fun t => t.rd q j) (fun i _ => rd_latch r q (b + i) j)

theorem rdWork_latchRange_ne {r q : Reg} (b n j : Nat) (hq : q.part ≠ r.part) (hc : s.canonical = true) :
    (s.latchRange r b n).rdWork q j = s.rdWork q j := by
  induction n with
  | zero => rfl
  | succ n ih => rw [latchRange_succ, rdWork_latch_ne (Reg.key_ne hq _ _) (canonical_latchRange r b n hc), ih]

theorem rdWork_latchRange {r : Reg} {b n k : Nat} (hk : k < n) (hc : s.canonical = true) :
    (s.latchRange r b n).rdWork r (b + k) = s.rd r (b + k) := by
  induction n with
  | zero => exact absurd hk (Nat.not_lt_zero k)
  | succ n ih =>
    rw [latchRange_succ]
    have hn := canonical_latchRange r b n hc
    by_cases hkn : k = n
    · subst hkn
      rw [rdWork_latch_same _ _ hn, rd_latchRange]
    · rw [rdWork_latch_ne (Reg.key_index_ne r (by omega)) hn, ih (by omega)]

/-! ### Boundaries -/

/-- R23: what a boundary latches when it enters COR. -/
theorem corLatch_work (h : Nat) (hc : s.canonical = true) :
    (s.corLatch h).canonical = true ∧ (s.corLatch h).rdWork .COR_HEAD_CFG h = s.rd .COR_HEAD_CFG h ∧
      (s.corLatch h).rdWork .COR_BAL_RG h = s.rd .COR_BAL_RG h ∧
      (s.corLatch h).rdWork .COR_BAL_B h = s.rd .COR_BAL_B h := by
  have hc1 := canonical_latch .COR_HEAD_CFG h hc
  have hc2 := canonical_latch .COR_BAL_RG h hc1
  have hc3 := canonical_latch .COR_BAL_B h hc2
  have k : Keeps offWork (((s.latch .COR_HEAD_CFG h).latch .COR_BAL_RG h).latch .COR_BAL_B h) (s.corLatch h) :=
    setCorHead_keeps ((Sub.rfl _).mono (by rfl)) (ffApply_keeps ((Sub.rfl _).mono (by rfl))
      (cameraSwap_keeps ((Sub.rfl _).mono (by rfl)) (Keeps.rfl _ _)))
  have hw := k.part hc3 .work rfl
  refine ⟨k.canonical hc3, ?_, ?_, ?_⟩
  · rw [hw, rdWork_latch_ne (Reg.key_ne (by decide) _ _) hc2, rdWork_latch_ne (Reg.key_ne (by decide) _ _) hc1,
      rdWork_latch_same _ _ hc]
  · rw [hw, rdWork_latch_ne (Reg.key_ne (by decide) _ _) hc2, rdWork_latch_same _ _ hc1, rd_latch]
  · rw [hw, rdWork_latch_same _ _ hc2, rd_latch, rd_latch]

/-- R22, R23: at a boundary of COR the head's balance and enables become the working ones. -/
theorem stageBoundary_cor (h : Nat) (n : LineNo) (hc : s.canonical = true) :
    (s.stageBoundary .cor h n).rdWork .COR_HEAD_CFG h = s.rd .COR_HEAD_CFG h ∧
      (s.stageBoundary .cor h n).rdWork .COR_BAL_RG h = s.rd .COR_BAL_RG h ∧
      (s.stageBoundary .cor h n).rdWork .COR_BAL_B h = s.rd .COR_BAL_B h := by
  have k : Keeps 0x400800 s ((s.noteCross .cor h n).prehBoundary h) :=
    prehBoundary_keeps ((Sub.rfl _).mono (by rfl)) (noteCross_keeps ((Sub.rfl _).mono (by rfl)) (Keeps.rfl _ s))
  obtain ⟨hl, hcfg, hrg, hb⟩ := corLatch_work h (k.canonical hc)
  rw [k.rd hc _ h rfl] at hcfg hrg hb
  have kt : Keeps offWork (((s.noteCross .cor h n).prehBoundary h).corLatch h) (s.stageBoundary .cor h n) :=
    keeps_ite (Keeps.rfl _ _) (corTurn_keeps ((Sub.rfl _).mono (by rfl)) (Keeps.rfl _ _))
  have hw := kt.part hl .work rfl
  exact ⟨(hw _ h).trans hcfg, (hw _ h).trans hrg, (hw _ h).trans hb⟩

/-- R23, R211: at a boundary of SEG the model's settings and the thresholds become the working ones. -/
theorem stageBoundary_seg (h : Nat) (n : LineNo) (hc : s.canonical = true) :
    (s.stageBoundary .seg h n).rdWork .SEG_BG_CFG h = s.rd .SEG_BG_CFG h ∧
      (s.stageBoundary .seg h n).rdWork .SEG_BG_LIM h = s.rd .SEG_BG_LIM h ∧
      ∀ k < 18, (s.stageBoundary .seg h n).rdWork .SEG_THR (h * 18 + k) = s.rd .SEG_THR (h * 18 + k) := by
  have hc0 : (s.noteCross .seg h n).canonical = true := hc
  have hc1 := canonical_latch .SEG_BG_CFG h hc0
  have hc2 := canonical_latch .SEG_BG_LIM h hc1
  have hc3 := canonical_latchRange .SEG_THR (h * 18) 18 hc2
  have k : Keeps offWork ((((s.noteCross .seg h n).latch .SEG_BG_CFG h).latch .SEG_BG_LIM h).latchRange .SEG_THR (h * 18) 18)
      (s.stageBoundary .seg h n) := by
    change Keeps _ _ (State.segBoundary _ h n)
    unfold State.segBoundary
    extract_lets +onlyGivenNames a latched
    change Keeps offWork latched _
    split
    · exact Keeps.rfl _ _
    · refine keeps_ite ?_ (Keeps.rfl _ _)
      exact raise_keeps ((Sub.rfl _).mono (by rfl)) (by rfl) (putB_keeps ((Sub.rfl offWork).at .SEG_WARM_STATE (by rfl))
        (setSegHead_keeps ((Sub.rfl _).mono (by rfl)) (Keeps.rfl _ _)))
  have hw := k.part hc3 .work rfl
  refine ⟨?_, ?_, fun i hi => ?_⟩
  · rw [hw, rdWork_latchRange_ne _ _ _ (by decide) hc2, rdWork_latch_ne (Reg.key_ne (by decide) _ _) hc1,
      rdWork_latch_same _ _ hc0]
    rfl
  · rw [hw, rdWork_latchRange_ne _ _ _ (by decide) hc2, rdWork_latch_same _ _ hc1]
    rfl
  · rw [hw, rdWork_latchRange hi hc2]
    rfl

/-! ### The entry of a row in the strip index -/

@[simp] theorem panicCheck_mem : s.panicCheck.mem = s.mem := by
  unfold State.panicCheck
  refine forBelow_same (fun t => t.mem) (fun p t => ?_)
  extract_lets +onlyGivenNames l on off
  clear_value l on off
  split <;> split <;> rfl

/-- A write that does not end at once waits with the accesses that are outstanding. -/
theorem memWrite_ops {owner : TxOwner} {port addr : Nat} {data : List Byte}
    (hd : (s.memWrite owner port addr data).mem.done = []) :
    ∃ o, (s.memWrite owner port addr data).mem.ops = s.mem.ops ++ [o] ∧ o.owner = owner ∧ o.write = true ∧
      o.addr = addr := by
  generalize hr : s.memWrite owner port addr data = r at hd ⊢
  unfold State.memWrite State.memAccess at hr
  extract_lets +onlyGivenNames id m t ps o at hr
  split at hr
  · exact absurd hd (by simp [← hr, State.memFail])
  · split at hr
    · exact absurd hd (by simp [← hr])
    · exact ⟨o, by simp [← hr, m, t], rfl, rfl, rfl⟩

/-- Ending the open row leaves the accesses to memory and the place of the strip index alone. -/
theorem arcEndRow_same (h g : Nat) (n : LineNo) : (s.arcEndRow h).mem = s.mem ∧
    (s.arcEndRow h).stripLine n = s.stripLine n ∧ (s.arcEndRow h).entryAddr g n = s.entryAddr g n := by
  unfold State.arcEndRow
  split <;> exact ⟨rfl, rfl, rfl⟩

/-- R317: a row that begins writes its entry of the strip index. -/
theorem arcStartRow_ops {h : Nat} {n : LineNo} (hd : (s.arcStartRow h n).mem.done = []) :
    ∃ o, (s.arcStartRow h n).mem.ops = s.mem.ops ++ [o] ∧ o.owner = .arcIndex h ∧ o.write = true ∧
      o.addr = s.entryAddr h (s.stripLine n) := by
  obtain ⟨hm, hl, -⟩ := arcEndRow_same (s := s) h h n
  obtain ⟨-, -, ha⟩ := arcEndRow_same (s := s) h h (s.stripLine n)
  obtain ⟨o, hops, hown, hwr, haddr⟩ := memWrite_ops hd
  refine ⟨o, ?_, hown, hwr, ?_⟩
  · rw [← hm]
    exact hops
  · rw [haddr, ← ha, ← hl]
    rfl

theorem stageBoundary_arc {h : Nat} {n : LineNo} (ho : s.arcOn h = true) (hd : (s.stageBoundary .arc h n).mem.done = []) :
    ∃ o, (s.stageBoundary .arc h n).mem.ops = s.mem.ops ++ [o] ∧ o.owner = .arcIndex h ∧ o.write = true ∧
      o.addr = s.entryAddr h (s.stripLine n) := by
  have he : s.stageBoundary .arc h n = (s.noteCross .arc h n).arcStartRow h n := if_pos ho
  rw [he] at hd ⊢
  exact arcStartRow_ops hd

/-! ### Lines that wait: the FIFOs of the ports and the last lines of COR's heads -/

/-- From `s` to a canonical `t`, the FIFOs of the camera ports and the lines that entered COR last have stayed. -/
structure KeepsLines (s t : State) : Prop where
  canonical : t.canonical = true
  fifo : ∀ p, (t.camPort p).fifo = (s.camPort p).fifo
  last : ∀ h, (t.corHead h).last = (s.corHead h).last
  heads : t.cor.heads.length = s.cor.heads.length

theorem KeepsLines.refl (hc : s.canonical = true) : KeepsLines s s := ⟨hc, fun _ => rfl, fun _ => rfl, rfl⟩

/-- What changes neither the camera ports nor the heads of COR keeps the lines. -/
theorem KeepsLines.keeps {t : State} (k : KeepsLines s0 s) (h : Keeps offLines s t) : KeepsLines s0 t := by
  have hcam : t.cam = s.cam := h.part k.canonical .cam rfl
  have hcor : t.cor = s.cor := h.part k.canonical .cor rfl
  refine ⟨h.canonical k.canonical, fun p => ?_, fun g => ?_, ?_⟩
  · rw [← k.fifo p, State.camPort, State.camPort, hcam]
  · rw [← k.last g, State.corHead, State.corHead, hcor]
  · rw [hcor, k.heads]

theorem KeepsLines.ite {c : Prop} [Decidable c] {a b : State} (ha : KeepsLines s0 a) (hb : KeepsLines s0 b) :
    KeepsLines s0 (if c then a else b) := by
  split
  · exact ha
  · exact hb

theorem KeepsLines.forBelow {n : Nat} {f : Nat → State → State} (hf : ∀ i t, KeepsLines s0 t → KeepsLines s0 (f i t))
    (k : KeepsLines s0 s) : KeepsLines s0 (forBelow n f s) := by
  unfold Machine.forBelow
  generalize List.range n = l
  induction l generalizing s with
  | nil => exact k
  | cons i r ih => exact ih (hf i s k)

theorem camPort_setCamPort (p q : Nat) (x : CamPort) :
    (s.setCamPort p x).camPort q = if p = q ∧ p < s.cam.length then x else s.camPort q := by
  unfold State.camPort State.setCamPort
  simp only [List.getD_eq_getElem?_getD, List.getElem?_set]
  by_cases hq : p = q
  · subst hq
    by_cases hl : p < s.cam.length <;> simp [hl]
  · simp [hq]

theorem corHead_setCorHead (h g : Nat) (x : CorHead) :
    (s.setCorHead h x).corHead g = if h = g ∧ h < s.cor.heads.length then x else s.corHead g := by
  unfold State.corHead State.setCorHead
  simp only [List.getD_eq_getElem?_getD, List.getElem?_set]
  by_cases hg : h = g
  · subst hg
    by_cases hl : h < s.cor.heads.length <;> simp [hl]
  · simp [hg]

theorem KeepsLines.setCamPort {p : Nat} {x : CamPort} (hx : x.fifo = (s.camPort p).fifo) (k : KeepsLines s0 s) :
    KeepsLines s0 (s.setCamPort p x) := by
  refine ⟨k.canonical, fun q => ?_, k.last, k.heads⟩
  rw [← k.fifo q, camPort_setCamPort]
  split
  · rename_i hq
    rw [hx, hq.1]
  · rfl

theorem KeepsLines.setCorHead {h : Nat} {x : CorHead} (hx : x.last = (s.corHead h).last) (k : KeepsLines s0 s) :
    KeepsLines s0 (s.setCorHead h x) := by
  refine ⟨k.canonical, k.fifo, fun g => ?_, (List.length_set ..).trans k.heads⟩
  rw [← k.last g, corHead_setCorHead]
  split
  · rename_i hg
    rw [hx, hg.1]
  · rfl

theorem KeepsLines.setCorPort {p : Nat} {x : CorPort} (k : KeepsLines s0 s) : KeepsLines s0 (s.setCorPort p x) :=
  ⟨k.canonical, k.fifo, k.last, k.heads⟩

theorem KeepsLines.put {f : Fld} {i v : Nat} (k : KeepsLines s0 s) : KeepsLines s0 (s.put f i v) :=
  ⟨canonical_put f i v k.canonical, k.fifo, k.last, k.heads⟩

theorem KeepsLines.count {r : Reg} {i n : Nat} (k : KeepsLines s0 s) : KeepsLines s0 (s.count r i n) :=
  ⟨canonical_count r i n k.canonical, k.fifo, k.last, k.heads⟩

theorem KeepsLines.emit {e : Emission} (k : KeepsLines s0 s) : KeepsLines s0 (s.emit e) :=
  ⟨k.canonical, k.fifo, k.last, k.heads⟩

theorem KeepsLines.putFfState {h code : Nat} (k : KeepsLines s0 s) : KeepsLines s0 (s.putFfState h code) := k.put

/-! ### Commits and acquisitions keep the lines -/

/-- R85: noting a commit leaves the FIFO of the port alone. -/
theorem committed_fifo (b : BackBlock) (c : CamPort) : ((b.commit.map c.committed).getD c).fifo = c.fifo := by
  cases b.commit <;> rfl

theorem KeepsLines.backSend {p : Nat} (k : KeepsLines s0 s) : KeepsLines s0 (s.backSend p) := by
  unfold State.backSend
  dsimp only
  split
  · exact KeepsLines.emit (KeepsLines.setCamPort (committed_fifo _ _) k)
  · exact k

theorem KeepsLines.backQueue {p : Nat} {bs : List BackBlock} (k : KeepsLines s0 s) : KeepsLines s0 (s.backQueue p bs) := by
  have kd : KeepsLines s0 (s.backDrain p) := KeepsLines.forBelow (fun _ _ kt => kt.backSend) (k.setCamPort rfl)
  exact kd.setCamPort rfl

theorem KeepsLines.commitSet {p sid : Nat} {vals : List Nat} (k : KeepsLines s0 s) :
    KeepsLines s0 (s.commitSet p sid vals) :=
  k.backQueue.setCorPort

theorem KeepsLines.commitExposure {p sid t : Nat} (k : KeepsLines s0 s) : KeepsLines s0 (s.commitExposure p sid t) :=
  k.commitSet.put.put.setCorPort

theorem KeepsLines.darkEnd {p : Nat} (k : KeepsLines s0 s) : KeepsLines s0 (s.darkEnd p) := by
  unfold State.darkEnd
  exact KeepsLines.ite k.setCorPort.commitExposure k

theorem KeepsLines.ffWindowEnd {h : Nat} {r : FfRun} (k : KeepsLines s0 s) : KeepsLines s0 (s.ffWindowEnd h r) := by
  unfold State.ffWindowEnd
  exact KeepsLines.ite (KeepsLines.putFfState (k.setCorHead rfl)) (KeepsLines.darkEnd (k.setCorHead rfl))

theorem KeepsLines.ffTempCheck {h : Nat} (k : KeepsLines s0 s) : KeepsLines s0 (s.ffTempCheck h) := by
  unfold State.ffTempCheck
  exact KeepsLines.ite (k.setCorHead rfl) k

theorem KeepsLines.ffStart {h : Nat} {dark : Bool} {tr : FfTrigger} (k : KeepsLines s0 s) :
    KeepsLines s0 (s.ffStart h dark tr) := by
  unfold State.ffStart
  extract_lets p n win sid x y t c u
  have kt : KeepsLines s0 t := KeepsLines.ite k.commitSet.setCorPort k
  have ku : KeepsLines s0 u := kt.setCorHead rfl
  exact ku.putFfState.keeps (raise_keeps ((Sub.rfl _).mono (by rfl)) (by rfl) (Keeps.rfl _ _))

theorem KeepsLines.ffTurn {h : Nat} (k : KeepsLines s0 s) : KeepsLines s0 (s.ffTurn h) := by
  unfold State.ffTurn
  extract_lets old a c b d
  have ka : KeepsLines s0 a := k.setCorHead rfl
  have kb : KeepsLines s0 b := by
    unfold b
    split
    · exact ka
    · exact KeepsLines.ite ka (KeepsLines.ite ka.ffWindowEnd (ka.setCorHead rfl))
  have kd : KeepsLines s0 d := kb.ffTempCheck
  clear_value d
  split
  · exact kd
  · split
    · exact kd
    · exact kd.ffStart

theorem KeepsLines.closeSpan {h : Nat} (k : KeepsLines s0 s) : KeepsLines s0 (s.closeSpan h) := by
  unfold State.closeSpan
  dsimp only
  split
  · exact k
  · refine KeepsLines.keeps ?_ (emitStats_keeps ((Sub.rfl _).mono (by rfl)) (Keeps.rfl _ _))
    exact k.setCorHead rfl

/-- R22: the turn of a strip leaves the lines that wait. -/
theorem KeepsLines.corTurn {h : Nat} (k : KeepsLines s0 s) : KeepsLines s0 (s.corTurn h) := by
  unfold State.corTurn
  exact KeepsLines.ite (KeepsLines.ffTurn (k.closeSpan.setCorHead rfl)) k

/-! ### A line that leaves COR keeps the lines that wait -/

theorem KeepsLines.statLine {h : Nat} {l : CorLine} {px : List Pix} (k : KeepsLines s0 s) :
    KeepsLines s0 (s.statLine h l px) := by
  unfold State.statLine
  extract_lets +onlyGivenNames t c sp sp'
  have kt : KeepsLines s0 t := by
    unfold t
    split
    · exact KeepsLines.ite k k.closeSpan
    · exact k
  exact KeepsLines.ite k (kt.setCorHead rfl)

theorem KeepsLines.ffLine {h : Nat} {l : CorLine} {px : List Pix} (k : KeepsLines s0 s) :
    KeepsLines s0 (s.ffLine h l px) := by
  unfold State.ffLine
  dsimp only
  split
  · exact k
  · have kr (r : FfRun) : KeepsLines s0 (s.setCorHead h { s.corHead h with run := some r }) := k.setCorHead rfl
    refine KeepsLines.ite k (KeepsLines.ite (KeepsLines.ite k ?_) (kr _))
    exact KeepsLines.ite (KeepsLines.ite k.ffWindowEnd (kr _)) (kr _)

/-- Only a boundary of COR changes the camera ports or the heads of COR. -/
theorem crossIf_offLines {x : Stage} (hx : x ≠ .cor) (h : Nat) (n : LineNo) : Keeps offLines s (s.crossIf x h n) := by
  refine keeps_ite ?_ (Keeps.rfl _ s)
  have kn : Keeps offLines s (s.noteCross x h n) := noteCross_keeps ((Sub.rfl _).mono (by rfl)) (Keeps.rfl _ s)
  cases x with
  | cor => exact absurd rfl hx
  | awf => exact awfBoundary_keeps ((Sub.rfl _).mono (by rfl)) kn
  | seg => exact segBoundary_keeps ((Sub.rfl _).mono (by rfl)) kn
  | arc => exact arcBoundary_keeps ((Sub.rfl _).mono (by rfl)) kn
  | sti => exact stiBoundary_keeps ((Sub.rfl _).mono (by rfl)) kn

theorem lineOut_offLines (h : Nat) (o : OutLine) (faults : List (Nat × Bool)) :
    Keeps offLines s (s.lineOut h o faults) := by
  have kb := ((crossIf_offLines (s := s) (x := .sti) (by decide) h o.line).trans
    (crossIf_offLines (x := .seg) (by decide) h o.line)).trans (crossIf_offLines (x := .arc) (by decide) h o.line)
  exact arcLine_keeps ((Sub.rfl _).mono (by rfl)) (stiLine_keeps ((Sub.rfl _).mono (by rfl))
    (segLine_keeps ((Sub.rfl _).mono (by rfl)) kb))

theorem KeepsLines.corOut {h : Nat} {l : CorLine} {up dn : Option CorLine} {faults : List (Nat × Bool)}
    (k : KeepsLines s0 s) : KeepsLines s0 (s.corOut h l up dn faults) := by
  unfold State.corOut
  extract_lets +onlyGivenNames n px a b malf c d r
  have kb : KeepsLines s0 b := k.count.count.statLine.ffLine
  have hr : Keeps offLines b r.1 := by
    refine awfIn_keeps ((Sub.rfl _).mono (by rfl)) (Keeps.trans ?_ (crossIf_offLines (by decide) h n))
    exact awfLost_keeps ((Sub.rfl _).mono (by rfl)) (gapIf_keeps ((Sub.rfl _).mono (by rfl))
      (gapIf_keeps ((Sub.rfl _).mono (by rfl)) (Keeps.rfl _ b)))
  have kr := kb.keeps hr
  clear_value r
  split
  · exact kr
  · exact kr.keeps (lineOut_offLines _ _ _)

/-! ### The front line of a FIFO goes through correction -/

/-- R18: the front line of a port's FIFO leaves it; coverage and lane-cycles are accounted for. -/
def State.frontTaken (s : State) (p j : Nat) (raw : RawLine) (rest : List (Nat × RawLine)) : State :=
  let c := s.camPort p
  let x := c.heads.getD j CamHead.fresh
  ((s.setCamPort p { c with fifo := rest, heads := c.heads.set j { x with first := raw.line + 1 } }).coverage
    (headOf p j) raw.line).laneCycles (headOf p j) raw

/-- R111: a line has entered COR for head `h`; `held` tells that it waits for its look-ahead. -/
def State.enterCor (s : State) (h : Nat) (l : CorLine) (held : Bool) : State :=
  s.setCorHead h { s.corHead h with last := (l :: (s.corHead h).last).take 3, held := held }

/-- What taking the front line of a FIFO changes. -/
def frontMask : Nat :=
  0x1840000008001000000000000000380020000000000000000000000000000000000000000000000000000000000000000000000000000000000000000000000000058D200

theorem frontTaken_keeps (p j : Nat) (raw : RawLine) (rest : List (Nat × RawLine)) :
    Keeps frontMask s (s.frontTaken p j raw rest) :=
  laneCycles_keeps ((Sub.rfl _).mono (by rfl)) (coverage_keeps ((Sub.rfl _).mono (by rfl))
    (setCamPort_keeps ((Sub.rfl _).mono (by rfl)) (Keeps.rfl _ s)))

/-- A port that the state does not list has an empty FIFO. -/
theorem camPort_listed {p : Nat} (hf : (s.camPort p).fifo ≠ []) : p < s.cam.length := by
  refine Decidable.byContradiction (fun hp => hf ?_)
  unfold State.camPort
  rw [List.getD_eq_getElem?_getD, List.getElem?_eq_none (Nat.le_of_not_lt hp)]
  rfl

theorem frontTaken_fifo {p j : Nat} {raw : RawLine} {rest : List (Nat × RawLine)} (hc : s.canonical = true)
    (hf : (s.camPort p).fifo = (j, raw) :: rest) : ((s.frontTaken p j raw rest).camPort p).fifo = rest := by
  have hp : p < s.cam.length := camPort_listed (by simp [hf])
  unfold State.frontTaken
  extract_lets +onlyGivenNames c x
  generalize hu : s.setCamPort p _ = u
  have hcu : u.canonical = true := by
    rw [← hu]
    exact hc
  have k : Keeps offLines u ((u.coverage (headOf p j) raw.line).laneCycles (headOf p j) raw) :=
    laneCycles_keeps ((Sub.rfl _).mono (by rfl)) (coverage_keeps ((Sub.rfl _).mono (by rfl)) (Keeps.rfl _ u))
  rw [((KeepsLines.refl hcu).keeps k).fifo p, ← hu, camPort_setCamPort, if_pos ⟨rfl, hp⟩]

theorem Keeps.headColour {t : State} (k : Keeps frontMask s t) (hc : s.canonical = true) (h : Nat) :
    t.headColour h = s.headColour h := by
  unfold State.headColour
  rw [k.bit hc _ _ (by rfl), k.bit hc _ _ (by rfl)]

/-- R111: taking the front line of a FIFO changes nothing that steps 1 to 5 of the correction read. -/
theorem Keeps.correct {t : State} (k : Keeps frontMask s t) (hc : s.canonical = true) (h : Nat) (raw : RawLine)
    (last : List CorLine) (blank : Bool) : t.correct h raw last blank = s.correct h raw last blank := by
  have hwork : ∀ f, t.fldWork f h = s.fldWork f h := fun f => congrArg f.get (k.part hc .work (by rfl) f.reg h)
  have htab : ∀ a, t.tab a = s.tab a := k.part hc .tables (by rfl)
  have hstale : t.rd .COR_STALE = s.rd .COR_STALE := k.rd hc _ 0 (by rfl)
  have hbank : t.shadeBank h = s.shadeBank h := by rw [State.shadeBank, k.rd hc _ 0 (by rfl), State.shadeBank]
  have hpixels : t.headPixels h = s.headPixels h := by
    unfold State.headPixels
    rw [k.fld hc _ _ (by rfl), k.fld hc _ _ (by rfl)]
  have hdepth : t.headDepth h = s.headDepth h := by
    unfold State.headDepth
    rw [k.fld hc _ _ (by rfl), k.fld hc _ _ (by rfl)]
  have hcol : ∀ c, t.devCol h c = s.devCol h c := fun c => by
    unfold State.devCol
    rw [k.fld hc _ _ (by rfl)]
  have hoffset : ∀ c, t.pixOffset h c = s.pixOffset h c := fun c => by simp only [State.pixOffset, htab, hcol]
  have hgain : ∀ c, t.pixGain h c = s.pixGain h c := fun c => by simp only [State.pixGain, htab, hcol]
  have hshade : ∀ b c, t.shade b h c = s.shade b h c := fun b c => by simp only [State.shade, htab, hcol]
  unfold State.correct
  simp only [hpixels, hdepth, k.headColour hc, hoffset, hgain, hshade, hwork, hbank, hstale]

theorem Keeps.due {t : State} (k : Keeps frontMask s t) (hc : s.canonical = true) (x : Stage) (h : Nat) (n : LineNo) :
    t.due x h n = s.due x h n := by
  have hl : t.stripLen = s.stripLen := k.part hc .stripLen (by rfl)
  have hx : t.crossed = s.crossed := k.part hc .crossed (by rfl)
  unfold State.due State.boundaryLine
  rw [hl, hx]

/-- R18, R123: a line that is no boundary goes through correction and enters COR after what leaves COR because of it. -/
theorem deliver_enters {p j : Nat} {raw : RawLine} {rest : List (Nat × RawLine)} {t : State}
    (faults : List (Nat × Bool)) (hf : (s.camPort p).fifo = (j, raw) :: rest) (ht : s.frontTaken p j raw rest = t)
    (hc : t.canonical = true) (hd : t.due .cor (headOf p j) raw.line = false) :
    ∃ u, KeepsLines t u ∧ s.deliver p faults = u.enterCor (headOf p j)
      (t.correct (headOf p j) raw (t.corHead (headOf p j)).last (t.corHead (headOf p j)).writing)
      (t.headColour (headOf p j)) := by
  have k := KeepsLines.refl hc
  have hx : t.crossIf .cor (headOf p j) raw.line = t := if_neg (by simp [hd])
  generalize hr : s.deliver p faults = r
  unfold State.deliver at hr
  simp only [hf] at hr
  unfold State.frontTaken at ht
  rw [ht, hx] at hr
  subst hr
  cases t.headColour (headOf p j) with
  | false => exact ⟨_, k.corOut, rfl⟩
  | true =>
    refine ⟨_, KeepsLines.corTurn ?_, rfl⟩
    split
    · exact k.corOut
    · exact k

/-- R18, R123: what a delivery leaves in the port's FIFO and in the head of COR. -/
theorem deliver_front {p j : Nat} {raw : RawLine} {rest : List (Nat × RawLine)} (faults : List (Nat × Bool))
    (hc : s.canonical = true) (hf : (s.camPort p).fifo = (j, raw) :: rest) (hh : headOf p j < s.cor.heads.length)
    (hd : s.due .cor (headOf p j) raw.line = false) :
    ((s.deliver p faults).camPort p).fifo = rest ∧
      ((s.deliver p faults).corHead (headOf p j)).last =
        (s.correct (headOf p j) raw (s.corHead (headOf p j)).last (s.corHead (headOf p j)).writing ::
          (s.corHead (headOf p j)).last).take 3 ∧
      ((s.deliver p faults).corHead (headOf p j)).held = s.headColour (headOf p j) := by
  generalize ht : s.frontTaken p j raw rest = t
  have k : Keeps frontMask s t := ht ▸ frontTaken_keeps p j raw rest
  have hcor : t.cor = s.cor := k.part hc .cor (by rfl)
  have hhead : t.corHead (headOf p j) = s.corHead (headOf p j) := by rw [State.corHead, State.corHead, hcor]
  obtain ⟨u, ku, hu⟩ := deliver_enters faults hf ht (k.canonical hc) ((k.due hc _ _ _).trans hd)
  have hlen : headOf p j < u.cor.heads.length := by rwa [ku.heads, hcor]
  have hfifo : (u.camPort p).fifo = rest := by rw [ku.fifo, ← ht, frontTaken_fifo hc hf]
  rw [k.correct hc, k.headColour hc, hhead] at hu
  rw [hu]
  unfold State.enterCor
  rw [corHead_setCorHead, if_pos ⟨rfl, hlen⟩, ku.last, hhead]
  exact ⟨hfifo, rfl, rfl⟩

/-! ### The commands -/

/-- Settles O26: the front line of a port's FIFO goes through correction, and a boundary line latches at each stage what it
is to latch; both commands leave the state alone when their condition is not met. -/
theorem linesAndBoundaries : Obligations.LinesAndBoundaries := by
  unfold Obligations.LinesAndBoundaries
  refine ⟨?deliver, ?full, ?boundary, ?idle⟩
  case deliver =>
    intro s p faults j raw rest h hc hcan hf hh hlen hdue hdone htrans hpend
    subst hh
    refine ⟨s.deliver p faults, ?_, deliver_front faults hc hf hlen hdue⟩
    change execLineDelivery p faults s = _
    rw [execLineDelivery, if_pos hcan, memRespond_of_offTrans (deliver_offTrans p faults) hc hdone htrans hpend]
  case full =>
    intro s p faults hcan
    refine ⟨s, ?_, rfl⟩
    change execLineDelivery p faults s = _
    rw [execLineDelivery, if_neg (by simp [hcan])]
  case boundary =>
    intro s x h n hc hdue hat hdone htrans hpend
    refine ⟨s.stageBoundary x h n, ?_, ?_, ?_, ?_⟩
    · change execStripBoundary x h n s = _
      rw [execStripBoundary, if_pos (by simp [hdue, hat]),
        memRespond_of_offTrans (stageBoundary_offTrans x h n) hc hdone htrans hpend]
    · rintro rfl
      exact stageBoundary_cor h n hc
    · rintro rfl
      exact stageBoundary_seg h n hc
    · rintro rfl ho
      exact stageBoundary_arc ho hdone
  case idle =>
    intro s x h n hno
    refine ⟨s, ?_, rfl⟩
    change execStripBoundary x h n s = _
    rw [execStripBoundary, if_neg (by rcases hno with hno | hno <;> simp [hno])]

end Sys2Proof.Machine
end

section
/-! PROOFS. What each command keeps (Machine/Frames.lean), and with it the canonical form of the storage at every step
(Safety.lean; spec/02 R42, R43, spec/12). -/

namespace Sys2Proof.Machine

variable {s t : State}

/-! ### The frames -/

/-- What changes no part outside a set changes none outside a larger one. -/
theorem Keeps.mono {m n : Nat} (h : Keeps m s t) (hm : Sub m n) : Keeps n s t :=
  ⟨h.pending, h.clk, h.wire, h.fuses, h.canonical, fun hc p hp => h.parts hc p (by
    rw [← hm, Nat.testBit_and, hp, Bool.false_and])⟩

/-- A meaning keeps its command's frame when the frame holds every part that it may change. -/
theorem inFrame {m : Nat} {c : Instr} {o : Host.Outcome State Fault Refusal} (h : KeepsOut m s o)
    (hm : footOf (frameParts c) &&& m = m := by dsimp only [frameParts]; decide +kernel) :
    KeepsOut (footOf (frameParts c)) s o :=
  fun u hu => (h u hu).mono hm

/-- The frames hold: every command keeps what lies outside the parts that its frame names, and the canonical form. -/
theorem exec_keeps (c : Instr) (s : State) : KeepsOut (footOf (frameParts c)) s (exec c s) := by
  cases c with
  | resetNAssert _ => exact inFrame (execResetNAssert_keeps (Sub.rfl _) (Keeps.rfl _ s))
  | resetNRelease _ => exact inFrame (execResetNRelease_keeps (Sub.rfl _) (Keeps.rfl _ s))
  | keepDomainPowerLoss => exact inFrame (execKeepDomainPowerLoss_keeps (Sub.rfl _) (Keeps.rfl _ s))
  | keepDomainPowerOn => exact inFrame (execKeepDomainPowerOn_keeps (Sub.rfl _) (Keeps.rfl _ s))
  | imagePass1Done _ => exact inFrame (execImagePass1Done_keeps (Sub.rfl _) (Keeps.rfl _ s))
  | flashNoAnswer => exact inFrame (execFlashNoAnswer_keeps (Sub.rfl _) (Keeps.rfl _ s))
  | imagePass2Section _ => exact inFrame (execImagePass2Section_keeps (Sub.rfl _) (Keeps.rfl _ s))
  | identityKeyReady => exact inFrame (execIdentityKeyReady_keeps (Sub.rfl _) (Keeps.rfl _ s))
  | trainingStepFail _ _ _ => exact inFrame (execTrainingStepFail_keeps (Sub.rfl _) (Keeps.rfl _ s))
  | loadStallRetry _ => exact inFrame (execLoadStallRetry_keeps (Sub.rfl _) (Keeps.rfl _ s))
  | rollbackFuseBlown => exact inFrame (execRollbackFuseBlown_keeps (Sub.rfl _) (Keeps.rfl _ s))
  | loadEnd => exact inFrame (execLoadEnd_keeps (Sub.rfl _) (Keeps.rfl _ s))
  | holdRequest => exact inFrame (execHoldRequest_keeps (Sub.rfl _) (Keeps.rfl _ s))
  | resumeRequest => exact inFrame (execResumeRequest_keeps (Sub.rfl _) (Keeps.rfl _ s))
  | standbyRequest => exact inFrame (execStandbyRequest_keeps (Sub.rfl _) (Keeps.rfl _ s))
  | reloadRequest => exact inFrame (execReloadRequest_keeps (Sub.rfl _) (Keeps.rfl _ s))
  | rehearsalOwedRequest => exact inFrame (execRehearsalOwedRequest_keeps (Sub.rfl _) (Keeps.rfl _ s))
  | holdDrainDone => exact inFrame (execHoldDrainDone_keeps (Sub.rfl _) (Keeps.rfl _ s))
  | autoResume => exact inFrame (execAutoResume_keeps (Sub.rfl _) (Keeps.rfl _ s))
  | standbyAfterExpiry _ => exact inFrame (execStandbyAfterExpiry_keeps (Sub.rfl _) (Keeps.rfl _ s))
  | standbyWake _ => exact inFrame (execStandbyWake_keeps (Sub.rfl _) (Keeps.rfl _ s))
  | wakeHoldEntry => exact inFrame (execWakeHoldEntry_keeps (Sub.rfl _) (Keeps.rfl _ s))
  | rehearsalEnd => exact inFrame (execRehearsalEnd_keeps (Sub.rfl _) (Keeps.rfl _ s))
  | rehearsalTimeout => exact inFrame (execRehearsalTimeout_keeps (Sub.rfl _) (Keeps.rfl _ s))
  | verifyEnd => exact inFrame (execVerifyEnd_keeps (Sub.rfl _) (Keeps.rfl _ s))
  | verifyTimeout => exact inFrame (execVerifyTimeout_keeps (Sub.rfl _) (Keeps.rfl _ s))
  | thermalDarkExit => exact inFrame (execThermalDarkExit_keeps (Sub.rfl _) (Keeps.rfl _ s))
  | supplyRestored _ _ => exact inFrame (execSupplyRestored_keeps (Sub.rfl _) (Keeps.rfl _ s))
  | thmFastRound _ _ => exact inFrame (execThmFastRound_keeps (Sub.rfl _) (Keeps.rfl _ s))
  | thmSlowRound _ _ _ _ => exact inFrame (execThmSlowRound_keeps (Sub.rfl _) (Keeps.rfl _ s))
  | sensorRecovered _ => exact inFrame (execSensorRecovered_keeps (Sub.rfl _) (Keeps.rfl _ s))
  | i2cTimeout _ => exact inFrame (execI2cTimeout_keeps (Sub.rfl _) (Keeps.rfl _ s))
  | throttleLevelStep _ => exact inFrame (execThrottleLevelStep_keeps (Sub.rfl _) (Keeps.rfl _ s))
  | promptBookGroupApply => exact inFrame (execPromptBookGroupApply_keeps (Sub.rfl _) (Keeps.rfl _ s))
  | checkpointTimer _ => exact inFrame (execCheckpointTimer_keeps (Sub.rfl _) (Keeps.rfl _ s))
  | slotWriteDone _ => exact inFrame (execSlotWriteDone_keeps (Sub.rfl _) (Keeps.rfl _ s))
  | pfailNFall _ => exact inFrame (execPfailNFall_keeps (Sub.rfl _) (Keeps.rfl _ s))
  | vkeepBelowTrip _ _ => exact inFrame (execVkeepBelowTrip_keeps (Sub.rfl _) (Keeps.rfl _ s))
  | powerGoodLoss _ _ => exact inFrame (execPowerGoodLoss_keeps (Sub.rfl _) (Keeps.rfl _ s))
  | healthPeriod _ => exact inFrame (execHealthPeriod_keeps (Sub.rfl _) (Keeps.rfl _ s))
  | enc0Count _ _ _ => exact inFrame (execEnc0Count_keeps (Sub.rfl _) (Keeps.rfl _ s))
  | encoderFaultEnd _ => exact inFrame (execEncoderFaultEnd_keeps (Sub.rfl _) (Keeps.rfl _ s))
  | enc0ZEdge _ => exact inFrame (execEnc0ZEdge_keeps (Sub.rfl _) (Keeps.rfl _ s))
  | wireFault _ _ => exact inFrame (execWireFault_keeps (Sub.rfl _) (Keeps.rfl _ s))
  | wireFaultEnd _ _ => exact inFrame (execWireFaultEnd_keeps (Sub.rfl _) (Keeps.rfl _ s))
  | rollerCount _ _ _ _ => exact inFrame (execRollerCount_keeps (Sub.rfl _) (Keeps.rfl _ s))
  | rollerZEdge _ _ _ => exact inFrame (execRollerZEdge_keeps (Sub.rfl _) (Keeps.rfl _ s))
  | indexEdge _ _ _ => exact inFrame (execIndexEdge_keeps (Sub.rfl _) (Keeps.rfl _ s))
  | rollerIndexTimeout _ _ => exact inFrame (execRollerIndexTimeout_keeps (Sub.rfl _) (Keeps.rfl _ s))
  | rollerFlagClean _ _ => exact inFrame (execRollerFlagClean_keeps (Sub.rfl _) (Keeps.rfl _ s))
  | speedStop _ => exact inFrame (execSpeedStop_keeps (Sub.rfl _) (Keeps.rfl _ s))
  | qoutStep _ _ => exact inFrame (execQoutStep_keeps (Sub.rfl _) (Keeps.rfl _ s))
  | camPortEnable _ => exact inFrame (execCamPortEnable_keeps (Sub.rfl _) (Keeps.rfl _ s))
  | camRestart _ => exact inFrame (execCamRestart_keeps (Sub.rfl _) (Keeps.rfl _ s))
  | camAutoRetry _ => exact inFrame (execCamAutoRetry_keeps (Sub.rfl _) (Keeps.rfl _ s))
  | alignSearchFail _ => exact inFrame (execAlignSearchFail_keeps (Sub.rfl _) (Keeps.rfl _ s))
  | camAlignTimeout _ => exact inFrame (execCamAlignTimeout_keeps (Sub.rfl _) (Keeps.rfl _ s))
  | camDeskewed _ => exact inFrame (execCamDeskewed_keeps (Sub.rfl _) (Keeps.rfl _ s))
  | alignBlock _ _ _ => exact inFrame (execAlignBlock_keeps (Sub.rfl _) (Keeps.rfl _ s))
  | invalidBlock _ _ _ => exact inFrame (execInvalidBlock_keeps (Sub.rfl _) (Keeps.rfl _ s))
  | descBlock _ _ _ => exact inFrame (execDescBlock_keeps (Sub.rfl _) (Keeps.rfl _ s))
  | descriptorTimeout _ => exact inFrame (execDescriptorTimeout_keeps (Sub.rfl _) (Keeps.rfl _ s))
  | temperatureStale _ => exact inFrame (execTemperatureStale_keeps (Sub.rfl _) (Keeps.rfl _ s))
  | cueLaunch _ _ => exact inFrame (execCueLaunch_keeps (Sub.rfl _) (Keeps.rfl _ s))
  | lineFrame _ _ _ _ _ _ _ _ _ => exact inFrame (execLineFrame_keeps (Sub.rfl _) (Keeps.rfl _ s))
  | eolTimeout _ => exact inFrame (execEolTimeout_keeps (Sub.rfl _) (Keeps.rfl _ s))
  | lineTimeout _ _ _ => exact inFrame (execLineTimeout_keeps (Sub.rfl _) (Keeps.rfl _ s))
  | cameraErrBlock _ _ _ _ => exact inFrame (execCameraErrBlock_keeps (Sub.rfl _) (Keeps.rfl _ s))
  | prehStart _ => exact inFrame (execPrehStart_keeps (Sub.rfl _) (Keeps.rfl _ s))
  | prehFail _ => exact inFrame (execPrehFail_keeps (Sub.rfl _) (Keeps.rfl _ s))
  | lineDelivery _ _ => exact inFrame (execLineDelivery_keeps (Sub.rfl _) (Keeps.rfl _ s))
  | runLabel => exact inFrame (execRunLabel_keeps (Sub.rfl _) (Keeps.rfl _ s))
  | eolMarkerApply => exact inFrame (execEolMarkerApply_keeps (Sub.rfl _) (Keeps.rfl _ s))
  | closingEvaluation => exact inFrame (execClosingEvaluation_keeps (Sub.rfl _) (Keeps.rfl _ s))
  | componentRelease => exact inFrame (execComponentRelease_keeps (Sub.rfl _) (Keeps.rfl _ s))
  | stripBoundary _ _ _ => exact inFrame (execStripBoundary_keeps (Sub.rfl _) (Keeps.rfl _ s))
  | exposureLoopRun _ => exact inFrame (execExposureLoopRun_keeps (Sub.rfl _) (Keeps.rfl _ s))
  | ffRunComplete _ => exact inFrame (execFfRunComplete_keeps (Sub.rfl _) (Keeps.rfl _ s))
  | ffTableWriteDone _ => exact inFrame (execFfTableWriteDone_keeps (Sub.rfl _) (Keeps.rfl _ s))
  | ffRetryExpiry _ => exact inFrame (execFfRetryExpiry_keeps (Sub.rfl _) (Keeps.rfl _ s))
  | seamEstimateDone _ => exact inFrame (execSeamEstimateDone_keeps (Sub.rfl _) (Keeps.rfl _ s))
  | xdevStreamTimeout _ => exact inFrame (execXdevStreamTimeout_keeps (Sub.rfl _) (Keeps.rfl _ s))
  | markRequest => exact inFrame (execMarkRequest_keeps (Sub.rfl _) (Keeps.rfl _ s))
  | markCompare _ _ => exact inFrame (execMarkCompare_keeps (Sub.rfl _) (Keeps.rfl _ s))
  | burstLineStart _ _ => exact inFrame (execBurstLineStart_keeps (Sub.rfl _) (Keeps.rfl _ s))
  | latchFall _ _ => exact inFrame (execLatchFall_keeps (Sub.rfl _) (Keeps.rfl _ s))
  | strobeFall _ _ => exact inFrame (execStrobeFall_keeps (Sub.rfl _) (Keeps.rfl _ s))
  | strobeWatchdog _ _ => exact inFrame (execStrobeWatchdog_keeps (Sub.rfl _) (Keeps.rfl _ s))
  | statMeasurement _ _ _ _ => exact inFrame (execStatMeasurement_keeps (Sub.rfl _) (Keeps.rfl _ s))
  | statTimeout _ _ => exact inFrame (execStatTimeout_keeps (Sub.rfl _) (Keeps.rfl _ s))
  | statRecovery _ _ => exact inFrame (execStatRecovery_keeps (Sub.rfl _) (Keeps.rfl _ s))
  | markRestart _ => exact inFrame (execMarkRestart_keeps (Sub.rfl _) (Keeps.rfl _ s))
  | archiveRowComplete _ => exact inFrame (execArchiveRowComplete_keeps (Sub.rfl _) (Keeps.rfl _ s))
  | blockWriteError => exact inFrame (execBlockWriteError_keeps (Sub.rfl _) (Keeps.rfl _ s))
  | hostJobRequest => exact inFrame (execHostJobRequest_keeps (Sub.rfl _) (Keeps.rfl _ s))
  | jobStart => exact inFrame (execJobStart_keeps (Sub.rfl _) (Keeps.rfl _ s))
  | jobWaitTimeout => exact inFrame (execJobWaitTimeout_keeps (Sub.rfl _) (Keeps.rfl _ s))
  | jobDone => exact inFrame (execJobDone_keeps (Sub.rfl _) (Keeps.rfl _ s))
  | dmaArm _ => exact inFrame (execDmaArm_keeps (Sub.rfl _) (Keeps.rfl _ s))
  | dmaGrant => exact inFrame (execDmaGrant_keeps (Sub.rfl _) (Keeps.rfl _ s))
  | dmaEntryComplete => exact inFrame (execDmaEntryComplete_keeps (Sub.rfl _) (Keeps.rfl _ s))
  | dmaBeatError => exact inFrame (execDmaBeatError_keeps (Sub.rfl _) (Keeps.rfl _ s))
  | dmaTimeout => exact inFrame (execDmaTimeout_keeps (Sub.rfl _) (Keeps.rfl _ s))
  | dmaListFetchFail => exact inFrame (execDmaListFetchFail_keeps (Sub.rfl _) (Keeps.rfl _ s))
  | dmaTransferComplete => exact inFrame (execDmaTransferComplete_keeps (Sub.rfl _) (Keeps.rfl _ s))
  | dmaErrlogPop => exact inFrame (execDmaErrlogPop_keeps (Sub.rfl _) (Keeps.rfl _ s))
  | memBandPoll _ => exact inFrame (execMemBandPoll_keeps (Sub.rfl _) (Keeps.rfl _ s))
  | refreshTick _ => exact inFrame (execRefreshTick_keeps (Sub.rfl _) (Keeps.rfl _ s))
  | memReadComplete _ _ _ => exact inFrame (execMemReadComplete_keeps (Sub.rfl _) (Keeps.rfl _ s))
  | writeCrcAlert _ => exact inFrame (execWriteCrcAlert_keeps (Sub.rfl _) (Keeps.rfl _ s))
  | patrolScrub _ _ _ => exact inFrame (execPatrolScrub_keeps (Sub.rfl _) (Keeps.rfl _ s))
  | migrationPageCopy _ => exact inFrame (execMigrationPageCopy_keeps (Sub.rfl _) (Keeps.rfl _ s))
  | migrationFloor => exact inFrame (execMigrationFloor_keeps (Sub.rfl _) (Keeps.rfl _ s))
  | fspRequest _ => exact inFrame (execFspRequest_keeps (Sub.rfl _) (Keeps.rfl _ s))
  | fspChangeDone => exact inFrame (execFspChangeDone_keeps (Sub.rfl _) (Keeps.rfl _ s))
  | trainingPeriod => exact inFrame (execTrainingPeriod_keeps (Sub.rfl _) (Keeps.rfl _ s))
  | trainingSliceForce _ => exact inFrame (execTrainingSliceForce_keeps (Sub.rfl _) (Keeps.rfl _ s))
  | laneAcqDone _ _ _ _ => exact inFrame (execLaneAcqDone_keeps (Sub.rfl _) (Keeps.rfl _ s))
  | laneLockLoss _ _ => exact inFrame (execLaneLockLoss_keeps (Sub.rfl _) (Keeps.rfl _ s))
  | refclkWindow _ _ => exact inFrame (execRefclkWindow_keeps (Sub.rfl _) (Keeps.rfl _ s))
  | laneRetrain _ => exact inFrame (execLaneRetrain_keeps (Sub.rfl _) (Keeps.rfl _ s))
  | laneSlip _ => exact inFrame (execLaneSlip_keeps (Sub.rfl _) (Keeps.rfl _ s))
  | laneDeep _ _ => exact inFrame (execLaneDeep_keeps (Sub.rfl _) (Keeps.rfl _ s))
  | laneTestRequest _ _ => exact inFrame (execLaneTestRequest_keeps (Sub.rfl _) (Keeps.rfl _ s))
  | berCfgWrite _ => exact inFrame (execBerCfgWrite_keeps (Sub.rfl _) (Keeps.rfl _ s))
  | prbsCheckerLock _ => exact inFrame (execPrbsCheckerLock_keeps (Sub.rfl _) (Keeps.rfl _ s))
  | prbsCheckerLoss _ _ => exact inFrame (execPrbsCheckerLoss_keeps (Sub.rfl _) (Keeps.rfl _ s))
  | berWindowEnd _ _ => exact inFrame (execBerWindowEnd_keeps (Sub.rfl _) (Keeps.rfl _ s))
  | adaptationStep _ _ _ _ => exact inFrame (execAdaptationStep_keeps (Sub.rfl _) (Keeps.rfl _ s))
  | keepBlockSend _ => exact inFrame (execKeepBlockSend_keeps (Sub.rfl _) (Keeps.rfl _ s))
  | keepBlockRx _ addr mode => exact inFrame (execKeepBlockRx_keeps (x1 := addr) (x2 := mode) (Sub.rfl _) (Keeps.rfl _ s))
  | keepaliveLost _ => exact inFrame (execKeepaliveLost_keeps (Sub.rfl _) (Keeps.rfl _ s))
  | wakeBlockRx _ => exact inFrame (execWakeBlockRx_keeps (Sub.rfl _) (Keeps.rfl _ s))
  | fabWakePin _ => exact inFrame (execFabWakePin_keeps (Sub.rfl _) (Keeps.rfl _ s))
  | fabLinkAligned _ => exact inFrame (execFabLinkAligned_keeps (Sub.rfl _) (Keeps.rfl _ s))
  | fabLstateRx _ _ _ => exact inFrame (execFabLstateRx_keeps (Sub.rfl _) (Keeps.rfl _ s))
  | fabPacketRx _ _ _ _ => exact inFrame (execFabPacketRx_keeps (Sub.rfl _) (Keeps.rfl _ s))
  | fabAckRx _ _ _ => exact inFrame (execFabAckRx_keeps (Sub.rfl _) (Keeps.rfl _ s))
  | fabCreditRx _ _ _ => exact inFrame (execFabCreditRx_keeps (Sub.rfl _) (Keeps.rfl _ s))
  | fabAckTimer _ => exact inFrame (execFabAckTimer_keeps (Sub.rfl _) (Keeps.rfl _ s))
  | fabReplayTimeout _ _ => exact inFrame (execFabReplayTimeout_keeps (Sub.rfl _) (Keeps.rfl _ s))
  | fabRecordPacket _ => exact inFrame (execFabRecordPacket_keeps (Sub.rfl _) (Keeps.rfl _ s))
  | fabWingPacket _ => exact inFrame (execFabWingPacket_keeps (Sub.rfl _) (Keeps.rfl _ s))
  | fabFrontierPacket _ => exact inFrame (execFabFrontierPacket_keeps (Sub.rfl _) (Keeps.rfl _ s))
  | fabComponentPacket _ => exact inFrame (execFabComponentPacket_keeps (Sub.rfl _) (Keeps.rfl _ s))
  | fabJobPacket _ => exact inFrame (execFabJobPacket_keeps (Sub.rfl _) (Keeps.rfl _ s))
  | fabCackPacket _ => exact inFrame (execFabCackPacket_keeps (Sub.rfl _) (Keeps.rfl _ s))
  | cackTimeout _ _ => exact inFrame (execCackTimeout_keeps (Sub.rfl _) (Keeps.rfl _ s))
  | discHelloTimer => exact inFrame (execDiscHelloTimer_keeps (Sub.rfl _) (Keeps.rfl _ s))
  | discHello _ => exact inFrame (execDiscHello_keeps (Sub.rfl _) (Keeps.rfl _ s))
  | discSettled _ => exact inFrame (execDiscSettled_keeps (Sub.rfl _) (Keeps.rfl _ s))
  | discReport _ => exact inFrame (execDiscReport_keeps (Sub.rfl _) (Keeps.rfl _ s))
  | discAssign _ => exact inFrame (execDiscAssign_keeps (Sub.rfl _) (Keeps.rfl _ s))
  | discMap _ => exact inFrame (execDiscMap_keeps (Sub.rfl _) (Keeps.rfl _ s))
  | discLinkev _ => exact inFrame (execDiscLinkev_keeps (Sub.rfl _) (Keeps.rfl _ s))
  | discoveryTimeout => exact inFrame (execDiscoveryTimeout_keeps (Sub.rfl _) (Keeps.rfl _ s))
  | fabSyncTimer => exact inFrame (execFabSyncTimer_keeps (Sub.rfl _) (Keeps.rfl _ s))
  | timeSyncRx _ _ _ => exact inFrame (execTimeSyncRx_keeps (Sub.rfl _) (Keeps.rfl _ s))
  | timeDreqRx _ _ t => exact inFrame (execTimeDreqRx_keeps (x2 := t) (Sub.rfl _) (Keeps.rfl _ s))
  | timeDrespRx _ _ _ => exact inFrame (execTimeDrespRx_keeps (Sub.rfl _) (Keeps.rfl _ s))
  | hostIfUp _ => exact inFrame (execHostIfUp_keeps (Sub.rfl _) (Keeps.rfl _ s))
  | hostIfDown _ _ => exact inFrame (execHostIfDown_keeps (Sub.rfl _) (Keeps.rfl _ s))
  | failover _ => exact inFrame (execFailover_keeps (Sub.rfl _) (Keeps.rfl _ s))
  | hostFrameStart _ => exact inFrame (execHostFrameStart_keeps (Sub.rfl _) (Keeps.rfl _ s))
  | frameFlush _ => exact inFrame (execFrameFlush_keeps (Sub.rfl _) (Keeps.rfl _ s))
  | hostFrameRx _ _ _ _ => exact inFrame (execHostFrameRx_keeps (Sub.rfl _) (Keeps.rfl _ s))
  | arpRequest _ => exact inFrame (execArpRequest_keeps (Sub.rfl _) (Keeps.rfl _ s))
  | icmpEchoRequest _ => exact inFrame (execIcmpEchoRequest_keeps (Sub.rfl _) (Keeps.rfl _ s))
  | mgmtRead => exact inFrame (execMgmtRead_keeps (Sub.rfl _) (Keeps.rfl _ s))
  | mgmtWrite => exact inFrame (execMgmtWrite_keeps (Sub.rfl _) (Keeps.rfl _ s))
  | mgmtChallenge => exact inFrame (execMgmtChallenge_keeps (Sub.rfl _) (Keeps.rfl _ s))
  | mgmtOpen => exact inFrame (execMgmtOpen_keeps (Sub.rfl _) (Keeps.rfl _ s))
  | mgmtOpenVerified _ => exact inFrame (execMgmtOpenVerified_keeps (Sub.rfl _) (Keeps.rfl _ s))
  | mgmtClose => exact inFrame (execMgmtClose_keeps (Sub.rfl _) (Keeps.rfl _ s))
  | mgmtMalformed => exact inFrame (execMgmtMalformed_keeps (Sub.rfl _) (Keeps.rfl _ s))
  | sessionExpiry _ _ => exact inFrame (execSessionExpiry_keeps (Sub.rfl _) (Keeps.rfl _ s))
  | nonceExpiry _ _ _ => exact inFrame (execNonceExpiry_keeps (Sub.rfl _) (Keeps.rfl _ s))
  | ptpSync _ => exact inFrame (execPtpSync_keeps (Sub.rfl _) (Keeps.rfl _ s))
  | ptpFollowUp _ => exact inFrame (execPtpFollowUp_keeps (Sub.rfl _) (Keeps.rfl _ s))
  | ptpDelayResp _ => exact inFrame (execPtpDelayResp_keeps (Sub.rfl _) (Keeps.rfl _ s))
  | ptpPdelayReq _ => exact inFrame (execPtpPdelayReq_keeps (Sub.rfl _) (Keeps.rfl _ s))
  | servoOffset => exact inFrame (execServoOffset_keeps (Sub.rfl _) (Keeps.rfl _ s))
  | holdoverEntry _ => exact inFrame (execHoldoverEntry_keeps (Sub.rfl _) (Keeps.rfl _ s))
  | secondRollover => exact inFrame (execSecondRollover_keeps (Sub.rfl _) (Keeps.rfl _ s))
  | timeSet => exact inFrame (execTimeSet_keeps (Sub.rfl _) (Keeps.rfl _ s))
  | timeNowRead q => exact inFrame (execTimeNowRead_keeps (x0 := q) (Sub.rfl _) (Keeps.rfl _ s))
  | cqPush _ _ => exact inFrame (execCqPush_keeps (Sub.rfl _) (Keeps.rfl _ s))
  | cqEntryDue _ => exact inFrame (execCqEntryDue_keeps (Sub.rfl _) (Keeps.rfl _ s))
  | evtPinEdge _ _ _ => exact inFrame (execEvtPinEdge_keeps (Sub.rfl _) (Keeps.rfl _ s))
  | pinStuck _ _ => exact inFrame (execPinStuck_keeps (Sub.rfl _) (Keeps.rfl _ s))
  | pinPulseEnd _ _ => exact inFrame (execPinPulseEnd_keeps (Sub.rfl _) (Keeps.rfl _ s))
  | evtChannelDelivery _ => exact inFrame (execEvtChannelDelivery_keeps (Sub.rfl _) (Keeps.rfl _ s))
  | loopReenable _ => exact inFrame (execLoopReenable_keeps (Sub.rfl _) (Keeps.rfl _ s))
  | softwareFire _ => exact inFrame (execSoftwareFire_keeps (Sub.rfl _) (Keeps.rfl _ s))
  | pmcWindowEnd => exact inFrame (execPmcWindowEnd_keeps (Sub.rfl _) (Keeps.rfl _ s))
  | pmcCounterWrap _ => exact inFrame (execPmcCounterWrap_keeps (Sub.rfl _) (Keeps.rfl _ s))
  | repeatClear => exact inFrame (execRepeatClear_keeps (Sub.rfl _) (Keeps.rfl _ s))
  | attestRequest => exact inFrame (execAttestRequest_keeps (Sub.rfl _) (Keeps.rfl _ s))
  | attestDone => exact inFrame (execAttestDone_keeps (Sub.rfl _) (Keeps.rfl _ s))
  | pairLowRead _ _ => exact inFrame (execPairLowRead_keeps (Sub.rfl _) (Keeps.rfl _ s))
  | pairHighWrite _ _ _ => exact inFrame (execPairHighWrite_keeps (Sub.rfl _) (Keeps.rfl _ s))
  | pairLowWrite _ _ _ => exact inFrame (execPairLowWrite_keeps (Sub.rfl _) (Keeps.rfl _ s))
  | rcRead _ _ => exact inFrame (execRcRead_keeps (Sub.rfl _) (Keeps.rfl _ s))
  | registerWrite _ _ _ => exact inFrame (execRegisterWrite_keeps (Sub.rfl _) (Keeps.rfl _ s))
  | blockLock _ => exact inFrame (execBlockLock_keeps (Sub.rfl _) (Keeps.rfl _ s))
  | alignMissing _ => exact inFrame (execAlignMissing_keeps (Sub.rfl _) (Keeps.rfl _ s))
  | fabPacketStart _ => exact inFrame (execFabPacketStart_keeps (Sub.rfl _) (Keeps.rfl _ s))
  | dramCommandIssue _ _ _ => exact inFrame (execDramCommandIssue_keeps (Sub.rfl _) (Keeps.rfl _ s))
  | memWriteComplete _ _ => exact inFrame (execMemWriteComplete_keeps (Sub.rfl _) (Keeps.rfl _ s))
  | dramTrainingDone _ => exact inFrame (execDramTrainingDone_keeps (Sub.rfl _) (Keeps.rfl _ s))
  | ptpDelayReqSend _ => exact inFrame (execPtpDelayReqSend_keeps (Sub.rfl _) (Keeps.rfl _ s))
  | cellFilterPass _ _ => exact inFrame (execCellFilterPass_keeps (Sub.rfl _) (Keeps.rfl _ s))

/-! ### The canonical form -/

/-- On an empty queue a step keeps the canonical form: a cycle passes, and accesses that have ended are answered. -/
theorem canonical_idleStep (hc : s.canonical = true) : ((s.advance 1).memRespond).canonical = true :=
  have hm : Sub (allBut 0) (allBut 0) := Sub.rfl _
  (memRespond_keeps (hm.mono (by rfl)) (advance_keeps (hm.mono (by rfl)) (Keeps.rfl _ s))).canonical hc

/-- Settles O5: the command at the front of the queue keeps the canonical form by its frame, and so does the step of an empty
queue. -/
theorem stepKeepsCanonical : Obligations.StepKeepsCanonical := by
  unfold Obligations.StepKeepsCanonical
  intro s t hc hst
  unfold step at hst
  split at hst
  · cases hst
    exact canonical_idleStep hc
  · next c rest _ => exact (exec_keeps c { s with pending := rest } t hst).canonical hc

end Sys2Proof.Machine
end

section
/-! PROOFS. The register bus: reads and writes of registers, pairs and table windows (spec/02 R42 to R51, R565). -/

namespace Sys2Proof.Machine

variable {s t : State} {q : Requester} {addr v : Word} {r lo hi : Reg} {i : Nat}

/-! ### Rules of the storage -/

theorem Reg.key_ne_of_ne {r' : Reg} {j : Nat} (h : (r', j) ≠ (r, i)) : r'.key j ≠ r.key i := by
  by_cases hp : r'.part = r.part
  · cases Reg.part_inj hp
    exact Reg.key_index_ne _ fun e => h (by rw [e])
  · exact Reg.key_ne hp j i

theorem rd_wr_other {r' : Reg} {j : Nat} (w : Word) (h : (r', j) ≠ (r, i)) (hc : s.canonical = true) :
    (s.wr r i w).rd r' j = s.rd r' j :=
  rd_wr_ne w (Reg.key_ne_of_ne h) hc

@[simp] theorem rd_setSnap (k : Nat) (w : Word) (r : Reg) (i : Nat) : (s.setSnap k w).rd r i = s.rd r i := rfl

@[simp] theorem rd_setStage (k : Nat) (w : Word) (r : Reg) (i : Nat) : (s.setStage k w).rd r i = s.rd r i := rfl

theorem spWf_rising {α : Type} [DecidableEq α] {dflt : Nat → α} {m : List (Nat × α)} (h : spWf dflt m = true) :
    spAbove none m = true := by
  simp only [spWf, Bool.and_eq_true] at h
  exact h.1

theorem snaps_rising (hc : s.canonical = true) : spAbove none s.snaps = true := by
  obtain ⟨-, -, hsnaps, -⟩ := State.canonical_iff.1 hc
  exact spWf_rising hsnaps

theorem stages_rising (hc : s.canonical = true) : spAbove none s.stages = true := by
  obtain ⟨-, -, -, hstages, -⟩ := State.canonical_iff.1 hc
  exact spWf_rising hstages

theorem tables_rising (hc : s.canonical = true) : spAbove none s.tables = true := by
  obtain ⟨-, -, -, -, htables, -⟩ := State.canonical_iff.1 hc
  exact spWf_rising htables

theorem canonical_setSnap (k : Nat) (w : Word) (hc : s.canonical = true) : (s.setSnap k w).canonical = true :=
  (setSnap_keeps (Sub.rfl _) (Keeps.rfl 0x20 s)).canonical hc

theorem canonical_accessError (hc : s.canonical = true) : s.accessError.canonical = true :=
  canonical_wr _ _ _ hc

/-- A set of parts holds each part that its list names. -/
theorem sub_foot {p : Part} {ps : List Part} (h : p ∈ ps) : Sub (2 ^ p.bit) (footOf ps) := by
  refine Nat.eq_of_testBit_eq fun j => ?_
  rw [Nat.testBit_and, Nat.testBit_two_pow]
  by_cases hj : p.bit = j
  · rw [← hj, footOf_testBit, decide_eq_true h, Bool.true_and]
  · rw [decide_eq_false hj, Bool.and_false]

theorem reg_foot {ps : List Part} (h : Part.reg r ∈ ps) : (footOf ps).testBit r.part = true :=
  (footOf_testBit ps (.reg r)).trans (decide_eq_true h)

/-- What keeps the set of a list changes only what the list names. -/
theorem Keeps.onlyFoot {ps : List Part} (h : Keeps (footOf ps) s t) (hc : s.canonical = true) : ChangesOnly ps s t :=
  h.changesOnly hc ps (Nat.and_self _)

/-! ### From an address to a register -/

theorem busRead_reg (ha : addr.toNat < 0x1000000) (hr : regAt addr.toNat = some (r, i)) :
    s.busRead q addr = s.readReg q r i := by
  simp only [State.busRead, if_pos ha, hr]

theorem busRead_unmapped (ha : addr.toNat < 0x1000000) (hr : regAt addr.toNat = none) :
    s.busRead q addr = (0, s.accessError) := by
  simp only [State.busRead, if_pos ha, hr]

theorem busWrite_reg (ha : addr.toNat < 0x1000000) (hr : regAt addr.toNat = some (r, i)) :
    s.busWrite q addr v = s.writeReg q r i v := by
  simp only [State.busWrite, if_pos ha, hr]

theorem busWrite_unmapped (h : if addr.toNat < 0x1000000 then regAt addr.toNat = none else winAt addr.toNat = none) :
    s.busWrite q addr v = s.accessError := by
  by_cases ha : addr.toNat < 0x1000000
  · rw [if_pos ha] at h
    simp only [State.busWrite, if_pos ha, h]
  · rw [if_neg ha] at h
    simp only [State.busWrite, if_neg ha, h]

theorem busWrite_win {w : Win} (ha : 0x1000000 ≤ addr.toNat) (hw : winAt addr.toNat = some w) :
    s.busWrite q addr v = s.writeWin q w addr.toNat v := by
  simp only [State.busWrite, if_neg (Nat.not_lt.2 ha), hw]

/-! ### Accesses that are ignored -/

/-- R42: an access that is ignored is counted, and nothing else changes. -/
theorem accessError_counted (hc : s.canonical = true) :
    Counted s s.accessError .GLB_ACC_ERR_CNT ∧ ChangesOnly [.reg .GLB_ACC_ERR_CNT] s s.accessError :=
  ⟨rd_count_same _ _ _ hc, (count_keeps (reg_foot (by simp)) (Keeps.rfl _ s)).onlyFoot hc⟩

/-! ### What a read clears -/

/-- R43: after a read the RC fields of the register read are 0, and every other register is as it was. -/
theorem rd_readClears (hc : s.canonical = true) (r' : Reg) (j : Nat) : (s.readClears r i).rd r' j =
    (s.wr r i (s.rd r i &&& ~~~(fieldMask r.info.fields (fun ty => ty == .RC)))).rd r' j := by
  unfold State.readClears
  extract_lets m t
  split
  · next h =>
    have hm : fieldMask r.info.fields (fun ty => ty == .RC) = 0 := eq_of_beq h
    rw [hm, show s.rd r i &&& ~~~(0 : Word) = s.rd r i from BitVec.and_allOnes]
    by_cases he : (r', j) = (r, i)
    · cases he
      rw [rd_wr_same _ _ _ hc]
    · rw [rd_wr_other _ he hc]
  · split <;> rfl

theorem rd_readClears_same (hc : s.canonical = true) :
    (s.readClears r i).rd r i = s.rd r i &&& ~~~(fieldMask r.info.fields (fun ty => ty == .RC)) := by
  rw [rd_readClears hc, rd_wr_same _ _ _ hc]

theorem rd_readClears_other {r' : Reg} {j : Nat} (h : (r', j) ≠ (r, i)) (hc : s.canonical = true) :
    (s.readClears r i).rd r' j = s.rd r' j := by
  rw [rd_readClears hc, rd_wr_other _ h hc]

theorem canonical_readClears (hc : s.canonical = true) : (s.readClears r i).canonical = true :=
  (readClears_keeps (Sub.rfl _) (Keeps.rfl _ s)).canonical hc

theorem readClears_snaps (hc : s.canonical = true) : (s.readClears r i).snaps = s.snaps :=
  (readClears_keeps (Sub.rfl _) (Keeps.rfl _ s)).part hc .snaps rfl

theorem readClears_stages (hc : s.canonical = true) : (s.readClears r i).stages = s.stages :=
  (readClears_keeps (Sub.rfl _) (Keeps.rfl _ s)).part hc .stages rfl

/-! ### The halves of a pair -/

/-- The map names each half of a pair at the other one, and an upper register that takes writes leaves bit 31 to the mark of
its stage (R46 to R48). -/
def Reg.pairSound (r : Reg) : Bool :=
  match r.pairRole with
  | .low hi => decide (hi.pairRole = .high r)
  | .high _ => !(r.info.fields.any (fun f => f.ty.takes false)) ||
      fieldMask r.info.fields (fun _ => true) &&& 0x7FFFFFFF == fieldMask r.info.fields (fun _ => true)
  | .none => true

theorem Reg.pairSound_all (r : Reg) : r.pairSound = true := by
  cases r <;> rfl

theorem pairRole_high_of_low (h : lo.pairRole = .low hi) : hi.pairRole = .high lo := by
  have hs := lo.pairSound_all
  rw [Reg.pairSound, h] at hs
  exact of_decide_eq_true hs

/-- The halves of a pair are two registers. -/
theorem pair_ne (h : lo.pairRole = .low hi) (j k : Nat) : (lo, j) ≠ (hi, k) := fun e => by
  have hh := pairRole_high_of_low h
  rw [← (Prod.mk.inj e).1, h] at hh
  cases hh

theorem FTy.takes_unlocked {ty : FTy} {b : Bool} (h : ty.takes b = true) : ty.takes false = true := by
  revert h
  cases ty <;> cases b <;> decide

theorem highMask (h : hi.pairRole = .high lo) {b : Bool} (ht : hi.info.fields.any (fun f => f.ty.takes b) = true) :
    fieldMask hi.info.fields (fun _ => true) &&& 0x7FFFFFFF = fieldMask hi.info.fields (fun _ => true) := by
  have hs := hi.pairSound_all
  have hw : hi.info.fields.any (fun f => f.ty.takes false) = true := by
    obtain ⟨f, hf, hty⟩ := List.any_eq_true.1 ht
    exact List.any_eq_true.2 ⟨f, hf, FTy.takes_unlocked hty⟩
  rw [Reg.pairSound, h] at hs
  simpa [hw] using hs

/-! ### Reads -/

theorem readReg_low (h : lo.pairRole = .low hi) : s.readReg q lo i =
    (s.look lo i, ((s.setSnap (pairKey q lo i) (s.look hi i)).readClears lo i).readClears hi i) := by
  simp only [State.readReg, h]

theorem readReg_high (h : hi.pairRole = .high lo) : s.readReg q hi i = (spGet 0 s.snaps (pairKey q lo i), s) := by
  simp only [State.readReg, h]

theorem readReg_single (h : r.pairRole = .none) (hr : r ∉ [Reg.TIM_NOW0, .TIM_EVENT, .OBJ_CTX_STATUS]) :
    s.readReg q r i = (s.look r i, s.readClears r i) := by
  simp only [List.mem_cons, List.not_mem_nil, or_false, not_or] at hr
  obtain ⟨hnow, hevent, -⟩ := hr
  simp only [State.readReg, h]

/-- R47: what a read of a pair's low register leaves. -/
theorem readReg_low_leaves (h : lo.pairRole = .low hi) (hc : s.canonical = true) :
    spGet 0 (s.readReg q lo i).2.snaps (pairKey q lo i) = s.look hi i ∧
    (∀ k, k ≠ pairKey q lo i → spGet 0 (s.readReg q lo i).2.snaps k = spGet 0 s.snaps k) ∧
    (s.readReg q lo i).2.rd lo i = s.rd lo i &&& ~~~(fieldMask lo.info.fields (fun ty => ty == .RC)) ∧
    (s.readReg q lo i).2.rd hi i = s.rd hi i &&& ~~~(fieldMask hi.info.fields (fun ty => ty == .RC)) := by
  have h1 := canonical_setSnap (pairKey q lo i) (s.look hi i) hc
  have h2 : ((s.setSnap (pairKey q lo i) (s.look hi i)).readClears lo i).canonical = true := canonical_readClears h1
  rw [readReg_low h]
  refine ⟨?_, fun k hk => ?_, ?_, ?_⟩
  · rw [readClears_snaps h2, readClears_snaps h1]
    exact spGet_set_same _ _ _ (snaps_rising hc)
  · rw [readClears_snaps h2, readClears_snaps h1]
    exact spGet_set_ne _ _ _ hk (snaps_rising hc)
  · rw [rd_readClears_other (pair_ne h i i) h2, rd_readClears_same h1, rd_setSnap]
  · rw [rd_readClears_same h2, rd_readClears_other (pair_ne h i i).symm h1, rd_setSnap]

/-- Settles O11: the snapshot is taken with the read of the low register, and the read of the high register returns it. -/
theorem pairReads : Obligations.PairReads := by
  unfold Obligations.PairReads
  refine ⟨?low, ?high, fun _ => rfl⟩
  case low =>
    intro s q addr lo hi i hc ha hr h
    refine ⟨s.readShown q addr, rfl, ?_⟩
    unfold State.readShown
    rw [busRead_reg ha hr]
    exact ⟨congrArg Prod.fst (readReg_low h), readReg_low_leaves h hc⟩
  case high =>
    intro s q addr lo hi i ha hr h
    refine ⟨s.readShown q addr, rfl, ?_⟩
    unfold State.readShown
    rw [busRead_reg ha hr, readReg_high h]

/-- Settles O13: a register that is no half of a pair reads as it stands and loses its RC fields, and an address without a
register reads 0 and is counted. -/
theorem registerReads : Obligations.RegisterReads := by
  unfold Obligations.RegisterReads
  refine ⟨?mapped, ?unmapped⟩
  case mapped =>
    intro s q addr r i hc ha hr h hmore
    refine ⟨s.readShown q addr, rfl, ?_⟩
    unfold State.readShown
    rw [busRead_reg ha hr, readReg_single h hmore]
    exact ⟨rfl, rd_readClears_same hc, fun r' j hne => rd_readClears_other hne hc, readClears_snaps hc,
      readClears_stages hc⟩
  case unmapped =>
    intro s q addr hc ha hr
    refine ⟨s.readShown q addr, rfl, ?_⟩
    unfold State.readShown
    rw [busRead_unmapped ha hr]
    exact ⟨rfl, (accessError_counted hc).1,
      (upd_busData_keeps (sub_foot (p := .busData) (by simp)) (count_keeps (reg_foot (by simp)) (Keeps.rfl _ s))).onlyFoot hc⟩

end Sys2Proof.Machine
end

section
/-! PROOFS. Writes on the register bus: pairs, single registers and table windows (spec/02 R42 to R51, R565). -/

namespace Sys2Proof.Machine

variable {s t : State} {q : Requester} {addr v : Word} {r lo hi : Reg} {i : Nat}

/-! ### Pairs -/

theorem writeReg_low (h : lo.pairRole = .low hi) : s.writeReg q lo i v = s.writeLow q lo hi i v := by
  simp only [State.writeReg, h]

theorem writeReg_high (h : hi.pairRole = .high lo) : s.writeReg q hi i v = s.writeHigh q lo hi i v := by
  simp only [State.writeReg, h]

/-- R48: a high register that takes writes stages its upper bits under the mark in bit 31. -/
theorem writeHigh_taken (ht : hi.info.fields.any (fun f => f.ty.takes (s.lockedReg hi)) = true)
    (hw : writeCounts hi.info.fields (s.lockedReg hi) (s.rd hi i) v = false) : s.writeHigh q lo hi i v =
      s.setStage (pairKey q lo i) ((v &&& fieldMask hi.info.fields (fun _ => true)) ||| 0x80000000) := by
  simp only [State.writeHigh, hw, ht, if_true, Bool.false_eq_true, if_false]

/-- R48: a low register that takes writes commits the word with the staged upper bits, and its stage holds nothing new. -/
theorem writeLow_taken (ht : lo.info.fields.any (fun f => f.ty.takes (s.lockedReg lo)) = true)
    (hw : writeCounts lo.info.fields (s.lockedReg lo) (s.rd lo i) v = false) : s.writeLow q lo hi i v =
      ((s.wr lo i v).wr hi i (s.stagedHigh q lo hi i)).setStage (pairKey q lo i) 0 := by
  simp only [State.writeLow, hw, ht, if_true, Bool.false_eq_true, if_false]

/-- Marked upper bits are what the stage holds. -/
theorem stagedHigh_setStage {w : Word} (hm : w &&& 0x7FFFFFFF = w) (hc : s.canonical = true) :
    (s.setStage (pairKey q lo i) (w ||| 0x80000000)).stagedHigh q lo hi i = w := by
  have hne : ¬ (w ||| 0x80000000 == 0) = true := fun e => by
    have h := congrArg (fun x : Word => x.getLsbD 31) (eq_of_beq e)
    simp at h
  have hand : (w ||| 0x80000000) &&& 0x7FFFFFFF = w := by
    rw [BitVec.and_or_distrib_right, hm]
    exact BitVec.or_zero
  unfold State.stagedHigh State.setStage
  dsimp only
  rw [spGet_set_same _ _ _ (stages_rising hc), if_neg hne, hand]

/-- A stage that holds nothing new stands for the upper bits in place. -/
theorem stagedHigh_of_unstaged (h : spGet 0 s.stages (pairKey q lo i) = 0) : s.stagedHigh q lo hi i = s.rd hi i := by
  unfold State.stagedHigh
  rw [h]
  rfl

/-- What a committing write of the low register leaves. -/
theorem committed_leaves (h : lo.pairRole = .low hi) (hc : s.canonical = true) (w : Word)
    (ht : t = ((s.wr lo i v).wr hi i w).setStage (pairKey q lo i) 0) :
    t.canonical = true ∧ t.rd lo i = v ∧ t.rd hi i = w ∧ spGet 0 t.stages (pairKey q lo i) = 0 ∧
    (∀ r j, (r, j) ≠ (lo, i) → (r, j) ≠ (hi, i) → t.rd r j = s.rd r j) ∧
    ChangesOnly [.stages, .reg lo, .reg hi] s t := by
  subst ht
  have h1 := canonical_wr lo i v hc
  have k : Keeps (footOf [.stages, .reg lo, .reg hi]) s (((s.wr lo i v).wr hi i w).setStage (pairKey q lo i) 0) :=
    setStage_keeps (sub_foot (p := .stages) (by simp)) (wr_keeps (reg_foot (by simp)) (wr_keeps (reg_foot (by simp))
      (Keeps.rfl _ s)))
  refine ⟨k.canonical hc, ?_, ?_, ?_, fun r j hl hh => ?_, k.onlyFoot hc⟩
  · rw [rd_setStage, rd_wr_other _ (pair_ne h i i) h1, rd_wr_same _ _ _ hc]
  · rw [rd_setStage, rd_wr_same _ _ _ h1]
  · exact spGet_set_same (m := s.stages) 0 _ 0 (stages_rising hc)
  · rw [rd_setStage, rd_wr_other _ hh h1, rd_wr_other _ hl hc]

/-- With nothing new staged, a write of the low register leaves the upper bits as they are, taken or not. -/
theorem rd_high_writeLow (h : lo.pairRole = .low hi) (hst : spGet 0 s.stages (pairKey q lo i) = 0)
    (hc : s.canonical = true) : (s.writeLow q lo hi i v).rd hi i = s.rd hi i := by
  have hacc : (hi, i) ≠ (Reg.GLB_ACC_ERR_CNT, 0) := fun e => by
    have hh := pairRole_high_of_low h
    rw [(Prod.mk.inj e).1] at hh
    cases hh
  unfold State.writeLow
  extract_lets fs locked u
  have hu : u.canonical = true ∧ u.rd hi i = s.rd hi i ∧ u.stages = s.stages := by
    subst u
    split
    · exact ⟨canonical_accessError hc, rd_wr_other _ hacc hc, rfl⟩
    · exact ⟨hc, rfl, rfl⟩
  clear_value u
  obtain ⟨huc, hurd, hus⟩ := hu
  split
  · have hsh : u.stagedHigh q lo hi i = u.rd hi i := stagedHigh_of_unstaged (by rw [hus, hst])
    rw [rd_setStage, rd_wr_same _ _ _ (canonical_wr _ _ _ huc)]
    exact hsh.trans hurd
  · exact hurd

/-- Settles O12: the stage carries the upper bits from the write of the high register to the commit, and holds nothing new
after it. -/
theorem pairWrites : Obligations.PairWrites := by
  unfold Obligations.PairWrites
  refine ⟨?high, ?low, ?again⟩
  case high =>
    intro s q addr v lo hi i hc ha hr h ht hw
    refine ⟨s.busWrite q addr v, rfl, ?_⟩
    rw [busWrite_reg ha hr, writeReg_high h, writeHigh_taken ht hw]
    have hm : (v &&& fieldMask hi.info.fields (fun _ => true)) &&& 0x7FFFFFFF =
        v &&& fieldMask hi.info.fields (fun _ => true) := by
      rw [BitVec.and_assoc, highMask h ht]
    exact ⟨stagedHigh_setStage hm hc, fun k hk => spGet_set_ne _ _ _ hk (stages_rising hc),
      (setStage_keeps (sub_foot (p := .stages) (by simp)) (Keeps.rfl _ s)).onlyFoot hc⟩
  case low =>
    intro s q addr v lo hi i hc ha hr h ht hw
    refine ⟨s.busWrite q addr v, rfl, ?_⟩
    obtain ⟨-, hlo, hhi, hst, hrest, honly⟩ := committed_leaves h hc (s.stagedHigh q lo hi i)
      ((busWrite_reg ha hr).trans ((writeReg_low h).trans (writeLow_taken (q := q) ht hw)))
    exact ⟨hlo, hhi, stagedHigh_of_unstaged hst, hrest, honly⟩
  case again =>
    intro s t u q addr v w lo hi i hc ha hr h ht hw hst hsu
    have hte : s.busWrite q addr v = t := Host.Outcome.next.inj hst
    have hue : t.busWrite q addr w = u := Host.Outcome.next.inj hsu
    obtain ⟨htc, -, -, hstage, -, -⟩ := committed_leaves h hc (s.stagedHigh q lo hi i)
      (hte.symm.trans ((busWrite_reg ha hr).trans ((writeReg_low h).trans (writeLow_taken (q := q) ht hw))))
    rw [← hue, busWrite_reg ha hr, writeReg_low h]
    exact rd_high_writeLow h hstage htc

/-! ### Single registers -/

/-- A write of a register that `actsOnWrite` does not name starts nothing. -/
theorem writeActs_quiet (h : r ∉ actsOnWrite) : s.writeActs r i v = s := by
  unfold State.writeActs
  split
  iterate 24 · simp [actsOnWrite] at h
  rfl

theorem writeActs_seam (h : r = .SEAM_OFS ∨ r = .SEAM_SCALE ∨ r = .SEAM_YOFS) : s.writeActs r i v = s := by
  obtain rfl | rfl | rfl := h <;> rfl

/-- R43: a write that is not counted and starts nothing stores the fields' new word. -/
theorem writeSingle_stores (hl : r ≠ .EVT_LOOPED) (hw : writeCounts r.info.fields (s.lockedReg r) (s.rd r i) v = false)
    (ha : ∀ t : State, t.writeActs r i v = t) :
    s.writeSingle r i v = s.wr r i (writeWord r.info.fields (s.lockedReg r) (s.rd r i) v) := by
  simp only [State.writeSingle, hw, ha, Bool.false_eq_true, if_false, beq_iff_eq, hl, ite_self]

/-- R171: the staged values of a seam take writes in every mode. -/
theorem seam_unlocked (h : r = .SEAM_OFS ∨ r = .SEAM_SCALE ∨ r = .SEAM_YOFS) : s.lockedReg r = false := by
  obtain rfl | rfl | rfl := h <;> exact Bool.and_false _

theorem writeReg_seam (h : r = .SEAM_OFS ∨ r = .SEAM_SCALE ∨ r = .SEAM_YOFS) : s.writeReg q r i v =
    if s.seamWriteLost i then s else (s.wr r i (writeWord r.info.fields false (s.rd r i) v)).seamWritten i := by
  have hw : s.writeSingle r i v = s.wr r i (writeWord r.info.fields false (s.rd r i) v) := by
    have hu := seam_unlocked (s := s) h
    rw [← hu]
    refine writeSingle_stores ?_ ?_ (fun t => writeActs_seam h)
    · obtain rfl | rfl | rfl := h <;> decide
    · rw [hu]
      obtain rfl | rfl | rfl := h <;> rfl
  rw [← hw]
  obtain rfl | rfl | rfl := h <;> rfl

theorem writeReg_single (h : r.pairRole = .none) (ha : r ∉ actsOnWrite) : s.writeReg q r i v = s.writeSingle r i v := by
  have hs : (r == .SEAM_OFS || r == .SEAM_SCALE || r == .SEAM_YOFS) = false := by
    refine Bool.eq_false_iff.2 fun hseam => ?_
    simp only [Bool.or_eq_true, beq_iff_eq] at hseam
    obtain (rfl | rfl) | rfl := hseam <;> exact ha (by decide)
  simp only [State.writeReg, h, hs, Bool.false_eq_true, if_false]

/-- R171: the seam that a write has reached is remembered. -/
theorem seamWritten_byWrite (h : i < s.sti.seams.length) : ((s.seamWritten i).seam i).byWrite = true := by
  simp [State.seamWritten, State.setSeam, State.seam, List.getD_eq_getElem?_getD, h]

/-! ### Table windows -/

theorem tab_setTab_same (a : Nat) (w : Word) (hc : s.canonical = true) : (s.setTab a w).tab a = w :=
  spGet_set_same _ _ _ (tables_rising hc)

theorem tab_setTab_ne {a b : Nat} (w : Word) (h : b ≠ a) (hc : s.canonical = true) : (s.setTab a w).tab b = s.tab b :=
  spGet_set_ne _ _ _ h (tables_rising hc)

theorem tab_clearTabs {p : Nat → Bool} {a : Nat} (h : p a = true) : (s.clearTabs p).tab a = tabDefault a :=
  spGet_filter_out (p := fun b => !p b) _ (by simp [h])

theorem tab_clearTabs_ne {p : Nat → Bool} {a : Nat} (h : p a = false) (hc : s.canonical = true) :
    (s.clearTabs p).tab a = s.tab a :=
  spGet_filter_in (p := fun b => !p b) _ (by simp [h]) (tables_rising hc)

/-- Settles O14: each kind of address has its own store, and nothing else moves. -/
theorem registerWrites : Obligations.RegisterWrites := by
  unfold Obligations.RegisterWrites
  refine ⟨?single, ?seam, ?unmapped, ?window, ?histograms⟩
  case single =>
    intro s q addr v r i hc ha hr h hacts hw
    refine ⟨s.busWrite q addr v, rfl, ?_⟩
    have hl : r ≠ .EVT_LOOPED := fun e => hacts (by rw [e]; decide)
    rw [busWrite_reg ha hr, writeReg_single h hacts, writeSingle_stores hl hw (fun t => writeActs_quiet hacts)]
    exact ⟨rd_wr_same _ _ _ hc, (wr_keeps (reg_foot (by simp)) (Keeps.rfl _ s)).onlyFoot hc,
      fun j hj => rd_wr_ne _ (Reg.key_index_ne r hj) hc⟩
  case seam =>
    intro s q addr v r i hc ha hr h
    refine ⟨s.busWrite q addr v, rfl, ?_⟩
    rw [busWrite_reg ha hr, writeReg_seam h]
    dsimp only
    by_cases hlost : (s.seam i).selfAt = some s.clk
    · rw [if_pos hlost, if_pos (by simpa [State.seamWriteLost] using hlost)]
    · rw [if_neg hlost, if_neg (by simpa [State.seamWriteLost] using hlost)]
      refine ⟨rd_wr_same r i _ hc, ?_, fun hi => seamWritten_byWrite hi⟩
      exact (seamWritten_keeps (sub_foot (p := .sti) (by simp)) (wr_keeps (reg_foot (by simp)) (Keeps.rfl _ s))).onlyFoot hc
  case unmapped =>
    intro s q addr v hc h
    refine ⟨s.busWrite q addr v, rfl, ?_⟩
    rw [busWrite_unmapped h]
    exact accessError_counted hc
  case window =>
    intro s q addr v w hc ha hw
    refine ⟨s.busWrite q addr v, rfl, ?_⟩
    rw [busWrite_win ha hw]
    unfold State.writeWin
    split
    · exact ⟨tab_setTab_same _ _ hc, fun a hne => tab_setTab_ne _ hne hc,
        (setTab_keeps (sub_foot (p := .tables) (by simp)) (Keeps.rfl _ s)).onlyFoot hc⟩
    · exact accessError_counted hc
  case histograms =>
    intro s hc
    refine ⟨s.clearHist, rfl, (clearTabs_keeps (sub_foot (p := .tables) (by simp)) (Keeps.rfl _ s)).onlyFoot hc, ?_, ?_⟩
    · intro a hlow hhigh
      exact tab_clearTabs (by simp [hlow, hhigh])
    · intro a hout
      exact tab_clearTabs_ne (by simpa using hout) hc

end Sys2Proof.Machine
end

section
/-! PROOFS. The ends of rehearsals and of the return checks (spec/17 R506, R509; spec/02 R55). -/

namespace Sys2Proof.Machine

variable {s : State}

/-! ### What raising an event and changing the mode leave -/

/-- Raising an event leaves every part alone but registers, the producers' firings and the counters that count them. -/
theorem raise_part (f : Fld) (i : Nat) (p : Part) (hp : (allRegs ||| fireMask).testBit p.bit = false)
    (hc : s.canonical = true) : p.same s (s.raise f i) :=
  have hm : Sub (allRegs ||| fireMask) (allRegs ||| fireMask) := Sub.rfl _
  (raise_keeps (hm.mono (by rfl)) (hm.reg (by rfl) _) (Keeps.rfl _ s)).part hc p hp

/-- R468: a one-bit flag that is raised reads 1. -/
theorem fld_raise_same (f : Fld) (i : Nat) (h : fireMask.testBit f.reg.part = false) (hw : f.lo + f.width ≤ 32)
    (h1 : f.width = 1) (hc : s.canonical = true) : (s.raise f i).fld f i = 1 := by
  have hput := fld_put_same f i 1 hw hc
  rw [h1] at hput
  exact (fld_raise f f i i h hc).trans hput

@[simp] theorem fld_modeTimes (m : Mode) (f : Fld) (i : Nat) : (s.modeTimes m).fld f i = s.fld f i := by
  unfold State.modeTimes
  extract_lets t
  split <;> rfl

@[simp] theorem modeTimes_performFrom (m : Mode) : (s.modeTimes m).glb.performFrom = s.glb.performFrom := by
  unfold State.modeTimes
  extract_lets t
  split <;> rfl

@[simp] theorem modeTimes_groups (m : Mode) : (s.modeTimes m).pwr.groups = s.pwr.groups := by
  unfold State.modeTimes
  extract_lets t
  split <;> rfl

/-- A mode change leaves every field but GLB_MODE, MODE_CHANGE, the code on the STS pins and what a firing changes. -/
theorem fld_setMode (m : Mode) (f : Fld) (i : Nat) (hmode : F.GLB_MODE_MODE.apart f = true)
    (hchange : F.GLB_EVENT_MODE_CHANGE.apart f = true) (hsts : F.GLB_STATUS_STS.apart f = true)
    (hfire : fireMask.testBit f.reg.part = false) (hc : s.canonical = true) : (s.setMode m).fld f i = s.fld f i := by
  have ht := canonical_modeTimes m hc
  unfold State.setMode State.showSts
  split
  · rw [fld_put_apart _ _ _ _ _ hsts hc]
  · rw [fld_put_apart _ _ _ _ _ hsts (canonical_raise _ _ (canonical_put _ _ _ ht)),
      fld_raise_apart _ _ _ _ hfire hchange (canonical_put _ _ _ ht), fld_put_apart _ _ _ _ _ hmode ht, fld_modeTimes]

theorem setMode_performFrom (m : Mode) (hc : s.canonical = true) :
    (s.setMode m).glb.performFrom = s.glb.performFrom := by
  have ht := canonical_put F.GLB_MODE_MODE 0 m.code (canonical_modeTimes m hc)
  have hg := raise_part F.GLB_EVENT_MODE_CHANGE 0 .glb rfl ht
  unfold State.setMode State.showSts
  split
  · rfl
  · rw [put_glb, hg, put_glb, modeTimes_performFrom]

theorem setMode_groups (m : Mode) (hc : s.canonical = true) : (s.setMode m).pwr.groups = s.pwr.groups := by
  have ht := canonical_put F.GLB_MODE_MODE 0 m.code (canonical_modeTimes m hc)
  have hg := raise_part F.GLB_EVENT_MODE_CHANGE 0 .pwr rfl ht
  unfold State.setMode State.showSts
  split
  · rfl
  · rw [put_pwr, hg, put_pwr, modeTimes_groups]

/-! ### PERFORM begins -/

theorem mode_enterPerform (n : LineNo) (hc : s.canonical = true) : (s.enterPerform n).mode = .perform :=
  mode_setMode (s := { s with glb := { s.glb with performFrom := n } }) .perform hc

theorem enterPerform_performFrom (n : LineNo) (hc : s.canonical = true) : (s.enterPerform n).glb.performFrom = n :=
  setMode_performFrom (s := { s with glb := { s.glb with performFrom := n } }) .perform hc

theorem enterPerform_groups (n : LineNo) (hc : s.canonical = true) : (s.enterPerform n).pwr.groups = s.pwr.groups :=
  setMode_groups (s := { s with glb := { s.glb with performFrom := n } }) .perform hc

theorem fld_enterPerform (n : LineNo) (f : Fld) (hmode : F.GLB_MODE_MODE.apart f = true)
    (hchange : F.GLB_EVENT_MODE_CHANGE.apart f = true) (hsts : F.GLB_STATUS_STS.apart f = true)
    (hfire : fireMask.testBit f.reg.part = false) (hc : s.canonical = true) : (s.enterPerform n).fld f = s.fld f :=
  fld_setMode (s := { s with glb := { s.glb with performFrom := n } }) .perform f 0 hmode hchange hsts hfire hc

/-! ### A full rehearsal -/

/-- What the end of a rehearsal reads and writes in GLB, and the position. -/
def endParts : List Part := [.pos, .reg .GLB_STATUS, .reg .GLB_EVENT]

/-- Every part but those of the end of a rehearsal and the keep domain. -/
def offEnd : Nat := allBut (footOf (.pwr :: endParts))

/-- Every part but those of the end of a rehearsal. -/
def offEndKeep : Nat := allBut (footOf endParts)

theorem ffAbandons_offEnd : Keeps offEnd s (forBelow 32 (fun h t => t.ffAbandon h true) s) :=
  keeps_forBelow (fun _ _ h => ffAbandon_keeps ((Sub.rfl offEnd).mono (by decide +kernel)) h) (Keeps.rfl _ s)

/-- R506: what the end of a rehearsal does to a port. -/
def State.rehPort (timeout : Bool) (p : Nat) (t : State) : State :=
  if t.portWorks p && t.portAccepted p then t.portCalibrated p
  else if timeout && t.bit F.CAM_CTRL_EN p then t.camStale p
  else t

theorem rehPorts_offEndKeep (timeout : Bool) : Keeps offEndKeep s (forBelow 16 (State.rehPort timeout) s) :=
  keeps_forBelow (fun _ _ h => keeps_ite (portCalibrated_keeps ((Sub.rfl offEndKeep).mono (by decide +kernel)) h)
    (keeps_ite (camStale_keeps ((Sub.rfl offEndKeep).mono (by decide +kernel)) h) h)) (Keeps.rfl _ s)

/-- Without a timeout no port is made stale, and the keep domain has nothing to note of the ports. -/
theorem rehPorts_offEnd : Keeps offEnd s (forBelow 16 (State.rehPort false) s) :=
  keeps_forBelow (fun _ _ h => keeps_ite (portCalibrated_keeps ((Sub.rfl offEnd).mono (by decide +kernel)) h) h)
    (Keeps.rfl _ s)

/-- The summary of the calibration is noted in one more group, and nothing else changes. -/
theorem calib_noted {accepted : Bool} {f : Calib → Calib} {u : State}
    (hu : u = if accepted then s.calibGroup f else s.calibNote f) :
    (s.canonical = true → u.canonical = true) ∧ u.pos = s.pos ∧ u.regs = s.regs ∧
      u.pwr.groups.length = s.pwr.groups.length + 1 := by
  subst hu
  split <;> exact ⟨fun h => h, rfl, rfl, List.length_append⟩

/-- R506: a rehearsal that ends at its maximum, with something still open, raises REH_TIMEOUT. -/
theorem rehTimeout_leaves {timeout : Bool} {u : State} (hu : u = if timeout then s.raise F.GLB_EVENT_REH_TIMEOUT else s)
    (hc : s.canonical = true) : u.canonical = true ∧ u.pos = s.pos ∧ u.pwr = s.pwr ∧
      u.fld F.GLB_EVENT_REH_TIMEOUT = if timeout then 1 else s.fld F.GLB_EVENT_REH_TIMEOUT := by
  subst hu
  split
  · exact ⟨canonical_raise _ _ hc, raise_part _ _ .pos rfl hc, raise_part _ _ .pwr rfl hc,
      fld_raise_same _ _ rfl (by decide) rfl hc⟩
  · exact ⟨hc, rfl, rfl, rfl⟩

/-- R506: a rehearsal that ends is no longer owed, and raises REH_DONE. -/
theorem rehDone_leaves {u : State} (hu : u = (s.put F.GLB_STATUS_REH_OWED 0 0).raise F.GLB_EVENT_REH_DONE)
    (hc : s.canonical = true) : u.canonical = true ∧ u.pos = s.pos ∧ u.pwr = s.pwr ∧ u.fld F.GLB_STATUS_REH_OWED = 0 ∧
      u.fld F.GLB_EVENT_REH_DONE = 1 ∧ u.fld F.GLB_EVENT_REH_TIMEOUT = s.fld F.GLB_EVENT_REH_TIMEOUT := by
  subst hu
  have hput := canonical_put F.GLB_STATUS_REH_OWED 0 0 hc
  refine ⟨canonical_raise _ _ hput, raise_part _ _ .pos rfl hput, raise_part _ _ .pwr rfl hput, ?_, ?_, ?_⟩
  · exact (fld_raise_apart _ _ _ _ rfl rfl hput).trans (fld_put_same _ _ _ (by decide) hc)
  · exact fld_raise_same _ _ rfl (by decide) rfl hput
  · exact (fld_raise_apart _ _ _ _ rfl rfl hput).trans (fld_put_apart _ _ _ _ _ rfl hc)

/-- R506: what the end of a rehearsal has done when PERFORM begins. -/
theorem rehearsalEnd_enters (timeout : Bool) (hc : s.canonical = true) : ∃ u : State, u.canonical = true ∧
    s.rehearsalEnd timeout = u.enterPerform (s.pos.nextLine - 1) ∧ u.fld F.GLB_STATUS_REH_OWED = 0 ∧
    u.fld F.GLB_EVENT_REH_DONE = 1 ∧
    u.fld F.GLB_EVENT_REH_TIMEOUT = (if timeout then 1 else s.fld F.GLB_EVENT_REH_TIMEOUT) ∧
    (timeout = false → u.pwr.groups.length = s.pwr.groups.length + 1) := by
  generalize he : s.rehearsalEnd timeout = e
  unfold State.rehearsalEnd at he
  extract_lets +onlyGivenNames s1 s2 s3 s4 ports accepted note u at he
  have k1 : Keeps offEnd s s1 := ffAbandons_offEnd
  obtain ⟨hc2, hpos2, hpwr2, htmo2⟩ := rehTimeout_leaves (u := s2) rfl (k1.canonical hc)
  obtain ⟨hc3, hpos3, hpwr3, howed3, hdone3, htmo3⟩ := rehDone_leaves (u := s3) rfl hc2
  have k4 : Keeps offEndKeep s3 s4 := rehPorts_offEndKeep timeout
  have hpwr4 : timeout = false → s4.pwr = s3.pwr := by
    rintro rfl
    exact (rehPorts_offEnd (s := s3)).part hc3 .pwr rfl
  obtain ⟨hcu, hposu, hregsu, hgroups⟩ := calib_noted (u := u) rfl
  have hfld (f : Fld) (hf : offEndKeep.testBit f.reg.part = false) : u.fld f = s3.fld f := by
    rw [← k4.fld hc3 f 0 hf]
    unfold State.fld State.rd
    rw [hregsu]
  have hpos : u.pos = s.pos := by
    rw [hposu, k4.part hc3 .pos (by decide +kernel), hpos3, hpos2, k1.part hc .pos (by decide +kernel)]
  refine ⟨u, hcu (k4.canonical hc3), ?_, ?_, ?_, ?_, fun hno => ?_⟩
  · rw [← he, hpos]
  · rw [hfld _ (by decide +kernel), howed3]
  · rw [hfld _ (by decide +kernel), hdone3]
  · rw [hfld _ (by decide +kernel), htmo3, htmo2, k1.fld hc _ _ (by decide +kernel)]
  · rw [hgroups, hpwr4 hno, hpwr3, hpwr2, k1.part hc .pwr (by decide +kernel)]

/-- R506: what the end of a rehearsal leaves. -/
theorem rehearsalEnd_leaves (timeout : Bool) (hc : s.canonical = true) : (s.rehearsalEnd timeout).mode = .perform ∧
    (s.rehearsalEnd timeout).fld F.GLB_STATUS_REH_OWED = 0 ∧ (s.rehearsalEnd timeout).fld F.GLB_EVENT_REH_DONE = 1 ∧
    (s.rehearsalEnd timeout).fld F.GLB_EVENT_REH_TIMEOUT = (if timeout then 1 else s.fld F.GLB_EVENT_REH_TIMEOUT) ∧
    (s.rehearsalEnd timeout).glb.performFrom = s.pos.nextLine - 1 ∧
    (timeout = false → (s.rehearsalEnd timeout).pwr.groups.length = s.pwr.groups.length + 1) := by
  obtain ⟨u, hcu, he, howed, hdone, htmo, hgroups⟩ := rehearsalEnd_enters timeout hc
  rw [he]
  refine ⟨mode_enterPerform _ hcu, ?_, ?_, ?_, enterPerform_performFrom _ hcu, fun hno => ?_⟩
  · rw [fld_enterPerform _ _ rfl rfl rfl rfl hcu, howed]
  · rw [fld_enterPerform _ _ rfl rfl rfl rfl hcu, hdone]
  · rw [fld_enterPerform _ _ rfl rfl rfl rfl hcu, htmo]
  · rw [enterPerform_groups _ hcu, hgroups hno]

/-! ### The return checks -/

/-- R509: what the end of the return checks leaves. -/
theorem verifyDone_leaves (hc : s.canonical = true) : s.verifyDone.mode = .perform ∧
    s.verifyDone.fld F.GLB_STATUS_VERIFY = 0 ∧ s.verifyDone.fld F.GLB_EVENT_VERIFY_DONE = 1 ∧
    s.verifyDone.glb.performFrom = s.pos.nextLine - 1 ∧
    ∀ f ∈ [F.GLB_STATUS_VFAIL_REG, F.GLB_STATUS_VFAIL_POS, F.GLB_STATUS_VFAIL_TIME], s.verifyDone.fld f = s.fld f := by
  have hput := canonical_put F.GLB_STATUS_VERIFY 0 0 hc
  have hcu := canonical_raise F.GLB_EVENT_VERIFY_DONE 0 hput
  have hpos := raise_part F.GLB_EVENT_VERIFY_DONE 0 .pos rfl hput
  unfold State.verifyDone
  extract_lets +onlyGivenNames u
  refine ⟨mode_enterPerform _ hcu, ?_, ?_, ?_, fun f hf => ?_⟩
  · rw [fld_enterPerform _ _ rfl rfl rfl rfl hcu, fld_raise_apart _ _ _ _ rfl rfl hput,
      fld_put_same _ _ _ (by decide) hc]
    rfl
  · rw [fld_enterPerform _ _ rfl rfl rfl rfl hcu, fld_raise_same _ _ rfl (by decide) rfl hput]
  · rw [enterPerform_performFrom _ hcu, hpos]
    rfl
  · simp only [List.mem_cons, List.not_mem_nil, or_false] at hf
    obtain rfl | rfl | rfl := hf <;>
      rw [fld_enterPerform _ _ rfl rfl rfl rfl hcu, fld_raise_apart _ _ _ _ rfl rfl hput, fld_put_apart _ _ _ _ _ rfl hc]

/-- A flag that is set when a check is open. -/
def State.failIf (s : State) (c : Bool) (f : Fld) : State := if c then s.put f 0 1 else s

theorem canonical_failIf (c : Bool) (f : Fld) (hc : s.canonical = true) : (s.failIf c f).canonical = true := by
  unfold State.failIf
  split
  · exact canonical_put _ _ _ hc
  · exact hc

theorem fld_failIf_same (c : Bool) {f : Fld} (hw : f.lo + f.width ≤ 32) (h1 : f.width = 1) (hc : s.canonical = true) :
    (s.failIf c f).fld f = if c then 1 else s.fld f := by
  unfold State.failIf
  split
  · have hput := fld_put_same f 0 1 hw hc
    rw [h1] at hput
    exact hput
  · rfl

theorem fld_failIf_apart (c : Bool) {f g : Fld} (ha : f.apart g = true) (hc : s.canonical = true) :
    (s.failIf c f).fld g = s.fld g := by
  unfold State.failIf
  split
  · exact fld_put_apart _ _ _ _ _ ha hc
  · rfl

/-- R509: at the timeout the flags of the open checks are set, and the checks end. -/
theorem verifyTimeout_enters (hc : s.canonical = true) : ∃ u : State, u.canonical = true ∧ s.verifyTimeout = u.verifyDone ∧
    u.fld F.GLB_STATUS_VFAIL_REG = (if s.openChecks.1 then 1 else s.fld F.GLB_STATUS_VFAIL_REG) ∧
    u.fld F.GLB_STATUS_VFAIL_POS = (if s.openChecks.2.1 then 1 else s.fld F.GLB_STATUS_VFAIL_POS) ∧
    u.fld F.GLB_STATUS_VFAIL_TIME = (if s.openChecks.2.2 then 1 else s.fld F.GLB_STATUS_VFAIL_TIME) := by
  generalize he : s.verifyTimeout = e
  unfold State.verifyTimeout at he
  extract_lets +onlyGivenNames c s1 s2 u at he
  have hc1 : s1.canonical = true := canonical_failIf c.1 F.GLB_STATUS_VFAIL_REG hc
  have hc2 : s2.canonical = true := canonical_failIf c.2.2 F.GLB_STATUS_VFAIL_TIME hc1
  have hregs : u.regs = (s2.failIf c.2.1 F.GLB_STATUS_VFAIL_POS).regs := by
    subst u
    unfold State.failIf
    split <;> rfl
  have hfld (f : Fld) : u.fld f = (s2.failIf c.2.1 F.GLB_STATUS_VFAIL_POS).fld f := by
    unfold State.fld State.rd
    rw [hregs]
  refine ⟨u, ?_, he.symm, ?_, ?_, ?_⟩
  · subst u
    split
    · exact canonical_put F.GLB_STATUS_VFAIL_POS 0 1 hc2
    · exact hc2
  · rw [hfld, fld_failIf_apart _ rfl hc2]
    exact (fld_failIf_apart _ rfl hc1).trans (fld_failIf_same _ (by decide) rfl hc)
  · rw [hfld, fld_failIf_same _ (by decide) rfl hc2]
    exact congrArg (ite _ 1) ((fld_failIf_apart _ rfl hc1).trans (fld_failIf_apart _ rfl hc))
  · rw [hfld, fld_failIf_apart _ rfl hc2]
    refine (fld_failIf_same _ (by decide) rfl hc1).trans ?_
    exact congrArg (ite _ 1) (fld_failIf_apart _ rfl hc)

/-- Settles O17: each end sets its flags and passes through the beginning of PERFORM, which leaves them. -/
theorem rehearsalsEnd : Obligations.RehearsalsEnd := by
  unfold Obligations.RehearsalsEnd
  refine ⟨?accepted, ?maximum, ?passed, ?timeout⟩
  case accepted =>
    intro s hc hat hver hmin hacc
    refine ⟨s.rehearsalEnd false, congrArg _ (if_pos (by simp [hat, hver, hmin, hacc])), ?_⟩
    obtain ⟨hmode, howed, hdone, -, hfrom, hgroups⟩ := rehearsalEnd_leaves false hc
    exact ⟨hmode, howed, hdone, hfrom, hgroups rfl⟩
  case maximum =>
    intro s hc hat hver hmax
    refine ⟨s.rehearsalEnd (!s.rehAccepted), congrArg _ (if_pos (by simp [hat, hver, hmax])), ?_⟩
    obtain ⟨hmode, howed, hdone, htmo, hfrom, -⟩ := rehearsalEnd_leaves (!s.rehAccepted) hc
    refine ⟨hmode, howed, hdone, ?_, hfrom⟩
    rw [htmo]
    cases s.rehAccepted <;> rfl
  case passed =>
    intro s hc hat hver hstrips hopen
    refine ⟨s.verifyDone, congrArg _ (if_pos (by simp [hat, hver, hstrips, hopen])), ?_⟩
    obtain ⟨hmode, hv, hdone, hfrom, hfail⟩ := verifyDone_leaves hc
    exact ⟨hmode, hv, hdone, hfrom, hfail _ (by simp), hfail _ (by simp), hfail _ (by simp)⟩
  case timeout =>
    intro s hc hat hver htmo
    refine ⟨s.verifyTimeout, congrArg _ (if_pos (by simp [hat, hver, htmo])), ?_⟩
    obtain ⟨u, hcu, he, hreg, hpos, htime⟩ := verifyTimeout_enters hc
    rw [he]
    obtain ⟨hmode, hv, hdone, -, hfail⟩ := verifyDone_leaves hcu
    exact ⟨hmode, hv, hdone, (hfail _ (by simp)).trans hreg, (hfail _ (by simp)).trans hpos,
      (hfail _ (by simp)).trans htime⟩

end Sys2Proof.Machine
end

section
/-! PROOFS. The coding of blocks, the filter of the pins, and what RESET_N and CAM_CTRL leave of a camera port's outputs (spec/03
R69 to R72, R83, R101; spec/09 R266; spec/19 R558). -/

namespace Sys2Proof.Machine

variable {s : State}

/-! ### The scrambler (R71) -/

/-- From a scrambled bit the descrambler takes the bit sent, and its register follows the scrambler's. -/
theorem descrambleBit_scrambleBit (r : BitVec 58) (b : Bool) :
    descrambleBit r (scrambleBit r b).2 = ((scrambleBit r b).1, b) := by
  refine Prod.ext rfl ?_
  change ((b ^^ r.getLsbD 38 ^^ r.getLsbD 57) ^^ r.getLsbD 38 ^^ r.getLsbD 57) = b
  cases b <;> cases r.getLsbD 38 <;> cases r.getLsbD 57 <;> rfl

theorem descramble_scramble (r : BitVec 58) (bits : List Bool) : descramble r (scramble r bits) = bits := by
  induction bits generalizing r with
  | nil => rfl
  | cons b bs ih =>
    rw [scramble, descramble, descrambleBit_scrambleBit]
    exact congrArg (b :: ·) (ih _)

theorem length_scramble (r : BitVec 58) (bits : List Bool) : (scramble r bits).length = bits.length := by
  induction bits generalizing r with
  | nil => rfl
  | cons b bs ih => exact congrArg (· + 1) (ih _)

/-! ### Block types (R71, R72) -/

theorem controlBlock_type (typ fields : Nat) : (controlBlock typ fields).toNat / 2 ^ 56 = typ % 256 := by
  unfold controlBlock
  rw [BitVec.toNat_ofNat]
  omega

/-- Each type that cameras send fits the type's octet. -/
theorem cameraTypes_octet : ∀ typ ∈ cameraTypes, typ % 256 = typ := by
  decide

theorem blockInvalid_camera {typ : Nat} (fields : Nat) (h : typ ∈ cameraTypes) :
    blockInvalid (syncHeader true) (controlBlock typ fields) = false := by
  have hin : (cameraTypes ++ backTypes).contains typ = true :=
    List.contains_iff_mem.2 (List.mem_append_left backTypes h)
  unfold blockInvalid
  rw [controlBlock_type, cameraTypes_octet typ h, hin]
  rfl

/-! ### RESET_N (R485) -/

theorem showSlots_mem : s.showSlots.mem = s.mem := by
  unfold State.showSlots
  split <;> rfl

theorem showKeep_mem : s.showKeep.mem = s.mem := showSlots_mem

/-- R558: the resets of the DRAM are low after the blocks' reset. -/
theorem blocksReset_resetN (heat power : Bool) : (s.blocksReset heat power).mem.resetN = false := by
  unfold State.blocksReset
  extract_lets +onlyGivenNames q r g1 g2 g3 g4 t t'
  have ht : t'.mem = t.mem := by
    subst t'
    split
    · rfl
    · exact forBelow_same (fun u => u.mem) (fun _ _ => rfl)
  rw [showKeep_mem]
  exact congrArg Mem.resetN ht

/-- CAM_STATUS lies outside the keep domain. -/
theorem keptKey_camStatus (p : Nat) : keptKey false (Reg.CAM_STATUS.key p) = false := by
  unfold keptKey Reg.key
  rw [Nat.mul_comm, Nat.mul_add_mod]
  decide

/-- R101: every camera port is OFF after the blocks' reset. -/
theorem blocksReset_camOff (power : Bool) (p : Nat) (hc : s.canonical = true) :
    (s.blocksReset false power).fld F.CAM_STATUS_STATE p = 0 := by
  change F.CAM_STATUS_STATE.get ((s.blocksReset false power).rd .CAM_STATUS p) = 0
  rw [blocksReset_rd_reset false power _ p (by rfl) (keptKey_camStatus p) hc,
    show Reg.CAM_STATUS.resetWord p = 0 from rfl]
  rfl

/-- RESET_N low freezes the mirror, cuts a slot write short and resets the blocks. -/
theorem resetLow_blocksReset (hc : s.canonical = true) :
    ∃ u : State, u.canonical = true ∧ s.resetLow = u.blocksReset false false := by
  unfold State.resetLow
  extract_lets +onlyGivenNames u
  have hu : u.canonical = true :=
    (cutWrite_keeps (M := allBut 0) ((Sub.rfl _).mono (by decide +kernel))
      (freeze_keeps ((Sub.rfl _).mono (by decide +kernel)) (Keeps.rfl _ s))).canonical hc
  clear_value u
  extract_lets +onlyGivenNames x y
  have hy : y.canonical = true := hu
  exact ⟨y, hy, rfl⟩

/-- R558: RESET_N low ends the reference outputs and the back-channels, and drives the resets of the DRAM low. -/
theorem resetLow_outputs (hc : s.canonical = true) :
    s.resetLow.mem.resetN = false ∧ ∀ p, s.resetLow.camRefOut p = false ∧ s.resetLow.backNext p = none := by
  obtain ⟨u, hu, he⟩ := resetLow_blocksReset hc
  rw [he]
  refine ⟨blocksReset_resetN _ _, fun p => ⟨?_, ?_⟩⟩
  · unfold State.camRefOut
    rw [blocksReset_glb _ _ hu, Bool.false_and, Bool.false_and]
  · unfold State.backNext
    rw [blocksReset_camOff _ p hu]
    rfl

/-! ### CAM_CTRL (R69) -/

/-- A field of one bit is that bit. -/
theorem Fld.get_one {f : Fld} (h1 : f.width = 1) (w : Word) : f.get w = (w.getLsbD f.lo).toNat := by
  unfold Fld.get bitsOf
  rw [h1, ← BitVec.testBit_toNat, Nat.testBit_eq_decide_div_mod_eq]
  rcases Nat.mod_two_eq_zero_or_one (w.toNat / 2 ^ f.lo) with h | h <;> simp [h]

/-- CAM_CTRL is written in every mode. -/
theorem camCtrl_unlocked : s.lockedReg .CAM_CTRL = false :=
  Bool.and_false _

/-- R101: a write of CAM_CTRL stores its fields and acts on them. -/
theorem writeReg_camCtrl (q : Requester) (p : Nat) (v : Word) : s.writeReg q .CAM_CTRL p v =
    (s.wr .CAM_CTRL p (writeWord Reg.CAM_CTRL.info.fields false (s.rd .CAM_CTRL p) v)).camCtrl p v := by
  change s.writeSingle .CAM_CTRL p v = _
  unfold State.writeSingle
  rw [camCtrl_unlocked]
  rfl

/-- REFOUT_EN takes the value written. -/
theorem refOut_writeWord (old v : Word) :
    F.CAM_CTRL_REFOUT_EN.get (writeWord Reg.CAM_CTRL.info.fields false old v) = F.CAM_CTRL_REFOUT_EN.get v := by
  rw [Fld.get_one rfl, Fld.get_one rfl]
  change ((((old &&& ~~~7) ||| (v &&& 7)) &&& ~~~(0 &&& v) : Word).getLsbD 1).toNat = (v.getLsbD 1).toNat
  simp

theorem writeReg_camCtrl_refOut (q : Requester) (p : Nat) {v : Word} (hv : F.CAM_CTRL_REFOUT_EN.get v = 0)
    (hc : s.canonical = true) : (s.writeReg q .CAM_CTRL p v).camRefOut p = false := by
  have hbit : (s.writeReg q .CAM_CTRL p v).bit F.CAM_CTRL_REFOUT_EN p = false := by
    rw [writeReg_camCtrl, (camCtrl_keeps (M := allBut (footOf [.reg .CAM_CTRL])) ((Sub.rfl _).mono (by decide +kernel))
      (Keeps.rfl _ _)).bit (canonical_wr _ _ _ hc) _ _ (by decide +kernel)]
    refine bne_eq_false_iff_eq.2 ((congrArg F.CAM_CTRL_REFOUT_EN.get (rd_wr_same _ _ _ hc)).trans ?_)
    rw [refOut_writeWord, hv]
  unfold State.camRefOut
  rw [hbit, Bool.and_false]
  rfl

/-- Settles O29: the scrambler's register is the descrambler's, a type decides whether a control block is invalid, and RESET_N
and CAM_CTRL end what a camera port puts out. -/
theorem pinsAndCoding : Obligations.PinsAndCoding := by
  unfold Obligations.PinsAndCoding
  refine ⟨descramble_scramble, length_scramble, fun w => ⟨rfl, rfl, rfl⟩, fun typ fields h => blockInvalid_camera fields h,
    by decide, ?reset, ?refOut⟩
  case reset =>
    intro s x hc hx
    obtain ⟨hn, hp⟩ := resetLow_outputs hc
    exact ⟨s.resetLow, congrArg _ (if_neg (by simp [hx])), hn, fun p _ => hp p⟩
  case refOut =>
    intro s q addr v p hc ha hr hv
    refine ⟨s.busWrite q addr v, rfl, ?_⟩
    rw [busWrite_reg ha hr]
    exact writeReg_camCtrl_refOut q p hv hc

end Sys2Proof.Machine
end

section
/-! PROOFS. Camera ports: their states and faults, the back-channel and the descriptor (spec/03 R73, R83, R91, R93, R101). -/

namespace Sys2Proof.Machine

variable {s : State} {p : Nat}

/-! ### Rules of the ports' storage -/

theorem rd_raise_other (f : Fld) (i : Nat) (r : Reg) (j : Nat) (hf : fireMask.testBit r.part = false)
    (hr : r.part ≠ f.reg.part) (hc : s.canonical = true) : (s.raise f i).rd r j = s.rd r j :=
  (rd_raise f i r j hf hc).trans (rd_put_ne f i 1 r j hr hc)

/-- A loop whose rounds leave a state as it is leaves it as it is. -/
theorem forBelow_fixed {f : Nat → State → State} (n : Nat) (h : ∀ i, f i s = s) : forBelow n f s = s := by
  unfold forBelow
  induction List.range n with
  | nil => rfl
  | cons i r ih => rw [List.foldl_cons, h i, ih]

theorem setCamPort_setCamPort (x y : CamPort) : (s.setCamPort p x).setCamPort p y = s.setCamPort p y := by
  unfold State.setCamPort
  rw [List.set_set]

/-- What a change of a port leaves of that port, it leaves of every port. -/
theorem camPort_setCamPort_keeps {β : Type} (g : CamPort → β) {x : CamPort} (hx : g x = g (s.camPort p)) (q : Nat) :
    g ((s.setCamPort p x).camPort q) = g (s.camPort q) := by
  rw [camPort_setCamPort]
  split
  · next h => rw [hx, h.1]
  · rfl

/-- A change of a port changes the ports and nothing else. -/
theorem changesOnly_setCamPort (x : CamPort) : ChangesOnly [.cam] s (s.setCamPort p x) := by
  refine ⟨rfl, fun q hq => ?_⟩
  cases q with
  | cam => exact absurd (List.mem_cons_self ..) hq
  | work => exact Part.same_rfl .work s
  | tables => exact Part.same_rfl .tables s
  | dram => exact Part.same_rfl .dram s
  | reg r => exact Part.same_rfl (.reg r) s
  | _ => rfl

/-! ### States (R101) -/

theorem camSt_putCamSt {st : Nat} (hst : st < 8) (hc : s.canonical = true) : (s.putCamSt p st).camSt p = st :=
  (fld_put_same _ _ _ (by decide) hc).trans (Nat.mod_eq_of_lt hst)

theorem camSt_camAlign (hc : s.canonical = true) : (s.camAlign p).camSt p = 1 := by
  unfold State.camAlign
  extract_lets +onlyGivenNames u c
  have ku : Keeps (allBut 0) s u :=
    keeps_forBelow (fun _ _ h => setLane_keeps ((Sub.rfl _).mono (by decide +kernel)) h) (Keeps.rfl _ s)
  exact camSt_putCamSt (by decide) (s := u.setCamPort p _) (ku.canonical hc)

/-- R101: a retry takes the port to ALIGN and is counted. -/
theorem camRetry_aligns (hst : s.camSt p = 5) (hen : s.bit F.CAM_CTRL_EN p = true) (hsb : s.mode ≠ .standby)
    (hdk : s.mode ≠ .dark) (hc : s.canonical = true) :
    (s.camRetry p).camSt p = 1 ∧ Counted s (s.camRetry p) .CAM_RETRY_CNT p := by
  have hu := canonical_count .CAM_RETRY_CNT p 1 hc
  have he : s.camRetry p = (s.count .CAM_RETRY_CNT p).camAlign p := if_pos (by simp [hst, hen, hsb, hdk])
  rw [he]
  refine ⟨camSt_camAlign hu, ?_⟩
  unfold Counted
  rw [(camAlign_keeps (M := allBut (footOf [.reg .CAM_RETRY_CNT])) ((Sub.rfl _).mono (by decide +kernel))
    (Keeps.rfl _ _)).rd hu _ _ (by decide +kernel)]
  exact rd_count_same _ _ _ hc

theorem camRetry_idle (h : s.camSt p ≠ 5) : s.camRetry p = s := if_neg (by simp [h])

/-! ### Faults (R102, R536) -/

/-- The parts that the callboard, the prompt book and a HEALTH record of a fault leave alone. -/
def faultKept : List Part :=
  [.cam, .lne, .wire, .reg .CAM_STATUS, .reg .CAM_EVENT, .reg .LNE_STATE, .reg .FAB_PSTAT, .reg .FAB_DOWN_CNT]

theorem fault_keepsPort (c : FaultClass) (unit detail arg : Nat) :
    Keeps (allBut (footOf faultKept)) s (s.fault c unit detail arg) :=
  fault_keeps ((Sub.rfl _).mono (by decide +kernel)) (Keeps.rfl _ s)

/-- R101, R102: what a fault leaves: the port's state and class, FAULT and the class's event. -/
theorem portFault_leaves (c : FaultClass) (detail : Nat) {ev : Fld} (h0 : s.camSt p ≠ 0) (h5 : s.camSt p ≠ 5)
    (hr : ev.reg = .CAM_EVENT) (hw : ev.lo + ev.width ≤ 32) (h1 : ev.width = 1)
    (ha : ev.apart F.CAM_EVENT_FAULT = true) (hc : s.canonical = true) :
    (s.portFault p c detail ev).camSt p = 5 ∧ (s.portFault p c detail ev).fld F.CAM_STATUS_FCLASS p = c.code ∧
      (s.portFault p c detail ev).fld F.CAM_EVENT_FAULT p = 1 ∧ (s.portFault p c detail ev).fld ev p = 1 := by
  have hcode : c.code % 2 ^ 8 = c.code := by cases c <;> rfl
  have hapart : ev.apart F.CAM_STATUS_STATE = true ∧ ev.apart F.CAM_STATUS_FCLASS = true := by
    unfold Fld.apart
    rw [hr]
    exact ⟨rfl, rfl⟩
  have hfire : fireMask.testBit ev.reg.part = false := by rw [hr]; rfl
  unfold State.portFault
  extract_lets +onlyGivenNames st first u x v w y
  have ku : Keeps (allBut 0) s u := prehEnd_keeps ((Sub.rfl _).mono (by decide +kernel))
    (keeps_ite (camRunLost_keeps ((Sub.rfl _).mono (by decide +kernel)) (Keeps.rfl _ s)) (Keeps.rfl _ s))
  have hv : v.canonical = true := ku.canonical hc
  have hst := canonical_put F.CAM_STATUS_STATE p 5 hv
  have hw' : w.canonical = true := canonical_put _ _ _ hst
  have hfault := canonical_raise F.CAM_EVENT_FAULT p hw'
  have hy : y.canonical = true := canonical_raise _ _ hfault
  have k : Keeps (allBut (footOf faultKept)) y (y.bookCross.fault c p detail (if st == 4 then first.toNat else 0)) :=
    (bookCross_keeps ((Sub.rfl _).mono (by decide +kernel)) (Keeps.rfl _ y)).trans (fault_keepsPort _ _ _ _)
  rw [if_neg (by simp [st, h0, h5])]
  have hraised (f : Fld) (hf : fireMask.testBit f.reg.part = false) (he : ev.apart f = true)
      (hp : F.CAM_EVENT_FAULT.apart f = true) : y.fld f p = w.fld f p :=
    (fld_raise_apart _ _ _ _ hf he hfault).trans (fld_raise_apart _ _ _ _ hf hp hw')
  refine ⟨?_, ?_, ?_, ?_⟩
  · refine (k.fld hy _ _ (by decide +kernel)).trans ((hraised _ rfl hapart.1 rfl).trans ?_)
    exact (fld_put_apart _ _ _ _ _ rfl hst).trans (camSt_putCamSt (by decide) hv)
  · refine (k.fld hy _ _ (by decide +kernel)).trans ((hraised _ rfl hapart.2 rfl).trans ?_)
    exact (fld_put_same _ _ _ (by decide) hst).trans hcode
  · refine (k.fld hy _ _ (by decide +kernel)).trans ((fld_raise_apart _ _ _ _ rfl ha hfault).trans ?_)
    exact fld_raise_same _ _ rfl (by decide) rfl hw'
  · refine (k.fld hy _ _ (by rw [hr]; decide +kernel)).trans ?_
    exact fld_raise_same _ _ hfire hw h1 hfault

/-- R73, R76: the loss of a lane faults its port with class LINK. -/
theorem camLaneLost_leaves (h0 : s.camSt p ≠ 0) (h5 : s.camSt p ≠ 5) (hc : s.canonical = true) :
    (s.camLaneLost p).camSt p = 5 ∧ (s.camLaneLost p).fld F.CAM_STATUS_FCLASS p = 1 ∧
      (s.camLaneLost p).fld F.CAM_EVENT_FAULT p = 1 ∧ (s.camLaneLost p).fld F.CAM_EVENT_LOCK_LOST p = 1 :=
  portFault_leaves .link _ h0 h5 rfl (by decide) rfl rfl hc

/-! ### The back-channel (R83) -/

/-- A slot that a cue takes, or for which nothing waits, sends no block of the queue. -/
theorem backSend_idle (h : (s.camPort p).cueQ ≠ [] ∨ (s.camPort p).backQ = []) : s.backSend p = s := by
  unfold State.backSend
  dsimp only
  split
  · next hq hb =>
    rw [hq, hb] at h
    simp at h
  · rfl

theorem backDrain_idle (h : (s.camPort p).cueQ ≠ [] ∨ (s.camPort p).backQ = []) :
    s.backDrain p = s.setCamPort p { s.camPort p with slotAt := s.clk } := by
  have hcue := camPort_setCamPort_keeps CamPort.cueQ (x := { s.camPort p with slotAt := s.clk }) rfl p
  have hback := camPort_setCamPort_keeps CamPort.backQ (x := { s.camPort p with slotAt := s.clk }) rfl p
  rw [← hcue, ← hback] at h
  exact forBelow_fixed _ fun _ => backSend_idle h

/-- R83, R91: with nothing before it, the request for the descriptor leaves at once. -/
theorem descRequest_wire (h : (s.camPort p).backQ = []) :
    (s.descRequest p).wire = s.wire ++ [.camBlock p 0xAA 0] := by
  unfold State.descRequest
  extract_lets +onlyGivenNames u c v
  have hu : u = s.setCamPort p { s.camPort p with slotAt := s.clk } := backDrain_idle (.inr h)
  have hq : c.backQ = [] := by
    subst c
    rw [hu]
    exact (camPort_setCamPort_keeps CamPort.backQ (x := { s.camPort p with slotAt := s.clk }) rfl p).trans h
  have hw : u.wire = s.wire := by rw [hu]; rfl
  rw [if_pos (by rw [hq]; rfl), ← hw]
  rfl

/-- R91, R101: a port goes to DESC and asks for the descriptor. -/
theorem camToDesc_leaves (hc : s.canonical = true) : (s.camToDesc p).camSt p = 2 ∧
    ChangesOnly [.cam, .wire, .reg .CAM_STATUS] s (s.camToDesc p) ∧
    ((s.camPort p).backQ = [] → (s.camToDesc p).wire = s.wire ++ [.camBlock p 0xAA 0]) := by
  refine ⟨?_, (camToDesc_keeps ((Sub.rfl _).mono (by decide +kernel)) (Keeps.rfl _ s)).onlyFoot hc, fun hq => ?_⟩
  · unfold State.camToDesc
    extract_lets c
    refine ((descRequest_keeps (M := allBut (footOf [.reg .CAM_STATUS])) ((Sub.rfl _).mono (by decide +kernel))
      (Keeps.rfl _ _)).fld (canonical_put _ _ _ ?_) _ _ (by decide +kernel)).trans (camSt_putCamSt (by decide) ?_)
    · exact hc
    · exact hc
  · refine descRequest_wire (s := (s.setCamPort p { s.camPort p with attempts := 0 }).putCamSt p 2) ?_
    exact (camPort_setCamPort_keeps CamPort.backQ (x := { s.camPort p with attempts := 0 }) rfl p).trans hq

/-! ### The descriptor (R91) -/

/-- R91: a failed attempt is counted; before the third another request leaves, the third faults the port. -/
theorem descFail_leaves (hst : s.camSt p = 2) (hc : s.canonical = true) :
    Counted s (s.descFail p) .CAM_DESC_ERR_CNT p ∧
    ((s.camPort p).attempts + 1 < 3 → (s.camPort p).backQ = [] →
      (s.descFail p).camSt p = 2 ∧ (s.descFail p).wire = s.wire ++ [.camBlock p 0xAA 0]) ∧
    (3 ≤ (s.camPort p).attempts + 1 → (s.descFail p).camSt p = 5 ∧
      (s.descFail p).fld F.CAM_STATUS_FCLASS p = 8 ∧ (s.descFail p).fld F.CAM_EVENT_DESC_ERR p = 1) := by
  unfold State.descFail
  extract_lets +onlyGivenNames t c u
  have hu : u.canonical = true := canonical_count .CAM_DESC_ERR_CNT p 1 hc
  have hcnt : Counted s u .CAM_DESC_ERR_CNT p := rd_count_same _ _ _ hc
  have hust : u.camSt p = 2 := (fld_count _ _ _ _ _ (by decide) hc).trans hst
  have hback : (u.camPort p).backQ = (s.camPort p).backQ :=
    camPort_setCamPort_keeps (s := t) CamPort.backQ (x := { c with attempts := c.attempts + 1 }) rfl p
  have hwire : u.wire = s.wire := rfl
  clear_value u
  by_cases h3 : 3 ≤ (s.camPort p).attempts + 1
  · rw [if_pos (show 3 ≤ c.attempts + 1 from h3)]
    obtain ⟨h5, hclass, -, hev⟩ := portFault_leaves (s := u) (p := p) (ev := F.CAM_EVENT_DESC_ERR) .camera 1
      (by rw [hust]; decide) (by rw [hust]; decide) rfl (by decide) rfl rfl hu
    refine ⟨?_, fun hlt => absurd h3 (Nat.not_le.2 hlt), fun _ => ⟨h5, hclass, hev⟩⟩
    unfold Counted at hcnt ⊢
    rw [← hcnt]
    exact (portFault_keeps (M := allBut (footOf [.reg .CAM_DESC_ERR_CNT])) ((Sub.rfl _).mono (by decide +kernel))
      (by decide +kernel) (Keeps.rfl _ u)).rd hu _ _ (by decide +kernel)
  · rw [if_neg (show ¬ 3 ≤ c.attempts + 1 from h3)]
    have k : Keeps (allBut (footOf [.reg .CAM_STATUS, .reg .CAM_DESC_ERR_CNT])) u (u.descRequest p) :=
      descRequest_keeps ((Sub.rfl _).mono (by decide +kernel)) (Keeps.rfl _ u)
    refine ⟨?_, fun _ hq => ⟨?_, ?_⟩, fun hge => absurd hge h3⟩
    · unfold Counted at hcnt ⊢
      rw [← hcnt]
      exact k.rd hu _ _ (by decide +kernel)
    · exact (k.fld hu _ _ (by decide +kernel)).trans hust
    · rw [← hwire]
      exact descRequest_wire (hback.trans hq)

/-- R91: the block of the descriptor that comes next joins the answer. -/
theorem descBlock_next {payload : Nat} (hst : s.camSt p = 2) (hn : (s.camPort p).descNext < 6) :
    s.descBlock p (s.camPort p).descNext payload = s.setCamPort p { s.camPort p with
      descNext := (s.camPort p).descNext + 1
      desc := (s.camPort p).desc ++ [payload % 2 ^ 48] } := by
  have hopen : ((s.camPort p).descNext != 0 || (s.camPort p).descNext == 0) = true := by
    cases (s.camPort p).descNext <;> rfl
  have h6 : ((s.camPort p).descNext == 6) = false := beq_false_of_ne (Nat.ne_of_lt hn)
  unfold State.descBlock
  dsimp only
  rw [if_pos (by simp [hst, hopen]), if_pos (beq_self_eq_true _), if_neg (by simp [h6])]

/-- R91: another block than the next one ends the attempt. -/
theorem descBlock_wrong {idx payload : Nat} (hst : s.camSt p = 2) (h0 : (s.camPort p).descNext ≠ 0)
    (hne : idx ≠ (s.camPort p).descNext) : s.descBlock p idx payload = s.descFail p := by
  unfold State.descBlock
  dsimp only
  rw [if_pos (by simp [hst, h0]), if_neg (by simp [hne])]

/-! ### Temperatures (R93) -/

/-- R93: both temperatures of a port go stale and stand as they were. -/
theorem tempStale_leaves (hc : s.canonical = true) {t : State}
    (ht : t = (s.put F.CAM_TEMP_VALID0 p 0).put F.CAM_TEMP_VALID1 p 0) :
    t.fld F.CAM_TEMP_VALID0 p = 0 ∧ t.fld F.CAM_TEMP_VALID1 p = 0 ∧ ChangesOnly [.reg .CAM_TEMP] s t ∧
      t.fld F.CAM_TEMP_TEMP0 p = s.fld F.CAM_TEMP_TEMP0 p := by
  subst ht
  have h1 := canonical_put F.CAM_TEMP_VALID0 p 0 hc
  refine ⟨?_, fld_put_same _ _ _ (by decide) h1,
    (put_keeps (reg_foot (by decide)) (put_keeps (reg_foot (by decide)) (Keeps.rfl _ s))).onlyFoot hc, ?_⟩
  · rw [fld_put_apart _ _ _ _ _ rfl h1]
    exact fld_put_same _ _ _ (by decide) hc
  · rw [fld_put_apart _ _ _ _ _ rfl h1, fld_put_apart _ _ _ _ _ rfl hc]

/-! ### The commands -/

/-- Settles O22: each command of the bring-up acts in the one state of the port that it is for, and leaves the others alone. -/
theorem cameraPorts : Obligations.CameraPorts := by
  unfold Obligations.CameraPorts
  refine ⟨?enable, ?off, ?retry, ?noFault, ?noAuto, ?search, ?timeout, ?noAlign, ?deskewed, ?block, ?wrong, ?late, ?noDesc,
    ?stale⟩
  case enable =>
    intro s p hc hm hcur hen hst
    have he : s.camEnable p = s.camAlign p := if_pos (by simp [hm, hcur, hen, hst])
    refine ⟨s.camAlign p, congrArg Host.Outcome.next he, camSt_camAlign hc, ?_⟩
    exact (camAlign_keeps ((Sub.rfl _).mono (by decide +kernel)) (Keeps.rfl _ s)).onlyFoot hc
  case off =>
    intro s p h
    refine ⟨s, congrArg Host.Outcome.next (if_neg ?_), rfl⟩
    rcases h with h | h <;> simp [h]
  case retry =>
    intro s p hc hst hen hsb hdk
    have hr := camRetry_aligns hst hen hsb hdk hc
    exact ⟨⟨s.camRetry p, rfl, hr⟩, fun hauto => ⟨s.camRetry p, congrArg Host.Outcome.next (if_pos hauto), hr⟩⟩
  case noFault =>
    intro s p h
    refine ⟨⟨s, congrArg Host.Outcome.next (camRetry_idle h), rfl⟩, ⟨s, congrArg Host.Outcome.next ?_, rfl⟩⟩
    split
    · exact camRetry_idle h
    · rfl
  case noAuto =>
    intro s p h
    exact ⟨s, congrArg Host.Outcome.next (if_neg (by simp [h])), rfl⟩
  case search =>
    intro s l hc hst hok
    obtain ⟨h5, hclass, hfault, hlost⟩ := camLaneLost_leaves (by rw [hst]; decide) (by rw [hst]; decide) hc
    exact ⟨s.camLaneLost (l.val / 4), congrArg Host.Outcome.next (if_pos (by simp [hst, hok])), h5, hclass, hlost, hfault⟩
  case timeout =>
    intro s p hc hst hl
    obtain ⟨h5, hclass, -, hlost⟩ := camLaneLost_leaves (by rw [hst]; decide) (by rw [hst]; decide) hc
    exact ⟨s.camLaneLost p, congrArg Host.Outcome.next (if_pos (by rw [hst, hl]; rfl)), h5, hclass, hlost⟩
  case noAlign =>
    intro s p h
    exact ⟨⟨s, congrArg Host.Outcome.next (if_neg (by simp [h])), rfl⟩,
      ⟨s, congrArg Host.Outcome.next (if_neg (by simp [h])), rfl⟩⟩
  case deskewed =>
    intro s p hc hst hq
    exact ⟨s.camToDesc p, congrArg Host.Outcome.next (if_pos (by simp [hst, hq])), camToDesc_leaves hc⟩
  case block =>
    intro s p payload hst hn
    exact ⟨_, congrArg Host.Outcome.next (descBlock_next hst hn), rfl, changesOnly_setCamPort _⟩
  case wrong =>
    intro s p idx payload hc hst h0 hne hatt hq
    obtain ⟨hcnt, hagain, -⟩ := descFail_leaves hst hc
    exact ⟨s.descFail p, congrArg Host.Outcome.next (descBlock_wrong hst h0 hne), hcnt, hagain hatt hq⟩
  case late =>
    intro s p hc hst
    obtain ⟨hcnt, hagain, hthird⟩ := descFail_leaves hst hc
    have he : exec (.descriptorTimeout p) s = .next (s.descFail p) := congrArg Host.Outcome.next (if_pos (by simp [hst]))
    exact ⟨fun hatt hq => ⟨_, he, hcnt, hagain hatt hq⟩, fun hatt => ⟨_, he, hcnt, hthird hatt⟩⟩
  case noDesc =>
    intro s p h
    exact ⟨s, congrArg Host.Outcome.next (if_neg (by simp [h])), rfl⟩
  case stale =>
    intro s p hc
    exact ⟨_, rfl, tempStale_leaves hc rfl⟩

end Sys2Proof.Machine
end

section
/-! PROOFS. Blocks on the serial lanes: keepalives and wakes, block lock, invalid blocks and markers, and what the loss of a lane
does to its port (spec/03 R74, R76; spec/13 R400, R401; spec/15 R453, R459). -/

namespace Sys2Proof.Machine

variable {s : State} {l : Nat}

/-! ### Rules -/

/-- What holds before a loop and is kept by every round holds after it. -/
theorem forBelow_induct {P : State → Prop} {f : Nat → State → State} (n : Nat) (h0 : P s) (hf : ∀ i t, P t → P (f i t)) :
    P (forBelow n f s) := by
  unfold forBelow
  generalize List.range n = r
  induction r generalizing s with
  | nil => exact h0
  | cons i r ih => exact ih (hf i s h0)

theorem forBelow_succ (n : Nat) (f : Nat → State → State) : forBelow (n + 1) f s = f n (forBelow n f s) := by
  unfold forBelow
  rw [List.range_succ, List.foldl_append]
  rfl

/-- A field of one bit that is set reads 1. -/
theorem fld_of_bit {f : Fld} {i : Nat} (h1 : f.width = 1) (h : s.bit f i = true) : s.fld f i = 1 := by
  have hne : s.fld f i ≠ 0 := bne_iff_ne.1 h
  have hle : s.fld f i ≤ 1 := by
    unfold State.fld
    rw [Fld.get_one h1]
    exact Bool.toNat_le _
  omega

/-! ### Keepalives and wakes (R401, R402, R508) -/

/-- R401, R402: a partner whose KEEP blocks stay away loses its sign, and the lane is named as the last one lost. -/
theorem keepaliveLost_leaves (hl : s.laneSt l = .low) (hc : s.canonical = true) {t : State}
    (ht : t = (((s.put F.LNE_STATE_KA l 0).raise F.LNE_EVENT_KA_LOST).put F.LNE_LAST_LANE 0 l).put F.LNE_LAST_CAUSE 0
      LaneCause.ka.code) :
    t.fld F.LNE_STATE_KA l = 0 ∧ t.fld F.LNE_EVENT_KA_LOST = 1 ∧ t.laneSt l = .low ∧
      ChangesOnly (eventParts ++ [.reg .LNE_STATE, .reg .LNE_EVENT, .reg .LNE_LAST]) s t := by
  subst ht
  have h1 := canonical_put F.LNE_STATE_KA l 0 hc
  have h2 := canonical_raise F.LNE_EVENT_KA_LOST 0 h1
  have h3 := canonical_put F.LNE_LAST_LANE 0 l h2
  have hlast (f : Fld) (i : Nat) (hf : F.LNE_LAST_LANE.apart f = true) (hg : F.LNE_LAST_CAUSE.apart f = true) :
      ((((s.put F.LNE_STATE_KA l 0).raise F.LNE_EVENT_KA_LOST).put F.LNE_LAST_LANE 0 l).put F.LNE_LAST_CAUSE 0
        LaneCause.ka.code).fld f i = ((s.put F.LNE_STATE_KA l 0).raise F.LNE_EVENT_KA_LOST).fld f i :=
    (fld_put_apart _ _ _ _ _ hg h3).trans (fld_put_apart _ _ _ _ _ hf h2)
  refine ⟨?_, ?_, ?_, ?_⟩
  · rw [hlast _ _ rfl rfl, fld_raise_apart _ _ _ _ rfl rfl h1]
    exact fld_put_same _ _ _ (by decide) hc
  · rw [hlast _ _ rfl rfl, fld_raise_same _ _ rfl (by decide) rfl h1]
  · rw [← hl]
    unfold State.laneSt
    rw [hlast _ _ rfl rfl, fld_raise_apart _ _ _ _ rfl rfl h1, fld_put_apart _ _ _ _ _ rfl hc]
  · exact (put_keeps (by decide +kernel) (put_keeps (by decide +kernel) (raise_keeps ((Sub.rfl _).mono (by decide +kernel))
      (by decide +kernel) (put_keeps (by decide +kernel) (Keeps.rfl _ s))))).onlyFoot hc

/-- R508: a wake starts the transition to HOLD and sets VERIFY. -/
theorem wakeStart_leaves (hc : s.canonical = true) :
    s.wakeStart.glb.trans = some .wakeUp ∧ s.wakeStart.fld F.GLB_STATUS_VERIFY = 1 := by
  have hst : (s.startTrans .wakeUp).canonical = true := canonical_put _ _ _ hc
  unfold State.wakeStart
  extract_lets +onlyGivenNames u v w x g y z
  have kv : Keeps (allBut (footOf [.glbTrans])) (s.startTrans .wakeUp) v :=
    memWake_keeps ((Sub.rfl _).mono (by decide +kernel)) (posWake_keeps ((Sub.rfl _).mono (by decide +kernel))
      (sendWakes_keeps ((Sub.rfl _).mono (by decide +kernel)) (emit_keeps ((Sub.rfl _).mono (by decide +kernel))
        (Keeps.rfl _ _))))
  have hv : v.canonical = true := kv.canonical hst
  have h1 := canonical_put F.GLB_STATUS_VERIFY 0 1 hv
  have hw : w.canonical = true := canonical_put F.GLB_STATUS_VFAIL_REG 0 0 h1
  have h2 := canonical_put F.GLB_STATUS_VFAIL_POS 0 0 hw
  have hx : x.canonical = true := canonical_put F.GLB_STATUS_VFAIL_TIME 0 0 h2
  have ky : Keeps (allBut (footOf [.glbTrans, .reg .GLB_STATUS])) x y :=
    upd_glb_cam_keeps ((Sub.rfl _).mono (by decide +kernel)) (.inr rfl) (.inr rfl) (.inr rfl) (Keeps.rfl _ x)
  have kz : Keeps (allBut (footOf [.glbTrans, .reg .GLB_STATUS])) x (forBelow 16 (fun p t => t.camEnable p) z).fabWake :=
    fabWake_keeps ((Sub.rfl _).mono (by decide +kernel)) (keeps_forBelow
      (fun _ _ h => camEnable_keeps ((Sub.rfl _).mono (by decide +kernel)) h)
      (lanesFromStandby_keeps ((Sub.rfl _).mono (by decide +kernel)) ky))
  refine ⟨?_, ?_⟩
  · exact (kz.part hx .glbTrans (by decide +kernel)).trans (kv.part hst .glbTrans (by decide +kernel))
  · refine (kz.fld hx _ _ (by decide +kernel)).trans ?_
    exact (fld_put_apart _ _ _ _ _ rfl h2).trans <| (fld_put_apart _ _ _ _ _ rfl hw).trans <|
      (fld_put_apart _ _ _ _ _ rfl h1).trans (fld_put_same _ _ _ (by decide) hv)

/-- R401, R508: a WAKE block raises its event, and wakes the device in STANDBY when lanes may. -/
theorem wakeBlock_leaves (hc : s.canonical = true) :
    ((s.raise F.LNE_EVENT_WAKE).wakeBy .lane).fld F.LNE_EVENT_WAKE = 1 ∧
      (if s.mode = .standby ∧ s.glb.trans = none ∧ s.bit F.GLB_WAKE_CFG_LANE = true
        then ((s.raise F.LNE_EVENT_WAKE).wakeBy .lane).glb.trans = some .wakeUp ∧
          ((s.raise F.LNE_EVENT_WAKE).wakeBy .lane).fld F.GLB_STATUS_VERIFY = 1
        else ChangesOnly (eventParts ++ [.reg .LNE_EVENT]) s ((s.raise F.LNE_EVENT_WAKE).wakeBy .lane)) := by
  have honly : ChangesOnly (eventParts ++ [.reg .LNE_EVENT]) s (s.raise F.LNE_EVENT_WAKE) :=
    (raise_keeps ((Sub.rfl _).mono (by decide +kernel)) (by decide +kernel) (Keeps.rfl _ s)).onlyFoot hc
  have hset := fld_raise_same F.LNE_EVENT_WAKE 0 rfl (by decide) rfl hc
  have hmode : (s.raise F.LNE_EVENT_WAKE).mode = s.mode := mode_eq (fld_raise_apart _ _ _ _ rfl rfl hc)
  have hglb : (s.raise F.LNE_EVENT_WAKE).glb = s.glb := raise_part F.LNE_EVENT_WAKE 0 .glb rfl hc
  have hen : (s.raise F.LNE_EVENT_WAKE).wakeEnabled .lane = s.bit F.GLB_WAKE_CFG_LANE :=
    bit_raise_apart _ _ _ _ rfl rfl hc
  have hu := canonical_raise F.LNE_EVENT_WAKE 0 hc
  unfold State.wakeBy
  rw [hmode, hglb, hen]
  split
  · next hw =>
    have hwake : s.mode = .standby ∧ s.glb.trans = none ∧ s.bit F.GLB_WAKE_CFG_LANE = true := by
      simpa [and_assoc] using hw
    rw [if_pos hwake]
    refine ⟨?_, wakeStart_leaves hu⟩
    rw [← hset]
    exact (wakeStart_keeps (M := allBut (footOf [.reg .LNE_EVENT])) ((Sub.rfl _).mono (by decide +kernel))
      (Keeps.rfl _ _)).fld hu _ _ (by decide +kernel)
  · next hw =>
    rw [if_neg (by simpa [and_assoc] using hw)]
    exact ⟨hset, honly⟩

/-! ### Block lock (R400) -/

theorem blockLock_leaves (hc : s.canonical = true) {t : State}
    (ht : t = (s.put F.LNE_STATE_HDR_RUN l 64).put F.LNE_STATE_HDR_OK l 1) :
    t.fld F.LNE_STATE_HDR_RUN l = 64 ∧ t.fld F.LNE_STATE_HDR_OK l = 1 ∧ ChangesOnly [.reg .LNE_STATE] s t := by
  subst ht
  have h1 := canonical_put F.LNE_STATE_HDR_RUN l 64 hc
  refine ⟨?_, fld_put_same _ _ _ (by decide) h1,
    (put_keeps (reg_foot (by decide)) (put_keeps (reg_foot (by decide)) (Keeps.rfl _ s))).onlyFoot hc⟩
  rw [fld_put_apart _ _ _ _ _ rfl h1]
  exact fld_put_same _ _ _ (by decide) hc

/-! ### The loss of a fabric port's lane (R453, R459) -/

/-- Every part but the registers of the lanes and of the fabric ports. -/
def offPorts : Nat := allBut (footOf [.reg .LNE_STATE, .reg .FAB_PSTAT, .reg .FAB_DOWN_CNT])

theorem fabSt_eq {t : State} {f : Nat} (h : t.fld F.FAB_PSTAT_STATE f = s.fld F.FAB_PSTAT_STATE f) : t.fabSt f = s.fabSt f := by
  unfold State.fabSt
  rw [h]

/-- R457: a new map tells the ports their place in the tree and leaves their states. -/
theorem recomputeMap_fabSt (f : Nat) (hc : s.canonical = true) :
    s.recomputeMap.canonical = true ∧ s.recomputeMap.fabSt f = s.fabSt f := by
  unfold State.recomputeMap
  extract_lets +onlyGivenNames own t links root parent port fab u v n w
  have ku : Keeps offPorts s u := upd_fab_keeps ((Sub.rfl _).mono (by decide +kernel))
    (writeRoutes_keeps ((Sub.rfl _).mono (by decide +kernel)) (Keeps.rfl _ s))
  have hv : v.canonical = true ∧ v.fabSt f = u.fabSt f := by
    refine forBelow_induct (P := fun x => x.canonical = true ∧ x.fabSt f = u.fabSt f) 6 ⟨ku.canonical hc, rfl⟩ ?_
    rintro i x ⟨hx, he⟩
    have h1 := canonical_putB F.FAB_PSTAT_PARENT i (port == some i) hx
    exact ⟨canonical_putB _ _ _ h1, (fabSt_eq ((fld_put_apart _ _ _ _ _ rfl h1).trans
      (fld_put_apart _ _ _ _ _ rfl hx))).trans he⟩
  have kw : Keeps offPorts v w.updateSink.topologyCheck := topologyCheck_keeps ((Sub.rfl _).mono (by decide +kernel))
    (updateSink_keeps ((Sub.rfl _).mono (by decide +kernel)) (wr_keeps (by decide +kernel) (Keeps.rfl _ v)))
  refine ⟨kw.canonical hv.1, (fabSt_eq (kw.fld hv.1 _ _ (by decide +kernel))).trans (hv.2.trans ?_)⟩
  exact fabSt_eq (ku.fld hc _ _ (by decide +kernel))

theorem mapChanged_fabSt (f : Nat) (hc : s.canonical = true) : s.mapChanged.fabSt f = s.fabSt f := by
  obtain ⟨hr, he⟩ := recomputeMap_fabSt f hc
  unfold State.mapChanged
  extract_lets +onlyGivenNames old t u lost v
  have ku : Keeps offPorts t u := keeps_ite (raise_keeps ((Sub.rfl _).mono (by decide +kernel)) (by decide +kernel)
    (count_keeps (by decide +kernel) (timReacquire_keeps ((Sub.rfl _).mono (by decide +kernel)) (Keeps.rfl _ t))))
    (Keeps.rfl _ t)
  have kv : Keeps offPorts t v.seamPaths := seamPaths_keeps ((Sub.rfl _).mono (by decide +kernel))
    (keeps_ite (partition_keeps ((Sub.rfl _).mono (by decide +kernel)) ku) ku)
  exact (fabSt_eq (kv.fld hr _ _ (by decide +kernel))).trans he

/-- R457: a link that comes or goes changes the map, and leaves the states of the ports. -/
theorem applyLinkev_fabSt (k : MapLink) (up : Bool) (f : Nat) (hc : s.canonical = true) :
    (s.applyLinkev k up).fabSt f = s.fabSt f := by
  unfold State.applyLinkev
  extract_lets +onlyGivenNames rest links sa sb reports
  split
  · rfl
  · exact mapChanged_fabSt f hc

theorem linkEvent_fabSt (f g : Nat) (up : Bool) (hc : s.canonical = true) : (s.linkEvent f up).fabSt g = s.fabSt g := by
  unfold State.linkEvent
  extract_lets +onlyGivenNames n
  split
  · rfl
  · extract_lets +onlyGivenNames k q t
    have kt : Keeps offPorts s t := flood_keeps ((Sub.rfl _).mono (by decide +kernel))
      (nextFlood_keeps ((Sub.rfl _).mono (by decide +kernel)) (Keeps.rfl _ s))
    exact (applyLinkev_fabSt k up g (kt.canonical hc)).trans (fabSt_eq (kt.fld hc _ _ (by decide +kernel)))

theorem setLane_keepsLane (x : Lane) : Keeps (footOf [.lne]) s (s.setLane l x) :=
  setLane_keeps (sub_foot (p := .lne) (by decide)) (Keeps.rfl _ s)

/-- A lane's record is no register. -/
theorem fld_setLane (f : Fld) (i : Nat) (x : Lane) (hc : s.canonical = true) : (s.setLane l x).fld f i = s.fld f i :=
  (setLane_keepsLane x).fld hc f i
    ((footOf_testBit [.lne] (.reg f.reg)).trans (by simp))

theorem laneLoseBlocks_other {m : Nat} (f : Fld) (h : m ≠ l) (hc : s.canonical = true) :
    (s.laneLoseBlocks l).fld f m = s.fld f m := by
  unfold State.laneLoseBlocks
  extract_lets +onlyGivenNames u v
  have hu : u.canonical = true := canonical_put _ _ _ hc
  have hv : v.canonical = true := canonical_put _ _ _ hu
  refine (fld_setLane f m _ hv).trans ?_
  exact (fld_put_index _ _ _ h hu).trans (fld_put_index _ _ _ h hc)

/-- R393: a lane that retrains goes to ACQ, and the other lanes stay in their states. -/
theorem laneRetrain_laneSt (m : Nat) (hc : s.canonical = true) :
    (s.laneRetrain l .retrain).laneSt m = if m = l then .acq else s.laneSt m := by
  unfold State.laneRetrain
  extract_lets +onlyGivenNames a x b c d u v w z y
  have ka : Keeps (allBut 0) s a := laneLoseBlocks_keeps ((Sub.rfl _).mono (by decide +kernel)) (Keeps.rfl _ s)
  have ha := ka.canonical hc
  have kb : Keeps offPorts a b := setLane_keeps ((Sub.rfl _).mono (by decide +kernel)) (Keeps.rfl _ a)
  have hb := kb.canonical ha
  have hc' : c.canonical = true := canonical_put _ _ _ hb
  have hd : d.canonical = true := canonical_put _ _ _ hc'
  have hu : u.canonical = true := canonical_put _ _ _ hd
  have ky : Keeps offPorts u y := raise_keeps ((Sub.rfl _).mono (by decide +kernel)) (by decide +kernel)
    (put_keeps (by decide +kernel) (put_keeps (by decide +kernel) (count_keeps (by decide +kernel) (Keeps.rfl _ u))))
  change LaneSt.ofCode (y.fld F.LNE_STATE_STATE m) = _
  rw [ky.fld hu _ _ (by decide +kernel)]
  split
  · next h =>
    subst h
    exact congrArg LaneSt.ofCode (fld_put_same _ _ _ (by decide) hd)
  · next h =>
    refine congrArg LaneSt.ofCode ((fld_put_index _ _ _ h hd).trans ?_)
    refine (fld_put_index _ _ _ h hc').trans ((fld_put_index _ _ _ h hb).trans ?_)
    exact (kb.fld ha F.LNE_STATE_STATE m (by decide +kernel)).trans (laneLoseBlocks_other _ h hc)

/-- R453: of the `n` lanes from lane `b` on, those in UP retrain. -/
def State.retrainLanes (s : State) (b n : Nat) : State :=
  forBelow n (fun i t => if t.laneSt (b + i) == .up then t.laneRetrain (b + i) .retrain else t) s

theorem retrainLanes_keeps (b n : Nat) : Keeps (allBut (footOf [.reg .FAB_PSTAT, .reg .FAB_DOWN_CNT])) s (s.retrainLanes b n) :=
  keeps_forBelow (fun _ _ h => keeps_ite (laneRetrain_keeps ((Sub.rfl _).mono (by decide +kernel)) h) h) (Keeps.rfl _ s)

/-- A lane in UP is in ACQ after its turn. -/
theorem retrainLanes_laneSt (b n : Nat) (hb : b ≤ l) (hl : s.laneSt l = .up) (hc : s.canonical = true) :
    (s.retrainLanes b n).laneSt l = if l < b + n then .acq else .up := by
  induction n with
  | zero => rw [if_neg (by omega)]; exact hl
  | succ n ih =>
    have hn := (retrainLanes_keeps (s := s) b n).canonical hc
    unfold State.retrainLanes
    rw [forBelow_succ]
    change State.laneSt (if (s.retrainLanes b n).laneSt (b + n) == .up then
      (s.retrainLanes b n).laneRetrain (b + n) .retrain else s.retrainLanes b n) l = _
    by_cases he : l = b + n
    · subst he
      rw [if_neg (by omega)] at ih
      rw [ih, if_pos (beq_self_eq_true _), laneRetrain_laneSt _ hn, if_pos rfl, if_pos (by omega)]
    · have hsame : State.laneSt (if (s.retrainLanes b n).laneSt (b + n) == .up then
          (s.retrainLanes b n).laneRetrain (b + n) .retrain else s.retrainLanes b n) l = (s.retrainLanes b n).laneSt l := by
        split
        · rw [laneRetrain_laneSt _ hn, if_neg he]
        · rfl
      rw [hsame, ih]
      by_cases hlt : l < b + n
      · rw [if_pos hlt, if_pos (by omega)]
      · rw [if_neg hlt, if_neg (by omega)]

/-- R453: a port in UP that goes down is in LINK, its lanes that were in UP retrain, and the loss is counted. -/
theorem fabPortDown_leaves {f : Nat} (hf : s.fabSt f = .up) (hlo : 64 + 4 * f ≤ l) (hhi : l < 64 + 4 * f + 4)
    (hl : s.laneSt l = .up) (hc : s.canonical = true) : (s.fabPortDown f).fabSt f = .link ∧
      (s.fabPortDown f).laneSt l = .acq ∧ Counted s (s.fabPortDown f) .FAB_DOWN_CNT f := by
  unfold State.fabPortDown
  extract_lets +onlyGivenNames was cause u v w x y
  have hup : (was == .up) = true := beq_iff_eq.2 hf
  have kclear : Keeps offPorts s (s.fabClear f) := fabClear_keeps ((Sub.rfl _).mono (by decide +kernel)) (Keeps.rfl _ s)
  have hclear := kclear.canonical hc
  have hu : u.canonical = true := canonical_put _ _ _ hclear
  have kv : Keeps (allBut (footOf [.reg .FAB_PSTAT, .reg .FAB_DOWN_CNT])) u v := retrainLanes_keeps _ _
  have hv := kv.canonical hu
  have hraise := canonical_raise F.FAB_EVENT_LINK_DOWN 0 hv
  have hw : w.canonical = true := canonical_count _ _ _ hraise
  have kx : Keeps offPorts w x := fault_keeps ((Sub.rfl _).mono (by decide +kernel)) (Keeps.rfl _ w)
  have hx := kx.canonical hw
  have ky : Keeps (allBut (footOf [.reg .LNE_STATE, .reg .FAB_DOWN_CNT])) w y :=
    keeps_ite (linkEvent_keeps ((Sub.rfl _).mono (by decide +kernel)) (fault_keeps ((Sub.rfl _).mono (by decide +kernel))
      (Keeps.rfl _ w))) (fault_keeps ((Sub.rfl _).mono (by decide +kernel)) (Keeps.rfl _ w))
  have ke : Keeps offPorts y y.elect := elect_keeps ((Sub.rfl _).mono (by decide +kernel)) (Keeps.rfl _ y)
  have hy := ky.canonical hw
  rw [if_pos (by rw [hup]; rfl)]
  refine ⟨?_, ?_, ?_⟩
  · have hyx : y.fabSt f = x.fabSt f := by
      subst y
      rw [if_pos hup]
      exact linkEvent_fabSt f f false hx
    have hlink : u.fabSt f = .link := congrArg FabSt.ofCode (fld_put_same _ _ _ (by decide) hclear)
    rw [fabSt_eq (ke.fld hy _ _ (by decide +kernel)), hyx, fabSt_eq (kx.fld hw _ _ (by decide +kernel)), ← hlink]
    exact (fabSt_eq ((fld_count _ _ _ _ _ (by decide) hraise).trans (fld_raise_apart _ _ _ _ rfl rfl hv))).trans
      (fabSt_eq (kv.fld hu _ _ (by decide +kernel)))
  · have hul : u.laneSt l = .up := by
      rw [← hl]
      exact congrArg LaneSt.ofCode ((fld_put_apart _ _ _ _ _ rfl hclear).trans (kclear.fld hc _ _ (by decide +kernel)))
    have hvl : v.laneSt l = .acq := (retrainLanes_laneSt (64 + 4 * f) 4 hlo hul hu).trans (if_pos hhi)
    rw [← hvl]
    refine congrArg LaneSt.ofCode ((ke.fld hy _ _ (by decide +kernel)).trans ((ky.fld hw _ _ (by decide +kernel)).trans ?_))
    exact (fld_count _ _ _ _ _ (by decide) hraise).trans (fld_raise_apart _ _ _ _ rfl rfl hv)
  · have hcount : (v.raise F.FAB_EVENT_LINK_DOWN).rd .FAB_DOWN_CNT f = s.rd .FAB_DOWN_CNT f := by
      rw [rd_raise_other _ _ _ _ rfl (by decide) hv, kv.rd hu _ _ (by decide +kernel)]
      exact (rd_put_ne _ _ _ _ _ (by decide) hclear).trans (kclear.rd hc _ _ (by decide +kernel))
    unfold Counted
    rw [ke.rd hy _ _ (by decide +kernel), ky.rd hw _ _ (by decide +kernel), ← hcount]
    exact rd_count_same _ _ _ hraise

/-! ### Invalid blocks (R76, R400) -/

/-- R400: an invalid block after `since` valid ones is counted, and the run of valid headers goes on or starts anew. -/
def State.blockNoted (s : State) (l since : Nat) (hdr : BitVec 2) : State :=
  (if s.laneSt l == .low || headerBad hdr then s.count .LNE_HDR_ERR_CNT l else s).put F.LNE_STATE_HDR_RUN l
    (if headerBad hdr then 0 else min (s.fld F.LNE_STATE_HDR_RUN l + since + 1) 64)

/-- R76: the last 64 blocks of a locked lane after `since` valid blocks and an invalid one. -/
def State.blocksAfter (s : State) (l since : Nat) : List Bool :=
  lastN 64 ((s.lane l).blocks ++ List.replicate (min since 64) true ++ [false])

theorem blockNoted_keeps (since : Nat) (hdr : BitVec 2) :
    Keeps (footOf [.reg .LNE_STATE, .reg .LNE_HDR_ERR_CNT]) s (s.blockNoted l since hdr) :=
  put_keeps (reg_foot (by decide)) (keeps_ite (count_keeps (reg_foot (by decide)) (Keeps.rfl _ s)) (Keeps.rfl _ s))

/-- What noting an invalid block leaves in the lane's registers. -/
theorem blockNoted_leaves (since : Nat) (hdr : BitVec 2) (hc : s.canonical = true) :
    (if s.laneSt l = .low ∨ headerBad hdr = true then Counted s (s.blockNoted l since hdr) .LNE_HDR_ERR_CNT l
      else (s.blockNoted l since hdr).rd .LNE_HDR_ERR_CNT l = s.rd .LNE_HDR_ERR_CNT l) ∧
    (s.blockNoted l since hdr).fld F.LNE_STATE_HDR_RUN l =
      (if headerBad hdr then 0 else min (s.fld F.LNE_STATE_HDR_RUN l + since + 1) 64) ∧
    (s.blockNoted l since hdr).laneSt l = s.laneSt l ∧
    (s.blockNoted l since hdr).bit F.LNE_STATE_HDR_OK l = s.bit F.LNE_STATE_HDR_OK l := by
  unfold State.blockNoted
  generalize hu : (if s.laneSt l == .low || headerBad hdr then s.count .LNE_HDR_ERR_CNT l else s) = u
  have hcond : (s.laneSt l == .low || headerBad hdr) = true ↔ s.laneSt l = .low ∨ headerBad hdr = true := by simp
  have k : Keeps (footOf [.reg .LNE_HDR_ERR_CNT]) s u := by
    rw [← hu]
    exact keeps_ite (count_keeps (reg_foot (by decide)) (Keeps.rfl _ s)) (Keeps.rfl _ s)
  have huc := k.canonical hc
  have hrun : (if headerBad hdr then 0 else min (s.fld F.LNE_STATE_HDR_RUN l + since + 1) 64) < 2 ^ 7 := by
    split <;> omega
  refine ⟨?_, (fld_put_same _ _ _ (by decide) huc).trans (Nat.mod_eq_of_lt hrun), ?_, ?_⟩
  · unfold Counted
    rw [rd_put_ne _ _ _ _ _ (by decide) huc, ← hu]
    split
    · next h =>
      rw [if_pos (hcond.2 h)]
      exact rd_count_same _ _ _ hc
    · next h =>
      rw [if_neg (fun h' => h (hcond.1 h'))]
  · exact congrArg LaneSt.ofCode ((fld_put_apart _ _ _ _ _ rfl huc).trans (k.fld hc _ _ (by decide +kernel)))
  · rw [bit_put_apart _ _ _ _ _ rfl huc, k.bit hc _ _ (by decide +kernel)]

theorem lane_unlisted (h : ¬ l < s.lne.lanes.length) : s.lane l = Lane.fresh := by
  unfold State.lane
  rw [List.getD_eq_getElem?_getD, List.getElem?_eq_none (Nat.le_of_not_lt h)]
  rfl

/-- A lane whose last 64 blocks hold 16 invalid ones is listed: one that is not has no blocks. -/
theorem lane_listed {since : Nat} (h : 16 ≤ ((s.blocksAfter l since).filter (fun b => !b)).length) :
    l < s.lne.lanes.length := by
  refine Decidable.byContradiction fun hl => ?_
  have hle : ((s.blocksAfter l since).filter (fun b => !b)).length ≤
      (((s.lane l).blocks ++ List.replicate (min since 64) true ++ [false]).filter (fun b => !b)).length :=
    ((List.drop_sublist _ _).filter _).length_le
  have hone : (((s.lane l).blocks ++ List.replicate (min since 64) true ++ [false]).filter (fun b => !b)).length = 1 := by
    rw [lane_unlisted hl, show Lane.fresh.blocks = [] from rfl, List.nil_append, List.filter_append,
      List.filter_eq_nil_iff.2 (by simp)]
    rfl
  omega

theorem lane_setLane (m : Nat) (x : Lane) :
    (s.setLane l x).lane m = if l = m ∧ l < s.lne.lanes.length then x else s.lane m := by
  unfold State.lane State.setLane
  simp only [List.getD_eq_getElem?_getD, List.getElem?_set]
  by_cases hm : l = m
  · subst hm
    by_cases hl : l < s.lne.lanes.length <;> simp [hl]
  · simp [hm]

theorem setLane_setLane (x y : Lane) : (s.setLane l x).setLane l y = s.setLane l y := by
  unfold State.setLane
  dsimp only
  rw [List.set_set]

theorem lane_blockNoted (since : Nat) (hdr : BitVec 2) (m : Nat) (hc : s.canonical = true) :
    (s.blockNoted l since hdr).lane m = s.lane m := by
  unfold State.lane
  rw [(blockNoted_keeps since hdr).part hc .lne (by decide +kernel)]

/-- A lane's record with other blocks. -/
def Lane.withBlocks (x : Lane) (bs : List Bool) : Lane := { x with blocks := bs }

/-- The lock of a lane whose blocks are those after an invalid one. -/
theorem lockBroken_blocksAfter (since : Nat) {t : State} (ht : t.lne = s.lne) :
    (t.setLane l ((s.lane l).withBlocks (s.blocksAfter l since))).lockBroken l =
      decide (16 ≤ ((s.blocksAfter l since).filter (fun b => !b)).length) := by
  unfold State.lockBroken
  rw [lane_setLane, ht]
  by_cases hl : l < s.lne.lanes.length
  · rw [if_pos ⟨rfl, hl⟩]
    rfl
  · rw [if_neg (fun h => hl h.2), lane_unlisted (by rw [ht]; exact hl), decide_eq_false (fun h => hl (lane_listed h))]
    rfl

/-- R400: the model notes an invalid block as `blockNoted` says. -/
theorem blockNoted_eq (since : Nat) (hdr : BitVec 2) (hc : s.canonical = true) {t : State}
    (ht : t = if s.laneSt l == .low || headerBad hdr then s.count .LNE_HDR_ERR_CNT l else s) :
    t.put F.LNE_STATE_HDR_RUN l (if headerBad hdr then 0 else min (min (t.fld F.LNE_STATE_HDR_RUN l + since) 64 + 1) 64) =
      s.blockNoted l since hdr := by
  have k : Keeps (footOf [.reg .LNE_HDR_ERR_CNT]) s t := by
    rw [ht]
    exact keeps_ite (count_keeps (reg_foot (by decide)) (Keeps.rfl _ s)) (Keeps.rfl _ s)
  have hmin : min (min (s.fld F.LNE_STATE_HDR_RUN l + since) 64 + 1) 64 = min (s.fld F.LNE_STATE_HDR_RUN l + since + 1) 64 := by
    omega
  unfold State.blockNoted
  rw [k.fld hc _ _ (by decide +kernel), hmin, ht]

/-- R400: what an invalid block that its lane takes comes to. -/
theorem execInvalidBlock_eq {l : Fin 104} {since : Nat} {hdr : BitVec 2} (hs : s.showsBlocks l = true ∨ s.laneSt l = .low)
    (hc : s.canonical = true) :
    execInvalidBlock l since hdr s = .next (
      if s.bit F.LNE_STATE_HDR_OK l then
        if 16 ≤ ((s.blocksAfter l since).filter (fun b => !b)).length then
          if s.laneSt l == .low then
            (((s.blockNoted l since hdr).setLane l ((s.lane l).withBlocks [])).put F.LNE_STATE_HDR_OK l 0).put
              F.LNE_STATE_HDR_RUN l 0
          else ((s.blockNoted l since hdr).setLane l ((s.lane l).withBlocks [])).laneLost l
        else (s.blockNoted l since hdr).setLane l ((s.lane l).withBlocks (s.blocksAfter l since))
      else s.blockNoted l since hdr) := by
  obtain ⟨_, _, _, hbit⟩ := blockNoted_leaves (l := l) since hdr hc
  have hlne : (s.blockNoted l since hdr).lne = s.lne := (blockNoted_keeps since hdr).part hc .lne (by decide +kernel)
  unfold execInvalidBlock
  extract_lets header low t run u x v src w
  rw [if_pos (by simpa [low] using hs)]
  have hu : u = s.blockNoted l since hdr := blockNoted_eq since hdr hc rfl
  clear_value u
  subst hu
  have hx : x = s.lane l := lane_blockNoted since hdr l hc
  clear_value x
  subst hx
  have hv : v = (s.blockNoted l since hdr).setLane l ((s.lane l).withBlocks (s.blocksAfter l since)) := rfl
  have hw (h : 16 ≤ ((s.blocksAfter l since).filter (fun b => !b)).length) :
      w = (s.blockNoted l since hdr).setLane l ((s.lane l).withBlocks []) := by
    have hsrc : src = (s.lane l).withBlocks (s.blocksAfter l since) := by
      refine (lane_setLane _ _).trans (if_pos ⟨rfl, ?_⟩)
      rw [hlne]
      exact lane_listed h
    clear_value src
    subst hsrc
    exact setLane_setLane _ _
  have hlock : v.lockBroken l = decide (16 ≤ ((s.blocksAfter l since).filter (fun b => !b)).length) := by
    rw [hv]
    exact lockBroken_blocksAfter since hlne
  rw [hbit, hlock]
  clear_value v w
  by_cases hok : s.bit F.LNE_STATE_HDR_OK l = true
  · rw [if_pos hok, if_pos hok]
    by_cases hmany : 16 ≤ ((s.blocksAfter l since).filter (fun b => !b)).length
    · rw [if_pos (decide_eq_true hmany), if_pos hmany, hw hmany]
    · rw [if_neg (by simp [hmany]), if_neg hmany, hv]
  · rw [if_neg hok, if_neg hok]

/-- An invalid block on a locked lane that keeps its lock. -/
theorem invalidBlock_kept {since : Nat} {hdr : BitVec 2} {x : Lane} (hok : s.bit F.LNE_STATE_HDR_OK l = true)
    (hc : s.canonical = true) {t : State} (ht : t = (s.blockNoted l since hdr).setLane l x) :
    t.lne = { s.lne with lanes := s.lne.lanes.set l x } ∧ t.laneSt l = s.laneSt l ∧ t.fld F.LNE_STATE_HDR_OK l = 1 ∧
      ChangesOnly [.lne, .reg .LNE_STATE, .reg .LNE_HDR_ERR_CNT] s t := by
  subst ht
  have k := blockNoted_keeps (s := s) (l := l) since hdr
  have hn := k.canonical hc
  have hlne : (s.blockNoted l since hdr).lne = s.lne := k.part hc .lne (by decide +kernel)
  obtain ⟨_, _, hst, hbit⟩ := blockNoted_leaves (l := l) since hdr hc
  refine ⟨?_, ?_, ?_, ?_⟩
  · unfold State.setLane
    rw [hlne]
  · exact (congrArg LaneSt.ofCode (fld_setLane _ _ _ hn)).trans hst
  · exact (fld_setLane _ _ _ hn).trans (fld_of_bit rfl (hbit.trans hok))
  · have kn : Keeps (footOf [.lne, .reg .LNE_STATE, .reg .LNE_HDR_ERR_CNT]) s (s.blockNoted l since hdr) :=
      put_keeps (reg_foot (by decide)) (keeps_ite (count_keeps (reg_foot (by decide)) (Keeps.rfl _ s)) (Keeps.rfl _ s))
    exact (setLane_keeps (sub_foot (p := .lne) (by decide)) kn).onlyFoot hc

/-- R401: a low-rate lane that loses its lock shows it. -/
theorem invalidBlock_low {since : Nat} {hdr : BitVec 2} {x : Lane} (hl : s.laneSt l = .low) (hc : s.canonical = true) {t : State}
    (ht : t = (((s.blockNoted l since hdr).setLane l x).put F.LNE_STATE_HDR_OK l 0).put F.LNE_STATE_HDR_RUN l 0) :
    t.fld F.LNE_STATE_HDR_OK l = 0 ∧ t.fld F.LNE_STATE_HDR_RUN l = 0 ∧ Counted s t .LNE_HDR_ERR_CNT l := by
  subst ht
  have hn := (blockNoted_keeps (l := l) since hdr).canonical hc
  have k : Keeps (footOf [.lne]) (s.blockNoted l since hdr) ((s.blockNoted l since hdr).setLane l x) :=
    setLane_keepsLane _
  have h1 := k.canonical hn
  have h2 := canonical_put F.LNE_STATE_HDR_OK l 0 h1
  obtain ⟨hcount, _⟩ := blockNoted_leaves (l := l) since hdr hc
  rw [if_pos (.inl hl)] at hcount
  refine ⟨?_, fld_put_same _ _ _ (by decide) h2, ?_⟩
  · rw [fld_put_apart _ _ _ _ _ rfl h2]
    exact fld_put_same _ _ _ (by decide) h1
  · unfold Counted
    rw [rd_put_ne _ _ _ _ _ (by decide) h2, rd_put_ne _ _ _ _ _ (by decide) h1, k.rd hn _ _ (by decide +kernel)]
    exact hcount

/-! ### Lanes lost (R73, R76, R453) -/

theorem camLaneLost_faulted {p : Nat} (h0 : s.camSt p ≠ 0) (hc : s.canonical = true) : (s.camLaneLost p).camSt p = 5 := by
  by_cases h5 : s.camSt p = 5
  · unfold State.camLaneLost State.portFault
    dsimp only
    rw [if_pos (by simp [h5])]
    exact h5
  · exact (camLaneLost_leaves h0 h5 hc).1

theorem laneLost_camSt {p : Nat} (hcam : isCamLane l = true) (hp : p = l / 4) (h0 : s.camSt p ≠ 0) (hc : s.canonical = true) :
    (s.laneLost l).camSt p = 5 := by
  unfold State.laneLost
  rw [if_pos hcam, ← hp]
  exact camLaneLost_faulted h0 hc

/-- A lane lost after changes of its own record and registers faults its camera port. -/
theorem setLane_laneLost_camSt {p : Nat} {t : State} {x : Lane} (k : Keeps (footOf [.reg .LNE_STATE, .reg .LNE_HDR_ERR_CNT]) s t)
    (hcam : isCamLane l = true) (hp : p = l / 4) (h0 : s.camSt p ≠ 0) (hc : s.canonical = true) :
    ((t.setLane l x).laneLost l).camSt p = 5 := by
  have hset : Keeps (footOf [.lne]) t (t.setLane l x) := setLane_keepsLane _
  have hst : (t.setLane l x).camSt p = s.camSt p :=
    (fld_setLane _ _ _ (k.canonical hc)).trans (k.fld hc _ _ (by decide +kernel))
  refine laneLost_camSt hcam hp (fun h => h0 (hst.symm.trans h)) (hset.canonical (k.canonical hc))

/-- R453: an invalid block that ends the lock of a fabric lane takes its port down. -/
theorem invalidBlock_fab {since f : Nat} {hdr : BitVec 2} {x : Lane} (hl : s.laneSt l = .up) (hfab : isFabLane l = true)
    (hf : f = (l - 64) / 4) (hup : s.fabSt f = .up) (hc : s.canonical = true) {t : State}
    (ht : t = ((s.blockNoted l since hdr).setLane l x).laneLost l) :
    t.fabSt f = .link ∧ t.laneSt l = .acq ∧ Counted s t .FAB_DOWN_CNT f := by
  subst ht
  have hrange : 64 ≤ l ∧ l < 88 := by simpa [isFabLane] using hfab
  have k := blockNoted_keeps (s := s) (l := l) since hdr
  have hn := k.canonical hc
  have hset : Keeps (footOf [.lne]) (s.blockNoted l since hdr) ((s.blockNoted l since hdr).setLane l x) :=
    setLane_keepsLane _
  obtain ⟨_, _, hst, _⟩ := blockNoted_leaves (l := l) since hdr hc
  unfold State.laneLost
  rw [if_neg (by simp [isCamLane]; omega), if_pos hfab, ← hf]
  obtain ⟨hlink, hacq, hcount⟩ := fabPortDown_leaves (f := f) (l := l)
    ((fabSt_eq ((fld_setLane _ _ _ hn).trans (k.fld hc _ _ (by decide +kernel)))).trans hup) (by omega) (by omega)
    ((congrArg LaneSt.ofCode (fld_setLane _ _ _ hn)).trans (hst.trans hl)) (hset.canonical hn)
  refine ⟨hlink, hacq, hcount.trans ?_⟩
  rw [hset.rd hn _ _ (by decide +kernel), k.rd hc _ _ (by decide +kernel)]

/-! ### Markers (R74, R76) -/

theorem showsBlocks_of_up (hl : s.laneSt l = .up) (h : l < 88) : s.showsBlocks l = true := by
  unfold State.showsBlocks isHostLane
  rw [hl, decide_eq_false (by omega)]
  rfl

/-- R74: a marker is noted on its lane. -/
def State.markerSeen (s : State) (l seq pos : Nat) : State :=
  s.setLane l { s.lane l with
    marker := some (seq, pos)
    missed := 0 }

/-- R76: what a marker on a locked lane comes to. -/
theorem execAlignBlock_eq {l : Fin 104} {seq pos : Nat} (hs : s.showsBlocks l = true) (hok : s.bit F.LNE_STATE_HDR_OK l = true) :
    execAlignBlock l seq pos s = .next (
      if ∃ k, (s.markerSeen l seq pos).markerSkew (l.val - l.val % 4) = some k ∧ 32 < k then
        (s.markerSeen l seq pos).laneLost l
      else s.markerSeen l seq pos) := by
  refine (if_pos (by rw [hs, hok]; rfl)).trans ?_
  change (match (s.markerSeen l seq pos).markerSkew (l.val - l.val % 4) with | some k => _ | none => _) = _
  cases (s.markerSeen l seq pos).markerSkew (l.val - l.val % 4) with
  | none => exact congrArg Host.Outcome.next (if_neg (by simp)).symm
  | some k => simp [State.markerSeen]

/-- R76: what an absent marker on a locked lane comes to. -/
theorem execAlignMissing_eq {l : Fin 104} (hs : s.showsBlocks l = true) (hok : s.bit F.LNE_STATE_HDR_OK l = true) :
    execAlignMissing l s = if (s.lane l).missed == 0 then .next (s.setLane l { s.lane l with missed := 1 })
      else .next ((s.setLane l { s.lane l with missed := 0 }).laneLost l) :=
  if_pos (by rw [hs, hok]; rfl)

/-! ### The obligation -/

theorem bool_or_iff {a : Bool} {st : LaneSt} (h : a = true ∨ s.laneSt l = st) : (a || s.laneSt l == st) = true := by
  simpa using h

/-- Settles O43: what blocks, keepalives, wakes and markers do to a lane and to the port that loses it. -/
theorem laneBlocks : Obligations.LaneBlocks := by
  unfold Obligations.LaneBlocks
  refine ⟨fun s l hl => ⟨_, congrArg Host.Outcome.next (if_pos (beq_iff_eq.2 hl)), rfl⟩,
    fun s l a m hc hl => ⟨_, congrArg Host.Outcome.next (if_pos (beq_iff_eq.2 hl)), ?_, ?_, ?_⟩,
    fun s l hc hl => ⟨_, if_pos (by simp [hl]), keepaliveLost_leaves hl hc rfl⟩,
    fun s l hc hl => ⟨_, congrArg Host.Outcome.next (if_pos (beq_iff_eq.2 hl)), wakeBlock_leaves hc⟩,
    fun s l a m hl => ⟨⟨_, congrArg Host.Outcome.next (if_neg (by simpa using hl)), rfl⟩,
      ⟨_, congrArg Host.Outcome.next (if_neg (by simpa using hl)), rfl⟩,
      ⟨_, congrArg Host.Outcome.next (if_neg (by simpa using hl)), rfl⟩,
      fun ha => ⟨_, if_neg (by simp [hl, ha]), rfl⟩⟩,
    fun s l hc hs => ⟨_, congrArg Host.Outcome.next (if_pos (bool_or_iff hs)), blockLock_leaves hc rfl⟩,
    fun s l since hdr hc hs hok => ?_, fun s l since hdr bs hc hs hok hbs hfew => ?_, fun s l since hdr hc hok hmany => ?_,
    fun s l seq pos u hs hok hu => ?_, fun s l hs hok => ?_, fun s l seq pos hs => ?_⟩
  · exact fld_put_same _ _ _ (by decide) hc
  · exact (congrArg LaneSt.ofCode (fld_put_apart _ _ _ _ _ rfl hc)).trans hl
  · exact (put_keeps (reg_foot (by decide)) (Keeps.rfl _ s)).onlyFoot hc
  · obtain ⟨hcount, hrun, _, _⟩ := blockNoted_leaves (l := l) since hdr hc
    refine ⟨_, (execInvalidBlock_eq hs hc).trans (congrArg Host.Outcome.next (if_neg (by simp [hok]))), hcount, hrun,
      (blockNoted_keeps since hdr).onlyFoot hc⟩
  · subst hbs
    have hkept : ¬ 16 ≤ ((s.blocksAfter l since).filter (fun b => !b)).length := Nat.not_le.2 hfew
    exact ⟨_, (execInvalidBlock_eq hs hc).trans (congrArg Host.Outcome.next ((if_pos hok).trans (if_neg hkept))),
      invalidBlock_kept hok hc rfl⟩
  · have hexec (hs : s.showsBlocks l = true ∨ s.laneSt l = .low) :=
      (execInvalidBlock_eq (since := since) (hdr := hdr) hs hc).trans
        (congrArg Host.Outcome.next ((if_pos hok).trans (if_pos hmany)))
    refine ⟨fun hl => ⟨_, (hexec (.inr hl)).trans (congrArg Host.Outcome.next (if_pos (beq_iff_eq.2 hl))),
      invalidBlock_low hl hc rfl⟩, fun hl hcam h0 => ?_, fun hl hfab hup => ?_⟩
    · have hlt : l.val < 64 := by simpa [isCamLane] using hcam
      exact ⟨_, (hexec (.inl (showsBlocks_of_up hl (by omega)))).trans (congrArg Host.Outcome.next (if_neg (by simp [hl]))),
        setLane_laneLost_camSt (blockNoted_keeps since hdr) hcam rfl h0 hc⟩
    · have hlt : l.val < 88 := And.right (by simpa [isFabLane] using hfab)
      exact ⟨_, (hexec (.inl (showsBlocks_of_up hl hlt))).trans (congrArg Host.Outcome.next (if_neg (by simp [hl]))),
        invalidBlock_fab hl hfab rfl hup hc rfl⟩
  · subst hu
    refine ⟨fun h => ⟨_, (execAlignBlock_eq hs hok).trans (congrArg Host.Outcome.next (if_neg ?_)), rfl⟩,
      fun k hk hlt hcam hc h0 => ⟨_, (execAlignBlock_eq hs hok).trans (congrArg Host.Outcome.next (if_pos ⟨k, hk, hlt⟩)),
        setLane_laneLost_camSt (Keeps.rfl _ s) hcam rfl h0 hc⟩⟩
    rintro ⟨k, hk, hlt⟩
    exact absurd (h k hk) (Nat.not_le.2 hlt)
  · exact ⟨fun h => ⟨_, (execAlignMissing_eq hs hok).trans (if_pos (by simp [h])), rfl⟩,
      fun h hcam hc h0 => ⟨_, (execAlignMissing_eq hs hok).trans (if_neg (by simpa using h)),
        setLane_laneLost_camSt (Keeps.rfl _ s) hcam rfl h0 hc⟩⟩
  · have hno : ¬(s.showsBlocks l && s.bit F.LNE_STATE_HDR_OK l) = true := by
      rcases hs with h | h <;> simp [h]
    exact ⟨⟨_, if_neg hno, rfl⟩, ⟨_, if_neg hno, rfl⟩⟩

end Sys2Proof.Machine
end

section
/-! PROOFS. Cues of a camera port, and frames without an end (spec/03 R82, R83, R95). -/

namespace Sys2Proof.Machine

variable {s : State} {p : Nat}

/-- R82, R83: the record of a port after it has launched the cue in front. -/
def CamPort.launched (c : CamPort) (n : LineNo) (rest : List LineNo) (at_ : Tick) (sid clk : Nat) : CamPort :=
  { c with
    cueQ := rest
    launches := ⟨n, at_, sid, clk⟩ :: c.launches
    slotAt := clk
    setCue := if c.sids.isEmpty then none else some (c.setCue.getD n) }

/-- A port that holds cues is one of the device's. -/
theorem camPort_listed_of_cueQ {n : LineNo} {rest : List LineNo} (hq : (s.camPort p).cueQ = n :: rest) : p < s.cam.length := by
  refine Decidable.byContradiction fun hp => ?_
  unfold State.camPort at hq
  rw [List.getD_eq_getElem?_getD, List.getElem?_eq_none (Nat.le_of_not_lt hp)] at hq
  exact absurd hq (List.cons_ne_nil n rest).symm

theorem canonical_advance (dt : Nat) (hc : s.canonical = true) : (s.advance dt).canonical = true :=
  (advance_keeps (M := allBut 0) ((Sub.rfl _).mono (by decide +kernel)) (Keeps.rfl _ s)).canonical hc

theorem camPort_setCamPort_same (x : CamPort) (hp : p < s.cam.length) : (s.setCamPort p x).camPort p = x :=
  (camPort_setCamPort p p x).trans (if_pos ⟨rfl, hp⟩)

/-- R82, R83: a port in RUN launches the cue in front. -/
theorem cueLaunch_run {n : LineNo} {rest : List LineNo} (hq : (s.camPort p).cueQ = n :: rest) (hst : s.camSt p = 4)
    (hc : s.canonical = true) :
    s.cueLaunch p = ((s.emit (.camBlock p 0x78 (cuePayload n (s.sidNow p)))).put F.CAM_SID_ISSUED p (s.sidNow p)).setCamPort p
      ((s.camPort p).launched n rest s.tick (s.sidNow p) s.clk) := by
  have hp := camPort_listed_of_cueQ hq
  obtain ⟨x, hx⟩ : ∃ x : CamPort, x = { s.camPort p with slotAt := s.clk } := ⟨_, rfl⟩
  have hxq : x.cueQ = n :: rest := by rw [hx]; exact hq
  have hxs : x.sids = (s.camPort p).sids := by rw [hx]
  have hl (sid : Nat) : x.launched n rest s.tick sid s.clk = (s.camPort p).launched n rest s.tick sid s.clk := by
    rw [hx]
    rfl
  unfold State.cueLaunch
  extract_lets +onlyGivenNames v c
  have hv : v = s.setCamPort p x := by
    rw [hx]
    exact backDrain_idle (.inl (by rw [hq]; exact List.cons_ne_nil _ _))
  have hcx : c = x := by
    subst c
    rw [hv]
    exact camPort_setCamPort_same _ hp
  clear hx
  clear_value v c
  subst hv hcx
  split
  · next h => exact absurd (h.symm.trans hxq) (List.cons_ne_nil _ _).symm
  · next n' rest' h =>
    obtain ⟨rfl, rfl⟩ := List.cons.inj (h.symm.trans hxq)
    extract_lets +onlyGivenNames u sid a b d t
    have hu : u = s.setCamPort p { c with cueQ := rest' } := setCamPort_setCamPort _ _
    have hust : u.camSt p = 4 := by
      rw [hu]
      exact hst
    have hd : d = { c with cueQ := rest' } := by
      refine Eq.trans (show d = u.camPort p from rfl) ?_
      rw [hu]
      exact camPort_setCamPort_same _ hp
    have hsid : sid = s.sidNow p := by
      refine (show sid = d.sids.headD 0 from rfl).trans ?_
      rw [hd]
      exact congrArg (List.headD · 0) hxs
    have huc : u.canonical = true := by
      rw [hu]
      exact hc
    have htst : t.camSt p = 4 := (show t.camSt p = b.camSt p from rfl).trans ((fld_put_apart (s := a) _ _ _ _ _ rfl huc).trans hust)
    rw [if_pos (by simp [hust]), if_neg (by simp [htst])]
    have hb : b = ((s.emit (.camBlock p 0x78 (cuePayload n' sid))).put F.CAM_SID_ISSUED p sid).setCamPort p
        { c with cueQ := rest' } := by
      subst b a
      rw [hu]
      rfl
    rw [← hsid, ← hl sid]
    refine (show t = b.setCamPort p (d.launched n' d.cueQ b.tick sid b.clk) from rfl).trans ?_
    rw [hd, hb]
    exact setCamPort_setCamPort _ _

/-- Settles O23: a port in RUN launches the cue in front, and counts a frame without its EOL. -/
theorem cueLaunches : Obligations.CueLaunches := by
  unfold Obligations.CueLaunches
  refine ⟨fun s u dt p n rest hc hu hq hst hd ht hp => ?_,
    fun s p hc hst => ⟨_, congrArg Host.Outcome.next (if_pos (by simp [hst])), rd_count_same _ _ _ hc,
      (count_keeps (reg_foot (by decide)) (Keeps.rfl _ s)).onlyFoot hc⟩,
    fun s p hst => ⟨s, congrArg Host.Outcome.next (if_neg (by simpa using hst)), rfl⟩⟩
  have huc : u.canonical = true := by
    rw [hu]
    exact canonical_advance dt hc
  have he : ((s.advance dt).cueLaunch p).memRespond = u.cueLaunch p := by
    rw [← hu, cueLaunch_run hq hst huc]
    exact memRespond_idle hd ht hp
  exact ⟨_, congrArg Host.Outcome.next (he.trans (cueLaunch_run hq hst huc)), rfl, rfl⟩

end Sys2Proof.Machine
end

section
/-! PROOFS. ERR blocks of a camera and the rehearsal of one port (spec/03 R94, R106, R108). -/

namespace Sys2Proof.Machine

variable {s : State} {p : Nat}

/-! ### ERR blocks (R94) -/

/-- R94: an ERR block is counted and logged. -/
def State.errLogged (s : State) (p code j : Nat) (line : LineNo) : State :=
  (((s.count .CAM_CAMERR_CNT p).put F.CAM_LAST_ERR_CODE p code).put F.CAM_LAST_ERR_HEAD p j).put F.CAM_LAST_ERR_LINE p
    (line.toNat % 2 ^ 23)

theorem errLogged_keeps (code j : Nat) (line : LineNo) :
    Keeps (footOf [.reg .CAM_CAMERR_CNT, .reg .CAM_LAST_ERR]) s (s.errLogged p code j line) :=
  put_keeps (reg_foot (by decide)) (put_keeps (reg_foot (by decide)) (put_keeps (reg_foot (by decide))
    (count_keeps (reg_foot (by decide)) (Keeps.rfl _ s))))

theorem errBlock_warn {j : Nat} {line : LineNo} (hst : 2 ≤ s.camSt p) :
    s.errBlock p 2 j line = (s.errLogged p 2 j line).raise F.CAM_EVENT_CAM_WARN p :=
  if_neg (Nat.not_lt.2 hst)

/-- What an ERR block of code 2 leaves. -/
theorem errLogged_leaves {code j : Nat} {line : LineNo} (hcode : code < 2 ^ 8) (hc : s.canonical = true) {t : State}
    (ht : t = (s.errLogged p code j line).raise F.CAM_EVENT_CAM_WARN p) :
    Counted s t .CAM_CAMERR_CNT p ∧ t.fld F.CAM_LAST_ERR_CODE p = code ∧ t.fld F.CAM_EVENT_CAM_WARN p = 1 ∧
      t.camSt p = s.camSt p := by
  subst ht
  have hl := (errLogged_keeps (p := p) code j line).canonical hc
  have h1 := canonical_count .CAM_CAMERR_CNT p 1 hc
  have h2 := canonical_put F.CAM_LAST_ERR_CODE p code h1
  have h3 := canonical_put F.CAM_LAST_ERR_HEAD p j h2
  refine ⟨?_, ?_, fld_raise_same _ _ rfl (by decide) rfl hl, ?_⟩
  · unfold Counted
    rw [rd_raise_other _ _ _ _ rfl (by decide) hl, ← rd_count_same _ _ _ hc]
    exact (rd_put_ne _ _ _ _ _ (by decide) h3).trans ((rd_put_ne _ _ _ _ _ (by decide) h2).trans
      (rd_put_ne _ _ _ _ _ (by decide) h1))
  · rw [fld_raise_apart _ _ _ _ rfl rfl hl]
    refine (fld_put_apart _ _ _ _ _ rfl h3).trans ((fld_put_apart _ _ _ _ _ rfl h2).trans ?_)
    exact (fld_put_same _ _ _ (by decide) h1).trans (Nat.mod_eq_of_lt hcode)
  · exact (fld_raise_apart _ _ _ _ rfl rfl hl).trans ((errLogged_keeps code j line).fld hc _ _ (by decide +kernel))

/-! ### Armed runs (R137, R138) -/

theorem corHead_congr {t : State} (h : t.cor.heads = s.cor.heads) (g : Nat) : t.corHead g = s.corHead g :=
  congrArg (List.getD · g CorHead.fresh) h

theorem corHead_unlisted {g : Nat} (hg : ¬ g < s.cor.heads.length) : s.corHead g = CorHead.fresh := by
  unfold State.corHead
  rw [List.getD_eq_getElem?_getD, List.getElem?_eq_none (Nat.le_of_not_lt hg)]
  rfl

theorem commitSet_heads (k : Nat) (vals : List Nat) (hc : s.canonical = true) :
    (s.commitSet p k vals).cor.heads = s.cor.heads := by
  unfold State.commitSet
  extract_lets +onlyGivenNames n blocks u x
  have hu : u.cor = s.cor := (backQueue_keeps (M := allBut (footOf [.cor])) ((Sub.rfl _).mono (by decide +kernel))
    (Keeps.rfl _ s)).part hc .cor (by decide +kernel)
  rw [← hu]
  rfl

theorem commitExposure_heads (k t : Nat) (hc : s.canonical = true) : (s.commitExposure p k t).cor.heads = s.cor.heads := by
  unfold State.commitExposure
  extract_lets +onlyGivenNames u v c
  rw [← commitSet_heads (p := p) k (List.replicate (max (s.portHeads p) 1) (t * 10)) hc]
  rfl

theorem darkEnd_heads (hc : s.canonical = true) : (s.darkEnd p).cor.heads = s.cor.heads := by
  unfold State.darkEnd
  extract_lets +onlyGivenNames busy c u
  split
  · exact (commitExposure_heads _ _ (s := u) hc).trans rfl
  · rfl

/-- The end of a run leaves what its head waits for. -/
theorem ffDrop_armed (h g : Nat) (hc : s.canonical = true) : ((s.ffDrop h).corHead g).armed = (s.corHead g).armed := by
  have hk : Keeps (allBut 0) s (s.setCorHead h { s.corHead h with run := none }) :=
    setCorHead_keeps ((Sub.rfl _).mono (by decide +kernel)) (Keeps.rfl _ s)
  have hd : (s.ffDrop h).cor.heads = (s.setCorHead h { s.corHead h with run := none }).cor.heads :=
    darkEnd_heads (canonical_put _ _ _ (hk.canonical hc))
  rw [corHead_congr hd, corHead_setCorHead]
  split
  · next hg => rw [hg.1]
  · rfl

theorem ffAbandon_armed (h g : Nat) (hc : s.canonical = true) :
    ((s.ffAbandon h false).corHead g).armed = (s.corHead g).armed := by
  unfold State.ffAbandon
  split
  · rfl
  · split
    · rfl
    · exact ffDrop_armed h g hc

/-- R106, R143: a head's run in progress is given up, and so is what it waits for. -/
def State.ffDisarmed (s : State) (h : Nat) : State :=
  (s.ffAbandon h false).setCorHead h { (s.ffAbandon h false).corHead h with armed := none }

theorem ffDisarmed_keeps (h : Nat) : Keeps (allBut (footOf [.sti])) s (s.ffDisarmed h) :=
  setCorHead_keeps ((Sub.rfl _).mono (by decide +kernel)) (ffAbandon_keeps ((Sub.rfl _).mono (by decide +kernel)) (Keeps.rfl _ s))

theorem ffDisarmed_armed (h g : Nat) (hc : s.canonical = true) :
    ((s.ffDisarmed h).corHead g).armed = if g = h then none else (s.corHead g).armed := by
  unfold State.ffDisarmed
  rw [corHead_setCorHead]
  by_cases hg : g = h
  · subst hg
    rw [if_pos rfl]
    split
    · rfl
    · next hl => rw [corHead_unlisted fun h => hl ⟨rfl, h⟩]; rfl
  · rw [if_neg hg, if_neg fun h => hg h.1.symm]
    exact ffAbandon_armed h g hc

/-- The heads of a port whose turn has come wait for nothing. -/
theorem ffDisarmed_loop (n j : Nat) (hj : j < n) (hc : s.canonical = true) :
    ((forBelow n (fun i t => t.ffDisarmed (headOf p i)) s).corHead (headOf p j)).armed = none := by
  induction n with
  | zero => exact absurd hj (Nat.not_lt_zero j)
  | succ n ih =>
    have hn : (forBelow n (fun i t => t.ffDisarmed (headOf p i)) s).canonical = true :=
      forBelow_induct (P := fun t => t.canonical = true) n hc fun i t ht => (ffDisarmed_keeps _).canonical ht
    rw [forBelow_succ, ffDisarmed_armed _ _ hn]
    split
    · rfl
    · next hne =>
      refine ih (Nat.lt_of_le_of_ne (Nat.le_of_lt_succ hj) ?_)
      rintro rfl
      exact hne rfl

/-! ### The rehearsal of one port (R106, R108) -/

theorem prehStart_leaves (hm : s.mode = .perform) (hst : s.camSt p = 4) (hs : s.bit F.CAM_STATUS_STALE p = true)
    (hp : s.bit F.CAM_STATUS_PREH p = false) (hc : s.canonical = true) :
    (s.prehStart p).fld F.CAM_STATUS_PREH p = 1 ∧ (s.prehStart p).sti.rehearsal = s.sti.rehearsal + 1 ∧
      ∀ j < s.portHeads p, ((s.prehStart p).corHead (headOf p j)).armed = none := by
  unfold State.prehStart
  extract_lets +onlyGivenNames st n sti u v
  have hu : u.canonical = true := hc
  have kv : Keeps (allBut (footOf [.sti])) u v :=
    keeps_forBelow (fun i t h => h.trans (ffDisarmed_keeps _)) (Keeps.rfl _ u)
  rw [if_pos (by simp [st, hm, hst, hs, hp])]
  refine ⟨fld_put_same _ _ _ (by decide) (kv.canonical hu), ?_, fun j hj => ?_⟩
  · exact (congrArg Sti.rehearsal (kv.part hu .sti (by decide +kernel)))
  · exact ffDisarmed_loop (s := u) (s.portHeads p) j hj hu

/-- R108: a rehearsal that has not been accepted ends as failed. -/
theorem prehEnd_failed (hp : s.bit F.CAM_STATUS_PREH p = true) (hs : (s.camPort p).swap = 0) (hc : s.canonical = true) :
    (s.prehEnd p).fld F.CAM_STATUS_PREH p = 0 ∧ (s.prehEnd p).fld F.CAM_EVENT_PREH_FAIL p = 1 ∧
      Counted s (s.prehEnd p) .CAM_PREH_FAIL_CNT p := by
  unfold State.prehEnd
  rw [if_pos hp]
  extract_lets +onlyGivenNames met u c v
  have kd : Keeps (allBut (footOf [.reg .CAM_PREH_FAIL_CNT])) s (s.prehDrop p) :=
    prehDrop_keeps ((Sub.rfl _).mono (by decide +kernel)) (Keeps.rfl _ s)
  have hd := kd.canonical hc
  have hu : u.canonical = true := canonical_put _ _ _ hd
  have kv : Keeps (allBut (footOf [.reg .CAM_PREH_FAIL_CNT, .reg .CAM_STATUS])) u v :=
    setCamPort_keeps ((Sub.rfl _).mono (by decide +kernel)) (Keeps.rfl _ u)
  have hv := kv.canonical hu
  have hcount := canonical_count .CAM_PREH_FAIL_CNT p 1 hv
  rw [if_neg (by simp [met, hs])]
  refine ⟨?_, fld_raise_same _ _ rfl (by decide) rfl hcount, ?_⟩
  · rw [fld_raise_apart _ _ _ _ rfl rfl hcount, fld_count _ _ _ _ _ (by decide) hv, kv.fld hu _ _ (by decide +kernel)]
    exact fld_put_same _ _ _ (by decide) hd
  · have hrd : v.rd .CAM_PREH_FAIL_CNT p = s.rd .CAM_PREH_FAIL_CNT p :=
      (kv.rd hu _ _ (by decide +kernel)).trans ((rd_put_ne _ _ _ _ _ (by decide) hd).trans (kd.rd hc _ _ (by decide +kernel)))
    unfold Counted
    rw [rd_raise_other _ _ _ _ rfl (by decide) hcount, ← hrd]
    exact rd_count_same _ _ _ hv

theorem prehFail_idle (h : s.bit F.CAM_STATUS_PREH p = false ∨ (s.camPort p).swap ≠ 0) : s.prehFail p = s := by
  unfold State.prehFail
  split
  · next hs => exact if_neg (by simpa using h.resolve_right (not_not_intro (beq_iff_eq.1 hs)))
  · rfl

/-! ### The obligation -/

/-- Settles O25: ERR blocks are counted in every state that takes them, and a stale camera's rehearsal starts and fails. -/
theorem portRehearsals : Obligations.PortRehearsals := by
  unfold Obligations.PortRehearsals
  refine ⟨fun s p j line hc hst hd ht hp => ?_, fun s p code j line hst hd ht hp => ?_,
    fun s p hc hm hst hs hp => ⟨_, rfl, prehStart_leaves hm hst hs hp hc⟩,
    fun s p hs => ⟨s, congrArg Host.Outcome.next (if_neg (by simp [hs])), rfl⟩,
    fun s p hc hp hs => ⟨_, congrArg Host.Outcome.next (if_pos (by simp [hs])), prehEnd_failed hp hs hc⟩,
    fun s p h => ⟨s, congrArg Host.Outcome.next (prehFail_idle h), rfl⟩⟩
  · have k := errLogged_keeps (s := s) (p := p) 2 j line
    have hl := k.canonical hc
    have hmem : ((s.errLogged p 2 j line).raise F.CAM_EVENT_CAM_WARN p).mem = s.mem :=
      (raise_part F.CAM_EVENT_CAM_WARN p .mem rfl hl).trans (k.part hc .mem (by decide +kernel))
    have hglb : ((s.errLogged p 2 j line).raise F.CAM_EVENT_CAM_WARN p).glb = s.glb :=
      (raise_part F.CAM_EVENT_CAM_WARN p .glb rfl hl).trans (k.part hc .glb (by decide +kernel))
    have he : (s.errBlock p 2 j line).memRespond = (s.errLogged p 2 j line).raise F.CAM_EVENT_CAM_WARN p := by
      rw [errBlock_warn hst]
      exact memRespond_idle (by rw [hmem]; exact hd) (by rw [hglb]; exact ht) (by rw [hglb]; exact hp)
    exact ⟨_, congrArg Host.Outcome.next he, errLogged_leaves (by decide) hc rfl⟩
  · refine ⟨s, congrArg Host.Outcome.next ?_, rfl⟩
    rw [show s.errBlock p code j line = s from if_pos hst]
    exact memRespond_idle hd ht hp

end Sys2Proof.Machine
end

section
/-! PROOFS. Lines of a camera port: accepted, damaged and late ones (spec/03 R95, R96, R99). -/

namespace Sys2Proof.Machine

variable {s t u : State} {p j : Nat}

/-! ### What a port keeps -/

/-- The lines that an ERR block has named for a head and whose turn has not come. -/
def CamPort.missingOf (c : CamPort) (j : Nat) : List LineNo := (c.heads.getD j CamHead.fresh).missing

/-- A port's FIFO and the named lines of a head stand as they were. -/
structure PortKept (p j : Nat) (s t : State) : Prop where
  fifo : (t.camPort p).fifo = (s.camPort p).fifo
  missing : (t.camPort p).missingOf j = (s.camPort p).missingOf j

theorem PortKept.refl : PortKept p j s s := ⟨rfl, rfl⟩

theorem PortKept.trans (h1 : PortKept p j s t) (h2 : PortKept p j t u) : PortKept p j s u :=
  ⟨h2.fifo.trans h1.fifo, h2.missing.trans h1.missing⟩

theorem camPort_congr (h : t.cam = s.cam) (q : Nat) : t.camPort q = s.camPort q :=
  congrArg (List.getD · q CamPort.fresh) h

theorem PortKept.of_cam (h : t.cam = s.cam) : PortKept p j s t :=
  ⟨congrArg CamPort.fifo (camPort_congr h p), congrArg (CamPort.missingOf · j) (camPort_congr h p)⟩

/-- What keeps every part but some, with the ports among those kept, keeps a port. -/
theorem PortKept.of_keeps {M : Nat} (k : Keeps M s t) (hc : s.canonical = true) (hm : M.testBit Part.cam.bit = false) :
    PortKept p j s t :=
  PortKept.of_cam (k.part hc .cam hm)

theorem PortKept.setCamPort {x : CamPort} (hf : x.fifo = (s.camPort p).fifo) (hm : x.missingOf j = (s.camPort p).missingOf j) :
    PortKept p j s (s.setCamPort p x) :=
  ⟨camPort_setCamPort_keeps CamPort.fifo hf p, camPort_setCamPort_keeps (CamPort.missingOf · j) hm p⟩

/-- A change of a head that leaves its named lines. -/
theorem PortKept.setCamHead {x : CamHead} (hx : x.missing = (s.camHead p j).missing) : PortKept p j s (s.setCamHead p j x) := by
  refine PortKept.setCamPort rfl ?_
  unfold CamPort.missingOf
  dsimp only
  rw [List.getD_eq_getElem?_getD, List.getElem?_set_self']
  cases hj : (s.camPort p).heads[j]? with
  | none =>
    unfold State.camHead at hx
    rw [List.getD_eq_getElem?_getD, hj]
    rfl
  | some y => exact hx

theorem missingOf_committed (c : CamPort) (k : Nat) : (c.committed k).missingOf j = c.missingOf j := by
  unfold CamPort.missingOf CamPort.committed
  dsimp only
  rw [List.getD_eq_getElem?_getD, List.getD_eq_getElem?_getD, List.getElem?_map]
  cases c.heads[j]? <;> rfl

theorem backSend_kept : PortKept p j s (s.backSend p) := by
  unfold State.backSend
  extract_lets c
  split
  · next b r _ _ =>
    extract_lets d
    have hx : ((b.commit.map d.committed).getD d).fifo = c.fifo ∧
        ((b.commit.map d.committed).getD d).missingOf j = c.missingOf j := by
      cases b.commit with
      | none => exact ⟨rfl, rfl⟩
      | some k => exact ⟨rfl, missingOf_committed d k⟩
    exact (PortKept.setCamPort hx.1 hx.2).trans (PortKept.of_cam rfl)
  · exact PortKept.refl

theorem backDrain_kept : PortKept p j s (s.backDrain p) := by
  unfold State.backDrain
  refine forBelow_induct (P := PortKept p j s) _ (PortKept.setCamPort rfl rfl) fun _ t h => ?_
  exact h.trans backSend_kept

theorem startInstant_kept (n : LineNo) (eoe : Nat) : PortKept p j s (s.startInstant p n eoe).2 := by
  unfold State.startInstant
  split <;> exact PortKept.of_cam rfl

theorem echo_kept (sid : Nat) (line : LineNo) (hc : s.canonical = true) : PortKept p j s (s.echo p j sid line) := by
  unfold State.echo
  extract_lets +onlyGivenNames a cp es b c
  have ha : a.canonical = true ∧ PortKept p j s a := by
    subst a
    split <;> exact ⟨canonical_put _ _ _ hc, PortKept.of_cam rfl⟩
  have hb : b.canonical = true := ha.1
  have hsb : PortKept p j s b := ha.2.trans (PortKept.of_cam rfl)
  split
  · exact hsb
  · extract_lets +onlyGivenNames limit y d x
    have hd : d.canonical = true ∧ PortKept p j b d := by
      subst d
      split
      · exact ⟨hb, PortKept.setCamHead rfl⟩
      · exact ⟨hb, PortKept.refl⟩
    split
    · have k : Keeps (allBut (footOf [.cam])) (d.setCamPort p { x with setTmo := true })
          ((((d.setCamPort p { x with setTmo := true }).count .CAM_SET_TMO_CNT p).raise F.CAM_EVENT_SET_TMO p).expTimeout p) :=
        expTimeout_keeps ((Sub.rfl _).mono (by decide +kernel)) (raise_keeps ((Sub.rfl _).mono (by decide +kernel))
          (by decide +kernel) (count_keeps (by decide +kernel) (Keeps.rfl _ _)))
      exact hsb.trans (hd.2.trans ((PortKept.setCamPort (x := { x with setTmo := true }) rfl rfl).trans
        (PortKept.of_keeps k hd.1 (by decide +kernel))))
    · exact hsb.trans hd.2

/-! ### Sets of parts that lines leave -/

/-- The registers of a port's last lines. -/
def lastLineRegs : List Reg := [.CAM_LAST_LINE0_L, .CAM_LAST_LINE0_H, .CAM_LAST_LINE1_L, .CAM_LAST_LINE1_H]

/-- What a line leaves as it was, its own head apart: the memory's answers, the port's state and the counts of damaged and
missing lines. -/
def lineLeaves : List Part := [.memDone, .glbTrans, .glbPend, .reg .CAM_STATUS, .reg .CAM_CRC_CNT, .reg .CAM_MISSING_CNT]

/-- Every part but those that a line leaves as they were. -/
def byLine : Nat := allBut (footOf lineLeaves)

/-- Every part but those that a line leaves as they were, the last lines and the run of malformed lines. -/
def offPort : Nat := allBut (footOf (lineLeaves ++ .reg .CAM_MALF_RUN :: lastLineRegs.map .reg))

theorem Keeps.lastLine {M : Nat} (k : Keeps M s t) (hc : s.canonical = true)
    (hm : lastLineRegs.all (fun r => !M.testBit r.part) = true) : t.lastLine p j = s.lastLine p j := by
  have hrd {r : Reg} (hr : r ∈ lastLineRegs) : t.rd r p = s.rd r p :=
    k.rd hc r p (by simpa using List.all_eq_true.1 hm r hr)
  unfold State.lastLine State.getPair
  rw [hrd (r := .CAM_LAST_LINE0_L) (by decide), hrd (r := .CAM_LAST_LINE0_H) (by decide),
    hrd (r := .CAM_LAST_LINE1_L) (by decide), hrd (r := .CAM_LAST_LINE1_H) (by decide)]

theorem Keeps.camSt {M : Nat} (k : Keeps M s t) (hc : s.canonical = true) (hm : M.testBit Reg.CAM_STATUS.part = false) :
    t.camSt p = s.camSt p :=
  k.fld hc F.CAM_STATUS_STATE p hm

/-- A pair stored reads back. -/
theorem getPair_setPair {lo hi : Reg} {i w v : Nat} (hne : lo.part ≠ hi.part) (hv : v < 2 ^ (32 + w)) (hw : w ≤ 32)
    (hc : s.canonical = true) : (s.setPair lo hi i w v).getPair lo hi i = v := by
  have hlo := canonical_wr lo i (BitVec.ofNat 32 v) hc
  have hdiv : v / 2 ^ 32 < 2 ^ w := by
    rw [Nat.div_lt_iff_lt_mul (by decide), ← Nat.pow_add, Nat.add_comm]
    exact hv
  have hw32 : 2 ^ w ≤ 2 ^ 32 := Nat.pow_le_pow_right (by decide) hw
  unfold State.getPair State.setPair
  rw [rd_wr_same _ _ _ hlo, rd_wr_ne _ (Reg.key_ne hne _ _) hlo, rd_wr_same _ _ _ hc, BitVec.toNat_ofNat, BitVec.toNat_ofNat,
    Nat.mod_eq_of_lt hdiv, Nat.mod_eq_of_lt (Nat.lt_of_lt_of_le hdiv hw32)]
  exact Nat.mod_add_div v (2 ^ 32)

theorem lastLine_putLastLine (n : LineNo) (hc : s.canonical = true) : (s.putLastLine p j n).lastLine p j = n := by
  unfold State.lastLine State.putLastLine
  split
  · next h => rw [getPair_setPair (by decide) n.isLt (by decide) hc, BitVec.ofNat_toNat, BitVec.setWidth_eq]
  · next h => rw [getPair_setPair (by decide) n.isLt (by decide) hc, BitVec.ofNat_toNat, BitVec.setWidth_eq]

/-! ### Lines that enter the FIFO (R18, R95) -/

/-- R18, R95: what a line that enters the FIFO leaves. -/
theorem pushLine_leaves (l : RawLine) (hc : s.canonical = true) :
    (s.pushLine p j l).lastLine p j = l.line ∧
    ((s.pushLine p j l).camPort p).missingOf j = (s.camPort p).missingOf j ∧
    (p < s.cam.length → (s.camPort p).fifo.length < 8 →
      ((s.pushLine p j l).camPort p).fifo = (s.camPort p).fifo ++ [(j, l)]) := by
  unfold State.pushLine
  extract_lets +onlyGivenNames a y b c x
  have ka : Keeps (allBut 0) s a := putLastLine_keeps ((Sub.rfl _).mono (by decide +kernel)) (Keeps.rfl _ s)
  have ha := ka.canonical hc
  have hsa : PortKept p j s a := PortKept.of_keeps (putLastLine_keeps (M := allBut (footOf [.cam]))
    ((Sub.rfl _).mono (by decide +kernel)) (Keeps.rfl _ s)) hc (by decide +kernel)
  have kc : Keeps offPort a c := pruneLaunches_keeps ((Sub.rfl _).mono (by decide +kernel))
    (setCamHead_keeps ((Sub.rfl _).mono (by decide +kernel)) (Keeps.rfl _ a))
  have hcc := kc.canonical ha
  have hac : PortKept p j a c := (PortKept.setCamHead (x := { y with prev := some l.pixels }) rfl).trans
    (PortKept.setCamPort rfl rfl)
  have hsc := hsa.trans hac
  have hline : c.lastLine p j = l.line := (kc.lastLine ha (by decide +kernel)).trans (lastLine_putLastLine _ hc)
  have hlen : c.cam.length = s.cam.length := by
    refine (List.length_set ..).trans ((List.length_set ..).trans ?_)
    exact congrArg List.length ((putLastLine_keeps (M := allBut (footOf [.cam])) ((Sub.rfl _).mono (by decide +kernel))
      (Keeps.rfl _ s)).part hc .cam (by decide +kernel))
  split
  · next hlt =>
    have k : Keeps offPort c ((c.setCamPort p { x with fifo := x.fifo ++ [(j, l)] }).gapClean (headOf p j) .faultDiscard 0) :=
      gapClean_keeps ((Sub.rfl _).mono (by decide +kernel)) (setCamPort_keeps ((Sub.rfl _).mono (by decide +kernel))
        (Keeps.rfl _ c))
    have kcam : Keeps (allBut (footOf [.cam])) (c.setCamPort p { x with fifo := x.fifo ++ [(j, l)] })
        ((c.setCamPort p { x with fifo := x.fifo ++ [(j, l)] }).gapClean (headOf p j) .faultDiscard 0) :=
      gapClean_keeps ((Sub.rfl _).mono (by decide +kernel)) (Keeps.rfl _ _)
    have hcam := camPort_congr (kcam.part hcc .cam (by decide +kernel)) p
    refine ⟨(k.lastLine hcc (by decide +kernel)).trans hline, ?_, fun hp _ => ?_⟩
    · rw [hcam]
      exact (camPort_setCamPort_keeps (CamPort.missingOf · j) (x := { x with fifo := x.fifo ++ [(j, l)] }) rfl p).trans
        hsc.missing
    · rw [hcam, camPort_setCamPort_same _ (by rw [hlen]; exact hp), ← hsc.fifo]
  · next hge =>
    have k : Keeps offPort c ((c.count .CAM_FIFO_OVF_CNT p).gapLine (headOf p j) .faultDiscard 0 l.line) :=
      gapLine_keeps ((Sub.rfl _).mono (by decide +kernel)) (count_keeps (by decide +kernel) (Keeps.rfl _ c))
    have kcam : Keeps (allBut (footOf [.cam])) c ((c.count .CAM_FIFO_OVF_CNT p).gapLine (headOf p j) .faultDiscard 0 l.line) :=
      gapLine_keeps ((Sub.rfl _).mono (by decide +kernel)) (count_keeps (by decide +kernel) (Keeps.rfl _ c))
    have hcam : PortKept p j c _ := PortKept.of_keeps kcam hcc (by decide +kernel)
    refine ⟨(k.lastLine hcc (by decide +kernel)).trans hline, (hsc.trans hcam).missing, fun _ hlt => absurd ?_ hge⟩
    change (c.camPort p).fifo.length < 8
    rw [hsc.fifo]
    exact hlt

/-- A port whose run of malformed lines is short of a fault counts one more. -/
theorem malformed_short (h : s.fld F.CAM_MALF_RUN_RUN p < 15) :
    s.malformed p = s.put F.CAM_MALF_RUN_RUN p (s.fld F.CAM_MALF_RUN_RUN p + 1) := by
  unfold State.malformed
  dsimp only
  rw [if_neg (by omega), Nat.min_eq_left (by omega)]

theorem malfRun_put (v : Nat) (hv : v < 32) (hc : s.canonical = true) :
    (s.put F.CAM_MALF_RUN_RUN p v).fld F.CAM_MALF_RUN_RUN p = v :=
  (fld_put_same _ _ _ (by decide) hc).trans (Nat.mod_eq_of_lt hv)

/-- A port in whose head no line is named has none to replace. -/
theorem namedMissing_none (h : (s.camPort p).missingOf j = []) (fuel : Nat) : s.namedMissing p j fuel = s := by
  cases fuel with
  | zero => rfl
  | succ k =>
    unfold State.namedMissing
    refine if_neg ?_
    rw [show (s.camHead p j).missing = [] from h]
    simp

theorem put_malfRun_keeps (v : Nat) : Keeps (footOf [.reg .CAM_MALF_RUN]) s (s.put F.CAM_MALF_RUN_RUN p v) :=
  put_keeps (reg_foot (by decide)) (Keeps.rfl _ s)

/-- A line that enters the FIFO changes no run of malformed lines. -/
theorem pushLine_malfRun (l : RawLine) (hc : s.canonical = true) :
    (s.pushLine p j l).fld F.CAM_MALF_RUN_RUN p = s.fld F.CAM_MALF_RUN_RUN p :=
  (pushLine_keeps (M := allBut (footOf [.reg .CAM_MALF_RUN])) ((Sub.rfl _).mono (by decide +kernel)) (Keeps.rfl _ s)).fld hc _ _
    (by decide +kernel)

/-- R95, R97, R99: what the replacement of a line leaves, short of a fault. -/
theorem replaceLine_leaves (n : LineNo) (hrun : s.fld F.CAM_MALF_RUN_RUN p < 15) (hc : s.canonical = true) :
    (s.replaceLine p j n).lastLine p j = n ∧
    ((s.replaceLine p j n).camPort p).missingOf j = (s.camPort p).missingOf j ∧
    (s.replaceLine p j n).fld F.CAM_MALF_RUN_RUN p = s.fld F.CAM_MALF_RUN_RUN p + 1 ∧
    Keeps byLine s (s.replaceLine p j n) := by
  unfold State.replaceLine
  extract_lets +onlyGivenNames x k r
  have kr : Keeps (allBut (footOf [.reg .CAM_MALF_RUN])) s r.2 :=
    startInstant_keeps ((Sub.rfl _).mono (by decide +kernel)) (Keeps.rfl _ s)
  have hr := kr.canonical hc
  generalize hl : (⟨n, r.1, 0, false, 0, x.prev.getD (List.replicate k 0), 0, true⟩ : RawLine) = l
  obtain ⟨hline, hmiss, -⟩ := pushLine_leaves (p := p) (j := j) l hr
  have kl : Keeps byLine s (r.2.pushLine p j l) := pushLine_keeps ((Sub.rfl _).mono (by decide +kernel))
    (startInstant_keeps ((Sub.rfl _).mono (by decide +kernel)) (Keeps.rfl _ s))
  have hv := kl.canonical hc
  have hfld : (r.2.pushLine p j l).fld F.CAM_MALF_RUN_RUN p = s.fld F.CAM_MALF_RUN_RUN p :=
    (pushLine_malfRun l hr).trans (kr.fld hc _ _ (by decide +kernel))
  rw [malformed_short (by rw [hfld]; exact hrun), hfld]
  refine ⟨?_, hmiss.trans (startInstant_kept _ _).missing, malfRun_put _ (by omega) hv, put_keeps (by decide +kernel) kl⟩
  rw [(put_malfRun_keeps _).lastLine hv (by decide +kernel), hline, ← hl]

/-- R95: what a line with the pixels of its head leaves when it is accepted. -/
theorem acceptLine_leaves {mrow sid : Nat} {line : LineNo} {hdr : DWord} {data : List DWord} {bits : Nat}
    (hgot : pixelCount (8 + 2 * min (s.headDepth (headOf p j)) 4) bits data = s.headPixels (headOf p j))
    (hp : p < s.cam.length) (hlt : (s.camPort p).fifo.length < 8) (hc : s.canonical = true) {t : State}
    (ht : t = s.acceptLine p j mrow sid line hdr data bits) :
    t.lastLine p j = line ∧ (t.camPort p).fifo.length = (s.camPort p).fifo.length + 1 ∧
      (t.camPort p).missingOf j = (s.camPort p).missingOf j ∧ t.fld F.CAM_MALF_RUN_RUN p = 0 ∧ Keeps byLine s t := by
  subst ht
  unfold State.acceptLine
  extract_lets +onlyGivenNames h k d got x prev px eoe r sids known a y b c e
  have hgk : got = k := hgot
  have kr : Keeps (allBut (footOf (.cam :: lineLeaves))) s r.2 :=
    startInstant_keeps ((Sub.rfl _).mono (by decide +kernel)) (Keeps.rfl _ s)
  have ka : Keeps (allBut (footOf (.cam :: lineLeaves))) s a := keeps_ite kr (count_keeps (by decide +kernel) kr)
  have hsa : PortKept p j s a := PortKept.of_keeps ka hc (by decide +kernel)
  have hla : a.cam.length = s.cam.length := congrArg List.length (ka.part hc .cam (by decide +kernel))
  have hb : PortKept p j a b ∧ b.cam.length = a.cam.length := by
    subst b
    rw [if_pos (beq_iff_eq.2 hgk)]
    exact ⟨PortKept.setCamHead rfl, List.length_set ..⟩
  have kra : Keeps byLine s r.2 := startInstant_keeps ((Sub.rfl _).mono (by decide +kernel)) (Keeps.rfl _ s)
  have kb : Keeps byLine s b := keeps_ite
    (setCamHead_keeps ((Sub.rfl _).mono (by decide +kernel)) (keeps_ite kra (count_keeps (by decide +kernel) kra)))
    (keeps_ite kra (count_keeps (by decide +kernel) kra))
  have kc : Keeps byLine s c := pushLine_keeps ((Sub.rfl _).mono (by decide +kernel)) kb
  have ke : Keeps byLine s e := echo_keeps ((Sub.rfl _).mono (by decide +kernel)) kc
  have kce : Keeps (allBut (footOf (lastLineRegs.map .reg))) c e :=
    echo_keeps ((Sub.rfl _).mono (by decide +kernel)) (Keeps.rfl _ c)
  have he := ke.canonical hc
  have hsb := hsa.trans hb.1
  obtain ⟨hline, hmiss, hfifo⟩ := pushLine_leaves (p := p) (j := j)
    ⟨line, r.1, sid, known, mrow, px ++ prev.drop px.length, min got k, false⟩ (kb.canonical hc)
  have hce : PortKept p j c e := echo_kept sid line (kc.canonical hc)
  have hpush : (c.camPort p).fifo.length = (s.camPort p).fifo.length + 1 := by
    rw [hfifo (by rw [hb.2, hla]; exact hp) (by rw [hsb.fifo]; exact hlt), hsb.fifo, List.length_append]
    rfl
  rw [if_neg (Nat.not_lt.2 (Nat.le_of_eq hgk.symm)), if_neg (Nat.not_lt.2 (Nat.le_of_eq hgk))]
  refine ⟨?_, ?_, ?_, malfRun_put _ (by decide) he, put_keeps (by decide +kernel) ke⟩
  · rw [(put_malfRun_keeps _).lastLine he (by decide +kernel), kce.lastLine (kc.canonical hc) (by decide +kernel), hline]
  · rw [← hpush, ← hce.fifo]
    rfl
  · rw [← hsb.missing, ← hmiss, ← hce.missing]
    rfl

/-! ### Frames and lines that do not come (R95, R96, R99) -/

theorem after_self (n : LineNo) : after n n = false := by
  simp [after, sdiff]

theorem sdiff_succ (n : LineNo) : sdiff (n + 1) n = 1 := by
  unfold sdiff
  rw [BitVec.add_comm, BitVec.add_sub_cancel]
  rfl

theorem after_succ (n : LineNo) : after (n + 1) n = true := by
  unfold after
  rw [sdiff_succ]
  rfl

/-- R95: a head whose last line comes just before skips none. -/
theorem fillSkip_next {line : LineNo} (h : line = s.lastLine p j + 1) (fuel : Nat) : s.fillSkip p j line fuel = s := by
  cases fuel with
  | zero => rfl
  | succ k =>
    unfold State.fillSkip
    refine if_neg ?_
    rw [← h, after_self]
    simp

/-- R83: the slots of the back-channel change blocks that wait and the wire, and nothing else. -/
theorem backDrain_keepsPorts : Keeps (footOf [.cam, .wire]) s (s.backDrain p) :=
  backDrain_keeps ((Sub.rfl _).mono (by decide +kernel)) (Keeps.rfl _ s)

theorem backSend_length : (s.backSend p).cam.length = s.cam.length := by
  unfold State.backSend
  dsimp only
  split
  · exact List.length_set ..
  · rfl

theorem backDrain_length : (s.backDrain p).cam.length = s.cam.length := by
  unfold State.backDrain
  exact forBelow_induct (P := fun t => t.cam.length = s.cam.length) _ (List.length_set ..) fun _ _ h => backSend_length.trans h

theorem portHeads_eq {M : Nat} (k : Keeps M s t) (hc : s.canonical = true) (hm : M.testBit Reg.CAM_GEOM.part = false) (q : Nat) :
    t.portHeads q = s.portHeads q := by
  unfold State.portHeads
  rw [k.fld hc _ _ hm]

theorem headDepth_eq {M : Nat} (k : Keeps M s t) (hc : s.canonical = true) (hm : M.testBit Reg.CAM_GEOM.part = false) (h : Nat) :
    t.headDepth h = s.headDepth h := by
  unfold State.headDepth
  rw [k.fld hc F.CAM_GEOM_DEPTH0 _ hm, k.fld hc F.CAM_GEOM_DEPTH1 _ hm]

theorem headPixels_eq {M : Nat} (k : Keeps M s t) (hc : s.canonical = true) (hm : M.testBit Reg.CAM_PIXELS.part = false) (h : Nat) :
    t.headPixels h = s.headPixels h := by
  unfold State.headPixels
  rw [k.fld hc F.CAM_PIXELS_PIX0 _ hm, k.fld hc F.CAM_PIXELS_PIX1 _ hm]

/-- What a line leaves as it was lets no access to memory end and no transition go on. -/
theorem memRespond_byLine (k : Keeps byLine s t) (hc : s.canonical = true) (hd : s.mem.done = []) (ht : s.glb.trans = none)
    (hp : s.glb.pend = none) : t.memRespond = t :=
  memRespond_idle ((k.part hc .memDone (by decide +kernel)).trans hd) ((k.part hc .glbTrans (by decide +kernel)).trans ht)
    ((k.part hc .glbPend (by decide +kernel)).trans hp)

variable {mrow sid bits : Nat} {line : LineNo} {hdr : DWord} {data : List DWord} {crc : Word}

/-- R95: an undamaged frame of the line that a head expects next is accepted. -/
theorem lineFrame_accepts (hst : s.camSt p = 4) (hj : j < s.portHeads p) (hcrc : frameCrcOk hdr data crc = true)
    (hline : line = s.lastLine p j + 1) (hmiss : (s.camPort p).missingOf j = [])
    (hgot : pixelCount (8 + 2 * min (s.headDepth (headOf p j)) 4) bits data = s.headPixels (headOf p j))
    (hlt : (s.camPort p).fifo.length < 8) (hp : p < s.cam.length) (hc : s.canonical = true) {t : State}
    (ht : t = s.lineFrame p j mrow sid line hdr data bits crc) :
    t.lastLine p j = line ∧ (t.camPort p).fifo.length = (s.camPort p).fifo.length + 1 ∧ t.fld F.CAM_MALF_RUN_RUN p = 0 ∧
      t.rd .CAM_CRC_CNT p = s.rd .CAM_CRC_CNT p ∧
      (s.mem.done = [] → s.glb.trans = none → s.glb.pend = none → t.memRespond = t) := by
  obtain ⟨u, hu⟩ : ∃ u, u = (s.backDrain p).count .CAM_MISSING_CNT p 0 := ⟨_, rfl⟩
  have ks : Keeps (footOf [.cam, .wire, .reg .CAM_MISSING_CNT]) s u := by
    rw [hu]
    exact count_keeps (by decide +kernel) (backDrain_keeps ((Sub.rfl _).mono (by decide +kernel)) (Keeps.rfl _ s))
  have huc := ks.canonical hc
  have hsu : PortKept p j s u := by
    rw [hu]
    exact backDrain_kept.trans (PortKept.of_cam rfl)
  have hlen : u.cam.length = s.cam.length := by
    rw [hu]
    exact backDrain_length
  have hul : line = u.lastLine p j + 1 := by rw [ks.lastLine hc (by decide +kernel), hline]
  have hust : u.camSt p = 4 := (ks.camSt hc (by decide +kernel)).trans hst
  obtain ⟨h1, h2, h3, h4, ka⟩ := acceptLine_leaves (s := u) (p := p) (j := j) (mrow := mrow) (sid := sid) (line := line)
    (hdr := hdr) (data := data) (bits := bits)
    (by rw [headDepth_eq ks hc (by decide +kernel), headPixels_eq ks hc (by decide +kernel)]; exact hgot)
    (by rw [hlen]; exact hp) (by rw [hsu.fifo]; exact hlt) huc rfl
  have he : s.lineFrame p j mrow sid line hdr data bits crc = u.acceptLine p j mrow sid line hdr data bits := by
    have kd := backDrain_keepsPorts (s := s) (p := p)
    have hdst : (s.backDrain p).camSt p = 4 := (kd.camSt hc (by decide +kernel)).trans hst
    have hdl : line = (s.backDrain p).lastLine p j + 1 := by rw [kd.lastLine hc (by decide +kernel), hline]
    have hcount : (s.backDrain p).count .CAM_MISSING_CNT p (sdiff line ((s.backDrain p).lastLine p j) - 1).toNat = u := by
      rw [hu, hdl, sdiff_succ]
      rfl
    unfold State.lineFrame
    dsimp only
    rw [if_neg (by rw [portHeads_eq kd hc (by decide +kernel)]; omega), if_neg (by simp [hdst]), if_neg (by simp [hdst]),
      if_neg (by simp [hcrc]), if_neg (by rw [hdl, after_succ]; decide), hcount, fillSkip_next hul, if_pos (by simp [hust])]
    exact namedMissing_none (by rw [h3, hsu.missing, hmiss]) _
  rw [← he] at h1 h2 h3 h4 ka
  subst ht
  refine ⟨h1, by rw [h2, hsu.fifo], h4, ?_, fun hd ht hp => ?_⟩
  · rw [ka.rd huc _ _ (by decide +kernel), ks.rd hc _ _ (by decide +kernel)]
  · exact memRespond_byLine ka huc ((ks.part hc .memDone (by decide +kernel)).trans hd)
      ((ks.part hc .glbTrans (by decide +kernel)).trans ht) ((ks.part hc .glbPend (by decide +kernel)).trans hp)

/-- R96: a damaged frame of another line than the next is counted, and is one more malformed line. -/
theorem lineFrame_damaged (hst : s.camSt p = 4) (hj : j < s.portHeads p) (hcrc : frameCrcOk hdr data crc = false)
    (hline : line ≠ s.lastLine p j + 1) (hmiss : (s.camPort p).missingOf j = []) (hrun : s.fld F.CAM_MALF_RUN_RUN p < 15)
    (hc : s.canonical = true) {t : State} (ht : t = s.lineFrame p j mrow sid line hdr data bits crc) :
    Counted s t .CAM_CRC_CNT p ∧ t.fld F.CAM_MALF_RUN_RUN p = s.fld F.CAM_MALF_RUN_RUN p + 1 ∧
      (t.camPort p).fifo = (s.camPort p).fifo ∧ t.lastLine p j = s.lastLine p j ∧ t.camSt p = 4 ∧
      (s.mem.done = [] → s.glb.trans = none → s.glb.pend = none → t.memRespond = t) := by
  obtain ⟨u, hu⟩ : ∃ u, u = (s.backDrain p).count .CAM_CRC_CNT p := ⟨_, rfl⟩
  have kd := backDrain_keepsPorts (s := s) (p := p)
  have hd := kd.canonical hc
  have ks : Keeps (footOf [.cam, .wire, .reg .CAM_CRC_CNT]) s u := by
    rw [hu]
    exact count_keeps (by decide +kernel) (backDrain_keeps ((Sub.rfl _).mono (by decide +kernel)) (Keeps.rfl _ s))
  have huc := ks.canonical hc
  have hsu : PortKept p j s u := by
    rw [hu]
    exact backDrain_kept.trans (PortKept.of_cam rfl)
  have hfld : u.fld F.CAM_MALF_RUN_RUN p = s.fld F.CAM_MALF_RUN_RUN p := ks.fld hc _ _ (by decide +kernel)
  have kt : Keeps (footOf [.cam, .wire, .reg .CAM_CRC_CNT, .reg .CAM_MALF_RUN]) s
      (u.put F.CAM_MALF_RUN_RUN p (s.fld F.CAM_MALF_RUN_RUN p + 1)) := by
    rw [hu]
    exact put_keeps (by decide +kernel) (count_keeps (by decide +kernel) (backDrain_keeps ((Sub.rfl _).mono (by decide +kernel))
      (Keeps.rfl _ s)))
  have he : t = u.put F.CAM_MALF_RUN_RUN p (s.fld F.CAM_MALF_RUN_RUN p + 1) := by
    have hdst : (s.backDrain p).camSt p = 4 := (kd.camSt hc (by decide +kernel)).trans hst
    rw [ht, ← hfld]
    unfold State.lineFrame
    dsimp only
    rw [if_neg (by rw [portHeads_eq kd hc (by decide +kernel)]; omega), if_neg (by simp [hdst]), if_neg (by simp [hdst]),
      if_pos (by simp [hcrc]), if_neg (by rw [kd.lastLine hc (by decide +kernel)]; simpa using hline), ← hu,
      malformed_short (by rw [hfld]; exact hrun)]
    refine namedMissing_none ?_ _
    exact hsu.missing.trans hmiss
  subst he
  refine ⟨?_, malfRun_put _ (by omega) huc, hsu.fifo, kt.lastLine hc (by decide +kernel),
    (kt.camSt hc (by decide +kernel)).trans hst,
    fun hd ht hp => memRespond_idle ((kt.part hc .memDone (by decide +kernel)).trans hd)
      ((kt.part hc .glbTrans (by decide +kernel)).trans ht) ((kt.part hc .glbPend (by decide +kernel)).trans hp)⟩
  unfold Counted
  rw [rd_put_ne _ _ _ _ _ (by decide) huc, ← kd.rd hc _ _ (by decide +kernel), hu]
  exact rd_count_same _ _ _ hd

/-- R99: a line that does not come within its time is replaced, counted and one more malformed line. -/
theorem lineTimeout_replaces (hst : s.camSt p = 4) (hj : j < s.portHeads p)
    (hlate : (s.camPort p).launches.any (fun l => l.line == s.lastLine p j + 1 &&
      decide (l.at_ + 100 * max (s.fld F.CAM_TIMING_LINE_TMO p) 1 < s.clk)) = true)
    (hmiss : (s.camPort p).missingOf j = []) (hrun : s.fld F.CAM_MALF_RUN_RUN p < 15) (hc : s.canonical = true) {t : State}
    (ht : t = s.lineTimeout p j) :
    Counted s t .CAM_MISSING_CNT p ∧ t.lastLine p j = s.lastLine p j + 1 ∧ t.camSt p = 4 ∧
      t.fld F.CAM_MALF_RUN_RUN p = s.fld F.CAM_MALF_RUN_RUN p + 1 ∧
      (s.mem.done = [] → s.glb.trans = none → s.glb.pend = none → t.memRespond = t) := by
  obtain ⟨u, hu⟩ : ∃ u, u = s.count .CAM_MISSING_CNT p := ⟨_, rfl⟩
  have ks : Keeps (footOf [.reg .CAM_MISSING_CNT]) s u := by
    rw [hu]
    exact count_keeps (by decide +kernel) (Keeps.rfl _ s)
  have huc := ks.canonical hc
  have hsu : PortKept p j s u := by
    rw [hu]
    exact PortKept.of_cam rfl
  have hfld : u.fld F.CAM_MALF_RUN_RUN p = s.fld F.CAM_MALF_RUN_RUN p := ks.fld hc _ _ (by decide +kernel)
  obtain ⟨h1, h2, h3, k⟩ := replaceLine_leaves (p := p) (j := j) (s.lastLine p j + 1) (by rw [hfld]; exact hrun) huc
  have hmax : atLeast1 (s.fld F.CAM_TIMING_LINE_TMO p) = max (s.fld F.CAM_TIMING_LINE_TMO p) 1 := by
    unfold atLeast1
    split
    · next h => rw [beq_iff_eq.1 h]; rfl
    · next h => exact (Nat.max_eq_left (Nat.pos_of_ne_zero (by simpa using h))).symm
  have he : t = u.replaceLine p j (s.lastLine p j + 1) := by
    rw [ht]
    unfold State.lineTimeout
    dsimp only
    rw [hmax, if_pos (by simp only [hst, hj, hlate]; rfl), ← hu]
    exact namedMissing_none (h2.trans (hsu.missing.trans hmiss)) _
  subst he
  refine ⟨?_, h1, ?_, by rw [h3, hfld], fun hd ht hp => memRespond_byLine k huc
    ((ks.part hc .memDone (by decide +kernel)).trans hd)
    ((ks.part hc .glbTrans (by decide +kernel)).trans ht) ((ks.part hc .glbPend (by decide +kernel)).trans hp)⟩
  · unfold Counted
    rw [k.rd huc _ _ (by decide +kernel), hu]
    exact rd_count_same _ _ _ hc
  · exact (k.camSt huc (by decide +kernel)).trans ((ks.camSt hc (by decide +kernel)).trans hst)

/-! ### The obligation -/

/-- Settles O24: a good frame of the next line is accepted, a damaged one counted, and a late line replaced. -/
theorem cameraLines : Obligations.CameraLines := by
  unfold Obligations.CameraLines
  refine ⟨?accepted, ?damaged, ?late⟩
  case accepted =>
    intro s p j mrow sid line hdr data bits crc hc hst hj hcrc hline hmiss hgot hlt hp hd ht hpend
    obtain ⟨h1, h2, h3, h4, h5⟩ := lineFrame_accepts (mrow := mrow) (sid := sid) hst hj hcrc hline hmiss hgot hlt hp hc rfl
    exact ⟨_, congrArg Host.Outcome.next (h5 hd ht hpend), h1, h2, h3, h4⟩
  case damaged =>
    intro s p j mrow sid line hdr data bits crc hc hst hj hcrc hline hmiss hrun hd ht hpend
    obtain ⟨h1, h2, h3, h4, h5, h6⟩ := lineFrame_damaged (mrow := mrow) (sid := sid) (bits := bits) hst hj hcrc hline hmiss hrun
      hc rfl
    exact ⟨_, congrArg Host.Outcome.next (h6 hd ht hpend), h1, h2, h3, h4, h5⟩
  case late =>
    intro s u dt p j hc hu hst hj hlate hmiss hrun hd ht hpend
    have huc : u.canonical = true := by
      rw [hu]
      exact canonical_advance dt hc
    obtain ⟨h1, h2, h3, h4, h5⟩ := lineTimeout_replaces hst hj hlate hmiss hrun huc rfl
    have he : exec (.lineTimeout dt p j) s = .next (u.lineTimeout p j) := by
      refine congrArg Host.Outcome.next (Eq.trans ?_ (h5 hd ht hpend))
      rw [hu]
    exact ⟨_, he, h1, h2, h3, h4⟩

end Sys2Proof.Machine
end

section
/-! PROOFS. The exposure loop (spec/04 R132, R133): what it waits for, what it commits, and what a clamp shows. -/

namespace Sys2Proof.Machine

variable {s t : State} {p : Nat}

/-! ### When the loop runs -/

/-- The number of strips that every head of a port has closed. -/
def State.leastClosed (s : State) (p : Nat) : Nat :=
  (List.range (s.portHeads p)).foldl (fun m j => min m (s.corHead (headOf p j)).closed) (s.corHead (headOf p 0)).closed

/-- The port's loop has run at a number of closed strips. -/
def State.loopRan (s : State) (p n : Nat) : State := s.setCorPort p { s.corPort p with ran := n }

theorem corPort_setCorPort (x : CorPort) (q : Nat) :
    (s.setCorPort p x).corPort q = if p = q ∧ p < s.cor.ports.length then x else s.corPort q := by
  unfold State.corPort State.setCorPort
  simp only [List.getD_eq_getElem?_getD, List.getElem?_set]
  by_cases hq : p = q
  · subst hq
    by_cases hp : p < s.cor.ports.length <;> simp [hp]
  · simp [hq]

theorem echoedAll_loopRan (n k : Nat) : (s.loopRan p n).echoedAll p k = s.echoedAll p k := by
  have he : ((s.loopRan p n).corPort p).echoed = (s.corPort p).echoed := by
    unfold State.loopRan
    rw [corPort_setCorPort]
    split <;> rfl
  unfold State.echoedAll
  rw [he]
  rfl

theorem loopRan_keeps (n : Nat) : Keeps (footOf [.cor]) s (s.loopRan p n) :=
  setCorPort_keeps (sub_foot (p := .cor) (by decide)) (Keeps.rfl _ s)

theorem execExposureLoopRun_runs {p : Fin 16} (hen : s.bit F.COR_EXP_CFG_EN p = true) (hn : s.portHeads p ≠ 0)
    (hl : (s.corPort p).ran < s.leastClosed p) :
    execExposureLoopRun p s = .next ((s.loopRan p (s.leastClosed p)).exposureRun p) :=
  congrArg Host.Outcome.next (if_pos (by simpa [hen, hn, State.leastClosed] using hl))

/-! ### A run of the loop -/

/-- The heads that a port's loop looks at. -/
def State.loopHeads (s : State) (p : Nat) : List CorHead := (List.range (s.portHeads p)).map (fun j => s.corHead (headOf p j))

/-- R131: the highest level of the spans of a SID. -/
def State.loopLevel (s : State) (p k : Nat) : Nat :=
  (s.loopHeads p).foldl (fun a c => (c.spansOf k).foldl (fun b sp => max b (spanLevel (s.expPct p) sp)) a) 0

/-- R132: the loop takes a step: every head has echoed the SID and has lines enough of it, and the level lies outside the
dead band. -/
structure State.LoopSteps (s : State) (p : Nat) : Prop where
  echoed : s.echoedAll p (s.fld F.COR_EXP_STATE_SID p) = true
  lines : ∀ c ∈ s.loopHeads p,
    s.fld F.COR_EXP_STEP_MIN_LINES p ≤ sumN ((c.spansOf (s.fld F.COR_EXP_STATE_SID p)).map (fun sp => sp.lines))
  lit : s.loopLevel p (s.fld F.COR_EXP_STATE_SID p) ≠ 0
  off : s.fld F.COR_EXP_STEP_DEADBAND p * s.loopLevel p (s.fld F.COR_EXP_STATE_SID p) ≤
    absN ((s.fld F.COR_EXP_CFG_TARGET p : Int) - s.loopLevel p (s.fld F.COR_EXP_STATE_SID p)) * 200

theorem State.LoopSteps.loopRan (h : s.LoopSteps p) (n : Nat) : (s.loopRan p n).LoopSteps p :=
  ⟨(echoedAll_loopRan n _).trans h.echoed, h.lines, h.lit, h.off⟩

/-- R132: the new exposure and whether a clamp acted, at the level the loop sees. -/
def State.loopStep (s : State) (p : Nat) : Nat × Bool :=
  s.expStep p (s.loopLevel p (s.fld F.COR_EXP_STATE_SID p)) (s.fld F.COR_EXP_STATE_EXPOSURE p)

/-- R133: what shows that a clamp acted. -/
def State.loopLimited (s : State) (p : Nat) (c : Bool) : State :=
  if c then ((s.put F.COR_EXP_STATE_LIMIT p 1).count .COR_EXP_LIMIT_CNT).raise F.COR_EVENT_EXP_LIMIT else s

theorem exposureRun_waits (h : s.echoedAll p (s.fld F.COR_EXP_STATE_SID p) = false) :
    s.exposureRun p = s.put F.COR_EXP_STATE_WAIT p 1 :=
  if_pos (by rw [h]; rfl)

/-- The step looks only at the registers that set it, none of which WAIT belongs to. -/
theorem expStep_putWait (v m now : Nat) (hc : s.canonical = true) :
    (s.put F.COR_EXP_STATE_WAIT p v).expStep p m now = s.expStep p m now := by
  unfold State.expStep
  rw [fld_put_apart _ F.COR_EXP_CFG_TARGET _ _ _ rfl hc, fld_put_apart _ F.COR_EXP_STEP_STEP_MAX _ _ _ rfl hc,
    fld_put_apart _ F.COR_EXP_STEP_K _ _ _ rfl hc, fld_put_apart _ F.COR_EXP_LIM_EXP_MIN _ _ _ rfl hc,
    fld_put_apart _ F.COR_EXP_LIM_EXP_MAX _ _ _ rfl hc]

theorem expPct_putWait (v : Nat) (hc : s.canonical = true) :
    (s.put F.COR_EXP_STATE_WAIT p v).expPct p = s.expPct p := by
  unfold State.expPct
  rw [fld_put_apart _ F.COR_EXP_CFG_PCT _ _ _ rfl hc]

/-- R132: a run that takes a step shows a clamp that acted, and commits the exposure if it is a new one. -/
theorem exposureRun_steps (h : s.LoopSteps p) (hc : s.canonical = true) {u : State}
    (hu : u = (s.put F.COR_EXP_STATE_WAIT p 0).loopLimited p (s.loopStep p).2) :
    s.exposureRun p = if (s.loopStep p).1 = s.fld F.COR_EXP_STATE_EXPOSURE p then u else
      ((u.commitExposure p (nextSid (s.fld F.COR_EXP_STATE_SID p)) (s.loopStep p).1).count .COR_EXP_CHANGE_CNT).putB
        F.COR_EXP_STATE_LIMIT p (s.loopStep p).2 := by
  unfold State.exposureRun
  extract_lets k now heads need v pct m r w x
  have hecho : s.echoedAll p k = true := h.echoed
  have hlines : heads.any (fun c => decide (sumN ((c.spansOf k).map (·.lines)) < need)) = false :=
    List.any_eq_false.2 fun c hc => by simpa using h.lines c hc
  have hm : m = s.loopLevel p k := by
    simp only [m, pct, v, expPct_putWait _ hc]
    rfl
  have hr : r = s.loopStep p := by
    simp only [r, v, hm, expStep_putWait _ _ _ hc]
    rfl
  have hoff : (m == 0 || decide (absN ((v.fld F.COR_EXP_CFG_TARGET p : Int) - m) * 200 <
      v.fld F.COR_EXP_STEP_DEADBAND p * m)) = false := by
    rw [fld_put_apart _ F.COR_EXP_CFG_TARGET _ _ _ rfl hc, fld_put_apart _ F.COR_EXP_STEP_DEADBAND _ _ _ rfl hc, hm]
    exact Bool.or_eq_false_iff.2 ⟨beq_eq_false_iff_ne.2 h.lit, decide_eq_false (Nat.not_lt.2 h.off)⟩
  have hw : w = u := by
    rw [hu, ← hr]
    rfl
  have hx : x = (u.commitExposure p (nextSid k) (s.loopStep p).1).count .COR_EXP_CHANGE_CNT := by
    rw [← hw, ← hr]
  rw [hecho, hlines, hoff, hw, hx, hr]
  simp only [beq_iff_eq]
  rfl

/-! ### What a run leaves -/

/-- R132: the new exposure lies within the limits, which are 16 bits wide. -/
theorem expStep_lt (m now : Nat) : (s.expStep p m now).1 < 2 ^ 16 := by
  have hfld : ∀ f : Fld, f.width = 16 → (s.fld f p : Int) < 2 ^ 16 := fun f hf => by
    have hlt : s.fld f p < 2 ^ f.width := Nat.mod_lt _ (Nat.two_pow_pos _)
    rw [hf] at hlt
    omega
  have hmin := hfld F.COR_EXP_LIM_EXP_MIN rfl
  have hmax := hfld F.COR_EXP_LIM_EXP_MAX rfl
  unfold State.expStep clampI
  dsimp only
  split
  · omega
  · split <;> omega

theorem nextSid_lt (k : Nat) : nextSid k < 2 ^ 8 := by
  unfold nextSid
  split <;> omega

/-- A clamp shows in LIMIT, the event and its count; nothing else of the loop's registers moves. -/
theorem loopLimited_leaves (c : Bool) (hc : s.canonical = true) (ht : t = s.loopLimited p c) :
    t.canonical = true ∧ t.fld F.COR_EXP_STATE_WAIT p = s.fld F.COR_EXP_STATE_WAIT p ∧
    t.fld F.COR_EXP_STATE_SID p = s.fld F.COR_EXP_STATE_SID p ∧
    t.fld F.COR_EXP_STATE_EXPOSURE p = s.fld F.COR_EXP_STATE_EXPOSURE p ∧
    t.rd .COR_EXP_CHANGE_CNT = s.rd .COR_EXP_CHANGE_CNT ∧
    (c = true → t.fld F.COR_EXP_STATE_LIMIT p = 1 ∧ t.fld F.COR_EVENT_EXP_LIMIT = 1 ∧ Counted s t .COR_EXP_LIMIT_CNT) := by
  subst ht
  cases c with
  | false => exact ⟨hc, rfl, rfl, rfl, rfl, fun h => nomatch h⟩
  | true =>
    have h1 := canonical_put F.COR_EXP_STATE_LIMIT p 1 hc
    have h2 := canonical_count .COR_EXP_LIMIT_CNT 0 1 h1
    rw [show s.loopLimited p true =
      ((s.put F.COR_EXP_STATE_LIMIT p 1).count .COR_EXP_LIMIT_CNT).raise F.COR_EVENT_EXP_LIMIT from rfl]
    have hfld : ∀ f : Fld, f.reg = .COR_EXP_STATE →
        (((s.put F.COR_EXP_STATE_LIMIT p 1).count .COR_EXP_LIMIT_CNT).raise F.COR_EVENT_EXP_LIMIT).fld f p =
          (s.put F.COR_EXP_STATE_LIMIT p 1).fld f p :=
      fun f hf => by
        have hapart : F.COR_EVENT_EXP_LIMIT.apart f = true := by
          unfold Fld.apart
          rw [hf]
          rfl
        rw [fld_raise_apart _ _ _ _ (by rw [hf]; rfl) hapart h2, fld_count _ _ _ _ _ (by rw [hf]; decide) h1]
    refine ⟨canonical_raise _ _ h2, ?_, ?_, ?_, ?_, fun _ => ⟨?_, ?_, ?_⟩⟩
    · exact (hfld F.COR_EXP_STATE_WAIT rfl).trans (fld_put_apart _ _ _ _ _ rfl hc)
    · exact (hfld F.COR_EXP_STATE_SID rfl).trans (fld_put_apart _ _ _ _ _ rfl hc)
    · exact (hfld F.COR_EXP_STATE_EXPOSURE rfl).trans (fld_put_apart _ _ _ _ _ rfl hc)
    · exact (rd_raise_other _ _ _ _ rfl (by decide) h2).trans ((rd_count_ne _ _ _ _ _ (by decide) h1).trans
        (rd_put_ne _ _ _ _ _ (by decide) hc))
    · exact (hfld F.COR_EXP_STATE_LIMIT rfl).trans (fld_put_same _ _ _ (by decide) hc)
    · exact fld_raise_same _ _ rfl (by decide) rfl h2
    · refine (rd_raise_other _ _ _ _ rfl (by decide) h2).trans ((rd_count_same _ _ _ h1).trans ?_)
      rw [rd_put_ne _ _ _ _ _ (by decide) hc]

theorem commitSet_keepsRegs (k : Nat) (vals : List Nat) : Keeps (footOf [.cam, .cor, .wire]) s (s.commitSet p k vals) :=
  commitSet_keeps ((Sub.rfl _).mono (by decide +kernel)) (Keeps.rfl _ s)

theorem commitExposure_keepsRegs (k v : Nat) :
    Keeps (footOf [.cam, .cor, .wire, .reg .COR_EXP_STATE]) s (s.commitExposure p k v) :=
  commitExposure_keeps ((Sub.rfl _).mono (by decide +kernel)) (Keeps.rfl _ s)

/-- R132: the SID and the exposure that are committed stand in the loop's state. -/
theorem commitExposure_state {k v : Nat} (hk : k < 2 ^ 8) (hv : v < 2 ^ 16) (hc : s.canonical = true) :
    (s.commitExposure p k v).fld F.COR_EXP_STATE_SID p = k ∧ (s.commitExposure p k v).fld F.COR_EXP_STATE_EXPOSURE p = v ∧
    (s.commitExposure p k v).fld F.COR_EXP_STATE_WAIT p = s.fld F.COR_EXP_STATE_WAIT p := by
  unfold State.commitExposure
  extract_lets +onlyGivenNames u w c
  have ku : Keeps (footOf [.cam, .cor, .wire]) s u := commitSet_keepsRegs _ _
  have hu := ku.canonical hc
  have h1 := canonical_put F.COR_EXP_STATE_SID p k hu
  have hw : ∀ f, (w.setCorPort p { c with exps := ((k, v) :: c.exps).take 8 }).fld f p = w.fld f p := fun _ => rfl
  rw [hw, hw, hw]
  refine ⟨?_, ?_, ?_⟩
  · exact (fld_put_apart _ _ _ _ _ rfl h1).trans ((fld_put_same _ _ _ (by decide) hu).trans (Nat.mod_eq_of_lt hk))
  · exact (fld_put_same _ _ _ (by decide) h1).trans (Nat.mod_eq_of_lt hv)
  · exact (fld_put_apart _ _ _ _ _ rfl h1).trans ((fld_put_apart _ _ _ _ _ rfl hu).trans (ku.fld hc _ _ (by decide +kernel)))

/-- R132: the commit of a new exposure, with the change that is counted and the clamp that shows. -/
theorem loopCommit_leaves {k v : Nat} (c : Bool) (hk : k < 2 ^ 8) (hv : v < 2 ^ 16) (hc : s.canonical = true)
    (ht : t = ((s.commitExposure p k v).count .COR_EXP_CHANGE_CNT).putB F.COR_EXP_STATE_LIMIT p c) :
    t.fld F.COR_EXP_STATE_WAIT p = s.fld F.COR_EXP_STATE_WAIT p ∧ t.fld F.COR_EXP_STATE_EXPOSURE p = v ∧
    t.fld F.COR_EXP_STATE_SID p = k ∧ t.fld F.COR_EXP_STATE_LIMIT p = b2n c ∧ Counted s t .COR_EXP_CHANGE_CNT ∧
    t.rd .COR_EXP_LIMIT_CNT = s.rd .COR_EXP_LIMIT_CNT := by
  subst ht
  have ke := commitExposure_keepsRegs (s := s) (p := p) k v
  have h1 := ke.canonical hc
  have h2 := canonical_count .COR_EXP_CHANGE_CNT 0 1 h1
  obtain ⟨hsid, hexp, hwait⟩ := commitExposure_state (p := p) hk hv hc
  refine ⟨?_, ?_, ?_, ?_, ?_, ?_⟩
  · exact (fld_put_apart _ _ _ _ _ rfl h2).trans ((fld_count _ _ _ _ _ (by decide) h1).trans hwait)
  · exact (fld_put_apart _ _ _ _ _ rfl h2).trans ((fld_count _ _ _ _ _ (by decide) h1).trans hexp)
  · exact (fld_put_apart _ _ _ _ _ rfl h2).trans ((fld_count _ _ _ _ _ (by decide) h1).trans hsid)
  · refine (fld_put_same _ _ _ (by decide) h2).trans ?_
    cases c <;> rfl
  · refine (rd_put_ne _ _ _ _ _ (by decide) h2).trans ((rd_count_same _ _ _ h1).trans ?_)
    rw [ke.rd hc _ _ (by decide +kernel)]
  · exact (rd_put_ne _ _ _ _ _ (by decide) h2).trans ((rd_count_ne _ _ _ _ _ (by decide) h1).trans
      (ke.rd hc _ _ (by decide +kernel)))

/-- R132: a run whose step gives another exposure commits it under the next SID. -/
theorem exposureRun_commits (h : s.LoopSteps p) (hne : (s.loopStep p).1 ≠ s.fld F.COR_EXP_STATE_EXPOSURE p)
    (hc : s.canonical = true) (ht : t = s.exposureRun p) :
    t.fld F.COR_EXP_STATE_WAIT p = 0 ∧ t.fld F.COR_EXP_STATE_EXPOSURE p = (s.loopStep p).1 ∧
    t.fld F.COR_EXP_STATE_SID p = nextSid (s.fld F.COR_EXP_STATE_SID p) ∧
    t.fld F.COR_EXP_STATE_LIMIT p = b2n (s.loopStep p).2 ∧ Counted s t .COR_EXP_CHANGE_CNT ∧
    ((s.loopStep p).2 = true → Counted s t .COR_EXP_LIMIT_CNT) := by
  have h0 := canonical_put F.COR_EXP_STATE_WAIT p 0 hc
  obtain ⟨hu, hwait, -, -, hchange, hlimit⟩ := loopLimited_leaves (p := p) (s.loopStep p).2 h0 rfl
  rw [exposureRun_steps h hc rfl, if_neg hne] at ht
  obtain ⟨twait, texp, tsid, tlim, tchange, tlimit⟩ := loopCommit_leaves (s.loopStep p).2 (nextSid_lt _) (expStep_lt _ _) hu ht
  refine ⟨twait.trans (hwait.trans (fld_put_same _ _ _ (by decide) hc)), texp, tsid, tlim, ?_, fun hcl => ?_⟩
  · unfold Counted at tchange ⊢
    rw [tchange, hchange, rd_put_ne _ _ _ _ _ (by decide) hc]
  · obtain ⟨-, -, hcount⟩ := hlimit hcl
    unfold Counted at hcount ⊢
    rw [tlimit, hcount, rd_put_ne _ _ _ _ _ (by decide) hc]

/-- R133: a clamp that acts shows also when the exposure stays. -/
theorem exposureRun_clamped (h : s.LoopSteps p) (hst : s.loopStep p = (s.fld F.COR_EXP_STATE_EXPOSURE p, true))
    (hc : s.canonical = true) (ht : t = s.exposureRun p) :
    t.fld F.COR_EXP_STATE_WAIT p = 0 ∧ t.fld F.COR_EXP_STATE_EXPOSURE p = s.fld F.COR_EXP_STATE_EXPOSURE p ∧
    t.fld F.COR_EXP_STATE_SID p = s.fld F.COR_EXP_STATE_SID p ∧ t.fld F.COR_EXP_STATE_LIMIT p = 1 ∧
    t.fld F.COR_EVENT_EXP_LIMIT = 1 ∧ Counted s t .COR_EXP_LIMIT_CNT ∧
    t.rd .COR_EXP_CHANGE_CNT = s.rd .COR_EXP_CHANGE_CNT := by
  have h0 := canonical_put F.COR_EXP_STATE_WAIT p 0 hc
  rw [exposureRun_steps h hc rfl, hst, if_pos rfl] at ht
  obtain ⟨-, hwait, hsid, hexp, hchange, hlimit⟩ := loopLimited_leaves true h0 ht
  obtain ⟨hlim, hevent, hcount⟩ := hlimit rfl
  refine ⟨hwait.trans (fld_put_same _ _ _ (by decide) hc), hexp.trans (fld_put_apart _ _ _ _ _ rfl hc),
    hsid.trans (fld_put_apart _ _ _ _ _ rfl hc), hlim, hevent, ?_, hchange.trans (rd_put_ne _ _ _ _ _ (by decide) hc)⟩
  unfold Counted at hcount ⊢
  rw [hcount, rd_put_ne _ _ _ _ _ (by decide) hc]

/-! ### The obligation -/

/-- Settles O27: the loop runs once for each strip that all heads have closed, and waits, commits or shows its clamp. -/
theorem exposureLoop : Obligations.ExposureLoop := by
  unfold Obligations.ExposureLoop
  refine ⟨?waits, ?commits, ?clamped, ?off⟩
  case waits =>
    rintro s p _ hc hen hn rfl hran hecho
    have kr := loopRan_keeps (s := s) (p := p) (s.leastClosed p)
    have he : exec (.exposureLoopRun p) s = .next ((s.loopRan p (s.leastClosed p)).put F.COR_EXP_STATE_WAIT p 1) :=
      (execExposureLoopRun_runs hen hn hran).trans
        (congrArg Host.Outcome.next (exposureRun_waits ((echoedAll_loopRan _ _).trans hecho)))
    have hu := kr.canonical hc
    refine ⟨_, he, fld_put_same _ _ _ (by decide) hu, fld_put_apart _ _ _ _ _ rfl hu, ?_⟩
    exact Keeps.onlyFoot (put_keeps (reg_foot (by decide)) (setCorPort_keeps (sub_foot (p := .cor) (by decide)) (Keeps.rfl _ s))) hc
  case commits =>
    rintro s p _ _ _ _ _ hc hen hn rfl hran rfl rfl rfl hecho hlines rfl hlit hoff hne
    have hs : s.LoopSteps p := ⟨hecho, hlines, hlit, hoff⟩
    exact ⟨_, execExposureLoopRun_runs hen hn hran,
      exposureRun_commits (s := s.loopRan p (s.leastClosed p)) (hs.loopRan _) hne ((loopRan_keeps _).canonical hc) rfl⟩
  case clamped =>
    rintro s p _ _ _ _ _ hc hen hn rfl hran rfl rfl rfl hecho hlines rfl hlit hoff hst
    have hs : s.LoopSteps p := ⟨hecho, hlines, hlit, hoff⟩
    exact ⟨_, execExposureLoopRun_runs hen hn hran,
      exposureRun_clamped (s := s.loopRan p (s.leastClosed p)) (hs.loopRan _) hst ((loopRan_keeps _).canonical hc) rfl⟩
  case off =>
    intro s p hen
    exact ⟨s, congrArg Host.Outcome.next (if_neg (by simp [hen])), rfl⟩

end Sys2Proof.Machine
end

section
/-! PROOFS. Flat-field runs (spec/04 R137 to R139, R142): their verdicts, their table writes and their retries. -/

namespace Sys2Proof.Machine

variable {s t u : State} {h : Nat} {r : FfRun}

/-! ### Heads and their state codes -/

theorem corHead_setCorHead_same (x : CorHead) (hl : h < s.cor.heads.length) : (s.setCorHead h x).corHead h = x :=
  (corHead_setCorHead h h x).trans (if_pos ⟨rfl, hl⟩)

/-- A head with a run or a wait is one of the heads of COR. -/
theorem corHead_listed (hne : s.corHead h ≠ CorHead.fresh) : h < s.cor.heads.length :=
  Decidable.byContradiction fun hl => hne (corHead_unlisted hl)

theorem corHead_listed_of_run (hr : (s.corHead h).run = some r) : h < s.cor.heads.length :=
  corHead_listed fun he => by
    rw [he] at hr
    cases hr

theorem corHead_listed_of_retry {n : Nat} (hr : (s.corHead h).retry = some n) : h < s.cor.heads.length :=
  corHead_listed fun he => by
    rw [he] at hr
    cases hr

theorem ffState_putFfState {code : Nat} (hcode : code < 4) (hc : s.canonical = true) :
    (s.putFfState h code).ffState h = code :=
  (fld_put_same ⟨.COR_FF_STATE, 2 * (h % 16), 2⟩ (h / 16) code (by dsimp only; omega) hc).trans (Nat.mod_eq_of_lt hcode)

theorem Keeps.ffState {M : Nat} (k : Keeps M s t) (hc : s.canonical = true)
    (hm : M.testBit Reg.COR_FF_STATE.part = false) : t.ffState h = s.ffState h :=
  k.fld hc _ _ hm

/-! ### The verdict on a run (R137) -/

/-- R137: the rejected columns of a run: a dark run rejects none. -/
def State.ffRejects (s : State) (h : Nat) (r : FfRun) : Nat := if r.dark then 0 else s.ffRejected h r

/-- R137: the result code of a run whose second window has ended. -/
def State.ffVerdict (s : State) (h : Nat) (r : FfRun) : Nat :=
  if !r.dark && decide (F.COR_FF_TOL_REJ_MAX.get r.tol * s.headPixels h < s.ffRejects h r * 1000) then 4
  else if s.ffDisagree h r != 0 then (if r.dark then 3 else 2)
  else if r.dark then 1 else 0

theorem ffRejects_gain (hg : r.dark = false) : s.ffRejects h r = s.ffRejected h r :=
  if_neg (by simp [hg])

theorem ffVerdict_accepted (hbad : s.ffDisagree h r = 0)
    (hrej : r.dark = false → s.ffRejected h r * 1000 ≤ F.COR_FF_TOL_REJ_MAX.get r.tol * s.headPixels h) :
    s.ffVerdict h r = b2n r.dark := by
  have hmany : (!r.dark && decide (F.COR_FF_TOL_REJ_MAX.get r.tol * s.headPixels h < s.ffRejects h r * 1000)) = false := by
    rw [Bool.and_eq_false_imp]
    intro hg
    rw [ffRejects_gain (by simpa using hg)]
    exact decide_eq_false (Nat.not_lt.2 (hrej (by simpa using hg)))
  unfold State.ffVerdict
  rw [hmany, hbad]
  rfl

theorem ffVerdict_failed (hfail : s.ffDisagree h r ≠ 0 ∨
    r.dark = false ∧ F.COR_FF_TOL_REJ_MAX.get r.tol * s.headPixels h < s.ffRejected h r * 1000) :
    1 < s.ffVerdict h r := by
  unfold State.ffVerdict
  split
  · decide
  · next hmany =>
    have hbad : s.ffDisagree h r ≠ 0 := hfail.resolve_right fun ⟨hg, hlt⟩ =>
      hmany (by rw [ffRejects_gain hg, hg, decide_eq_true hlt]; rfl)
    rw [if_pos (bne_iff_ne.2 hbad)]
    split <;> decide

theorem ffVerdict_lt : s.ffVerdict h r < 8 := by
  unfold State.ffVerdict
  split
  · decide
  · split <;> split <;> decide

/-- R137: a run's rejected columns are counted and its verdict is shown in COR_FF_LAST. -/
def State.ffShown (s : State) (h : Nat) (r : FfRun) : State :=
  (if r.dark then s else s.count .COR_FF_REJ_CNT 0 (s.ffRejects h r)).wr .COR_FF_LAST 0
    (BitVec.ofNat 32 (h * 2 ^ 27 + s.ffVerdict h r * 2 ^ 24 + min (s.ffDisagree h r + s.ffRejects h r) 32767))

/-- A head whose run has been accepted, as it waits for the boundary (R139, R140). -/
def CorHead.taken (c : CorHead) (r : FfRun) : CorHead :=
  { c with run := some { r with res := ffMean r.one r.res, done := false } }

/-- A run's verdict is shown, counted and raised. -/
def State.ffEnded (s : State) (h : Nat) (r : FfRun) (q : Reg) (f : Fld) : State := ((s.ffShown h r).count q).raise f

/-- What else an accepted run may change: its head, what mode control and the port's rehearsal have met, the staged shading
bank and the calibration summary (R137, R139, R140). -/
def ffTakes : List Part := [.cor, .glb, .cam, .tables, .pwr, .reg .COR_OFS_OLD]

/-- R138, R142: a run that has failed makes a triggered head wait. -/
def State.ffWaits (s : State) (h : Nat) (r : FfRun) : State :=
  if r.trigger = .temperature then s.setCorHead h { s.corHead h with retry := some r.pause } else s

theorem ffComplete_fails (hr : (s.corHead h).run = some r) (hd : r.done = true) (hv : 1 < s.ffVerdict h r) :
    s.ffComplete h = ((s.ffEnded h r .COR_FF_FAIL_CNT F.COR_EVENT_FF_FAIL).ffDrop h).ffWaits h r := by
  unfold State.ffComplete
  extract_lets c
  split
  · next hn => cases hr.symm.trans hn
  · next q hq =>
    cases hr.symm.trans hq
    extract_lets +onlyGivenNames bad rej many a code b
    rw [if_neg (by simp [hd]), if_pos (show 1 < code from hv)]
    simp only [beq_iff_eq]
    rfl

theorem ffComplete_accepts (hr : (s.corHead h).run = some r) (hd : r.done = true) (hv : ¬ 1 < s.ffVerdict h r) :
    Keeps (footOf ffTakes) (((s.ffEnded h r .COR_FF_ACCEPT_CNT F.COR_EVENT_FF_ACCEPT).setCorHead h
      ((s.corHead h).taken r)).putFfState h 3) (s.ffComplete h) := by
  have hm : Sub (footOf ffTakes) (footOf ffTakes) := Sub.rfl _
  unfold State.ffComplete
  extract_lets c
  split
  · next hn => cases hr.symm.trans hn
  · next q hq =>
    cases hr.symm.trans hq
    extract_lets +onlyGivenNames bad rej many a code b
    rw [if_neg (by simp [hd]), if_neg (show ¬ 1 < code from hv)]
    extract_lets +onlyGivenNames res d u
    have hu : u = ((s.ffEnded h r .COR_FF_ACCEPT_CNT F.COR_EVENT_FF_ACCEPT).setCorHead h ((s.corHead h).taken r)).putFfState h 3 :=
      rfl
    rw [← hu]
    split
    · extract_lets +onlyGivenNames v
      have kv : Keeps (footOf ffTakes) u v := putB_keeps (reg_foot (r := .COR_OFS_OLD) (by decide)) (Keeps.rfl _ u)
      exact calibGroup_keeps (sub_foot (p := .pwr) (by decide))
        (keeps_ite (upd_glb_keeps (sub_foot (p := .glb) (by decide)) (.inr rfl) (.inr rfl) (.inr rfl) kv) kv)
    · extract_lets +onlyGivenNames head v glb w cam x
      have kv : Keeps (footOf ffTakes) u v := setCorHead_keeps (sub_foot (p := .cor) (by decide)) (Keeps.rfl _ u)
      have kw : Keeps (footOf ffTakes) u w :=
        keeps_ite (upd_glb_keeps (sub_foot (p := .glb) (by decide)) (.inr rfl) (.inr rfl) (.inr rfl) kv)
          (fillBank_keeps (sub_foot (p := .tables) (by decide)) kv)
      have kx : Keeps (footOf ffTakes) u x := keeps_ite (setCamPort_keeps (sub_foot (p := .cam) (by decide)) kw) kw
      exact calibGroup_keeps (sub_foot (p := .pwr) (by decide)) kx

/-! ### What the end of a run leaves (R137, R138) -/

theorem ffLast_head {k n : Nat} (hh : h < 32) (hk : k < 8) (hn : n ≤ 32767) :
    F.COR_FF_LAST_HEAD.get (BitVec.ofNat 32 (h * 2 ^ 27 + k * 2 ^ 24 + n)) = h := by
  unfold Fld.get bitsOf
  rw [BitVec.toNat_ofNat]
  dsimp only [F.COR_FF_LAST_HEAD]
  omega

theorem ffLast_result {k n : Nat} (hk : k < 8) (hn : n ≤ 32767) :
    F.COR_FF_LAST_RESULT.get (BitVec.ofNat 32 (h * 2 ^ 27 + k * 2 ^ 24 + n)) = k := by
  unfold Fld.get bitsOf
  rw [BitVec.toNat_ofNat]
  dsimp only [F.COR_FF_LAST_RESULT]
  omega

/-- The counters of the runs that were accepted and of those that failed. -/
def ffCounters : List Reg := [.COR_FF_ACCEPT_CNT, .COR_FF_FAIL_CNT]

/-- The registers in which the end of a run shows. -/
def ffShows : List Reg := [.COR_FF_LAST, .COR_FF_REJ_CNT, .COR_EVENT]

theorem ffCounters_apart : ∀ q ∈ ffCounters, fireMask.testBit q.part = false ∧ ∀ o ∈ ffShows, q.part ≠ o.part := by
  decide +kernel

/-- The end of a run of head `h` as it shows: counted in `q`, and in no other of the two counters, raised as `f`, and named in
COR_FF_LAST. -/
structure FfEnd (s t : State) (h : Nat) (r : FfRun) (q : Reg) (f : Fld) : Prop where
  counted : Counted s t q
  other : ∀ o ∈ ffCounters, o ≠ q → t.rd o = s.rd o
  event : t.fld f = 1
  head : t.fld F.COR_FF_LAST_HEAD = h
  result : t.fld F.COR_FF_LAST_RESULT = s.ffVerdict h r
  rejected : r.dark = false → Counted s t .COR_FF_REJ_CNT 0 (s.ffRejected h r)

/-- What leaves those registers alone leaves the end of a run as it shows. -/
theorem FfEnd.keeps {M : Nat} {q : Reg} {f : Fld} (e : FfEnd s t h r q f) (k : Keeps M t u) (hc : t.canonical = true)
    (hq : q ∈ ffCounters) (hf : f.reg = .COR_EVENT)
    (hm : (ffCounters ++ ffShows).all (fun o => !M.testBit o.part) = true) : FfEnd s u h r q f := by
  have hrd : ∀ o ∈ ffCounters ++ ffShows, u.rd o = t.rd o := fun o ho =>
    k.rd hc o 0 (by simpa using List.all_eq_true.1 hm o ho)
  have hlast := hrd .COR_FF_LAST (by decide)
  refine ⟨?_, fun o ho hne => ?_, ?_, ?_, ?_, fun hg => ?_⟩
  · exact (hrd q (List.mem_append_left _ hq)).trans e.counted
  · exact (hrd o (List.mem_append_left _ ho)).trans (e.other o ho hne)
  · exact (congrArg f.get (by rw [hf]; exact hrd .COR_EVENT (by decide))).trans e.event
  · exact (congrArg _ hlast).trans e.head
  · exact (congrArg _ hlast).trans e.result
  · exact (hrd .COR_FF_REJ_CNT (by decide)).trans (e.rejected hg)

theorem ffShown_keeps : Keeps (footOf [.reg .COR_FF_REJ_CNT, .reg .COR_FF_LAST]) s (s.ffShown h r) :=
  wr_keeps (reg_foot (by decide)) (keeps_ite (Keeps.rfl _ s) (count_keeps (reg_foot (by decide)) (Keeps.rfl _ s)))

theorem ffShown_last (hc : s.canonical = true) : (s.ffShown h r).rd .COR_FF_LAST =
    BitVec.ofNat 32 (h * 2 ^ 27 + s.ffVerdict h r * 2 ^ 24 + min (s.ffDisagree h r + s.ffRejects h r) 32767) := by
  unfold State.ffShown
  refine rd_wr_same _ _ _ ?_
  split
  · exact hc
  · exact canonical_count _ _ _ hc

theorem ffShown_rejected (hg : r.dark = false) (hc : s.canonical = true) :
    Counted s (s.ffShown h r) .COR_FF_REJ_CNT 0 (s.ffRejected h r) := by
  unfold Counted State.ffShown
  rw [if_neg (by simp [hg]), rd_wr_ne _ (Reg.key_ne (by decide) _ _) (canonical_count _ _ _ hc), ffRejects_gain hg]
  exact rd_count_same _ _ _ hc

theorem canonical_ffEnded (q : Reg) (f : Fld) (hc : s.canonical = true) : (s.ffEnded h r q f).canonical = true :=
  canonical_raise _ _ (canonical_count _ _ _ (ffShown_keeps.canonical hc))

theorem ffEnded_cor (q : Reg) (f : Fld) (hc : s.canonical = true) : (s.ffEnded h r q f).cor = s.cor := by
  have hraise : (s.ffEnded h r q f).cor = ((s.ffShown h r).count q).cor :=
    raise_part f 0 .cor rfl (canonical_count _ _ _ (ffShown_keeps.canonical hc))
  rw [hraise, count_cor]
  exact ffShown_keeps.part hc .cor (by decide +kernel)

theorem ffEnded_end {q : Reg} {f : Fld} (hh : h < 32) (hq : q ∈ ffCounters) (hf : f.reg = .COR_EVENT)
    (hw : f.lo + f.width ≤ 32) (h1 : f.width = 1) (hc : s.canonical = true) :
    FfEnd s (s.ffEnded h r q f) h r q f := by
  have ks := ffShown_keeps (s := s) (h := h) (r := r)
  have hs := ks.canonical hc
  have hcount := canonical_count q 0 1 hs
  have hrd : ∀ o : Reg, fireMask.testBit o.part = false → o.part ≠ Reg.COR_EVENT.part →
      (s.ffEnded h r q f).rd o = ((s.ffShown h r).count q).rd o := fun o ho hne =>
    rd_raise_other f 0 o 0 ho (by rw [hf]; exact hne) hcount
  have hshown : ∀ o ∈ ffCounters, (s.ffShown h r).rd o = s.rd o := fun o ho => by
    refine ks.rd hc o 0 ((footOf_testBit _ (.reg o)).trans (decide_eq_false ?_))
    revert o
    decide
  obtain ⟨hqfire, hqapart⟩ := ffCounters_apart q hq
  have hlast : (s.ffEnded h r q f).rd .COR_FF_LAST = (s.ffShown h r).rd .COR_FF_LAST :=
    (hrd _ rfl (by decide)).trans (rd_count_ne _ _ _ _ _ (hqapart .COR_FF_LAST (by decide)).symm hs)
  refine ⟨?_, fun o ho hne => ?_, ?_, ?_, ?_, fun hg => ?_⟩
  · refine (hrd q hqfire (hqapart _ (by decide))).trans ((rd_count_same _ _ _ hs).trans ?_)
    rw [hshown q hq]
  · obtain ⟨hofire, hoapart⟩ := ffCounters_apart o ho
    exact (hrd o hofire (hoapart _ (by decide))).trans ((rd_count_ne _ _ _ _ _ (fun he => hne (Reg.part_inj he)) hs).trans
      (hshown o ho))
  · exact fld_raise_same f 0 (by rw [hf]; rfl) hw h1 hcount
  · unfold State.fld
    rw [show F.COR_FF_LAST_HEAD.reg = .COR_FF_LAST from rfl, hlast, ffShown_last hc]
    exact ffLast_head hh ffVerdict_lt (Nat.min_le_right _ _)
  · unfold State.fld
    rw [show F.COR_FF_LAST_RESULT.reg = .COR_FF_LAST from rfl, hlast, ffShown_last hc]
    exact ffLast_result ffVerdict_lt (Nat.min_le_right _ _)
  · unfold Counted
    rw [hrd _ rfl (by decide), rd_count_ne _ _ _ _ _ (hqapart .COR_FF_REJ_CNT (by decide)).symm hs]
    exact ffShown_rejected hg hc

/-- R137: an accepted run waits for the boundary in state 3. -/
theorem ffComplete_accepted (hh : h < 32) (hr : (s.corHead h).run = some r) (hd : r.done = true)
    (hv : ¬ 1 < s.ffVerdict h r) (hc : s.canonical = true) :
    (s.ffComplete h).ffState h = 3 ∧ FfEnd s (s.ffComplete h) h r .COR_FF_ACCEPT_CNT F.COR_EVENT_FF_ACCEPT := by
  have kt := ffComplete_accepts hr hd hv
  have he : FfEnd s _ h r .COR_FF_ACCEPT_CNT F.COR_EVENT_FF_ACCEPT := ffEnded_end hh (by decide) rfl (by decide) rfl hc
  have hu := canonical_ffEnded (h := h) (r := r) .COR_FF_ACCEPT_CNT F.COR_EVENT_FF_ACCEPT hc
  have kh := setCorHead_keeps (h := h) (x := (s.corHead h).taken r) (Sub.rfl _) (Keeps.rfl _
    (s.ffEnded h r .COR_FF_ACCEPT_CNT F.COR_EVENT_FF_ACCEPT))
  have kp := putFfState_keeps (h := h) (code := 3) (Sub.rfl _) (Keeps.rfl _
    ((s.ffEnded h r .COR_FF_ACCEPT_CNT F.COR_EVENT_FF_ACCEPT).setCorHead h ((s.corHead h).taken r)))
  have hp := kp.canonical (kh.canonical hu)
  refine ⟨(kt.ffState hp (by decide +kernel)).trans (ffState_putFfState (by decide) (kh.canonical hu)), ?_⟩
  exact ((he.keeps kh hu (by decide) rfl (by decide +kernel)).keeps kp (kh.canonical hu) (by decide) rfl
    (by decide +kernel)).keeps kt hp (by decide) rfl (by decide +kernel)

/-- R138: the run of a head ends, and its head stands as before without it. -/
theorem ffDrop_leaves (hl : h < s.cor.heads.length) (hc : s.canonical = true) :
    (s.ffDrop h).canonical = true ∧ (s.ffDrop h).ffState h = 0 ∧ h < (s.ffDrop h).cor.heads.length ∧
    ((s.ffDrop h).corHead h).run = none := by
  have kh := setCorHead_keeps (h := h) (x := { s.corHead h with run := none }) (Sub.rfl _) (Keeps.rfl _ s)
  have hh := kh.canonical hc
  have kp := putFfState_keeps (h := h) (code := 0) (Sub.rfl _) (Keeps.rfl _ (s.setCorHead h { s.corHead h with run := none }))
  have hp := kp.canonical hh
  have kd := darkEnd_keeps (p := portOf h) (Sub.rfl _) (Keeps.rfl _
    ((s.setCorHead h { s.corHead h with run := none }).putFfState h 0))
  have hheads : (s.ffDrop h).cor.heads = (s.setCorHead h { s.corHead h with run := none }).cor.heads := darkEnd_heads hp
  refine ⟨kd.canonical hp, (kd.ffState hp (by decide +kernel)).trans (ffState_putFfState (by decide) hh), ?_, ?_⟩
  · rw [hheads]
    exact (List.length_set ..).symm ▸ hl
  · rw [corHead_congr hheads, corHead_setCorHead_same _ hl]

theorem ffWaits_keeps : Keeps (footOf [.cor]) s (s.ffWaits h r) :=
  keeps_ite (setCorHead_keeps (sub_foot (p := .cor) (by decide)) (Keeps.rfl _ s)) (Keeps.rfl _ s)

theorem ffWaits_head (hl : h < s.cor.heads.length) :
    ((s.ffWaits h r).corHead h).run = (s.corHead h).run ∧
    (r.trigger = .temperature → ((s.ffWaits h r).corHead h).retry = some r.pause) := by
  unfold State.ffWaits
  split
  · rw [corHead_setCorHead_same _ hl]
    exact ⟨rfl, fun _ => rfl⟩
  · next hne => exact ⟨rfl, fun he => absurd he hne⟩

/-- R137, R138: a run that fails ends, and a triggered head waits. -/
theorem ffComplete_failed (hh : h < 32) (hr : (s.corHead h).run = some r) (hd : r.done = true)
    (hv : 1 < s.ffVerdict h r) (hc : s.canonical = true) :
    (s.ffComplete h).ffState h = 0 ∧ ((s.ffComplete h).corHead h).run = none ∧
    (r.trigger = .temperature → ((s.ffComplete h).corHead h).retry = some r.pause) ∧
    FfEnd s (s.ffComplete h) h r .COR_FF_FAIL_CNT F.COR_EVENT_FF_FAIL := by
  have he : FfEnd s _ h r .COR_FF_FAIL_CNT F.COR_EVENT_FF_FAIL := ffEnded_end hh (by decide) rfl (by decide) rfl hc
  have hu := canonical_ffEnded (h := h) (r := r) .COR_FF_FAIL_CNT F.COR_EVENT_FF_FAIL hc
  have hl : h < (s.ffEnded h r .COR_FF_FAIL_CNT F.COR_EVENT_FF_FAIL).cor.heads.length := by
    rw [ffEnded_cor _ _ hc]
    exact corHead_listed_of_run hr
  obtain ⟨hdc, hst, hdl, hrun⟩ := ffDrop_leaves hl hu
  have kd := ffDrop_keeps (h := h) (Sub.rfl _) (Keeps.rfl _ (s.ffEnded h r .COR_FF_FAIL_CNT F.COR_EVENT_FF_FAIL))
  obtain ⟨hwrun, hretry⟩ := ffWaits_head (r := r) hdl
  rw [ffComplete_fails hr hd hv]
  exact ⟨(ffWaits_keeps.ffState hdc (by decide +kernel)).trans hst, hwrun.trans hrun, hretry,
    (he.keeps kd hu (by decide) rfl (by decide +kernel)).keeps ffWaits_keeps hdc (by decide) rfl (by decide +kernel)⟩

/-! ### The table write of a dark run (R139) -/

/-- The address of a column's entry in the table of offsets and gains (R114). -/
def State.offsetAddr (s : State) (h c : Nat) : Nat := 0x10000000 + 4 * s.devCol h c

/-- A word of the table with another offset, or with the one it has. -/
def offsetWord (old : Word) (o : Option Int) : Word :=
  match o with
  | none => old
  | some x => BitVec.ofNat 32 (wrapTo 16 x * 65536 + old.toNat % 65536)

/-- R139: a dark run's result for one column. -/
def State.writeOffset (s : State) (h c : Nat) (o : Option Int) : State :=
  match o with
  | none => s
  | some x => s.setTab (s.offsetAddr h c) (offsetWord (s.tab (s.offsetAddr h c)) (some x))

theorem writeResult_dark (hg : r.dark = true) :
    s.writeResult h r = forBelow (s.headPixels h) (fun c v => v.writeOffset h c (r.res.getD c none)) s := by
  unfold State.writeResult
  refine congrArg (forBelow (s.headPixels h) · s) (funext fun c => funext fun v => ?_)
  rw [hg]
  dsimp only
  rw [if_pos rfl]
  unfold State.writeOffset
  cases r.res.getD c none <;> rfl

theorem offsetAddr_injective {c d : Nat} (he : s.offsetAddr h c = s.offsetAddr h d) : c = d := by
  unfold State.offsetAddr State.devCol at he
  split at he <;> omega

theorem writeOffset_regs (c : Nat) (o : Option Int) : (s.writeOffset h c o).regs = s.regs := by
  cases o <;> rfl

theorem writeOffset_cor (c : Nat) (o : Option Int) : (s.writeOffset h c o).cor = s.cor := by
  cases o <;> rfl

theorem devCol_congr (hr : t.regs = s.regs) (c : Nat) : t.devCol h c = s.devCol h c := by
  unfold State.devCol State.fld State.rd
  rw [hr]

theorem offsetAddr_congr (hr : t.regs = s.regs) (c : Nat) : t.offsetAddr h c = s.offsetAddr h c :=
  congrArg (fun d => 0x10000000 + 4 * d) (devCol_congr hr c)

theorem canonical_writeOffset (c : Nat) (o : Option Int) (hc : s.canonical = true) : (s.writeOffset h c o).canonical = true := by
  cases o with
  | none => exact hc
  | some x => exact (setTab_keeps (Sub.rfl _) (Keeps.rfl _ s)).canonical hc

/-- The word of the column takes the new offset, and every other word of the tables stands. -/
theorem tab_writeOffset (c : Nat) (o : Option Int) (a : Nat) (hc : s.canonical = true) :
    (s.writeOffset h c o).tab a = if a = s.offsetAddr h c then offsetWord (s.tab a) o else s.tab a := by
  cases o with
  | none => exact (ite_self _).symm
  | some x =>
    split
    · next ha =>
      rw [ha]
      exact tab_setTab_same _ _ hc
    · next ha => exact tab_setTab_ne _ ha hc

/-- R139: after the columns below `n`, each of them has its new offset and the others stand. -/
theorem tab_writeOffsets (res : Nat → Option Int) (n c : Nat) (hc : s.canonical = true) {v : Nat → State}
    (hv : ∀ k, v k = forBelow k (fun i w => w.writeOffset h i (res i)) s) :
    (v n).canonical = true ∧ (v n).regs = s.regs ∧ (v n).cor = s.cor ∧ (v n).tab (s.offsetAddr h c) =
      if c < n then offsetWord (s.tab (s.offsetAddr h c)) (res c) else s.tab (s.offsetAddr h c) := by
  induction n with
  | zero =>
    rw [hv]
    exact ⟨hc, rfl, rfl, rfl⟩
  | succ n ih =>
    obtain ⟨hcan, hregs, hcor, htab⟩ := ih
    have hsucc : v (n + 1) = (v n).writeOffset h n (res n) := by rw [hv, hv, forBelow_succ]
    rw [hsucc]
    refine ⟨canonical_writeOffset _ _ hcan, (writeOffset_regs _ _).trans hregs, (writeOffset_cor _ _).trans hcor, ?_⟩
    rw [tab_writeOffset _ _ _ hcan, htab, offsetAddr_congr hregs]
    by_cases hcn : c = n
    · subst hcn
      rw [if_pos rfl, if_neg (Nat.lt_irrefl c), if_pos (Nat.lt_succ_self c)]
    · rw [if_neg fun he => hcn (offsetAddr_injective he)]
      exact ite_congr (propext (by omega)) (fun _ => rfl) (fun _ => rfl)

theorem wrapTo_lt (x : Int) : wrapTo 16 x < 65536 := by
  have hlt : x % 65536 < 65536 := Int.emod_lt_of_pos x (by decide)
  change (x % 65536).toNat < 65536
  omega

theorem offsetWord_offset (old : Word) (x : Int) : bitsOf (offsetWord old (some x)).toNat 16 16 = wrapTo 16 x := by
  have hlt := wrapTo_lt x
  unfold offsetWord bitsOf
  rw [BitVec.toNat_ofNat]
  omega

theorem offsetWord_gain (old : Word) (x : Int) : bitsOf (offsetWord old (some x)).toNat 0 16 = bitsOf old.toNat 0 16 := by
  have hlt := wrapTo_lt x
  unfold offsetWord bitsOf
  rw [BitVec.toNat_ofNat]
  omega

theorem pixOffset_congr {c : Nat} {w : Word} (hr : t.regs = s.regs) (ht : t.tab (s.offsetAddr h c) = w) :
    t.pixOffset h c = signedOf 16 (bitsOf w.toNat 16 16) := by
  subst ht
  unfold State.pixOffset
  rw [devCol_congr hr]
  rfl

theorem pixGain_congr {c : Nat} {w : Word} (hr : t.regs = s.regs) (ht : t.tab (s.offsetAddr h c) = w) :
    t.pixGain h c = bitsOf w.toNat 0 16 := by
  subst ht
  unfold State.pixGain
  rw [devCol_congr hr]
  rfl

/-- R139: the table write of a dark run changes the offsets that have a result, and no gain. -/
theorem writeResult_dark_leaves (hg : r.dark = true) (hc : s.canonical = true) (ht : t = s.writeResult h r) :
    t.canonical = true ∧ t.cor = s.cor ∧ ∀ c < s.headPixels h,
      (∀ x, r.res.getD c none = some x → t.pixOffset h c = signedOf 16 (wrapTo 16 x) ∧ t.pixGain h c = s.pixGain h c) ∧
      (r.res.getD c none = none → t.pixOffset h c = s.pixOffset h c) := by
  have hcol := fun c => tab_writeOffsets (h := h) (fun i => r.res.getD i none) (s.headPixels h) c hc (fun _ => rfl)
  rw [← writeResult_dark hg, ← ht] at hcol
  obtain ⟨hcan, hregs, hcor, -⟩ := hcol 0
  refine ⟨hcan, hcor, fun c hlt => ?_⟩
  obtain ⟨-, -, -, htab⟩ := hcol c
  rw [if_pos hlt] at htab
  refine ⟨fun x hx => ?_, fun hx => ?_⟩
  · rw [hx] at htab
    refine ⟨(pixOffset_congr hregs htab).trans ?_, (pixGain_congr hregs htab).trans (offsetWord_gain _ _)⟩
    rw [offsetWord_offset]
  · rw [hx] at htab
    exact pixOffset_congr hregs htab

/-- What keeps the tables and the geometry keeps the offsets and gains. -/
theorem Keeps.pixels {M c : Nat} (k : Keeps M s t) (hc : s.canonical = true) (htab : M.testBit Part.tables.bit = false)
    (hpix : M.testBit Reg.CAM_PIXELS.part = false) : t.pixOffset h c = s.pixOffset h c ∧ t.pixGain h c = s.pixGain h c := by
  have hcol : t.devCol h c = s.devCol h c := by
    unfold State.devCol
    rw [k.fld hc _ _ hpix]
  unfold State.pixOffset State.pixGain
  rw [hcol, k.part hc .tables htab _]
  exact ⟨Eq.refl _, Eq.refl _⟩

theorem ffWriteDone_writes (hr : (s.corHead h).run = some r) (hw : (s.corHead h).writing = true) : s.ffWriteDone h =
    ((s.writeResult h r).setCorHead h { s.corHead h with run := none, writing := false }).putFfState h 0 := by
  unfold State.ffWriteDone
  dsimp only
  rw [hr]
  exact if_pos hw

/-- R139: a completed table write of a dark run leaves its offsets in the table and the head without a run. -/
theorem ffWriteDone_dark (hr : (s.corHead h).run = some r) (hw : (s.corHead h).writing = true) (hg : r.dark = true)
    (hc : s.canonical = true) (ht : t = s.ffWriteDone h) :
    t.ffState h = 0 ∧
    t.cor = { s.cor with heads := s.cor.heads.set h { s.corHead h with run := none, writing := false } } ∧
    (∀ c x, c < s.headPixels h → r.res.getD c none = some x → t.pixOffset h c = signedOf 16 (wrapTo 16 x) ∧
      t.pixGain h c = s.pixGain h c) ∧
    (∀ c, c < s.headPixels h → r.res.getD c none = none → t.pixOffset h c = s.pixOffset h c) ∧
    ChangesOnly [.tables, .cor, .reg .COR_FF_STATE] s t := by
  obtain ⟨hcan, hcor, hcols⟩ := writeResult_dark_leaves (h := h) hg hc rfl
  have kall : Keeps (footOf [.tables, .cor, .reg .COR_FF_STATE]) s (s.ffWriteDone h) :=
    ffWriteDone_keeps ((Sub.rfl _).mono (by decide +kernel)) (Keeps.rfl _ s)
  have hhead : ((s.writeResult h r).setCorHead h { s.corHead h with run := none, writing := false }).canonical = true :=
    (setCorHead_keeps (Sub.rfl _) (Keeps.rfl _ _)).canonical hcan
  rw [← ht] at kall
  rw [ffWriteDone_writes hr hw] at ht
  have kt : Keeps (footOf [.cor, .reg .COR_FF_STATE]) (s.writeResult h r) t := by
    rw [ht]
    exact putFfState_keeps (sub_foot (p := .reg .COR_FF_STATE) (by decide))
      (setCorHead_keeps (sub_foot (p := .cor) (by decide)) (Keeps.rfl _ _))
  have hpix := fun c => kt.pixels (h := h) (c := c) hcan (by decide +kernel) (by decide +kernel)
  refine ⟨?_, ?_, fun c x hlt hx => ?_, fun c hlt hx => ?_, kall.onlyFoot hc⟩
  · rw [ht]
    exact ffState_putFfState (by decide) hhead
  · rw [ht, ← hcor]
    rfl
  · obtain ⟨hwritten, -⟩ := hcols c hlt
    obtain ⟨hofs, hgain⟩ := hpix c
    obtain ⟨hwofs, hwgain⟩ := hwritten x hx
    exact ⟨hofs.trans hwofs, hgain.trans hwgain⟩
  · obtain ⟨-, hkept⟩ := hcols c hlt
    obtain ⟨hofs, -⟩ := hpix c
    exact hofs.trans (hkept hx)

/-! ### The wait for RETRY (R138, R142) -/

theorem changesOnly_cor (x : Cor) : ChangesOnly [.cor] s { s with cor := x } := by
  refine ⟨rfl, fun q hq => ?_⟩
  cases q with
  | cor => exact absurd (List.mem_cons_self ..) hq
  | work => exact Part.same_rfl .work s
  | tables => exact Part.same_rfl .tables s
  | dram => exact Part.same_rfl .dram s
  | reg r => exact Part.same_rfl (.reg r) s
  | _ => rfl

/-- R142, R143: the temperature calls for a run of a head that has none. -/
def State.tempArms (s : State) (h : Nat) : Bool :=
  s.mode == .perform && s.bit F.COR_CTRL_FF_TEMP_EN && s.bit F.COR_CTRL_FF_EN && (s.corHead h).run.isNone &&
    !(s.throttled 4) && s.tempTrigger h

theorem tempArms_iff : s.tempArms h = true ↔ s.mode = .perform ∧ s.bit F.COR_CTRL_FF_TEMP_EN = true ∧
    s.bit F.COR_CTRL_FF_EN = true ∧ (s.corHead h).run = none ∧ s.throttled 4 = false ∧ s.tempTrigger h = true := by
  simp [State.tempArms, and_assoc]

theorem ffTempCheck_eq : s.ffTempCheck h =
    if s.tempArms h then s.setCorHead h { s.corHead h with armed := some .temperature } else s := rfl

theorem ffTempCheck_cor : ∃ x, s.ffTempCheck h = { s with cor := x } := by
  rw [ffTempCheck_eq]
  split
  · exact ⟨_, rfl⟩
  · exact ⟨s.cor, rfl⟩

theorem ffTempCheck_head (hl : h < s.cor.heads.length) : (s.ffTempCheck h).corHead h =
    { s.corHead h with armed := if s.tempArms h then some .temperature else (s.corHead h).armed } := by
  rw [ffTempCheck_eq]
  split
  · exact corHead_setCorHead_same _ hl
  · rfl

/-- R142: the wait that has ended is none of what the trigger looks at. -/
theorem tempArms_unwaited (hl : h < s.cor.heads.length) :
    (s.setCorHead h { s.corHead h with retry := none }).tempArms h = s.tempArms h := by
  unfold State.tempArms State.tempTrigger
  rw [corHead_setCorHead_same _ hl]
  rfl

/-- R138, R142: when RETRY strips have passed the head waits no more, and the trigger decides afresh. -/
theorem ffRetry_leaves (hr : (s.corHead h).retry = some 0)
    (ht : t = (s.setCorHead h { s.corHead h with retry := none }).ffTempCheck h) :
    (t.corHead h).retry = none ∧
    (t.corHead h).armed = (if s.tempArms h then some .temperature else (s.corHead h).armed) ∧ ChangesOnly [.cor] s t := by
  subst ht
  have hl := corHead_listed_of_retry hr
  have hlen : h < (s.setCorHead h { s.corHead h with retry := none }).cor.heads.length := by
    rw [show (s.setCorHead h { s.corHead h with retry := none }).cor.heads.length = s.cor.heads.length from List.length_set ..]
    exact hl
  refine ⟨?_, ?_, ?_⟩
  · rw [ffTempCheck_head hlen, corHead_setCorHead_same _ hl]
  · rw [ffTempCheck_head hlen, tempArms_unwaited hl, corHead_setCorHead_same _ hl]
  · obtain ⟨x, hx⟩ := ffTempCheck_cor (s := s.setCorHead h { s.corHead h with retry := none }) (h := h)
    rw [hx]
    exact changesOnly_cor x

theorem ffComplete_idle (hn : (s.corHead h).run = none) : s.ffComplete h = s := by
  unfold State.ffComplete
  extract_lets c
  split
  · rfl
  · next q hq => cases hn.symm.trans hq

theorem ffWriteDone_idle (hn : (s.corHead h).run = none) : s.ffWriteDone h = s := by
  unfold State.ffWriteDone
  extract_lets c
  split
  · rfl
  · next q hq => cases hn.symm.trans hq

/-! ### The obligation -/

/-- Settles O28: the verdict decides between state 3 and the end of the run, the table write lands column by column, and the
wait for RETRY ends at 0 alone. -/
theorem flatFieldRuns : Obligations.FlatFieldRuns := by
  unfold Obligations.FlatFieldRuns
  refine ⟨?accepted, ?failed, ?idle, ?written, ?waiting, ?expired⟩
  case accepted =>
    intro s h r hc hr hd hbad hrej
    have hv := ffVerdict_accepted hbad hrej
    obtain ⟨hst, he⟩ := ffComplete_accepted h.isLt hr hd (by rw [hv]; cases r.dark <;> decide) hc
    exact ⟨_, rfl, hst, he.counted, he.other _ (by decide) (by decide), he.event, he.head, he.result.trans hv, he.rejected⟩
  case failed =>
    intro s h r hc hr hd hfail
    obtain ⟨hst, hrun, hretry, he⟩ := ffComplete_failed h.isLt hr hd (ffVerdict_failed hfail) hc
    exact ⟨_, rfl, hst, hrun, he.counted, he.other _ (by decide) (by decide), he.event, he.head, hretry⟩
  case idle =>
    intro s h hn
    exact ⟨⟨s, congrArg Host.Outcome.next (ffComplete_idle hn), rfl⟩, ⟨s, congrArg Host.Outcome.next (ffWriteDone_idle hn), rfl⟩⟩
  case written =>
    intro s h r hc hr hw hg
    exact ⟨_, rfl, ffWriteDone_dark hr hw hg hc rfl⟩
  case waiting =>
    intro s h hne
    exact ⟨s, congrArg Host.Outcome.next (if_neg (by simpa using hne)), rfl⟩
  case expired =>
    intro s h hr
    obtain ⟨hretry, harmed, hcor⟩ := ffRetry_leaves hr rfl
    exact ⟨_, congrArg Host.Outcome.next (if_pos (beq_iff_eq.2 hr)), hretry,
      harmed.trans (ite_congr (propext tempArms_iff) (fun _ => rfl) (fun _ => rfl)), hcor⟩

end Sys2Proof.Machine
end

section
/-! PROOFS. What the registers read once RESET_N has been accepted low (spec/17 R485). -/

namespace Sys2Proof.Machine

-- One theorem at a time: evaluations in the kernel that wait for each other each hold a thread.
set_option Elab.async false

variable {s : State}

/-! ### Which registers the blocks' reset keeps, clears and writes -/

/-- The key of a register's copy names the register. -/
theorem Reg.key_mod (r : Reg) (i : Nat) : r.key i % 1024 = r.ctorIdx := by
  unfold Reg.key
  rw [Nat.mul_comm, Nat.mul_add_mod, Nat.mod_eq_of_lt r.ctorIdx_lt]

/-- R485: a register's copy stays in a reset when the register lies in the keep domain. -/
theorem keptKey_iff (heat : Bool) (r : Reg) (i : Nat) : keptKey heat (r.key i) = true ↔ r ∈ keptRegs heat := by
  have hinj (q : Reg) : q.ctorIdx = r.ctorIdx ↔ q = r :=
    ⟨fun h => by rw [← Reg.ofNat_ctorIdx q, h, Reg.ofNat_ctorIdx], congrArg Reg.ctorIdx⟩
  unfold keptKey
  simp only [Reg.key_mod, List.any_eq_true, beq_iff_eq, hinj, exists_eq_right]

/-- The registers that the blocks' reset writes after it has cleared the registers outside the keep domain: what shows the
keep domain, and the learned offsets. -/
def shownAtReset : List Reg := [.PWR_STATUS, .PWR_SAVE_LO, .PWR_SAVE_HI, .THM_TS]

theorem resetShowMask_iff (r : Reg) : resetShowMask.testBit r.part = decide (r ∈ shownAtReset) := by
  cases r <;> rfl

/-! ### The learned offsets of the sensors -/

theorem Fld.get_lt (f : Fld) (w : Word) : f.get w < 2 ^ f.width := Nat.mod_lt _ (Nat.two_pow_pos _)

theorem fld_lt (f : Fld) (i : Nat) : s.fld f i < 2 ^ f.width := f.get_lt _

/-- A field that a loop stores in every copy below a bound holds there what was stored. -/
theorem fld_forBelow_put (f : Fld) (v : Nat → Nat) {n i : Nat} (hi : i < n) (hw : f.lo + f.width ≤ 32)
    (hc : s.canonical = true) : (forBelow n (fun j u => u.put f j (v j)) s).fld f i = v i % 2 ^ f.width := by
  induction n with
  | zero => exact absurd hi (Nat.not_lt_zero i)
  | succ n ih =>
    have hn : (forBelow n (fun j u => u.put f j (v j)) s).canonical = true :=
      forBelow_induct (P := fun u => u.canonical = true) n hc (fun j u hu => canonical_put f j (v j) hu)
    rw [forBelow_succ]
    by_cases h : i = n
    · rw [h, fld_put_same f n _ hw hn]
    · rw [fld_put_index f f _ h hn, ih (by omega)]

/-- R485: the learned offsets keep their values in the blocks' reset. -/
theorem blocksReset_lofs (power : Bool) {i : Nat} (hi : i < 24) (hc : s.canonical = true) :
    (s.blocksReset false power).fld F.THM_TS_LOFS i = s.fld F.THM_TS_LOFS i := by
  generalize hu : s.blocksReset false power = u
  unfold State.blocksReset at hu
  extract_lets +onlyGivenNames q r g1 g2 g3 g4 t t' at hu
  subst hu
  have hq : (q.regs, q.pwr, q.canonical) = (s.regs, s.pwr, s.canonical) :=
    forBelow_same (fun t => (t.regs, t.pwr, t.canonical)) mrkQuiet_same
  clear_value q
  injection hq with hregs hq
  injection hq with _ hcanon
  have hqs : q.fld F.THM_TS_LOFS i = s.fld F.THM_TS_LOFS i := by
    unfold State.fld State.rd
    rw [hregs]
  have ht : t.canonical = true := by
    obtain ⟨h1, h2, h3, h4, h5, h6, h7, h8⟩ := State.canonical_iff.1 (hcanon.trans hc)
    exact State.canonical_iff.2 ⟨spAbove_filter _ h1, rfl, rfl, rfl, rfl, h6, h7, rfl⟩
  have ht' : t' = forBelow 24 (fun j u => u.put F.THM_TS_LOFS j (q.fld F.THM_TS_LOFS j)) t := rfl
  have hc' : t'.canonical = true := by
    rw [ht']
    exact forBelow_induct (P := fun u => u.canonical = true) 24 ht (fun _ _ h => canonical_put _ _ _ h)
  have k : Keeps (allBut (footOf [.reg .THM_TS])) t' t'.cellsInit.showKeep :=
    showKeep_keeps ((Sub.rfl _).mono (by decide +kernel)) (cellsInit_keeps ((Sub.rfl _).mono (by decide +kernel))
      (Keeps.rfl _ t'))
  rw [k.fld hc' _ _ (by decide +kernel), ht', fld_forBelow_put _ _ hi (by decide) ht, hqs]
  exact Nat.mod_eq_of_lt (fld_lt _ _)

/-! ### RESET_N low -/

/-- The registers of the keep domain and the sensors' registers. -/
def keptAtReset : List Part := [.reg .SEC_DARK, .reg .THM_SHUT_CNT, .reg .PWR_CURTAIN_CNT, .reg .PWR_CB_STATUS, .reg .THM_TS]

/-- R485: before the blocks are reset, RESET_N low freezes the mirror and cuts a slot write short, which leaves the keep
domain's registers alone. -/
theorem resetLow_keepsKept :
    ∃ u : State, Keeps (allBut (footOf keptAtReset)) s u ∧ s.resetLow = u.blocksReset false false := by
  unfold State.resetLow
  extract_lets +onlyGivenNames u x y
  exact ⟨y, upd_pwr_keeps ((Sub.rfl _).mono (by decide +kernel)) (.inr rfl) (.inr rfl) (.inr rfl) (.inr rfl)
    (cutWrite_keeps ((Sub.rfl _).mono (by decide +kernel)) (freeze_keeps ((Sub.rfl _).mono (by decide +kernel))
      (Keeps.rfl _ s))), rfl⟩

/-- Settles O9: the blocks' reset clears every register outside the keep domain, and shows the keep domain in those that it
then writes. -/
theorem resetValues : Obligations.ResetValues := by
  unfold Obligations.ResetValues
  intro s x hc hx
  obtain ⟨u, k, hu⟩ := resetLow_keepsKept (s := s)
  have huc := k.canonical hc
  refine ⟨s.resetLow, congrArg Host.Outcome.next (if_neg (by simp [hx])), ?_, ?_, ?_⟩
  · intro r i hr
    have hkept : r ∉ keptRegs false := fun h => hr (List.mem_append_left [Reg.PWR_STATUS, .PWR_SAVE_LO, .PWR_SAVE_HI, .THM_TS] h)
    have hshown : r ∉ shownAtReset :=
      fun h => hr (List.mem_append_right [Reg.SEC_DARK, .THM_SHUT_CNT, .PWR_CURTAIN_CNT, .PWR_CB_STATUS] h)
    rw [hu]
    exact blocksReset_rd_reset _ _ r i ((resetShowMask_iff r).trans (decide_eq_false hshown))
      (Bool.eq_false_iff.2 (mt (keptKey_iff false r i).1 hkept)) huc
  · intro r hr i
    have hshown : r ∉ shownAtReset := by
      revert r
      decide
    have hpart : (allBut (footOf keptAtReset)).testBit r.part = false := by
      revert r
      decide +kernel
    rw [hu, blocksReset_rd_kept _ _ r i ((resetShowMask_iff r).trans (decide_eq_false hshown)) ((keptKey_iff false r i).2 hr) huc]
    exact k.rd hc r i hpart
  · intro i hi
    rw [hu, blocksReset_lofs _ hi huc]
    exact k.fld hc _ i (by decide +kernel)

end Sys2Proof.Machine
end

section
/-! PROOFS. Rules of web position: the encoder channels and the outputs, the clock, and what the shared operations leave of
POS (spec/09). -/

namespace Sys2Proof.Machine

-- One theorem at a time: evaluations in the kernel that wait for each other each hold a thread.
set_option Elab.async false

variable {s t : State} {c : Nat}

/-! ### Channels and outputs -/

theorem ench_setEnch (d : Nat) (x : EncCh) :
    (s.setEnch c x).ench d = if c = d ∧ c < s.pos.chans.length then x else s.ench d := by
  unfold State.ench State.setEnch
  simp only [List.getD_eq_getElem?_getD, List.getElem?_set]
  by_cases hd : c = d
  · subst hd
    by_cases hl : c < s.pos.chans.length
    · simp [hl]
    · simp [hl]
  · simp [hd]

theorem ench_setEnch_same (x : EncCh) (h : c < s.pos.chans.length) : (s.setEnch c x).ench c = x :=
  (ench_setEnch c x).trans (if_pos ⟨rfl, h⟩)

theorem setEnch_setEnch (x y : EncCh) : (s.setEnch c x).setEnch c y = s.setEnch c y := by
  unfold State.setEnch
  rw [List.set_set]

/-- A channel whose index has come is one of the device's. -/
theorem ench_listed {t0 : Nat} (h : (s.ench c).tz = some t0) : c < s.pos.chans.length := by
  refine Decidable.byContradiction fun hc => ?_
  unfold State.ench at h
  rw [List.getD_eq_getElem?_getD, List.getElem?_eq_none (Nat.le_of_not_lt hc)] at h
  cases h

/-- A change of POS's own parts leaves every other part alone. -/
theorem changesOnly_pos (x : Pos) : ChangesOnly [.pos] s { s with pos := x } := by
  refine ⟨rfl, fun q hq => ?_⟩
  cases q with
  | pos => exact absurd (List.mem_cons_self ..) hq
  | work => exact Part.same_rfl .work s
  | tables => exact Part.same_rfl .tables s
  | dram => exact Part.same_rfl .dram s
  | reg r => exact Part.same_rfl (.reg r) s
  | _ => rfl

/-! ### Fields of different registers -/

theorem Reg.part_ne {r q : Reg} (h : r ≠ q) : r.part ≠ q.part := mt Reg.part_inj h

theorem Fld.apart_of_reg {f g : Fld} (h : g.reg ≠ f.reg) : f.apart g = true := by
  simp [Fld.apart, Reg.part_ne h]

theorem bit_congr {f : Fld} {i j : Nat} (h : t.fld f i = s.fld f j) : t.bit f i = s.bit f j := by
  unfold State.bit
  rw [h]

/-! ### Events and time -/

theorem raise_pos (f : Fld) (i : Nat) (hc : s.canonical = true) : (s.raise f i).pos = s.pos := raise_part f i .pos rfl hc

/-- notes/assumptions/6: the model's clock counts the cycles that pass. -/
theorem clk_advance (n : Nat) (hc : s.canonical = true) : (s.advance n).clk = s.clk + n := by
  unfold State.advance
  split
  · next h => simp [beq_iff_eq.1 h]
  · extract_lets +onlyGivenNames pix frac u
    have hu : u.canonical = true := hc
    have huk : u.clk = s.clk + n := rfl
    clear_value u
    rw [← huk]
    have hm : Sub (allBut (footOf [.clk])) (allBut (footOf [.clk])) := Sub.rfl _
    refine Keeps.part (M := allBut (footOf [.clk])) ?_ hu .clk (by decide +kernel)
    refine keeps_ite (Keeps.rfl _ u) ?_
    extract_lets +onlyGivenNames sec v w
    have kv : Keeps (allBut (footOf [.clk])) u v :=
      addTime_keeps (hm.mono (by decide +kernel))
        (keeps_ite (Keeps.rfl _ u) (pixCycles_keeps (hm.mono (by decide +kernel)) (Keeps.rfl _ u)))
    have kw : Keeps (allBut (footOf [.clk])) u w :=
      keeps_ite (raise_keeps (hm.mono (by decide +kernel)) (by decide +kernel) kv) kv
    exact keeps_ite kw (cellCycles_keeps (hm.mono (by decide +kernel)) kw)

/-! ### What records, faults and mode control leave of POS -/

/-- The parts of POS. -/
def posParts : List Part := .pos :: .clk :: regsPOS.map Part.reg

/-- Every part but those of POS and the clock. -/
def offPos : Nat := allBut (footOf posParts)

theorem offPos_pos : offPos.testBit Part.pos.bit = false := by decide +kernel

theorem offPos_clk : offPos.testBit Part.clk.bit = false := by decide +kernel

theorem offPos_reg : ∀ r ∈ regsPOS, offPos.testBit r.part = false := by decide +kernel

theorem Keeps.samePos (k : Keeps offPos s t) (hc : s.canonical = true) : t.pos = s.pos := k.part hc .pos offPos_pos

theorem Keeps.posRd (k : Keeps offPos s t) (hc : s.canonical = true) {r : Reg} (i : Nat) (hr : r ∈ regsPOS) :
    t.rd r i = s.rd r i := k.rd hc r i (offPos_reg r hr)

theorem Keeps.posFld (k : Keeps offPos s t) (hc : s.canonical = true) {f : Fld} (i : Nat) (hf : f.reg ∈ regsPOS) :
    t.fld f i = s.fld f i := k.fld hc f i (offPos_reg f.reg hf)

theorem gapAllRun_offPos (g : GapReason) (l0 l1 : LineNo) (y0 y1 : YPos) : Keeps offPos s (s.gapAllRun g l0 l1 y0 y1) :=
  gapAllRun_keeps ((Sub.rfl _).mono (by decide +kernel)) (Keeps.rfl _ s)

theorem fault_offPos (x : FaultClass) (unit detail arg : Nat) : Keeps offPos s (s.fault x unit detail arg) :=
  fault_keeps ((Sub.rfl _).mono (by decide +kernel)) (Keeps.rfl _ s)

theorem fire_offPos (p : Nat) : Keeps offPos s (s.fire p) :=
  fire_keeps ((Sub.rfl _).mono (by decide +kernel)) (Keeps.rfl _ s)

theorem closePosGap_offPos : Keeps offPos s s.closePosGap :=
  closePosGap_keeps ((Sub.rfl _).mono (by decide +kernel)) (Keeps.rfl _ s)

theorem posCheckOver_offPos (passed : Bool) : Keeps offPos s (s.posCheckOver passed) :=
  posCheckOver_keeps ((Sub.rfl _).mono (by decide +kernel)) (Keeps.rfl _ s)

theorem cueToPorts_offPos : Keeps offPos s s.cueToPorts :=
  cueToPorts_keeps ((Sub.rfl _).mono (by decide +kernel)) (Keeps.rfl _ s)

/-! ### Flags of POS_STATUS by channel -/

/-- A bit of POS_STATUS that shows a channel lies apart from the flags below bit 8. -/
theorem statusBit_apart {b : Nat} {g : Fld} (hb : 8 ≤ b) (hg : g.lo + g.width ≤ 8) : Fld.apart ⟨.POS_STATUS, b, 1⟩ g = true := by
  simp only [Fld.apart, Bool.or_eq_true, decide_eq_true_eq]
  omega

theorem bit_raise_status (f : Fld) (i b : Nat) (h : f.reg ≠ .POS_STATUS) (hc : s.canonical = true) :
    (s.raise f i).bit ⟨.POS_STATUS, b, 1⟩ = s.bit ⟨.POS_STATUS, b, 1⟩ :=
  bit_raise_apart _ _ _ _ (show fireMask.testBit Reg.POS_STATUS.part = false from rfl) (Fld.apart_of_reg h.symm) hc

end Sys2Proof.Machine
end

section
/-! PROOFS. Encoder faults, wire faults and the index of ENC0 (spec/09 R266, R268, R272 to R274). -/

namespace Sys2Proof.Machine

-- One theorem at a time: evaluations in the kernel that wait for each other each hold a thread.
set_option Elab.async false

variable {s : State} {c pair : Nat}

/-! ### Wire faults (R268) -/

/-- R268: a pair's wire fault as it is noted: in the channel, in POS_STATUS.WIRE, as an event and in the counter. -/
def State.wireNoted (s : State) (c pair : Nat) : State :=
  (((s.setEnch c { s.ench c with wires := (s.ench c).wires ||| 2 ^ pair }).put ⟨.POS_STATUS, 8 + c, 1⟩ 0 1).raise
    F.POS_EVENT_WIRE).count .POS_WIRE_CNT

theorem execWireFault_noted {c : Fin 8} {pair : Fin 3} (hp : s.posOn = true) (hw : s.wireChecked c pair = true)
    (hb : bitAt (s.ench c).wires pair = false) :
    execWireFault c pair s =
      .next (if c.val == 0 then (s.wireNoted c pair).encFaultEntry 2 else (s.wireNoted c pair).rollerCheck c) := by
  unfold execWireFault
  rw [if_neg (by simp [hp])]
  exact if_pos (by simp [hw, hb])

theorem execWireFault_idle {c : Fin 8} {pair : Fin 3}
    (h : s.wireChecked c pair = false ∨ bitAt (s.ench c).wires pair = true) : execWireFault c pair s = .next s := by
  unfold execWireFault
  split
  · rfl
  · exact if_neg (by rcases h with h | h <;> simp [h])

theorem wireNoted_leaves (h8 : c < 8) (hc : s.canonical = true) :
    (s.wireNoted c pair).canonical = true ∧
      (s.wireNoted c pair).pos =
        { s.pos with chans := s.pos.chans.set c { s.ench c with wires := (s.ench c).wires ||| 2 ^ pair } } ∧
      (s.wireNoted c pair).bit ⟨.POS_STATUS, 8 + c, 1⟩ = true ∧ (s.wireNoted c pair).fld F.POS_EVENT_WIRE = 1 ∧
      Counted s (s.wireNoted c pair) .POS_WIRE_CNT ∧
      (s.wireNoted c pair).rd .POS_ENCFLT_CNT = s.rd .POS_ENCFLT_CNT ∧
      ∀ f : Fld, f.reg = .POS_STATUS → f.lo + f.width ≤ 8 → (s.wireNoted c pair).fld f = s.fld f := by
  have h0 : (s.setEnch c { s.ench c with wires := (s.ench c).wires ||| 2 ^ pair }).canonical = true := hc
  have h1 := canonical_put ⟨.POS_STATUS, 8 + c, 1⟩ 0 1 h0
  have h2 := canonical_raise F.POS_EVENT_WIRE 0 h1
  refine ⟨canonical_count _ _ _ h2, ?_, ?_, ?_, ?_, ?_, fun f hr hf => ?_⟩
  · exact (count_pos _ _ _).trans (raise_pos _ _ h1)
  · refine (bit_congr (fld_count .POS_WIRE_CNT 0 1 _ 0 (Reg.part_ne (by simp)) h2)).trans ?_
    exact (bit_raise_status _ _ _ (by decide) h1).trans (bit_put_same _ _ _ (by simp; omega) h0)
  · exact (fld_count _ _ _ _ _ (by decide) h2).trans (fld_raise_same _ _ rfl (by decide) rfl h1)
  · unfold Counted State.wireNoted
    rw [rd_count_same _ _ _ h2, rd_raise_other _ _ _ _ rfl (by decide) h1, rd_put_ne _ _ _ _ _ (Reg.part_ne (by simp)) h0]
    rfl
  · unfold State.wireNoted
    rw [rd_count_ne _ _ _ _ _ (by decide) h2, rd_raise_other _ _ _ _ rfl (by decide) h1, rd_put_ne _ _ _ _ _ (Reg.part_ne (by simp)) h0]
    rfl
  · unfold State.wireNoted
    rw [fld_count _ _ _ _ _ (by rw [hr]; decide) h2, fld_raise_apart _ _ _ _ (by rw [hr]; rfl) (Fld.apart_of_reg (by rw [hr]; decide)) h1,
      fld_put_apart _ _ _ _ _ (statusBit_apart (by omega) hf) h0]
    rfl

/-- R268: what the end of a pair's wire fault leaves: the pair off, and its channel shown clean when it was the last. -/
def State.wireCleared (s : State) (c pair : Nat) : State :=
  let left := (s.ench c).wires - 2 ^ pair
  let t := s.setEnch c { s.ench c with wires := left, dirty := s.sample }
  if left == 0 then t.put ⟨.POS_STATUS, 8 + c, 1⟩ 0 0 else t

theorem execWireFaultEnd_ends {c : Fin 8} {pair : Fin 3} (hp : s.posOn = true) (hb : bitAt (s.ench c).wires pair = true) :
    execWireFaultEnd c pair s = .next (s.wireCleared c pair) :=
  (if_neg (by simp [hp])).trans (if_pos hb)

theorem wireCleared_leaves (h8 : c < 8) (hc : s.canonical = true) :
    (s.wireCleared c pair).pos.chans =
        s.pos.chans.set c { s.ench c with wires := (s.ench c).wires - 2 ^ pair, dirty := s.sample } ∧
      (s.wireCleared c pair).bit ⟨.POS_STATUS, 8 + c, 1⟩ =
        if (s.ench c).wires - 2 ^ pair = 0 then false else s.bit ⟨.POS_STATUS, 8 + c, 1⟩ := by
  unfold State.wireCleared
  extract_lets +onlyGivenNames left x t
  have ht : t.canonical = true := hc
  split
  · next h => exact ⟨rfl, (bit_put_same _ _ _ (by simp; omega) ht).trans (if_pos (beq_iff_eq.1 h)).symm⟩
  · next h => exact ⟨rfl, (if_neg (by simpa using h)).symm⟩

/-- R283: a check of a roller's causes leaves the channels, WIRE and the flags of ENC0 alone. -/
theorem rollerCheck_leaves (hc : s.canonical = true) :
    (s.rollerCheck c).pos = s.pos ∧ (s.rollerCheck c).rd .POS_WIRE_CNT = s.rd .POS_WIRE_CNT ∧
      ∀ f : Fld, f.reg = .POS_STATUS → f.lo + f.width ≤ 16 → (s.rollerCheck c).fld f = s.fld f := by
  unfold State.rollerCheck
  split
  · have h1 := canonical_put F.POS_ROLL_FLT (c - 1) 1 hc
    have h2 := canonical_put ⟨.POS_STATUS, 16 + c, 1⟩ 0 1 h1
    refine ⟨raise_pos _ _ h2, ?_, fun f hr hf => ?_⟩
    · rw [rd_raise_other _ _ _ _ rfl (by decide) h2, rd_put_ne _ _ _ _ _ (Reg.part_ne (by simp)) h1,
        rd_put_ne _ _ _ _ _ (by decide) hc]
    · rw [fld_raise_apart _ _ _ _ (by rw [hr]; rfl) (Fld.apart_of_reg (by rw [hr]; decide)) h2,
        fld_put_apart _ _ _ _ _ (by simp only [Fld.apart, Bool.or_eq_true, decide_eq_true_eq]; omega) h1,
        fld_put_apart _ _ _ _ _ (Fld.apart_of_reg (by rw [hr]; decide)) hc]
  · exact ⟨rfl, rfl, fun _ _ _ => rfl⟩

/-! ### Encoder faults (R272, R273) -/

/-- R272: what the entry of an encoder fault shows and counts. -/
theorem encFaultEntry_leaves (detail : Nat) (hf : s.bit F.POS_STATUS_ENC_FAULT = false) (hc : s.canonical = true) :
    (s.encFaultEntry detail).fld F.POS_STATUS_ENC_FAULT = 1 ∧ (s.encFaultEntry detail).fld F.POS_STATUS_UNCERTAIN = 1 ∧
      (s.encFaultEntry detail).fld F.POS_STATUS_ZREFD = 0 ∧ (s.encFaultEntry detail).fld F.POS_EVENT_ENC_FAULT = 1 ∧
      Counted s (s.encFaultEntry detail) .POS_ENCFLT_CNT ∧
      (s.encFaultEntry detail).rd .POS_WIRE_CNT = s.rd .POS_WIRE_CNT ∧
      (s.encFaultEntry detail).fld F.POS_EVENT_WIRE = s.fld F.POS_EVENT_WIRE ∧
      ∀ b, 8 ≤ b → (s.encFaultEntry detail).bit ⟨.POS_STATUS, b, 1⟩ = s.bit ⟨.POS_STATUS, b, 1⟩ := by
  unfold State.encFaultEntry
  rw [if_neg (by simp [hf])]
  extract_lets +onlyGivenNames u v w p x
  have h1 := canonical_put F.POS_STATUS_ENC_FAULT 0 1 hc
  have hu : u.canonical = true := canonical_put _ _ _ h1
  have h2 := canonical_raise F.POS_EVENT_ENC_FAULT 0 hu
  have hv : v.canonical = true := canonical_count _ _ _ h2
  have hx : x.canonical = true := canonical_put F.POS_STATUS_UNCERTAIN 0 1 hv
  have k := fault_offPos (s := x) .encoder 0 detail x.pos.nextLine.toNat
  have hvStatus (f : Fld) (hr : f.reg = .POS_STATUS) : v.fld f = u.fld f :=
    (fld_count _ _ _ _ _ (by rw [hr]; decide) h2).trans
      (fld_raise_apart _ _ _ _ (by rw [hr]; rfl) (Fld.apart_of_reg (by rw [hr]; decide)) hu)
  refine ⟨?_, ?_, ?_, ?_, ?_, ?_, ?_, fun b hb => ?_⟩
  · refine (k.posFld hx 0 (by decide)).trans ((fld_put_apart (s := v) _ _ _ _ _ rfl hv).trans ((hvStatus _ rfl).trans ?_))
    exact (fld_put_apart _ _ _ _ _ rfl h1).trans (fld_put_same _ _ _ (by decide) hc)
  · exact (k.posFld hx 0 (by decide)).trans (fld_put_same (s := v) _ _ _ (by decide) hv)
  · refine (k.posFld hx 0 (by decide)).trans ((fld_put_apart (s := v) _ _ _ _ _ rfl hv).trans ((hvStatus _ rfl).trans ?_))
    exact fld_put_same _ _ _ (by decide) h1
  · refine (k.posFld hx 0 (by decide)).trans ((fld_put_apart (s := v) _ _ _ _ _ rfl hv).trans ?_)
    exact (fld_count _ _ _ _ _ (by decide) h2).trans (fld_raise_same _ _ rfl (by decide) rfl hu)
  · refine (k.posRd hx 0 (by decide)).trans ((rd_put_ne (s := v) _ _ _ _ _ (by decide) hv).trans ((rd_count_same _ _ _ h2).trans ?_))
    rw [rd_raise_other _ _ _ _ rfl (by decide) hu, rd_put_ne _ _ _ _ _ (by decide) h1, rd_put_ne _ _ _ _ _ (by decide) hc]
  · refine (k.posRd hx 0 (by decide)).trans ((rd_put_ne (s := v) _ _ _ _ _ (by decide) hv).trans ((rd_count_ne _ _ _ _ _ (by decide) h2).trans ?_))
    rw [rd_raise_other _ _ _ _ rfl (by decide) hu, rd_put_ne _ _ _ _ _ (by decide) h1, rd_put_ne _ _ _ _ _ (by decide) hc]
  · refine (k.posFld hx 0 (by decide)).trans ((fld_put_apart (s := v) _ _ _ _ _ rfl hv).trans ((fld_count _ _ _ _ _ (by decide) h2).trans ?_))
    rw [fld_raise_apart _ _ _ _ rfl rfl hu, fld_put_apart _ _ _ _ _ rfl h1, fld_put_apart _ _ _ _ _ rfl hc]
  · have hapart {g : Fld} (hr : g.reg = .POS_STATUS) (hg : g.lo + g.width ≤ 8) : g.apart ⟨.POS_STATUS, b, 1⟩ = true := by
      simp only [Fld.apart, Bool.or_eq_true, decide_eq_true_eq]
      omega
    refine bit_congr ((k.posFld hx 0 (show Reg.POS_STATUS ∈ regsPOS by decide)).trans ?_)
    refine (fld_put_apart (s := v) _ _ _ _ _ (hapart rfl (by decide)) hv).trans ((hvStatus _ rfl).trans ?_)
    exact (fld_put_apart _ _ _ _ _ (hapart rfl (by decide)) h1).trans (fld_put_apart _ _ _ _ _ (hapart rfl (by decide)) hc)

/-- R273: what the end of an encoder fault leaves. -/
theorem encFaultEnd_leaves (hc : s.canonical = true) :
    s.encFaultEnd.fld F.POS_STATUS_ENC_FAULT = 0 ∧ s.encFaultEnd.fld F.POS_EVENT_ENC_CLEAR = 1 ∧
      s.encFaultEnd.pos = { s.pos with uncEnding := true, clean := false } ∧
      ∀ f : Fld, F.POS_STATUS_ENC_FAULT.apart f = true → f.reg = .POS_STATUS → s.encFaultEnd.fld f = s.fld f := by
  have h1 := canonical_put F.POS_STATUS_ENC_FAULT 0 0 hc
  have hpos := raise_pos F.POS_EVENT_ENC_CLEAR 0 h1
  refine ⟨?_, fld_raise_same _ _ rfl (by decide) rfl h1, ?_, fun f ha hr => ?_⟩
  · exact (fld_raise_apart _ _ _ _ rfl rfl h1).trans (fld_put_same _ _ _ (by decide) hc)
  · unfold State.encFaultEnd
    dsimp only
    rw [hpos, put_pos]
  · exact (fld_raise_apart _ _ _ _ (by rw [hr]; rfl) (Fld.apart_of_reg (by rw [hr]; decide)) h1).trans (fld_put_apart _ _ _ _ _ ha hc)

theorem execEncoderFaultEnd_stays {dt : Nat} (h : (s.advance dt).cleanRun 0 = false) :
    execEncoderFaultEnd dt s = .next (s.advance dt) := by
  unfold execEncoderFaultEnd
  extract_lets u
  split
  · rfl
  · exact if_neg (by simp [u, h])

/-! ### The Z of ENC0 (R274) -/

/-- R274: ENC0's Z as it is accepted: the filtered level, the latched count, and the note for R509. -/
def State.zTaken (s : State) (sz : BitVec 4) : State :=
  let t := (s.takeZ 0 sz).setPair .POS_ZLATCH_L .POS_ZLATCH_H 0 8 s.pos.c.toNat
  { t with pos := { t.pos with zAfterWake := true } }

/-- R274: the first Z after LOAD sets ZREF0. -/
def State.zFirst (s : State) : State := { s with pos := { s.pos with zref := s.pos.c, zv := true } }

/-- R274: a later Z shows its error. -/
def State.zShown (s : State) (sz : BitVec 4) : State := (s.zTaken sz).put F.POS_ZERR_E 0 (wrapTo 24 s.zError)

theorem zTaken_keeps (sz : BitVec 4) :
    Keeps (footOf [.pos, .reg .POS_ZLATCH_L, .reg .POS_ZLATCH_H]) s (s.zTaken sz) :=
  upd_pos_keeps (sub_foot (p := .pos) (by decide)) (setPair_keeps (reg_foot (by decide)) (reg_foot (by decide))
    (takeZ_keeps (sub_foot (p := .pos) (by decide)) (Keeps.rfl _ s)))

theorem zShown_keeps (sz : BitVec 4) :
    Keeps (footOf [.pos, .reg .POS_ZLATCH_L, .reg .POS_ZLATCH_H, .reg .POS_ZERR]) s (s.zShown sz) :=
  put_keeps (reg_foot (by decide)) ((zTaken_keeps sz).mono (by unfold Sub; decide +kernel))

theorem zError_congr {t : State} (hc : t.pos.c = s.pos.c) (hz : t.pos.zref = s.pos.zref)
    (hper : t.fld F.POS_ZCFG_ZPERIOD = s.fld F.POS_ZCFG_ZPERIOD) : t.zError = s.zError := by
  unfold State.zError
  rw [hc, hz, hper]

theorem zError_zTaken (sz : BitVec 4) (hc : s.canonical = true) : (s.zTaken sz).zError = s.zError :=
  zError_congr rfl rfl ((zTaken_keeps sz).fld hc _ _ (by decide +kernel))

section AcceptedZ

variable {sz : BitVec 4} (hp : s.posOn = true) (hz : s.zRises 0 sz = true) (hm : s.chMode 0 = 1)
  (hen : s.bit F.POS_CHCFG_Z_EN 0 = true) (hc : s.canonical = true)
include hp hz hm hen

/-- R274, R509: the first Z after LOAD sets the reference, and may end the return check. -/
theorem execEnc0ZEdge_first (hzv : s.pos.zv = false) :
    ∃ t, execEnc0ZEdge sz s = .next t ∧ Keeps offPos (s.zTaken sz).zFirst t := by
  unfold execEnc0ZEdge
  rw [if_neg (by simp [hp])]
  extract_lets +onlyGivenNames rises u
  rw [if_pos (by simp [rises, hz, show u.chMode 0 = 1 from hm, show u.bit F.POS_CHCFG_Z_EN 0 = true from hen])]
  extract_lets +onlyGivenNames v check p x
  rw [if_pos (by simp [show x.pos.zv = false from hzv])]
  exact ⟨_, rfl, (keeps_ite (posCheckOver_offPos _) (Keeps.rfl _ _)).trans closePosGap_offPos⟩

include hc

/-- R274: in an encoder fault with ZREF a later Z re-references the count. -/
theorem execEnc0ZEdge_rereferences (hzv : s.pos.zv = true) (hper : s.fld F.POS_ZCFG_ZPERIOD ≠ 0)
    (hf : s.bit F.POS_STATUS_ENC_FAULT = true) (hzref : s.bit F.POS_CTRL_ZREF = true) :
    ∃ t, execEnc0ZEdge sz s = .next t ∧ Keeps offPos ((s.zShown sz).zReference s.zError) t := by
  have hper' := (zTaken_keeps sz).fld hc F.POS_ZCFG_ZPERIOD 0 (by decide +kernel)
  have hf' := ((zShown_keeps sz).bit hc F.POS_STATUS_ENC_FAULT 0 (by decide +kernel)).trans hf
  have hzref' := ((zShown_keeps sz).bit hc F.POS_CTRL_ZREF 0 (by decide +kernel)).trans hzref
  unfold execEnc0ZEdge
  rw [if_neg (by simp [hp])]
  extract_lets +onlyGivenNames rises u
  rw [if_pos (by simp [rises, hz, show u.chMode 0 = 1 from hm, show u.bit F.POS_CHCFG_Z_EN 0 = true from hen])]
  extract_lets +onlyGivenNames v check p x
  rw [show x = s.zTaken sz from rfl, if_neg (by simp [show (s.zTaken sz).pos.zv = true from hzv]), if_neg (by simp [hper', hper]),
    zError_zTaken sz hc]
  extract_lets +onlyGivenNames e y big reref ended
  rw [if_pos (by simp [reref, show y = s.zShown sz from rfl, hf', hzref'])]
  exact ⟨_, rfl, Keeps.trans (keeps_ite (posCheckOver_offPos _) (Keeps.rfl _ _)) closePosGap_offPos⟩

/-- R274: outside a fault and the return check a Z beyond the tolerance is a slip. -/
theorem execEnc0ZEdge_slips (hzv : s.pos.zv = true) (hper : s.fld F.POS_ZCFG_ZPERIOD ≠ 0)
    (hver : s.bit F.GLB_STATUS_VERIFY = false) (hf : s.bit F.POS_STATUS_ENC_FAULT = false)
    (htol : s.fld F.POS_ZCFG_ZTOL < s.zError.natAbs) :
    execEnc0ZEdge sz s = .next (((s.zShown sz).count .POS_ZSLIP_CNT).raise F.POS_EVENT_ZSLIP) := by
  have hper' := (zTaken_keeps sz).fld hc F.POS_ZCFG_ZPERIOD 0 (by decide +kernel)
  have hver' := ((zTaken_keeps sz).bit hc F.GLB_STATUS_VERIFY 0 (by decide +kernel)).trans hver
  have hf' := ((zShown_keeps sz).bit hc F.POS_STATUS_ENC_FAULT 0 (by decide +kernel)).trans hf
  have htol' := (zShown_keeps sz).fld hc F.POS_ZCFG_ZTOL 0 (by decide +kernel)
  unfold execEnc0ZEdge
  rw [if_neg (by simp [hp])]
  extract_lets +onlyGivenNames rises u
  rw [if_pos (by simp [rises, hz, show u.chMode 0 = 1 from hm, show u.bit F.POS_CHCFG_Z_EN 0 = true from hen])]
  extract_lets +onlyGivenNames v check p x
  have hcheck : check = false := by simp [check, show v.bit F.GLB_STATUS_VERIFY = false from hver']
  rw [show x = s.zTaken sz from rfl, if_neg (by simp [show (s.zTaken sz).pos.zv = true from hzv]), if_neg (by simp [hper', hper]),
    zError_zTaken sz hc]
  extract_lets +onlyGivenNames e y big reref ended
  have hy : y = s.zShown sz := rfl
  rw [if_neg (by simp [reref, hy, hf']), if_neg (by simp [hcheck]), if_neg (by simp [big, hy, htol', htol, e]),
    if_neg (by simp [hy, hf']), hy]

end AcceptedZ

/-! ### What an accepted Z leaves (R274) -/

theorem zFirst_leaves (sz : BitVec 4) (hc : s.canonical = true) :
    (s.zTaken sz).zFirst.pos.zref = s.pos.c ∧ (s.zTaken sz).zFirst.pos.zv = true ∧ (s.zTaken sz).zFirst.pos.c = s.pos.c ∧
      (s.zTaken sz).zFirst.getPair .POS_ZLATCH_L .POS_ZLATCH_H = s.pos.c.toNat :=
  ⟨rfl, rfl, rfl, getPair_setPair (s := s.takeZ 0 sz) (by decide) s.pos.c.isLt (by decide) hc⟩

theorem wrapTo_lt_two_pow (w : Nat) (i : Int) : wrapTo w i < 2 ^ w := by
  unfold wrapTo
  have hpos : (0 : Int) < Int.ofNat (2 ^ w) := Int.ofNat_lt.2 (Nat.two_pow_pos w)
  exact (Int.toNat_lt (Int.emod_nonneg _ (Int.ne_of_gt hpos))).2 (Int.emod_lt_of_pos _ hpos)

theorem zSlip_leaves (sz : BitVec 4) (hc : s.canonical = true) {t : State}
    (ht : t = ((s.zShown sz).count .POS_ZSLIP_CNT).raise F.POS_EVENT_ZSLIP) :
    t.fld F.POS_ZERR_E = wrapTo 24 s.zError ∧ t.pos.c = s.pos.c ∧ t.pos.p = s.pos.p ∧ t.fld F.POS_EVENT_ZSLIP = 1 ∧
      Counted s t .POS_ZSLIP_CNT := by
  subst ht
  have hT := (zTaken_keeps sz).canonical hc
  have h1 : (s.zShown sz).canonical = true := canonical_put _ _ _ hT
  have h2 := canonical_count .POS_ZSLIP_CNT 0 1 h1
  have hpos := raise_pos F.POS_EVENT_ZSLIP 0 h2
  refine ⟨?_, (congrArg Pos.c hpos).trans rfl, (congrArg Pos.p hpos).trans rfl, fld_raise_same _ _ rfl (by decide) rfl h2, ?_⟩
  · rw [fld_raise_apart _ _ _ _ rfl rfl h2, fld_count _ _ _ _ _ (by decide) h1]
    exact (fld_put_same _ _ _ (by decide) hT).trans (Nat.mod_eq_of_lt (wrapTo_lt_two_pow 24 _))
  · unfold Counted
    rw [rd_raise_other _ _ _ _ rfl (by decide) h2, rd_count_same _ _ _ h1, (zShown_keeps sz).rd hc _ _ (by decide +kernel)]

/-- R274: re-referencing takes the error off the count and the position, and ends the fault once its clean samples have
passed. -/
theorem zReference_leaves (e : Int) (hf : s.bit F.POS_STATUS_ENC_FAULT = true) (hc : s.canonical = true) :
    (s.zReference e).pos.c = s.pos.c - BitVec.ofInt 40 e ∧
      (s.zReference e).pos.p = s.pos.p - BitVec.ofInt 72 (e * s.posScale) ∧
      (s.zReference e).fld F.POS_STATUS_ZREFD = 1 ∧
      (s.zReference e).fld F.POS_STATUS_ENC_FAULT = (if s.pos.clean then 0 else 1) ∧ (s.zReference e).canonical = true := by
  unfold State.zReference
  extract_lets u
  have h0 : (s.zSubtract e).canonical = true := hc
  have hu : u.canonical = true := canonical_put _ _ _ h0
  have hzrefd : u.fld F.POS_STATUS_ZREFD = 1 := fld_put_same _ _ _ (by decide) h0
  have hclean : u.pos.clean = s.pos.clean := rfl
  rw [hclean]
  split
  · obtain ⟨hend, -, hpos, hother⟩ := encFaultEnd_leaves hu
    rw [hpos, hother _ rfl rfl]
    exact ⟨rfl, rfl, hzrefd, hend, canonical_raise _ _ (canonical_put _ _ _ hu)⟩
  · refine ⟨rfl, rfl, hzrefd, ?_, hu⟩
    exact (fld_put_apart _ _ _ _ _ rfl h0).trans (fld_of_bit (s := s) rfl hf)

/-! ### The obligation -/

/-- Settles O32: a wire fault is noted and checked, an encoder fault ends after its clean samples or at the Z that
re-references it, and each accepted Z acts by what the reference and the fault say. -/
theorem encoderFaults : Obligations.EncoderFaults := by
  unfold Obligations.EncoderFaults
  refine ⟨?wireEnc0, ?wireRoller, ?wireIdle, ?wireEnd, ?faultEnd, ?faultWaits, ?faultStays, ?zFirst, ?zSlip, ?zReference, ?zIdle⟩
  case wireEnc0 =>
    intro s pair hc hp hw hb hf
    obtain ⟨hn, -, hflag, hev, hcnt, hflt, hother⟩ := wireNoted_leaves (s := s) (c := 0) (pair := pair) (by decide) hc
    have hf' : (s.wireNoted 0 pair).bit F.POS_STATUS_ENC_FAULT = false :=
      (bit_congr (hother F.POS_STATUS_ENC_FAULT rfl (by decide))).trans hf
    obtain ⟨h1, h2, h3, h4, h5, h6, h7, h8⟩ := encFaultEntry_leaves 2 hf' hn
    have hexec : execWireFault 0 pair s = .next ((s.wireNoted 0 pair).encFaultEntry 2) := execWireFault_noted (c := 0) hp hw hb
    refine ⟨_, hexec, (h8 8 (Nat.le_refl 8)).trans hflag, h1, h2, h3, h4, h7.trans hev, ?_, h6.trans hcnt⟩
    unfold Counted at h5 ⊢
    rw [h5, hflt]
  case wireRoller =>
    intro s c pair hc hp hw hb h0
    obtain ⟨hn, hpos, hflag, -, hcnt, -, hother⟩ := wireNoted_leaves (s := s) (c := c) (pair := pair) c.isLt hc
    obtain ⟨hp', hcnt', hother'⟩ := rollerCheck_leaves (c := c) hn
    refine ⟨_, (execWireFault_noted hp hw hb).trans (congrArg Host.Outcome.next (if_neg (by simpa using h0))), ?_, ?_, ?_,
      hcnt'.trans hcnt⟩
    · rw [hp', hpos]
    · exact (bit_congr (hother' ⟨.POS_STATUS, 8 + c.val, 1⟩ rfl (by simp; omega))).trans hflag
    · exact (hother' _ rfl (by decide)).trans (hother _ rfl (by decide))
  case wireIdle => exact fun s c pair h => ⟨s, execWireFault_idle h, rfl⟩
  case wireEnd =>
    intro s c pair hc hp hb
    obtain ⟨hpos, hflag⟩ := wireCleared_leaves (pair := pair.val) c.isLt hc
    exact ⟨_, execWireFaultEnd_ends hp hb, hpos, hflag⟩
  case faultEnd =>
    intro s u dt hc hu hp hf hclean hz
    subst hu
    obtain ⟨hend, hev, hpos, hother⟩ := encFaultEnd_leaves (canonical_advance dt hc)
    refine ⟨_, (if_neg (by simp [hp])).trans ((if_pos (by simp [hf, hclean])).trans (if_neg (by simp [hz]))), hend, hev,
      hother _ rfl rfl, ?_, ?_⟩
    · rw [hpos]
    · rw [hpos]
  case faultWaits =>
    intro s u dt hu hp hf hclean hz
    subst hu
    exact ⟨_, (if_neg (by simp [hp])).trans ((if_pos (by simp [hf, hclean])).trans (if_pos hz)), rfl, changesOnly_pos _⟩
  case faultStays =>
    intro s u dt hu hclean
    subst hu
    exact ⟨_, execEncoderFaultEnd_stays hclean, rfl⟩
  case zFirst =>
    intro s sz hc hp hz hm hen hzv
    obtain ⟨t, ht, k⟩ := execEnc0ZEdge_first hp hz hm hen hzv
    obtain ⟨href, hv, hcount, hlatch⟩ := zFirst_leaves sz hc
    have hT : (s.zTaken sz).zFirst.canonical = true := (zTaken_keeps sz).canonical hc
    refine ⟨t, ht, ?_, ?_, ?_, ?_⟩
    · rw [k.samePos hT, href]
    · rw [k.samePos hT, hv]
    · rw [k.samePos hT, hcount]
    · unfold State.getPair at hlatch ⊢
      rw [k.posRd hT 0 (by decide), k.posRd hT 0 (by decide), hlatch]
  case zSlip =>
    intro s sz hc hp hz hm hen hzv hper hver hf htol
    exact ⟨_, execEnc0ZEdge_slips hp hz hm hen hc hzv hper hver hf htol, zSlip_leaves sz hc rfl⟩
  case zReference =>
    intro s sz hc hp hz hm hen hzv hper hf hzref
    obtain ⟨t, ht, k⟩ := execEnc0ZEdge_rereferences hp hz hm hen hc hzv hper hf hzref
    have ks := zShown_keeps (s := s) sz
    obtain ⟨hcount, hpos, hzrefd, hfault, hcan⟩ := zReference_leaves (s := s.zShown sz) s.zError
      ((ks.bit hc _ _ (by decide +kernel)).trans hf) (ks.canonical hc)
    have hscale : (s.zShown sz).posScale = s.posScale := by
      unfold State.posScale State.getPair
      rw [ks.rd hc _ _ (by decide +kernel), ks.rd hc _ _ (by decide +kernel)]
    refine ⟨t, ht, ?_, ?_, ?_, ?_⟩
    · rw [k.samePos hcan, hcount]
      rfl
    · rw [k.samePos hcan, hpos, hscale]
      rfl
    · rw [k.posFld hcan 0 (by decide), hzrefd]
    · rw [k.posFld hcan 0 (by decide), hfault]
      rfl
  case zIdle =>
    intro s sz hp hz
    exact ⟨s.takeZ 0 sz, (if_neg (by simp [hp])).trans (if_neg (by simp [hz])), rfl, changesOnly_pos _⟩

end Sys2Proof.Machine
end

section
/-! PROOFS. Rollers, their indexes and flags (spec/09 R281 to R283). -/

namespace Sys2Proof.Machine

-- One theorem at a time: evaluations in the kernel that wait for each other each hold a thread.
set_option Elab.async false

variable {s : State} {c : Nat}

/-! ### Counts in quadrature (R281) -/

/-- R281: a roller's count is `k`, with the levels that gave it, and its phase follows. -/
def State.rollerCounted (s : State) (c : Nat) (a b : Bool) (k : Nat) : State :=
  let t := s.setEnch (c + 1) { s.ench (c + 1) with a := a, b := b, count := k }
  t.put F.POS_ROLL_PHASE c (t.rollerPhase (c + 1)).toNat

theorem execRollerCount_counts {dt : Nat} {c : Fin 7} {sa sb : BitVec 4} {a b back : Bool} {u : State} {cpr : Nat}
    (hu : u = s.advance dt) (hp : u.posOn = true) (hm : u.chMode (c.val + 1) = 1)
    (ha : a = filter3of4 (u.ench (c.val + 1)).a sa) (hb : b = filter3of4 (u.ench (c.val + 1)).b sb)
    (hq : quadDecode (u.bit F.POS_CHCFG_DIR (c.val + 1)) (u.ench (c.val + 1)).a (u.ench (c.val + 1)).b a b = .count back)
    (hcpr : cpr = atLeast1 (u.fld F.POS_CPR_CPR c)) :
    execRollerCount dt c sa sb s = .next (u.rollerCounted c a b
      (if back then ((u.ench (c.val + 1)).count + cpr - 1) % cpr else ((u.ench (c.val + 1)).count + 1) % cpr)) := by
  subst hu ha hb hcpr
  unfold execRollerCount
  extract_lets u n ch a b
  rw [if_neg (by simp [show u.posOn = true from hp]), if_pos (by simp [show u.chMode n = 1 from hm]),
    show quadDecode (u.bit F.POS_CHCFG_DIR n) ch.a ch.b a b = .count back from hq]
  rfl

theorem rollerCounted_leaves {cpr k : Nat} (a b : Bool) (hm : s.chMode (c + 1) = 1)
    (hl : c + 1 < s.pos.chans.length) (hcpr : cpr = atLeast1 (s.fld F.POS_CPR_CPR c)) (hc : s.canonical = true) :
    (s.rollerCounted c a b k).pos.chans = s.pos.chans.set (c + 1) { s.ench (c + 1) with a := a, b := b, count := k } ∧
      (s.rollerCounted c a b k).fld F.POS_ROLL_PHASE c = k * 65536 / cpr % 65536 ∧
      ChangesOnly [.pos, .reg .POS_ROLL] s (s.rollerCounted c a b k) := by
  unfold State.rollerCounted
  extract_lets x t
  have ht : t.canonical = true := hc
  have hphase : (t.rollerPhase (c + 1)).toNat = k * 65536 / cpr % 65536 := by
    unfold State.rollerPhase
    rw [if_pos (by simp [show t.chMode (c + 1) = 1 from hm]), ench_setEnch_same _ hl, hcpr]
    rfl
  refine ⟨rfl, (fld_put_same _ _ _ (by decide) ht).trans ?_, ?_⟩
  · rw [hphase]
    exact Nat.mod_mod _ _
  · exact (put_keeps (reg_foot (by decide)) (setEnch_keeps (sub_foot (p := .pos) (by decide)) (Keeps.rfl _ s))).onlyFoot hc

/-! ### The filtered Z (R266) -/

/-- R274: a Z that rises shows high. -/
theorem takeZ_rises {sz : BitVec 4} (h : s.zRises c sz = true) : s.takeZ c sz = s.setEnch c { s.ench c with z := true } := by
  unfold State.zRises at h
  obtain ⟨-, hz⟩ := Bool.and_eq_true _ _ ▸ h
  unfold State.takeZ
  rw [hz]

/-! ### The phase's reference (R281, R282) -/

/-- R281, R282: a roller's phase is referenced and starts from 0. -/
def State.rollerReferenced (s : State) (c : Nat) : State := (s.put F.POS_ROLL_REF c 1).put F.POS_ROLL_PHASE c 0

theorem rollerReferenced_keeps : Keeps (footOf [.reg .POS_ROLL]) s (s.rollerReferenced c) :=
  put_keeps (reg_foot (by decide)) (put_keeps (reg_foot (by decide)) (Keeps.rfl _ s))

theorem rollerReferenced_leaves (hc : s.canonical = true) :
    (s.rollerReferenced c).fld F.POS_ROLL_REF c = 1 ∧ (s.rollerReferenced c).fld F.POS_ROLL_PHASE c = 0 :=
  have h1 := canonical_put F.POS_ROLL_REF c 1 hc
  ⟨(fld_put_apart _ _ _ _ _ rfl h1).trans (fld_put_same _ _ _ (by decide) hc), fld_put_same _ _ _ (by decide) h1⟩

/-! ### The fault flag (R283) -/

theorem rollerClear_roll {n : Nat} (f : Fld) (hr : f.reg = .POS_ROLL) (ha : F.POS_ROLL_FLT.apart f = true)
    (hc : s.canonical = true) : (s.rollerClear n).fld f c = s.fld f c := by
  unfold State.rollerClear
  split
  · rfl
  · exact (fld_put_apart _ _ _ _ _ (Fld.apart_of_reg (by simp [hr])) (canonical_put _ _ _ hc)).trans
      (fld_put_apart _ _ _ _ _ ha hc)

theorem rollerClear_rd {n : Nat} (r : Reg) (j : Nat) (h : r ∉ [Reg.POS_ROLL, .POS_STATUS]) (hc : s.canonical = true) :
    (s.rollerClear n).rd r j = s.rd r j := by
  have k : Keeps (footOf [.reg .POS_ROLL, .reg .POS_STATUS]) s (s.rollerClear n) :=
    rollerClear_keeps ((Sub.rfl _).mono (by decide +kernel)) (Keeps.rfl _ s)
  exact k.rd hc r j ((footOf_testBit _ (.reg r)).trans (decide_eq_false (by simpa using h)))

theorem rollerClear_pos {n : Nat} : (s.rollerClear n).pos = s.pos := by
  unfold State.rollerClear
  split <;> rfl

/-- R283: with no cause left the flag clears. -/
theorem rollerClear_clears {n : Nat} (h : s.rollerCause n = false) (hn : n < 16) (hc : s.canonical = true) :
    (s.rollerClear n).fld F.POS_ROLL_FLT (n - 1) = 0 ∧ (s.rollerClear n).bit ⟨.POS_STATUS, 16 + n, 1⟩ = false := by
  have h1 := canonical_put F.POS_ROLL_FLT (n - 1) 0 hc
  unfold State.rollerClear
  rw [if_neg (by simp [h])]
  exact ⟨(fld_put_apart _ _ _ _ _ (Fld.apart_of_reg (show F.POS_ROLL_FLT.reg ≠ Reg.POS_STATUS by decide)) h1).trans (fld_put_same _ _ _ (by decide) hc),
    bit_put_same _ _ _ (by simp; omega) h1⟩

/-- R283: a cause sets the flag and raises RFLT. -/
theorem rollerCheck_sets {n : Nat} (hm : s.chMode n ≠ 0) (h : s.rollerCause n = true) (hf : s.bit F.POS_ROLL_FLT (n - 1) = false)
    (hn : n < 16) (hc : s.canonical = true) :
    (s.rollerCheck n).fld F.POS_ROLL_FLT (n - 1) = 1 ∧ (s.rollerCheck n).bit ⟨.POS_STATUS, 16 + n, 1⟩ = true ∧
      (s.rollerCheck n).fld F.POS_EVENT_RFLT = 1 := by
  have h1 := canonical_put F.POS_ROLL_FLT (n - 1) 1 hc
  have h2 := canonical_put ⟨.POS_STATUS, 16 + n, 1⟩ 0 1 h1
  unfold State.rollerCheck
  rw [if_pos (by simp [hm, h, hf])]
  refine ⟨?_, ?_, fld_raise_same _ _ rfl (by decide) rfl h2⟩
  · exact (fld_raise_apart _ _ _ _ rfl rfl h2).trans ((fld_put_apart _ _ _ _ _ (Fld.apart_of_reg (show F.POS_ROLL_FLT.reg ≠ Reg.POS_STATUS by decide)) h1).trans
      (fld_put_same _ _ _ (by decide) hc))
  · exact (bit_raise_status _ _ _ (by decide) h2).trans (bit_put_same _ _ _ (by simp; omega) h1)

/-! ### The Z of a roller in quadrature (R281, R283) -/

/-- R281, R283: a roller whose count a Z has referenced. -/
def State.rollerZeroed (s : State) (c : Nat) : State :=
  (s.setEnch (c + 1) { s.ench (c + 1) with count := 0, z := true }).rollerReferenced c

theorem execRollerZEdge_references {dt : Nat} {c : Fin 7} {sz : BitVec 4} {u : State} (hu : u = s.advance dt)
    (hp : u.posOn = true) (hz : u.zRises (c.val + 1) sz = true) (hm : u.chMode (c.val + 1) = 1)
    (hen : u.bit F.POS_CHCFG_Z_EN (c.val + 1) = true) (hl : c.val + 1 < u.pos.chans.length) :
    execRollerZEdge dt c sz s = .next (State.rollerClear
      (if u.bit F.POS_ROLL_REF c && (u.ench (c.val + 1)).count != 0 then (u.rollerZeroed c).count .POS_ZSLIP_CNT
        else u.rollerZeroed c) (c.val + 1)) := by
  subst hu
  unfold execRollerZEdge
  extract_lets u n rises v ch slip w x y
  have hv : v = u.setEnch n { u.ench n with z := true } := takeZ_rises hz
  have hch : ch = { u.ench n with z := true } := by
    rw [show ch = v.ench n from rfl, hv, ench_setEnch_same _ hl]
  have hw : w = u.setEnch n { u.ench n with count := 0, z := true } := by
    rw [show w = v.setEnch n { ch with count := 0 } from rfl, hch, hv, setEnch_setEnch]
  have hx : x = u.rollerZeroed c := congrArg (State.rollerReferenced · c) hw
  have hslip : slip = (u.bit F.POS_ROLL_REF c && (u.ench n).count != 0) := by
    rw [show slip = (u.bit F.POS_ROLL_REF c && ch.count != 0) from rfl, hch]
  rw [if_neg (by simp [show u.posOn = true from hp]), if_pos (by
    simp [rises, show u.zRises n sz = true from hz, show v.chMode n = 1 from hm, show v.bit F.POS_CHCFG_Z_EN n = true from hen])]
  rw [show y = if slip then x.count .POS_ZSLIP_CNT else x from rfl, hslip, hx]

theorem rollerZeroed_keeps : Keeps (footOf [.pos, .reg .POS_ROLL]) s (s.rollerZeroed c) :=
  (setEnch_keeps (sub_foot (p := .pos) (by decide)) (Keeps.rfl _ s)).trans
    (rollerReferenced_keeps.mono (by unfold Sub; decide +kernel))

theorem rollerZEdge_leaves (slip : Bool) {t : State} (hc : s.canonical = true)
    (ht : t = State.rollerClear (if slip then (s.rollerZeroed c).count .POS_ZSLIP_CNT else s.rollerZeroed c) (c + 1)) :
    t.pos.chans = s.pos.chans.set (c + 1) { s.ench (c + 1) with count := 0, z := true } ∧
      t.fld F.POS_ROLL_REF c = 1 ∧ t.fld F.POS_ROLL_PHASE c = 0 ∧
      (if slip then Counted s t .POS_ZSLIP_CNT else t.rd .POS_ZSLIP_CNT = s.rd .POS_ZSLIP_CNT) := by
  have hz : (s.rollerZeroed c).canonical = true := rollerZeroed_keeps.canonical hc
  obtain ⟨href, hphase⟩ := rollerReferenced_leaves (c := c)
    (show (s.setEnch (c + 1) { s.ench (c + 1) with count := 0, z := true }).canonical = true from hc)
  have hcnt := (rollerZeroed_keeps (s := s) (c := c)).rd hc .POS_ZSLIP_CNT 0 (by decide +kernel)
  subst ht
  rw [rollerClear_pos]
  cases slip
  · refine ⟨rfl, ?_, ?_, ?_⟩
    · exact (rollerClear_roll _ rfl rfl hz).trans href
    · exact (rollerClear_roll _ rfl rfl hz).trans hphase
    · exact (rollerClear_rd _ _ (by decide) hz).trans hcnt
  · have hk := canonical_count .POS_ZSLIP_CNT 0 1 hz
    refine ⟨rfl, ?_, ?_, ?_⟩
    · exact (rollerClear_roll _ rfl rfl hk).trans ((fld_count _ _ _ _ _ (by decide) hz).trans href)
    · exact (rollerClear_roll _ rfl rfl hk).trans ((fld_count _ _ _ _ _ (by decide) hz).trans hphase)
    · refine (rollerClear_rd _ _ (by decide) hk).trans ((rd_count_same _ _ _ hz).trans ?_)
      rw [hcnt]

/-! ### The edge of an index (R282, R283) -/

theorem execIndexEdge_rejects {dt : Nat} {c : Fin 7} {sz : BitVec 4} {t0 : Nat} {u : State} (hu : u = s.advance dt)
    (hp : u.posOn = true) (hz : u.zRises (c.val + 1) sz = true) (hm : u.chMode (c.val + 1) = 2)
    (ht : (u.ench (c.val + 1)).tz = some t0) (hd : u.clk - t0 < atLeast1 (u.fld F.POS_IDX_PMIN c) * 100000) :
    execIndexEdge dt c sz s = .next ((u.takeZ (c.val + 1) sz).count .POS_IDX_REJ_CNT) := by
  subst hu
  unfold execIndexEdge
  extract_lets u n rises v ch pmin pmax
  have hch : ch.tz = some t0 := by
    rw [show ch = v.ench n from rfl, show v = u.setEnch n _ from takeZ_rises hz, ench_setEnch_same _ (ench_listed ht)]
    exact ht
  rw [if_neg (by simp [show u.posOn = true from hp]), if_pos (by
    simp [rises, show u.zRises n sz = true from hz, show v.chMode n = 2 from hm]), hch]
  exact if_pos hd

/-- R282: a roller whose index has come an interval `d` after the one before it. -/
def State.indexTaken (s : State) (c d : Nat) : State :=
  (s.setEnch (c + 1) { s.ench (c + 1) with
    tz := some s.clk, period := some d, good := (s.ench (c + 1)).good + 1, late := false, z := true }).rollerReferenced c

theorem execIndexEdge_accepts {dt : Nat} {c : Fin 7} {sz : BitVec 4} {t0 : Nat} {u : State} (hu : u = s.advance dt)
    (hp : u.posOn = true) (hz : u.zRises (c.val + 1) sz = true) (hm : u.chMode (c.val + 1) = 2)
    (ht : (u.ench (c.val + 1)).tz = some t0) (hmin : atLeast1 (u.fld F.POS_IDX_PMIN c) * 100000 ≤ u.clk - t0)
    (hmax : u.clk - t0 ≤ atLeast1 (u.fld F.POS_IDX_PMAX c) * 100000) :
    execIndexEdge dt c sz s = .next (if 2 ≤ (u.ench (c.val + 1)).good + 1
      then (u.indexTaken c (u.clk - t0)).rollerClear (c.val + 1) else u.indexTaken c (u.clk - t0)) := by
  have hl := ench_listed ht
  subst hu
  unfold execIndexEdge
  extract_lets u n rises v ch pmin pmax
  have hv : v = u.setEnch n { u.ench n with z := true } := takeZ_rises hz
  have hch : ch = { u.ench n with z := true } := by
    rw [show ch = v.ench n from rfl, hv, ench_setEnch_same _ hl]
  have hp' : (!u.posOn) = false := by simp [show u.posOn = true from hp]
  have hg : (rises && v.chMode n == 2) = true := by
    simp [rises, show u.zRises n sz = true from hz, show v.chMode n = 2 from hm]
  have htz : ch.tz = some t0 := by rw [hch]; exact ht
  rw [hp', hg, if_neg Bool.false_ne_true, if_pos rfl, htz]
  refine (if_neg (Nat.not_lt.2 hmin)).trans ?_
  extract_lets ok good w x
  have hok : ok = true := decide_eq_true hmax
  have hgood : good = (u.ench n).good + 1 := by
    rw [show good = if ok then ch.good + 1 else 0 from rfl, hok, if_pos rfl, hch]
  have hw : w = u.setEnch n { u.ench n with
      tz := some u.clk, period := some (u.clk - t0), good := (u.ench n).good + 1, late := false, z := true } := by
    rw [show w = v.setEnch n { ch with
      tz := some u.clk, period := if ok then some (u.clk - t0) else ch.period, good := good, late := false } from rfl, hgood, hok, if_pos rfl, hch, hv, setEnch_setEnch]
  have hx : x = u.indexTaken c (u.clk - t0) := congrArg (State.rollerReferenced · c) hw
  rw [hgood, hx]

theorem indexTaken_leaves {d : Nat} (due : Prop) [Decidable due] {t : State} (hc : s.canonical = true)
    (ht : t = if due then (s.indexTaken c d).rollerClear (c + 1) else s.indexTaken c d) :
    t.pos.chans = s.pos.chans.set (c + 1) { s.ench (c + 1) with
        tz := some s.clk, period := some d, good := (s.ench (c + 1)).good + 1, late := false, z := true } ∧
      t.fld F.POS_ROLL_REF c = 1 ∧ t.fld F.POS_ROLL_PHASE c = 0 ∧ t.rd .POS_IDX_REJ_CNT = s.rd .POS_IDX_REJ_CNT := by
  have k : Keeps (footOf [.pos, .reg .POS_ROLL]) s (s.indexTaken c d) :=
    (setEnch_keeps (sub_foot (p := .pos) (by decide)) (Keeps.rfl _ s)).trans
      (rollerReferenced_keeps.mono (by unfold Sub; decide +kernel))
  have hi := k.canonical hc
  obtain ⟨href, hphase⟩ := rollerReferenced_leaves (c := c) (s := s.setEnch (c + 1) { s.ench (c + 1) with
    tz := some s.clk, period := some d, good := (s.ench (c + 1)).good + 1, late := false, z := true }) hc
  have hrej := k.rd hc .POS_IDX_REJ_CNT 0 (by decide +kernel)
  subst ht
  split
  · rw [rollerClear_pos]
    exact ⟨rfl, (rollerClear_roll _ rfl rfl hi).trans href, (rollerClear_roll _ rfl rfl hi).trans hphase,
      (rollerClear_rd _ _ (by decide) hi).trans hrej⟩
  · exact ⟨rfl, href, hphase, hrej⟩

/-! ### An overdue index, and the end of a fault (R283) -/

theorem indexOverdue_iff {n t0 p : Nat} (ht : (s.ench n).tz = some t0) (hp : (s.ench n).period = some p) :
    s.indexOverdue n = decide (min (2 * p) (atLeast1 (s.fld F.POS_IDX_PMAX (n - 1)) * 100000) < s.clk - t0) := by
  unfold State.indexOverdue
  extract_lets ch pmax
  rw [show ch.tz = some t0 from ht, show ch.period = some p from hp]

theorem execRollerIndexTimeout_inTime {dt : Nat} {c : Fin 7} {u : State} (hu : u = s.advance dt)
    (h : u.indexOverdue (c.val + 1) = false) : execRollerIndexTimeout dt c s = .next u := by
  subst hu
  unfold execRollerIndexTimeout
  extract_lets +onlyGivenNames u n
  split
  · rfl
  · exact if_neg (by simp [show u.indexOverdue n = false from h])

theorem rollerCause_late {n : Nat} (h : (s.ench n).late = true) : s.rollerCause n = true := by
  unfold State.rollerCause
  simp [h]

/-- R283: a channel in quadrature without Z that is clean and has no illegal transition on record has no cause left. -/
theorem rollerCause_clean {n : Nat} (hm : s.chMode n = 1) (hz : s.bit F.POS_CHCFG_Z_EN n = false) (hw : (s.ench n).wires = 0)
    (hi : (s.ench n).illegal = []) (hl : (s.ench n).late = false) : s.rollerCause n = false := by
  unfold State.rollerCause
  simp [hm, hz, hw, hi, hl, threeIllegal]

/-- R283: a roller whose index is overdue sets its flag. -/
theorem indexLate_leaves {n : Nat} {t : State} (hm : s.chMode n ≠ 0) (hl : n < s.pos.chans.length) (hn : n < 16)
    (hf : s.bit F.POS_ROLL_FLT (n - 1) = false) (hc : s.canonical = true)
    (ht : t = (s.setEnch n { s.ench n with late := true, good := 0 }).rollerCheck n) :
    (t.ench n).late = true ∧ (t.ench n).good = 0 ∧ t.fld F.POS_ROLL_FLT (n - 1) = 1 ∧
      t.bit ⟨.POS_STATUS, 16 + n, 1⟩ = true ∧ t.fld F.POS_EVENT_RFLT = 1 := by
  obtain ⟨u, hu⟩ : ∃ u, u = s.setEnch n { s.ench n with late := true, good := 0 } := ⟨_, rfl⟩
  have huc : u.canonical = true := hu ▸ hc
  have hench : u.ench n = { s.ench n with late := true, good := 0 } := by rw [hu, ench_setEnch_same _ hl]
  have hcause : u.rollerCause n = true := rollerCause_late (by rw [hench])
  have hpos : t.ench n = u.ench n := by
    unfold State.ench
    rw [ht, ← hu, (rollerCheck_leaves huc).1]
  rw [hpos, hench, ht, ← hu]
  exact ⟨rfl, rfl, rollerCheck_sets (by rw [hu]; exact hm) hcause (by rw [hu]; exact hf) hn huc⟩

/-- R283: a clean roller without Z loses its flag. -/
theorem flagClean_leaves {n : Nat} {t : State} (hm : s.chMode n = 1) (hz : s.bit F.POS_CHCFG_Z_EN n = false)
    (hclean : s.cleanRun n = true) (hlate : (s.ench n).late = false) (hl : n < s.pos.chans.length) (hn : n < 16)
    (hc : s.canonical = true) (ht : t = (s.setEnch n { s.ench n with illegal := [] }).rollerClear n) :
    (t.ench n).illegal = [] ∧ t.fld F.POS_ROLL_FLT (n - 1) = 0 ∧ t.bit ⟨.POS_STATUS, 16 + n, 1⟩ = false := by
  obtain ⟨u, hu⟩ : ∃ u, u = s.setEnch n { s.ench n with illegal := [] } := ⟨_, rfl⟩
  have hench : u.ench n = { s.ench n with illegal := [] } := by rw [hu, ench_setEnch_same _ hl]
  have hwires : (s.ench n).wires = 0 := by
    unfold State.cleanRun at hclean
    simp only [Bool.and_eq_true, beq_iff_eq] at hclean
    exact hclean.1
  have hcause : u.rollerCause n = false :=
    rollerCause_clean (by rw [hu]; exact hm) (by rw [hu]; exact hz) (by rw [hench]; exact hwires) (by rw [hench])
      (by rw [hench]; exact hlate)
  have hpos : t.ench n = u.ench n := by
    unfold State.ench
    rw [ht, ← hu, rollerClear_pos]
  rw [hpos, hench, ht, ← hu]
  exact ⟨rfl, rollerClear_clears hcause hn (hu ▸ hc)⟩

end Sys2Proof.Machine
end

section
/-! PROOFS. The stop of the web and the emulated outputs (spec/09 R286, R289 to R292), and the obligation on rollers, speed
and outputs. -/

namespace Sys2Proof.Machine

-- One theorem at a time: evaluations in the kernel that wait for each other each hold a thread.
set_option Elab.async false

variable {s : State}

/-! ### Open spans (R100, R273, R278) -/

/-- R278: closing the open span of skips changes nothing else of POS. -/
theorem closeSkip_pos (hc : s.canonical = true) : s.closeSkip.pos = { s.pos with skip := none } := by
  unfold State.closeSkip
  split
  · next h => rw [← h]
  · next k h =>
    have hpos := (gapAllRun_offPos (s := s) .posUncertain k.l0 k.l1 k.y0 k.y1).samePos hc
    dsimp only
    rw [hpos]

/-- R100, R273: what cutting the span of an encoder fault leaves of POS. -/
theorem cutUncertain_pos (hc : s.canonical = true) :
    ∃ x y, s.cutUncertain.pos = { s.pos with unc := x, faultLine := y } := by
  unfold State.cutUncertain
  split
  · exact ⟨_, _, rfl⟩
  · next u h =>
    have hpos := (gapAllRun_offPos (s := s) .posUncertain u.1 (s.pos.nextLine - 1) u.2
      ((s.tagOf (s.pos.nextLine - 1)).yNext - 1)).samePos hc
    dsimp only
    rw [hpos]
    exact ⟨_, _, rfl⟩

theorem closeLineGaps_pos (hc : s.canonical = true) :
    ∃ x y, s.closeLineGaps.pos = { s.pos with skip := none, unc := x, faultLine := y } := by
  have h1 : s.closeSkip.canonical = true :=
    (closeSkip_keeps (M := allBut 0) ((Sub.rfl _).mono (by decide +kernel)) (Keeps.rfl _ s)).canonical hc
  have h2 : s.closeSkip.cutUncertain.canonical = true :=
    (cutUncertain_keeps (M := allBut 0) ((Sub.rfl _).mono (by decide +kernel)) (Keeps.rfl _ _)).canonical h1
  have k : Keeps offPos s.closeSkip.cutUncertain s.closeLineGaps :=
    closeGaps_keeps ((Sub.rfl _).mono (by decide +kernel)) (Keeps.rfl _ _)
  obtain ⟨x, y, hcut⟩ := cutUncertain_pos h1
  refine ⟨x, y, ?_⟩
  rw [k.samePos h2, hcut, closeSkip_pos hc]

/-! ### The stop (R286) -/

/-- R286: the flags of the speed at a stop, and STOP. -/
def State.stopShown (s : State) : State :=
  let t := ((s.put F.POS_SPEED_STOPPED 0 1).put F.POS_SPEED_STARTING 0 0).put F.POS_SPEED_VALID 0 0
  let u := { t with pos := { t.pos with tp := none } }
  u.raise F.POS_EVENT_STOP

/-- What a stop shows, and what decides on HOLD entry: closing the open spans leaves these alone. -/
def stopKept : List Part := [.reg .POS_SPEED, .reg .POS_EVENT, .reg .GLB_RUN_CFG, .reg .GLB_MODE, .glbTrans]

theorem stopShown_leaves (hc : s.canonical = true) : s.stopShown.canonical = true ∧
    s.stopShown.pos = { s.pos with tp := none } ∧ s.stopShown.fld F.POS_SPEED_STOPPED = 1 ∧
    s.stopShown.fld F.POS_SPEED_VALID = 0 ∧ s.stopShown.fld F.POS_SPEED_STARTING = 0 ∧
    s.stopShown.fld F.POS_EVENT_STOP = 1 ∧
    Keeps (allBut (footOf [.reg .GLB_RUN_CFG, .reg .GLB_MODE, .glbTrans])) s s.stopShown := by
  have h1 := canonical_put F.POS_SPEED_STOPPED 0 1 hc
  have h2 := canonical_put F.POS_SPEED_STARTING 0 0 h1
  unfold State.stopShown
  extract_lets +onlyGivenNames t p u
  have ht : t.canonical = true := canonical_put _ _ _ h2
  have hu : u.canonical = true := ht
  refine ⟨canonical_raise _ _ hu, raise_pos _ _ hu, ?_, ?_, ?_, fld_raise_same _ _ rfl (by decide) rfl hu, ?_⟩
  · refine (fld_raise_apart _ _ _ _ rfl rfl hu).trans ((fld_put_apart _ _ _ _ _ rfl h2).trans ?_)
    exact (fld_put_apart _ _ _ _ _ rfl h1).trans (fld_put_same _ _ _ (by decide) hc)
  · exact (fld_raise_apart _ _ _ _ rfl rfl hu).trans (fld_put_same _ _ _ (by decide) h2)
  · refine (fld_raise_apart _ _ _ _ rfl rfl hu).trans ((fld_put_apart _ _ _ _ _ rfl h2).trans ?_)
    exact fld_put_same _ _ _ (by decide) h1
  · exact raise_keeps ((Sub.rfl _).mono (by decide +kernel)) (by decide +kernel) (upd_pos_keeps ((Sub.rfl _).mono (by decide +kernel))
      (put_keeps (by decide +kernel) (put_keeps (by decide +kernel) (put_keeps (by decide +kernel) (Keeps.rfl _ s)))))

theorem execSpeedStop_stops {dt : Nat} {u : State} (hu : u = s.advance dt) (hp : u.posOn = true)
    (hst : u.bit F.POS_SPEED_STOPPED = false) (hs : u.standstill = true) :
    execSpeedStop dt s = .next (if u.stopShown.closeLineGaps.bit F.GLB_RUN_CFG_AUTO_HOLD && u.stopShown.closeLineGaps.inspecting &&
      u.stopShown.closeLineGaps.glb.trans.isNone then u.stopShown.closeLineGaps.holdEntry false
      else u.stopShown.closeLineGaps) := by
  subst hu
  exact (if_neg (by simp [hp])).trans (if_neg (by simp [hst, hs]))

theorem execSpeedStop_idle {dt : Nat} {u : State} (hu : u = s.advance dt)
    (h : u.bit F.POS_SPEED_STOPPED = true ∨ u.standstill = false) : execSpeedStop dt s = .next u := by
  subst hu
  unfold execSpeedStop
  extract_lets +onlyGivenNames u
  split
  · rfl
  · exact if_pos (by rcases h with h | h <;> simp [u, h])

/-- HOLD entry touches GLB alone. -/
theorem holdEntry_offPos (byReq : Bool) : Keeps offPos s (s.holdEntry byReq) :=
  holdEntry_keeps ((Sub.rfl _).mono (by decide +kernel)) (Keeps.rfl _ s)

/-- R286, R503: what a stop leaves. -/
theorem speedStop_leaves {t : State} (hc : s.canonical = true)
    (ht : t = if s.stopShown.closeLineGaps.bit F.GLB_RUN_CFG_AUTO_HOLD && s.stopShown.closeLineGaps.inspecting &&
      s.stopShown.closeLineGaps.glb.trans.isNone then s.stopShown.closeLineGaps.holdEntry false
      else s.stopShown.closeLineGaps) :
    t.fld F.POS_SPEED_STOPPED = 1 ∧ t.fld F.POS_SPEED_VALID = 0 ∧ t.fld F.POS_SPEED_STARTING = 0 ∧
      t.pos.recent = s.pos.recent ∧ t.pos.tp = none ∧ t.pos.skip = none ∧ t.fld F.POS_EVENT_STOP = 1 ∧
      t.glb.trans = (if s.bit F.GLB_RUN_CFG_AUTO_HOLD && s.inspecting && s.glb.trans.isNone
        then some (.toHold false) else s.glb.trans) := by
  obtain ⟨hsc, hspos, hstopped, hvalid, hstarting, hstop, ks⟩ := stopShown_leaves hc
  have kg : Keeps (allBut (footOf stopKept)) s.stopShown s.stopShown.closeLineGaps :=
    closeLineGaps_keeps ((Sub.rfl _).mono (by decide +kernel)) (Keeps.rfl _ _)
  obtain ⟨x, y, hgpos⟩ := closeLineGaps_pos hsc
  have hgc := kg.canonical hsc
  have hauto : s.stopShown.closeLineGaps.bit F.GLB_RUN_CFG_AUTO_HOLD = s.bit F.GLB_RUN_CFG_AUTO_HOLD :=
    (kg.bit hsc _ _ (by decide +kernel)).trans (ks.bit hc _ _ (by decide +kernel))
  have hmode : s.stopShown.closeLineGaps.mode = s.mode :=
    mode_eq ((kg.fld hsc _ _ (by decide +kernel)).trans (ks.fld hc _ _ (by decide +kernel)))
  have hinsp : s.stopShown.closeLineGaps.inspecting = s.inspecting := by
    unfold State.inspecting
    rw [hmode]
  have htrans : s.stopShown.closeLineGaps.glb.trans = s.glb.trans :=
    (kg.part hsc .glbTrans (by decide +kernel)).trans (ks.part hc .glbTrans (by decide +kernel))
  have k : Keeps offPos s.stopShown.closeLineGaps t := ht ▸ keeps_ite (holdEntry_offPos false) (Keeps.rfl _ _)
  have hpos : t.pos = { s.pos with tp := none, skip := none, unc := x, faultLine := y } := by
    rw [k.samePos hgc, hgpos, hspos]
  have hfld {f : Fld} (hr : f.reg ∈ regsPOS) (hk : (allBut (footOf stopKept)).testBit f.reg.part = false) :
      t.fld f = s.stopShown.fld f := (k.posFld hgc 0 hr).trans (kg.fld hsc f 0 hk)
  refine ⟨(hfld (by decide) (by decide +kernel)).trans hstopped, (hfld (by decide) (by decide +kernel)).trans hvalid,
    (hfld (by decide) (by decide +kernel)).trans hstarting, by rw [hpos], by rw [hpos], by rw [hpos],
    (hfld (by decide) (by decide +kernel)).trans hstop, ?_⟩
  rw [ht, hauto, hinsp, htrans]
  split
  · rfl
  · exact htrans

/-! ### The emulated outputs (R289 to R292) -/

/-- R289, R291, R292: an output that owes a step forward takes it once its 40 ns have passed. -/
theorem emuStep_forward {k : Nat} (ht : ∀ t0, (s.emu k).lastStep = some t0 → t0 + 40 ≤ s.clk) (ho : 0 < (s.emu k).owed) :
    (s.emuStep k).pos.emus = s.pos.emus.set k { s.emu k with
        owed := (s.emu k).owed - 1, pos := (s.emu k).pos + 1, lastStep := some s.clk } ∧
      (s.emuStep k).wire = (if s.emuDriven k then s.wire ++ [.qout k (((s.emu k).pos + 1) % 4).toNat
        ((s.emu k).zdiv != 0 && ((s.emu k).pos + 1) % (s.emu k).zdiv == 0)] else s.wire) := by
  unfold State.emuStep
  extract_lets +onlyGivenNames e ready up pos t
  have hready : ready = true := by
    cases hl : e.lastStep with
    | none => simp [ready, hl]
    | some t0 => simpa [ready, hl] using ht t0 hl
  have hup : up = true := decide_eq_true ho
  have hpos : pos = e.pos + 1 := by simp [pos, hup]
  have howed : t = s.setEmu k { e with owed := e.owed - 1, pos := e.pos + 1, lastStep := some s.clk } := by
    simp [t, hup, hpos]
  rw [if_pos (by simp [hready, show 0 < e.owed from ho]), howed, hpos]
  split <;> exact ⟨rfl, rfl⟩

/-- R289, R291: an output that owes nothing, or has stepped within 40 ns, stays. -/
theorem emuStep_idle {k t0 : Nat} (h : (s.emu k).owed = 0 ∨ (s.emu k).lastStep = some t0 ∧ s.clk < t0 + 40) : s.emuStep k = s := by
  unfold State.emuStep
  extract_lets +onlyGivenNames e ready
  refine if_neg ?_
  rcases h with ho | ⟨hl, ht⟩
  · simp [show e.owed = 0 from ho]
  · simp [ready, show e.lastStep = some t0 from hl, Nat.not_le.2 ht]

/-! ### The obligation -/

/-- Settles O33: each roller's command acts on its own channel, its phase and its flag; a stop clears the speed's flags; an
output steps once for what it owes. -/
theorem rollersAndSpeed : Obligations.RollersAndSpeed := by
  unfold Obligations.RollersAndSpeed
  have hstatus (c : Fin 7) : 17 + c.val = 16 + (c.val + 1) := by omega
  refine ⟨?counts, ?zReferences, ?zIdle, ?rejects, ?accepts, ?overdue, ?inTime, ?clean, ?stops, ?moves, ?steps, ?waits⟩
  case counts =>
    intro s u dt c sa sb a b back k cpr hc hu hp hm ha hb hq hcpr hk hl
    subst hk
    exact ⟨_, execRollerCount_counts hu hp hm ha hb hq hcpr,
      rollerCounted_leaves a b hm hl hcpr (hu ▸ canonical_advance dt hc)⟩
  case zReferences =>
    intro s u dt c sz hc hu hp hz hm hen hl
    obtain ⟨hchans, href, hphase, hslip⟩ := rollerZEdge_leaves
      (u.bit F.POS_ROLL_REF c && (u.ench (c.val + 1)).count != 0) (hu ▸ canonical_advance dt hc) rfl
    refine ⟨_, execRollerZEdge_references hu hp hz hm hen hl, hchans, href, hphase, ?_⟩
    simpa only [Bool.and_eq_true, bne_iff_ne] using hslip
  case zIdle =>
    intro s u dt c sz hu hp hz
    subst hu
    exact ⟨⟨_, (if_neg (by simp [hp])).trans (if_neg (by simp [hz])), rfl⟩,
      ⟨_, (if_neg (by simp [hp])).trans (if_neg (by simp [hz])), rfl⟩⟩
  case rejects =>
    intro s u dt c sz t0 hc hu hp hz hm ht hd
    exact ⟨_, execIndexEdge_rejects hu hp hz hm ht hd, rfl, rd_count_same _ _ _ (hu ▸ canonical_advance dt hc)⟩
  case accepts =>
    intro s u dt c sz t0 hc hu hp hz hm ht _ hmin hmax
    exact ⟨_, execIndexEdge_accepts hu hp hz hm ht hmin hmax, indexTaken_leaves _ (hu ▸ canonical_advance dt hc) rfl⟩
  case overdue =>
    intro s u dt c t0 p hc hu hp hm hl hf ht hper hover
    have huc : u.canonical = true := hu ▸ canonical_advance dt hc
    have hdue : u.indexOverdue (c.val + 1) = true := (indexOverdue_iff ht hper).trans (decide_eq_true hover)
    subst hu
    rw [hstatus]
    exact ⟨_, (if_neg (by simp [hp])).trans (if_pos (by simp [hm, hdue])),
      indexLate_leaves (by rw [hm]; decide) hl (by omega) hf huc rfl⟩
  case inTime =>
    intro s u dt c t0 p hu ht hper hover
    exact ⟨u, execRollerIndexTimeout_inTime hu ((indexOverdue_iff ht hper).trans (decide_eq_false (Nat.not_lt.2 hover))), rfl⟩
  case clean =>
    intro s u dt c hc hu hp hm hz hclean hlate hl
    subst hu
    rw [hstatus]
    exact ⟨_, (if_neg (by simp [hp])).trans (if_pos (by simp [hm, hz, hclean])),
      flagClean_leaves hm hz hclean hlate hl (by omega) (canonical_advance dt hc) rfl⟩
  case stops =>
    intro s u dt hc hu hp hst hs
    exact ⟨_, execSpeedStop_stops hu hp hst hs, speedStop_leaves (hu ▸ canonical_advance dt hc) rfl⟩
  case moves => exact fun s u dt hu h => ⟨u, execSpeedStop_idle hu h, rfl⟩
  case steps =>
    intro s u dt k pos hc hu hp ht ho hpos
    subst hu hpos
    exact ⟨_, congrArg Host.Outcome.next (if_pos hp), emuStep_forward ht ho⟩
  case waits =>
    intro s u dt k t0 hu h
    subst hu
    exact ⟨_, congrArg Host.Outcome.next ((ite_congr rfl (fun _ => emuStep_idle h) (fun _ => rfl)).trans (ite_self _)), rfl⟩

end Sys2Proof.Machine
end

section
/-! PROOFS. Counts of ENC0: position, cue points, speed and outputs (spec/09 R266 to R271, R275 to R279). -/

namespace Sys2Proof.Machine

-- One theorem at a time: evaluations in the kernel that wait for each other each hold a thread.
set_option Elab.async false

variable {s t u : State}

/-! ### The speed and the outputs take a count (R286, R289) -/

/-- A position without what the speed and the emulated outputs keep. -/
def Pos.track (p : Pos) : Pos := { p with emus := [], lastCount := none, lastDir := false, tp := none, recent := [] }

/-- Positions that agree but for what the speed and the outputs keep. -/
theorem Pos.of_track {x y : Pos} (h : x.track = y.track) : x.c = y.c ∧ x.p = y.p ∧ x.h = y.h ∧ x.q = y.q ∧
    x.nextLine = y.nextLine ∧ x.chans = y.chans ∧ x.lastCue = y.lastCue :=
  ⟨(congrArg Pos.c h :), (congrArg Pos.p h :), (congrArg Pos.h h :), (congrArg Pos.q h :), (congrArg Pos.nextLine h :),
    (congrArg Pos.chans h :), (congrArg Pos.lastCue h :)⟩

/-- What the speed and the outputs leave alone of a count. -/
def countKept : List Part := [.clk, .reg .POS_SKIP_CNT, .reg .POS_LINE_L, .reg .POS_LINE_H]

/-- R286, R287: a count shows its direction and ends a stop. -/
theorem speedCount_leaves (back : Bool) (hc : s.canonical = true) :
    (s.speedCount back).pos.track = s.pos.track ∧ (s.speedCount back).fld F.POS_SPEED_DIR = b2n back ∧
      (s.speedCount back).fld F.POS_SPEED_STOPPED = 0 ∧
      (s.speedCount back).fld F.POS_EVENT_OVERSPEED = s.fld F.POS_EVENT_OVERSPEED ∧
      Keeps (allBut (footOf countKept)) s (s.speedCount back) := by
  have k : Keeps (allBut (footOf countKept)) s (s.speedCount back) :=
    speedCount_keeps ((Sub.rfl _).mono (by decide +kernel)) (Keeps.rfl _ s)
  generalize ht : s.speedCount back = t at k ⊢
  unfold State.speedCount at ht
  extract_lets +onlyGivenNames now p stopped first reversal tp a b d e f at ht
  have ha : a.canonical = true := hc
  have hb : b.canonical = true := canonical_putB _ _ _ ha
  have hd : d.canonical = true := canonical_put _ _ _ hb
  have he : e.canonical = true := canonical_putB _ _ _ hd
  have hf : f.canonical = true := canonical_putB _ _ _ he
  have hstart (g : Fld) (hg : fireMask.testBit g.reg.part = false) (hs : F.POS_EVENT_START.apart g = true) :
      t.fld g = f.fld g := by
    rw [← ht]
    split
    · exact fld_raise_apart _ _ _ _ hg hs hf
    · rfl
  have hpos : t.pos = a.pos := by
    rw [← ht]
    split
    · exact raise_pos _ _ hf
    · rfl
  refine ⟨?_, ?_, ?_, ?_, k⟩
  · rw [hpos]
    rfl
  · rw [hstart _ rfl rfl]
    refine (fld_put_apart _ _ _ _ _ rfl he).trans ((fld_put_apart _ _ _ _ _ rfl hd).trans ?_)
    refine (fld_put_apart _ _ _ _ _ rfl hb).trans ((fld_put_same _ _ _ (by decide) ha).trans ?_)
    cases back <;> rfl
  · rw [hstart _ rfl rfl]
    refine (fld_put_apart _ _ _ _ _ rfl he).trans ((fld_put_apart _ _ _ _ _ rfl hd).trans ?_)
    exact fld_put_same _ _ _ (by decide) hb
  · rw [hstart _ rfl rfl]
    refine (fld_put_apart _ _ _ _ _ rfl he).trans ((fld_put_apart _ _ _ _ _ rfl hd).trans ?_)
    exact (fld_put_apart _ _ _ _ _ rfl hb).trans (fld_put_apart _ _ _ _ _ rfl ha)

/-- R289, R290: a count that reaches an output changes that output, or is counted as an overflow. -/
theorem emuCount_leaves (k : Nat) (back : Bool) (hc : s.canonical = true) :
    (s.emuCount k back).pos.track = s.pos.track ∧
      (s.emuCount k back).fld F.POS_EVENT_OVERSPEED = s.fld F.POS_EVENT_OVERSPEED ∧
      Keeps (allBut (footOf (.reg .POS_SPEED :: countKept))) s (s.emuCount k back) := by
  refine and_assoc.1 ⟨?_, emuCount_keeps ((Sub.rfl _).mono (by decide +kernel)) (Keeps.rfl _ s)⟩
  unfold State.emuCount
  extract_lets +onlyGivenNames e a x n m r
  have ha : a.canonical = true := hc
  have ho := canonical_count .POS_EMU_OVF_CNT 0 1 ha
  split
  · exact ⟨(congrArg Pos.track (raise_pos _ _ ho)).trans rfl,
      (fld_raise_apart _ _ _ _ rfl rfl ho).trans (fld_count _ _ _ _ _ (by decide) ha)⟩
  · exact ⟨rfl, rfl⟩

/-- R286, R289: a count of ENC0 as the speed and both outputs take it. -/
def State.countShown (s : State) (back : Bool) : State := ((s.speedCount back).emuCount 0 back).emuCount 1 back

theorem countShown_leaves (back : Bool) (hc : s.canonical = true) :
    (s.countShown back).pos.track = s.pos.track ∧ (s.countShown back).fld F.POS_SPEED_DIR = b2n back ∧
      (s.countShown back).fld F.POS_SPEED_STOPPED = 0 ∧
      (s.countShown back).fld F.POS_EVENT_OVERSPEED = s.fld F.POS_EVENT_OVERSPEED ∧
      Keeps (allBut (footOf countKept)) s (s.countShown back) := by
  obtain ⟨hp, hdir, hstop, hover, k⟩ := speedCount_leaves back hc
  have hc1 := k.canonical hc
  obtain ⟨hp0, hover0, k0⟩ := emuCount_leaves 0 back hc1
  have hc0 := k0.canonical hc1
  obtain ⟨hp1, hover1, k1⟩ := emuCount_leaves 1 back hc0
  have hspeed (f : Fld) (hr : f.reg = .POS_SPEED) : (s.countShown back).fld f = (s.speedCount back).fld f :=
    (k1.fld hc0 f 0 (by rw [hr]; decide +kernel)).trans (k0.fld hc1 f 0 (by rw [hr]; decide +kernel))
  exact ⟨hp1.trans (hp0.trans hp), (hspeed _ rfl).trans hdir, (hspeed _ rfl).trans hstop,
    hover1.trans (hover0.trans hover), k.trans ((k0.trans k1).mono (by unfold Sub; decide +kernel))⟩

/-! ### The position (R270, R279) -/

/-- What the move of a count leaves alone. -/
def moveKept : List Part :=
  [.clk, .glbTrans, .reg .GLB_MODE, .reg .POS_CTRL, .reg .POS_PITCH, .reg .POS_CUE_MIN, .reg .POS_SKIP_CNT]

/-- P after a count. -/
def State.countP (s : State) (back : Bool) : BitVec 72 :=
  if back then s.pos.p - BitVec.ofNat 72 s.posScale else s.pos.p + BitVec.ofNat 72 s.posScale

theorem moveCount_leaves (back : Bool) (hc : s.canonical = true) :
    (∃ r, (s.moveCount back).pos = { s.pos with
        c := if back then s.pos.c - 1 else s.pos.c + 1, p := s.countP back, h := later (s.countP back) s.pos.h, revRaised := r }) ∧
      Keeps (allBut (footOf moveKept)) s (s.moveCount back) := by
  refine ⟨?_, moveCount_keeps ((Sub.rfl _).mono (by decide +kernel)) (Keeps.rfl _ s)⟩
  unfold State.moveCount
  extract_lets +onlyGivenNames p sc c pp h far raised a
  have ha : a.canonical = true := hc
  refine ⟨raised || far, ?_⟩
  split
  · rw [raise_pos _ _ (canonical_count _ _ _ ha)]
    rfl
  · rfl

/-! ### Cue points (R275 to R277) -/

/-- Where Q lies after a cue point. -/
def State.nextQ (s : State) : BitVec 72 := s.pos.q + BitVec.ofNat 72 (s.pitchY * 65536)

theorem cuePoint_cues (hon : s.cuesOn = true)
    (hl : ∀ t0, s.pos.lastCue = some t0 → t0 + s.fld F.POS_CUE_MIN_CUE_MIN ≤ s.clk) :
    s.cuePoint = ({ s.issueCue with pos := { s.issueCue.pos with q := s.nextQ } }, true) := by
  unfold State.cuePoint
  extract_lets +onlyGivenNames soon next p r
  have hsoon : soon = false := by
    cases h : s.pos.lastCue with
    | none => simp [soon, h]
    | some t0 => simpa [soon, h] using hl t0 h
  have hr : r = (s.issueCue, true) := by simp [r, hon, hsoon]
  rw [hr]
  rfl

/-- R277: a cue point that is skipped, too soon after the last cue. -/
def State.cueSkipped (s : State) : State :=
  let t := { s with pos := { s.pos with skipped := true } }
  let u := (t.count .POS_SKIP_CNT).raise F.POS_EVENT_OVERSPEED
  { u with pos := { u.pos with q := s.nextQ } }

theorem cuePoint_skips {t0 : Nat} (hon : s.cuesOn = true) (hl : s.pos.lastCue = some t0)
    (hsoon : s.clk < t0 + s.fld F.POS_CUE_MIN_CUE_MIN) : s.cuePoint = (s.cueSkipped, false) := by
  unfold State.cuePoint
  extract_lets +onlyGivenNames soon next p r
  have hs : soon = true := by simp [soon, hl, hsoon]
  rw [show r = _ from (if_pos hon).trans (if_pos hs)]
  rfl

theorem cueSkipped_leaves (hc : s.canonical = true) : s.cueSkipped.canonical = true ∧
    s.cueSkipped.pos = { s.pos with skipped := true, q := s.nextQ } ∧ Counted s s.cueSkipped .POS_SKIP_CNT ∧
    s.cueSkipped.fld F.POS_EVENT_OVERSPEED = 1 := by
  unfold State.cueSkipped
  extract_lets +onlyGivenNames p t u
  have ht : t.canonical = true := hc
  have h1 := canonical_count .POS_SKIP_CNT 0 1 ht
  have hpos : u.pos = { s.pos with skipped := true } := raise_pos F.POS_EVENT_OVERSPEED 0 h1
  refine ⟨canonical_raise _ _ h1, ?_, ?_, fld_raise_same _ _ rfl (by decide) rfl h1⟩
  · dsimp only
    rw [hpos]
  · exact (rd_raise_other _ _ _ _ rfl (by decide) h1).trans (rd_count_same _ _ _ ht)

/-! ### A cue (R13, R14, R273, R278) -/

/-- What the spans that a cue bounds leave alone: P and the clock. -/
structure SpansOnly (s t : State) : Prop where
  canonical : t.canonical = true
  p : t.pos.p = s.pos.p
  clk : t.clk = s.clk

theorem SpansOnly.ite {c : Prop} [Decidable c] {a b : State} (ha : SpansOnly s a) (hb : SpansOnly s b) :
    SpansOnly s (if c then a else b) := by
  split
  · exact ha
  · exact hb

theorem SpansOnly.closeSkip (h : SpansOnly s t) : SpansOnly s t.closeSkip := by
  have k : Keeps (allBut (footOf [.clk])) t t.closeSkip := closeSkip_keeps ((Sub.rfl _).mono (by decide +kernel)) (Keeps.rfl _ t)
  exact ⟨k.canonical h.canonical, (congrArg Pos.p (closeSkip_pos h.canonical)).trans h.p,
    (k.part h.canonical .clk (by decide +kernel)).trans h.clk⟩

theorem SpansOnly.uncertainOver (h : SpansOnly s t) : SpansOnly s t.uncertainOver :=
  ⟨canonical_put _ _ _ h.canonical, h.p, h.clk⟩

theorem SpansOnly.closeUncertain {bound : LineNo} {y : YPos} (h : SpansOnly s t) : SpansOnly s (t.closeUncertain bound y) := by
  unfold State.closeUncertain
  split
  · exact h
  · next x hx =>
    have k := gapAllRun_offPos (s := t) .posUncertain x.1 (bound - 1) x.2 (y - 1)
    have hg : SpansOnly s (t.gapAllRun .posUncertain x.1 (bound - 1) x.2 (y - 1)) :=
      ⟨k.canonical h.canonical, (congrArg Pos.p (k.samePos h.canonical)).trans h.p,
        (k.part h.canonical .clk offPos_clk).trans h.clk⟩
    exact SpansOnly.ite hg.uncertainOver ⟨hg.canonical, hg.p, hg.clk⟩

theorem issueCue_leaves (hc : s.canonical = true) : s.issueCue.canonical = true ∧ s.issueCue.pos.p = s.pos.p ∧
    s.issueCue.pos.nextLine = s.pos.nextLine + 1 ∧ s.issueCue.pos.lastCue = some s.clk ∧
    s.issueCue.getPair .POS_LINE_L .POS_LINE_H = s.pos.nextLine.toNat ∧
    s.issueCue.rd .POS_SKIP_CNT = s.rd .POS_SKIP_CNT := by
  have k : Keeps (allBut (footOf [.reg .POS_SKIP_CNT])) s s.issueCue :=
    issueCue_keeps ((Sub.rfl _).mono (by decide +kernel)) (Keeps.rfl _ s)
  have hskip := k.rd hc .POS_SKIP_CNT 0 (by decide +kernel)
  have hcan := k.canonical hc
  clear k
  generalize ht : s.issueCue = t at hskip hcan ⊢
  unfold State.issueCue at ht
  extract_lets +onlyGivenNames p n y prevRevs phases prevPh revs yNext tag boundary a b x d e g h i j k at ht
  have ha : SpansOnly s a := by
    subst a
    split
    · exact ⟨hc, rfl, rfl⟩
    · exact ⟨hc, rfl, rfl⟩
    · exact SpansOnly.closeSkip ⟨hc, rfl, rfl⟩
    · exact ⟨hc, rfl, rfl⟩
  have hb : SpansOnly s b := ha.closeSkip.ite ha
  have hd : SpansOnly s d := .ite (hb.uncertainOver.ite ⟨hb.canonical, hb.p, hb.clk⟩) hb
  have he : SpansOnly s e := hd.closeUncertain.ite hd
  have hcue : h.canonical = true ∧ h.pos.p = s.pos.p ∧ h.pos.nextLine = s.pos.nextLine + 1 ∧ h.pos.lastCue = some s.clk :=
    ⟨he.canonical, he.p, rfl, congrArg some he.clk⟩
  clear_value e h
  obtain ⟨hh, hp, hnext, hlast⟩ := hcue
  have hi : i.canonical = true := canonical_wr _ _ _ (canonical_wr _ _ _ hh)
  have kj : Keeps (allBut (footOf [.pos, .reg .POS_LINE_L, .reg .POS_LINE_H])) i j :=
    countCue_keeps ((Sub.rfl _).mono (by decide +kernel)) (Keeps.rfl _ i)
  have hj := kj.canonical hi
  have kt : Keeps offPos j t := ht ▸ keeps_ite ((fire_offPos _).trans (fire_offPos _)) (fire_offPos _)
  have hpos : t.pos = h.pos := (kt.samePos hj).trans (kj.part hi .pos (by decide +kernel))
  refine ⟨hcan, ?_, ?_, ?_, ?_, hskip⟩
  · rw [hpos, hp]
  · rw [hpos, hnext]
  · rw [hpos, hlast]
  · refine Eq.trans ?_ (getPair_setPair (s := h) (lo := .POS_LINE_L) (hi := .POS_LINE_H) (i := 0) (w := 8) (by decide)
      s.pos.nextLine.isLt (by decide) hh)
    unfold State.getPair
    rw [kt.posRd hj 0 (by decide), kt.posRd hj 0 (by decide), kj.rd hi _ _ (by decide +kernel), kj.rd hi _ _ (by decide +kernel)]

/-! ### A valid transition (R267, R270) -/

/-- R267, R270: a count of ENC0 has come with levels `a` and `b`, and the position has moved. -/
def State.counted (s : State) (a b back : Bool) : State := (s.setEnch 0 { s.ench 0 with a := a, b := b }).moveCount back

theorem counted_pos (a b back : Bool) (hc : s.canonical = true) : ∃ r, (s.counted a b back).pos = { s.pos with
    chans := s.pos.chans.set 0 { s.ench 0 with a := a, b := b }
    c := if back then s.pos.c - 1 else s.pos.c + 1
    p := s.countP back
    h := later (s.countP back) s.pos.h
    revRaised := r } :=
  (moveCount_leaves (s := s.setEnch 0 { s.ench 0 with a := a, b := b }) back hc).1

theorem counted_keeps (a b back : Bool) (hc : s.canonical = true) :
    Keeps (allBut (footOf moveKept)) s (s.counted a b back) :=
  (setEnch_keeps ((Sub.rfl _).mono (by decide +kernel)) (Keeps.rfl _ s)).trans
    (moveCount_leaves (s := s.setEnch 0 { s.ench 0 with a := a, b := b }) back hc).2

theorem Keeps.cuesOn (k : Keeps (allBut (footOf moveKept)) s t) (hc : s.canonical = true) : t.cuesOn = s.cuesOn := by
  have hmode : t.mode = s.mode := mode_eq (k.fld hc _ _ (by decide +kernel))
  have htrans : t.glb.trans = s.glb.trans := k.part hc .glbTrans (by decide +kernel)
  unfold State.cuesOn State.inspecting
  rw [hmode, htrans, k.bit hc _ _ (by decide +kernel)]

/-- R275: the count's own move does not touch the cue points. -/
theorem counted_cues (a b back : Bool) (hc : s.canonical = true) :
    sdiff (s.counted a b back).pos.p (s.counted a b back).pos.q = sdiff (s.countP back) s.pos.q ∧
      (s.counted a b back).cuesOn = s.cuesOn ∧ (s.counted a b back).pos.lastCue = s.pos.lastCue ∧
      (s.counted a b back).clk = s.clk ∧
      (s.counted a b back).fld F.POS_CUE_MIN_CUE_MIN = s.fld F.POS_CUE_MIN_CUE_MIN := by
  obtain ⟨r, hpos⟩ := counted_pos a b back hc
  have k := counted_keeps a b back hc
  exact ⟨by rw [hpos], k.cuesOn hc, by rw [hpos], k.part hc .clk (by decide +kernel), k.fld hc _ _ (by decide +kernel)⟩

theorem nextQ_congr (hq : t.pos.q = s.pos.q) (hf : t.fld F.POS_PITCH_PITCH = s.fld F.POS_PITCH_PITCH) : t.nextQ = s.nextQ := by
  unfold State.nextQ State.pitchY
  rw [hq, hf]

/-- R270: before the next cue point a count moves the position alone, and at it the cue point acts. -/
theorem masterCount_before {back : Bool} (h : sdiff (s.moveCount back).pos.p (s.moveCount back).pos.q < 0) :
    s.masterCount back = ((s.moveCount back).countShown back, false) := by
  unfold State.masterCount
  extract_lets +onlyGivenNames v r w
  have hr : r = (v, false) := if_neg (by simpa using h)
  rw [show w = r.1.speedCount back from rfl, hr]
  rfl

theorem masterCount_at {back cue : Bool} {v : State} (h : 0 ≤ sdiff (s.moveCount back).pos.p (s.moveCount back).pos.q)
    (hv : (s.moveCount back).cuePoint = (v, cue)) : s.masterCount back = (v.countShown back, cue) := by
  unfold State.masterCount
  extract_lets +onlyGivenNames m r w
  have hr : r = (v, cue) := (if_pos (decide_eq_true h)).trans hv
  rw [show w = r.1.speedCount back from rfl, hr]
  rfl

section Counts

variable {dt : Nat} {sa sb : BitVec 4} {a b : Bool} (hu : u = s.advance dt) (hp : u.posOn = true) (hm : u.chMode 0 = 1)
  (ha : a = filter3of4 (u.ench 0).a sa) (hb : b = filter3of4 (u.ench 0).b sb)
include hu hp hm ha hb

/-- R267: a valid transition of ENC0 is a count of the master; a cue that it gives goes to the ports. -/
theorem execEnc0Count_counts {back cue : Bool} {v : State}
    (hq : quadDecode (u.bit F.POS_CHCFG_DIR 0) (u.ench 0).a (u.ench 0).b a b = .count back)
    (hv : (u.setEnch 0 { u.ench 0 with a := a, b := b }).masterCount back = (v, cue)) :
    execEnc0Count dt sa sb s = .next (if cue then v.cueToPorts else v) := by
  subst hu ha hb
  unfold execEnc0Count
  extract_lets +onlyGivenNames u ch a b
  rw [if_neg (by simp [show u.posOn = true from hp]), if_pos (by simp [show u.chMode 0 = 1 from hm]),
    show quadDecode (u.bit F.POS_CHCFG_DIR 0) ch.a ch.b a b = .count back from hq]
  dsimp only
  rw [show (u.setEnch 0 { ch with a := a, b := b }).masterCount back = (v, cue) from hv]

theorem execEnc0Count_uncued {back : Bool} {v : State}
    (hq : quadDecode (u.bit F.POS_CHCFG_DIR 0) (u.ench 0).a (u.ench 0).b a b = .count back)
    (hv : (u.setEnch 0 { u.ench 0 with a := a, b := b }).masterCount back = (v, false)) :
    execEnc0Count dt sa sb s = .next v :=
  (execEnc0Count_counts hu hp hm ha hb hq hv).trans (congrArg Host.Outcome.next (if_neg Bool.false_ne_true))

theorem execEnc0Count_cued {back : Bool} {v : State}
    (hq : quadDecode (u.bit F.POS_CHCFG_DIR 0) (u.ench 0).a (u.ench 0).b a b = .count back)
    (hv : (u.setEnch 0 { u.ench 0 with a := a, b := b }).masterCount back = (v, true)) :
    execEnc0Count dt sa sb s = .next v.cueToPorts :=
  (execEnc0Count_counts hu hp hm ha hb hq hv).trans (congrArg Host.Outcome.next (if_pos rfl))

/-- R269: an illegal transition is noted, and enters an encoder fault when it is the third within 1,024 samples. -/
theorem execEnc0Count_illegal
    (hq : quadDecode (u.bit F.POS_CHCFG_DIR 0) (u.ench 0).a (u.ench 0).b a b = .illegal) :
    execEnc0Count dt sa sb s = .next (if threeIllegal ((u.noteIllegal 0 a b).ench 0).illegal
      then (u.noteIllegal 0 a b).encFaultEntry 1
      else { u.noteIllegal 0 a b with pos := { (u.noteIllegal 0 a b).pos with clean := false } }) := by
  subst hu ha hb
  unfold execEnc0Count
  extract_lets +onlyGivenNames u ch a b
  rw [if_neg (by simp [show u.posOn = true from hp]), if_pos (by simp [show u.chMode 0 = 1 from hm]),
    show quadDecode (u.bit F.POS_CHCFG_DIR 0) ch.a ch.b a b = .illegal from hq]

end Counts

theorem quadDecode_same (dir a b : Bool) : quadDecode dir a b a b = .same := by
  simp [quadDecode]

theorem execEnc0Count_same {dt : Nat} {sa sb : BitVec 4} (hu : u = s.advance dt) (hp : u.posOn = true) (hm : u.chMode 0 = 1)
    (ha : filter3of4 (u.ench 0).a sa = (u.ench 0).a) (hb : filter3of4 (u.ench 0).b sb = (u.ench 0).b) :
    execEnc0Count dt sa sb s = .next u := by
  subst hu
  unfold execEnc0Count
  extract_lets +onlyGivenNames u ch a b
  rw [if_neg (by simp [show u.posOn = true from hp]), if_pos (by simp [show u.chMode 0 = 1 from hm]),
    show a = ch.a from ha, show b = ch.b from hb, quadDecode_same]

/-! ### What each count leaves -/

/-- R276: a count before the next cue point. -/
theorem countBefore_leaves (a b back : Bool) (hc : u.canonical = true) (ht : t = (u.counted a b back).countShown back) :
    t.clk = u.clk ∧ t.pos.c = (if back then u.pos.c - 1 else u.pos.c + 1) ∧ t.pos.p = u.countP back ∧
      t.pos.h = later (u.countP back) u.pos.h ∧ t.pos.q = u.pos.q ∧ t.pos.nextLine = u.pos.nextLine ∧
      t.rd .POS_SKIP_CNT = u.rd .POS_SKIP_CNT ∧ t.pos.chans = u.pos.chans.set 0 { u.ench 0 with a := a, b := b } ∧
      t.fld F.POS_SPEED_DIR = b2n back ∧ t.fld F.POS_SPEED_STOPPED = 0 := by
  subst ht
  obtain ⟨r, hpos⟩ := counted_pos a b back hc
  have k := counted_keeps a b back hc
  have hcc := k.canonical hc
  obtain ⟨htrack, hdir, hstop, -, kt⟩ := countShown_leaves back hcc
  obtain ⟨htc, htp, hth, htq, htn, htch, -⟩ := Pos.of_track htrack
  rw [hpos] at htc htp hth htq htn htch
  exact ⟨(kt.part hcc .clk (by decide +kernel)).trans (k.part hc .clk (by decide +kernel)), htc, htp, hth, htq, htn,
    (kt.rd hcc _ _ (by decide +kernel)).trans (k.rd hc _ _ (by decide +kernel)), htch, hdir, hstop⟩

/-- R277: a count at a cue point that is skipped. -/
theorem countSkipped_leaves (a b back : Bool) (hc : u.canonical = true)
    (ht : t = (u.counted a b back).cueSkipped.countShown back) :
    t.pos.p = u.countP back ∧ t.pos.q = u.nextQ ∧ t.pos.nextLine = u.pos.nextLine ∧ Counted u t .POS_SKIP_CNT ∧
      t.fld F.POS_EVENT_OVERSPEED = 1 := by
  subst ht
  obtain ⟨r, hpos⟩ := counted_pos a b back hc
  have k := counted_keeps a b back hc
  have hcc := k.canonical hc
  obtain ⟨hsc, hspos, hcnt, hover⟩ := cueSkipped_leaves hcc
  obtain ⟨htrack, -, -, hev, kt⟩ := countShown_leaves back hsc
  have hq : (u.counted a b back).nextQ = u.nextQ := nextQ_congr (by rw [hpos]) (k.fld hc _ _ (by decide +kernel))
  obtain ⟨-, htp, -, htq, htn, -, -⟩ := Pos.of_track htrack
  rw [hspos] at htp htq htn
  refine ⟨htp.trans (by rw [hpos]), htq.trans hq, htn.trans (by rw [hpos]), ?_, hev.trans hover⟩
  unfold Counted at hcnt ⊢
  rw [kt.rd hsc _ _ (by decide +kernel), hcnt, k.rd hc _ _ (by decide +kernel)]

/-- R275: a count at a cue point that gives the next line. -/
theorem countCued_leaves (a b back : Bool) {v : State} (hc : u.canonical = true)
    (hv : v = { (u.counted a b back).issueCue with pos :=
      { (u.counted a b back).issueCue.pos with q := (u.counted a b back).nextQ } })
    (ht : t = (v.countShown back).cueToPorts) :
    t.pos.p = u.countP back ∧ t.pos.q = u.nextQ ∧ t.pos.nextLine = u.pos.nextLine + 1 ∧
      t.getPair .POS_LINE_L .POS_LINE_H = u.pos.nextLine.toNat ∧ t.pos.lastCue = some u.clk ∧
      t.rd .POS_SKIP_CNT = u.rd .POS_SKIP_CNT := by
  obtain ⟨r, hpos⟩ := counted_pos a b back hc
  have k := counted_keeps a b back hc
  have hcc := k.canonical hc
  have hq : (u.counted a b back).nextQ = u.nextQ := nextQ_congr (by rw [hpos]) (k.fld hc _ _ (by decide +kernel))
  have hclk : (u.counted a b back).clk = u.clk := k.part hc .clk (by decide +kernel)
  have hcnt := k.rd hc .POS_SKIP_CNT 0 (by decide +kernel)
  obtain ⟨hic, hip, hnext, hlast, hline, hskip⟩ := issueCue_leaves hcc
  rw [hq] at hv
  rw [hclk] at hlast
  rw [hpos] at hip hnext hline
  rw [hcnt] at hskip
  generalize (u.counted a b back).issueCue = w at hv hic hip hnext hlast hline hskip
  have hvc : v.canonical = true := by rw [hv]; exact hic
  obtain ⟨htrack, -, -, -, kt⟩ := countShown_leaves back hvc
  obtain ⟨-, htp, -, htq, htn, -, htl⟩ := Pos.of_track htrack
  rw [hv] at htp htq htn htl
  have htc := kt.canonical hvc
  have kp : Keeps offPos (v.countShown back) t := by rw [ht]; exact cueToPorts_offPos
  have hrd {r : Reg} (hr : r ∈ regsPOS) (hm : (allBut (footOf countKept)).testBit r.part = false) : t.rd r = w.rd r :=
    (kp.posRd htc 0 hr).trans ((kt.rd hvc r 0 hm).trans (by rw [hv]; rfl))
  rw [kp.samePos htc, hv]
  refine ⟨htp.trans hip, htq, htn.trans hnext, ?_, htl.trans hlast, ?_⟩
  · unfold State.getPair at hline ⊢
    rw [hrd (by decide) (by decide +kernel), hrd (by decide) (by decide +kernel), hline]
  · rw [hrd (by decide) (by decide +kernel), hskip]

/-- R272: the entry of an encoder fault leaves the position, and the counts of illegal transitions. -/
theorem encFaultEntry_position (detail : Nat) (hc : s.canonical = true) :
    (s.encFaultEntry detail).pos.c = s.pos.c ∧ (s.encFaultEntry detail).pos.p = s.pos.p ∧
      (s.encFaultEntry detail).pos.q = s.pos.q ∧ (s.encFaultEntry detail).rd .POS_QERR_CNT = s.rd .POS_QERR_CNT := by
  have k : Keeps (allBut (footOf [.reg .POS_QERR_CNT])) s (s.encFaultEntry detail) :=
    encFaultEntry_keeps ((Sub.rfl _).mono (by decide +kernel)) (Keeps.rfl _ s)
  have hq := k.rd hc .POS_QERR_CNT 0 (by decide +kernel)
  clear k
  generalize ht : s.encFaultEntry detail = t at hq ⊢
  unfold State.encFaultEntry at ht
  split at ht
  · subst ht
    exact ⟨rfl, rfl, rfl, hq⟩
  · extract_lets +onlyGivenNames v w x p y at ht
    have h1 := canonical_put F.POS_STATUS_ZREFD 0 0 (canonical_put F.POS_STATUS_ENC_FAULT 0 1 hc)
    have hw : w.canonical = true := canonical_count _ _ _ (canonical_raise F.POS_EVENT_ENC_FAULT 0 h1)
    have hy : y.canonical = true := canonical_put F.POS_STATUS_UNCERTAIN 0 1 hw
    have hpos : w.pos = s.pos := raise_pos F.POS_EVENT_ENC_FAULT 0 h1
    have hyw : y.pos.c = w.pos.c ∧ y.pos.p = w.pos.p ∧ y.pos.q = w.pos.q := ⟨rfl, rfl, rfl⟩
    rw [hpos] at hyw
    obtain ⟨hyc, hyp, hyq⟩ := hyw
    have htpos : t.pos = y.pos := by
      rw [← ht]
      exact (fault_offPos _ _ _ _).samePos hy
    rw [htpos]
    exact ⟨hyc, hyp, hyq, hq⟩

/-- R269: an illegal transition moves nothing and is counted. -/
theorem noteIllegal_leaves (a b : Bool) (hc : s.canonical = true) (ht : t = if threeIllegal ((s.noteIllegal 0 a b).ench 0).illegal
      then (s.noteIllegal 0 a b).encFaultEntry 1
      else { s.noteIllegal 0 a b with pos := { (s.noteIllegal 0 a b).pos with clean := false } }) :
    t.pos.c = s.pos.c ∧ t.pos.p = s.pos.p ∧ t.pos.q = s.pos.q ∧ Counted s t .POS_QERR_CNT := by
  have hn : (s.noteIllegal 0 a b).canonical = true := canonical_count .POS_QERR_CNT 0 1 hc
  have hcnt : Counted s (s.noteIllegal 0 a b) .POS_QERR_CNT := rd_count_same (s := s.setEnch 0 _) _ _ _ hc
  subst ht
  split
  · obtain ⟨hec, hep, heq, hcnt'⟩ := encFaultEntry_position 1 hn
    exact ⟨hec, hep, heq, hcnt'.trans hcnt⟩
  · exact ⟨rfl, rfl, rfl, hcnt⟩

/-! ### The obligation -/

/-- Settles O31: a valid transition moves the position, and its cue point is passed by, cued or skipped; an illegal one is
counted and moves nothing. -/
theorem webPosition : Obligations.WebPosition := by
  unfold Obligations.WebPosition
  refine ⟨?before, ?cued, ?skipped, ?illegal, ?same, ?off⟩
  case before =>
    intro s u dt sa sb a b back p hc hu hp hm ha hb hq hP hlt
    have huc : u.canonical = true := hu ▸ canonical_advance dt hc
    obtain rfl : p = u.countP back := hP
    obtain ⟨hpoint, -⟩ := counted_cues a b back huc
    obtain ⟨hclk, hrest⟩ := countBefore_leaves a b back huc rfl
    refine ⟨_, execEnc0Count_uncued hu hp hm ha hb hq (masterCount_before (lt_of_eq_of_lt hpoint hlt)), hclk.trans ?_, hrest⟩
    rw [hu, clk_advance dt hc]
  case cued =>
    intro s u dt sa sb a b back p hc hu hp hm ha hb hq hP hle hon hlast
    have huc : u.canonical = true := hu ▸ canonical_advance dt hc
    obtain rfl : p = u.countP back := hP
    obtain ⟨hpoint, hcues, hlc, hclk, hmin⟩ := counted_cues a b back huc
    have hcue := cuePoint_cues (hcues.trans hon) (by rw [hlc, hclk, hmin]; exact hlast)
    obtain ⟨hpt, hqt, hnext, hline, hlt, hskip⟩ := countCued_leaves a b back huc rfl rfl
    refine ⟨_, execEnc0Count_cued hu hp hm ha hb hq (masterCount_at (le_of_le_of_eq hle hpoint.symm) hcue), hpt, hqt, hnext, hline,
      hlt.trans ?_, hskip⟩
    rw [hu, clk_advance dt hc]
  case skipped =>
    intro s u dt sa sb a b back p t0 hc hu hp hm ha hb hq hP hle hon hlast hsoon
    have huc : u.canonical = true := hu ▸ canonical_advance dt hc
    obtain rfl : p = u.countP back := hP
    obtain ⟨hpoint, hcues, hlc, hclk, hmin⟩ := counted_cues a b back huc
    have hskip := cuePoint_skips (hcues.trans hon) (hlc.trans hlast) (by rw [hclk, hmin]; exact hsoon)
    exact ⟨_, execEnc0Count_uncued hu hp hm ha hb hq (masterCount_at (le_of_le_of_eq hle hpoint.symm) hskip),
      countSkipped_leaves a b back huc rfl⟩
  case illegal =>
    intro s u dt sa sb a b hc hu hp hm ha hb hq
    exact ⟨_, execEnc0Count_illegal hu hp hm ha hb hq, noteIllegal_leaves a b (hu ▸ canonical_advance dt hc) rfl⟩
  case same => exact fun s u dt sa sb hu hp hm ha hb => ⟨u, execEnc0Count_same hu hp hm ha hb, rfl⟩
  case off =>
    intro s u dt sa sb hu hp
    subst hu
    exact ⟨_, if_pos (by simp [hp]), rfl⟩

end Sys2Proof.Machine
end
